-- ==== Sys2Proof/Word.lean ====
section
/-! DEFINITION. The word types of the block and the shape of a register field (spec file 00_scope.md,
"Conventions": registers are 32 bits wide and little-endian). -/

namespace Sys2Proof

/-- One register of the block (32 bits, 00_scope.md "Conventions"). -/
abbrev Word := BitVec 32

/-- One byte of a memory, a command entry or a reply. -/
abbrev Byte := BitVec 8

/-- A register field: the BAR0 byte offset of its register, its lowest bit and its width. -/
structure Fld where
  off : Nat
  lsb : Nat
  w   : Nat
  deriving DecidableEq, Repr

/-- The all-ones mask of the lowest `n` bits of a word. -/
def Word.low (n : Nat) : Word := BitVec.ofNat 32 (2 ^ n - 1)

/-- The value of the field `lsb`, `w` of a word. -/
def Word.field (v : Word) (lsb w : Nat) : Nat := v.toNat / 2 ^ lsb % 2 ^ w

/-- A word with its field `lsb`, `w` replaced by the lowest `w` bits of `x`. -/
def Word.putField (v : Word) (lsb w x : Nat) : Word :=
  BitVec.ofNat 32 (v.toNat % 2 ^ lsb + 2 ^ lsb * (x % 2 ^ w) + 2 ^ (lsb + w) * (v.toNat / 2 ^ (lsb + w)))

/-- Two's complement reading of the lowest `w` bits of a number. -/
def signed (w n : Nat) : Int :=
  if n % 2 ^ w < 2 ^ (w - 1) then (n % 2 ^ w : Nat) else ((n % 2 ^ w : Nat) : Int) - (2 ^ w : Nat)

/-- Two's complement of an integer in `w` bits. -/
def unsigned (w : Nat) (x : Int) : Nat := (x % (2 ^ w : Nat)).toNat

/-- Whole division rounded up. -/
def ceilDiv (a b : Nat) : Nat := (a + b - 1) / b

end Sys2Proof
end

