-- ==== Sys2Proof/Syntax.lean ====
section
/-! DEFINITION. The commands of the block, whole: one constructor of `Instr` per row of spec/opcode_table.json,
with the row's operands. A command a host sends carries its submission header and its parameter bytes (R97); an
event of the outside carries what the outside shows the device; an engine slot operation carries its encoding's
fields. -/

namespace Sys2Proof

/-- How a command reached the device: ring `n` with its reserved CQ slot and the PHASE its reply carries (R103,
R104), the SPI target (R108), or the mesh from device `src` (R111). -/
inductive Via where
  | ring (n slot : Nat) (phase : Bool)
  | spi
  | mesh (src : Nat)
  deriving DecidableEq, Repr

/-- The header of a submission entry (R97) and the transport that carried it. `carried` are the bytes of the
parameter's structures a forwarding device sent along (R111); empty on rings and SPI. -/
structure Hdr where
  via     : Via
  seq     : Word
  flags   : BitVec 16
  target  : BitVec 16
  carried : List (Nat × Byte)
  /-- Receipt time in ns of device time (R115). -/
  ns      : Nat := 0
  deriving DecidableEq, Repr

/-- FLAGS bits of a submission entry (R99). -/
def Hdr.irq (h : Hdr) : Bool := h.flags.getLsbD 0
def Hdr.allowHold (h : Hdr) : Bool := h.flags.getLsbD 1
def Hdr.twinApply (h : Hdr) : Bool := h.flags.getLsbD 3
def Hdr.dryRun (h : Hdr) : Bool := h.flags.getLsbD 4
def Hdr.hwPath (h : Hdr) : Bool := h.flags.getLsbD 15

/-- The order of the transports at equal receipt times: ring 0, rings 1–3, SPI, then forwarding by source mesh ID (R115). -/
def Hdr.rank (h : Hdr) : Nat :=
  match h.via with | .ring n _ _ => n | .spi => 4 | .mesh src => 5 + src

/-- Is a buffer of `n` bytes at `a` outside what SPI can name (R110)? -/
def Hdr.spiBad (h : Hdr) (a n : Nat) : Bool :=
  match h.via with
  | .spi => decide (0x10000 < a + n)
  | _ => false

/-- A block the tick tree taps: tile, engine cluster, memory controller or port (R44). -/
inductive Tap where
  | tile (t : Nat) | cluster (c : Nat) | mc (m : Nat) | port (p : Nat)
  deriving DecidableEq, Repr

/-- What a tap received up to a TICK: SLOT strobes since the last TICK, tick bits, and whether parity holds (R44, R45). -/
structure TapRx where
  tap     : Tap
  strobes : Nat
  bits    : Nat
  parity  : Bool := true
  deriving DecidableEq, Repr

/-- What the outside shows the device at a tick boundary: the analog inputs with a valid frame sync in the tick just ended, each
with the device time of a reference edge in ns and its frequency against MCLK in ppb (R25, R26, R30); what taps received,
where it is not what the tree sent (R45); the clocks of fabric ports (R284) and outputs of fabric PLLs (R277) as measured
in kHz; and whether MCLK passed the clock monitor (R29). -/
structure Edge where
  syncs   : List (Nat × Int × Int) := []
  taps    : List TapRx := []
  fports  : List (Nat × Nat) := []
  fplls   : List (Nat × Nat) := []
  mclkOk  : Bool := true
  /-- Bits and errors that lane checkers compared in the tick just ended, by lane (R416). -/
  prbs    : List (Nat × Nat × Nat) := []
  /-- Departure times in ns of device time of the tick's markers, by Dolmet link (R428). -/
  tx      : List (Nat × Nat) := []
  /-- Receiver settings as adaptation has them: lane, CTLE, first DFE tap as its byte, eye (R407). -/
  rxeq    : List (Nat × Nat × Nat × Nat) := []
  /-- TWIN_PEER_OK is high (R438). -/
  peerOk  : Bool := false
  /-- Cluster-memory stall cycles of the tick just ended, by cluster (R223). -/
  stalls  : List (Nat × Nat) := []
  deriving DecidableEq, Repr

/-- A PTP message as the hardware receives it: the fields the slave uses (R23). Times in ns. -/
structure PtpMsg where
  sender  : Nat := 0
  seq     : Nat := 0
  twoStep : Bool := false
  origin  : Nat := 0
  rx      : Nat := 0
  logInt  : Int := -3
  /-- Frequency error of the source against MCLK in ppb, as measured. -/
  ppb     : Int := 0
  domain  : Nat := 127
  deriving DecidableEq, Repr

/-- The domain, sender and sequence number of a further PTP message (R23). -/
structure PtpFrom where
  domain : Nat := 127
  sender : Nat := 0
  seq    : Nat := 0
  deriving DecidableEq, Repr

/-- An Announce as the slave uses it (R23): sender, receipt time in ns, log interval, data set. -/
structure PtpAnn where
  sender  : Nat := 0
  rx      : Nat := 0
  logInt  : Int := 0
  quality : List Nat := []
  deriving DecidableEq, Repr

/-- Which source of its kind: the PTP domain, and the port or link (R43). -/
structure SourceAt where
  domain : Nat := 0
  index  : Nat := 0
  deriving DecidableEq, Repr

/-- An SPI instruction's code (R108), and when it ends, in ns of device time. -/
structure SpiHead where
  inst : Nat := 2
  ns   : Nat := 0
  deriving DecidableEq, Repr

/-- Why a contract is HELD (R54, R74). -/
inductive HoldCause where
  | molt | step | tap | parity | reload | halt
  deriving DecidableEq, Repr

/-- A twin partner's decision on a proposal of the batch: its SEQ, and whether it admits it (R82). -/
structure TwinVote where
  seq : Word
  yes : Bool
  id  : Nat
  deriving DecidableEq, Repr

/-- Does a hold's cause leave late units counted (R74)? -/
def HoldCause.counts : HoldCause → Bool
  | .tap | .parity | .reload => true
  | .molt | .step | .halt => false

/-- An SDI line as the framer sees it: line number, received rate code, payload ID's FORMAT where one is present, the
three checks of R134, where the line begins (slot, ns), first and last line of the frame, second field, and the
ancillary packets of the line by DID, SDID and length. -/
structure SdiLine where
  line  : Nat := 1
  rate  : Nat := 5
  pid   : Option Nat := none
  trsOk : Bool := true
  numOk : Bool := true
  crcOk : Bool := true
  slot  : Nat := 0
  ns    : Nat := 0
  first : Bool := false
  last  : Bool := false
  second : Bool := false
  data  : List Byte := []
  anc   : List (Nat × Nat × List Byte) := []
  deriving DecidableEq, Repr

/-- An ingress packet of a flow: its frame's length, FCS and checksums, VLAN ID if tagged, IP version, addresses and ports, RTP fields
(R138, R147); leg, extended sequence number and arrival in µs; whether it violates the receiver model (R143); the FORMAT seen across the
frame it ends (R160); and its line, the slot and nanoseconds of its stamp, and its payload. -/
structure IpPkt where
  leg     : Nat := 0
  seq     : Nat := 0
  us      : Nat := 0
  size    : Nat := 1500
  fcsOk   : Bool := true
  vlan    : Option Nat := none
  v6      : Bool := false
  dstIp   : Nat := 0
  srcIp   : Nat := 0
  dport   : Nat := 0
  sport   : Nat := 0
  ssrc    : Nat := 0
  pt      : Nat := 96
  nonconf : Bool := false
  fmt     : Nat := 0
  line    : Nat := 1
  slot    : Nat := 0
  ns      : Nat := 0
  first   : Bool := false
  last    : Bool := false
  second  : Bool := false
  data    : List Byte := []
  deriving DecidableEq, Repr

/-- What a module that answers gives (R153): its type, and the ports of its quad whose rate or kind it does not support. -/
structure ModRead where
  ty      : Nat := 0
  bad     : List Nat := []
  deriving DecidableEq, Repr

/-- Of an output unit as its egress sends it (R72, R73): its line; its place in the output raster in ns of device time; the start of its
output frame and that frame's number in the output's cadence (for audio the packet's number); the source entries it depends on, each
with the ingress stamp of the latest input unit that arrived; whether it begins its frame; the RTP timestamp and sequence number of the
packet a ROUTE carries; the ancillary packets delivered for its line. -/
structure UnitBody where
  line    : Nat := 1
  place   : Nat := 0
  frame   : Nat := 0
  frameNo : Nat := 0
  deps    : List (Nat × Option Nat) := []
  first   : Bool := false
  second  : Bool := false
  rtp     : Option (Nat × Nat) := none
  anc     : List (Nat × Nat × List Byte) := []
  deriving DecidableEq, Repr

/-- An output unit whole: with its number, its departure, whether it ends its frame, and its content. -/
structure UnitTx extends UnitBody where
  num     : Nat := 0
  at_     : Nat := 0
  last    : Bool := false
  payload : List Byte := []
  deriving DecidableEq, Repr

/-- A request on a fabric port's memory channel (R286): port, DRAM or register address, length, data of a write, page hint,
CTX and the time it counts from. -/
structure FportReq where
  n     : Nat
  id    : Nat := 0
  addr  : Nat
  len   : Nat := 64
  write : Bool := false
  data  : List Byte := []
  keep  : Bool := false
  ctx   : Nat := 0xFFFF
  ns    : Nat := 0
  deriving DecidableEq, Repr

/-- A line-packet that fabric logic puts on its port's stream channel: header and payload (R151, R283). -/
structure PortPkt where
  line  : Nat := 0
  tick  : Nat := 0
  slot  : Nat := 0
  ns    : Nat := 0
  ctx   : Nat := 0xFFFF
  seg   : Nat := 4
  flags : Nat := 0
  first : Nat := 0
  data  : List Byte := []
  deriving DecidableEq, Repr

/-- A turn of the crossbar: whether the destination, a fabric port, has room, and the line-packet that the source, a fabric port, offers
(R149, R283, R285). -/
structure XbarTurn where
  room  : Bool := true
  offer : Option PortPkt := none
  deriving DecidableEq, Repr

/-- A request of a DRAM port (R325, R327, R328): port, its own number, device address, length, data of a write, CTX (0xFFFF
none), whether it is MAINT traffic, the page hint KEEP_OPEN, and its time of arrival in ns. -/
structure DramReq where
  port  : Nat
  id    : Nat
  addr  : Nat
  len   : Nat
  write : Bool := false
  data  : List Byte := []
  ctx   : Nat := 0xFFFF
  maint : Bool := false
  keep  : Bool := false
  ns    : Nat := 0
  /-- The fabric port that asks, counted from 1; 0 none (R283). -/
  src   : Nat := 0
  deriving DecidableEq, Repr

/-- What start-up finds on one channel (R320, R321): controller, DIMMs, SPD read, supported modules, x8 devices, 32 Gb
devices, two ranks, the highest speed code every DIMM supports at this count (0 none), training of A and B. -/
structure DimmCh where
  m      : Nat
  dimms  : Nat := 1
  spdOk  : Bool := true
  supp   : Bool := true
  x8     : Bool := false
  dens32 : Bool := false
  ranks2 : Bool := false
  speed  : Nat := 3
  trainA : Bool := true
  trainB : Bool := true
  deriving DecidableEq, Repr

/-- A received frame of a MACsec port (R388): port, whether it carries a valid SecTAG, SCI, AN, PN as recovered, whether
its ICV verifies under the SA's key. -/
structure MsFrame where
  port   : Nat
  tagged : Bool := true
  sci    : Nat := 0
  an     : Nat := 0
  pn     : Nat := 0
  icvOk  : Bool := true
  deriving DecidableEq, Repr

/-- What Eclosion finds at its steps 2–5 (R486): fuse words good, MCLK qualified, ROM signature and SRAM BIST good. -/
structure EclEnv where
  fuseOk : Bool := true
  mclkOk : Bool := true
  romOk  : Bool := true
  deriving DecidableEq, Repr

/-- Why every domain but PD00 is held in reset: a supply fault (R455), a thermal trip (R475), an integrity halt (R383),
DBGRST_N low (R527), or the device is off (R456). -/
inductive Hold where
  | none | supply | thermal | integrity | wire | off
  deriving DecidableEq, Repr

/-- A Dolmet frame as a link's receiver sees it (R426): the CRC's and the tag's verdict, the header's fields, and for a
line-packet its line, length, segment and flags (R151). -/
structure DFrame where
  ty    : Nat
  crcOk : Bool := true
  tagOk : Bool := true
  phase : Nat := 0
  fcnt  : Nat := 0
  src   : Nat := 0
  dst   : Nat := 0
  hops  : Nat := 32
  cid   : Nat := 0
  len   : Nat := 0
  data  : List Byte := []
  line  : Nat := 0
  seg   : Nat := 4
  flags : Nat := 0
  deriving DecidableEq, Repr

/-- A tick marker (R427, R428): tick number, INSTAR and digest, lock state, authority, departure t1, arrival t4 of this
device's previous marker, and this marker's arrival t2 (ns). -/
structure Marker where
  num      : Nat := 0
  instar   : Nat := 0
  digest   : Nat := 0
  lock     : Nat := 0
  authDist : Nat := 0xFF
  authId   : Nat := 0
  t1       : Nat := 0
  t2       : Nat := 0
  t4       : Nat := 0
  /-- Frequency of the link against MCLK in ppb, as measured (R30). -/
  ppb      : Int := 0
  deriving DecidableEq, Repr

/-- The end of a lane's bring-up (R408): the lane, and the coefficients that link training left in force on lanes of its owner, as words
of LANE.TXFIR (R406). -/
structure BringUp where
  lane : Nat
  fir  : List (Nat × Nat) := []
  deriving DecidableEq, Repr

/-- A partner's capabilities (R430): revisions (bit 0 1.1, bit 1 2.0), rates (bit 0 10.3125, 1 25.78125, 2 32.0), lane
count code, FEC and encryption policy, whether it holds a link key, mesh ID, profile, role, and stepping; whether it holds
contracts (R447) and whether it has reset since the last exchange (R443). -/
structure Caps where
  revs   : Nat := 3
  rates  : Nat := 7
  lanes  : Nat := 2
  fec    : Bool := false
  enc    : Bool := false
  key    : Bool := false
  id     : Nat := 0
  profile : Nat := 0
  role   : Nat := 1
  step   : Nat := 1
  busy   : Bool := false
  reset  : Bool := false
  deriving DecidableEq, Repr

/-- A DIGEST frame (R434). -/
structure Digest where
  tick   : Nat
  instar : Nat
  st     : Nat
  muted  : Bool
  molt   : Bool
  ecc    : Nat
  image  : Nat
  table  : Nat
  crcs   : List (Nat × Nat × Nat)
  deriving DecidableEq, Repr

/-- What a STATE frame of a rejoin carries (R437): contracts (index, generation, state code, bound, descriptor, twin),
ports and flows in the layouts of R164 and R147, tallies and GPI bindings in those of R197 and R196, preset roles (key,
program, preset, transition), pending takes (index, entry, transition, tick), NO_REVERT contracts, and the activation tick
once named. -/
structure Xfer where
  contracts : List (Nat × Nat × Nat × Nat × List Byte) := []
  ports     : List (Nat × List Byte) := []
  flows     : List (Nat × List Byte) := []
  tallies   : List (List Byte) := []
  binds     : List (List Byte) := []
  roles     : List (Nat × Nat × Nat × Nat) := []
  takes     : List (Nat × Nat × Nat × Nat) := []
  noRevert  : List Nat := []
  act       : Option Nat := none
  deriving DecidableEq, Repr

/-- One engine's state in a rejoin copy (R437): LDM bytes and main-bank registers. -/
structure EngCopy where
  e    : Nat
  ldm  : List Byte := []
  sreg : List Word := []
  vreg : List (BitVec 256) := []
  acc  : List (List Int) := []
  lc0  : Nat := 0
  lc1  : Nat := 0
  bexp : Nat := 63
  sat  : Bool := false
  deriving DecidableEq, Repr


/-- A MAILBOX frame (R441): its source, the mailbox it is for and the one it comes from; an acknowledgement with its code, or a
message with its doorbell bits and words. -/
structure MailFrame where
  src   : Nat
  m     : Nat
  from_ : Nat
  ack   : Bool := false
  x     : Nat := 0
  words : List Nat := []
  deriving DecidableEq, Repr


/-- A debug-wire transaction as its 80 cells give it (R529–R531): header, address, data, CRC; whether the cells keep the limits of
R529; whether the access completes within 100 µs; whether the device finds the wire low in a high phase of its response
(R532). -/
structure DbgFrame where
  hdr     : BitVec 8
  addr    : BitVec 32
  data    : BitVec 32 := 0
  crc     : BitVec 8
  cells   : Bool := true
  late    : Bool := false
  collide : Bool := false
  deriving DecidableEq, Repr

/-- The commands and events of the block (spec/opcode_table.json, row by row). -/
inductive Instr where
  /-- DEV_QUERY (R125): Command that returns the device mode, lock, posture, status flags, contract counts, miss count and tick sampled at one instant. -/
  | devQuery (h : Hdr) (p : List Byte)
  /-- DEV_CAPS (R126): Command that returns CAPS.ID, CAPS.UNITS, CAPS.LANES, the mesh ID, the patch level and the Dolmet revision. -/
  | devCaps (h : Hdr) (p : List Byte)
  /-- DEV_RESET (R497): Command that replies and starts a warm reset 100 µs later, optionally with ABORT, CLEAR_ATTEMPTS or FORCE. -/
  | devReset (h : Hdr) (p : List Byte)
  /-- FAULT_READ (R367): Command that writes the fault records, newest first, to a buffer. -/
  | faultRead (h : Hdr) (p : List Byte)
  /-- FAULT_CLEAR (R368): Command that clears LEDGER.MISS and LEDGER.MISS_LAST and optionally the fault records, FAULT_N and the buckets. -/
  | faultClear (h : Hdr) (p : List Byte)
  /-- MODE_SET (R483): Command that requests a major mode, checked at acceptance and applied at the first tick boundary at least one slot later. -/
  | modeSet (h : Hdr) (p : List Byte)
  /-- MODE_GET (R496): Command that returns the mode, the pending mode, the Eclosion step, the flags and the tick of the latest mode change. -/
  | modeGet (h : Hdr) (p : List Byte)
  /-- POSTURE_SET (R62): Command that requests a posture and optionally a power cap, checked against admitted contracts and applied at least 2 ticks later. -/
  | postureSet (h : Hdr) (p : List Byte)
  /-- DOMAIN_POWER (R458): Command that requests a power-domain state, judged against the states after queued sequences and queued for the sequencer. -/
  | domainPower (h : Hdr) (p : List Byte)
  /-- OPPOINT_SET (R464): Command that schedules an operating-point change for one or all clusters at a tick at least 2 ticks ahead. -/
  | oppointSet (h : Hdr) (p : List Byte)
  /-- SUPPLY_STATUS (R479): Command that returns supply voltages, currents, path selection, temperature and input power. -/
  | supplyStatus (h : Hdr) (p : List Byte)
  /-- CLOCK_MEASURE (R480): Command that runs one eyespot gate and replies with the count when the gate ends. -/
  | clockMeasure (h : Hdr) (p : List Byte)
  /-- CLOCK_STATUS (R481): Command that returns the clock source, the monitor flags, the last loss cause, the gap and the MCLK offset. -/
  | clockStatus (h : Hdr) (p : List Byte)
  /-- CONTRACT_PROPOSE (R87): Command that reads a contract descriptor and enters it into the admission batch of the next tick. -/
  | contractPropose (h : Hdr) (p : List Byte)
  /-- CONTRACT_ACTIVATE (R71): Command that schedules activation of an admitted contract at a named tick. -/
  | contractActivate (h : Hdr) (p : List Byte)
  /-- CONTRACT_RELEASE (R89): Command that schedules release of a contract at a named tick. -/
  | contractRelease (h : Hdr) (p : List Byte)
  /-- CONTRACT_QUERY (R90): Command that returns a contract's record sampled at one instant. -/
  | contractQuery (h : Hdr) (p : List Byte)
  /-- LEDGER_SNAPSHOT (R91): Command that writes the ledger, as it stands at one tick boundary, to host memory. -/
  | ledgerSnapshot (h : Hdr) (p : List Byte)
  /-- DESCRIPTOR_REGISTER (R92): Command that registers a cost descriptor under a DESC_ID. -/
  | descriptorRegister (h : Hdr) (p : List Byte)
  /-- FLOW_ADD (R165): Command that takes a flow-table entry from a flow descriptor and sends the joins at acceptance. -/
  | flowAdd (h : Hdr) (p : List Byte)
  /-- FLOW_REMOVE (R166): Command that schedules removal of a flow entry at the next tick boundary and sends its leaves. -/
  | flowRemove (h : Hdr) (p : List Byte)
  /-- PORT_CONFIG (R164): Command that configures a port's kind, direction, rate, idle content and addresses from the next tick boundary. -/
  | portConfig (h : Hdr) (p : List Byte)
  /-- SUBST_POLICY (R167): Command that changes a contract's substitution policy at a tick, going through admission when it adds a hold buffer. -/
  | substPolicy (h : Hdr) (p : List Byte)
  /-- REF_SELECT (R48): Command that sets the tick rate, the reference entries, the time entry and the cadences, applied at a later tick boundary. -/
  | refSelect (h : Hdr) (p : List Byte)
  /-- TICK_STATUS (R49): Command that returns the tick number, slot, lock state, source and phase error sampled at one instant. -/
  | tickStatus (h : Hdr) (p : List Byte)
  /-- TAKE (R175): Command that requests a take on a switchable egress, landing at the named tick or at the earliest tick it can meet. -/
  | take (h : Hdr) (p : List Byte)
  /-- PRESET_ARM (R194): Command that schedules a preset to be armed in the PRESET role with a transition and run-ahead window. -/
  | presetArm (h : Hdr) (p : List Byte)
  /-- PRESET_DISARM (R172): Command that schedules release of an armed preset. -/
  | presetDisarm (h : Hdr) (p : List Byte)
  /-- GPI_BIND (R196): Command that binds a GPI to take parameters, or unbinds it, from the next tick boundary. -/
  | gpiBind (h : Hdr) (p : List Byte)
  /-- TALLY_SET (R197): Command that sets what a GPO follows and its polarity from a named tick. -/
  | tallySet (h : Hdr) (p : List Byte)
  /-- TAKE_ABORT (R184): Command that removes a pending take before its cutoff and rolls back its speculation. -/
  | takeAbort (h : Hdr) (p : List Byte)
  /-- ENGINE_LOAD (R230): Command that loads a program blob into consecutive engines of one cluster and leaves them LOADED. -/
  | engineLoad (h : Hdr) (p : List Byte)
  /-- ENGINE_START (R231): Command that schedules LOADED or STOPPED engines to start at a tick boundary. -/
  | engineStart (h : Hdr) (p : List Byte)
  /-- ENGINE_STOP (R232): Command that schedules engines to stop at a tick boundary. -/
  | engineStop (h : Hdr) (p : List Byte)
  /-- ENGINE_STATUS (R233): Command that returns one engine's state sampled at one instant. -/
  | engineStatus (h : Hdr) (p : List Byte)
  /-- IMAGE_STAGE (R301): Command that checks an image copy's header and starts staging the named tiles, or clears the staging. -/
  | imageStage (h : Hdr) (p : List Byte)
  /-- MOLT_PLAN (R317): Command that computes the molt plan for the staging and writes it to a buffer. -/
  | moltPlan (h : Hdr) (p : List Byte)
  /-- MOLT_COMMIT (R318): Command that commits a molt plan to start at a tick, optionally staggered across a twin. -/
  | moltCommit (h : Hdr) (p : List Byte)
  /-- SCRUB_STATUS (R319): Command that returns scrub counts for a tile or the device. -/
  | scrubStatus (h : Hdr) (p : List Byte)
  /-- PROTECT_MAP_SET (R355): Command that sets one protection-map region and starts its initialisation. -/
  | protectMapSet (h : Hdr) (p : List Byte)
  /-- ECC_STATUS (R370): Command that returns one bucket's or SRAM's correction counts. -/
  | eccStatus (h : Hdr) (p : List Byte)
  /-- BUCKET_CONFIG (R371): Command that sets a bucket's threshold and leak period or empties it. -/
  | bucketConfig (h : Hdr) (p : List Byte)
  /-- KEY_LOAD (R394): Command that loads a memory key into a key ID or a link key into a link's free phase. -/
  | keyLoad (h : Hdr) (p : List Byte)
  /-- KEY_RETIRE (R385): Command that writes back cached lines of a key ID, confirms no region names it and zeroes the key. -/
  | keyRetire (h : Hdr) (p : List Byte)
  /-- DEBUG_AUTH_CHALLENGE (R396): Command that writes a debug challenge block, or drops the debug level to L0. -/
  | debugAuthChallenge (h : Hdr) (p : List Byte)
  /-- DEBUG_AUTH_RESPONSE (R391): Command that verifies a debug response and grants the requested level. -/
  | debugAuthResponse (h : Hdr) (p : List Byte)
  /-- MACSEC_SA (R398): Command that installs or deletes one MACsec SA from a descriptor. -/
  | macsecSa (h : Hdr) (p : List Byte)
  /-- LANE_CONFIG (R421): Command that assigns lanes and sets their power state, polarity, equalisation and loopback. -/
  | laneConfig (h : Hdr) (p : List Byte)
  /-- LANE_STATE (R422): Command that returns one lane's state sampled at one instant. -/
  | laneState (h : Hdr) (p : List Byte)
  /-- PRBS_START (R423): Command that starts or stops PRBS generation and checking on lanes and clears the counters. -/
  | prbsStart (h : Hdr) (p : List Byte)
  /-- PRBS_READ (R424): Command that returns one lane's PRBS counters. -/
  | prbsRead (h : Hdr) (p : List Byte)
  /-- MARGIN_SCAN (R425): Command that starts a receive-eye margin scan on one lane. -/
  | marginScan (h : Hdr) (p : List Byte)
  /-- TWIN_PAIR (R447): Command that configures or clears a device's twin role and links. -/
  | twinPair (h : Hdr) (p : List Byte)
  /-- TWIN_STATUS (R448): Command that returns the twin state. -/
  | twinStatus (h : Hdr) (p : List Byte)
  /-- MESH_ROUTE_SET (R449): Command that sets the mesh ID, adds or deletes a route, sets a link policy or names the tick master. -/
  | meshRouteSet (h : Hdr) (p : List Byte)
  /-- MESH_STATUS (R450): Command that returns mesh state. -/
  | meshStatus (h : Hdr) (p : List Byte)
  /-- INSTAR_SET (R451): Command that schedules a new mesh instar and digest at a tick boundary. -/
  | instarSet (h : Hdr) (p : List Byte)
  /-- BIST_RUN (R544): Command that starts logic or memory BIST on one power domain. -/
  | bistRun (h : Hdr) (p : List Byte)
  /-- BIST_RESULT (R550): Command that returns the latest BIST result and optionally the repair candidates. -/
  | bistResult (h : Hdr) (p : List Byte)
  /-- REPAIR_FUSE (R547): Command that burns a field spare for a candidate column and verifies the bank. -/
  | repairFuse (h : Hdr) (p : List Byte)
  /-- BOOT_RECORD (R498): Command that returns attempt count, boot source, running slot and the latest reasons. -/
  | bootRecord (h : Hdr) (p : List Byte)
  /-- BOOT_CONFIRM (R489): Command that confirms the running image, clears the attempt count and applies FUSE_POLICY. -/
  | bootConfirm (h : Hdr) (p : List Byte)
  /-- IMAGE_WRITE (R500): Command that writes one block to a flash slot or the boot buffer, optionally verifying the image. -/
  | imageWrite (h : Hdr) (p : List Byte)
  /-- SLOT_SELECT (R501): Command that rewrites PREFERRED in the flash descriptor and clears the attempt count. -/
  | slotSelect (h : Hdr) (p : List Byte)
  /-- SQ_TAIL_WRITE (R103): Host write of a ring's SQ_TAIL that exposes new submission entries. -/
  | sqTailWrite (n v : Nat)
  /-- CQ_HEAD_WRITE (R102): Host write of CQ_HEAD that frees completion slots for further fetches. -/
  | cqHeadWrite (n v : Nat)
  /-- ENTRY_FETCH (R103): The device fetches a submission entry once a CQ slot is reserved, stamps receipt time and dispatches it. -/
  | entryFetch (n : Nat) (rx : Option Nat) (blk : Bool) (bad : List Nat)
  /-- REPLY_WRITE (R104): The device writes a completed command's reply with its PHASE bit and advances CQ_TAIL over contiguous written slots. -/
  | replyWrite (i : Nat) (late : Bool)
  /-- RING_ENABLE (R106): Write of CFG.EN to 1, refused with CFG_ERR unless the ring is IDLE, clearing the indices. -/
  | ringEnable (n : Nat)
  /-- RING_DISABLE (R106): Write of CFG.EN to 0 that stops fetching while outstanding commands finish. -/
  | ringDisable (n : Nat)
  /-- RING_IDLE (R106): Once a disabled or stopped ring has no command outstanding, the device sets IDLE. -/
  | ringIdle (n : Nat)
  /-- RING_LENGTH_WRITE (R105): Write of LOG2_LEN while enabled that stages a length change. -/
  | ringLengthWrite (n v : Nat)
  /-- RING_LENGTH_APPLY (R105): Once the ring is empty, the staged length applies and all four indices are set to 0. -/
  | ringLengthApply (n : Nat)
  /-- RING_CANCEL (R105): Write of CFG.CANCEL that withdraws a staged length change. -/
  | ringCancel (n : Nat)
  /-- RING_BASE_WRITE (R106): Write of a ring base register, ignored with CFG_ERR while the ring is enabled. -/
  | ringBaseWrite (n r v : Nat)
  /-- SPI_READ_STATUS (R108): SPI instruction that returns CMD.SPI_STATUS. -/
  | spiReadStatus
  /-- SPI_WRITE_SUB (R109): SPI instruction that delivers a 64-byte submission entry with CRC. -/
  | spiWriteSub (x : SpiHead) (data : List Byte)
  /-- SPI_READ_REPLY (R109): SPI instruction that returns the oldest reply and removes it after a full read. -/
  | spiReadReply (full : Bool)
  /-- SPI_WRITE_BUF (R110): SPI instruction that writes data into the 64 KiB SPI buffer. -/
  | spiWriteBuf (off : Nat) (data : List Byte)
  /-- SPI_READ_BUF (R110): SPI instruction that reads data from the SPI buffer. -/
  | spiReadBuf (off len : Nat)
  /-- FORWARDED_COMMAND_RECEIVE (R113): A target device receives a forwarded command and executes it, or answers a repeat from its record. -/
  | forwardedCommandReceive (op : Nat) (h : Hdr) (p : List Byte)
  /-- FORWARDED_REPLY_RECEIVE (R111): The local device receives a forwarded reply and writes it and any result buffer to the carrying transport. -/
  | forwardedReplyReceive (src : Nat) (seq : Word) (status eff : Nat) (result : List Byte) (bufs : List (Nat × List Byte))
  /-- FORWARD_TIMEOUT (R112): No forwarded reply within the bound plus FWD_TIMEOUT answers REMOTE_UNREACHABLE. -/
  | forwardTimeout (dst : Nat) (seq : Word)
  /-- FRAME_FORWARD (R427): A Dolmet frame addressed elsewhere is forwarded with HOPS decremented, or discarded at HOPS 0. -/
  | frameForward (k ty dst : Nat) (f : DFrame)
  /-- TWIN_COMMAND_RECEIVE (R120): A twin partner receives a TWIN_APPLY command and accepts or refuses it. -/
  | twinCommandReceive (op : Nat) (h : Hdr) (p : List Byte) (floor : Nat)
  /-- TWIN_COMMAND_TIMEOUT (R120): A partner's answer missing for 1 tick answers REMOTE_UNREACHABLE and applies nothing. -/
  | twinCommandTimeout (seq : Word)
  /-- CORE_WATCHDOG_EXPIRY (R96): A management core's watchdog expires, restarting that core or, on repetition within 256 ticks, warm-resetting the device. -/
  | coreWatchdogExpiry (core : Nat)
  /-- TICK_BOUNDARY (R17): Start of slot 0 of a tick: TICK strobe, phase measurement, application of due commands and per-tick checks. -/
  | tickBoundary (e : Edge)
  /-- SLOT_START (R17): Start of a slot, marked by the SLOT strobe, at which per-slot schedules and heartbeats run. -/
  | slotStart
  /-- TICK_NUM_LO_READ (R19): Read of TICK.NUM_LO that captures TICK.NUM_HI and TICK.SNAP at the same instant. -/
  | tickNumLoRead (ns : Nat)
  /-- PTP_SYNC_RECEIVE (R23): Receipt of a PTP Sync message with hardware timestamp for the reference. -/
  | ptpSyncReceive (port : Nat) (m : PtpMsg)
  /-- PTP_ANNOUNCE_RECEIVE (R23): Receipt of a PTP Announce message used for master selection. -/
  | ptpAnnounceReceive (port domain : Nat) (m : PtpAnn)
  /-- PTP_REFERENCE_LOST (R24): At a tick boundary after 4 missing sync intervals or an announce timeout the PTP reference is declared lost. -/
  | ptpReferenceLost (at_ : SourceAt)
  /-- ANALOG_REFERENCE_LOST (R26): No valid frame sync on an analog input for LOSS_TICKS ticks declares it lost. -/
  | analogReferenceLost (i : Nat)
  /-- DOLMET_REFERENCE_LOST (R26): A Dolmet reference is lost when its link leaves training or misses LOSS_TICKS markers. -/
  | dolmetReferenceLost (k : Nat)
  /-- ANALOG_SYNC_APPEAR (R25): Valid sync appearing or changing format on an analog input is judged for compatibility. -/
  | analogSyncAppear (i fmt frate : Nat)
  /-- REFERENCE_OUT_OF_RANGE (R30): A reference beyond ±50 ppm against MCLK raises OUT_OF_RANGE and counts as absent. -/
  | referenceOutOfRange (src : Nat) (at_ : SourceAt)
  /-- ACQUISITION_COUNT_MET (R32): The phase error stays in the window for LOCK_COUNT ticks and the lock state becomes LOCKED. -/
  | acquisitionCountMet
  /-- REVERT_TO_ENTRY (R42): With REVERT a higher-priority entry valid for LOCK_COUNT ticks becomes active again. -/
  | revertToEntry (a e : Nat)
  /-- HOLDOVER_LIMIT_EXPIRY (R33): HOLDOVER_LIMIT elapses and the lock state becomes FREE at the next boundary with HOLDOVER_EXPIRED. -/
  | holdoverLimitExpiry
  /-- REF_SELECT_APPLY (R43): An accepted REF_SELECT applies at its boundary, re-phasing the tick on a rate change and re-evaluating loss. -/
  | refSelectApply
  /-- STEP_APPLY (R36): A pending step applies at the first boundary with step permission, holding active contracts for the tick. -/
  | stepApply
  /-- ADMISSION_BATCH (R66): During tick n+1 the ledger evaluates the batch of proposals received in tick n and replies to each. -/
  | admissionBatch (votes : List TwinVote)
  /-- XDEV_PROPOSAL_RECEIVE (R80): A path device receives a cross-device proposal for evaluation in its next batch. -/
  | xdevProposalReceive (owner id n : Nat) (dry : Bool) (desc : List Byte)
  /-- XDEV_VOTE_RECEIVE (R80): The owner receives a path device's vote. -/
  | xdevVoteReceive (src id : Nat) (yes : Bool)
  /-- XDEV_DECISION (R80): At the boundary of N+2 the owner commits or aborts a cross-device proposal and replies. -/
  | xdevDecision
  /-- XDEV_COMMIT_RECEIVE (R80): A path device receives COMMIT and makes its reservation firm. -/
  | xdevCommitReceive (owner id : Nat)
  /-- XDEV_ABORT_RECEIVE (R80): A path device receives ABORT and drops its reservation. -/
  | xdevAbortReceive (owner id : Nat)
  /-- XDEV_OWNER_QUERY (R443): A path device without COMMIT or ABORT after tick N+3 queries the owner each tick. -/
  | xdevOwnerQuery
  /-- XDEV_QUERY_RECEIVE (R443): The owner answers a path device's contract-state query, ABORT if it has no record. -/
  | xdevQueryReceive (src id : Nat)
  /-- XDEV_QUERY_TIMEOUT (R443): After 16 ticks without answer the path device drops the reservation and raises XDEV_ABORT. -/
  | xdevQueryTimeout
  /-- CONTRACT_ACTIVATION (R54): At its activation tick an admitted contract or armed preset becomes ACTIVE. -/
  | contractActivation
  /-- ACT_LIMIT_EXPIRY (R71): An admitted contract not activated by tick A + ACT_LIMIT becomes RELEASED and raises ACT_EXPIRED. -/
  | actLimitExpiry
  /-- CONTRACT_RELEASE_APPLY (R77): At the release tick a contract stops producing outputs and enters RELEASED or RELEASING. -/
  | contractReleaseApply
  /-- RELEASING_COMPLETE (R54): After the last output unit due has left a RELEASING contract becomes RELEASED and frees its budget. -/
  | releasingComplete (i : Nat)
  /-- HOLD_END (R55): When a hold's cause ends the contract returns to ACTIVE or STARVED at the next boundary. -/
  | holdEnd
  /-- OUTPUT_UNIT_SEND (R72): An output unit of a contract departs, on time or late, or is replaced by substitute content. -/
  | outputUnitSend (i dst num at_ : Nat) (last : Bool) (payload : List Byte) (u : UnitBody)
  /-- POSTURE_APPLY (R62): At its tick a POSTURE_SET applies, marking contracts for release and lowering clusters if required. -/
  | postureApply
  /-- SDI_SIGNAL_DETECT_DROP (R155): SDI signal-detect drops and the source is declared lost. -/
  | sdiSignalDetectDrop (port : Nat)
  /-- SDI_TRS_TIMEOUT (R155): No valid TRS for 4 line periods declares an SDI source lost. -/
  | sdiTrsTimeout (port : Nat)
  /-- FLOW_LOSS_TIMEOUT (R155): No valid packet for LOSS_US on every leg declares an IP flow lost. -/
  | flowLossTimeout (i : Nat)
  /-- LEG_LOSS_TIMEOUT (R155): One leg of a two-legged flow is lost and LEG_LOST raised while the contract stays ACTIVE. -/
  | legLossTimeout (i leg : Nat)
  /-- SDI_LINE_RECEIVE (R134): An SDI line is received, checked for TRS, line number and CRC, and passed on as line-packets. -/
  | sdiLineReceive (port : Nat) (x : SdiLine)
  /-- IP_PACKET_RECEIVE (R141): An ingress packet is received, merged by sequence number and checked against the receiver model. -/
  | ipPacketReceive (port i : Nat) (x : IpPkt)
  /-- SDI_INPUT_LOCK (R133): An SDI input locks to a valid signal and reports LOCKED. -/
  | sdiInputLock (port rate fmt : Nat) (pid : Bool)
  /-- SOURCE_RESUME (R159): At the first input frame start after the boundary after lock the contract resumes and raises RESUMED. -/
  | sourceResume (i k : Nat)
  /-- BACKUP_SWITCH (R158): At the first tick boundary after loss the output switches to the backup source. -/
  | backupSwitch
  /-- MODULE_INSERT (R152): A module presence change to present raises MOD_INSERT and starts the initialisation wait. -/
  | moduleInsert (q : Nat)
  /-- MODULE_REMOVE (R153): A module removal raises MOD_REMOVE, takes the quad's port lanes down and sets them to P1. -/
  | moduleRemove (q : Nat)
  /-- MODULE_INIT_DONE (R153): After the module's initialisation time the device reads it and enables the lanes or reports MISMATCH. -/
  | moduleInitDone (q : Nat) (read answers : Bool) (r : ModRead)
  /-- IGMP_QUERY_RECEIVE (R139): An IGMP or MLD query is answered with reports for the ingress flows. -/
  | igmpQueryReceive (port : Nat)
  /-- ARP_REQUEST_RECEIVE (R138): ARP, neighbour discovery or ping for the port address is answered by firmware. -/
  | arpRequestReceive (port kind ip : Nat)
  /-- XBAR_PARITY_FAULT (R150): A parity fault in the active crossbar schedule reloads it and holds contracts on the endpoint for the tick. -/
  | xbarParityFault (e : Nat)
  /-- LINE_PACKET_TRANSFER (R149): The crossbar carries a line-packet from its source endpoint to its destination on the slot schedule. -/
  | linePacketTransfer (src dst : Nat) (sched : Bool) (x : XbarTurn)
  /-- PORT_CONFIG_APPLY (R164): A port configuration takes effect at the next tick boundary. -/
  | portConfigApply
  /-- FLOW_ADD_APPLY (R165): A new flow entry becomes valid at the next tick boundary. -/
  | flowAddApply
  /-- FLOW_REMOVE_APPLY (R166): A flow entry is removed at the next tick boundary. -/
  | flowRemoveApply
  /-- SUBST_POLICY_APPLY (R167): A substitution policy change takes effect at its tick boundary. -/
  | substPolicyApply
  /-- RUNAHEAD_START (R177): At the run-ahead start slot the take unit starts speculative work for each armed egress. -/
  | runaheadStart
  /-- TAKE_CUTOFF (R177): At the cutoff a pending take becomes final, or the speculative work is rolled back. -/
  | takeCutoff
  /-- TAKE_LANDING (R181): At the landing boundary the take commits, roles swap and LANDED is raised. -/
  | takeLanding
  /-- GPI_EDGE_CONFIRM (R188): A GPI edge confirmed after debounce sets GPI.EDGE and its stamp. -/
  | gpiEdgeConfirm (g tick slot : Nat) (rise : Bool)
  /-- TWIN_TAKE_RECEIVE (R187): A partner receives a twin take and answers ACCEPT or REFUSE. -/
  | twinTakeReceive (id dst tick trk : Nat) (abort : Bool)
  /-- TWIN_TAKE_ANSWER_RECEIVE (R187): The receiving take unit gets the partner's answer and sends CONFIRM or refuses. -/
  | twinTakeAnswerReceive (id dst tick : Nat) (abort accept : Bool)
  /-- TWIN_TAKE_ANSWER_TIMEOUT (R187): No partner answer within 2 slots answers REMOTE_UNREACHABLE and sends WITHDRAW. -/
  | twinTakeAnswerTimeout (id dst tick : Nat) (abort : Bool)
  /-- TWIN_TAKE_CONFIRM_RECEIVE (R187): A partner receives CONFIRM and makes the provisional take final. -/
  | twinTakeConfirmReceive (id dst tick : Nat) (abort : Bool)
  /-- TWIN_TAKE_WITHDRAW_RECEIVE (R187): A partner receives WITHDRAW and discards the provisional take. -/
  | twinTakeWithdrawReceive (id dst tick : Nat) (abort : Bool)
  /-- PRESET_ARM_APPLY (R172): At the arming tick the preset becomes ACTIVE in the PRESET role. -/
  | presetArmApply
  /-- PRESET_DISARM_APPLY (R172): At the release tick an armed preset is released. -/
  | presetDisarmApply
  /-- TALLY_SET_APPLY (R190): A TALLY_SET takes effect on its GPO at the named tick. -/
  | tallySetApply
  /-- GPI_BIND_APPLY (R196): A GPI binding takes effect at the next tick boundary. -/
  | gpiBindApply
  /-- S_NOP (R244): S-slot no operation. -/
  | sNop (e : Nat) (more : Bool)
  /-- S_ADD (R244): Scalar add of two registers. -/
  | sAdd (e : Nat) (more : Bool) (d a b : BitVec 5)
  /-- S_SUB (R244): Scalar subtract of two registers. -/
  | sSub (e : Nat) (more : Bool) (d a b : BitVec 5)
  /-- S_AND (R244): Scalar bitwise AND. -/
  | sAnd (e : Nat) (more : Bool) (d a b : BitVec 5)
  /-- S_OR (R244): Scalar bitwise OR. -/
  | sOr (e : Nat) (more : Bool) (d a b : BitVec 5)
  /-- S_XOR (R244): Scalar bitwise XOR. -/
  | sXor (e : Nat) (more : Bool) (d a b : BitVec 5)
  /-- S_SLL (R244): Scalar shift left logical by register. -/
  | sSll (e : Nat) (more : Bool) (d a b : BitVec 5)
  /-- S_SRL (R244): Scalar shift right logical by register. -/
  | sSrl (e : Nat) (more : Bool) (d a b : BitVec 5)
  /-- S_SRA (R244): Scalar shift right arithmetic by register. -/
  | sSra (e : Nat) (more : Bool) (d a b : BitVec 5)
  /-- S_MUL (R244): Scalar multiply keeping the low 32 bits. -/
  | sMul (e : Nat) (more : Bool) (d a b : BitVec 5)
  /-- S_MIN (R244): Scalar signed minimum. -/
  | sMin (e : Nat) (more : Bool) (d a b : BitVec 5)
  /-- S_MAX (R244): Scalar signed maximum. -/
  | sMax (e : Nat) (more : Bool) (d a b : BitVec 5)
  /-- S_SLT (R244): Scalar set if less than, signed. -/
  | sSlt (e : Nat) (more : Bool) (d a b : BitVec 5)
  /-- S_SLTU (R244): Scalar set if less than, unsigned. -/
  | sSltu (e : Nat) (more : Bool) (d a b : BitVec 5)
  /-- S_ADDI (R244): Scalar add of a sign-extended immediate. -/
  | sAddi (e : Nat) (more : Bool) (d a : BitVec 5) (imm : BitVec 15)
  /-- S_ANDI (R244): Scalar AND with a zero-extended immediate. -/
  | sAndi (e : Nat) (more : Bool) (d a : BitVec 5) (imm : BitVec 15)
  /-- S_ORI (R244): Scalar OR with a zero-extended immediate. -/
  | sOri (e : Nat) (more : Bool) (d a : BitVec 5) (imm : BitVec 15)
  /-- S_XORI (R244): Scalar XOR with a zero-extended immediate. -/
  | sXori (e : Nat) (more : Bool) (d a : BitVec 5) (imm : BitVec 15)
  /-- S_SLLI (R244): Scalar shift left logical by immediate. -/
  | sSlli (e : Nat) (more : Bool) (d a n : BitVec 5)
  /-- S_SRLI (R244): Scalar shift right logical by immediate. -/
  | sSrli (e : Nat) (more : Bool) (d a n : BitVec 5)
  /-- S_SRAI (R244): Scalar shift right arithmetic by immediate. -/
  | sSrai (e : Nat) (more : Bool) (d a n : BitVec 5)
  /-- S_RSH (R252): Scalar arithmetic shift right with round half up. -/
  | sRsh (e : Nat) (more : Bool) (d a n : BitVec 5)
  /-- S_LI (R244): Load a sign-extended immediate into a scalar register. -/
  | sLi (e : Nat) (more : Bool) (d : BitVec 5) (imm : BitVec 20)
  /-- S_LUI (R244): Load an immediate shifted left by 12. -/
  | sLui (e : Nat) (more : Bool) (d : BitVec 5) (imm : BitVec 20)
  /-- S_BEQ (R245): Branch if equal, with two delay bundles. -/
  | sBeq (e : Nat) (more : Bool) (a b : BitVec 5) (t : BitVec 11)
  /-- S_BNE (R245): Branch if not equal, with two delay bundles. -/
  | sBne (e : Nat) (more : Bool) (a b : BitVec 5) (t : BitVec 11)
  /-- S_BLT (R245): Branch if less than, signed, with two delay bundles. -/
  | sBlt (e : Nat) (more : Bool) (a b : BitVec 5) (t : BitVec 11)
  /-- S_BGE (R245): Branch if greater or equal, signed, with two delay bundles. -/
  | sBge (e : Nat) (more : Bool) (a b : BitVec 5) (t : BitVec 11)
  /-- S_J (R245): Jump to an absolute bundle index. -/
  | sJ (e : Nat) (more : Bool) (t : BitVec 11)
  /-- S_JAL (R244): Jump and write the return bundle index. -/
  | sJal (e : Nat) (more : Bool) (d : BitVec 5) (t : BitVec 11)
  /-- S_JR (R244): Jump to the bundle index held in a register. -/
  | sJr (e : Nat) (more : Bool) (a : BitVec 5)
  /-- S_LOOP (R246): Hardware loop with count from a register. -/
  | sLoop (e : Nat) (more : Bool) (c : BitVec 1) (a : BitVec 5) (last : BitVec 11)
  /-- S_LOOPI (R246): Hardware loop with an immediate count. -/
  | sLoopi (e : Nat) (more : Bool) (c : BitVec 1) (count : BitVec 12) (last : BitVec 11)
  /-- S_ATOM (R247): Makes the next 1–8 bundles an atomic group. -/
  | sAtom (e : Nat) (more : Bool) (n : BitVec 3)
  /-- S_MFC (R239): Read a control register into a scalar register. -/
  | sMfc (e : Nat) (more : Bool) (d cr : BitVec 5)
  /-- S_MTC (R239): Write a scalar register to a control register. -/
  | sMtc (e : Nat) (more : Bool) (cr a : BitVec 5)
  /-- S_IE (R256): Set interrupt-enable bits. -/
  | sIe (e : Nat) (more : Bool) (mask : BitVec 4)
  /-- S_ID (R256): Clear interrupt-enable bits. -/
  | sId (e : Nat) (more : Bool) (mask : BitVec 4)
  /-- RETI (R215): Return from handler to the main bank at EPC after draining. -/
  | reti (e : Nat) (more : Bool)
  /-- S_BXCLR (R254): Set BEXP to 63. -/
  | sBxclr (e : Nat) (more : Bool)
  /-- S_SCALE (R255): Write max(0, BEXP − k) to a scalar register. -/
  | sScale (e : Nat) (more : Bool) (d : BitVec 5) (k : BitVec 4)
  /-- S_SATCLR (R253): Clear the sticky saturation flag. -/
  | sSatclr (e : Nat) (more : Bool)
  /-- T_DONE (R257): Mark tick work complete, satisfying the tick watchdog. -/
  | tDone (e : Nat) (more : Bool)
  /-- T_WAIT (R256): Issue nothing until the next TICK strobe or an enabled interrupt. -/
  | tWait (e : Nat) (more : Bool)
  /-- T_NOW (R257): Read the current slot and low tick number from the tap. -/
  | tNow (e : Nat) (more : Bool) (d : BitVec 5)
  /-- L_NOP (R248): L-slot no operation. -/
  | lNop (e : Nat) (more : Bool)
  /-- L_LD (R248): Load 32 bytes into a vector register. -/
  | lLd (e : Nat) (more : Bool) (d a : BitVec 5) (off : BitVec 15)
  /-- L_LDP (R248): Load 32 bytes and post-increment the address register. -/
  | lLdp (e : Nat) (more : Bool) (d a : BitVec 5) (off : BitVec 15)
  /-- L_LD2 (R248): Load two 32-byte LDM operands in phases A and B. -/
  | lLd2 (e : Nat) (more : Bool) (d d2 a b : BitVec 5) (inc : BitVec 2)
  /-- L_LDS (R248): Load 4 bytes into a scalar register. -/
  | lLds (e : Nat) (more : Bool) (d a : BitVec 5) (off : BitVec 15)
  /-- L_ST (R248): Store 32 bytes from a vector register. -/
  | lSt (e : Nat) (more : Bool) (d a : BitVec 5) (off : BitVec 15)
  /-- L_STP (R248): Store 32 bytes and post-increment the address register. -/
  | lStp (e : Nat) (more : Bool) (d a : BitVec 5) (off : BitVec 15)
  /-- L_STS (R248): Store 4 bytes from a scalar register. -/
  | lSts (e : Nat) (more : Bool) (d a : BitVec 5) (off : BitVec 15)
  /-- V_NOP (R250): V-slot no operation. -/
  | vNop (e : Nat) (more : Bool)
  /-- V_ADD (R250): Vector lane add. -/
  | vAdd (e : Nat) (more : Bool) (m : BitVec 2) (d a b : BitVec 5) (sat bx : Bool)
  /-- V_SUB (R250): Vector lane subtract. -/
  | vSub (e : Nat) (more : Bool) (m : BitVec 2) (d a b : BitVec 5) (sat bx : Bool)
  /-- V_MUL (R250): Vector lane multiply shifted right by n. -/
  | vMul (e : Nat) (more : Bool) (m : BitVec 2) (d a b n : BitVec 5) (sat rnd bx : Bool)
  /-- V_MIN (R250): Vector lane signed minimum. -/
  | vMin (e : Nat) (more : Bool) (m : BitVec 2) (d a b : BitVec 5) (bx : Bool)
  /-- V_MAX (R250): Vector lane signed maximum. -/
  | vMax (e : Nat) (more : Bool) (m : BitVec 2) (d a b : BitVec 5) (bx : Bool)
  /-- V_ABS (R250): Vector lane absolute value. -/
  | vAbs (e : Nat) (more : Bool) (m : BitVec 2) (d a : BitVec 5) (sat bx : Bool)
  /-- V_AND (R250): Vector bitwise AND. -/
  | vAnd (e : Nat) (more : Bool) (m : BitVec 2) (d a b : BitVec 5)
  /-- V_OR (R250): Vector bitwise OR. -/
  | vOr (e : Nat) (more : Bool) (m : BitVec 2) (d a b : BitVec 5)
  /-- V_XOR (R250): Vector bitwise XOR. -/
  | vXor (e : Nat) (more : Bool) (m : BitVec 2) (d a b : BitVec 5)
  /-- V_SRA (R250): Vector arithmetic shift right by n. -/
  | vSra (e : Nat) (more : Bool) (m : BitVec 2) (d a n : BitVec 5) (rnd bx : Bool)
  /-- V_SRL (R250): Vector logical shift right by n. -/
  | vSrl (e : Nat) (more : Bool) (m : BitVec 2) (d a n : BitVec 5)
  /-- V_SLA (R250): Vector saturating shift left by n. -/
  | vSla (e : Nat) (more : Bool) (m : BitVec 2) (d a n : BitVec 5) (bx : Bool)
  /-- V_SLAR (R250): Vector saturating shift left by a scalar register. -/
  | vSlar (e : Nat) (more : Bool) (m : BitVec 2) (d a b : BitVec 5) (bx : Bool)
  /-- V_CAT (R250): Select lanes offset by n from a double vector. -/
  | vCat (e : Nat) (more : Bool) (m : BitVec 2) (d a b n : BitVec 5)
  /-- V_BCAST (R250): Broadcast a scalar into every lane. -/
  | vBcast (e : Nat) (more : Bool) (m : BitVec 2) (d a : BitVec 5)
  /-- V_CMPGT (R250): Lane mask of greater-than comparison. -/
  | vCmpgt (e : Nat) (more : Bool) (m : BitVec 2) (d a b : BitVec 5)
  /-- V_SEL (R250): Lane select by the destination's mask. -/
  | vSel (e : Nat) (more : Bool) (m : BitVec 2) (d a b : BitVec 5)
  /-- V_MOV (R250): Vector copy. -/
  | vMov (e : Nat) (more : Bool) (m : BitVec 2) (d a : BitVec 5)
  /-- V_PACK (R250): Narrow two vectors to half width with saturation. -/
  | vPack (e : Nat) (more : Bool) (m : BitVec 2) (d a b : BitVec 5) (bx : Bool)
  /-- V_UNPK (R250): Widen half a vector with sign extension. -/
  | vUnpk (e : Nat) (more : Bool) (m : BitVec 2) (d a n : BitVec 5)
  /-- V_EVEN (R250): Gather even lanes of a double vector. -/
  | vEven (e : Nat) (more : Bool) (m : BitVec 2) (d a b : BitVec 5)
  /-- V_ODD (R250): Gather odd lanes of a double vector. -/
  | vOdd (e : Nat) (more : Bool) (m : BitVec 2) (d a b : BitVec 5)
  /-- V_CLIPU (R250): Clip lanes to the unsigned range of n bits. -/
  | vClipu (e : Nat) (more : Bool) (m : BitVec 2) (d a n : BitVec 5)
  /-- M_NOP (R251): M-slot no operation. -/
  | mNop (e : Nat) (more : Bool)
  /-- M_MAC (R251): Multiply-accumulate lanes into an accumulator. -/
  | mMac (e : Nat) (more : Bool) (ad : BitVec 2) (a b : BitVec 5) (pair bx : Bool)
  /-- M_MSU (R251): Multiply-subtract lanes from an accumulator. -/
  | mMsu (e : Nat) (more : Bool) (ad : BitVec 2) (a b : BitVec 5) (pair bx : Bool)
  /-- M_MUL (R251): Multiply lanes into an accumulator. -/
  | mMul (e : Nat) (more : Bool) (ad : BitVec 2) (a b : BitVec 5) (pair bx : Bool)
  /-- M_MACL (R251): Multiply-accumulate by one selected lane. -/
  | mMacl (e : Nat) (more : Bool) (ad : BitVec 2) (a b : BitVec 5) (j : BitVec 4) (pair bx : Bool)
  /-- M_MULL (R251): Multiply by one selected lane into an accumulator. -/
  | mMull (e : Nat) (more : Bool) (ad : BitVec 2) (a b : BitVec 5) (j : BitVec 4) (pair bx : Bool)
  /-- M_CLR (R251): Clear an accumulator. -/
  | mClr (e : Nat) (more : Bool) (ad : BitVec 2)
  /-- M_EXT (R251): Extract accumulator lanes shifted with rounding and saturation. -/
  | mExt (e : Nat) (more : Bool) (d : BitVec 5) (ac : BitVec 2) (n : BitVec 6) (bx : Bool)
  /-- M_EXTR (R251): Extract accumulator lanes by a shift from a scalar register. -/
  | mExtr (e : Nat) (more : Bool) (d : BitVec 5) (ac : BitVec 2) (b : BitVec 5) (bx : Bool)
  /-- M_ACC (R251): Add one accumulator to another. -/
  | mAcc (e : Nat) (more : Bool) (ad ac : BitVec 2) (bx : Bool)
  /-- M_SAVE (R251): Save a 16-bit part of an accumulator to a vector. -/
  | mSave (e : Nat) (more : Bool) (d : BitVec 5) (ac p : BitVec 2)
  /-- M_REST (R251): Restore a 16-bit part of an accumulator from a vector. -/
  | mRest (e : Nat) (more : Bool) (ac : BitVec 2) (d : BitVec 5) (p : BitVec 2)
  /-- INTERRUPT_ENTRY (R214): At an allowed bundle boundary an engine takes an exception or interrupt, saves EPC and switches to the shadow bank. -/
  | interruptEntry (e : Nat)
  /-- ENGINE_CHECKPOINT (R209): At its next allowed boundary an engine checkpoints its registers and enters SPEC state. -/
  | engineCheckpoint (e : Nat)
  /-- ENGINE_COMMIT (R211): An engine adopts its provisional speculative words and takes the take-commit interrupt with COMMIT. -/
  | engineCommit (e : Nat)
  /-- ENGINE_ROLLBACK (R211): Once outside handlers, an engine restores its checkpoint and takes the take-commit interrupt with ROLLBACK. -/
  | engineRollback (e : Nat)
  /-- ENGINE_WATCHDOG_DEADLINE (R218): A missed t.done deadline counts, raises the fault interrupt, or stops the engine FAULTED. -/
  | engineWatchdogDeadline (e : Nat)
  /-- MARCH_GROUP (R225): The march unit tests one group of cluster memory in a slot. -/
  | marchGroup (c : Nat) (fail : Option (Nat × Nat × Nat))
  /-- DMA_GO (R519): Write of GO that queues a cluster DMA descriptor, or sets ERR when the queue is full. -/
  | dmaGo (m e v : Nat)
  /-- DMA_DESCRIPTOR_DONE (R519): A cluster DMA descriptor completes and DONE_CNT advances. -/
  | dmaDescriptorDone (e : Nat)
  /-- ENGINE_START_APPLY (R231): Engines start at ENTRY at the named tick boundary. -/
  | engineStartApply
  /-- ENGINE_STOP_APPLY (R232): Engines stop at the first allowed boundary after the named tick, drain and enter STOPPED. -/
  | engineStopApply
  /-- FPLL_UNLOCK (R277): A fabric PLL losing input or lock holds its outputs, sets HOLDOVER and raises FPLL_UNLOCK. -/
  | fpllUnlock (k : Nat)
  /-- FPLL_RELOCK (R277): A fabric PLL relocks without a glitch when its input returns. -/
  | fpllRelock (k : Nat)
  /-- VPLL_UNLOCK (R279): A video PLL edge straying beyond ±100 ps raises VPLL_UNLOCK and clears ALIGNED. -/
  | vpllUnlock (k : Nat)
  /-- FPORT_MEMORY_REQUEST (R286): A fabric port memory-channel request is classed by CTX and sent to DRAM, locks or mailboxes. -/
  | fportMemoryRequest (r : FportReq)
  /-- FPORT_REGISTER_READ (R288): A host read in a fabric port window is delivered to the port's register channel. -/
  | fportRegisterRead (n a : Nat) (answer : Option Word)
  /-- FPORT_REGISTER_TIMEOUT (R288): A fabric register read not answered in 100 µs completes with Completer Abort and counts. -/
  | fportRegisterTimeout (n a : Nat)
  /-- STAGING_END (R301): Staging finishes checking, writing STAGED copies and loading the first stage. -/
  | stagingEnd
  /-- MOLT_STAGE_CHECK (R307): At slot 2,040 before a stage the chrysalis frames are checked, or the stage is postponed. -/
  | moltStageCheck (ok : Bool)
  /-- MOLT_STAGE_SWAP (R305): At the stage's boundary all its tiles swap configuration and are released at slot 1. -/
  | moltStageSwap
  /-- STAGGER_HANDOVER (R309): At boundary S the SECONDARY unmutes and carries while the PRIMARY mutes and molts. -/
  | staggerHandover
  /-- STAGGER_MATCH_COMPLETE (R309): After 8 matching ticks the PRIMARY unmutes and takes CHG_SEL back. -/
  | staggerMatchComplete
  /-- SCRUB_FRAME_READ (R311): A tile scrubber reads one configuration frame and checks it. -/
  | scrubFrameRead (t f err : Nat)
  /-- SCRUB_RELOAD_SWAP (R313): A reloaded tile swaps in at its boundary with flip-flops at their initial values. -/
  | scrubReloadSwap
  /-- DRAM_REQUEST_ARRIVAL (R329): A port request arrives in a controller queue, classed and split into lines. -/
  | dramRequestArrival (r : DramReq)
  /-- DRAM_COMMAND_CYCLE (R331): In a subchannel command cycle the scheduler chooses the next allowed request. -/
  | dramCommandCycle (m sub now : Nat) (allowed : List (Nat × Nat))
  /-- DRAM_REQUEST_COMPLETE (R333): A request completes: read data leaves or write data enters the write buffer. -/
  | dramRequestComplete (m id line now : Nat)
  /-- URGENCY_STEP (R330): A request's urgency rises at 50, 75 and 90 % of its port target. -/
  | urgencyStep (m now : Nat)
  /-- AGE_PROMOTION (R332): A request older than AGE_LIMIT is promoted ahead of every class. -/
  | agePromotion (m now : Nat)
  /-- REFRESH_INTERVAL (R338): Each tREFI the controller refreshes the next bank index. -/
  | refreshInterval (m : Nat)
  /-- MR4_READ (R339): Every 128 µs the controller reads MR4 of each rank and sets the refresh rate. -/
  | mr4Read (m : Nat) (hot : List Bool) (above : Bool)
  /-- SPD_TEMPERATURE_READ (R322): Each tick each SPD hub's temperature sensor is read. -/
  | spdTemperatureRead (m t0 t1 : Nat) (above fail : Bool)
  /-- RETRAIN_PAUSE (R340): At slot 1,024 of its tick a subchannel pauses for retraining. -/
  | retrainPause (m sub : Nat)
  /-- RETRAIN_PAUSE_END (R341): The retraining pause ends, issuing due refreshes and applying or rejecting results. -/
  | retrainPauseEnd (m sub dur : Nat) (ok : Bool)
  /-- MC_SR_REQ_WRITE (R342): Write of MC.CFG.SR_REQ that requests self-refresh entry. -/
  | mcSrReqWrite (m : Nat)
  /-- SR_IDLE_TIMEOUT (R342): With SR_AUTO a channel idle for SR_IDLE_US starts self-refresh entry. -/
  | srIdleTimeout (m : Nat)
  /-- SR_ENTRY_COMPLETE (R342): After draining, the controller issues self-refresh entry and raises SR_ENTER. -/
  | srEntryComplete (m : Nat)
  /-- SR_EXIT_COMPLETE (R344): Self-refresh exit with retraining completes and SR_EXIT is raised. -/
  | srExitComplete (m now : Nat)
  /-- MC_FALLBACK_REQ_WRITE (R334): Write of FALLBACK_REQ that selects the fall-back scheduler, refused in Flight with CFG_ERR. -/
  | mcFallbackReqWrite (m : Nat) (v : Bool)
  /-- MC_POLICY_WRITE (R337): Write of MC.CFG.POLICY that selects the page policy from the next boundary. -/
  | mcPolicyWrite (m : Nat) (v : Bool)
  /-- SCHED_PARITY_FAULT (R335): A scheduler table parity fault switches to the fall-back scheduler and starts a rebuild. -/
  | schedParityFault (m : Nat)
  /-- SCHED_REBUILD_DONE (R335): The scheduler tables are rebuilt from management SRAM. -/
  | schedRebuildDone (m : Nat)
  /-- DRAM_INIT_DONE (R345): Controller training and line initialisation complete and STATE becomes ready. -/
  | dramInitDone (l : List DimmCh)
  /-- ECC_CORRECTION (R358): A correctable memory error is corrected where found and counted. -/
  | eccCorrection (b n addr : Nat)
  /-- BUCKET_LEAK (R359): At each LEAK_PERIOD a bucket's level falls by one. -/
  | bucketLeak (b : Nat)
  /-- UNCORRECTABLE_ERROR (R361): An uncorrectable error discards the data, records a fault, idles transmitters, notifies the twin and warm-resets. -/
  | uncorrectableError (errs : List (Nat × Nat × Nat × Nat))
  /-- PATROL_LINE_READ (R357): Patrol scrub reads the next line of a STRONG region. -/
  | patrolLineRead (m : Nat) (fix : Bool)
  /-- REGION_INIT_COMPLETE (R355): A region's initialisation ends, STATE becomes READY and MAP_DONE is raised. -/
  | regionInitComplete (r : Nat)
  /-- COUNTER_CACHE_MISS (R381): A counter-cache miss fetches and verifies the line and its ancestors. -/
  | counterCacheMiss (line : Nat) (ok : Bool)
  /-- COUNTER_CACHE_EVICT (R381): A changed counter line leaving the cache is written to region 62. -/
  | counterCacheEvict (level idx : Nat)
  /-- INTEGRITY_HALT (R383): A failed MAC, tree tag or exhausted counter halts the device until a debug-wire reset or cold start. -/
  | integrityHalt (ch detail addr : Nat)
  /-- MACSEC_FRAME_RECEIVE (R388): A received frame on a MACsec port is checked and accepted or discarded. -/
  | macsecFrameReceive (f : MsFrame)
  /-- MACSEC_FRAME_SEND (R389): A frame is sent under the transmit SA with the next PN. -/
  | macsecFrameSend (port : Nat)
  /-- MACSEC_SA_SWITCH (R389): A transmit SA comes into use at its tick boundary. -/
  | macsecSaSwitch
  /-- LINK_KEY_SWITCH (R390): A Dolmet sender switches to the new key phase at the named tick. -/
  | linkKeySwitch (k : Nat)
  /-- DEBUG_LOCKOUT_EXPIRY (R392): The debug challenge lockout after failed responses ends. -/
  | debugLockoutExpiry
  /-- SIGNAL_DETECT_ASSERT (R411): A lane's signal-detect asserts after 1 µs above 80 mV. -/
  | signalDetectAssert (l : Nat)
  /-- SIGNAL_DETECT_DEASSERT (R411): A lane's signal-detect deasserts and the port's sources may be lost. -/
  | signalDetectDeassert (l : Nat)
  /-- BLOCK_LOCK_LOSS (R403): 16 invalid headers within 64 lose block lock. -/
  | blockLockLoss (l : Nat)
  /-- HIGH_BER (R403): 16 invalid headers within the window declare high BER. -/
  | highBer (l : Nat)
  /-- QUAD_PLL_UNLOCK (R405): A quad PLL losing lock idles its transmitters and raises PLL_UNLOCK. -/
  | quadPllUnlock (q pll : Nat)
  /-- QUAD_PLL_RELOCK (R405): A quad PLL relocks and its transmitters restart. -/
  | quadPllRelock (q pll : Nat)
  /-- LINK_BRINGUP_COMPLETE (R408): Negotiation, training and lock complete and the owner's link is up. -/
  | linkBringupComplete (u : BringUp)
  /-- NEGOTIATION_FAIL (R410): Negotiation or training fails and NEG_FAIL is raised with a reason. -/
  | negotiationFail (l reason : Nat)
  /-- NEGOTIATION_RETRY (R410): One second after a failure the bring-up sequence restarts. -/
  | negotiationRetry (l : Nat)
  /-- LANE_QUALIFICATION_END (R409): A 10 ms PRBS31 qualification of a candidate mode ends in pass or fail. -/
  | laneQualificationEnd (k : Nat) (pass : Bool)
  /-- PSTATE_SEQUENCE_DONE (R414): A lane power-state sequence completes, running any queued request. -/
  | pstateSequenceDone (l : Nat)
  /-- PRBS_SYNC_LOSS (R416): A PRBS checker loses sync, sets PRBS_LOST and resynchronises. -/
  | prbsSyncLoss (l : Nat)
  /-- PRBS_COUNTER_FULL (R416): The bit counter reaches 2^48 − 1 and both counters stop. -/
  | prbsCounterFull (l errs : Nat)
  /-- MARGIN_SCAN_DONE (R418): A margin scan ends, writes its results and raises SCAN_DONE. -/
  | marginScanDone (l : Nat) (counts : List Nat)
  /-- LANE_PRBS_ERR_LO_READ (R419): Read of LANE.PRBS_ERR_LO that captures the other PRBS counter words. -/
  | lanePrbsErrLoRead (l : Nat)
  /-- DOLMET_FRAME_RECEIVE (R426): A Dolmet frame is received, CRC- and tag-checked and dispatched by type. -/
  | dolmetFrameReceive (k : Nat) (f : DFrame)
  /-- LINK_TAG_FAIL_LIMIT (R429): 16 tag failures within one tick take the link down. -/
  | linkTagFailLimit (k : Nat)
  /-- HEARTBEAT_RECEIVE (R427): A heartbeat frame from the link partner is received. -/
  | heartbeatReceive (k : Nat)
  /-- HEARTBEAT_TIMEOUT (R429): No heartbeat for 3 slots takes the link down. -/
  | heartbeatTimeout (k : Nat)
  /-- TICK_MARKER_RECEIVE (R428): A tick marker is received, updating delay, alignment and tick and instar comparisons. -/
  | tickMarkerReceive (k : Nat) (m : Marker)
  /-- CAPABILITY_EXCHANGE (R430): A capability CONTROL frame is received and the link settings are settled. -/
  | capabilityExchange (k : Nat) (c : Caps)
  /-- DIGEST_RECEIVE (R435): A partner's DIGEST frame is compared and the divergence rule applied. -/
  | digestReceive (d : Digest)
  /-- STATE_TRANSFER_RECEIVE (R437): A receiver takes STATE frames from its carrier during rejoin. -/
  | stateTransferReceive (x : Xfer)
  /-- REJOIN_ACTIVATION (R437): At tick A the receiver enters Flight, activates contracts muted and enters MATCHING. -/
  | rejoinActivation
  /-- REJOIN_ENGINE_COPY (R437): A cluster's engine state is copied between t.done and TICK and started at TICK. -/
  | rejoinEngineCopy (c : Nat) (l : List EngCopy)
  /-- REJOIN_MATCH_COMPLETE (R437): After 8 matching ticks the receiver unmutes and enters PAIRED. -/
  | rejoinMatchComplete
  /-- REJOIN_SLOW (R437): Rejoin not complete within REJOIN_LIMIT ticks raises REJOIN_SLOW. -/
  | rejoinSlow
  /-- TWIN_PEER_OK_FALL (R439): TWIN_PEER_OK falls and the device declares its partner lost. -/
  | twinPeerOkFall
  /-- FAULT_MESSAGE_RECEIVE (R439): A fault message from the partner declares it lost. -/
  | faultMessageReceive
  /-- LINKS_LOST (R439): Both twin links fail while TWIN_PEER_OK stays high; the SECONDARY withdraws. -/
  | linksLost
  /-- MAILBOX_FRAME_RECEIVE (R441): A remote mailbox message or acknowledgement arrives over the mesh. -/
  | mailboxFrameReceive (f : MailFrame)
  /-- BOOT_FRAME_RECEIVE (R491): An image block arrives in a BOOT frame and is stored or discarded. -/
  | bootFrameReceive (off : Nat) (data : List Byte) (last : Bool)
  /-- INSTAR_SET_APPLY (R451): The mesh instar and digest change at the named tick. -/
  | instarSetApply
  /-- VIN_INPUT_FAULT (R453): A VIN input meets its fault condition, raising A_LOST or B_LOST. -/
  | vinInputFault (b : Bool)
  /-- VIN_RETURN_QUALIFIED (R453): VIN_A in range for RETURN_MS returns the path to A. -/
  | vinReturnQualified (b : Bool)
  /-- VAUX_INPUT_FAULT (R453): A VAUX input faults and the VAUX path switches. -/
  | vauxInputFault (b : Bool)
  /-- PWR_FORCE_B_WRITE (R453): Write of FORCE_B that moves the path to VIN_B while it is good. -/
  | pwrForceBWrite (v : Bool)
  /-- SUPPLY_FAULT (R455): A supply fault records, idles, notifies and holds every domain but PD00 in reset. -/
  | supplyFault (cause mc : Nat)
  /-- SUPPLY_RECOVERY (R455): All faulted supplies in range for 100 ms start Eclosion. -/
  | supplyRecovery
  /-- VIO_FAULT (R455): A VIO bank fault raises VIO_FAULT. -/
  | vioFault
  /-- VAUX_LOSS (R456): VAUX below 1.50 V for 2 µs powers the device off. -/
  | vauxLoss
  /-- DOMAIN_SEQUENCE_START (R459): The sequencer starts a domain's power-up or power-down sequence. -/
  | domainSequenceStart
  /-- DOMAIN_SEQUENCE_DONE (R459): A domain sequence completes and DOMAIN_DONE is raised. -/
  | domainSequenceDone
  /-- OPPOINT_RAISE_START (R463): At T − 1 the voltage of a raised cluster starts slewing up. -/
  | oppointRaiseStart
  /-- OPPOINT_SWITCH (R463): At T the cluster frequency switches glitch-free. -/
  | oppointSwitch
  /-- OPPOINT_VOLTAGE_REACHED (R463): The new voltage is reached and OP_DONE raised. -/
  | oppointVoltageReached (c mv : Nat)
  /-- CLOCK_LOSS_RC_RUNNING (R469): An MCLK monitor trip with RC running moves the system PLLs to RC. -/
  | clockLossRcRunning (cause : Nat) (forced : Bool)
  /-- CLOCK_LOSS_RC_STOPPED (R470): An MCLK trip with RC stopped stops clocks and starts RC. -/
  | clockLossRcStopped (cause : Nat)
  /-- CLOCK_GAP_RESUME (R470): RC ready and PLLs relocked end the clock gap. -/
  | clockGapResume (gap : Nat) (forced : Bool)
  /-- MCLK_RETURN (R471): MCLK good for GOOD_MS returns the device to MCLK at a tick boundary. -/
  | mclkReturn (forced : Bool)
  /-- CLK_RETURN_REQ_WRITE (R471): Write of RETURN_REQ that requests return to MCLK. -/
  | clkReturnReqWrite
  /-- EYE_GATE_START (R472): Write of an eyespot START bit that starts a gate. -/
  | eyeGateStart (k : Nat)
  /-- EYE_GATE_END (R472): An eyespot gate ends with its count. -/
  | eyeGateEnd (k count : Nat)
  /-- SENSOR_SAMPLE (R474): Every 100 µs the temperature sensors are sampled and compared. -/
  | sensorSample (l : List (Option Int)) (vin : List Nat)
  /-- THERMAL_TRIP (R475): Two samples at or above 120 °C trip the device. -/
  | thermalTrip (sensor : Nat)
  /-- THERMAL_RECOVERY (R475): All sensors below 95 °C for 10 s start Eclosion. -/
  | thermalRecovery
  /-- MODE_CHANGE (R483): A pending MODE_SET is re-checked and applied at its tick boundary. -/
  | modeChange
  /-- DIAP_WAKE_PIN (R485): DIAP_WAKE_N low for 1 ms requests a wake. -/
  | diapWakePin
  /-- WAKE_TICK_EXPIRY (R485): The tick named by WAKE_TICK requests a wake. -/
  | wakeTickExpiry
  /-- DIAPAUSE_WAKE (R485): The device powers domains back, restores keys, scrubs and brings lanes up. -/
  | diapauseWake
  /-- ROOST_ENTRY_ON_LOCK (R483): The device waiting in Eclosion step 12 or after a wake enters Roost once LOCKED. -/
  | roostEntryOnLock
  /-- COLD_START (R556): VAUX good for 1 ms releases PD00 from reset and begins Eclosion. -/
  | coldStart (bootSrc mclkSel oscDly : Nat)
  /-- WARM_RESET (R365): A warm reset clears state outside PD00 as listed and starts Eclosion. -/
  | warmReset
  /-- ECLOSION_START (R486): Eclosion runs its steps to build the device from its image. -/
  | eclosionStart (e : EclEnv)
  /-- ECLOSION_ATTEMPT_FAIL (R488): A failed attempt increments k, records the reason and tries the next slot or resets. -/
  | eclosionAttemptFail (code : Nat)
  /-- ECLOSION_WATCHDOG_EXPIRY (R487): The Eclosion watchdog expires and ends the attempt with 0x05. -/
  | eclosionWatchdogExpiry
  /-- BOOT_ABORT_WRITE (R494): Write of BOOT.CTRL.ABORT that ends the current attempt with a warm reset. -/
  | bootAbortWrite
  /-- PCIE_PERST_ASSERT (R553): PCIE_PERST_N resets the PCIe endpoint, treated as the host link going down. -/
  | pciePerstAssert
  /-- PCIE_FLR (R523): A host function-level reset releases the host's locks. -/
  | pcieFlr
  /-- INTERRUPT_SOURCE_RISE (R504): A group output rises and the group delivers or starts its hold-off. -/
  | interruptSourceRise (n : Nat) (high : Bool)
  /-- HOLDOFF_EXPIRY (R504): A group's hold-off timer expires and it delivers if its output is high. -/
  | holdoffExpiry (g : Nat)
  /-- MSIX_SEND (R508): A waiting host interrupt message is sent once the link reaches L0. -/
  | msixSend
  /-- INTC_EOI_WRITE (R505): Write of EOI that ends service of a group. -/
  | intcEoiWrite (g : Nat)
  /-- INTC_ROUTE_WRITE (R509): Write of a group's route, refused with ROUTE_ERR on a duplicate engine target. -/
  | intcRouteWrite (g v : Nat)
  /-- ENGINE_INTC_EOI (R509): An engine writes EOI through INTC_GRP in its cluster window. -/
  | engineIntcEoi (e : Nat)
  /-- MAILBOX_MSG_WRITE (R514): Write of a mailbox message word, claiming C2E and E2E halves. -/
  | mailboxMsgWrite (m o v : Nat)
  /-- MAILBOX_BELL_WRITE (R513): Write of BELL bits that starts a message or adds doorbell bits. -/
  | mailboxBellWrite (m o v : Nat)
  /-- MAILBOX_ACK_WRITE (R513): Receiver write of ACK that clears PENDING and sets ACKED. -/
  | mailboxAckWrite (m o v : Nat)
  /-- MAILBOX_ACK_TIMEOUT (R516): An unacknowledged message times out with code 0xFFFF. -/
  | mailboxAckTimeout (o : Nat)
  /-- MAILBOX_CLAIM_TIMEOUT (R514): A claim without a BELL within the timeout is cleared. -/
  | mailboxClaimTimeout (o : Nat)
  /-- LOCK_READ (R520): Read of a lock that acquires it if free or returns the holder. -/
  | lockRead (m o : Nat)
  /-- LOCK_WRITE (R520): Write of a lock that releases it if by the holder writing 0, or records a violation. -/
  | lockWrite (m o v : Nat)
  /-- DEBUG_WIRE_RESET (R527): DBGRST_N low for 1 ms idles transmitters and holds the device in reset. -/
  | debugWireReset
  /-- DEBUG_WIRE_RELEASE (R527): The rising edge of DBGRST_N after a wire reset starts Eclosion. -/
  | debugWireRelease
  /-- DEBUG_WAKE_PULSE (R528): A wake pulse and 8 calibration cells set u and open a session. -/
  | debugWakePulse (us u : Nat)
  /-- DEBUG_READ (R535): Debug-wire READ transaction, answered with a response by the debug bus master. -/
  | debugRead (f : DbgFrame)
  /-- DEBUG_WRITE (R535): Debug-wire WRITE transaction. -/
  | debugWrite (f : DbgFrame)
  /-- DEBUG_WAKE (R530): Debug-wire WAKE transaction that wakes the device from Diapause. -/
  | debugWake (f : DbgFrame)
  /-- DBG_AUTH_CHALLENGE_WRITE (R534): Write of DBG.AUTH.CHALLENGE that writes a challenge into DBG.CHALn. -/
  | dbgAuthChallengeWrite (m level : Nat)
  /-- DBG_AUTH_SUBMIT (R534): Write of DBG.AUTH.SUBMIT that verifies DBG.RESPn. -/
  | dbgAuthSubmit (m : Nat)
  /-- ENGINE_HALT_REQUEST (R538): Write of HALT in DBG.ENG_CTRL that requests an engine halt. -/
  | engineHaltRequest (m e : Nat)
  /-- ENGINE_HALT_TAKEN (R538): At an allowed boundary the engine drains and enters HALTED. -/
  | engineHaltTaken (e : Nat)
  /-- ENGINE_STEP (R540): Write of STEP that issues the next bundle or group and halts again. -/
  | engineStep (m e : Nat)
  /-- ENGINE_INJECT (R540): Write of INJECT that issues the bundle in DBG.INJ0–3. -/
  | engineInject (m e : Nat)
  /-- ENGINE_RESUME (R541): Write of RESUME that returns a halted engine to its prior state. -/
  | engineResume (m e : Nat)
  /-- DBG_PC_WRITE (R540): Write of DBG.ENG_STAT.PC of a halted engine. -/
  | dbgPcWrite (m v : Nat)
  /-- CORE_HALT (R542): Write of DBG.CORE_CTRL HALT that requests a management core halt. -/
  | coreHalt (m mask : Nat)
  /-- CORE_HALT_TAKEN (R542): The core halts outside its atomic sections and its watchdog freezes. -/
  | coreHaltTaken (k : Nat)
  /-- CORE_RESUME (R542): Write of DBG.CORE_CTRL RESUME that resumes a core with a reloaded watchdog. -/
  | coreResume (m mask : Nat)
  /-- LOCK_FORCE (R543): Write of DBG.LOCK_FORCE.GO that releases a lock whatever its holder. -/
  | lockForce (m v : Nat)
  /-- BIST_COMPLETE (R545): A BIST run ends with a signature compared against ROM and BIST_DONE raised. -/
  | bistComplete (sig : Nat) (fails : List (Nat × Nat))
  /-- RC_FIELD_READ (R15): Read of a read-clear field that clears it. -/
  | rcFieldRead (m o : Nat)
  /-- REGISTER_WRITE (R569): Write of any register without a row of its own, leaving out-of-range fields unchanged. -/
  | registerWrite (m o v : Nat)
  /-- PTP_FOLLOW_UP_RECEIVE (R23): Receipt of a PTP Follow_Up message from a two-step master carrying the precise origin time of the preceding Sync. -/
  | ptpFollowUpReceive (port : Nat) (m : PtpFrom) (origin : Nat)
  /-- PTP_DELAY_RESP_RECEIVE (R23): Receipt of a PTP Delay_Resp message that completes the end-to-end delay measurement. -/
  | ptpDelayRespReceive (port : Nat) (m : PtpFrom) (rx : Nat)
  /-- CDR_LOCK_LOSS (R411): A lane receiver's CDR loses lock, sets LOCK_LOST and can bring the port's link down. -/
  | cdrLockLoss (l : Nat)
  /-- FEC_LOCK_LOSS (R411): A port's FEC loses lock, sets LOCK_LOST and can bring the link down. -/
  | fecLockLoss (p : Nat)
  /-- VAUX_RETURN_QUALIFIED (R453): VAUX_A back in range for RETURN_MS returns the VAUX path to VAUX_A. -/
  | vauxReturnQualified (b : Bool)
  /-- HOST_LINK_DOWN (R523): The host's PCIe link goes down for a cause other than PERST, releasing every lock the host holds. -/
  | hostLinkDown
  /-- MOD_LOS_SAMPLE (R152): Every 10 µs the device samples MOD_LOS[q] into STRM.MODq_STATUS.LOS. -/
  | modLosSample (los : Nat)
  /-- HOST_BAR2_WRITE (R207): A host write over BAR2 to cluster memory or an LDM, carried as a best-effort cluster DMA request. -/
  | hostBar2Write (a : Nat) (bytes : List Byte)
  deriving DecidableEq, Repr

end Sys2Proof
end

