-- ==== Sys2Proof/Config.lean ====
section
/-! DEFINITION. What the spec leaves open and no number of the model's own may fill: opaque constants (free
values), the cryptographic functions the spec names without giving their arithmetic, and the values an
implementation fixes. Nothing in Lean can evaluate them; a statement about them holds whatever they are. -/

namespace Sys2Proof

/-! What a tile's configuration sets up (R262–R275, R280): its logic, signal by signal. A net is a one-bit signal of the tile, by number; a
list of nets is a bus, least significant bit first; a clock is named by its network. The form of the configuration is not published
(R296), so these parts stand for its meaning. -/

/-- A flip-flop (R262): clock, input, clock enable if used, set or reset if used (its net, asynchronous, the value it sets), initial value,
output. -/
structure FlipFlop where
  clk  : Nat
  d    : Nat
  ce   : Option Nat := none
  sr   : Option (Nat × Bool × Bool) := none
  init : Bool := false
  q    : Nat
  deriving DecidableEq, Repr

/-- A port of a leaf memory (R265, R266): shape 0 1K×40, 1 2K×20, 2 4K×10, 3 8K×5, 4 1K×32 with ECC; while it writes, its output gives
0 the old data, 1 the new data, 2 what it gave before. -/
structure LeafPort where
  shape : Nat
  clk   : Nat
  en    : Nat
  we    : Nat
  addr  : List Nat
  din   : List Nat
  dout  : List Nat
  mode  : Nat := 0
  deriving DecidableEq, Repr

/-- A frame block (R269–R271): its two ports; the words of a line in line mode, else 0, and the delay read; the block whose word at delay k
it takes as its written word, in a cascade. -/
structure FrameCfg where
  wclk  : Nat
  we    : Nat
  waddr : List Nat
  din   : List Nat
  rclk  : Nat
  re    : Nat
  raddr : List Nat
  dout  : List Nat
  line  : Nat := 0
  delay : List Nat := []
  from_ : Option Nat := none
  deriving DecidableEq, Repr

/-- An arithmetic slice (R272–R275): pre-adder 0 A + D, 1 A − D, 2 A; the accumulator's work on a bus, 0 M, 1 ACC + M, 2 M + CIN; shift and
width; the slice below it in its column, if it is chained. -/
structure SliceCfg where
  clk    : Nat
  a      : List Nat
  d      : List Nat
  b      : List Nat
  valid  : Nat
  pre    : Nat := 0
  acc    : List Nat := []
  n      : Nat := 0
  w      : Nat := 16
  below  : Option Nat := none
  satClr : Nat
  bxClr  : Nat
  r      : List Nat
  sat    : Nat
  bx     : List Nat
  deriving DecidableEq, Repr

/-- A tick tap's signals (R280), its clock, and whether that is a video PLL's output (R281). -/
structure TapCfg where
  clk      : Nat
  video    : Bool
  tick     : Nat
  slot     : Nat
  slotNum  : List Nat
  tickLo   : List Nat
  fault    : Nat
  spec     : Nat
  commit   : Nat
  rollback : Nat
  ctx      : List Nat
  deriving DecidableEq, Repr

/-- A part of a tile's design, in the order in which signals flow. A carry chain is given by its groups from the lowest up, each cell by its
two operands and its sum. LUT memory is 64 × 8, or eight shift registers of 32 bits. A wire brings a net of another tile. An outside signal
comes from a port, a pin or a clock. -/
inductive Part where
  | lut6 (table : Nat) (ins : List Nat) (out : Nat)
  | lut5 (ta tb : Nat) (shared : List Nat) (a b outA outB : Nat)
  | carry (groups : List (List (Nat × Nat × Nat))) (cin cout : Nat)
  | ff (c : FlipFlop)
  | lutMem (clk we : Nat) (addr din dout : List Nat) (init : Nat)
  | shifts (clk ce : Nat) (din dout : List Nat) (init : Nat)
  | leaf (m : Nat) (a b : LeafPort) (coll : Nat)
  | frame (m : Nat) (c : FrameCfg)
  | slice (m : Nat) (c : SliceCfg)
  | tap (c : TapCfg)
  | wire (net tile src : Nat)
  | outside (net : Nat)
  deriving DecidableEq, Repr

end Sys2Proof

namespace Sys2Proof.Config

/-- What frames 0–18,687 of a tile's configuration set up (R296: the contents are not published). -/
opaque tileParts : List (BitVec 8) → List Part

/-- A free value: the `k`-th one the run draws, a number of any size (notes/assumptions/5.md). -/
opaque freeValue : Nat → Nat

/-- SHA-384 of a byte string, 48 bytes as one number (R295, R297; FIPS 180-4 is named, its arithmetic is not
in the spec; notes/assumptions/6.md). -/
opaque sha384 : List (BitVec 8) → Nat

/-- Does the ECDSA P-384 signature verify? Arguments: key, message digest, signature (R297, R391). -/
opaque ecdsaVerify : List (BitVec 8) → Nat → List (BitVec 8) → Bool

/-- AES-256-GCM: does the tag verify? Arguments: key number, nonce, data, tag (R297, R388, R390). -/
opaque gcmVerify : Nat → Nat → List (BitVec 8) → Nat → Bool

/-- AES-256-GCM decryption of a byte string under a key number and a nonce (R295, R376). -/
opaque gcmDecrypt : Nat → Nat → List (BitVec 8) → List (BitVec 8)

/-- AES key unwrap (R394, R398): wrapping key number and the wrapped bytes; none where the check fails. -/
opaque keyUnwrap : Nat → List (BitVec 8) → Option Nat

/-- CRC-32 (IEEE 802.3) continued over more bytes (R434). -/
opaque crc32 : Nat → List (BitVec 8) → Nat

/-- CRC-64 (ECMA-182) of a byte string (R434). -/
opaque crc64 : List (BitVec 8) → Nat

/-! What the ledger's arithmetic leaves to the implementation (R58, R59, R63, R68, R85, R86, R145, R148, R170). -/

/-- Static power of a powered domain at 110 °C in mW, as fused (R59). -/
opaque staticMw : Nat → Nat

/-- Idle power of a domain's powered units at an operating point in mW (R59). -/
opaque idleMw : Nat → Nat → Nat

/-- Power of the maintenance tasks of R59 in mW. -/
opaque maintMw : Nat

/-- Packets in which one line of a format is sent, by FORMAT and block packing mode, where R145's case does not say (R145). -/
opaque linePackets : Nat → Bool → Nat

/-- Lines' second sample row data headers per line, by FORMAT and packing mode (R145). -/
opaque rowHeaders : Nat → Bool → Nat

/-- Payload bytes of a frame's ancillary packets, and how many ancillary packets they are, by FORMAT (R145 states neither). -/
opaque ancBytes : Nat → Nat
opaque ancPackets : Nat → Nat

/-- Slots of buffering that a contract's formats require, from source FORMAT to destination FORMAT (R68). -/
opaque formatSlots : Nat → Nat → Nat

/-- Raster wait in slots of a SYNC or COMPOSE output, by FORMAT and phase (R68). -/
opaque rasterWait : Nat → Nat → Nat

/-- The endpoint of a unit with several that the ledger picks: unit's first endpoint, stream number (R150). -/
opaque xbarPick : Nat → Nat → Nat

/-- The cluster the ledger picks for a stage that names any: descriptor, number of admissions so far (R85). -/
opaque clusterPick : Nat → Nat → Nat

/-- The transition stage's position among a switchable contract's stages, given their DESC_IDs (R170). -/
opaque switchPoint : List Nat → Nat

/-- Engines that run one stage of a descriptor (R170, R229). -/
opaque stageEngines : Nat → Nat

/-- Of the engines that run a switchable contract's downstream stages, those that hold the speculative copy at admission: egress key,
engine (R170, R212). -/
opaque specCopy : Nat → Nat → Bool

/-- Where the device places a buffer in DRAM: kind of buffer, index (R85, R157). -/
opaque dramPlace : Nat → Nat → Nat

/-- Tiles whose logic an image's globals touch, by the image's digest (R303; Uluviul's form is not published, R295). -/
opaque globalTiles : Nat → Nat

/-- Tiles that hold the logic of a fabric port in the configuration of a digest (R306). -/
opaque portTiles : Nat → Nat → Nat

/-- What an image's globals section sets, by the image's digest: a fabric PLL's use (0 none, 1 enabled), a video PLL's K, a
fabric port's declared clock in kHz, 0 for a port not used (R277, R278, R284, R295). -/
opaque fpllOn : Nat → Nat → Nat
opaque vpllK : Nat → Nat → Nat
opaque fportKhz : Nat → Nat → Nat

/-- Frequency in Hz of a clock source whose value the spec leaves to the board or the image, by its code (R472). -/
opaque clockHz : Nat → Nat

/-- The ROM's MISR signature for a variant, stepping, domain and kind of BIST (R545). -/
opaque bistSig : Nat → Nat → Nat → Nat → Nat

/-- Bytes of an egress's provisional buffer (R173). -/
opaque bufBytes : Nat → Nat

/-! What leaves on the wire, of which the spec names the standard or the source and gives no arithmetic (R136, R137, R142, R156). -/

/-- DID and SDID of a port's ancillary filter entries (R136: no command sets them). -/
opaque ancFilters : Nat → List (Nat × Nat)

/-- The CRC of an SDI line's words, and the ST 352 payload ID of a FORMAT (R136). -/
opaque lineCrc : List (BitVec 8) → Nat
opaque payloadId : Nat → Nat

/-- The initial extended sequence number, from the contract ID and the activation tick (R142). -/
opaque initSeq : Nat → Nat → Nat

/-- The default TROFFSET of ST 2110-21 in ns, by FORMAT (R140). -/
opaque trOffset : Nat → Nat

/-- Black of a FORMAT: the content of its line `n` (R137, R156). -/
opaque blackLine : Nat → Nat → List (BitVec 8)

/-- Silence of an audio FORMAT, and packet `k` of the linear fade from the last content into it (R156). -/
opaque silence : Nat → List (BitVec 8)
opaque fade : Nat → List (BitVec 8) → Nat → List (BitVec 8)

/-- The timecode packets alone of an ancillary unit, counted on by `n` frames (R156). -/
opaque timecode : List (BitVec 8) → Nat → List (BitVec 8)

end Sys2Proof.Config
end

