-- ==== Sys2Proof/Machine/Maps.lean ====
section
/-! DEFINITION. Sparse maps: the one form in which the model holds registers, memories and tables. A map
lists (key, value) pairs, keys strictly rising, no entry equal to what an unlisted key reads as, so that
equal maps are equal data. -/

namespace Sys2Proof.Machine

/-- A sparse map from numbers: entries by rising key. -/
abbrev SMap (α : Type) := List (Nat × α)

/-- The value at `k`; an unlisted key reads as `d k`. -/
def SMap.get {α : Type} (d : Nat → α) : SMap α → Nat → α
  | [], k => d k
  | (k', v) :: m, k => if k' = k then v else SMap.get d m k

/-- Insert or replace the entry of `k`, keeping the keys in order. -/
def SMap.insert {α : Type} (k : Nat) (v : α) : SMap α → SMap α
  | [] => [(k, v)]
  | (k', v') :: m =>
    if k < k' then (k, v) :: (k', v') :: m
    else if k = k' then (k, v) :: m
    else (k', v') :: SMap.insert k v m

/-- Drop every entry of `k`. -/
def SMap.erase {α : Type} (k : Nat) : SMap α → SMap α
  | [] => []
  | (k', v') :: m => if k' = k then SMap.erase k m else (k', v') :: SMap.erase k m

/-- Write `v` at `k`: writing what an unlisted key reads as removes the entry (canonical form). -/
def SMap.set {α : Type} [DecidableEq α] (d : Nat → α) (m : SMap α) (k : Nat) (v : α) : SMap α :=
  if v = d k then SMap.erase k m else SMap.insert k v m

/-- Apply `f` to the value at `k`. -/
def SMap.upd {α : Type} [DecidableEq α] (d : Nat → α) (m : SMap α) (k : Nat) (f : α → α) : SMap α :=
  SMap.set d m k (f (SMap.get d m k))

/-- Keep the entries whose key satisfies `p`; the others return to what an unlisted key reads as. -/
def SMap.keep {α : Type} (p : Nat → Bool) (m : SMap α) : SMap α := m.filter (fun e => p e.1)

/-- Apply `f` to every listed entry, dropping those that become equal to the unlisted value. -/
def SMap.mapAll {α : Type} [DecidableEq α] (d : Nat → α) (f : Nat → α → α) (m : SMap α) : SMap α :=
  (m.map (fun e => (e.1, f e.1 e.2))).filter (fun e => !decide (e.2 = d e.1))

/-- The canonical form: keys strictly rising and no entry equal to what an unlisted key reads as. -/
def SMap.wf {α : Type} [DecidableEq α] (d : Nat → α) : SMap α → Bool
  | [] => true
  | [(k, v)] => !decide (v = d k)
  | (k, v) :: (k', v') :: m => !decide (v = d k) && decide (k < k') && SMap.wf d ((k', v') :: m)

/-! Byte memories: `Host.Cell` lists in the same canonical form. -/

/-- A byte memory. -/
abbrev Memory := List Host.Cell

/-- What an unlisted byte of a memory reads as (DESIGN CHOICE, notes/assumptions/3.md: the spec gives the
host memory, the device DRAM and the RAMs no contents at power-on). -/
def Memory.blank : Nat → Byte := fun _ => 0

/-- One byte of a memory. -/
def Memory.read (m : Memory) (a : Nat) : Byte := SMap.get Memory.blank m a

/-- Write one byte. -/
def Memory.write (m : Memory) (a : Nat) (b : Byte) : Memory := SMap.set Memory.blank m a b

/-- `n` bytes from `a` upward. -/
def Memory.readN (m : Memory) (a : Nat) : Nat → List Byte
  | 0 => []
  | n + 1 => m.read a :: Memory.readN m (a + 1) n

/-- Write a list of bytes from `a` upward. -/
def Memory.writeN (m : Memory) (a : Nat) : List Byte → Memory
  | [] => m
  | b :: bs => Memory.writeN (m.write a b) (a + 1) bs

/-- The canonical form of a memory. -/
def Memory.wf (m : Memory) : Bool := SMap.wf Memory.blank m

/-! Little-endian numbers in byte lists (00_scope.md "Conventions"; R97). -/

/-- The number in `n` bytes of `p` from byte `k`, little-endian; bytes past the end read 0. -/
def leAt (p : List Byte) (k : Nat) : Nat → Nat
  | 0 => 0
  | n + 1 => (p.getD k 0).toNat + 256 * leAt p (k + 1) n

def u8 (p : List Byte) (k : Nat) : Nat := leAt p k 1
def u16 (p : List Byte) (k : Nat) : Nat := leAt p k 2
def u32 (p : List Byte) (k : Nat) : Nat := leAt p k 4
def u64 (p : List Byte) (k : Nat) : Nat := leAt p k 8

/-- `n` bytes of a number, little-endian. -/
def toLe : Nat → Nat → List Byte
  | 0, _ => []
  | n + 1, v => BitVec.ofNat 8 v :: toLe n (v / 256)

/-- Every byte of `p` from `k` to the end is zero. -/
def zeroFrom (p : List Byte) (k : Nat) : Bool := (p.drop k).all (fun b => b == 0)

/-- The bytes `k` to `k + n - 1` of `p` are zero (bytes past the end count as zero). -/
def zeroAt (p : List Byte) (k n : Nat) : Bool := ((p.drop k).take n).all (fun b => b == 0)

/-- `p` filled with zero bytes, or cut, to `n` bytes. -/
def fitTo (n : Nat) (p : List Byte) : List Byte := (p ++ List.replicate n 0).take n

/-- Bit `i` of a number. -/
def bit (v i : Nat) : Bool := v / 2 ^ i % 2 == 1

/-- A number with bit `i` set. -/
def setBit (v i : Nat) : Nat := if bit v i then v else v + 2 ^ i

/-- A number with bit `i` clear. -/
def clrBit (v i : Nat) : Nat := if bit v i then v - 2 ^ i else v

/-- The first failing check of a list, in the order given. -/
def firstErr : List (Bool × Nat) → Option Nat
  | [] => none
  | (c, e) :: t => if c then some e else firstErr t

/-- Replace the elements of a list that satisfy `p`. -/
def updWhere {α : Type} (p : α → Bool) (f : α → α) (l : List α) : List α :=
  l.map (fun x => if p x then f x else x)

end Sys2Proof.Machine
end

