-- ==== Sys2Proof/Machine/Regs.lean ====
section
/-! DEFINITION. The register file's layout: every register and field of the block by the name the spec's register
tables give it (BLOCK.REGISTER.FIELD), at its BAR0 byte offset; and the table of the registers with their power
domain, reset value (the fuse, strap and fixed fields apart, which State holds) and writable fields with their
access type and range (00_scope.md "Conventions", R14, R569; each chapter's own register tables). -/

namespace Sys2Proof.Machine

/-- Access types of a field that a write reaches (00_scope.md "Conventions"). -/
inductive FTy where
  | rw | w1c | w1s | rc | wo
  deriving DecidableEq, Repr

/-- A writable or read-clear field: lowest bit, width, access type, lowest and highest value a write may give. -/
structure FSpec where
  lsb : Nat
  w   : Nat
  ty  : FTy
  lo  : Nat
  hi  : Nat
  deriving DecidableEq, Repr

/-- The power domain a register lives in: a fixed one, that of its cluster, lane or tile. -/
inductive DomOf where
  | pd (n : Nat) | cluster | lane | tile
  deriving DecidableEq, Repr

/-- One register, or one array of registers: base offset, (stride, count) of each dimension, domain, reset value,
and the fields that a generic write or read can change. -/
structure RegSpec where
  base : Nat
  dims : List (Nat × Nat)
  dom  : DomOf
  rst  : Nat
  flds : List FSpec
  deriving DecidableEq, Repr

/-- Is the byte offset `o` a register of the array? -/
def RegSpec.has (r : RegSpec) (o : Nat) : Bool :=
  if o < r.base then false
  else
    let d := o - r.base
    match r.dims with
    | [] => d == 0
    | [(s, c)] => d % s == 0 && decide (d / s < c)
    | (s, c) :: (s', c') :: _ => decide (d / s < c) && d % s % s' == 0 && decide (d % s / s' < c')

/-! CAPS.ID (00_scope.md, domain 0). -/
def Reg.CAPS.ID : Nat := 0x0
def Reg.CAPS.ID.VARIANT : Fld := ⟨Reg.CAPS.ID, 0, 4⟩
def Reg.CAPS.ID.SPEED : Fld := ⟨Reg.CAPS.ID, 4, 4⟩
def Reg.CAPS.ID.STEPPING : Fld := ⟨Reg.CAPS.ID, 8, 8⟩
def Reg.CAPS.ID.PROFILE : Fld := ⟨Reg.CAPS.ID, 16, 8⟩
def Reg.CAPS.ID.ALG_VER : Fld := ⟨Reg.CAPS.ID, 24, 4⟩

/-! CAPS.UNITS (00_scope.md, domain 0). -/
def Reg.CAPS.UNITS : Nat := 0x4
def Reg.CAPS.UNITS.CLUSTERS : Fld := ⟨Reg.CAPS.UNITS, 0, 8⟩
def Reg.CAPS.UNITS.FDOM : Fld := ⟨Reg.CAPS.UNITS, 8, 14⟩
def Reg.CAPS.UNITS.MC : Fld := ⟨Reg.CAPS.UNITS, 22, 8⟩
def Reg.CAPS.UNITS.PLANE : Fld := ⟨Reg.CAPS.UNITS, 30, 1⟩
def Reg.CAPS.UNITS.IME : Fld := ⟨Reg.CAPS.UNITS, 31, 1⟩

/-! CAPS.LANES (00_scope.md, domain 0). -/
def Reg.CAPS.LANES : Nat := 0x8
def Reg.CAPS.LANES.NQ : Fld := ⟨Reg.CAPS.LANES, 0, 24⟩
def Reg.CAPS.LANES.PQ : Fld := ⟨Reg.CAPS.LANES, 24, 4⟩

/-! TICK.STATUS (01_tick_and_reference.md, domain 0). -/
def Reg.TICK.STATUS : Nat := 0x60000
def Reg.TICK.STATUS.RATE : Fld := ⟨Reg.TICK.STATUS, 0, 4⟩
def Reg.TICK.STATUS.LOCK : Fld := ⟨Reg.TICK.STATUS, 4, 2⟩
def Reg.TICK.STATUS.SRC : Fld := ⟨Reg.TICK.STATUS, 6, 3⟩
def Reg.TICK.STATUS.SLEWING : Fld := ⟨Reg.TICK.STATUS, 9, 1⟩
def Reg.TICK.STATUS.STEP_PEND : Fld := ⟨Reg.TICK.STATUS, 10, 1⟩
def Reg.TICK.STATUS.TIME_VALID : Fld := ⟨Reg.TICK.STATUS, 11, 1⟩
def Reg.TICK.STATUS.SLOT : Fld := ⟨Reg.TICK.STATUS, 12, 11⟩
def Reg.TICK.STATUS.SEL_PEND : Fld := ⟨Reg.TICK.STATUS, 23, 1⟩
def Reg.TICK.STATUS.ACTIVE_ENTRY : Fld := ⟨Reg.TICK.STATUS, 24, 2⟩

/-! TICK.NUM_LO (01_tick_and_reference.md, domain 0). -/
def Reg.TICK.NUM_LO : Nat := 0x60004
def Reg.TICK.NUM_LO.NUM_LO : Fld := ⟨Reg.TICK.NUM_LO, 0, 32⟩

/-! TICK.NUM_HI (01_tick_and_reference.md, domain 0). -/
def Reg.TICK.NUM_HI : Nat := 0x60008
def Reg.TICK.NUM_HI.NUM_HI : Fld := ⟨Reg.TICK.NUM_HI, 0, 32⟩

/-! TICK.SNAP (01_tick_and_reference.md, domain 0). -/
def Reg.TICK.SNAP : Nat := 0x6000C
def Reg.TICK.SNAP.SLOT : Fld := ⟨Reg.TICK.SNAP, 0, 11⟩
def Reg.TICK.SNAP.NS : Fld := ⟨Reg.TICK.SNAP, 11, 16⟩

/-! TICK.PHASE_ERR (01_tick_and_reference.md, domain 0). -/
def Reg.TICK.PHASE_ERR : Nat := 0x60010
def Reg.TICK.PHASE_ERR.ERR : Fld := ⟨Reg.TICK.PHASE_ERR, 0, 32⟩

/-! TICK.REF_ENTRY0–3 (01_tick_and_reference.md, domain 0). -/
def Reg.TICK.REF_ENTRY (n : Nat) : Nat := 0x60014 + 0x4 * n
def Reg.TICK.REF_ENTRY.SRC (n : Nat) : Fld := ⟨(Reg.TICK.REF_ENTRY n), 0, 3⟩
def Reg.TICK.REF_ENTRY.DOMAIN (n : Nat) : Fld := ⟨(Reg.TICK.REF_ENTRY n), 8, 8⟩
def Reg.TICK.REF_ENTRY.INDEX (n : Nat) : Fld := ⟨(Reg.TICK.REF_ENTRY n), 16, 16⟩

/-! TICK.LOCK_CFG (01_tick_and_reference.md, domain 0). -/
def Reg.TICK.LOCK_CFG : Nat := 0x60024
def Reg.TICK.LOCK_CFG.LOCK_WINDOW : Fld := ⟨Reg.TICK.LOCK_CFG, 0, 10⟩
def Reg.TICK.LOCK_CFG.LOCK_COUNT : Fld := ⟨Reg.TICK.LOCK_CFG, 16, 8⟩
def Reg.TICK.LOCK_CFG.SLEW_PPM : Fld := ⟨Reg.TICK.LOCK_CFG, 24, 7⟩

/-! TICK.HOLD_CFG (01_tick_and_reference.md, domain 0). -/
def Reg.TICK.HOLD_CFG : Nat := 0x60028
def Reg.TICK.HOLD_CFG.HOLDOVER_LIMIT : Fld := ⟨Reg.TICK.HOLD_CFG, 0, 16⟩
def Reg.TICK.HOLD_CFG.LOSS_TICKS : Fld := ⟨Reg.TICK.HOLD_CFG, 16, 8⟩

/-! TICK.EVENT (01_tick_and_reference.md, domain 0). -/
def Reg.TICK.EVENT : Nat := 0x6002C
def Reg.TICK.EVENT.LOCKED : Fld := ⟨Reg.TICK.EVENT, 0, 1⟩
def Reg.TICK.EVENT.HOLDOVER_ENTER : Fld := ⟨Reg.TICK.EVENT, 1, 1⟩
def Reg.TICK.EVENT.HOLDOVER_EXPIRED : Fld := ⟨Reg.TICK.EVENT, 2, 1⟩
def Reg.TICK.EVENT.REF_SWITCH : Fld := ⟨Reg.TICK.EVENT, 3, 1⟩
def Reg.TICK.EVENT.STEP_NEEDED : Fld := ⟨Reg.TICK.EVENT, 4, 1⟩
def Reg.TICK.EVENT.STEP_DONE : Fld := ⟨Reg.TICK.EVENT, 5, 1⟩
def Reg.TICK.EVENT.OUT_OF_RANGE : Fld := ⟨Reg.TICK.EVENT, 6, 1⟩
def Reg.TICK.EVENT.TREE_FAULT : Fld := ⟨Reg.TICK.EVENT, 7, 1⟩
def Reg.TICK.EVENT.SEL_APPLIED : Fld := ⟨Reg.TICK.EVENT, 8, 1⟩

/-! TICK.EVENT_CNT (01_tick_and_reference.md, domain 0). -/
def Reg.TICK.EVENT_CNT : Nat := 0x60030
def Reg.TICK.EVENT_CNT.REF_SWITCH_CNT : Fld := ⟨Reg.TICK.EVENT_CNT, 0, 16⟩
def Reg.TICK.EVENT_CNT.TREE_FAULT_CNT : Fld := ⟨Reg.TICK.EVENT_CNT, 16, 16⟩

/-! TICK.CAD_CFG0–7 (01_tick_and_reference.md, domain 0). -/
def Reg.TICK.CAD_CFG (n : Nat) : Nat := 0x60040 + 0x4 * n
def Reg.TICK.CAD_CFG.RATE (n : Nat) : Fld := ⟨(Reg.TICK.CAD_CFG n), 0, 4⟩
def Reg.TICK.CAD_CFG.EN (n : Nat) : Fld := ⟨(Reg.TICK.CAD_CFG n), 4, 1⟩
def Reg.TICK.CAD_CFG.MAX_PER_TICK (n : Nat) : Fld := ⟨(Reg.TICK.CAD_CFG n), 8, 4⟩
def Reg.TICK.CAD_CFG.USERS (n : Nat) : Fld := ⟨(Reg.TICK.CAD_CFG n), 16, 13⟩

/-! TICK.REFA_STATUS (01_tick_and_reference.md, domain 0). -/
def Reg.TICK.REF_STATUS (n : Nat) : Nat := 0x60060 + 0x4 * n
def Reg.TICK.REF_STATUS.PRESENT (n : Nat) : Fld := ⟨(Reg.TICK.REF_STATUS n), 0, 1⟩
def Reg.TICK.REF_STATUS.FMT (n : Nat) : Fld := ⟨(Reg.TICK.REF_STATUS n), 1, 3⟩
def Reg.TICK.REF_STATUS.FRATE (n : Nat) : Fld := ⟨(Reg.TICK.REF_STATUS n), 4, 4⟩
def Reg.TICK.REF_STATUS.LOSS_CNT (n : Nat) : Fld := ⟨(Reg.TICK.REF_STATUS n), 16, 16⟩

/-! LEDGER.STATUS (02_ledger.md, domain 1). -/
def Reg.LEDGER.STATUS : Nat := 0x70000
def Reg.LEDGER.STATUS.POSTURE : Fld := ⟨Reg.LEDGER.STATUS, 0, 2⟩
def Reg.LEDGER.STATUS.POST_PEND : Fld := ⟨Reg.LEDGER.STATUS, 2, 1⟩
def Reg.LEDGER.STATUS.THERM_BLOCK : Fld := ⟨Reg.LEDGER.STATUS, 3, 1⟩
def Reg.LEDGER.STATUS.ALG_VER : Fld := ⟨Reg.LEDGER.STATUS, 4, 4⟩
def Reg.LEDGER.STATUS.BATCH : Fld := ⟨Reg.LEDGER.STATUS, 8, 8⟩
def Reg.LEDGER.STATUS.CONTRACTS : Fld := ⟨Reg.LEDGER.STATUS, 16, 13⟩

/-! LEDGER.ACTIVE (02_ledger.md, domain 1). -/
def Reg.LEDGER.ACTIVE : Nat := 0x70004
def Reg.LEDGER.ACTIVE.ACTIVE : Fld := ⟨Reg.LEDGER.ACTIVE, 0, 13⟩
def Reg.LEDGER.ACTIVE.DEGRADED : Fld := ⟨Reg.LEDGER.ACTIVE, 16, 13⟩

/-! LEDGER.MISS (02_ledger.md, domain 1). -/
def Reg.LEDGER.MISS : Nat := 0x70008
def Reg.LEDGER.MISS.DEADLINE_MISS : Fld := ⟨Reg.LEDGER.MISS, 0, 32⟩

/-! LEDGER.MISS_LAST (02_ledger.md, domain 1). -/
def Reg.LEDGER.MISS_LAST : Nat := 0x7000C
def Reg.LEDGER.MISS_LAST.INDEX : Fld := ⟨Reg.LEDGER.MISS_LAST, 0, 12⟩
def Reg.LEDGER.MISS_LAST.DST : Fld := ⟨Reg.LEDGER.MISS_LAST, 12, 4⟩
def Reg.LEDGER.MISS_LAST.TICK : Fld := ⟨Reg.LEDGER.MISS_LAST, 16, 16⟩

/-! LEDGER.PWR (02_ledger.md, domain 1). -/
def Reg.LEDGER.PWR : Nat := 0x70010
def Reg.LEDGER.PWR.CAP : Fld := ⟨Reg.LEDGER.PWR, 0, 12⟩
def Reg.LEDGER.PWR.USED : Fld := ⟨Reg.LEDGER.PWR, 16, 12⟩

/-! LEDGER.HR_SEL (02_ledger.md, domain 1). -/
def Reg.LEDGER.HR_SEL : Nat := 0x70014
def Reg.LEDGER.HR_SEL.RES : Fld := ⟨Reg.LEDGER.HR_SEL, 0, 5⟩
def Reg.LEDGER.HR_SEL.INST : Fld := ⟨Reg.LEDGER.HR_SEL, 8, 8⟩
def Reg.LEDGER.HR_SEL.SLOT : Fld := ⟨Reg.LEDGER.HR_SEL, 16, 11⟩
def Reg.LEDGER.HR_SEL.COUNT : Fld := ⟨Reg.LEDGER.HR_SEL, 27, 1⟩

/-! LEDGER.HR (02_ledger.md, domain 1). -/
def Reg.LEDGER.HR : Nat := 0x70018
def Reg.LEDGER.HR.HEADROOM : Fld := ⟨Reg.LEDGER.HR, 0, 32⟩

/-! LEDGER.EVENT (02_ledger.md, domain 1). -/
def Reg.LEDGER.EVENT : Nat := 0x7001C
def Reg.LEDGER.EVENT.BATCH_DONE : Fld := ⟨Reg.LEDGER.EVENT, 0, 1⟩
def Reg.LEDGER.EVENT.DEADLINE_MISS : Fld := ⟨Reg.LEDGER.EVENT, 1, 1⟩
def Reg.LEDGER.EVENT.STARVED : Fld := ⟨Reg.LEDGER.EVENT, 2, 1⟩
def Reg.LEDGER.EVENT.RESUMED : Fld := ⟨Reg.LEDGER.EVENT, 3, 1⟩
def Reg.LEDGER.EVENT.HELD : Fld := ⟨Reg.LEDGER.EVENT, 4, 1⟩
def Reg.LEDGER.EVENT.RELEASED : Fld := ⟨Reg.LEDGER.EVENT, 5, 1⟩
def Reg.LEDGER.EVENT.POSTURE_APPLIED : Fld := ⟨Reg.LEDGER.EVENT, 6, 1⟩
def Reg.LEDGER.EVENT.XDEV_ABORT : Fld := ⟨Reg.LEDGER.EVENT, 7, 1⟩
def Reg.LEDGER.EVENT.ACT_EXPIRED : Fld := ⟨Reg.LEDGER.EVENT, 8, 1⟩

/-! LEDGER.EVENT_CNT (02_ledger.md, domain 1). -/
def Reg.LEDGER.EVENT_CNT : Nat := 0x70020
def Reg.LEDGER.EVENT_CNT.STARVED_CNT : Fld := ⟨Reg.LEDGER.EVENT_CNT, 0, 16⟩
def Reg.LEDGER.EVENT_CNT.HELD_CNT : Fld := ⟨Reg.LEDGER.EVENT_CNT, 16, 16⟩

/-! CMD.RINGn_SQ_BASE_LO (03_commands.md, domain 1). -/
def Reg.CMD.RING_SQ_BASE_LO (n : Nat) : Nat := 0x20000 + 0x40 * n
def Reg.CMD.RING_SQ_BASE_LO.ADDR_LO (n : Nat) : Fld := ⟨(Reg.CMD.RING_SQ_BASE_LO n), 6, 26⟩

/-! CMD.RINGn_SQ_BASE_LO (03_commands.md, domain 1). -/
def Reg.CMD.RING_SQ_BASE_HI (n : Nat) : Nat := 0x20004 + 0x40 * n
def Reg.CMD.RING_SQ_BASE_HI.ADDR_HI (n : Nat) : Fld := ⟨(Reg.CMD.RING_SQ_BASE_HI n), 0, 32⟩

/-! CMD.RINGn_CQ_BASE_LO (03_commands.md, domain 1). -/
def Reg.CMD.RING_CQ_BASE_LO (n : Nat) : Nat := 0x20008 + 0x40 * n
def Reg.CMD.RING_CQ_BASE_LO.ADDR_LO (n : Nat) : Fld := ⟨(Reg.CMD.RING_CQ_BASE_LO n), 5, 27⟩

/-! CMD.RINGn_CQ_BASE_LO (03_commands.md, domain 1). -/
def Reg.CMD.RING_CQ_BASE_HI (n : Nat) : Nat := 0x2000C + 0x40 * n
def Reg.CMD.RING_CQ_BASE_HI.ADDR_HI (n : Nat) : Fld := ⟨(Reg.CMD.RING_CQ_BASE_HI n), 0, 32⟩

/-! CMD.RINGn_CFG (03_commands.md, domain 1). -/
def Reg.CMD.RING_CFG (n : Nat) : Nat := 0x20010 + 0x40 * n
def Reg.CMD.RING_CFG.EN (n : Nat) : Fld := ⟨(Reg.CMD.RING_CFG n), 0, 1⟩
def Reg.CMD.RING_CFG.CANCEL (n : Nat) : Fld := ⟨(Reg.CMD.RING_CFG n), 1, 1⟩
def Reg.CMD.RING_CFG.LOG2_LEN (n : Nat) : Fld := ⟨(Reg.CMD.RING_CFG n), 4, 4⟩
def Reg.CMD.RING_CFG.WB_EN (n : Nat) : Fld := ⟨(Reg.CMD.RING_CFG n), 8, 1⟩

/-! CMD.RINGn_SQ_TAIL (03_commands.md, domain 1). -/
def Reg.CMD.RING_SQ_TAIL (n : Nat) : Nat := 0x20014 + 0x40 * n
def Reg.CMD.RING_SQ_TAIL.INDEX (n : Nat) : Fld := ⟨(Reg.CMD.RING_SQ_TAIL n), 0, 12⟩

/-! CMD.RINGn_SQ_TAIL (03_commands.md, domain 1). -/
def Reg.CMD.RING_SQ_HEAD (n : Nat) : Nat := 0x20018 + 0x40 * n
def Reg.CMD.RING_SQ_HEAD.INDEX (n : Nat) : Fld := ⟨(Reg.CMD.RING_SQ_HEAD n), 0, 12⟩

/-! CMD.RINGn_SQ_TAIL (03_commands.md, domain 1). -/
def Reg.CMD.RING_CQ_TAIL (n : Nat) : Nat := 0x2001C + 0x40 * n
def Reg.CMD.RING_CQ_TAIL.INDEX (n : Nat) : Fld := ⟨(Reg.CMD.RING_CQ_TAIL n), 0, 12⟩

/-! CMD.RINGn_SQ_TAIL (03_commands.md, domain 1). -/
def Reg.CMD.RING_CQ_HEAD (n : Nat) : Nat := 0x20020 + 0x40 * n
def Reg.CMD.RING_CQ_HEAD.INDEX (n : Nat) : Fld := ⟨(Reg.CMD.RING_CQ_HEAD n), 0, 12⟩

/-! CMD.RINGn_WB_LO (03_commands.md, domain 1). -/
def Reg.CMD.RING_WB_LO (n : Nat) : Nat := 0x20024 + 0x40 * n
def Reg.CMD.RING_WB_LO.ADDR_LO (n : Nat) : Fld := ⟨(Reg.CMD.RING_WB_LO n), 3, 29⟩

/-! CMD.RINGn_WB_LO (03_commands.md, domain 1). -/
def Reg.CMD.RING_WB_HI (n : Nat) : Nat := 0x20028 + 0x40 * n
def Reg.CMD.RING_WB_HI.ADDR_HI (n : Nat) : Fld := ⟨(Reg.CMD.RING_WB_HI n), 0, 32⟩

/-! CMD.RINGn_STATUS (03_commands.md, domain 1). -/
def Reg.CMD.RING_STATUS (n : Nat) : Nat := 0x2002C + 0x40 * n
def Reg.CMD.RING_STATUS.IDLE (n : Nat) : Fld := ⟨(Reg.CMD.RING_STATUS n), 0, 1⟩
def Reg.CMD.RING_STATUS.RING_PEND (n : Nat) : Fld := ⟨(Reg.CMD.RING_STATUS n), 1, 1⟩
def Reg.CMD.RING_STATUS.PEND_LOG2 (n : Nat) : Fld := ⟨(Reg.CMD.RING_STATUS n), 2, 4⟩
def Reg.CMD.RING_STATUS.FETCH_ERR (n : Nat) : Fld := ⟨(Reg.CMD.RING_STATUS n), 6, 1⟩
def Reg.CMD.RING_STATUS.DATA_ERR (n : Nat) : Fld := ⟨(Reg.CMD.RING_STATUS n), 7, 1⟩
def Reg.CMD.RING_STATUS.DOORBELL_ERR (n : Nat) : Fld := ⟨(Reg.CMD.RING_STATUS n), 8, 1⟩
def Reg.CMD.RING_STATUS.CFG_ERR (n : Nat) : Fld := ⟨(Reg.CMD.RING_STATUS n), 9, 1⟩
def Reg.CMD.RING_STATUS.OUTSTANDING (n : Nat) : Fld := ⟨(Reg.CMD.RING_STATUS n), 16, 12⟩

/-! CMD.STATUS (03_commands.md, domain 1). -/
def Reg.CMD.STATUS : Nat := 0x20100
def Reg.CMD.STATUS.FW_READY : Fld := ⟨Reg.CMD.STATUS, 0, 1⟩
def Reg.CMD.STATUS.CORE_UP : Fld := ⟨Reg.CMD.STATUS, 1, 4⟩
def Reg.CMD.STATUS.PATCH_LEVEL : Fld := ⟨Reg.CMD.STATUS, 8, 8⟩
def Reg.CMD.STATUS.RESTARTS : Fld := ⟨Reg.CMD.STATUS, 16, 8⟩

/-! CMD.EVENT (03_commands.md, domain 1). -/
def Reg.CMD.EVENT : Nat := 0x20104
def Reg.CMD.EVENT.CQ : Fld := ⟨Reg.CMD.EVENT, 0, 4⟩
def Reg.CMD.EVENT.RING_ERR : Fld := ⟨Reg.CMD.EVENT, 4, 1⟩
def Reg.CMD.EVENT.CORE_RESTART : Fld := ⟨Reg.CMD.EVENT, 5, 1⟩
def Reg.CMD.EVENT.OVERRUN : Fld := ⟨Reg.CMD.EVENT, 6, 1⟩
def Reg.CMD.EVENT.SPI_ERR : Fld := ⟨Reg.CMD.EVENT, 7, 1⟩

/-! CMD.OVERRUN (03_commands.md, domain 1). -/
def Reg.CMD.OVERRUN : Nat := 0x20108
def Reg.CMD.OVERRUN.OVERRUN_CNT : Fld := ⟨Reg.CMD.OVERRUN, 0, 16⟩
def Reg.CMD.OVERRUN.FWD_LATE_CNT : Fld := ⟨Reg.CMD.OVERRUN, 16, 16⟩

/-! CMD.FWD_CFG (03_commands.md, domain 1). -/
def Reg.CMD.FWD_CFG : Nat := 0x2010C
def Reg.CMD.FWD_CFG.FWD_TIMEOUT : Fld := ⟨Reg.CMD.FWD_CFG, 0, 8⟩

/-! CMD.SPI_STATUS (03_commands.md, domain 1). -/
def Reg.CMD.SPI_STATUS : Nat := 0x20110
def Reg.CMD.SPI_STATUS.SUB_FREE : Fld := ⟨Reg.CMD.SPI_STATUS, 0, 5⟩
def Reg.CMD.SPI_STATUS.REPLIES : Fld := ⟨Reg.CMD.SPI_STATUS, 8, 5⟩
def Reg.CMD.SPI_STATUS.FRAME_ERR : Fld := ⟨Reg.CMD.SPI_STATUS, 16, 1⟩
def Reg.CMD.SPI_STATUS.OVERFLOW : Fld := ⟨Reg.CMD.SPI_STATUS, 17, 1⟩
def Reg.CMD.SPI_STATUS.FW_READY : Fld := ⟨Reg.CMD.SPI_STATUS, 18, 1⟩

/-! STRM.PORTp_STATUS (04_streams.md, domain 3). -/
def Reg.STRM.PORT_STATUS (n : Nat) : Nat := 0x300000 + 0x10 * n
def Reg.STRM.PORT_STATUS.KIND (n : Nat) : Fld := ⟨(Reg.STRM.PORT_STATUS n), 0, 3⟩
def Reg.STRM.PORT_STATUS.SIG_DET (n : Nat) : Fld := ⟨(Reg.STRM.PORT_STATUS n), 3, 1⟩
def Reg.STRM.PORT_STATUS.LOCKED (n : Nat) : Fld := ⟨(Reg.STRM.PORT_STATUS n), 4, 1⟩
def Reg.STRM.PORT_STATUS.RATE (n : Nat) : Fld := ⟨(Reg.STRM.PORT_STATUS n), 5, 4⟩
def Reg.STRM.PORT_STATUS.PID_VALID (n : Nat) : Fld := ⟨(Reg.STRM.PORT_STATUS n), 9, 1⟩
def Reg.STRM.PORT_STATUS.IN_USE (n : Nat) : Fld := ⟨(Reg.STRM.PORT_STATUS n), 10, 1⟩

/-! STRM.PORTp_PID (04_streams.md, domain 3). -/
def Reg.STRM.PORT_PID (n : Nat) : Nat := 0x300004 + 0x10 * n
def Reg.STRM.PORT_PID.FORMAT (n : Nat) : Fld := ⟨(Reg.STRM.PORT_PID n), 0, 32⟩

/-! STRM.PORTp_ERR (04_streams.md, domain 3). -/
def Reg.STRM.PORT_ERR (n : Nat) : Nat := 0x300008 + 0x10 * n
def Reg.STRM.PORT_ERR.CRC_CNT (n : Nat) : Fld := ⟨(Reg.STRM.PORT_ERR n), 0, 16⟩
def Reg.STRM.PORT_ERR.LINE_CNT (n : Nat) : Fld := ⟨(Reg.STRM.PORT_ERR n), 16, 16⟩

/-! STRM.PORTp_EVENT (04_streams.md, domain 3). -/
def Reg.STRM.PORT_EVENT (n : Nat) : Nat := 0x30000C + 0x10 * n
def Reg.STRM.PORT_EVENT.SIG_LOST (n : Nat) : Fld := ⟨(Reg.STRM.PORT_EVENT n), 0, 1⟩
def Reg.STRM.PORT_EVENT.SIG_FOUND (n : Nat) : Fld := ⟨(Reg.STRM.PORT_EVENT n), 1, 1⟩
def Reg.STRM.PORT_EVENT.LOCK (n : Nat) : Fld := ⟨(Reg.STRM.PORT_EVENT n), 2, 1⟩
def Reg.STRM.PORT_EVENT.FORMAT_CHANGED (n : Nat) : Fld := ⟨(Reg.STRM.PORT_EVENT n), 3, 1⟩
def Reg.STRM.PORT_EVENT.CRC_ERR (n : Nat) : Fld := ⟨(Reg.STRM.PORT_EVENT n), 4, 1⟩
def Reg.STRM.PORT_EVENT.LINE_ERR (n : Nat) : Fld := ⟨(Reg.STRM.PORT_EVENT n), 5, 1⟩

/-! STRM.MODq_STATUS (04_streams.md, domain 3). -/
def Reg.STRM.MOD_STATUS (n : Nat) : Nat := 0x301000 + 0x8 * n
def Reg.STRM.MOD_STATUS.PRESENT (n : Nat) : Fld := ⟨(Reg.STRM.MOD_STATUS n), 0, 1⟩
def Reg.STRM.MOD_STATUS.LOS (n : Nat) : Fld := ⟨(Reg.STRM.MOD_STATUS n), 1, 1⟩
def Reg.STRM.MOD_STATUS.TYPE (n : Nat) : Fld := ⟨(Reg.STRM.MOD_STATUS n), 2, 2⟩
def Reg.STRM.MOD_STATUS.STATE (n : Nat) : Fld := ⟨(Reg.STRM.MOD_STATUS n), 4, 3⟩
def Reg.STRM.MOD_STATUS.MOD_INSERT (n : Nat) : Fld := ⟨(Reg.STRM.MOD_STATUS n), 8, 1⟩
def Reg.STRM.MOD_STATUS.MOD_REMOVE (n : Nat) : Fld := ⟨(Reg.STRM.MOD_STATUS n), 9, 1⟩
def Reg.STRM.MOD_STATUS.MOD_MISMATCH (n : Nat) : Fld := ⟨(Reg.STRM.MOD_STATUS n), 10, 1⟩
def Reg.STRM.MOD_STATUS.I2C_FAULT (n : Nat) : Fld := ⟨(Reg.STRM.MOD_STATUS n), 11, 1⟩

/-! STRM.MODq_CFG (04_streams.md, domain 3). -/
def Reg.STRM.MOD_CFG (n : Nat) : Nat := 0x301004 + 0x8 * n
def Reg.STRM.MOD_CFG.FAST (n : Nat) : Fld := ⟨(Reg.STRM.MOD_CFG n), 0, 1⟩

/-! STRM.FLOW_STATUS (04_streams.md, domain 3). -/
def Reg.STRM.FLOW_STATUS : Nat := 0x302000
def Reg.STRM.FLOW_STATUS.IN_USED : Fld := ⟨Reg.STRM.FLOW_STATUS, 0, 11⟩
def Reg.STRM.FLOW_STATUS.EG_USED : Fld := ⟨Reg.STRM.FLOW_STATUS, 16, 11⟩

/-! STRM.EVENT (04_streams.md, domain 3). -/
def Reg.STRM.EVENT : Nat := 0x302004
def Reg.STRM.EVENT.P400 : Fld := ⟨Reg.STRM.EVENT, 0, 4⟩
def Reg.STRM.EVENT.LEG_LOST : Fld := ⟨Reg.STRM.EVENT, 4, 1⟩
def Reg.STRM.EVENT.LEG_RESTORED : Fld := ⟨Reg.STRM.EVENT, 5, 1⟩
def Reg.STRM.EVENT.FLOW_LOST : Fld := ⟨Reg.STRM.EVENT, 6, 1⟩
def Reg.STRM.EVENT.XBAR_PARITY : Fld := ⟨Reg.STRM.EVENT, 7, 1⟩

/-! STRM.FLOW_EVT (04_streams.md, domain 3). -/
def Reg.STRM.FLOW_EVT : Nat := 0x302008
def Reg.STRM.FLOW_EVT.INDEX : Fld := ⟨Reg.STRM.FLOW_EVT, 0, 10⟩
def Reg.STRM.FLOW_EVT.NONCONF_CNT : Fld := ⟨Reg.STRM.FLOW_EVT, 16, 8⟩
def Reg.STRM.FLOW_EVT.LATE_CNT : Fld := ⟨Reg.STRM.FLOW_EVT, 24, 8⟩

/-! XBAR.STATUS (04_streams.md, domain 3). -/
def Reg.XBAR.STATUS : Nat := 0x303000
def Reg.XBAR.STATUS.COPY : Fld := ⟨Reg.XBAR.STATUS, 0, 1⟩
def Reg.XBAR.STATUS.SWAP_PEND : Fld := ⟨Reg.XBAR.STATUS, 1, 1⟩
def Reg.XBAR.STATUS.PARITY_CNT : Fld := ⟨Reg.XBAR.STATUS, 16, 16⟩

/-! TAKE.STATUS (05_takes.md, domain 3). -/
def Reg.TAKE.STATUS : Nat := 0xA0000
def Reg.TAKE.STATUS.PENDING : Fld := ⟨Reg.TAKE.STATUS, 0, 9⟩
def Reg.TAKE.STATUS.RUNAHEAD : Fld := ⟨Reg.TAKE.STATUS, 9, 1⟩
def Reg.TAKE.STATUS.SPEC : Fld := ⟨Reg.TAKE.STATUS, 10, 1⟩
def Reg.TAKE.STATUS.ARMED : Fld := ⟨Reg.TAKE.STATUS, 11, 9⟩
def Reg.TAKE.STATUS.CUTOFF : Fld := ⟨Reg.TAKE.STATUS, 20, 9⟩

/-! TAKE.EVENT (05_takes.md, domain 3). -/
def Reg.TAKE.EVENT : Nat := 0xA0004
def Reg.TAKE.EVENT.LANDED : Fld := ⟨Reg.TAKE.EVENT, 0, 1⟩
def Reg.TAKE.EVENT.LATE : Fld := ⟨Reg.TAKE.EVENT, 1, 1⟩
def Reg.TAKE.EVENT.ABORTED : Fld := ⟨Reg.TAKE.EVENT, 2, 1⟩
def Reg.TAKE.EVENT.ROLLED_BACK : Fld := ⟨Reg.TAKE.EVENT, 3, 1⟩
def Reg.TAKE.EVENT.SPEC_FAULT : Fld := ⟨Reg.TAKE.EVENT, 4, 1⟩
def Reg.TAKE.EVENT.TWIN_REFUSED : Fld := ⟨Reg.TAKE.EVENT, 5, 1⟩
def Reg.TAKE.EVENT.GPI_TAKE : Fld := ⟨Reg.TAKE.EVENT, 6, 1⟩
def Reg.TAKE.EVENT.GPI_EDGE : Fld := ⟨Reg.TAKE.EVENT, 7, 1⟩

/-! TAKE.COUNT (05_takes.md, domain 3). -/
def Reg.TAKE.COUNT : Nat := 0xA0008
def Reg.TAKE.COUNT.LANDED_CNT : Fld := ⟨Reg.TAKE.COUNT, 0, 16⟩
def Reg.TAKE.COUNT.ROLLBACK_CNT : Fld := ⟨Reg.TAKE.COUNT, 16, 16⟩

/-! TAKE.ERR_CNT (05_takes.md, domain 3). -/
def Reg.TAKE.ERR_CNT : Nat := 0xA000C
def Reg.TAKE.ERR_CNT.LATE_CNT : Fld := ⟨Reg.TAKE.ERR_CNT, 0, 16⟩
def Reg.TAKE.ERR_CNT.SPEC_FAULT_CNT : Fld := ⟨Reg.TAKE.ERR_CNT, 16, 16⟩

/-! TAKE.LAST (05_takes.md, domain 3). -/
def Reg.TAKE.LAST : Nat := 0xA0010
def Reg.TAKE.LAST.INDEX : Fld := ⟨Reg.TAKE.LAST, 0, 12⟩
def Reg.TAKE.LAST.DST : Fld := ⟨Reg.TAKE.LAST, 12, 4⟩
def Reg.TAKE.LAST.TICK : Fld := ⟨Reg.TAKE.LAST, 16, 16⟩

/-! GPI.LEVEL (05_takes.md, domain 3). -/
def Reg.GPI.LEVEL : Nat := 0xA0100
def Reg.GPI.LEVEL.LEVEL : Fld := ⟨Reg.GPI.LEVEL, 0, 32⟩

/-! GPI.EDGE (05_takes.md, domain 3). -/
def Reg.GPI.EDGE : Nat := 0xA0104
def Reg.GPI.EDGE.EDGE : Fld := ⟨Reg.GPI.EDGE, 0, 32⟩

/-! GPI.STAMPg (05_takes.md, domain 3). -/
def Reg.GPI.STAMP (n : Nat) : Nat := 0xA0140 + 0x4 * n
def Reg.GPI.STAMP.SLOT (n : Nat) : Fld := ⟨(Reg.GPI.STAMP n), 0, 11⟩
def Reg.GPI.STAMP.TICK (n : Nat) : Fld := ⟨(Reg.GPI.STAMP n), 11, 16⟩
def Reg.GPI.STAMP.RISE (n : Nat) : Fld := ⟨(Reg.GPI.STAMP n), 27, 1⟩

/-! GPO.LEVEL (05_takes.md, domain 3). -/
def Reg.GPO.LEVEL : Nat := 0xA0200
def Reg.GPO.LEVEL.LEVEL : Fld := ⟨Reg.GPO.LEVEL, 0, 32⟩

/-! CLU.STATUS (06_quinner_engines.md, domain clu). -/
def Reg.CLU.STATUS (n : Nat) : Nat := 0x1000000 + 0x200000 * n
def Reg.CLU.STATUS.OP (n : Nat) : Fld := ⟨(Reg.CLU.STATUS n), 0, 2⟩
def Reg.CLU.STATUS.PSTATE (n : Nat) : Fld := ⟨(Reg.CLU.STATUS n), 2, 2⟩
def Reg.CLU.STATUS.OP_PEND (n : Nat) : Fld := ⟨(Reg.CLU.STATUS n), 4, 1⟩
def Reg.CLU.STATUS.RUNNING (n : Nat) : Fld := ⟨(Reg.CLU.STATUS n), 5, 6⟩
def Reg.CLU.STATUS.SPEC (n : Nat) : Fld := ⟨(Reg.CLU.STATUS n), 11, 6⟩

/-! CLU.EVENT (06_quinner_engines.md, domain clu). -/
def Reg.CLU.EVENT (n : Nat) : Nat := 0x1000004 + 0x200000 * n
def Reg.CLU.EVENT.MARCH_FAIL (n : Nat) : Fld := ⟨(Reg.CLU.EVENT n), 0, 1⟩
def Reg.CLU.EVENT.SPARE_LOW (n : Nat) : Fld := ⟨(Reg.CLU.EVENT n), 1, 1⟩
def Reg.CLU.EVENT.DMA_ERR (n : Nat) : Fld := ⟨(Reg.CLU.EVENT n), 2, 1⟩

/-! CLU.STALL (06_quinner_engines.md, domain clu). -/
def Reg.CLU.STALL (n : Nat) : Nat := 0x1000008 + 0x200000 * n
def Reg.CLU.STALL.STALL_CNT (n : Nat) : Fld := ⟨(Reg.CLU.STALL n), 0, 32⟩

/-! CLU.MARCH (06_quinner_engines.md, domain clu). -/
def Reg.CLU.MARCH (n : Nat) : Nat := 0x100000C + 0x200000 * n
def Reg.CLU.MARCH.GROUP (n : Nat) : Fld := ⟨(Reg.CLU.MARCH n), 0, 15⟩
def Reg.CLU.MARCH.PASS_CNT (n : Nat) : Fld := ⟨(Reg.CLU.MARCH n), 16, 16⟩

/-! CLU.MARCH_FAIL (06_quinner_engines.md, domain clu). -/
def Reg.CLU.MARCH_FAIL (n : Nat) : Nat := 0x1000010 + 0x200000 * n
def Reg.CLU.MARCH_FAIL.BANK (n : Nat) : Fld := ⟨(Reg.CLU.MARCH_FAIL n), 0, 5⟩
def Reg.CLU.MARCH_FAIL.ROW (n : Nat) : Fld := ⟨(Reg.CLU.MARCH_FAIL n), 5, 13⟩
def Reg.CLU.MARCH_FAIL.COLUMN (n : Nat) : Fld := ⟨(Reg.CLU.MARCH_FAIL n), 18, 8⟩
def Reg.CLU.MARCH_FAIL.FAIL_CNT (n : Nat) : Fld := ⟨(Reg.CLU.MARCH_FAIL n), 26, 6⟩

/-! CLU.SPARE0 (06_quinner_engines.md, domain clu). -/
def Reg.CLU.SPARE0 (n : Nat) : Nat := 0x1000014 + 0x200000 * n
def Reg.CLU.SPARE0.USED (n : Nat) : Fld := ⟨(Reg.CLU.SPARE0 n), 0, 32⟩

/-! CLU.SPARE0 (06_quinner_engines.md, domain clu). -/
def Reg.CLU.SPARE1 (n : Nat) : Nat := 0x1000018 + 0x200000 * n
def Reg.CLU.SPARE1.USED (n : Nat) : Fld := ⟨(Reg.CLU.SPARE1 n), 0, 32⟩

/-! ENG.STATUS (06_quinner_engines.md, domain clu). -/
def Reg.ENG.STATUS (e : Nat) : Nat := 0x1001000 + 0x200000 * (e / 32) + 0x40 * (e % 32)
def Reg.ENG.STATUS.STATE (e : Nat) : Fld := ⟨(Reg.ENG.STATUS e), 0, 3⟩
def Reg.ENG.STATUS.SPEC (e : Nat) : Fld := ⟨(Reg.ENG.STATUS e), 3, 1⟩
def Reg.ENG.STATUS.HANDLER (e : Nat) : Fld := ⟨(Reg.ENG.STATUS e), 4, 1⟩
def Reg.ENG.STATUS.SPEC_EN (e : Nat) : Fld := ⟨(Reg.ENG.STATUS e), 5, 1⟩
def Reg.ENG.STATUS.IE (e : Nat) : Fld := ⟨(Reg.ENG.STATUS e), 6, 4⟩
def Reg.ENG.STATUS.PC (e : Nat) : Fld := ⟨(Reg.ENG.STATUS e), 16, 11⟩

/-! ENG.WDOG (06_quinner_engines.md, domain clu). -/
def Reg.ENG.WDOG (e : Nat) : Nat := 0x1001004 + 0x200000 * (e / 32) + 0x40 * (e % 32)
def Reg.ENG.WDOG.EN (e : Nat) : Fld := ⟨(Reg.ENG.WDOG e), 0, 1⟩
def Reg.ENG.WDOG.MARGIN (e : Nat) : Fld := ⟨(Reg.ENG.WDOG e), 8, 8⟩

/-! ENG.FAULT (06_quinner_engines.md, domain clu). -/
def Reg.ENG.FAULT (e : Nat) : Nat := 0x1001008 + 0x200000 * (e / 32) + 0x40 * (e % 32)
def Reg.ENG.FAULT.CAUSE (e : Nat) : Fld := ⟨(Reg.ENG.FAULT e), 0, 4⟩
def Reg.ENG.FAULT.PEND (e : Nat) : Fld := ⟨(Reg.ENG.FAULT e), 4, 1⟩
def Reg.ENG.FAULT.PC (e : Nat) : Fld := ⟨(Reg.ENG.FAULT e), 16, 11⟩

/-! ENG.FAULT_ADDR (06_quinner_engines.md, domain clu). -/
def Reg.ENG.FAULT_ADDR (e : Nat) : Nat := 0x100100C + 0x200000 * (e / 32) + 0x40 * (e % 32)
def Reg.ENG.FAULT_ADDR.ADDR (e : Nat) : Fld := ⟨(Reg.ENG.FAULT_ADDR e), 0, 32⟩

/-! ENG.COUNT (06_quinner_engines.md, domain clu). -/
def Reg.ENG.COUNT (e : Nat) : Nat := 0x1001010 + 0x200000 * (e / 32) + 0x40 * (e % 32)
def Reg.ENG.COUNT.WDOG_CNT (e : Nat) : Fld := ⟨(Reg.ENG.COUNT e), 0, 16⟩
def Reg.ENG.COUNT.EXC_CNT (e : Nat) : Fld := ⟨(Reg.ENG.COUNT e), 16, 16⟩

/-! FAB.DOM_STATE (08_fabric.md, domain 1). -/
def Reg.FAB.DOM_STATE : Nat := 0x880000
def Reg.FAB.DOM_STATE.STATE : Fld := ⟨Reg.FAB.DOM_STATE, 0, 28⟩

/-! FAB.EVENT (08_fabric.md, domain 3). -/
def Reg.FAB.EVENT : Nat := 0x880004
def Reg.FAB.EVENT.FPLL_UNLOCK : Fld := ⟨Reg.FAB.EVENT, 0, 1⟩
def Reg.FAB.EVENT.VPLL_UNLOCK : Fld := ⟨Reg.FAB.EVENT, 1, 1⟩
def Reg.FAB.EVENT.PORT_DROP : Fld := ⟨Reg.FAB.EVENT, 2, 1⟩
def Reg.FAB.EVENT.SPEC_FAULT : Fld := ⟨Reg.FAB.EVENT, 3, 1⟩
def Reg.FAB.EVENT.BAD_CTX : Fld := ⟨Reg.FAB.EVENT, 4, 1⟩
def Reg.FAB.EVENT.CLK_MISMATCH : Fld := ⟨Reg.FAB.EVENT, 5, 1⟩
def Reg.FAB.EVENT.REG_TIMEOUT : Fld := ⟨Reg.FAB.EVENT, 6, 1⟩

/-! FAB.FPLLk_STATUS (08_fabric.md, domain 3). -/
def Reg.FAB.FPLL_STATUS (n : Nat) : Nat := 0x880100 + 0x4 * n
def Reg.FAB.FPLL_STATUS.EN (n : Nat) : Fld := ⟨(Reg.FAB.FPLL_STATUS n), 0, 1⟩
def Reg.FAB.FPLL_STATUS.LOCKED (n : Nat) : Fld := ⟨(Reg.FAB.FPLL_STATUS n), 1, 1⟩
def Reg.FAB.FPLL_STATUS.HOLDOVER (n : Nat) : Fld := ⟨(Reg.FAB.FPLL_STATUS n), 2, 1⟩
def Reg.FAB.FPLL_STATUS.FREQ_KHZ (n : Nat) : Fld := ⟨(Reg.FAB.FPLL_STATUS n), 8, 20⟩

/-! FAB.VPLLk_STATUS (08_fabric.md, domain 3). -/
def Reg.FAB.VPLL_STATUS (n : Nat) : Nat := 0x880140 + 0x4 * n
def Reg.FAB.VPLL_STATUS.K (n : Nat) : Fld := ⟨(Reg.FAB.VPLL_STATUS n), 0, 24⟩
def Reg.FAB.VPLL_STATUS.LOCKED (n : Nat) : Fld := ⟨(Reg.FAB.VPLL_STATUS n), 24, 1⟩
def Reg.FAB.VPLL_STATUS.ALIGNED (n : Nat) : Fld := ⟨(Reg.FAB.VPLL_STATUS n), 25, 1⟩

/-! FAB.FPORTn_CFG (08_fabric.md, domain 3). -/
def Reg.FAB.FPORT_CFG (n : Nat) : Nat := 0x881000 + 0x10 * n
def Reg.FAB.FPORT_CFG.CLK_KHZ (n : Nat) : Fld := ⟨(Reg.FAB.FPORT_CFG n), 0, 20⟩
def Reg.FAB.FPORT_CFG.EN (n : Nat) : Fld := ⟨(Reg.FAB.FPORT_CFG n), 20, 1⟩
def Reg.FAB.FPORT_CFG.SPEC (n : Nat) : Fld := ⟨(Reg.FAB.FPORT_CFG n), 21, 1⟩

/-! FAB.FPORTn_STATUS (08_fabric.md, domain 3). -/
def Reg.FAB.FPORT_STATUS (n : Nat) : Nat := 0x881004 + 0x10 * n
def Reg.FAB.FPORT_STATUS.MEAS_KHZ (n : Nat) : Fld := ⟨(Reg.FAB.FPORT_STATUS n), 0, 20⟩
def Reg.FAB.FPORT_STATUS.MISMATCH (n : Nat) : Fld := ⟨(Reg.FAB.FPORT_STATUS n), 20, 1⟩

/-! FAB.FPORTn_CNT (08_fabric.md, domain 3). -/
def Reg.FAB.FPORT_CNT (n : Nat) : Nat := 0x881008 + 0x10 * n
def Reg.FAB.FPORT_CNT.DROP_CNT (n : Nat) : Fld := ⟨(Reg.FAB.FPORT_CNT n), 0, 16⟩
def Reg.FAB.FPORT_CNT.SPEC_FAULT_CNT (n : Nat) : Fld := ⟨(Reg.FAB.FPORT_CNT n), 16, 8⟩
def Reg.FAB.FPORT_CNT.BAD_CTX_CNT (n : Nat) : Fld := ⟨(Reg.FAB.FPORT_CNT n), 24, 8⟩

/-! FAB.FPORTn_REG (08_fabric.md, domain 3). -/
def Reg.FAB.FPORT_REG (n : Nat) : Nat := 0x88100C + 0x10 * n
def Reg.FAB.FPORT_REG.REG_TIMEOUT_CNT (n : Nat) : Fld := ⟨(Reg.FAB.FPORT_REG n), 0, 16⟩

/-! FAB.TILEt_STATUS (08_fabric.md, domain tile16). -/
def Reg.FAB.TILE_STATUS (n : Nat) : Nat := 0x890000 + 0x10 * n
def Reg.FAB.TILE_STATUS.LEAF_COLL_CNT (n : Nat) : Fld := ⟨(Reg.FAB.TILE_STATUS n), 0, 16⟩
def Reg.FAB.TILE_STATUS.DIE (n : Nat) : Fld := ⟨(Reg.FAB.TILE_STATUS n), 16, 1⟩

/-! MOLT.STATUS (09_molt_and_scrub.md, domain 1). -/
def Reg.MOLT.STATUS : Nat := 0x800000
def Reg.MOLT.STATUS.STAGING : Fld := ⟨Reg.MOLT.STATUS, 0, 3⟩
def Reg.MOLT.STATUS.N_STAGES : Fld := ⟨Reg.MOLT.STATUS, 3, 3⟩
def Reg.MOLT.STATUS.NEXT : Fld := ⟨Reg.MOLT.STATUS, 6, 3⟩
def Reg.MOLT.STATUS.COMMIT_PEND : Fld := ⟨Reg.MOLT.STATUS, 9, 1⟩
def Reg.MOLT.STATUS.STAGGER : Fld := ⟨Reg.MOLT.STATUS, 10, 2⟩
def Reg.MOLT.STATUS.MUTED : Fld := ⟨Reg.MOLT.STATUS, 12, 1⟩
def Reg.MOLT.STATUS.CHRY_USED : Fld := ⟨Reg.MOLT.STATUS, 14, 4⟩
def Reg.MOLT.STATUS.FAIL_CODE : Fld := ⟨Reg.MOLT.STATUS, 18, 8⟩

/-! MOLT.INSTAR (09_molt_and_scrub.md, domain 1). -/
def Reg.MOLT.INSTAR : Nat := 0x800004
def Reg.MOLT.INSTAR.INSTAR : Fld := ⟨Reg.MOLT.INSTAR, 0, 32⟩

/-! MOLT.INSTAR (09_molt_and_scrub.md, domain 1). -/
def Reg.MOLT.STAGED_INSTAR : Nat := 0x800008
def Reg.MOLT.STAGED_INSTAR.INSTAR : Fld := ⟨Reg.MOLT.STAGED_INSTAR, 0, 32⟩

/-! MOLT.STAGED_LO (09_molt_and_scrub.md, domain 1). -/
def Reg.MOLT.STAGED_LO : Nat := 0x80000C
def Reg.MOLT.STAGED_LO.TILES_LO : Fld := ⟨Reg.MOLT.STAGED_LO, 0, 32⟩

/-! MOLT.STAGED_LO (09_molt_and_scrub.md, domain 1). -/
def Reg.MOLT.STAGED_HI : Nat := 0x800010
def Reg.MOLT.STAGED_HI.TILES_HI : Fld := ⟨Reg.MOLT.STAGED_HI, 0, 24⟩
def Reg.MOLT.STAGED_HI.GLOBALS : Fld := ⟨Reg.MOLT.STAGED_HI, 24, 1⟩

/-! MOLT.EVENT (09_molt_and_scrub.md, domain 1). -/
def Reg.MOLT.EVENT : Nat := 0x800014
def Reg.MOLT.EVENT.STAGE_DONE : Fld := ⟨Reg.MOLT.EVENT, 0, 1⟩
def Reg.MOLT.EVENT.STAGE_FAIL : Fld := ⟨Reg.MOLT.EVENT, 1, 1⟩
def Reg.MOLT.EVENT.STAGE_APPLIED : Fld := ⟨Reg.MOLT.EVENT, 2, 1⟩
def Reg.MOLT.EVENT.MOLT_DONE : Fld := ⟨Reg.MOLT.EVENT, 3, 1⟩
def Reg.MOLT.EVENT.MOLT_LATE : Fld := ⟨Reg.MOLT.EVENT, 4, 1⟩
def Reg.MOLT.EVENT.MOLT_ABORTED : Fld := ⟨Reg.MOLT.EVENT, 5, 1⟩
def Reg.MOLT.EVENT.SCRUB_CORRECTED : Fld := ⟨Reg.MOLT.EVENT, 6, 1⟩
def Reg.MOLT.EVENT.SCRUB_RELOAD : Fld := ⟨Reg.MOLT.EVENT, 7, 1⟩
def Reg.MOLT.EVENT.RELOAD_LATE : Fld := ⟨Reg.MOLT.EVENT, 8, 1⟩

/-! MOLT.COUNT (09_molt_and_scrub.md, domain 1). -/
def Reg.MOLT.COUNT : Nat := 0x800018
def Reg.MOLT.COUNT.STAGE_CNT : Fld := ⟨Reg.MOLT.COUNT, 0, 16⟩
def Reg.MOLT.COUNT.LATE_CNT : Fld := ⟨Reg.MOLT.COUNT, 16, 16⟩

/-! SCRUB.LAST (09_molt_and_scrub.md, domain 1). -/
def Reg.SCRUB.LAST : Nat := 0x80001C
def Reg.SCRUB.LAST.TILE : Fld := ⟨Reg.SCRUB.LAST, 0, 6⟩
def Reg.SCRUB.LAST.FRAME : Fld := ⟨Reg.SCRUB.LAST, 6, 15⟩
def Reg.SCRUB.LAST.MULTI : Fld := ⟨Reg.SCRUB.LAST, 21, 1⟩
def Reg.SCRUB.LAST.PASS_CNT : Fld := ⟨Reg.SCRUB.LAST, 22, 10⟩

/-! SCRUB.TILEt (09_molt_and_scrub.md, domain tile4). -/
def Reg.SCRUB.TILE (n : Nat) : Nat := 0x810000 + 0x4 * n
def Reg.SCRUB.TILE.CORR_CNT (n : Nat) : Fld := ⟨(Reg.SCRUB.TILE n), 0, 16⟩
def Reg.SCRUB.TILE.RELOAD_CNT (n : Nat) : Fld := ⟨(Reg.SCRUB.TILE n), 16, 8⟩
def Reg.SCRUB.TILE.RELOAD_PEND (n : Nat) : Fld := ⟨(Reg.SCRUB.TILE n), 24, 1⟩

/-! MC.STATUS (10_dram.md, domain 4). -/
def Reg.MC.STATUS (n : Nat) : Nat := 0x100000 + 0x20000 * n
def Reg.MC.STATUS.STATE (n : Nat) : Fld := ⟨(Reg.MC.STATUS n), 0, 2⟩
def Reg.MC.STATUS.SPEED (n : Nat) : Fld := ⟨(Reg.MC.STATUS n), 2, 2⟩
def Reg.MC.STATUS.DIMMS (n : Nat) : Fld := ⟨(Reg.MC.STATUS n), 4, 2⟩
def Reg.MC.STATUS.SCHED (n : Nat) : Fld := ⟨(Reg.MC.STATUS n), 6, 1⟩
def Reg.MC.STATUS.POLICY (n : Nat) : Fld := ⟨(Reg.MC.STATUS n), 7, 1⟩
def Reg.MC.STATUS.REF2X (n : Nat) : Fld := ⟨(Reg.MC.STATUS n), 8, 1⟩
def Reg.MC.STATUS.SR_PEND (n : Nat) : Fld := ⟨(Reg.MC.STATUS n), 9, 1⟩
def Reg.MC.STATUS.TRAINING (n : Nat) : Fld := ⟨(Reg.MC.STATUS n), 10, 1⟩
def Reg.MC.STATUS.FAIL_CODE (n : Nat) : Fld := ⟨(Reg.MC.STATUS n), 16, 8⟩

/-! MC.CFG (10_dram.md, domain 4). -/
def Reg.MC.CFG (n : Nat) : Nat := 0x100004 + 0x20000 * n
def Reg.MC.CFG.POLICY (n : Nat) : Fld := ⟨(Reg.MC.CFG n), 0, 1⟩
def Reg.MC.CFG.FALLBACK_REQ (n : Nat) : Fld := ⟨(Reg.MC.CFG n), 1, 1⟩
def Reg.MC.CFG.SR_AUTO (n : Nat) : Fld := ⟨(Reg.MC.CFG n), 2, 1⟩
def Reg.MC.CFG.SR_REQ (n : Nat) : Fld := ⟨(Reg.MC.CFG n), 3, 1⟩
def Reg.MC.CFG.SR_IDLE_US (n : Nat) : Fld := ⟨(Reg.MC.CFG n), 16, 16⟩

/-! MC.AGE (10_dram.md, domain 4). -/
def Reg.MC.AGE (n : Nat) : Nat := 0x100008 + 0x20000 * n
def Reg.MC.AGE.AGE_LIMIT (n : Nat) : Fld := ⟨(Reg.MC.AGE n), 0, 16⟩

/-! MC.ORG (10_dram.md, domain 4). -/
def Reg.MC.ORG (n : Nat) : Nat := 0x10000C + 0x20000 * n
def Reg.MC.ORG.WIDTH (n : Nat) : Fld := ⟨(Reg.MC.ORG n), 0, 1⟩
def Reg.MC.ORG.DENSITY (n : Nat) : Fld := ⟨(Reg.MC.ORG n), 1, 1⟩
def Reg.MC.ORG.RANKS (n : Nat) : Fld := ⟨(Reg.MC.ORG n), 2, 2⟩
def Reg.MC.ORG.SIZE_GIB (n : Nat) : Fld := ⟨(Reg.MC.ORG n), 8, 9⟩

/-! MC.EVENT (10_dram.md, domain 4). -/
def Reg.MC.EVENT (n : Nat) : Nat := 0x100010 + 0x20000 * n
def Reg.MC.EVENT.LATE (n : Nat) : Fld := ⟨(Reg.MC.EVENT n), 0, 1⟩
def Reg.MC.EVENT.SCHED_PARITY (n : Nat) : Fld := ⟨(Reg.MC.EVENT n), 1, 1⟩
def Reg.MC.EVENT.REF_RATE (n : Nat) : Fld := ⟨(Reg.MC.EVENT n), 2, 1⟩
def Reg.MC.EVENT.TRAIN_FAIL (n : Nat) : Fld := ⟨(Reg.MC.EVENT n), 3, 1⟩
def Reg.MC.EVENT.SR_ENTER (n : Nat) : Fld := ⟨(Reg.MC.EVENT n), 4, 1⟩
def Reg.MC.EVENT.SR_EXIT (n : Nat) : Fld := ⟨(Reg.MC.EVENT n), 5, 1⟩
def Reg.MC.EVENT.DRAM_HOT (n : Nat) : Fld := ⟨(Reg.MC.EVENT n), 6, 1⟩
def Reg.MC.EVENT.SPD_FAULT (n : Nat) : Fld := ⟨(Reg.MC.EVENT n), 7, 1⟩
def Reg.MC.EVENT.CFG_ERR (n : Nat) : Fld := ⟨(Reg.MC.EVENT n), 8, 1⟩

/-! MC.CNT (10_dram.md, domain 4). -/
def Reg.MC.CNT (n : Nat) : Nat := 0x100014 + 0x20000 * n
def Reg.MC.CNT.LATE_CNT (n : Nat) : Fld := ⟨(Reg.MC.CNT n), 0, 16⟩
def Reg.MC.CNT.PROMOTE_CNT (n : Nat) : Fld := ⟨(Reg.MC.CNT n), 16, 16⟩

/-! MC.TRAIN (10_dram.md, domain 4). -/
def Reg.MC.TRAIN (n : Nat) : Nat := 0x100018 + 0x20000 * n
def Reg.MC.TRAIN.A_OK (n : Nat) : Fld := ⟨(Reg.MC.TRAIN n), 0, 1⟩
def Reg.MC.TRAIN.B_OK (n : Nat) : Fld := ⟨(Reg.MC.TRAIN n), 1, 1⟩
def Reg.MC.TRAIN.A_FAIL_CNT (n : Nat) : Fld := ⟨(Reg.MC.TRAIN n), 8, 8⟩
def Reg.MC.TRAIN.B_FAIL_CNT (n : Nat) : Fld := ⟨(Reg.MC.TRAIN n), 16, 8⟩
def Reg.MC.TRAIN.PAUSE_MAX (n : Nat) : Fld := ⟨(Reg.MC.TRAIN n), 24, 8⟩

/-! MC.TEMP (10_dram.md, domain 4). -/
def Reg.MC.TEMP (n : Nat) : Nat := 0x10001C + 0x20000 * n
def Reg.MC.TEMP.TEMP0 (n : Nat) : Fld := ⟨(Reg.MC.TEMP n), 0, 8⟩
def Reg.MC.TEMP.TEMP1 (n : Nat) : Fld := ⟨(Reg.MC.TEMP n), 8, 8⟩
def Reg.MC.TEMP.HOT (n : Nat) : Fld := ⟨(Reg.MC.TEMP n), 16, 1⟩

/-! MC.PORTp_TGT (10_dram.md, domain 4). -/
def Reg.MC.PORT_TGT (n : Nat) : Nat := 0x100100 + 0x4 * n
def Reg.MC.PORT_TGT.TARGET (n : Nat) : Fld := ⟨(Reg.MC.PORT_TGT n), 0, 14⟩
def Reg.MC.PORT_TGT.URG_MAX (n : Nat) : Fld := ⟨(Reg.MC.PORT_TGT n), 16, 2⟩

/-! FAULT.STATUS (11_integrity.md, domain 0). -/
def Reg.FAULT.STATUS : Nat := 0x18000
def Reg.FAULT.STATUS.RECS : Fld := ⟨Reg.FAULT.STATUS, 0, 4⟩
def Reg.FAULT.STATUS.FAULT_N : Fld := ⟨Reg.FAULT.STATUS, 4, 1⟩
def Reg.FAULT.STATUS.LAST_CAUSE : Fld := ⟨Reg.FAULT.STATUS, 8, 8⟩
def Reg.FAULT.STATUS.TOTAL : Fld := ⟨Reg.FAULT.STATUS, 16, 16⟩

/-! INTEG.EVENT (11_integrity.md, domain 1). -/
def Reg.INTEG.EVENT : Nat := 0x19000
def Reg.INTEG.EVENT.PATROL_DONE : Fld := ⟨Reg.INTEG.EVENT, 0, 1⟩
def Reg.INTEG.EVENT.MAP_DONE : Fld := ⟨Reg.INTEG.EVENT, 1, 1⟩
def Reg.INTEG.EVENT.SRAM_CORR : Fld := ⟨Reg.INTEG.EVENT, 2, 1⟩

/-! INTEG.ECC_TICK (11_integrity.md, domain 1). -/
def Reg.INTEG.ECC_TICK : Nat := 0x19004
def Reg.INTEG.ECC_TICK.TICK_LO : Fld := ⟨Reg.INTEG.ECC_TICK, 0, 32⟩

/-! INTEG.SRAM_CNT (11_integrity.md, domain 1). -/
def Reg.INTEG.SRAM_CNT : Nat := 0x19008
def Reg.INTEG.SRAM_CNT.MGMT : Fld := ⟨Reg.INTEG.SRAM_CNT, 0, 16⟩
def Reg.INTEG.SRAM_CNT.CCACHE : Fld := ⟨Reg.INTEG.SRAM_CNT, 16, 16⟩

/-! INTEG.PATROL (11_integrity.md, domain 1). -/
def Reg.INTEG.PATROL : Nat := 0x1900C
def Reg.INTEG.PATROL.PASS_H : Fld := ⟨Reg.INTEG.PATROL, 0, 8⟩
def Reg.INTEG.PATROL.PASS_CNT : Fld := ⟨Reg.INTEG.PATROL, 16, 16⟩

/-! INTEG.BKTb_LVL (11_integrity.md, domain 1). -/
def Reg.INTEG.BKT_LVL (n : Nat) : Nat := 0x19100 + 0x10 * n
def Reg.INTEG.BKT_LVL.LEVEL (n : Nat) : Fld := ⟨(Reg.INTEG.BKT_LVL n), 0, 16⟩
def Reg.INTEG.BKT_LVL.OVER (n : Nat) : Fld := ⟨(Reg.INTEG.BKT_LVL n), 16, 1⟩

/-! INTEG.BKTb_LVL (11_integrity.md, domain 1). -/
def Reg.INTEG.BKT_CFG (n : Nat) : Nat := 0x19104 + 0x10 * n
def Reg.INTEG.BKT_CFG.THRESHOLD (n : Nat) : Fld := ⟨(Reg.INTEG.BKT_CFG n), 0, 16⟩
def Reg.INTEG.BKT_CFG.LEAK_MS (n : Nat) : Fld := ⟨(Reg.INTEG.BKT_CFG n), 16, 16⟩

/-! INTEG.BKTb_LVL (11_integrity.md, domain 1). -/
def Reg.INTEG.BKT_CNT (n : Nat) : Nat := 0x19108 + 0x10 * n
def Reg.INTEG.BKT_CNT.CORR_CNT (n : Nat) : Fld := ⟨(Reg.INTEG.BKT_CNT n), 0, 32⟩

/-! PMAP.REGr_LO (11_integrity.md, domain 4). -/
def Reg.PMAP.REG_LO (n : Nat) : Nat := 0x19800 + 0x8 * n
def Reg.PMAP.REG_LO.EN (n : Nat) : Fld := ⟨(Reg.PMAP.REG_LO n), 0, 1⟩
def Reg.PMAP.REG_LO.CODE (n : Nat) : Fld := ⟨(Reg.PMAP.REG_LO n), 1, 1⟩
def Reg.PMAP.REG_LO.INTEG (n : Nat) : Fld := ⟨(Reg.PMAP.REG_LO n), 2, 1⟩
def Reg.PMAP.REG_LO.STATE (n : Nat) : Fld := ⟨(Reg.PMAP.REG_LO n), 3, 2⟩
def Reg.PMAP.REG_LO.KID (n : Nat) : Fld := ⟨(Reg.PMAP.REG_LO n), 8, 4⟩
def Reg.PMAP.REG_LO.BASE (n : Nat) : Fld := ⟨(Reg.PMAP.REG_LO n), 14, 18⟩

/-! PMAP.REGr_LO (11_integrity.md, domain 4). -/
def Reg.PMAP.REG_HI (n : Nat) : Nat := 0x19804 + 0x8 * n
def Reg.PMAP.REG_HI.SIZE (n : Nat) : Fld := ⟨(Reg.PMAP.REG_HI n), 0, 18⟩

/-! SEC.STATUS (12_security.md, domain 2). -/
def Reg.SEC.STATUS : Nat := 0xC0000
def Reg.SEC.STATUS.DBG_LEVEL : Fld := ⟨Reg.SEC.STATUS, 0, 2⟩
def Reg.SEC.STATUS.DBG_CAP : Fld := ⟨Reg.SEC.STATUS, 2, 2⟩
def Reg.SEC.STATUS.REVOKED : Fld := ⟨Reg.SEC.STATUS, 4, 4⟩
def Reg.SEC.STATUS.SIGN_SLOT : Fld := ⟨Reg.SEC.STATUS, 8, 2⟩
def Reg.SEC.STATUS.NO_PLAIN : Fld := ⟨Reg.SEC.STATUS, 10, 1⟩
def Reg.SEC.STATUS.DBG_KEY_SET : Fld := ⟨Reg.SEC.STATUS, 11, 1⟩
def Reg.SEC.STATUS.KID_LOADED : Fld := ⟨Reg.SEC.STATUS, 16, 16⟩

/-! SEC.EVENT (12_security.md, domain 2). -/
def Reg.SEC.EVENT : Nat := 0xC0004
def Reg.SEC.EVENT.KEY_LOST : Fld := ⟨Reg.SEC.EVENT, 0, 1⟩
def Reg.SEC.EVENT.PN_NEAR : Fld := ⟨Reg.SEC.EVENT, 1, 1⟩
def Reg.SEC.EVENT.PN_EXHAUSTED : Fld := ⟨Reg.SEC.EVENT, 2, 1⟩
def Reg.SEC.EVENT.MACSEC_AUTH : Fld := ⟨Reg.SEC.EVENT, 3, 1⟩
def Reg.SEC.EVENT.LINK_AUTH : Fld := ⟨Reg.SEC.EVENT, 4, 1⟩
def Reg.SEC.EVENT.AUTH_FAIL : Fld := ⟨Reg.SEC.EVENT, 5, 1⟩
def Reg.SEC.EVENT.FUSE_APPLIED : Fld := ⟨Reg.SEC.EVENT, 6, 1⟩
def Reg.SEC.EVENT.LEVEL_CHANGE : Fld := ⟨Reg.SEC.EVENT, 7, 1⟩

/-! SEC.CNT (12_security.md, domain 2). -/
def Reg.SEC.CNT : Nat := 0xC0008
def Reg.SEC.CNT.MACSEC_FAIL_CNT : Fld := ⟨Reg.SEC.CNT, 0, 16⟩
def Reg.SEC.CNT.LINK_FAIL_CNT : Fld := ⟨Reg.SEC.CNT, 16, 16⟩

/-! SEC.DBG_LOCK (12_security.md, domain 0). -/
def Reg.SEC.DBG_LOCK : Nat := 0xC000C
def Reg.SEC.DBG_LOCK.FAIL_RUN : Fld := ⟨Reg.SEC.DBG_LOCK, 0, 8⟩
def Reg.SEC.DBG_LOCK.LOCK_S : Fld := ⟨Reg.SEC.DBG_LOCK, 8, 11⟩

/-! SEC.IME (12_security.md, domain 2). -/
def Reg.SEC.IME : Nat := 0xC0010
def Reg.SEC.IME.LEVELS : Fld := ⟨Reg.SEC.IME, 0, 5⟩
def Reg.SEC.IME.ROOTS : Fld := ⟨Reg.SEC.IME, 8, 7⟩

/-! LANE.STATUS (13_lanes.md, domain lane). -/
def Reg.LANE.STATUS (n : Nat) : Nat := 0x200000 + 0x1000 * n
def Reg.LANE.STATUS.PSTATE (n : Nat) : Fld := ⟨(Reg.LANE.STATUS n), 0, 2⟩
def Reg.LANE.STATUS.FUNC (n : Nat) : Fld := ⟨(Reg.LANE.STATUS n), 2, 2⟩
def Reg.LANE.STATUS.SIG_DET (n : Nat) : Fld := ⟨(Reg.LANE.STATUS n), 4, 1⟩
def Reg.LANE.STATUS.CDR_LOCK (n : Nat) : Fld := ⟨(Reg.LANE.STATUS n), 5, 1⟩
def Reg.LANE.STATUS.BLOCK_LOCK (n : Nat) : Fld := ⟨(Reg.LANE.STATUS n), 6, 1⟩
def Reg.LANE.STATUS.PLL_LOCK (n : Nat) : Fld := ⟨(Reg.LANE.STATUS n), 7, 1⟩
def Reg.LANE.STATUS.LINK_UP (n : Nat) : Fld := ⟨(Reg.LANE.STATUS n), 8, 1⟩
def Reg.LANE.STATUS.PEND (n : Nat) : Fld := ⟨(Reg.LANE.STATUS n), 9, 1⟩
def Reg.LANE.STATUS.PRBS_ON (n : Nat) : Fld := ⟨(Reg.LANE.STATUS n), 10, 1⟩
def Reg.LANE.STATUS.SCAN (n : Nat) : Fld := ⟨(Reg.LANE.STATUS n), 11, 1⟩
def Reg.LANE.STATUS.NEG_STATE (n : Nat) : Fld := ⟨(Reg.LANE.STATUS n), 12, 3⟩
def Reg.LANE.STATUS.RATE (n : Nat) : Fld := ⟨(Reg.LANE.STATUS n), 16, 8⟩
def Reg.LANE.STATUS.LINK (n : Nat) : Fld := ⟨(Reg.LANE.STATUS n), 24, 3⟩
def Reg.LANE.STATUS.NEG_FAIL (n : Nat) : Fld := ⟨(Reg.LANE.STATUS n), 27, 3⟩

/-! LANE.CFG (13_lanes.md, domain lane). -/
def Reg.LANE.CFG (n : Nat) : Nat := 0x200004 + 0x1000 * n
def Reg.LANE.CFG.TX_INV (n : Nat) : Fld := ⟨(Reg.LANE.CFG n), 0, 1⟩
def Reg.LANE.CFG.RX_INV (n : Nat) : Fld := ⟨(Reg.LANE.CFG n), 1, 1⟩
def Reg.LANE.CFG.LOOPBACK (n : Nat) : Fld := ⟨(Reg.LANE.CFG n), 2, 2⟩
def Reg.LANE.CFG.EQ_FREEZE (n : Nat) : Fld := ⟨(Reg.LANE.CFG n), 4, 1⟩
def Reg.LANE.CFG.TXPLL (n : Nat) : Fld := ⟨(Reg.LANE.CFG n), 5, 1⟩
def Reg.LANE.CFG.TX_AMP (n : Nat) : Fld := ⟨(Reg.LANE.CFG n), 8, 7⟩

/-! LANE.TXFIR (13_lanes.md, domain lane). -/
def Reg.LANE.TXFIR (n : Nat) : Nat := 0x200008 + 0x1000 * n
def Reg.LANE.TXFIR.PRE2 (n : Nat) : Fld := ⟨(Reg.LANE.TXFIR n), 0, 8⟩
def Reg.LANE.TXFIR.PRE1 (n : Nat) : Fld := ⟨(Reg.LANE.TXFIR n), 8, 8⟩
def Reg.LANE.TXFIR.MAIN (n : Nat) : Fld := ⟨(Reg.LANE.TXFIR n), 16, 8⟩
def Reg.LANE.TXFIR.POST1 (n : Nat) : Fld := ⟨(Reg.LANE.TXFIR n), 24, 8⟩

/-! LANE.EVENT (13_lanes.md, domain lane). -/
def Reg.LANE.EVENT (n : Nat) : Nat := 0x20000C + 0x1000 * n
def Reg.LANE.EVENT.SIG_LOST (n : Nat) : Fld := ⟨(Reg.LANE.EVENT n), 0, 1⟩
def Reg.LANE.EVENT.LOCK_LOST (n : Nat) : Fld := ⟨(Reg.LANE.EVENT n), 1, 1⟩
def Reg.LANE.EVENT.LINK_CHANGE (n : Nat) : Fld := ⟨(Reg.LANE.EVENT n), 2, 1⟩
def Reg.LANE.EVENT.NEG_FAIL (n : Nat) : Fld := ⟨(Reg.LANE.EVENT n), 3, 1⟩
def Reg.LANE.EVENT.PLL_UNLOCK (n : Nat) : Fld := ⟨(Reg.LANE.EVENT n), 4, 1⟩
def Reg.LANE.EVENT.PSTATE_DONE (n : Nat) : Fld := ⟨(Reg.LANE.EVENT n), 5, 1⟩
def Reg.LANE.EVENT.PRBS_LOST (n : Nat) : Fld := ⟨(Reg.LANE.EVENT n), 6, 1⟩
def Reg.LANE.EVENT.SCAN_DONE (n : Nat) : Fld := ⟨(Reg.LANE.EVENT n), 7, 1⟩

/-! LANE.PRBS_ERR_LO (13_lanes.md, domain lane). -/
def Reg.LANE.PRBS_ERR_LO (n : Nat) : Nat := 0x200010 + 0x1000 * n
def Reg.LANE.PRBS_ERR_LO.COUNT_LO (n : Nat) : Fld := ⟨(Reg.LANE.PRBS_ERR_LO n), 0, 32⟩

/-! LANE.PRBS_ERR_LO (13_lanes.md, domain lane). -/
def Reg.LANE.PRBS_ERR_HI (n : Nat) : Nat := 0x200014 + 0x1000 * n
def Reg.LANE.PRBS_ERR_HI.COUNT_HI (n : Nat) : Fld := ⟨(Reg.LANE.PRBS_ERR_HI n), 0, 16⟩

/-! LANE.PRBS_ERR_LO (13_lanes.md, domain lane). -/
def Reg.LANE.PRBS_BITS_LO (n : Nat) : Nat := 0x200018 + 0x1000 * n
def Reg.LANE.PRBS_BITS_LO.COUNT_LO (n : Nat) : Fld := ⟨(Reg.LANE.PRBS_BITS_LO n), 0, 32⟩

/-! LANE.PRBS_ERR_LO (13_lanes.md, domain lane). -/
def Reg.LANE.PRBS_BITS_HI (n : Nat) : Nat := 0x20001C + 0x1000 * n
def Reg.LANE.PRBS_BITS_HI.COUNT_HI (n : Nat) : Fld := ⟨(Reg.LANE.PRBS_BITS_HI n), 0, 16⟩

/-! LANE.RXEQ (13_lanes.md, domain lane). -/
def Reg.LANE.RXEQ (n : Nat) : Nat := 0x200020 + 0x1000 * n
def Reg.LANE.RXEQ.CTLE (n : Nat) : Fld := ⟨(Reg.LANE.RXEQ n), 0, 5⟩
def Reg.LANE.RXEQ.DFE1 (n : Nat) : Fld := ⟨(Reg.LANE.RXEQ n), 8, 8⟩
def Reg.LANE.RXEQ.EYE (n : Nat) : Fld := ⟨(Reg.LANE.RXEQ n), 16, 8⟩

/-! DOLMET.LINKk_STATUS (14_twin_and_mesh.md, domain 1). -/
def Reg.DOLMET.LINK_STATUS (n : Nat) : Nat := 0x400000 + 0x20 * n
def Reg.DOLMET.LINK_STATUS.STATE (n : Nat) : Fld := ⟨(Reg.DOLMET.LINK_STATUS n), 0, 3⟩
def Reg.DOLMET.LINK_STATUS.DOWN_REASON (n : Nat) : Fld := ⟨(Reg.DOLMET.LINK_STATUS n), 3, 4⟩
def Reg.DOLMET.LINK_STATUS.ROLE (n : Nat) : Fld := ⟨(Reg.DOLMET.LINK_STATUS n), 7, 3⟩
def Reg.DOLMET.LINK_STATUS.REV2 (n : Nat) : Fld := ⟨(Reg.DOLMET.LINK_STATUS n), 10, 1⟩
def Reg.DOLMET.LINK_STATUS.LANES (n : Nat) : Fld := ⟨(Reg.DOLMET.LINK_STATUS n), 11, 2⟩
def Reg.DOLMET.LINK_STATUS.RATE (n : Nat) : Fld := ⟨(Reg.DOLMET.LINK_STATUS n), 13, 2⟩
def Reg.DOLMET.LINK_STATUS.FEC (n : Nat) : Fld := ⟨(Reg.DOLMET.LINK_STATUS n), 15, 1⟩
def Reg.DOLMET.LINK_STATUS.ENC (n : Nat) : Fld := ⟨(Reg.DOLMET.LINK_STATUS n), 16, 1⟩
def Reg.DOLMET.LINK_STATUS.PARTNER (n : Nat) : Fld := ⟨(Reg.DOLMET.LINK_STATUS n), 17, 15⟩

/-! DOLMET.LINKk_CNT (14_twin_and_mesh.md, domain 1). -/
def Reg.DOLMET.LINK_CNT (n : Nat) : Nat := 0x400004 + 0x20 * n
def Reg.DOLMET.LINK_CNT.CRC_CNT (n : Nat) : Fld := ⟨(Reg.DOLMET.LINK_CNT n), 0, 16⟩
def Reg.DOLMET.LINK_CNT.HOP_DROP_CNT (n : Nat) : Fld := ⟨(Reg.DOLMET.LINK_CNT n), 16, 16⟩

/-! DOLMET.LINKk_CNT (14_twin_and_mesh.md, domain 1). -/
def Reg.DOLMET.LINK_DELAY (n : Nat) : Nat := 0x400008 + 0x20 * n
def Reg.DOLMET.LINK_DELAY.DELAY (n : Nat) : Fld := ⟨(Reg.DOLMET.LINK_DELAY n), 0, 32⟩

/-! DOLMET.LINKk_CNT (14_twin_and_mesh.md, domain 1). -/
def Reg.DOLMET.LINK_EVENT (n : Nat) : Nat := 0x40000C + 0x20 * n
def Reg.DOLMET.LINK_EVENT.LINK_UP (n : Nat) : Fld := ⟨(Reg.DOLMET.LINK_EVENT n), 0, 1⟩
def Reg.DOLMET.LINK_EVENT.LINK_DOWN (n : Nat) : Fld := ⟨(Reg.DOLMET.LINK_EVENT n), 1, 1⟩
def Reg.DOLMET.LINK_EVENT.QUARANTINE (n : Nat) : Fld := ⟨(Reg.DOLMET.LINK_EVENT n), 2, 1⟩
def Reg.DOLMET.LINK_EVENT.ROLE_CONFLICT (n : Nat) : Fld := ⟨(Reg.DOLMET.LINK_EVENT n), 3, 1⟩

/-! TWIN.STATUS (14_twin_and_mesh.md, domain 1). -/
def Reg.TWIN.STATUS : Nat := 0x401000
def Reg.TWIN.STATUS.STATE : Fld := ⟨Reg.TWIN.STATUS, 0, 3⟩
def Reg.TWIN.STATUS.MUTED : Fld := ⟨Reg.TWIN.STATUS, 3, 1⟩
def Reg.TWIN.STATUS.PEER_OK : Fld := ⟨Reg.TWIN.STATUS, 4, 1⟩
def Reg.TWIN.STATUS.CHG_SEL : Fld := ⟨Reg.TWIN.STATUS, 5, 1⟩
def Reg.TWIN.STATUS.MATCH_RUN : Fld := ⟨Reg.TWIN.STATUS, 6, 4⟩
def Reg.TWIN.STATUS.DIV_CNT : Fld := ⟨Reg.TWIN.STATUS, 16, 16⟩

/-! TWIN.CFG (14_twin_and_mesh.md, domain 0). -/
def Reg.TWIN.CFG : Nat := 0x401004
def Reg.TWIN.CFG.ROLE : Fld := ⟨Reg.TWIN.CFG, 0, 2⟩
def Reg.TWIN.CFG.LINK_A : Fld := ⟨Reg.TWIN.CFG, 2, 3⟩
def Reg.TWIN.CFG.LINK_B : Fld := ⟨Reg.TWIN.CFG, 5, 3⟩
def Reg.TWIN.CFG.AUTO_REJOIN : Fld := ⟨Reg.TWIN.CFG, 8, 1⟩
def Reg.TWIN.CFG.REJOIN_LIMIT : Fld := ⟨Reg.TWIN.CFG, 16, 16⟩

/-! TWIN.EVENT (14_twin_and_mesh.md, domain 1). -/
def Reg.TWIN.EVENT : Nat := 0x401008
def Reg.TWIN.EVENT.PARTNER_LOST : Fld := ⟨Reg.TWIN.EVENT, 0, 1⟩
def Reg.TWIN.EVENT.LINKS_LOST : Fld := ⟨Reg.TWIN.EVENT, 1, 1⟩
def Reg.TWIN.EVENT.DIVERGED : Fld := ⟨Reg.TWIN.EVENT, 2, 1⟩
def Reg.TWIN.EVENT.INSTAR_MISMATCH : Fld := ⟨Reg.TWIN.EVENT, 3, 1⟩
def Reg.TWIN.EVENT.REJOINED : Fld := ⟨Reg.TWIN.EVENT, 4, 1⟩
def Reg.TWIN.EVENT.REJOIN_SLOW : Fld := ⟨Reg.TWIN.EVENT, 5, 1⟩

/-! TWIN.LAST_DIV (14_twin_and_mesh.md, domain 1). -/
def Reg.TWIN.LAST_DIV : Nat := 0x40100C
def Reg.TWIN.LAST_DIV.OUTPUT : Fld := ⟨Reg.TWIN.LAST_DIV, 0, 16⟩
def Reg.TWIN.LAST_DIV.FRAME : Fld := ⟨Reg.TWIN.LAST_DIV, 16, 16⟩

/-! MESH.STATUS (14_twin_and_mesh.md, domain 0). -/
def Reg.MESH.STATUS : Nat := 0x402000
def Reg.MESH.STATUS.MESH_ID : Fld := ⟨Reg.MESH.STATUS, 0, 15⟩
def Reg.MESH.STATUS.AUTH_DIST : Fld := ⟨Reg.MESH.STATUS, 15, 8⟩
def Reg.MESH.STATUS.OUT_OF_TICK : Fld := ⟨Reg.MESH.STATUS, 23, 1⟩

/-! MESH.STATUS (14_twin_and_mesh.md, domain 1). -/
def Reg.MESH.EVENT : Nat := 0x402004
def Reg.MESH.EVENT.OUT_OF_TICK : Fld := ⟨Reg.MESH.EVENT, 0, 1⟩
def Reg.MESH.EVENT.INSTAR_MISMATCH : Fld := ⟨Reg.MESH.EVENT, 1, 1⟩
def Reg.MESH.EVENT.XDEV_ABORT : Fld := ⟨Reg.MESH.EVENT, 2, 1⟩
def Reg.MESH.EVENT.UNROUTABLE : Fld := ⟨Reg.MESH.EVENT, 3, 1⟩

/-! MESH.ROUTES (14_twin_and_mesh.md, domain 0). -/
def Reg.MESH.ROUTES : Nat := 0x402008
def Reg.MESH.ROUTES.COUNT : Fld := ⟨Reg.MESH.ROUTES, 0, 9⟩

/-! PWR.SUPPLY (15_power_and_clocks.md, domain 0). -/
def Reg.PWR.SUPPLY : Nat := 0x80000
def Reg.PWR.SUPPLY.SEL : Fld := ⟨Reg.PWR.SUPPLY, 0, 1⟩
def Reg.PWR.SUPPLY.A_OK : Fld := ⟨Reg.PWR.SUPPLY, 1, 1⟩
def Reg.PWR.SUPPLY.B_OK : Fld := ⟨Reg.PWR.SUPPLY, 2, 1⟩
def Reg.PWR.SUPPLY.AUX_SEL : Fld := ⟨Reg.PWR.SUPPLY, 3, 1⟩
def Reg.PWR.SUPPLY.AUX_A_OK : Fld := ⟨Reg.PWR.SUPPLY, 4, 1⟩
def Reg.PWR.SUPPLY.AUX_B_OK : Fld := ⟨Reg.PWR.SUPPLY, 5, 1⟩
def Reg.PWR.SUPPLY.VLANE_OK : Fld := ⟨Reg.PWR.SUPPLY, 6, 1⟩
def Reg.PWR.SUPPLY.VLANE_HV_OK : Fld := ⟨Reg.PWR.SUPPLY, 7, 1⟩
def Reg.PWR.SUPPLY.VDDQ_OK : Fld := ⟨Reg.PWR.SUPPLY, 8, 8⟩
def Reg.PWR.SUPPLY.VIO_OK : Fld := ⟨Reg.PWR.SUPPLY, 16, 1⟩

/-! PWR.VIN (15_power_and_clocks.md, domain 0). -/
def Reg.PWR.VIN : Nat := 0x80004
def Reg.PWR.VIN.VIN_A : Fld := ⟨Reg.PWR.VIN, 0, 12⟩
def Reg.PWR.VIN.VIN_B : Fld := ⟨Reg.PWR.VIN, 16, 12⟩

/-! PWR.VIN (15_power_and_clocks.md, domain 0). -/
def Reg.PWR.IIN : Nat := 0x80008
def Reg.PWR.IIN.IIN_A : Fld := ⟨Reg.PWR.IIN, 0, 12⟩
def Reg.PWR.IIN.IIN_B : Fld := ⟨Reg.PWR.IIN, 16, 12⟩

/-! PWR.CFG (15_power_and_clocks.md, domain 0). -/
def Reg.PWR.CFG : Nat := 0x8000C
def Reg.PWR.CFG.RETURN_MS : Fld := ⟨Reg.PWR.CFG, 0, 10⟩
def Reg.PWR.CFG.FORCE_B : Fld := ⟨Reg.PWR.CFG, 16, 1⟩

/-! PWR.EVENT (15_power_and_clocks.md, domain 0). -/
def Reg.PWR.EVENT : Nat := 0x80010
def Reg.PWR.EVENT.PATH_SWITCH : Fld := ⟨Reg.PWR.EVENT, 0, 1⟩
def Reg.PWR.EVENT.PATH_RETURN : Fld := ⟨Reg.PWR.EVENT, 1, 1⟩
def Reg.PWR.EVENT.A_LOST : Fld := ⟨Reg.PWR.EVENT, 2, 1⟩
def Reg.PWR.EVENT.B_LOST : Fld := ⟨Reg.PWR.EVENT, 3, 1⟩
def Reg.PWR.EVENT.AUX_SWITCH : Fld := ⟨Reg.PWR.EVENT, 4, 1⟩
def Reg.PWR.EVENT.AUX_LOST : Fld := ⟨Reg.PWR.EVENT, 5, 1⟩
def Reg.PWR.EVENT.VIO_FAULT : Fld := ⟨Reg.PWR.EVENT, 6, 1⟩
def Reg.PWR.EVENT.DOMAIN_DONE : Fld := ⟨Reg.PWR.EVENT, 7, 1⟩
def Reg.PWR.EVENT.OP_DONE : Fld := ⟨Reg.PWR.EVENT, 8, 1⟩
def Reg.PWR.EVENT.THERM_WARN : Fld := ⟨Reg.PWR.EVENT, 9, 1⟩
def Reg.PWR.EVENT.THERM_ALARM : Fld := ⟨Reg.PWR.EVENT, 10, 1⟩
def Reg.PWR.EVENT.THERM_CLEAR : Fld := ⟨Reg.PWR.EVENT, 11, 1⟩
def Reg.PWR.EVENT.SENSOR_FAULT : Fld := ⟨Reg.PWR.EVENT, 12, 1⟩

/-! PWR.LAST_FAULT (15_power_and_clocks.md, domain 0). -/
def Reg.PWR.LAST_FAULT : Nat := 0x80014
def Reg.PWR.LAST_FAULT.CAUSE : Fld := ⟨Reg.PWR.LAST_FAULT, 0, 4⟩
def Reg.PWR.LAST_FAULT.MC : Fld := ⟨Reg.PWR.LAST_FAULT, 4, 3⟩
def Reg.PWR.LAST_FAULT.TICK_LO : Fld := ⟨Reg.PWR.LAST_FAULT, 16, 16⟩

/-! PWR.DOM0 (15_power_and_clocks.md, domain 0). -/
def Reg.PWR.DOM0 : Nat := 0x80020
def Reg.PWR.DOM0.STATES : Fld := ⟨Reg.PWR.DOM0, 0, 32⟩

/-! PWR.DOM0 (15_power_and_clocks.md, domain 0). -/
def Reg.PWR.DOM1 : Nat := 0x80024
def Reg.PWR.DOM1.STATES : Fld := ⟨Reg.PWR.DOM1, 0, 32⟩

/-! PWR.DOM_BUSY (15_power_and_clocks.md, domain 0). -/
def Reg.PWR.DOM_BUSY : Nat := 0x80028
def Reg.PWR.DOM_BUSY.DOMAINS : Fld := ⟨Reg.PWR.DOM_BUSY, 0, 30⟩

/-! PWR.DOM_BUSY (15_power_and_clocks.md, domain 0). -/
def Reg.PWR.DOM_PEND : Nat := 0x8002C
def Reg.PWR.DOM_PEND.DOMAINS : Fld := ⟨Reg.PWR.DOM_PEND, 0, 30⟩

/-! PWR.CLUc (15_power_and_clocks.md, domain 0). -/
def Reg.PWR.CLU (n : Nat) : Nat := 0x80040 + 0x4 * n
def Reg.PWR.CLU.OP (n : Nat) : Fld := ⟨(Reg.PWR.CLU n), 0, 2⟩
def Reg.PWR.CLU.TARGET (n : Nat) : Fld := ⟨(Reg.PWR.CLU n), 2, 2⟩
def Reg.PWR.CLU.PEND (n : Nat) : Fld := ⟨(Reg.PWR.CLU n), 4, 1⟩
def Reg.PWR.CLU.SLEWING (n : Nat) : Fld := ⟨(Reg.PWR.CLU n), 5, 1⟩
def Reg.PWR.CLU.VOLT (n : Nat) : Fld := ⟨(Reg.PWR.CLU n), 16, 10⟩

/-! PWR.OPVc (15_power_and_clocks.md, domain 0). -/
def Reg.PWR.OPV (n : Nat) : Nat := 0x80060 + 0x4 * n
def Reg.PWR.OPV.V (n : Nat) : Fld := ⟨(Reg.PWR.OPV n), 0, 32⟩

/-! THERM.STATUS (15_power_and_clocks.md, domain 0). -/
def Reg.THERM.STATUS : Nat := 0x80100
def Reg.THERM.STATUS.MAX : Fld := ⟨Reg.THERM.STATUS, 0, 8⟩
def Reg.THERM.STATUS.MAX_SENSOR : Fld := ⟨Reg.THERM.STATUS, 8, 4⟩
def Reg.THERM.STATUS.WARN : Fld := ⟨Reg.THERM.STATUS, 12, 1⟩
def Reg.THERM.STATUS.ALARM : Fld := ⟨Reg.THERM.STATUS, 13, 1⟩
def Reg.THERM.STATUS.DEGRADED : Fld := ⟨Reg.THERM.STATUS, 14, 1⟩
def Reg.THERM.STATUS.VALID : Fld := ⟨Reg.THERM.STATUS, 16, 16⟩

/-! THERM.STATUS (15_power_and_clocks.md, domain 0). -/
def Reg.THERM.CFG : Nat := 0x80104
def Reg.THERM.CFG.WARN_C : Fld := ⟨Reg.THERM.CFG, 0, 8⟩

/-! THERM.SENSORs (15_power_and_clocks.md, domain 0). -/
def Reg.THERM.SENSOR (n : Nat) : Nat := 0x80140 + 0x4 * n
def Reg.THERM.SENSOR.TEMP (n : Nat) : Fld := ⟨(Reg.THERM.SENSOR n), 0, 8⟩
def Reg.THERM.SENSOR.VALID (n : Nat) : Fld := ⟨(Reg.THERM.SENSOR n), 8, 1⟩
def Reg.THERM.SENSOR.PEAK (n : Nat) : Fld := ⟨(Reg.THERM.SENSOR n), 16, 8⟩

/-! CLK.STATUS (15_power_and_clocks.md, domain 0). -/
def Reg.CLK.STATUS : Nat := 0x80200
def Reg.CLK.STATUS.SRC : Fld := ⟨Reg.CLK.STATUS, 0, 2⟩
def Reg.CLK.STATUS.MCLK_GOOD : Fld := ⟨Reg.CLK.STATUS, 2, 1⟩
def Reg.CLK.STATUS.RC_RUN : Fld := ⟨Reg.CLK.STATUS, 3, 1⟩
def Reg.CLK.STATUS.RC_READY : Fld := ⟨Reg.CLK.STATUS, 4, 1⟩
def Reg.CLK.STATUS.MCLK_SEL : Fld := ⟨Reg.CLK.STATUS, 5, 1⟩
def Reg.CLK.STATUS.OSC_DLY : Fld := ⟨Reg.CLK.STATUS, 6, 3⟩

/-! CLK.STATUS (15_power_and_clocks.md, domain 0). -/
def Reg.CLK.CFG : Nat := 0x80204
def Reg.CLK.CFG.RC_STOP : Fld := ⟨Reg.CLK.CFG, 0, 1⟩
def Reg.CLK.CFG.AUTO_RETURN : Fld := ⟨Reg.CLK.CFG, 1, 1⟩
def Reg.CLK.CFG.RETURN_REQ : Fld := ⟨Reg.CLK.CFG, 2, 1⟩
def Reg.CLK.CFG.GOOD_MS : Fld := ⟨Reg.CLK.CFG, 16, 16⟩

/-! CLK.EVENT (15_power_and_clocks.md, domain 0). -/
def Reg.CLK.EVENT : Nat := 0x80208
def Reg.CLK.EVENT.CLOCK_LOSS : Fld := ⟨Reg.CLK.EVENT, 0, 1⟩
def Reg.CLK.EVENT.CLOCK_RETURN : Fld := ⟨Reg.CLK.EVENT, 1, 1⟩
def Reg.CLK.EVENT.FORCED : Fld := ⟨Reg.CLK.EVENT, 2, 1⟩
def Reg.CLK.EVENT.EYE_DONE : Fld := ⟨Reg.CLK.EVENT, 3, 1⟩

/-! CLK.EVENT (15_power_and_clocks.md, domain 0). -/
def Reg.CLK.LOSS : Nat := 0x8020C
def Reg.CLK.LOSS.CAUSE : Fld := ⟨Reg.CLK.LOSS, 0, 2⟩
def Reg.CLK.LOSS.NOT_READY : Fld := ⟨Reg.CLK.LOSS, 2, 1⟩
def Reg.CLK.LOSS.GAP : Fld := ⟨Reg.CLK.LOSS, 16, 16⟩

/-! CLK.EYEk_CFG (15_power_and_clocks.md, domain 1). -/
def Reg.CLK.EYE_CFG (n : Nat) : Nat := 0x80300 + 0x10 * n
def Reg.CLK.EYE_CFG.TARGET (n : Nat) : Fld := ⟨(Reg.CLK.EYE_CFG n), 0, 8⟩
def Reg.CLK.EYE_CFG.REF (n : Nat) : Fld := ⟨(Reg.CLK.EYE_CFG n), 8, 8⟩
def Reg.CLK.EYE_CFG.START (n : Nat) : Fld := ⟨(Reg.CLK.EYE_CFG n), 16, 1⟩
def Reg.CLK.EYE_CFG.BUSY (n : Nat) : Fld := ⟨(Reg.CLK.EYE_CFG n), 17, 1⟩
def Reg.CLK.EYE_CFG.OVF (n : Nat) : Fld := ⟨(Reg.CLK.EYE_CFG n), 18, 1⟩

/-! CLK.EYEk_CFG (15_power_and_clocks.md, domain 1). -/
def Reg.CLK.EYE_GATE (n : Nat) : Nat := 0x80304 + 0x10 * n
def Reg.CLK.EYE_GATE.GATE (n : Nat) : Fld := ⟨(Reg.CLK.EYE_GATE n), 0, 32⟩

/-! CLK.EYEk_CFG (15_power_and_clocks.md, domain 1). -/
def Reg.CLK.EYE_COUNT (n : Nat) : Nat := 0x80308 + 0x10 * n
def Reg.CLK.EYE_COUNT.COUNT (n : Nat) : Fld := ⟨(Reg.CLK.EYE_COUNT n), 0, 32⟩

/-! MODE.STATUS (16_modes_and_start.md, domain 0). -/
def Reg.MODE.STATUS : Nat := 0x10000
def Reg.MODE.STATUS.MODE : Fld := ⟨Reg.MODE.STATUS, 0, 3⟩
def Reg.MODE.STATUS.PEND : Fld := ⟨Reg.MODE.STATUS, 3, 1⟩
def Reg.MODE.STATUS.TARGET : Fld := ⟨Reg.MODE.STATUS, 4, 3⟩
def Reg.MODE.STATUS.ECL_STEP : Fld := ⟨Reg.MODE.STATUS, 8, 4⟩
def Reg.MODE.STATUS.BOOT_SRC : Fld := ⟨Reg.MODE.STATUS, 12, 2⟩
def Reg.MODE.STATUS.ATTEMPTS : Fld := ⟨Reg.MODE.STATUS, 14, 2⟩
def Reg.MODE.STATUS.RUN_SLOT : Fld := ⟨Reg.MODE.STATUS, 16, 2⟩
def Reg.MODE.STATUS.CONFIRMED : Fld := ⟨Reg.MODE.STATUS, 18, 1⟩
def Reg.MODE.STATUS.WAIT_IMAGE : Fld := ⟨Reg.MODE.STATUS, 19, 1⟩

/-! BOOT.RECORD (16_modes_and_start.md, domain 0). -/
def Reg.BOOT.RECORD : Nat := 0x10004
def Reg.BOOT.RECORD.REASON1 : Fld := ⟨Reg.BOOT.RECORD, 0, 8⟩
def Reg.BOOT.RECORD.REASON2 : Fld := ⟨Reg.BOOT.RECORD, 8, 8⟩
def Reg.BOOT.RECORD.REASON3 : Fld := ⟨Reg.BOOT.RECORD, 16, 8⟩
def Reg.BOOT.RECORD.SLOT1 : Fld := ⟨Reg.BOOT.RECORD, 24, 2⟩
def Reg.BOOT.RECORD.SLOT2 : Fld := ⟨Reg.BOOT.RECORD, 26, 2⟩
def Reg.BOOT.RECORD.SLOT3 : Fld := ⟨Reg.BOOT.RECORD, 28, 2⟩

/-! BOOT.CTRL (16_modes_and_start.md, domain 0). -/
def Reg.BOOT.CTRL : Nat := 0x10008
def Reg.BOOT.CTRL.ABORT : Fld := ⟨Reg.BOOT.CTRL, 0, 1⟩

/-! BOOT.FLASH (16_modes_and_start.md, domain 1). -/
def Reg.BOOT.FLASH : Nat := 0x1000C
def Reg.BOOT.FLASH.VALID : Fld := ⟨Reg.BOOT.FLASH, 0, 1⟩
def Reg.BOOT.FLASH.COPY_USED : Fld := ⟨Reg.BOOT.FLASH, 1, 1⟩
def Reg.BOOT.FLASH.PREFERRED : Fld := ⟨Reg.BOOT.FLASH, 2, 1⟩
def Reg.BOOT.FLASH.BUSY : Fld := ⟨Reg.BOOT.FLASH, 3, 1⟩
def Reg.BOOT.FLASH.SLOT_SIZE : Fld := ⟨Reg.BOOT.FLASH, 16, 16⟩

/-! MODE.EVENT (16_modes_and_start.md, domain 0). -/
def Reg.MODE.EVENT : Nat := 0x10010
def Reg.MODE.EVENT.MODE_CHANGE : Fld := ⟨Reg.MODE.EVENT, 0, 1⟩
def Reg.MODE.EVENT.MODE_FAIL : Fld := ⟨Reg.MODE.EVENT, 1, 1⟩
def Reg.MODE.EVENT.ATTEMPT_FAIL : Fld := ⟨Reg.MODE.EVENT, 2, 1⟩
def Reg.MODE.EVENT.COCOON : Fld := ⟨Reg.MODE.EVENT, 3, 1⟩
def Reg.MODE.EVENT.CONFIRMED : Fld := ⟨Reg.MODE.EVENT, 4, 1⟩
def Reg.MODE.EVENT.WAKE : Fld := ⟨Reg.MODE.EVENT, 5, 1⟩

/-! INTC.PENDg (17_interrupts_mailboxes.md, domain 0). -/
def Reg.INTC.PEND (n : Nat) : Nat := 0x40000 + 0x4 * n
def Reg.INTC.PEND.LEVEL (n : Nat) : Fld := ⟨(Reg.INTC.PEND n), 0, 32⟩

/-! INTC.MASKg (17_interrupts_mailboxes.md, domain 0). -/
def Reg.INTC.MASK (n : Nat) : Nat := 0x40100 + 0x4 * n
def Reg.INTC.MASK.MASK (n : Nat) : Fld := ⟨(Reg.INTC.MASK n), 0, 32⟩

/-! INTC.ROUTEg (17_interrupts_mailboxes.md, domain 0). -/
def Reg.INTC.ROUTE (n : Nat) : Nat := 0x40200 + 0x4 * n
def Reg.INTC.ROUTE.KIND (n : Nat) : Fld := ⟨(Reg.INTC.ROUTE n), 0, 2⟩
def Reg.INTC.ROUTE.TARGET (n : Nat) : Fld := ⟨(Reg.INTC.ROUTE n), 8, 8⟩
def Reg.INTC.ROUTE.HOLDOFF_US (n : Nat) : Fld := ⟨(Reg.INTC.ROUTE n), 16, 16⟩

/-! INTC.STATEg (17_interrupts_mailboxes.md, domain 0). -/
def Reg.INTC.STATE (n : Nat) : Nat := 0x40300 + 0x4 * n
def Reg.INTC.STATE.STATE (n : Nat) : Fld := ⟨(Reg.INTC.STATE n), 0, 2⟩
def Reg.INTC.STATE.EOI (n : Nat) : Fld := ⟨(Reg.INTC.STATE n), 2, 1⟩
def Reg.INTC.STATE.DELIV_CNT (n : Nat) : Fld := ⟨(Reg.INTC.STATE n), 8, 8⟩
def Reg.INTC.STATE.REMAIN_US (n : Nat) : Fld := ⟨(Reg.INTC.STATE n), 16, 16⟩

/-! INTC.EVENT (17_interrupts_mailboxes.md, domain 0). -/
def Reg.INTC.EVENT : Nat := 0x40400
def Reg.INTC.EVENT.ROUTE_ERR : Fld := ⟨Reg.INTC.EVENT, 0, 1⟩

/-! LKn (17_interrupts_mailboxes.md, domain 1). -/
def Reg.LK (n : Nat) : Nat := 0x30800 + 0x4 * n
def Reg.LK.HOLDER (n : Nat) : Fld := ⟨(Reg.LK n), 0, 9⟩
def Reg.LK.HALTED (n : Nat) : Fld := ⟨(Reg.LK n), 31, 1⟩

/-! LKn (17_interrupts_mailboxes.md, domain clu). -/
def Reg.CLU.LK (m n : Nat) : Nat := 0x1007000 + 0x200000 * m + 0x4 * n
def Reg.CLU.LK.HOLDER (m n : Nat) : Fld := ⟨(Reg.CLU.LK m n), 0, 9⟩
def Reg.CLU.LK.HALTED (m n : Nat) : Fld := ⟨(Reg.CLU.LK m n), 31, 1⟩

/-! LOCKS.STATUS (17_interrupts_mailboxes.md, domain 1). -/
def Reg.LOCKS.STATUS : Nat := 0x30C00
def Reg.LOCKS.STATUS.LAST_VIOL : Fld := ⟨Reg.LOCKS.STATUS, 0, 9⟩
def Reg.LOCKS.STATUS.VIOL_CNT : Fld := ⟨Reg.LOCKS.STATUS, 16, 8⟩
def Reg.LOCKS.STATUS.ORPHAN_CNT : Fld := ⟨Reg.LOCKS.STATUS, 24, 8⟩

/-! LOCKS.STATUS (17_interrupts_mailboxes.md, domain clu). -/
def Reg.CLU.LOCK_STATUS (n : Nat) : Nat := 0x1007080 + 0x200000 * n
def Reg.CLU.LOCK_STATUS.LAST_VIOL (n : Nat) : Fld := ⟨(Reg.CLU.LOCK_STATUS n), 0, 9⟩
def Reg.CLU.LOCK_STATUS.VIOL_CNT (n : Nat) : Fld := ⟨(Reg.CLU.LOCK_STATUS n), 16, 8⟩
def Reg.CLU.LOCK_STATUS.ORPHAN_CNT (n : Nat) : Fld := ⟨(Reg.CLU.LOCK_STATUS n), 24, 8⟩

/-! DBG.STATUS (18_debug_and_test.md, domain 0). -/
def Reg.DBG.STATUS : Nat := 0xE0000
def Reg.DBG.STATUS.SESSION : Fld := ⟨Reg.DBG.STATUS, 0, 1⟩
def Reg.DBG.STATUS.UNIT : Fld := ⟨Reg.DBG.STATUS, 1, 10⟩
def Reg.DBG.STATUS.LEVEL : Fld := ⟨Reg.DBG.STATUS, 11, 2⟩
def Reg.DBG.STATUS.FRAME_CNT : Fld := ⟨Reg.DBG.STATUS, 16, 8⟩
def Reg.DBG.STATUS.COLLIDE_CNT : Fld := ⟨Reg.DBG.STATUS, 24, 8⟩

/-! DBG.STATUS (18_debug_and_test.md, domain 0). -/
def Reg.DBG.EVENT : Nat := 0xE0004
def Reg.DBG.EVENT.SESSION_OPEN : Fld := ⟨Reg.DBG.EVENT, 0, 1⟩
def Reg.DBG.EVENT.FRAME_ERR : Fld := ⟨Reg.DBG.EVENT, 1, 1⟩
def Reg.DBG.EVENT.AUTH_VIOL : Fld := ⟨Reg.DBG.EVENT, 2, 1⟩
def Reg.DBG.EVENT.HALTED : Fld := ⟨Reg.DBG.EVENT, 3, 1⟩
def Reg.DBG.EVENT.INJ_DONE : Fld := ⟨Reg.DBG.EVENT, 4, 1⟩
def Reg.DBG.EVENT.LOCK_FORCED : Fld := ⟨Reg.DBG.EVENT, 5, 1⟩
def Reg.DBG.EVENT.COLLIDE : Fld := ⟨Reg.DBG.EVENT, 6, 1⟩
def Reg.DBG.EVENT.WIRE_RESET : Fld := ⟨Reg.DBG.EVENT, 7, 1⟩

/-! DBG.ADDR_HI (18_debug_and_test.md, domain 0). -/
def Reg.DBG.ADDR_HI : Nat := 0xE0008
def Reg.DBG.ADDR_HI.ADDR_HI : Fld := ⟨Reg.DBG.ADDR_HI, 0, 16⟩

/-! DBG.ADDR_HI (18_debug_and_test.md, domain 0). -/
def Reg.DBG.AUTH : Nat := 0xE000C
def Reg.DBG.AUTH.REQ_LEVEL : Fld := ⟨Reg.DBG.AUTH, 0, 2⟩
def Reg.DBG.AUTH.CHALLENGE : Fld := ⟨Reg.DBG.AUTH, 2, 1⟩
def Reg.DBG.AUTH.SUBMIT : Fld := ⟨Reg.DBG.AUTH, 3, 1⟩
def Reg.DBG.AUTH.STATE : Fld := ⟨Reg.DBG.AUTH, 4, 3⟩

/-! DBG.CHALn (18_debug_and_test.md, domain 0). -/
def Reg.DBG.CHAL (n : Nat) : Nat := 0xE0100 + 0x4 * n
def Reg.DBG.CHAL.WORD (n : Nat) : Fld := ⟨(Reg.DBG.CHAL n), 0, 32⟩

/-! DBG.CHALn (18_debug_and_test.md, domain 0). -/
def Reg.DBG.RESP (n : Nat) : Nat := 0xE0200 + 0x4 * n
def Reg.DBG.RESP.WORD (n : Nat) : Fld := ⟨(Reg.DBG.RESP n), 0, 32⟩

/-! DBG.ENG_CTRL (18_debug_and_test.md, domain 1). -/
def Reg.DBG.ENG_CTRL : Nat := 0xE0010
def Reg.DBG.ENG_CTRL.ENGINE : Fld := ⟨Reg.DBG.ENG_CTRL, 0, 8⟩
def Reg.DBG.ENG_CTRL.HALT : Fld := ⟨Reg.DBG.ENG_CTRL, 8, 1⟩
def Reg.DBG.ENG_CTRL.RESUME : Fld := ⟨Reg.DBG.ENG_CTRL, 9, 1⟩
def Reg.DBG.ENG_CTRL.STEP : Fld := ⟨Reg.DBG.ENG_CTRL, 10, 1⟩
def Reg.DBG.ENG_CTRL.INJECT : Fld := ⟨Reg.DBG.ENG_CTRL, 11, 1⟩

/-! DBG.ENG_CTRL (18_debug_and_test.md, domain 1). -/
def Reg.DBG.ENG_STAT : Nat := 0xE0014
def Reg.DBG.ENG_STAT.STATE : Fld := ⟨Reg.DBG.ENG_STAT, 0, 3⟩
def Reg.DBG.ENG_STAT.PEND : Fld := ⟨Reg.DBG.ENG_STAT, 3, 1⟩
def Reg.DBG.ENG_STAT.INJ_CAUSE : Fld := ⟨Reg.DBG.ENG_STAT, 4, 4⟩
def Reg.DBG.ENG_STAT.PC : Fld := ⟨Reg.DBG.ENG_STAT, 16, 11⟩

/-! DBG.INJ0–3 (18_debug_and_test.md, domain 1). -/
def Reg.DBG.INJ (n : Nat) : Nat := 0xE0020 + 0x4 * n
def Reg.DBG.INJ.WORD (n : Nat) : Fld := ⟨(Reg.DBG.INJ n), 0, 32⟩

/-! DBG.INJ0–3 (18_debug_and_test.md, domain 1). -/
def Reg.DBG.CORE_CTRL : Nat := 0xE0030
def Reg.DBG.CORE_CTRL.HALT : Fld := ⟨Reg.DBG.CORE_CTRL, 0, 4⟩
def Reg.DBG.CORE_CTRL.RESUME : Fld := ⟨Reg.DBG.CORE_CTRL, 4, 4⟩
def Reg.DBG.CORE_CTRL.HALTED : Fld := ⟨Reg.DBG.CORE_CTRL, 8, 4⟩

/-! DBG.INJ0–3 (18_debug_and_test.md, domain 1). -/
def Reg.DBG.LOCK_FORCE : Nat := 0xE0034
def Reg.DBG.LOCK_FORCE.LOCK : Fld := ⟨Reg.DBG.LOCK_FORCE, 0, 8⟩
def Reg.DBG.LOCK_FORCE.CLUSTER : Fld := ⟨Reg.DBG.LOCK_FORCE, 8, 4⟩
def Reg.DBG.LOCK_FORCE.GO : Fld := ⟨Reg.DBG.LOCK_FORCE, 12, 1⟩

/-! BIST.STATUS (18_debug_and_test.md, domain 1). -/
def Reg.BIST.STATUS : Nat := 0xE1000
def Reg.BIST.STATUS.BUSY : Fld := ⟨Reg.BIST.STATUS, 0, 1⟩
def Reg.BIST.STATUS.DOMAIN : Fld := ⟨Reg.BIST.STATUS, 1, 5⟩
def Reg.BIST.STATUS.KIND : Fld := ⟨Reg.BIST.STATUS, 6, 2⟩
def Reg.BIST.STATUS.RESULT : Fld := ⟨Reg.BIST.STATUS, 8, 2⟩
def Reg.BIST.STATUS.RUNS : Fld := ⟨Reg.BIST.STATUS, 16, 16⟩

/-! BIST.STATUS (18_debug_and_test.md, domain 1). -/
def Reg.BIST.SIG_LO : Nat := 0xE1004
def Reg.BIST.SIG_LO.SIG : Fld := ⟨Reg.BIST.SIG_LO, 0, 32⟩

/-! BIST.STATUS (18_debug_and_test.md, domain 1). -/
def Reg.BIST.SIG_HI : Nat := 0xE1008
def Reg.BIST.SIG_HI.SIG : Fld := ⟨Reg.BIST.SIG_HI, 0, 32⟩

/-! BIST.STATUS (18_debug_and_test.md, domain 1). -/
def Reg.BIST.EVENT : Nat := 0xE100C
def Reg.BIST.EVENT.BIST_DONE : Fld := ⟨Reg.BIST.EVENT, 0, 1⟩
def Reg.BIST.EVENT.BIST_FAIL : Fld := ⟨Reg.BIST.EVENT, 1, 1⟩
def Reg.BIST.EVENT.REPAIR_DONE : Fld := ⟨Reg.BIST.EVENT, 2, 1⟩
def Reg.BIST.EVENT.CAND_OVF : Fld := ⟨Reg.BIST.EVENT, 3, 1⟩

/-! CLU.MBX_CFG (17_interrupts_mailboxes.md, domain clu). -/
def Reg.CLU.MBX_CFG (n : Nat) : Nat := 0x1007100 + 0x200000 * n
def Reg.CLU.MBX_CFG.TMO_US (n : Nat) : Fld := ⟨(Reg.CLU.MBX_CFG n), 0, 16⟩

/-! MBX.CFG (17_interrupts_mailboxes.md, domain 1). -/
def Reg.MBX.CFG : Nat := 0x32000
def Reg.MBX.CFG.HOST_TMO_US : Fld := ⟨Reg.MBX.CFG, 0, 16⟩

/-! DMA queue SRC_LO (R519) (17_interrupts_mailboxes.md, domain clu). -/
def Reg.DMA.SRC_LO (e : Nat) : Nat := 0x1002000 + 0x200000 * (e / 32) + 0x200 * (e % 32)
def Reg.DMA.SRC_LO.ADDR (e : Nat) : Fld := ⟨(Reg.DMA.SRC_LO e), 0, 32⟩

/-! DMA queue SRC_HI (R519) (17_interrupts_mailboxes.md, domain clu). -/
def Reg.DMA.SRC_HI (e : Nat) : Nat := 0x1002004 + 0x200000 * (e / 32) + 0x200 * (e % 32)
def Reg.DMA.SRC_HI.ADDR (e : Nat) : Fld := ⟨(Reg.DMA.SRC_HI e), 0, 32⟩

/-! DMA queue DST_LO (R519) (17_interrupts_mailboxes.md, domain clu). -/
def Reg.DMA.DST_LO (e : Nat) : Nat := 0x1002008 + 0x200000 * (e / 32) + 0x200 * (e % 32)
def Reg.DMA.DST_LO.ADDR (e : Nat) : Fld := ⟨(Reg.DMA.DST_LO e), 0, 32⟩

/-! DMA queue DST_HI (R519) (17_interrupts_mailboxes.md, domain clu). -/
def Reg.DMA.DST_HI (e : Nat) : Nat := 0x100200C + 0x200000 * (e / 32) + 0x200 * (e % 32)
def Reg.DMA.DST_HI.ADDR (e : Nat) : Fld := ⟨(Reg.DMA.DST_HI e), 0, 32⟩

/-! DMA queue LEN (R519) (17_interrupts_mailboxes.md, domain clu). -/
def Reg.DMA.LEN (e : Nat) : Nat := 0x1002010 + 0x200000 * (e / 32) + 0x200 * (e % 32)
def Reg.DMA.LEN.LEN (e : Nat) : Fld := ⟨(Reg.DMA.LEN e), 0, 24⟩

/-! DMA queue CTX and GO (R519) (17_interrupts_mailboxes.md, domain clu). -/
def Reg.DMA.CTX (e : Nat) : Nat := 0x1002014 + 0x200000 * (e / 32) + 0x200 * (e % 32)
def Reg.DMA.CTX.CTX (e : Nat) : Fld := ⟨(Reg.DMA.CTX e), 0, 16⟩
def Reg.DMA.CTX.GO (e : Nat) : Fld := ⟨(Reg.DMA.CTX e), 31, 1⟩

/-! DMA queue status (R519) (17_interrupts_mailboxes.md, domain clu). -/
def Reg.DMA.STAT (e : Nat) : Nat := 0x1002018 + 0x200000 * (e / 32) + 0x200 * (e % 32)
def Reg.DMA.STAT.FREE (e : Nat) : Fld := ⟨(Reg.DMA.STAT e), 0, 4⟩
def Reg.DMA.STAT.ERR (e : Nat) : Fld := ⟨(Reg.DMA.STAT e), 4, 1⟩
def Reg.DMA.STAT.DONE_CNT (e : Nat) : Fld := ⟨(Reg.DMA.STAT e), 16, 16⟩

/-! MSI-X table, message address (R508) (17_interrupts_mailboxes.md, domain 0). -/
def Reg.MSIX.ADDR_LO (n : Nat) : Nat := 0x50000 + 0x10 * n
def Reg.MSIX.ADDR_LO.ADDR (n : Nat) : Fld := ⟨(Reg.MSIX.ADDR_LO n), 0, 32⟩

/-! MSI-X table, message upper address (R508) (17_interrupts_mailboxes.md, domain 0). -/
def Reg.MSIX.ADDR_HI (n : Nat) : Nat := 0x50004 + 0x10 * n
def Reg.MSIX.ADDR_HI.ADDR (n : Nat) : Fld := ⟨(Reg.MSIX.ADDR_HI n), 0, 32⟩

/-! MSI-X table, message data (R508) (17_interrupts_mailboxes.md, domain 0). -/
def Reg.MSIX.DATA (n : Nat) : Nat := 0x50008 + 0x10 * n
def Reg.MSIX.DATA.DATA (n : Nat) : Fld := ⟨(Reg.MSIX.DATA n), 0, 32⟩

/-! MSI-X table, vector control (R508) (17_interrupts_mailboxes.md, domain 0). -/
def Reg.MSIX.CTRL (n : Nat) : Nat := 0x5000C + 0x10 * n
def Reg.MSIX.CTRL.MASKED (n : Nat) : Fld := ⟨(Reg.MSIX.CTRL n), 0, 1⟩

/-! MSI-X pending-bit array (R508) (17_interrupts_mailboxes.md, domain 0). -/
def Reg.MSIX.PBA (n : Nat) : Nat := 0x50800 + 0x4 * n
def Reg.MSIX.PBA.PEND (n : Nat) : Fld := ⟨(Reg.MSIX.PBA n), 0, 32⟩

def regTable0 : List RegSpec := [
  ⟨0x0, [], .pd 0, 0x0, []⟩,
  ⟨0x4, [], .pd 0, 0x0, []⟩,
  ⟨0x8, [], .pd 0, 0x0, []⟩,
  ⟨0x60000, [], .pd 0, 0x8, []⟩,
  ⟨0x60004, [], .pd 0, 0x0, []⟩,
  ⟨0x60008, [], .pd 0, 0x0, []⟩,
  ⟨0x6000C, [], .pd 0, 0x0, []⟩,
  ⟨0x60010, [], .pd 0, 0x0, []⟩,
  ⟨0x60014, [(0x4, 4)], .pd 0, 0x0, []⟩,
  ⟨0x60024, [], .pd 0, 0xA100014, [⟨0, 10, .rw, 1, 1000⟩, ⟨16, 8, .rw, 1, 255⟩, ⟨24, 7, .rw, 1, 50⟩]⟩,
  ⟨0x60028, [], .pd 0, 0x20E10, [⟨0, 16, .rw, 0, 65535⟩, ⟨16, 8, .rw, 1, 255⟩]⟩,
  ⟨0x6002C, [], .pd 0, 0x0, [⟨0, 1, .w1c, 0, 1⟩, ⟨1, 1, .w1c, 0, 1⟩, ⟨2, 1, .w1c, 0, 1⟩, ⟨3, 1, .w1c, 0, 1⟩, ⟨4, 1, .w1c, 0, 1⟩, ⟨5, 1, .w1c, 0, 1⟩, ⟨6, 1, .w1c, 0, 1⟩, ⟨7, 1, .w1c, 0, 1⟩, ⟨8, 1, .w1c, 0, 1⟩]⟩,
  ⟨0x60030, [], .pd 0, 0x0, []⟩,
  ⟨0x60040, [], .pd 0, 0x118, []⟩,
  ⟨0x60044, [(0x4, 7)], .pd 0, 0x0, []⟩,
  ⟨0x60060, [(0x4, 2)], .pd 0, 0x0, []⟩,
  ⟨0x70000, [], .pd 1, 0x0, []⟩,
  ⟨0x70004, [], .pd 1, 0x0, []⟩,
  ⟨0x70008, [], .pd 1, 0x0, []⟩,
  ⟨0x7000C, [], .pd 1, 0x0, []⟩,
  ⟨0x70010, [], .pd 1, 0x8CA, []⟩,
  ⟨0x70014, [], .pd 1, 0x4, [⟨0, 5, .rw, 0, 31⟩, ⟨8, 8, .rw, 0, 255⟩]⟩,
  ⟨0x70018, [], .pd 1, 0x0, []⟩,
  ⟨0x7001C, [], .pd 1, 0x0, [⟨0, 1, .w1c, 0, 1⟩, ⟨1, 1, .w1c, 0, 1⟩, ⟨2, 1, .w1c, 0, 1⟩, ⟨3, 1, .w1c, 0, 1⟩, ⟨4, 1, .w1c, 0, 1⟩, ⟨5, 1, .w1c, 0, 1⟩, ⟨6, 1, .w1c, 0, 1⟩, ⟨7, 1, .w1c, 0, 1⟩, ⟨8, 1, .w1c, 0, 1⟩]⟩]

def regTable1 : List RegSpec := [
  ⟨0x70020, [], .pd 1, 0x0, []⟩,
  ⟨0x20000, [(0x40, 4)], .pd 1, 0x0, []⟩,
  ⟨0x20004, [(0x40, 4)], .pd 1, 0x0, []⟩,
  ⟨0x20008, [(0x40, 4)], .pd 1, 0x0, []⟩,
  ⟨0x2000C, [(0x40, 4)], .pd 1, 0x0, []⟩,
  ⟨0x20010, [(0x40, 4)], .pd 1, 0x40, [⟨8, 1, .rw, 0, 1⟩]⟩,
  ⟨0x20014, [(0x40, 4)], .pd 1, 0x0, []⟩,
  ⟨0x20018, [(0x40, 4)], .pd 1, 0x0, []⟩,
  ⟨0x2001C, [(0x40, 4)], .pd 1, 0x0, []⟩,
  ⟨0x20020, [(0x40, 4)], .pd 1, 0x0, []⟩,
  ⟨0x20024, [(0x40, 4)], .pd 1, 0x0, [⟨3, 29, .rw, 0, 536870911⟩]⟩,
  ⟨0x20028, [(0x40, 4)], .pd 1, 0x0, [⟨0, 32, .rw, 0, 4294967295⟩]⟩,
  ⟨0x2002C, [(0x40, 4)], .pd 1, 0x1, [⟨6, 1, .w1c, 0, 1⟩, ⟨7, 1, .w1c, 0, 1⟩, ⟨8, 1, .w1c, 0, 1⟩, ⟨9, 1, .w1c, 0, 1⟩]⟩,
  ⟨0x20100, [], .pd 1, 0x0, []⟩,
  ⟨0x20104, [], .pd 1, 0x0, [⟨0, 4, .w1c, 0, 15⟩, ⟨4, 1, .w1c, 0, 1⟩, ⟨5, 1, .w1c, 0, 1⟩, ⟨6, 1, .w1c, 0, 1⟩, ⟨7, 1, .w1c, 0, 1⟩]⟩,
  ⟨0x20108, [], .pd 1, 0x0, []⟩,
  ⟨0x2010C, [], .pd 1, 0x4, [⟨0, 8, .rw, 1, 255⟩]⟩,
  ⟨0x20110, [], .pd 1, 0x10, [⟨16, 1, .w1c, 0, 1⟩, ⟨17, 1, .w1c, 0, 1⟩]⟩,
  ⟨0x300000, [(0x10, 100)], .pd 3, 0x0, []⟩,
  ⟨0x300004, [(0x10, 100)], .pd 3, 0x0, []⟩,
  ⟨0x300008, [(0x10, 100)], .pd 3, 0x0, []⟩,
  ⟨0x30000C, [(0x10, 100)], .pd 3, 0x0, [⟨0, 1, .w1c, 0, 1⟩, ⟨1, 1, .w1c, 0, 1⟩, ⟨2, 1, .w1c, 0, 1⟩, ⟨3, 1, .w1c, 0, 1⟩, ⟨4, 1, .w1c, 0, 1⟩, ⟨5, 1, .w1c, 0, 1⟩]⟩,
  ⟨0x301000, [(0x8, 24)], .pd 3, 0x0, [⟨8, 1, .w1c, 0, 1⟩, ⟨9, 1, .w1c, 0, 1⟩, ⟨10, 1, .w1c, 0, 1⟩, ⟨11, 1, .w1c, 0, 1⟩]⟩,
  ⟨0x301004, [(0x8, 24)], .pd 3, 0x0, [⟨0, 1, .rw, 0, 1⟩]⟩]

def regTable2 : List RegSpec := [
  ⟨0x302000, [], .pd 3, 0x0, []⟩,
  ⟨0x302004, [], .pd 3, 0x0, [⟨0, 4, .w1c, 0, 15⟩, ⟨4, 1, .w1c, 0, 1⟩, ⟨5, 1, .w1c, 0, 1⟩, ⟨6, 1, .w1c, 0, 1⟩, ⟨7, 1, .w1c, 0, 1⟩]⟩,
  ⟨0x302008, [], .pd 3, 0x0, []⟩,
  ⟨0x303000, [], .pd 3, 0x0, []⟩,
  ⟨0xA0000, [], .pd 3, 0x800200, []⟩,
  ⟨0xA0004, [], .pd 3, 0x0, [⟨0, 1, .w1c, 0, 1⟩, ⟨1, 1, .w1c, 0, 1⟩, ⟨2, 1, .w1c, 0, 1⟩, ⟨3, 1, .w1c, 0, 1⟩, ⟨4, 1, .w1c, 0, 1⟩, ⟨5, 1, .w1c, 0, 1⟩, ⟨6, 1, .w1c, 0, 1⟩, ⟨7, 1, .w1c, 0, 1⟩]⟩,
  ⟨0xA0008, [], .pd 3, 0x0, []⟩,
  ⟨0xA000C, [], .pd 3, 0x0, []⟩,
  ⟨0xA0010, [], .pd 3, 0x0, []⟩,
  ⟨0xA0100, [], .pd 3, 0x0, []⟩,
  ⟨0xA0104, [], .pd 3, 0x0, [⟨0, 32, .w1c, 0, 4294967295⟩]⟩,
  ⟨0xA0140, [(0x4, 32)], .pd 3, 0x0, []⟩,
  ⟨0xA0200, [], .pd 3, 0x0, []⟩,
  ⟨0x1000000, [(0x200000, 8)], .cluster, 0x3, []⟩,
  ⟨0x1000004, [(0x200000, 8)], .cluster, 0x0, [⟨0, 1, .w1c, 0, 1⟩, ⟨1, 1, .w1c, 0, 1⟩, ⟨2, 1, .w1c, 0, 1⟩]⟩,
  ⟨0x1000008, [(0x200000, 8)], .cluster, 0x0, []⟩,
  ⟨0x100000C, [(0x200000, 8)], .cluster, 0x0, []⟩,
  ⟨0x1000010, [(0x200000, 8)], .cluster, 0x0, []⟩,
  ⟨0x1000014, [(0x200000, 8)], .cluster, 0x0, []⟩,
  ⟨0x1000018, [(0x200000, 8)], .cluster, 0x0, []⟩,
  ⟨0x1001000, [(0x200000, 8), (0x40, 32)], .cluster, 0x0, []⟩,
  ⟨0x1001004, [(0x200000, 8), (0x40, 32)], .cluster, 0x800, [⟨0, 1, .rw, 0, 1⟩, ⟨8, 8, .rw, 1, 255⟩]⟩,
  ⟨0x1001008, [(0x200000, 8), (0x40, 32)], .cluster, 0x0, [⟨4, 1, .w1c, 0, 1⟩]⟩,
  ⟨0x100100C, [(0x200000, 8), (0x40, 32)], .cluster, 0x0, []⟩]

def regTable3 : List RegSpec := [
  ⟨0x1001010, [(0x200000, 8), (0x40, 32)], .cluster, 0x0, []⟩,
  ⟨0x880000, [], .pd 1, 0x0, []⟩,
  ⟨0x880004, [], .pd 3, 0x0, [⟨0, 1, .w1c, 0, 1⟩, ⟨1, 1, .w1c, 0, 1⟩, ⟨2, 1, .w1c, 0, 1⟩, ⟨3, 1, .w1c, 0, 1⟩, ⟨4, 1, .w1c, 0, 1⟩, ⟨5, 1, .w1c, 0, 1⟩, ⟨6, 1, .w1c, 0, 1⟩]⟩,
  ⟨0x880100, [(0x4, 16)], .pd 3, 0x0, []⟩,
  ⟨0x880140, [(0x4, 4)], .pd 3, 0x0, []⟩,
  ⟨0x881000, [(0x10, 64)], .pd 3, 0x0, []⟩,
  ⟨0x881004, [(0x10, 64)], .pd 3, 0x0, []⟩,
  ⟨0x881008, [(0x10, 64)], .pd 3, 0x0, []⟩,
  ⟨0x88100C, [(0x10, 64)], .pd 3, 0x0, []⟩,
  ⟨0x890000, [(0x10, 56)], .tile, 0x0, []⟩,
  ⟨0x800000, [], .pd 1, 0x4000, []⟩,
  ⟨0x800004, [], .pd 1, 0x0, []⟩,
  ⟨0x800008, [], .pd 1, 0x0, []⟩,
  ⟨0x80000C, [], .pd 1, 0x0, []⟩,
  ⟨0x800010, [], .pd 1, 0x0, []⟩,
  ⟨0x800014, [], .pd 1, 0x0, [⟨0, 1, .w1c, 0, 1⟩, ⟨1, 1, .w1c, 0, 1⟩, ⟨2, 1, .w1c, 0, 1⟩, ⟨3, 1, .w1c, 0, 1⟩, ⟨4, 1, .w1c, 0, 1⟩, ⟨5, 1, .w1c, 0, 1⟩, ⟨6, 1, .w1c, 0, 1⟩, ⟨7, 1, .w1c, 0, 1⟩, ⟨8, 1, .w1c, 0, 1⟩]⟩,
  ⟨0x800018, [], .pd 1, 0x0, []⟩,
  ⟨0x80001C, [], .pd 1, 0x0, []⟩,
  ⟨0x810000, [(0x4, 56)], .tile, 0x0, []⟩,
  ⟨0x100000, [(0x20000, 8)], .pd 4, 0x0, []⟩,
  ⟨0x100004, [(0x20000, 8)], .pd 4, 0x3E80000, [⟨2, 1, .rw, 0, 1⟩, ⟨16, 16, .rw, 1, 65535⟩]⟩,
  ⟨0x100008, [(0x20000, 8)], .pd 4, 0x7D0, [⟨0, 16, .rw, 2000, 65535⟩]⟩,
  ⟨0x10000C, [(0x20000, 8)], .pd 4, 0x0, []⟩,
  ⟨0x100010, [(0x20000, 8)], .pd 4, 0x0, [⟨0, 1, .w1c, 0, 1⟩, ⟨1, 1, .w1c, 0, 1⟩, ⟨2, 1, .w1c, 0, 1⟩, ⟨3, 1, .w1c, 0, 1⟩, ⟨4, 1, .w1c, 0, 1⟩, ⟨5, 1, .w1c, 0, 1⟩, ⟨6, 1, .w1c, 0, 1⟩, ⟨7, 1, .w1c, 0, 1⟩, ⟨8, 1, .w1c, 0, 1⟩]⟩]

def regTable4 : List RegSpec := [
  ⟨0x100014, [(0x20000, 8)], .pd 4, 0x0, []⟩,
  ⟨0x100018, [(0x20000, 8)], .pd 4, 0x0, []⟩,
  ⟨0x10001C, [(0x20000, 8)], .pd 4, 0x0, []⟩,
  ⟨0x100100, [(0x4, 20)], .pd 4, 0x3E8, [⟨16, 2, .rc, 0, 3⟩]⟩,
  ⟨0x100150, [(0x4, 1)], .pd 4, 0x3E8, [⟨0, 14, .rw, 10, 10000⟩, ⟨16, 2, .rc, 0, 3⟩]⟩,
  ⟨0x100154, [(0x4, 1)], .pd 4, 0x3E8, [⟨16, 2, .rc, 0, 3⟩]⟩,
  ⟨0x100158, [(0x4, 1)], .pd 4, 0x3E8, [⟨0, 14, .rw, 10, 10000⟩, ⟨16, 2, .rc, 0, 3⟩]⟩,
  ⟨0x10015C, [(0x4, 1)], .pd 4, 0x2710, [⟨0, 14, .rw, 10, 10000⟩, ⟨16, 2, .rc, 0, 3⟩]⟩,
  ⟨0x18000, [], .pd 0, 0x0, []⟩,
  ⟨0x19000, [], .pd 1, 0x0, [⟨0, 1, .w1c, 0, 1⟩, ⟨1, 1, .w1c, 0, 1⟩, ⟨2, 1, .w1c, 0, 1⟩]⟩,
  ⟨0x19004, [], .pd 1, 0x0, []⟩,
  ⟨0x19008, [], .pd 1, 0x0, []⟩,
  ⟨0x1900C, [], .pd 1, 0x18, [⟨0, 8, .rw, 24, 168⟩]⟩,
  ⟨0x19100, [(0x10, 94)], .pd 1, 0x0, [⟨16, 1, .w1c, 0, 1⟩]⟩,
  ⟨0x19104, [(0x10, 94)], .pd 1, 0x640020, []⟩,
  ⟨0x19108, [(0x10, 94)], .pd 1, 0x0, []⟩,
  ⟨0x19800, [(0x8, 64)], .pd 4, 0x0, []⟩,
  ⟨0x19804, [(0x8, 64)], .pd 4, 0x0, []⟩,
  ⟨0xC0000, [], .pd 2, 0x10000, []⟩,
  ⟨0xC0004, [], .pd 2, 0x0, [⟨0, 1, .w1c, 0, 1⟩, ⟨1, 1, .w1c, 0, 1⟩, ⟨2, 1, .w1c, 0, 1⟩, ⟨3, 1, .w1c, 0, 1⟩, ⟨4, 1, .w1c, 0, 1⟩, ⟨5, 1, .w1c, 0, 1⟩, ⟨6, 1, .w1c, 0, 1⟩, ⟨7, 1, .w1c, 0, 1⟩]⟩,
  ⟨0xC0008, [], .pd 2, 0x0, []⟩,
  ⟨0xC000C, [], .pd 0, 0x0, []⟩,
  ⟨0xC0010, [], .pd 2, 0x0, []⟩,
  ⟨0x200000, [(0x1000, 144)], .lane, 0x2, []⟩]

def regTable5 : List RegSpec := [
  ⟨0x200004, [(0x1000, 144)], .lane, 0x5000, []⟩,
  ⟨0x200008, [(0x1000, 144)], .lane, 0xF830F800, []⟩,
  ⟨0x20000C, [(0x1000, 144)], .lane, 0x0, [⟨0, 1, .w1c, 0, 1⟩, ⟨1, 1, .w1c, 0, 1⟩, ⟨2, 1, .w1c, 0, 1⟩, ⟨3, 1, .w1c, 0, 1⟩, ⟨4, 1, .w1c, 0, 1⟩, ⟨5, 1, .w1c, 0, 1⟩, ⟨6, 1, .w1c, 0, 1⟩, ⟨7, 1, .w1c, 0, 1⟩]⟩,
  ⟨0x200010, [(0x1000, 144)], .lane, 0x0, []⟩,
  ⟨0x200014, [(0x1000, 144)], .lane, 0x0, []⟩,
  ⟨0x200018, [(0x1000, 144)], .lane, 0x0, []⟩,
  ⟨0x20001C, [(0x1000, 144)], .lane, 0x0, []⟩,
  ⟨0x200020, [(0x1000, 144)], .lane, 0x0, []⟩,
  ⟨0x400000, [(0x20, 6)], .pd 1, 0x0, []⟩,
  ⟨0x400004, [(0x20, 6)], .pd 1, 0x0, []⟩,
  ⟨0x400008, [(0x20, 6)], .pd 1, 0x0, []⟩,
  ⟨0x40000C, [(0x20, 6)], .pd 1, 0x0, [⟨0, 1, .w1c, 0, 1⟩, ⟨1, 1, .w1c, 0, 1⟩, ⟨2, 1, .w1c, 0, 1⟩, ⟨3, 1, .w1c, 0, 1⟩]⟩,
  ⟨0x401000, [], .pd 1, 0x0, []⟩,
  ⟨0x401004, [], .pd 0, 0x2580000, []⟩,
  ⟨0x401008, [], .pd 1, 0x0, [⟨0, 1, .w1c, 0, 1⟩, ⟨1, 1, .w1c, 0, 1⟩, ⟨2, 1, .w1c, 0, 1⟩, ⟨3, 1, .w1c, 0, 1⟩, ⟨4, 1, .w1c, 0, 1⟩, ⟨5, 1, .w1c, 0, 1⟩]⟩,
  ⟨0x40100C, [], .pd 1, 0x0, []⟩,
  ⟨0x402000, [], .pd 0, 0x7F8000, []⟩,
  ⟨0x402004, [], .pd 1, 0x0, [⟨0, 1, .w1c, 0, 1⟩, ⟨1, 1, .w1c, 0, 1⟩, ⟨2, 1, .w1c, 0, 1⟩, ⟨3, 1, .w1c, 0, 1⟩]⟩,
  ⟨0x402008, [], .pd 0, 0x0, []⟩,
  ⟨0x80000, [], .pd 0, 0x0, []⟩,
  ⟨0x80004, [], .pd 0, 0x0, []⟩,
  ⟨0x80008, [], .pd 0, 0x0, []⟩,
  ⟨0x8000C, [], .pd 0, 0x64, [⟨0, 10, .rw, 10, 1000⟩]⟩,
  ⟨0x80010, [], .pd 0, 0x0, [⟨0, 1, .w1c, 0, 1⟩, ⟨1, 1, .w1c, 0, 1⟩, ⟨2, 1, .w1c, 0, 1⟩, ⟨3, 1, .w1c, 0, 1⟩, ⟨4, 1, .w1c, 0, 1⟩, ⟨5, 1, .w1c, 0, 1⟩, ⟨6, 1, .w1c, 0, 1⟩, ⟨7, 1, .w1c, 0, 1⟩, ⟨8, 1, .w1c, 0, 1⟩, ⟨9, 1, .w1c, 0, 1⟩, ⟨10, 1, .w1c, 0, 1⟩, ⟨11, 1, .w1c, 0, 1⟩, ⟨12, 1, .w1c, 0, 1⟩]⟩]

def regTable6 : List RegSpec := [
  ⟨0x80014, [], .pd 0, 0x0, []⟩,
  ⟨0x80020, [], .pd 0, 0x3, []⟩,
  ⟨0x80024, [], .pd 0, 0x0, []⟩,
  ⟨0x80028, [], .pd 0, 0x0, []⟩,
  ⟨0x8002C, [], .pd 0, 0x0, []⟩,
  ⟨0x80040, [(0x4, 8)], .pd 0, 0xF, []⟩,
  ⟨0x80060, [(0x4, 8)], .pd 0, 0x0, []⟩,
  ⟨0x80100, [], .pd 0, 0x0, []⟩,
  ⟨0x80104, [], .pd 0, 0x5F, [⟨0, 8, .rw, 60, 104⟩]⟩,
  ⟨0x80140, [(0x4, 16)], .pd 0, 0x0, [⟨16, 8, .rc, 0, 255⟩]⟩,
  ⟨0x80200, [], .pd 0, 0x9, []⟩,
  ⟨0x80204, [], .pd 0, 0x640002, [⟨0, 1, .rw, 0, 1⟩, ⟨1, 1, .rw, 0, 1⟩, ⟨16, 16, .rw, 1, 65535⟩]⟩,
  ⟨0x80208, [], .pd 0, 0x0, [⟨0, 1, .w1c, 0, 1⟩, ⟨1, 1, .w1c, 0, 1⟩, ⟨2, 1, .w1c, 0, 1⟩, ⟨3, 1, .w1c, 0, 1⟩]⟩,
  ⟨0x8020C, [], .pd 0, 0x0, []⟩,
  ⟨0x80300, [(0x10, 16)], .pd 1, 0x100, [⟨0, 8, .rw, 0, 255⟩, ⟨8, 8, .rw, 0, 255⟩]⟩,
  ⟨0x80304, [(0x10, 16)], .pd 1, 0x1, [⟨0, 32, .rw, 1, 4294967295⟩]⟩,
  ⟨0x80308, [(0x10, 16)], .pd 1, 0x0, []⟩,
  ⟨0x10000, [], .pd 0, 0x101, []⟩,
  ⟨0x10004, [], .pd 0, 0x0, []⟩,
  ⟨0x10008, [], .pd 0, 0x0, []⟩,
  ⟨0x1000C, [], .pd 1, 0x0, []⟩,
  ⟨0x10010, [], .pd 0, 0x0, [⟨0, 1, .w1c, 0, 1⟩, ⟨1, 1, .w1c, 0, 1⟩, ⟨2, 1, .w1c, 0, 1⟩, ⟨3, 1, .w1c, 0, 1⟩, ⟨4, 1, .w1c, 0, 1⟩, ⟨5, 1, .w1c, 0, 1⟩]⟩,
  ⟨0x40000, [(0x4, 64)], .pd 0, 0x0, []⟩,
  ⟨0x40100, [(0x4, 64)], .pd 0, 0xFFFFFFFF, [⟨0, 32, .rw, 0, 4294967295⟩]⟩]

def regTable7 : List RegSpec := [
  ⟨0x40200, [(0x4, 64)], .pd 0, 0x0, []⟩,
  ⟨0x40300, [(0x4, 64)], .pd 0, 0x0, []⟩,
  ⟨0x40400, [], .pd 0, 0x0, [⟨0, 1, .w1c, 0, 1⟩]⟩,
  ⟨0x30800, [(0x4, 256)], .pd 1, 0x0, []⟩,
  ⟨0x1007000, [(0x200000, 8), (0x4, 32)], .cluster, 0x0, []⟩,
  ⟨0x30C00, [], .pd 1, 0x0, []⟩,
  ⟨0x1007080, [(0x200000, 8)], .cluster, 0x0, []⟩,
  ⟨0xE0000, [], .pd 0, 0x0, []⟩,
  ⟨0xE0004, [], .pd 0, 0x0, [⟨0, 1, .w1c, 0, 1⟩, ⟨1, 1, .w1c, 0, 1⟩, ⟨2, 1, .w1c, 0, 1⟩, ⟨3, 1, .w1c, 0, 1⟩, ⟨4, 1, .w1c, 0, 1⟩, ⟨5, 1, .w1c, 0, 1⟩, ⟨6, 1, .w1c, 0, 1⟩, ⟨7, 1, .w1c, 0, 1⟩]⟩,
  ⟨0xE0008, [], .pd 0, 0x0, [⟨0, 16, .rw, 0, 65535⟩]⟩,
  ⟨0xE000C, [], .pd 0, 0x0, [⟨0, 2, .rw, 0, 3⟩]⟩,
  ⟨0xE0100, [(0x4, 12)], .pd 0, 0x0, []⟩,
  ⟨0xE0200, [(0x4, 48)], .pd 0, 0x0, [⟨0, 32, .rw, 0, 4294967295⟩]⟩,
  ⟨0xE0010, [], .pd 1, 0x0, [⟨0, 8, .rw, 0, 255⟩]⟩,
  ⟨0xE0014, [], .pd 1, 0x0, []⟩,
  ⟨0xE0020, [(0x4, 4)], .pd 1, 0x0, [⟨0, 32, .rw, 0, 4294967295⟩]⟩,
  ⟨0xE0030, [], .pd 1, 0x0, []⟩,
  ⟨0xE0034, [], .pd 1, 0xF00, [⟨0, 8, .rw, 0, 255⟩, ⟨8, 4, .rw, 0, 15⟩]⟩,
  ⟨0xE1000, [], .pd 1, 0x0, []⟩,
  ⟨0xE1004, [], .pd 1, 0x0, []⟩,
  ⟨0xE1008, [], .pd 1, 0x0, []⟩,
  ⟨0xE100C, [], .pd 1, 0x0, [⟨0, 1, .w1c, 0, 1⟩, ⟨1, 1, .w1c, 0, 1⟩, ⟨2, 1, .w1c, 0, 1⟩, ⟨3, 1, .w1c, 0, 1⟩]⟩,
  ⟨0x1007100, [(0x200000, 8)], .cluster, 0x3E8, [⟨0, 16, .rw, 1, 65535⟩]⟩,
  ⟨0x32000, [], .pd 1, 0x2710, [⟨0, 16, .rw, 1, 65535⟩]⟩]

def regTable8 : List RegSpec := [
  ⟨0x1002000, [(0x200000, 8), (0x200, 32)], .cluster, 0x0, [⟨0, 32, .rw, 0, 4294967295⟩]⟩,
  ⟨0x1002004, [(0x200000, 8), (0x200, 32)], .cluster, 0x0, [⟨0, 32, .rw, 0, 4294967295⟩]⟩,
  ⟨0x1002008, [(0x200000, 8), (0x200, 32)], .cluster, 0x0, [⟨0, 32, .rw, 0, 4294967295⟩]⟩,
  ⟨0x100200C, [(0x200000, 8), (0x200, 32)], .cluster, 0x0, [⟨0, 32, .rw, 0, 4294967295⟩]⟩,
  ⟨0x1002010, [(0x200000, 8), (0x200, 32)], .cluster, 0x0, [⟨0, 24, .rw, 0, 16777215⟩]⟩,
  ⟨0x1002014, [(0x200000, 8), (0x200, 32)], .cluster, 0xFFFF, [⟨0, 16, .rw, 0, 65535⟩]⟩,
  ⟨0x1002018, [(0x200000, 8), (0x200, 32)], .cluster, 0x8, [⟨4, 1, .w1c, 0, 1⟩]⟩,
  ⟨0x50000, [(0x10, 64)], .pd 0, 0x0, [⟨0, 32, .rw, 0, 4294967295⟩]⟩,
  ⟨0x50004, [(0x10, 64)], .pd 0, 0x0, [⟨0, 32, .rw, 0, 4294967295⟩]⟩,
  ⟨0x50008, [(0x10, 64)], .pd 0, 0x0, [⟨0, 32, .rw, 0, 4294967295⟩]⟩,
  ⟨0x5000C, [(0x10, 64)], .pd 0, 0x1, [⟨0, 1, .rw, 0, 1⟩]⟩,
  ⟨0x50800, [(0x4, 2)], .pd 0, 0x0, []⟩]

/-- Every register of the block. -/
def regTable : List RegSpec :=
  regTable0 ++ regTable1 ++ regTable2 ++ regTable3 ++ regTable4 ++ regTable5 ++ regTable6 ++ regTable7 ++ regTable8

/-- The registers whose stated reset value is not zero. -/
def resetTable : List RegSpec := [
  ⟨0x60000, [], .pd 0, 0x8, []⟩,
  ⟨0x60024, [], .pd 0, 0xA100014, []⟩,
  ⟨0x60028, [], .pd 0, 0x20E10, []⟩,
  ⟨0x60040, [], .pd 0, 0x118, []⟩,
  ⟨0x70010, [], .pd 1, 0x8CA, []⟩,
  ⟨0x70014, [], .pd 1, 0x4, []⟩,
  ⟨0x20010, [(0x40, 4)], .pd 1, 0x40, []⟩,
  ⟨0x2002C, [(0x40, 4)], .pd 1, 0x1, []⟩,
  ⟨0x2010C, [], .pd 1, 0x4, []⟩,
  ⟨0x20110, [], .pd 1, 0x10, []⟩,
  ⟨0xA0000, [], .pd 3, 0x800200, []⟩,
  ⟨0x1000000, [(0x200000, 8)], .cluster, 0x3, []⟩,
  ⟨0x1001004, [(0x200000, 8), (0x40, 32)], .cluster, 0x800, []⟩,
  ⟨0x800000, [], .pd 1, 0x4000, []⟩,
  ⟨0x100004, [(0x20000, 8)], .pd 4, 0x3E80000, []⟩,
  ⟨0x100008, [(0x20000, 8)], .pd 4, 0x7D0, []⟩,
  ⟨0x100100, [(0x4, 20)], .pd 4, 0x3E8, []⟩,
  ⟨0x100150, [(0x4, 1)], .pd 4, 0x3E8, []⟩,
  ⟨0x100154, [(0x4, 1)], .pd 4, 0x3E8, []⟩,
  ⟨0x100158, [(0x4, 1)], .pd 4, 0x3E8, []⟩,
  ⟨0x10015C, [(0x4, 1)], .pd 4, 0x2710, []⟩,
  ⟨0x1900C, [], .pd 1, 0x18, []⟩,
  ⟨0x19104, [(0x10, 94)], .pd 1, 0x640020, []⟩,
  ⟨0xC0000, [], .pd 2, 0x10000, []⟩,
  ⟨0x200000, [(0x1000, 144)], .lane, 0x2, []⟩,
  ⟨0x200004, [(0x1000, 144)], .lane, 0x5000, []⟩,
  ⟨0x200008, [(0x1000, 144)], .lane, 0xF830F800, []⟩,
  ⟨0x401004, [], .pd 0, 0x2580000, []⟩,
  ⟨0x402000, [], .pd 0, 0x7F8000, []⟩,
  ⟨0x8000C, [], .pd 0, 0x64, []⟩,
  ⟨0x80020, [], .pd 0, 0x3, []⟩,
  ⟨0x80040, [(0x4, 8)], .pd 0, 0xF, []⟩,
  ⟨0x80104, [], .pd 0, 0x5F, []⟩,
  ⟨0x80200, [], .pd 0, 0x9, []⟩,
  ⟨0x80204, [], .pd 0, 0x640002, []⟩,
  ⟨0x80300, [(0x10, 16)], .pd 1, 0x100, []⟩,
  ⟨0x80304, [(0x10, 16)], .pd 1, 0x1, []⟩,
  ⟨0x10000, [], .pd 0, 0x101, []⟩,
  ⟨0x40100, [(0x4, 64)], .pd 0, 0xFFFFFFFF, []⟩,
  ⟨0xE0034, [], .pd 1, 0xF00, []⟩,
  ⟨0x1007100, [(0x200000, 8)], .cluster, 0x3E8, []⟩,
  ⟨0x32000, [], .pd 1, 0x2710, []⟩,
  ⟨0x1002014, [(0x200000, 8), (0x200, 32)], .cluster, 0xFFFF, []⟩,
  ⟨0x1002018, [(0x200000, 8), (0x200, 32)], .cluster, 0x8, []⟩,
  ⟨0x5000C, [(0x10, 64)], .pd 0, 0x1, []⟩]

/-- The row of the register table for a byte offset. -/
def specOf (o : Nat) : Option RegSpec := regTable.find? (fun r => r.has o)

/-- The stated reset value of the register at a byte offset; an offset with no register reads 0 (R14;
notes/assumptions/4.md). -/
def resetWord (o : Nat) : Word :=
  match resetTable.find? (fun r => r.has o) with
  | some r => BitVec.ofNat 32 r.rst
  | none => 0

end Sys2Proof.Machine
end

