-- ==== Sys2Proof/Machine/State.lean ====
section
/-! DEFINITION. The state of the block as plain data: the register file, the memories, and every table, queue,
counter and mode the spec gives the device outside its registers. A field's default is its value in
`State.reset`, the machine right after PD00 is released from reset (R486 step 1). -/

namespace Sys2Proof.Machine

/-- Faults of a step. -/
inductive Fault where
  /-- Raised by no meaning of this model: a command the spec gives no effect in the present state changes nothing
  instead (safe; notes/assumptions/2.md). -/
  | noSuchUnit
  deriving DecidableEq, Repr

/-- Refusals of a step. -/
inductive Refusal where
  /-- Raised by an arm of `exec` that has no meaning yet (safe). -/
  | notModelled (mnemonic : String)
  deriving DecidableEq, Repr

/-! ## Identity, fuses and straps (00_scope.md, R1–R7, R373, R560) -/

/-- What the fuses, the package and the silicon fix (DESIGN CHOICE for the values, notes/assumptions/7.md). -/
structure Identity where
  /-- 1 ZWX9-F, 2 ZWX9-S, 3 ZWX9-M (CAPS.ID). -/
  variant  : Nat := 1
  speed    : Nat := 2
  stepping : Nat := 1
  /-- ASCII profile letter; 0 no lock, 0x4E native, 0x56 compatibility (R9–R11). -/
  profile  : Nat := 0
  algVer   : Nat := 1
  /-- Key-hash fuses of slots 0–3 (R373). -/
  keyHash  : List Nat := [0, 0, 0, 0]
  /-- Slots burned as revoked, bit k for slot k (R373). -/
  revoked  : Nat := 0
  /-- The debug key hash; 0 when the fuse is blank (R391). -/
  debugKey : Nat := 0
  /-- Highest debug level the fuses allow (SEC.STATUS.DBG_CAP). -/
  debugCap : Nat := 2
  /-- NO_PLAIN fuse (SEC.STATUS.NO_PLAIN). -/
  noPlain  : Bool := false
  /-- Fused typical voltage codes of OP0–OP3 of each cluster (PWR.OPV: the table's typical values). -/
  opv      : List Nat := [0x1E, 0x28, 0x38, 0x46]
  /-- Device serial number used in the debug challenge (R391). -/
  serial   : Nat := 0
  /-- Field spares already used, by cluster * 32 + bank (R224). -/
  spares   : SMap Nat := []
  deriving DecidableEq, Repr

/-- Strap pins, sampled in Eclosion step 1 (R465, R560): low by default. -/
structure Straps where
  bootSrc : Nat := 0
  mclkSel : Nat := 0
  oscDly  : Nat := 0
  deriving DecidableEq, Repr

/-! ## Tick and reference (01_tick_and_reference.md) -/

/-- One reference entry: SRC code, PTP domain, port or link (R48). -/
structure RefEntry where
  src   : Nat := 0
  dom   : Nat := 0
  index : Nat := 0
  deriving DecidableEq, Repr

/-- A reference selection as REF_SELECT gives it (R48). -/
structure RefSel where
  rate      : Nat := 8
  stepOk    : Bool := false
  setTick   : Bool := false
  cadences  : Bool := false
  revert    : Bool := false
  timeEntry : Nat := 0xFF
  entries   : List RefEntry := []
  tickInit  : Nat := 0
  cads      : List Nat := []
  deriving DecidableEq, Repr

/-- What the device knows of one reference source (R23–R30). Analog presence and format stand in TICK.REFx_STATUS. -/
structure RefState where
  /-- PTP: a master is selected and Syncs arrive; Dolmet: markers arrive. -/
  alive    : Bool := false
  /-- Frequency against MCLK in ppb as last measured, and whether it lies within ±50 ppm (R30). -/
  ppb      : Int := 0
  inRange  : Bool := true
  /-- PTP: offset of the device's time from the source's, in ns, as last measured. -/
  offset   : Int := 0
  /-- PTP: the origin time of the latest Sync, in ns, and the receipt time-stamp. -/
  originNs : Nat := 0
  rxNs     : Nat := 0
  /-- PTP: sequence number of a two-step Sync awaiting its Follow_Up. -/
  waitFollow : Option Nat := none
  /-- PTP: measured mean path delay in ns, and the pending Delay_Req sequence with its egress time-stamp. -/
  pathNs   : Nat := 0
  delayReq : Option (Nat × Nat) := none
  /-- PTP: the selected master's port identity, and the data sets announced on the port, by sender (R23). -/
  master   : Option Nat := none
  masters  : SMap (List Nat) := []
  /-- PTP: log intervals, and the receipt time of the latest Announce (R24). -/
  logSync  : Int := -3
  logAnn   : Int := 0
  annRx    : Nat := 0
  /-- Analog and Dolmet: device time in ns of the latest reference edge, and the tick number a marker gave it (R25, R28). -/
  edge     : Int := 0
  num      : Nat := 0
  /-- Analog at k = 1/2: a reference frame the tick is placed on (R25). -/
  anchor   : Option Int := none
  /-- Dolmet: a marker came in this tick; analog and Dolmet: consecutive ticks without a sync or marker (R26). -/
  fresh    : Bool := false
  miss     : Nat := 0
  /-- Consecutive ticks for which the source has been valid (R42). -/
  validRun : Nat := 0
  deriving DecidableEq, Repr

/-- Tick generator and reference tracking outside the registers. -/
structure TickSt where
  /-- The 64-bit tick number (R18); the slot stands in TICK.STATUS.SLOT. -/
  num      : Nat := 0
  /-- Device time of the latest TICK, in units of 1/N ns of the rate N/D (R16, R18). -/
  edge     : Int := 0
  /-- Frequency in ppb against MCLK at which the tick runs: as last measured against the tracked reference (R33). -/
  freq     : Int := 0
  /-- The slew in ns by which the running tick is shortened (R35). -/
  corr     : Int := 0
  /-- Frame starts of the enabled cadences in the running tick: cadence, first frame, number of frames (R20, R21). -/
  starts   : List (Nat × Nat × Nat) := []
  /-- Taps out of line since a failed check, with the tick bits they hold, until the next TICK (R44, R45). -/
  taps     : List (Tap × Nat) := []
  /-- The selection in force; `pend` the accepted one not yet applied, with its tick of effect (R43). -/
  sel      : RefSel := {}
  pend     : Option (Nat × RefSel) := none
  /-- Sources seen, keyed by SRC, DOMAIN and INDEX (R43). -/
  refs     : SMap RefState := []
  /-- Consecutive ticks of phase error within LOCK_WINDOW (R32). -/
  run      : Nat := 0
  /-- Device time in ns of the entry to HOLDOVER, from which HOLDOVER_LIMIT runs (R33). -/
  holding  : Option Int := none
  /-- The pending error needs a step: its signed nanoseconds, the whole-tick difference, and the tick that found it (R35). -/
  stepNs   : Int := 0
  stepNum  : Int := 0
  stepFrom : Option Nat := none
  /-- The latest tick stepped in Flight, in which no late unit counts (R36). -/
  stepped  : Option Nat := none
  /-- Writes of LOCK_CFG and HOLD_CFG waiting for the next boundary (R46). -/
  lockCfg  : Option Word := none
  holdCfg  : Option Word := none
  /-- MCLK passes of the clock monitor in a row, for free run (R29). -/
  mclkRun  : Nat := 0
  deriving DecidableEq, Repr

/-! ## Contracts and the ledger (02_ledger.md) -/

/-- Contract states, coded as CONTRACT_QUERY codes them (R90). -/
inductive CSt where
  | proposed | admitted | active | starved | held | releasing | released
  deriving DecidableEq, Repr

/-- A source or destination entry of a contract descriptor (R85). -/
structure EndPt where
  kind   : Nat := 0
  backup : Bool := false
  dev    : Nat := 0
  index  : Nat := 0
  format : Nat := 0
  phase  : Nat := 0xFFFFFFFF
  deriving DecidableEq, Repr

/-- A stage entry of a contract descriptor (R85). -/
structure Stage where
  kind    : Nat := 0
  cluster : Nat := 0xFF
  desc    : Nat := 0
  param   : Nat := 0
  lineFmt : Nat := 0
  deriving DecidableEq, Repr

/-- One demand charge: resource code, instance, amount, and the slots `first` to `last` it is charged in. A count
resource is charged with `first` = `last` = 0 (R56, R63). -/
structure Charge where
  res   : Nat
  inst  : Nat
  amt   : Nat
  first : Nat := 0
  last  : Nat := 0
  deriving DecidableEq, Repr

/-- One entry of a cost descriptor (R86). -/
structure CostEnt where
  res    : Nat
  inst   : Nat
  kind   : Nat
  amount : Nat
  first  : Nat
  last   : Nat
  deriving DecidableEq, Repr

/-- A registered cost descriptor (R86). -/
structure CostDesc where
  latency : Nat := 0
  tiles   : Nat := 0
  ents    : List CostEnt := []
  /-- Registered by the image's DESCRIPTORS section. -/
  image   : Bool := false
  deriving DecidableEq, Repr

/-- A parsed contract descriptor (R85). -/
structure CDesc where
  typ      : Nat := 0
  cls      : Nat := 0
  subst    : Nat := 0
  switchable : Bool := false
  preset   : Bool := false
  xdev     : Bool := false
  cadence  : Nat := 0
  boundReq : Nat := 0
  xferRate : Nat := 0
  parent   : Nat := 0
  actLimit : Nat := 0
  srcs     : List EndPt := []
  dsts     : List EndPt := []
  stages   : List Stage := []
  deriving DecidableEq, Repr

/-- A contract-table entry; index 0–4095 is its key (R52). An entry never used is RELEASED with generation 0. -/
structure Contract where
  gen     : Nat := 0
  st      : CSt := .released
  d       : CDesc := {}
  bound   : Nat := 0
  charges : List Charge := []
  /-- Tick of the admission reply, tick of the last change of state, order of admission. -/
  admitTick  : Nat := 0
  changeTick : Nat := 0
  order      : Nat := 0
  /-- The number by which the ledger's own choices for it go: its table index (R70, R150). -/
  pick       : Nat := 0
  /-- Earliest activation tick told in the admission reply; accepted activation and release ticks. -/
  earliest   : Nat := 0
  actTick    : Option Nat := none
  relTick    : Option Nat := none
  /-- Source entries lost, source entries whose backup carries, HELD causes. -/
  lost    : List Nat := []
  onBackup : List Nat := []
  /-- HELD causes, each with the first tick at which it has ended, where that is known (R54, R55). -/
  holds   : List (HoldCause × Option Nat) := []
  /-- Miss count, or TRANSFER_SHORT for a TRANSFER; the latest transfer amount of the tick in bytes. -/
  miss    : Nat := 0
  moved   : Nat := 0
  /-- Cross-device: owner mesh ID (0 this device), the owner's contract ID, path devices, provisional until commit. -/
  owner   : Nat := 0
  ownerId : Nat := 0
  path    : List Nat := []
  /-- The Dolmet link toward each of those devices, fixed at admission (R440). -/
  links   : List (Nat × Nat) := []
  prov    : Bool := false
  provTick : Nat := 0
  /-- Twin contract (R82), activated muted during a rejoin (R437). -/
  twin    : Bool := false
  muted   : Bool := false
  /-- Device time of its activation boundary, in the units of the tick's edge, and that boundary's tick (R71, R142). -/
  since   : Int := 0
  actAt   : Nat := 0
  /-- Inputs that did not conform: source entry and ingress timestamp in ns, the latest 256 (R72, R74, R134, R143). -/
  nonconf : List (Nat × Nat) := []
  /-- Sequence of output units sent, per destination, for the twin digest (R434). -/
  sent    : Nat := 0
  /-- Destination entries at which it held the PRESET role when it was released, whose units are still discarded (R171). -/
  shadow  : List Nat := []
  deriving DecidableEq, Repr

/-- A contract proposal waiting for its batch (R65, R87): the descriptor is the copy read at receipt. -/
structure Proposal where
  h      : Hdr
  desc   : List Byte
  dry    : Bool := false
  twin   : Bool := false
  /-- Tick of receipt; order of receipt. -/
  rcvd   : Nat := 0
  /-- Set for a proposal that came from another device: its owner and the owner's contract ID (R80). -/
  owner  : Nat := 0
  ownerId : Nat := 0
  /-- Set when the proposal carries a SUBST_POLICY change of an existing contract (R167): its index and new policy. -/
  subst  : Option (Nat × Nat × Nat) := none
  substTick : Nat := 0
  /-- Set where this device is the twin partner of the receiver: it sends its decision, not a reply (R82). -/
  partner : Bool := false
  /-- The parameters themselves were malformed (R568). -/
  bad : Bool := false
  deriving DecidableEq, Repr

/-- A cross-device proposal of which this device is the owner, awaiting votes (R80). -/
structure XProp where
  /-- The contract's table index; the descriptor of a dry run stands alone. -/
  idx    : Nat
  bound  : Nat := 0
  h      : Hdr
  batch  : Nat
  /-- Path devices with their votes: none until it arrives. -/
  votes  : List (Nat × Option Bool)
  dry    : Bool := false
  deriving DecidableEq, Repr

/-- An activation (or release) of a cross-device contract waiting for its path devices' answers (R81). -/
structure XAct where
  idx     : Nat
  rel     : Bool
  tick    : Nat
  status  : Nat
  h       : Hdr
  waiting : List Nat
  deriving DecidableEq, Repr

/-- The ledger as it stood at the latest tick boundary (R91). -/
structure LedgerSnap where
  contracts : SMap Contract := []
  flowsIn   : Nat := 0
  flowsOut  : Nat := 0
  plane     : Nat := 0
  deriving DecidableEq, Repr

/-- The ledger outside its registers. -/
structure LedgerSt where
  snap      : LedgerSnap := {}
  contracts : SMap Contract := []
  costs     : SMap CostDesc := []
  /-- Proposals received and not yet evaluated, in receipt order. -/
  props     : List Proposal := []
  xprops    : List XProp := []
  capMw     : Nat := 225000
  /-- Admissions so far, for "most recently admitted first" (R62). -/
  admitted  : Nat := 0
  /-- Path device side: queries sent to the owner, by contract index: first tick of asking (R443). -/
  asking    : SMap Nat := []
  /-- Reservations dropped without the owner's answer: owner and the owner's contract ID (R443). -/
  dropped   : List (Nat × Nat) := []
  /-- Activations and releases of cross-device contracts that wait for their path devices (R81). -/
  xacts     : List XAct := []
  /-- Tiles whose configuration the chrysalis plane holds (R300). -/
  plane     : List Nat := []
  deriving DecidableEq, Repr

/-! ## Command transport (03_commands.md) -/

/-- A reply waiting to be written (R98): result bytes 16–31 in `result`. -/
structure Reply where
  via    : Via
  seq    : Word
  status : Nat
  source : Nat
  effect : Nat
  result : List Byte
  irq    : Bool
  /-- The take unit answers it, not a management core (R119). -/
  hw     : Bool := false
  deriving DecidableEq, Repr

/-- The part of a ring outside its registers: next CQ slot to reserve and its PHASE, slots written past CQ_TAIL,
and whether fetching stopped on FETCH_ERR (R103–R107). -/
structure Ring where
  resv    : Nat := 0
  phase   : Bool := true
  written : List Nat := []
  stopped : Bool := false
  deriving DecidableEq, Repr

/-- A command this device forwarded and whose reply is outstanding (R111). -/
structure Forwarded where
  h     : Hdr
  op    : Nat
  tick  : Nat
  deriving DecidableEq, Repr

/-- What the target keeps of a command it executed for another device (R113). -/
structure FwdRecord where
  src    : Nat
  seq    : Word
  status : Nat
  effect : Nat
  result : List Byte
  bufs   : List (Nat × List Byte)
  deriving DecidableEq, Repr

/-- A command held: for a twin partner's answer (R120), or for a management core that does not run (R96, R542). -/
structure HeldCmd where
  op   : Nat
  h    : Hdr
  p    : List Byte
  tick : Nat
  deriving DecidableEq, Repr

structure TransportSt where
  rings     : SMap Ring := []
  /-- SPI submissions with their receipt times in ns. -/
  spiSubs   : List (Nat × List Byte) := []
  spiReplies : List (List Byte) := []
  spiBuf    : Memory := []
  replies   : List Reply := []
  fwdOut    : List Forwarded := []
  fwdRec    : List FwdRecord := []
  twinWait  : List HeldCmd := []
  held      : List HeldCmd := []
  /-- Commands passed by the twin partner, accepted here and waiting for its confirmation (R120). -/
  twinProv  : List HeldCmd := []
  /-- Journal records in management SRAM: transport and SEQ of each command past its commit point whose reply is not yet
  written (R95, R96). -/
  journal   : List (Via × Word) := []
  /-- Management cores that restart, bit k for core k + 1, until the next boundary (R96). -/
  coreDown  : Nat := 0
  /-- Receipt of the command in hand: device time in ns and the order of its transport (R115). -/
  stamp     : Nat × Nat := (0, 0)
  /-- Buffers of the forwarded command in execution, returned with its reply (R111). -/
  bufs      : List (Nat × List Byte) := []
  /-- Tick of the latest core restart (R96). -/
  restart   : Option Nat := none
  /-- Management cores halted by a debugger, bit k for core k + 1 (R542). -/
  coreHalt  : Nat := 0
  coreHaltReq : Nat := 0
  deriving DecidableEq, Repr

/-! ## Modes and start-up (16_modes_and_start.md) -/

structure BootSt where
  /-- Pending MODE_SET: tick of effect and target (R483). -/
  pend      : Option (Nat × Nat) := none
  wakeTick  : Nat := 0
  changed   : Nat := 0
  start     : Nat := 0
  /-- A wake event seen: the device is on its way out of Diapause, or the event came during entry (R485). -/
  wake      : Bool := false
  /-- Domain states held at entry to Diapause, by domain (R484). -/
  domHeld   : List Nat := []
  /-- The boot flash (R298), and flash sectors erased since the write at OFFSET 0 of their slot (R500). -/
  flash     : Memory := []
  erased    : List Nat := []
  /-- Bytes of the boot buffer delivered so far and whether LAST arrived (R491). -/
  delivered : List (Nat × Nat) := []
  lastSeen  : Bool := false
  /-- A warm reset has been ordered and not yet taken (R497 and R494). -/
  resetDue  : Bool := false
  /-- The running image's IFLAGS and the base of its bytes, while a start runs. -/
  iflags    : Nat := 0
  /-- The fuse slot whose key signs the running image (R377). -/
  keySlot   : Nat := 0
  /-- SHA-384 over the running image's header and section table (R434). -/
  imgDigest : Nat := 0
  /-- FORCE of the ordered reset (R497). -/
  resetForce : Bool := false
  /-- The running image's attempt stands in BOOT.RECORD already; the first attempt of this start is recorded with 0x01
  (R488, R490). -/
  logged    : Bool := false
  firstBad  : Bool := false
  deriving DecidableEq, Repr

/-! ## Interrupts (17_interrupts_mailboxes.md) -/

structure IntcSt where
  /-- Host messages waiting for the link, by vector, oldest first (R508). -/
  msiWait   : List Nat := []
  /-- PCIe link: 0 down, 1 L0, 2 L1, 3 L2 (R508). -/
  link      : Nat := 0
  /-- The PCIe endpoint after a posted write it aborted: Signaled Target Abort, Completer Abort Status of AER with the address of the
  latest header recorded, and the severity AER selects for it (R5). -/
  sta       : Bool := false
  aerCa     : Bool := false
  aerHdr    : Option Nat := none
  aerFatal  : Bool := false
  /-- PCIE_WAKE_N asserted (R508). -/
  wakeN     : Bool := false
  /-- Messages waiting for a management core that does not run (R508). -/
  coreWait  : List Nat := []
  /-- Levels of the fabric user sources and the other sources driven by logic outside the registers, by number. -/
  lines     : List Nat := []
  deriving DecidableEq, Repr

/-! ## Streams (04_streams.md) -/

/-- A port configuration (R164). Kind 0 disabled, 1 SDI, 2 SDI quad-link, 3 10GbE, 4 25GbE, 5 100GbE, 6 400GbE. -/
structure PortCfg where
  kind   : Nat := 0
  rx     : Bool := false
  tx     : Bool := false
  auto   : Bool := false
  fec    : Bool := false
  macsec : Bool := false
  txRate : Nat := 0
  idle   : Nat := 0
  mac    : Nat := 0
  prefixLen : Nat := 0
  ip     : Nat := 0
  deriving DecidableEq, Repr

/-- One leg of a flow (R147). -/
structure Leg where
  port  : Nat := 0
  dport : Nat := 0
  sport : Nat := 0
  dscp  : Nat := 0
  ttl   : Nat := 0
  dstIp : Nat := 0
  srcIp : Nat := 0
  vlan  : Nat := 0
  dstMac : Nat := 0
  deriving DecidableEq, Repr

/-- A flow-table entry (R146, R147). -/
structure Flow where
  used    : Bool := false
  /-- In force: from the boundary after FLOW_ADD until the one after FLOW_REMOVE (R165, R166). -/
  valid   : Bool := false
  removing : Bool := false
  legs    : Nat := 1
  sender  : Nat := 0
  restamp : Bool := false
  block   : Bool := false
  format  : Nat := 0
  lossUs  : Nat := 1000
  skewUs  : Nat := 0
  ssrc    : Nat := 0
  pt      : Nat := 96
  legA    : Leg := {}
  legB    : Leg := {}
  deriving DecidableEq, Repr

/-- What arrives on one leg of a flow (R159). -/
structure LegRun where
  run   : Nat := 0
  seq   : Nat := 0
  clean : Bool := false
  deriving DecidableEq, Repr

/-- What the stream engine knows of one ingress flow: legs lost (bit 0 leg A, bit 1 leg B), the flow lost, and the
first arrival time in µs of each recent extended sequence number (R141, R155). -/
structure FlowDyn where
  lostLegs : Nat := 0
  lost     : Bool := false
  seen     : List (Nat × Nat) := []
  /-- Of each leg: packets received in a row without a gap, the sequence number of the latest, and whether none is missing since its
  frame began (R159). -/
  runs     : List LegRun := []
  deriving DecidableEq, Repr

/-- A line-packet on its way over the crossbar: endpoints, slot from which it is ready, context and flags (R151). -/
structure LinePkt where
  src   : Nat := 0
  dst   : Nat := 0
  len   : Nat := 0
  line  : Nat := 0
  tick  : Nat := 0
  slot  : Nat := 0
  ns    : Nat := 0
  ctx   : Nat := 0xFFFF
  seg   : Nat := 0
  flags : Nat := 0
  first : Nat := 0
  /-- The payload; for an ancillary packet its DID and SDID (R136). -/
  data  : List Byte := []
  did   : Nat := 0
  sdid  : Nat := 0
  /-- A speculating egress's packet from a fabric port (R287). -/
  spec  : Bool := false
  /-- The slot, counted over all ticks, in which it was ready at its source (R149). -/
  ready : Nat := 0
  deriving DecidableEq, Repr

/-- What an output keeps for substitute content (R156, R157): the lines of its last complete frame and of the one that runs, by line number
(0 for what is no line), whether all of the running frame was real, and the substitute units sent since content was last real. -/
structure HoldBuf where
  frame : SMap (List Byte) := []
  cur   : SMap (List Byte) := []
  whole : Bool := true
  gone  : Nat := 0
  deriving DecidableEq, Repr

structure StreamSt where
  /-- The crossbar's two schedule copies: the XBAR charges each carries out, by contract (R150). -/
  copy0  : List (Nat × Charge) := []
  copy1  : List (Nat × Charge) := []
  /-- Port configurations in force, by port (copy kept in PD00, R131). -/
  ports  : SMap PortCfg := []
  /-- Ingress flow entries by index; egress entries by 1024 + index (R146). -/
  flows  : SMap Flow := []
  dyn    : SMap FlowDyn := []
  /-- DID/SDID filter entries of each port, at most 32 (R136). -/
  filters : SMap (List (Nat × Nat)) := []
  /-- Line-packets waiting at their source endpoints, oldest first; those delivered, by destination endpoint. -/
  xbar   : List LinePkt := []
  arrived : SMap (List LinePkt) := []
  /-- Bytes each endpoint has carried in the running slot (R149). -/
  used   : SMap Nat := []
  /-- Substitute content of each output, by contract index * 16 + destination entry. -/
  holdBuf : SMap HoldBuf := []
  /-- Of each egress flow: the ID of the contract that drives it, and the extended sequence number of its next RTP packet (R142). -/
  rtp    : SMap (Nat × Nat) := []
  /-- Sources locked in their contracted format, waiting for the first frame start after a boundary: contract,
  source entry, tick of lock (R159). -/
  back   : List (Nat × Nat × Nat) := []
  /-- NO_REVERT chosen by SUBST_POLICY, by contract index (R158, R167). -/
  noRevert : List Nat := []
  /-- Host reads in fabric user space that the port's logic has not answered: port and address (R288). -/
  fabReads : List (Nat × Nat) := []
  deriving DecidableEq, Repr

/-! ## Takes (05_takes.md) -/

/-- A pending take (R175, R183). -/
structure PTake where
  idx    : Nat
  dst    : Nat
  trans  : Nat
  pattern : Nat
  dur    : Nat
  tick   : Nat
  /-- Run-ahead applies to it, and the cutoff in slots of the posture it was accepted under (R62, R178). -/
  ahead  : Bool
  cutoff : Nat
  /-- Final: its cutoff has passed (R177). -/
  final  : Bool := false
  /-- Twin take: provisional on the partner until CONFIRM; waiting for the partner's answer on the receiver (R187). -/
  prov   : Bool := false
  wait   : Bool := false
  hdr    : Option Hdr := none
  /-- An abort of this take waits for the partner's answer; accepted provisionally on the partner (R187). -/
  abort  : Option Hdr := none
  abProv : Bool := false
  /-- Its downstream work starts non-speculatively at the cutoff (R178, R180). -/
  plain  : Bool := false
  /-- Told to the sender as moved to a later tick (R175). -/
  late   : Bool := false
  deriving DecidableEq, Repr

/-- A switchable egress, keyed by contract index * 16 + destination entry (R168–R171). -/
structure Egress where
  /-- Chain in the PROGRAM role and armed chain in the PRESET role: contract indexes plus 1, 0 for none. -/
  program : Nat := 0
  preset  : Nat := 0
  trans   : Nat := 0
  pattern : Nat := 0
  dur     : Nat := 0
  /-- The run-ahead window in lines and in slots (R173). -/
  w       : Nat := 0
  wSlots  : Nat := 0
  /-- Speculation in progress for this tick with this transition (R177); the buffer that is provisional, 0 or 1. -/
  spec    : Option (Nat × Nat) := none
  buffer  : Nat := 0
  /-- The two copies of the downstream stages have exchanged roles (R212). -/
  turn    : Bool := false
  /-- Frames of the running transition still to come (R185). -/
  running : Nat := 0
  /-- Device times of the latest landings, newest first, in the units of the tick's edge: a frame begun before one keeps its chain (R181). -/
  swaps   : List Int := []
  /-- Contracts of the pair that were HELD at the latest landing, each with the tick its hold began (R185). -/
  heldBy  : List (Nat × Nat) := []
  deriving DecidableEq, Repr

/-- A GPI binding (R196). -/
structure GpiBind where
  edge   : Nat := 0
  debounce : Nat := 0
  twin   : Bool := false
  id     : Nat := 0
  dst    : Nat := 0
  trans  : Nat := 0
  pattern : Nat := 0
  dur    : Nat := 0
  deriving DecidableEq, Repr

/-- What a GPO follows (R197). -/
structure Tally where
  source   : Nat := 0
  polarity : Nat := 0
  id       : Nat := 0
  dst      : Nat := 0
  deriving DecidableEq, Repr

structure TakeSt where
  pend   : List PTake := []
  egress : SMap Egress := []
  binds  : SMap GpiBind := []
  tally  : SMap Tally := []
  deriving DecidableEq, Repr

/-! ## Engines (06_quinner_engines.md, 07_engine_instructions.md) -/

/-- One slot operation as decoded from its word (R238): opcode, register fields, immediate, lane mode, modifiers. -/
structure SlotOp where
  op : Nat := 0
  d  : Nat := 0
  a  : Nat := 0
  b  : Nat := 0
  n  : Nat := 0
  m  : Nat := 0
  bx : Bool := false
  sat : Bool := false
  rnd : Bool := false
  deriving DecidableEq, Repr

/-- A bundle: one operation for each slot; opcode 0 is the slot's NOP (R236). -/
structure Bundle where
  s : SlotOp := {}
  l : SlotOp := {}
  v : SlotOp := {}
  m : SlotOp := {}
  deriving DecidableEq, Repr

/-- Where a result lands and what lands there (R200, R240–R242). -/
inductive Landing where
  | sreg (main : Bool) (r : Nat) (x : Word)
  | vreg (r : Nat) (x : BitVec 256)
  /-- Accumulator replaced by sixteen 48-bit lanes, or added to with saturation; fold into BEXP where marked. -/
  | accSet (r : Nat) (x : List Int) (bx : Bool)
  | accAdd (r : Nat) (x : List Int) (bx : Bool)
  /-- Bits 16p+15:16p of each accumulator lane replaced. -/
  | accPart (r p : Nat) (x : BitVec 256)
  | bexpSet (x : Nat)
  | bexpMin (x : Nat)
  | satSet (b : Bool)
  | satOr
  | ie (x : Nat)
  | lc (main : Bool) (i x : Nat)
  | epc (x : Nat)
  deriving DecidableEq, Repr

/-- A running hardware loop: its counter, first and last bundle (R246). -/
structure HwLoop where
  lc    : Nat
  first : Nat
  last  : Nat
  deriving DecidableEq, Repr

/-- A checkpoint (R209). -/
structure Checkpoint where
  s    : SMap Word
  v    : SMap (BitVec 256)
  a    : SMap (List Int)
  lc0  : Nat
  lc1  : Nat
  bexp : Nat
  sat  : Bool
  pc   : Nat
  loops : List HwLoop
  /-- The words of the engine's DMA address, length and context registers, and what DMA.STAT tells of the descriptors that are not
  speculative: transfers done, an error (R182, R519). -/
  dma  : List Word := []
  done : Nat := 0
  err  : Bool := false
  deriving DecidableEq, Repr

/-- An engine outside its registers (R198, R204–R219). -/
structure Eng where
  prog  : Memory := []
  nb    : Nat := 0
  entry : Nat := 0
  vec   : Nat := 0
  desc  : Nat := 0
  ldm   : Memory := []
  sreg  : SMap Word := []
  shadow : SMap Word := []
  vreg  : SMap (BitVec 256) := []
  acc   : SMap (List Int) := []
  lc0   : Nat := 0
  lc1   : Nat := 0
  slc0  : Nat := 0
  slc1  : Nat := 0
  bexp  : Nat := 0
  sat   : Bool := false
  epc   : Nat := 0
  tcst  : Nat := 0
  /-- Results in flight: bundles still to issue before each lands, oldest first. -/
  fly   : List (Nat × Landing) := []
  loops : List HwLoop := []
  sloops : List HwLoop := []
  /-- A branch issued: delay bundles left, and its target where it is taken. -/
  br    : Option (Nat × Option Nat) := none
  /-- Bundles left in the atomic group. -/
  atom  : Nat := 0
  /-- The bundle being put together from slot operations. -/
  openB : Bundle := {}
  /-- Pending exception (cause), pending interrupts: bit 0 fault, 1 take-commit, 2 tick, 3 doorbell. -/
  exc   : Option Nat := none
  pend  : Nat := 0
  /-- One bundle of the interrupted program must still issue after reti (R215). -/
  fresh : Bool := false
  wait  : Bool := false
  /-- Tick of the latest t.done, and consecutive deadlines missed; 0 for none (R218, R257). -/
  done  : Option Nat := none
  missed : Nat := 0
  wdogPend : Option Word := none
  /-- Speculation: a checkpoint asked for, the checkpoint taken, the egress it serves, a rollback waiting (R209–R211). -/
  ask   : Bool := false
  chk   : Option Checkpoint := none
  egress : Nat := 0
  rollback : Bool := false
  /-- Speculative area: words whose committed copy is the upper buffer; words written provisionally (R208). -/
  sel   : List Nat := []
  writ  : List Nat := []
  /-- Cluster-memory words stored in the latest bundles: bundles since, word address (R243). -/
  recent : List (Nat × Nat) := []
  /-- Debug: halt asked for, the state before the halt, one step allowed (R538–R541). -/
  haltReq : Bool := false
  prior : Nat := 0
  deriving DecidableEq, Repr

/-- A descriptor in an engine's DMA queue (R519); `spec` marks one queued in SPEC state (R210). -/
structure DmaDesc where
  src  : Nat
  dst  : Nat
  len  : Nat
  ctx  : Nat
  spec : Bool := false
  deriving DecidableEq, Repr

structure EngSt where
  eng  : SMap Eng := []
  /-- DMA queues, by engine, oldest first (R519). -/
  dmaq : SMap (List DmaDesc) := []
  /-- Cluster memories: byte address plus 2^23 times the cluster. -/
  cmem : Memory := []
  deriving DecidableEq, Repr


/-! ## DRAM and its controllers (10_dram.md) -/

/-- One line request in a controller's queue (R325, R328–R332). -/
structure DLine where
  port  : Nat
  id    : Nat
  line  : Nat
  off   : Nat
  len   : Nat
  write : Bool
  data  : List Byte
  /-- 2 CONTRACT, 1 MAINT, 0 BEST_EFFORT. -/
  cls   : Nat
  keep  : Bool
  /-- The time its latency counts from. -/
  ns    : Nat
  urg   : Nat := 0
  prom  : Bool := false
  issued : Bool := false
  /-- The fabric port it comes from, counted from 1 (0 none), and whether its response is discarded (R306). -/
  src   : Nat := 0
  mute  : Bool := false
  deriving DecidableEq, Repr

/-- A controller outside its registers. -/
structure McDyn where
  queue  : List DLine := []
  /-- Open rows: subchannel, rank and bank in one key, and the row (R336). -/
  rows   : List (Nat × Nat) := []
  /-- Next bank index to refresh, refreshes due in the running pause (R338, R340). -/
  refBank : Nat := 0
  refDue : Nat := 0
  /-- The rate MR4 calls for, and consecutive normal reads (R339). -/
  hot    : Bool := false
  cool   : Nat := 0
  /-- Times of the latest promotions of A and B (R332). -/
  promA  : Option Nat := none
  promB  : Option Nat := none
  /-- Parity fault: the fall-back scheduler runs; the tables are rebuilt (R335). -/
  parity : Bool := false
  rebuilt : Bool := false
  /-- Fall-back scheduler: bank served latest, by subchannel (R334). -/
  rotA   : Nat := 0
  rotB   : Nat := 0
  /-- The subchannel in its retraining pause (R340). -/
  pause  : Option Nat := none
  /-- Next address patrol reads (R357). -/
  patrol : Nat := 0
  deriving DecidableEq, Repr

structure DramSt where
  /-- What PD00 keeps of the trained controllers while PD04 is off: register words by byte offset (R347). -/
  kept : SMap Word := []
  /-- Device DRAM as its readers see it: decrypted and corrected. -/
  mem  : Memory := []
  mcs  : SMap McDyn := []
  /-- Encryption counters of keyed lines, by line number (R378). -/
  ctrs : SMap Nat := []
  /-- Counter cache: resident lines and nodes as (level, index), and whether changed (R381). -/
  cache : List ((Nat × Nat) × Bool) := []
  deriving DecidableEq, Repr

/-! ## Integrity and security (11_integrity.md, 12_security.md) -/

/-- A fault record (R362). -/
structure FaultRec where
  tick  : Nat
  slot  : Nat
  cause : Nat
  flags : Nat
  inst  : Nat
  addr  : Nat
  detail : Nat
  deriving DecidableEq, Repr

structure IntegSt where
  /-- Fault records, newest first (R362). -/
  recs  : List FaultRec := []
  /-- The protection map's copy in PD00, as register words by byte offset (R356). -/
  copy  : SMap Word := []
  /-- Address of the latest correction, by bucket; 254 management SRAM, 255 counter cache (R370). -/
  last  : SMap Nat := []
  deriving DecidableEq, Repr

/-- A MACsec SA (R388, R398). -/
structure Sa where
  port   : Nat
  tx     : Bool
  an     : Nat
  sc     : Nat
  xpn    : Bool
  replay : Bool
  sci    : Nat
  ssci   : Nat
  salt   : Nat
  /-- Transmit: next PN; receive: lowest PN accepted at install, then the highest received plus 1. -/
  pn     : Nat
  low    : Nat
  key    : Nat
  tick   : Nat
  window : Nat
  /-- Transmit: the SA in use; it sends no frame any more, its PN exhausted or a later SA in use. -/
  used   : Bool := false
  dead   : Bool := false
  deriving DecidableEq, Repr

/-- A debug challenge outstanding (R391): its 48-byte block, level, tick. -/
structure Chal where
  block : List Byte
  level : Nat
  tick  : Nat
  deriving DecidableEq, Repr

structure SecSt where
  /-- Memory keys by key ID (R384). -/
  keys  : List (Nat × Nat) := []
  /-- Wrapped copies kept in PD00 through Diapause (R386). -/
  wrapped : List (Nat × Nat) := []
  sas   : List Sa := []
  chal  : Option Chal := none
  /-- A FUSE_POLICY section waiting for BOOT_CONFIRM (R377). -/
  policy : List Byte := []
  deriving DecidableEq, Repr

/-! ## Power, clocks and molt (15_power_and_clocks.md, 09_molt_and_scrub.md) -/

/-- A queued domain sequence (R459). -/
structure DomSeq where
  dom  : Nat
  st   : Nat
  tick : Nat
  running : Bool := false
  deriving DecidableEq, Repr

/-- A CLOCK_MEASURE whose gate runs (R480): counter and header. -/
structure Meas where
  k : Nat
  h : Hdr
  deriving DecidableEq, Repr

structure PwrSt where
  /-- Sequences in order of start (R459). -/
  seqs  : List DomSeq := []
  /-- Domains lowered in the present tick, whose charge stays until the next boundary (R460). -/
  ending : List Nat := []
  /-- Pending operating points: cluster and T (R463). -/
  ops   : List (Nat × Nat) := []
  /-- Clusters lowered at T: cluster, old point, T; the old point's power is charged through T (R463). -/
  fall  : List (Nat × Nat × Nat) := []
  meas  : List Meas := []
  hold  : Hold := .none
  /-- Sensors sampled since the last read of their PEAK (R473); consecutive samples of 120 °C or more, by sensor (R475). -/
  peaks : Nat := 0
  hot   : SMap Nat := []
  deriving DecidableEq, Repr

/-- A tile reload in progress (R313): tile, tick of its swap, waiting for the reserved tile. -/
structure Reload where
  tile : Nat
  tick : Nat
  deriving DecidableEq, Repr

structure MoltSt where
  /-- The staged image: address, length, digest of header and table. -/
  addr   : Nat := 0
  len    : Nat := 0
  digest : Nat := 0
  /-- PLAN_ID counts the changes of the staging and the contract table (R317): the plan told and what it was told for. -/
  planId : Nat := 0
  planOf : Option (Nat × List (Nat × Nat)) := none
  /-- Stages of the plan, tile mask each, 0 for the globals stage (R302). -/
  stages : List Nat := []
  /-- Tick of the next stage and its postponements (R307). -/
  tick   : Nat := 0
  late   : Nat := 0
  /-- Staggered plan (R309): boundary S. -/
  bound  : Nat := 0
  /-- Contracts the running molt holds. -/
  held   : List Nat := []
  reloads : List Reload := []
  /-- Tiles configured; the SCRUB_MASK of each, and of each staged tile (R264, R295, R311). -/
  conf   : List Nat := []
  /-- Tiles that a swap holds until slot 1, and whether it was a scrub reload (R305 steps 2–4, R313). -/
  frozen : List (Nat × Bool) := []
  masks  : SMap (List Byte) := []
  staged : SMap (List Byte) := []
  deriving DecidableEq, Repr

/-! ## Fabric cells (08_fabric.md) -/

/-- An arithmetic slice's registers, stage by stage (R272), its sticky SAT, and the block-exponent detector (R275). -/
structure SliceSt where
  a   : Int := 0
  d   : Int := 0
  b   : Int := 0
  v0  : Bool := false
  p   : Int := 0
  b1  : Int := 0
  v1  : Bool := false
  m1  : Int := 0
  v2  : Bool := false
  m2  : Int := 0
  v3  : Bool := false
  acc : Int := 0
  v4  : Bool := false
  r   : Int := 0
  v5  : Bool := false
  sat : Bool := false
  /-- rsb of the latest valid R, 63 for none; the running minimum; the block start on its way up the chain. -/
  rs  : Nat := 63
  bx  : Nat := 63
  clr : Bool := false
  deriving DecidableEq, Repr

/-- A configured tile whose domain is ON: its configuration memory, its nets that a register drives, and its user state (R260). -/
structure TileSt where
  frames : List Byte := []
  nets   : SMap Bool := []
  /-- LUT memory by the part's place in the design: 512 bits, or eight shift registers of 32 (R264). -/
  lut    : SMap Nat := []
  /-- Words of 40 bits that leaf memory m and frame block m hold, by m * 1024 + word and m * 8192 + word, where they are not the
  configuration's (R265, R268, R269). -/
  leaf   : SMap Nat := []
  frame  : SMap Nat := []
  /-- Of each frame block in line mode: the write position and the word that left at delay k (R270, R271). -/
  pos    : SMap Nat := []
  casc   : SMap Nat := []
  slices : SMap SliceSt := []
  /-- The tap: the slot counted over all ticks that it has passed on, pulses on their way (edges still to come, TICK), and pulses of the
  take unit (1 SPEC, 2 COMMIT, 3 ROLLBACK) with SPEC_CTX (R280–R282). -/
  seen   : Nat := 0
  tapQ   : List (Nat × Bool) := []
  pulses : List (Nat × Nat) := []
  deriving DecidableEq, Repr

/-! ## Lanes (13_lanes.md) -/

/-- A margin scan in progress (R418, R425): half-widths, dwell, buffer, the transport that named it, and the rate. -/
structure Scan where
  hw    : Nat
  vw    : Nat
  dwell : Nat
  addr  : Nat
  h     : Hdr
  deriving DecidableEq, Repr

/-- What a lane holds outside its registers; NL l is lane l, PL k lane 128 + k. -/
structure LaneDyn where
  /-- The state a running power-state sequence ends in, and the queued request (R414). -/
  target  : Option Nat := none
  queued  : Option Nat := none
  /-- The transmit base in use plus 1, 0 for none: 1–5 in the order of R404, above for a test rate. -/
  base    : Nat := 0
  /-- The PLL lost lock and the transmitter is idle (R405). -/
  idle    : Bool := false
  /-- NEG_FAIL raised since the last success (R410). -/
  failed  : Bool := false
  /-- A qualification runs on the lane (R409). -/
  qual    : Bool := false
  /-- PRBS: pattern, generating, checking, the counters, synchronised, stopped at full, lost sync since the start. -/
  pattern : Nat := 0
  gen     : Bool := false
  chk     : Bool := false
  errs    : Nat := 0
  bits    : Nat := 0
  sync    : Bool := false
  full    : Bool := false
  lost    : Bool := false
  kbps    : Nat := 0
  scan    : Option Scan := none
  deriving DecidableEq, Repr


/-! ## Dolmet links, twin and mesh (14_twin_and_mesh.md) -/

/-- A route entry (R440). -/
structure Route where
  lo     : Nat
  hi     : Nat
  link   : Nat
  metric : Nat
  deriving DecidableEq, Repr

/-- A link policy (R449 OP 3). -/
structure LinkPol where
  fec  : Bool := false
  enc  : Bool := false
  rate : Nat := 2
  asym : Int := 0
  deriving DecidableEq, Repr

/-- What a device knows of one Dolmet link outside its registers. -/
structure LinkDyn where
  /-- Lanes assigned to the link by LANE_CONFIG, lowest first (R421). -/
  lanes    : List Nat := []
  role     : Nat := 0
  /-- Consecutive slots without a heartbeat; tag failures in the present tick (R429). -/
  hbMiss   : Nat := 0
  tagFails : Nat := 0
  /-- Candidate rate under qualification, lowest rate both support (R430 item 6). -/
  cand     : Nat := 0
  /-- Time-stamps of the last marker exchange: arrival of the partner's latest marker; departure of the own latest marker and of the one
  before it (R428). -/
  rxAt     : Nat := 0
  txAt     : Nat := 0
  txPrev   : Nat := 0
  /-- The configured lanes, set aside while link 0 runs on NL00 in the RECOVERY role (R401). -/
  own      : Option (List Nat) := none
  /-- The partner's tick authority, instar, digest and lock state of its latest marker (R427, R442, R445). -/
  authDist : Nat := 0xFF
  authId   : Nat := 0
  instar   : Nat := 0
  digest   : Nat := 0
  agree    : Bool := true
  /-- Encrypted: the present key phase, next frame counter, highest counter accepted (R390). -/
  phase    : Nat := 0
  rxPhase  : Nat := 0
  txCnt    : Nat := 0
  rxCnt    : Nat := 0
  /-- Link keys of phases 0 and 1, 0 for none, and the accepted switch: tick and phase (R390, R394). -/
  key0     : Nat := 0
  key1     : Nat := 0
  switch   : Option (Nat × Nat) := none
  /-- What the partner's capabilities told: stepping, profile, whether it holds contracts not RELEASED (R430, R447). -/
  pStep    : Nat := 0
  pProfile : Nat := 0
  pBusy    : Bool := false
  deriving DecidableEq, Repr

structure MeshSt where
  routes  : List Route := []
  pol     : SMap LinkPol := []
  links   : SMap LinkDyn := []
  instar  : Nat := 0
  digest  : Nat := 0
  /-- Tick of the latest INSTAR_SET that took effect (R445). -/
  setAt   : Option Nat := none
  authId  : Nat := 0
  /-- Tick master named by MESH_ROUTE_SET; 0 for PTP (R442). -/
  master  : Nat := 0
  /-- The tick reported withheld for ON_AIR outputs, and the number difference a marker told (R444). -/
  withheld : Bool := false
  off      : Int := 0
  deriving DecidableEq, Repr

/-- One output's part in the digest (R434): the running frame's bytes and start tick; the CRC-32 over the frames whose
last unit left in this tick, and the tick in which the first of them started. -/
structure OutCrc where
  cur   : List Byte := []
  start : Nat := 0
  done  : Option (Nat × Nat) := none
  deriving DecidableEq, Repr

structure TwinSt where
  partner : Nat := 0
  encReq  : Bool := false
  /-- This device carries while it is SYNCING (R437, R447). -/
  carrier : Bool := false
  /-- Rejoin: its first tick, the activation tick A once named, whether the transfer has ended, clusters copied. -/
  since   : Nat := 0
  actTick : Option Nat := none
  moved   : Bool := false
  copied  : List Nat := []
  slow    : Bool := false
  lastDiv : Nat := 0
  /-- What each output has sent of its running frame, and the CRC of its frames that ended in the present tick (R434). -/
  crcs    : SMap OutCrc := []
  /-- The CRC entries of the tick just ended: output, frame tick, CRC (R434). -/
  sentCrcs : List (Nat × Nat × Nat) := []
  /-- Tick of the latest ECC event or scrub reload, 0 if none (R434). -/
  eccTick : Nat := 0
  /-- The latest digests disagreed on INSTAR or IMAGE_DIGEST (R435). -/
  mismatch : Bool := false
  /-- A muted receiver that lost its partner carries from the next boundary (R439). -/
  unmute  : Bool := false
  /-- The level of TWIN_OK driven (R438). -/
  ok      : Bool := false
  deriving DecidableEq, Repr

/-! ## Debug, self-test and repair (18_debug_and_test.md) -/

/-- A repair candidate (R546): cluster, bank, column, source (0 BIST, 1 march). -/
structure Cand where
  cluster : Nat
  bank    : Nat
  col     : Nat
  src     : Nat
  deriving DecidableEq, Repr

structure DbgSt where
  /-- The latest transaction's 80 bits and the response kept for it (R533). -/
  last : Option (Nat × Nat × Word) := none
  /-- The BIST run in progress: domain, kind, whether memory BIST follows (R544, R549). -/
  run  : Option (Nat × Nat × Bool) := none
  /-- Latest results by domain * 2 + kind: 2 pass, 3 fail, and the signature (R550). -/
  results : SMap (Nat × Nat) := []
  /-- Repair candidates since the last cold start, and the clusters whose list overflowed (R546). -/
  cands : List Cand := []
  ovf   : List Nat := []
  deriving DecidableEq, Repr


/-! ## What leaves the device -/

/-- One thing the device sends or shows to the outside, in the order of leaving. -/
inductive Emit where
  /-- Bytes written to host memory by the transport are in `hostMem`; this is the write-back of CQ_TAIL (R104). -/
  | cqTail (n tail : Nat)
  /-- A reply carried back over the mesh, with the buffers it returns (R111). -/
  | meshReply (dst : Nat) (seq : Word) (status effect : Nat) (result : List Byte) (bufs : List (Nat × List Byte))
  /-- A command forwarded over the mesh (R111). -/
  | meshCmd (dst : Nat) (op : Nat) (h : Hdr) (p : List Byte)
  /-- A command passed to the twin partner with this device's earliest tick of effect (R120, R309), and an answer to one:
  accepted with the tick of effect, or not. -/
  | twinCmd (op : Nat) (h : Hdr) (p : List Byte) (floor : Nat)
  | twinAns (seq : Word) (ok : Bool) (eff : Nat)
  /-- A decision of this device on a proposal under TWIN_APPLY, with the contract ID it carries (R82). -/
  | twinVote (seq : Word) (yes : Bool) (id : Nat)
  /-- A CONTROL message between the devices of a cross-device contract (R80, R443): kind 0 proposal, 1 vote yes,
  2 vote no, 3 COMMIT, 4 ABORT, 5 state query, 6 withdrawal of a forwarded activation or release, 7 proposal sent with DRY_RUN; with
  the contract ID. -/
  | xdev (dst kind id tick : Nat) (body : List Byte)
  /-- A twin take message on both twin links (R187): kind 0 take, 1 ACCEPT, 2 REFUSE, 3 CONFIRM, 4 WITHDRAW; the contract ID,
  destination entry, landing tick, whether it is about an abort, and the transition. -/
  | twinTake (kind id dst tick : Nat) (abort : Bool) (trans : Nat)
  /-- STATE frames to the twin partner: contract table and ledger, ports, flows, takes with roles, tallies and GPI bindings, contracts
  that do not revert, and the activation tick A (R437). -/
  | state (contracts : SMap Contract) (ports : SMap PortCfg) (flows : SMap Flow) (take : TakeSt) (noRevert : List Nat) (act : Nat)
  /-- A cluster's engines as the carrier copies them to the twin partner (R437). -/
  | engCopy (c : Nat) (l : List EngCopy)
  /-- A frame of type `ty` on Dolmet link `k` (R426). -/
  | frame (k ty : Nat) (body : List Nat)
  /-- An interrupt message to the host (vector), a management core or an engine (R508). -/
  | msix (v : Nat) (addr data : Nat)
  | coreIrq (core : Nat)
  /-- All transmitters to electrical idle (R361). -/
  | txIdle
  /-- The transmitters of one quad idle, or running again (R405). -/
  | quadIdle (q : Nat) (idle : Bool)
  /-- A fault message with cause and tick on both twin links (R361). -/
  | faultMsg (cause tick : Nat)
  /-- A bus answer to a debug or host access: data, or an error (R5, R532). -/
  | debugRsp (status : Nat) (data : Word)
  /-- A completed read of a master on the register bus. -/
  | readData (master off : Nat) (v : Word)
  /-- A host read completed with Completer Abort status; AER's error message for a posted write that was aborted; a bus fault at a
  management core (R5). -/
  | hostAbort (addr : Nat)
  | pcieError (fatal : Bool) (addr : Nat)
  | busFault (core off : Nat)
  /-- A packet or message of a port: kind 0 IGMP/MLD join, 1 leave, 2 report, 3 ARP/ND/ping answer, 4 Delay_Req. -/
  | portMsg (port kind : Nat) (arg : Nat)
  /-- A group membership message of a port: kind 0 join, 1 leave, 2 report; MLDv2 or IGMPv3; the group, and the source of a
  source-specific join or 0 (R139). -/
  | group (port kind : Nat) (v6 : Bool) (addr src : Nat)
  /-- A line-packet that an egress consumes: its header and payload (R151). -/
  | linePkt (bytes : List Byte)
  /-- An RTP packet of a port: nominal departure in ns, timestamp, extended sequence number, SSRC, payload type, payload (R142). -/
  | rtp (port at_ ts seq ssrc pt : Nat) (payload : List Byte)
  /-- A line of an SDI output: its content, the ancillary packets in it with DID and SDID, the ST 352 payload ID, and its CRC (R136). -/
  | sdiLine (port line : Nat) (data : List Byte) (anc : List (Nat × Nat × List Byte)) (pid crc : Nat)
  /-- What an SDI output that no contract drives sends: 0 black with TRS, line numbers, CRC and payload ID, 1 electrical idle (R137). -/
  | sdiIdle (port mode : Nat)
  /-- An output unit of a contract: destination entry, unit number, kind 0 in time, 1 late, 2 substitute. -/
  | unit (contract dst num kind : Nat)
  /-- A GPO pin changed to a level (R190). -/
  | gpo (n : Nat) (v : Bool)
  /-- Bytes shifted out of the SPI target (R108). -/
  | spiOut (bytes : List Byte)
  /-- A configuration frame write, a tile release or another action inside the fabric plane: kind and arguments. -/
  | fabric (kind a b : Nat)
  /-- A DRAM command: controller, kind, arguments (R331, R338–R345). -/
  | dram (m kind a b : Nat)
  /-- Data of a completed read to its port: port, request, line, bytes (R329). -/
  | dramData (port id line : Nat) (data : List Byte)
  deriving DecidableEq, Repr

/-! ## Work waiting for its tick (R117) -/

/-- What an accepted command does when its tick of effect comes. -/
inductive Act where
  /-- CONTRACT_ACTIVATE (R88). -/
  | activate (idx : Nat)
  /-- CONTRACT_RELEASE (R89). -/
  | release (idx : Nat)
  /-- POSTURE_SET: posture, power cap in mW, contracts marked for release (R62). -/
  | posture (p cap : Nat) (marked : List Nat)
  /-- PORT_CONFIG (R164). -/
  | port (p : Nat) (c : PortCfg)
  /-- FLOW_ADD and FLOW_REMOVE of a table entry (egress as 1024 + index; R165, R166). -/
  | flowAdd (i : Nat)
  | flowRemove (i : Nat)
  /-- SUBST_POLICY: contract, policy, NO_REVERT (R167). -/
  | subst (idx policy : Nat) (noRevert : Bool)
  /-- PRESET_ARM: preset, egress key, transition, pattern, duration, window in lines and in slots (R194). -/
  | arm (idx egress trans pattern dur w wSlots : Nat)
  /-- PRESET_DISARM (R195). -/
  | disarm (idx : Nat)
  /-- GPI_BIND (R196). -/
  | gpiBind (g : Nat) (b : GpiBind)
  /-- TALLY_SET (R197). -/
  | tally (g : Nat) (t : Tally)
  /-- ENGINE_START: engine, watchdog word; ENGINE_STOP: engine (R231, R232). -/
  | engStart (e wdog : Nat)
  | engStop (e : Nat)
  /-- INSTAR_SET: instar and 48-byte digest (R451). -/
  | instar (i digest : Nat)
  deriving DecidableEq, Repr

/-- An accepted command waiting for its tick of effect. -/
structure Due where
  eff : Nat
  act : Act
  /-- Receipt of its command: device time in ns and the order of its transport (R115, R117). -/
  stamp : Nat × Nat := (0, 0)
  deriving DecidableEq, Repr

/-! ## The whole state -/

/-- The block: register file, memories, tables, queues, and the commands that wait (`pending`, first in first out). -/
@[ext]
structure State where
  pending : List Instr := []
  regs    : SMap Word := []
  ident   : Identity := {}
  straps  : Straps := {}
  /-- Host memory as the device's PCIe reads and writes see it. -/
  hostMem : Memory := []
  tick    : TickSt := {}
  led     : LedgerSt := {}
  strm    : StreamSt := {}
  lane    : SMap LaneDyn := []
  take    : TakeSt := {}
  eng     : EngSt := {}
  mesh    : MeshSt := {}
  twin    : TwinSt := {}
  xp      : TransportSt := {}
  boot    : BootSt := {}
  dram    : DramSt := {}
  integ   : IntegSt := {}
  sec     : SecSt := {}
  pwr     : PwrSt := {}
  molt    : MoltSt := {}
  /-- The fabric's configured tiles, by number (R260–R275). -/
  cells   : SMap TileSt := []
  intc    : IntcSt := {}
  dbg     : DbgSt := {}
  due     : List Due := []
  out     : List Emit := []
  /-- Free values drawn so far (the model's own counter: notes/assumptions/5.md). -/
  freed   : Nat := 0
  deriving DecidableEq, Repr

/-- The machine right after reset: PD00 just released by VAUX good, Eclosion step 1 (R486), every register at its
stated reset value, every memory blank, no command waiting. -/
def State.reset : State := {}

/-- The outcome of a command. -/
abbrev Res := Host.Outcome State Fault Refusal

end Sys2Proof.Machine
end

