-- ==== Sys2Proof/Machine/Ops.lean ====
section
/-! DEFINITION. The named operations over the register file, the contract table and the transports that every
family's meanings share. -/

namespace Sys2Proof.Machine

/-! ## Registers -/

/-- The register at a BAR0 byte offset. -/
def State.reg (s : State) (o : Nat) : Word := SMap.get resetWord s.regs o

/-- Put a word into the register at a byte offset. -/
def State.setReg (s : State) (o : Nat) (v : Word) : State := { s with regs := SMap.set resetWord s.regs o v }

/-- A field's value. -/
def State.rd (s : State) (f : Fld) : Nat := (s.reg f.off).field f.lsb f.w

/-- Is a one-bit field set? -/
def State.isSet (s : State) (f : Fld) : Bool := s.rd f != 0

/-- Write the lowest bits of `v` into a field; the register's other bits stay. -/
def State.wr (s : State) (f : Fld) (v : Nat) : State := s.setReg f.off ((s.reg f.off).putField f.lsb f.w v)

/-- Raise an event or flag bit. -/
def State.evt (s : State) (f : Fld) : State := s.wr f 1

/-- Raise bit `i` of a field of bits. -/
def State.evtBit (s : State) (f : Fld) (i : Nat) : State := s.wr f (setBit (s.rd f) i)

/-- Advance a counter field that wraps. -/
def State.bump (s : State) (f : Fld) : State := s.wr f (s.rd f + 1)

/-- Advance a counter field by `n`, saturating at its highest value. -/
def State.bumpSat (s : State) (f : Fld) (n : Nat) : State := s.wr f (min (s.rd f + n) (2 ^ f.w - 1))

/-- Write a Boolean into a one-bit field. -/
def State.flag (s : State) (f : Fld) (b : Bool) : State := s.wr f (if b then 1 else 0)

/-- Something leaves the device. -/
def State.emit (s : State) (e : Emit) : State := { s with out := s.out ++ [e] }

/-- The next free value (notes/assumptions/5.md). -/
def State.free (s : State) : Nat := Config.freeValue s.freed

/-- Advance the counter of free values drawn. -/
def State.drew (s : State) : State := { s with freed := s.freed + 1 }

/-! ## Identity: variant, profile and units (R1–R11) -/

/-- Slots per tick: 1,024 under profile lock V, else 2,048 (R11, R17). -/
def State.slots (s : State) : Nat := if s.ident.profile = 0x56 then 1024 else 2048

/-- The mode code (R482). -/
def State.mode (s : State) : Nat := s.rd Reg.MODE.STATUS.MODE

/-- The lock state: 0 FREE, 1 ACQUIRING, 2 LOCKED, 3 HOLDOVER (TICK.STATUS.LOCK). -/
def State.lock (s : State) : Nat := s.rd Reg.TICK.STATUS.LOCK

/-- The tick number (R18). -/
def State.now (s : State) : Nat := s.tick.num

/-- The slot of the tick (R17). -/
def State.slot (s : State) : Nat := s.rd Reg.TICK.STATUS.SLOT

def State.nClusters (s : State) : Nat := if s.ident.variant = 1 then 8 else if s.ident.variant = 2 then 4 else 2
def State.nTiles (s : State) : Nat := if s.ident.variant = 3 then 28 else 56
def State.nMcs (s : State) : Nat := if s.ident.variant = 3 then 4 else 8
def State.nLanes (s : State) : Nat := if s.ident.variant = 3 then 48 else 96
def State.nPlanes (s : State) : Nat := if s.ident.variant = 1 then 16 else 0
def State.nFports (s : State) : Nat := if s.ident.variant = 3 then 32 else 64
def State.hasIme (s : State) : Bool := s.ident.variant = 1

/-- Is power domain `d` present (R1, the variant table's last row)? -/
def State.domPresent (s : State) (d : Nat) : Bool :=
  if 30 ≤ d then false
  else match s.ident.variant with
    | 2 => !((9 ≤ d && d ≤ 12) || d = 29)
    | 3 => !((7 ≤ d && d ≤ 12) || (20 ≤ d && d ≤ 26) || d = 28 || d = 29)
    | _ => true

/-- The field of PWR.DOM0 or PWR.DOM1 that holds domain `d`'s state. -/
def domFld (d : Nat) : Fld := if d < 16 then ⟨Reg.PWR.DOM0, 2 * d, 2⟩ else ⟨Reg.PWR.DOM1, 2 * (d - 16), 2⟩

/-- A domain's state: 0 OFF, 1 RETAIN, 2 MEM, 3 ON (PWR.DOM0, PWR.DOM1). -/
def State.dom (s : State) (d : Nat) : Nat := s.rd (domFld d)

/-- Has a domain's switch-off from its present state begun (R6, R459)? -/
def State.leaving (s : State) (d : Nat) : Bool := s.pwr.seqs.any (fun q => q.running && q.dom == d && decide (q.st < s.dom d))

/-- A domain is ON, and what arrives for it is answered by it: its switch-off has not begun (R5, R6). -/
def State.domOn (s : State) (d : Nat) : Bool := s.dom d == 3 && !s.leaving d

/-- The domain a lane lives in: NL00–NL47 PD27, NL48–NL95 PD28, P-lanes (128 + k) PD29. -/
def laneDom (l : Nat) : Nat := if l < 48 then 27 else if l < 96 then 28 else 29

/-- Is lane `l` (P-lane k as 128 + k) present? -/
def State.lanePresent (s : State) (l : Nat) : Bool :=
  if l < 128 then decide (l < s.nLanes) else decide (l - 128 < s.nPlanes)

/-- The domain of a register's byte offset, where the register has a unit: index into its array (00_scope.md). -/
def domOfOffset (o : Nat) : Option Nat :=
  match specOf o with
  | some r =>
    match r.dom with
    | .pd n => some n
    | .cluster => some (5 + (o - 0x1000000) / 0x200000)
    | .lane => some (laneDom ((o - 0x200000) / 0x1000))
    | .tile =>
      match r.dims with
      | (s, _) :: _ => some (13 + (o - r.base) / s / 4)
      | [] => none
  | none =>
    if 0x30000 ≤ o && o < 0x32000 then some 1
    else if 0x1000000 ≤ o && o < 0x2000000 then some (5 + (o - 0x1000000) / 0x200000)
    else none

/-! ## Status codes and answers (R121) -/

namespace Sts
def ok := 0x0000
def deferred := 0x0001
def later := 0x0002
def badOpcode := 0x0010
def badParam := 0x0011
def badState := 0x0012
def unitAbsent := 0x0020
def domainOff := 0x0021
def noCapacity := 0x0030
def wouldBreak := 0x0031
def powerCap := 0x0032
def authRequired := 0x0040
def authFailed := 0x0041
def modeRefused := 0x0050
def unreachable := 0x0060
def disagrees := 0x0061
def busy := 0x0070
def imageInvalid := 0x0080
def internalFault := 0x00F0
end Sts

/-- What a command answers: the state it leaves and, unless it answers later, its status, EFFECT and result. -/
structure Ans where
  st  : State
  rep : Option (Nat × Nat × List Byte)

/-- An answer with a status, a tick of effect and result bytes. -/
def Ans.say (s : State) (status effect : Nat) (result : List Byte) : Ans := ⟨s, some (status, effect, result)⟩

/-- A refusal: the command had no effect (R95, R121). -/
def Ans.err (s : State) (status : Nat) : Ans := ⟨s, some (status, 0, [])⟩

/-- Done, with no tick of effect and no result. -/
def Ans.ok (s : State) : Ans := ⟨s, some (Sts.ok, 0, [])⟩

/-- The reply comes with a later event. -/
def Ans.wait (s : State) : Ans := ⟨s, none⟩

/-- Check a list of refusals in order; go on where none applies (R122). -/
def Ans.check (s : State) (l : List (Bool × Nat)) (go : Ans) : Ans :=
  match firstErr l with
  | some e => Ans.err s e
  | none => go

/-- The device's own mesh ID; 0 if none is set (R126). -/
def State.meshId (s : State) : Nat := s.rd Reg.MESH.STATUS.MESH_ID

/-- Answer a command: rings and SPI queue the reply for writing; a forwarded command's answer is recorded, the
latest 256 of each source kept, and sent back over the mesh with the buffers it returns (R98, R111, R113). An accepted command's
journal record stands until its reply is written (R95). -/
def State.answer (s : State) (h : Hdr) (status effect : Nat) (result : List Byte) : State :=
  match h.via with
  | .mesh src =>
    let r : FwdRecord := ⟨src, h.seq, status, effect, fitTo 16 result, s.xp.bufs⟩
    let mine := s.xp.fwdRec.filter (fun x => x.src == src)
    let keep := if mine.length < 256 then s.xp.fwdRec
      else match s.xp.fwdRec.findIdx? (fun x => x.src == src) with
        | some i => s.xp.fwdRec.eraseIdx i
        | none => s.xp.fwdRec
    { s with xp := { s.xp with fwdRec := keep ++ [r], bufs := [] } }.emit
      (.meshReply src h.seq status effect (fitTo 16 result) s.xp.bufs)
  | _ =>
    { s with xp := { s.xp with
      replies := s.xp.replies ++ [⟨h.via, h.seq, status, 0, effect, fitTo 16 result, h.irq, h.hwPath⟩],
      journal := if status ≤ 2 then s.xp.journal ++ [(h.via, h.seq)] else s.xp.journal } }

/-- Deliver an answer through the transport. -/
def State.deliver (h : Hdr) (a : Ans) : State :=
  match a.rep with
  | some (st, eff, res) => a.st.answer h st eff res
  | none => a.st

/-- Does a range of `n` bytes from `a` touch one of the failing ranges? -/
def hitsRange (bad : List (Nat × Nat)) (a n : Nat) : Bool := bad.any (fun r => a < r.1 + r.2 && r.1 < a + n)

/-- Read `n` bytes a command names by address: host memory on a ring, the SPI buffer on SPI, the carried bytes on a
forwarded command (R107, R110, R111). None where the read fails. `h.carried` on a ring lists host bytes whose read
fails (the environment's part of R107). -/
def State.readBuf (s : State) (h : Hdr) (a n : Nat) : Option (List Byte) :=
  match h.via with
  | .ring _ _ _ => if h.carried.any (fun c => a ≤ c.1 && c.1 < a + n) then none else some (s.hostMem.readN a n)
  | .spi => if 0x10000 < a + n then none else some (s.xp.spiBuf.readN a n)
  | .mesh _ => some (Memory.readN h.carried a n)

/-- Write a command's result buffer (R98, R110, R111). -/
def State.writeBuf (s : State) (h : Hdr) (a : Nat) (bytes : List Byte) : State :=
  match h.via with
  | .ring _ _ _ => { s with hostMem := s.hostMem.writeN a bytes }
  | .spi => { s with xp := { s.xp with spiBuf := s.xp.spiBuf.writeN a bytes } }
  | .mesh _ => { s with xp := { s.xp with bufs := s.xp.bufs ++ [(a, bytes)] } }

/-- A failed read of a parameter block or a named structure: BAD_PARAM with DATA_ERR set on the ring (R107). -/
def State.dataErr (s : State) (h : Hdr) : Ans :=
  match h.via with
  | .ring n _ _ => Ans.err ((s.evt (Reg.CMD.RING_STATUS.DATA_ERR n)).evt Reg.CMD.EVENT.RING_ERR) Sts.badParam
  | _ => Ans.err s Sts.badParam

/-! ## Work waiting for its tick (R117) -/

/-- Accept work of the command in hand for a tick of effect. -/
def State.schedule (s : State) (eff : Nat) (a : Act) : State := { s with due := s.due ++ [⟨eff, a, s.xp.stamp⟩] }

/-- Does accepted work `a` go before `b`: the earlier tick of effect, then the earlier receipt, then the lower transport (R115, R117)? -/
def Due.before (a b : Due) : Bool :=
  decide (a.eff < b.eff) || (a.eff == b.eff &&
    (decide (a.stamp.1 < b.stamp.1) || (a.stamp.1 == b.stamp.1 && decide (a.stamp.2 < b.stamp.2))))

/-- Insert before the first entry it goes before: equal entries keep their order (R117). -/
def insertDue (d : Due) : List Due → List Due
  | [] => [d]
  | x :: xs => if d.before x then d :: x :: xs else x :: insertDue d xs

/-- Work sorted by tick of effect, then receipt (R117). -/
def sortDue (l : List Due) : List Due := l.foldl (fun acc d => insertDue d acc) []

/-- The work due at the present tick, in order (R117). -/
def State.dueNow (s : State) : List Due := sortDue (s.due.filter (fun d => decide (d.eff ≤ s.now)))

/-- A list up to the last of its entries of one kind. -/
def uptoLast (k : Act → Bool) : List Due → List Due
  | [] => []
  | d :: t => match uptoLast k t with
    | [] => if k d.act then [d] else []
    | r => d :: r

/-- The tick of effect and status of a command that names `t` with the earliest allowed tick `e`: 0 names the
earliest and is answered OK; an earlier tick is accepted for the earliest and answered APPLIED_LATER (R117). -/
def effTick (t e : Nat) : Nat × Nat :=
  if t = 0 then (e, Sts.ok) else if t < e then (e, Sts.later) else (t, Sts.ok)

/-! ## Contracts (R52–R55) -/

/-- What an unlisted contract index holds. -/
def Contract.none : Nat → Contract := fun _ => {}

def State.contract (s : State) (i : Nat) : Contract := SMap.get Contract.none s.led.contracts i

def State.setContract (s : State) (i : Nat) (c : Contract) : State :=
  { s with led := { s.led with contracts := SMap.set Contract.none s.led.contracts i c } }

def State.updContract (s : State) (i : Nat) (f : Contract → Contract) : State := s.setContract i (f (s.contract i))

/-- A contract's ID: index in bits 11:0, generation above (R52). -/
def Contract.id (c : Contract) (i : Nat) : Nat := c.gen * 4096 + i

/-- The table index a contract ID names, where its generation matches (R52). -/
def State.findContract (s : State) (id : Nat) : Option Nat :=
  let c := s.contract (id % 4096)
  if id / 4096 = c.gen ∧ c.gen ≠ 0 then some (id % 4096) else none

/-- The indexes of the contracts that are not RELEASED (provisional reservations included). -/
def State.live (s : State) : List Nat := (s.led.contracts.filter (fun e => e.2.st != .released)).map (·.1)

/-- The contracts in a given state. -/
def State.inSt (s : State) (p : CSt → Bool) : List Nat :=
  (s.led.contracts.filter (fun e => p e.2.st)).map (·.1)

/-- Put a contract into a state, stamping the tick of the change (R90). -/
def State.setCSt (s : State) (i : Nat) (st : CSt) : State :=
  s.updContract i (fun c => { c with st := st, changeTick := s.now })

/-- A contract enters STARVED: event and count (LEDGER.EVENT, LEDGER.EVENT_CNT). -/
def State.enterStarved (s : State) (i : Nat) : State :=
  ((s.setCSt i .starved).evt Reg.LEDGER.EVENT.STARVED).bump Reg.LEDGER.EVENT_CNT.STARVED_CNT

/-- A contract leaves STARVED or HELD for another state: RESUMED (LEDGER.EVENT). -/
def State.leaveDegraded (s : State) (st : CSt) : State :=
  if st = .starved ∨ st = .held then s.evt Reg.LEDGER.EVENT.RESUMED else s

/-- The contract that accepted work is about. -/
def Act.about : Act → Option Nat
  | .activate i => some i | .release i => some i | .subst i _ _ => some i | .arm i _ _ _ _ _ _ => some i | .disarm i => some i
  | _ => none

/-- Work accepted for contract `i` and not yet applied is dropped with it. -/
def State.dropWork (s : State) (i : Nat) : State := { s with due := s.due.filter (fun d => d.act.about != some i) }

/-- A contract enters RELEASED: its budget is freed with its charges, its pending work is dropped (R55). -/
def State.enterReleased (s : State) (i : Nat) : State :=
  (((s.dropWork i).updContract i (fun c => { c with
    st := .released, changeTick := s.now, charges := [], actTick := none, relTick := none, holds := [] })).leaveDegraded
    (s.contract i).st).evt Reg.LEDGER.EVENT.RELEASED

/-- Hold a contract for a cause, which ends at tick `till` where that is known (R54): ACTIVE and STARVED enter HELD; a
HELD one gains the cause. -/
def State.hold (s : State) (i : Nat) (h : HoldCause) (till : Option Nat) : State :=
  match (s.contract i).st with
  | .active | .starved =>
    ((((s.updContract i (fun c => { c with st := .held, changeTick := s.now, holds := [(h, till)] })).leaveDegraded
      (s.contract i).st).evt Reg.LEDGER.EVENT.HELD).bump Reg.LEDGER.EVENT_CNT.HELD_CNT)
  | .held => s.updContract i (fun c => { c with holds := (c.holds.filter (fun x => x.1 != h)) ++ [(h, till)] })
  | _ => s

/-- A hold's cause has ended: the hold ends at the next boundary (R55). -/
def State.ceaseHold (s : State) (i : Nat) (h : HoldCause) : State :=
  s.updContract i (fun c => { c with holds := c.holds.map (fun x => if x.1 = h then (h, some (s.now + 1)) else x) })

/-- The causes over at the present tick end; with none left the contract returns to ACTIVE, or to STARVED while a
source is lost (R54, R55). -/
def State.endHolds (s : State) (i : Nat) : State :=
  let c := s.contract i
  let rest := c.holds.filter (fun x => x.2.all (fun t => decide (s.now < t)))
  if c.st = .held ∧ rest ≠ c.holds then
    let s1 := s.updContract i (fun c => { c with holds := rest })
    if !rest.isEmpty then s1
    else if c.lost.isEmpty then (s1.setCSt i .active).evt Reg.LEDGER.EVENT.RESUMED
    else (s1.enterStarved i).evt Reg.LEDGER.EVENT.RESUMED
  else s

/-- Hold every contract of a list. -/
def State.holdAll (s : State) (l : List Nat) (h : HoldCause) (till : Option Nat) : State :=
  l.foldl (fun s i => s.hold i h till) s

/-- A contract's source entry is lost: recorded; an ACTIVE contract enters STARVED (R54, R55). -/
def State.loseSource (s : State) (i k : Nat) : State :=
  let c := s.contract i
  let s1 := s.updContract i (fun c => { c with lost := if c.lost.contains k then c.lost else c.lost ++ [k] })
  if c.st = .active then s1.enterStarved i else s1

/-- A contract's source entry is back in its contracted format; with none lost a STARVED contract is ACTIVE again
(R54). -/
def State.regainSource (s : State) (i k : Nat) : State :=
  let c := s.contract i
  let rest := c.lost.filter (fun x => x != k)
  let s1 := s.updContract i (fun c => { c with lost := rest, onBackup := c.onBackup.filter (fun x => x != k) })
  if c.st = .starved && rest.isEmpty then (s1.setCSt i .active).evt Reg.LEDGER.EVENT.RESUMED else s1

/-- Count one late unit of a contract's destination entry (R74). -/
def State.countMiss (s : State) (i dst : Nat) : State :=
  ((((((s.bumpSat Reg.LEDGER.MISS.DEADLINE_MISS 1).evt Reg.LEDGER.EVENT.DEADLINE_MISS).wr
    Reg.LEDGER.MISS_LAST.INDEX i).wr Reg.LEDGER.MISS_LAST.DST dst).wr Reg.LEDGER.MISS_LAST.TICK s.now).updContract i
    (fun c => { c with miss := min (c.miss + 1) 0xFFFFFFFF }))

/-- A cluster's frequency switches to an operating point (R463). -/
def State.opSwitch (s : State) (c op : Nat) : State :=
  (s.wr (Reg.PWR.CLU.OP c) op).wr (Reg.CLU.STATUS.OP c) op

/-- A mode change applies (R482, R483): the tick of the latest change is kept for MODE_GET. -/
def State.setMode (s : State) (m : Nat) : State :=
  let s1 := (s.wr Reg.MODE.STATUS.MODE m).evt Reg.MODE.EVENT.MODE_CHANGE
  { s1 with boot := { s1.boot with changed := s1.now } }

/-! ## Locks (R520–R523) -/

/-- Is a byte offset a lock: a device lock, or a lock of a cluster (R525)? -/
def lockOff (o : Nat) : Bool :=
  decide (0x30800 ≤ o ∧ o < 0x30C00) ||
  decide (0x1000000 ≤ o ∧ o < 0x2000000 ∧ 0x7000 ≤ o % 0x200000 ∧ o % 0x200000 < 0x7080)

/-- A lock's status register: its block's ORPHAN_CNT (R525). -/
def lockOrphans (o : Nat) : Fld :=
  if o < 0x31000 then Reg.LOCKS.STATUS.ORPHAN_CNT else Reg.CLU.LOCK_STATUS.ORPHAN_CNT ((o - 0x1000000) / 0x200000)

/-- Release every lock a lost master holds, counting each (R523). -/
def State.orphan (s : State) (master : Nat) : State :=
  ((s.regs.filter (fun e => lockOff e.1 && e.2.field 0 9 == master)).map (·.1)).foldl
    (fun t o => (t.setReg o 0).bump (lockOrphans o)) s

/-! ## Repair candidates (R546) -/

/-- A column that failed memory BIST or the march test is listed once; a further one than 16 of its cluster overflows. -/
def State.addCand (s : State) (c bank col src : Nat) : State :=
  let mine := s.dbg.cands.filter (fun x => x.cluster == c)
  if mine.any (fun x => x.bank == bank && x.col == col) then s
  else if 16 ≤ mine.length then
    let ovf := if s.dbg.ovf.contains c then s.dbg.ovf else s.dbg.ovf ++ [c]
    ({ s with dbg := { s.dbg with ovf := ovf } } : State).evt Reg.BIST.EVENT.CAND_OVF
  else { s with dbg := { s.dbg with cands := s.dbg.cands ++ [⟨c, bank, col, src⟩] } }

/-! ## Interrupts to management cores (R508) -/

/-- Interrupts that waited for the cores that now run are taken. -/
def State.flushCores (s : State) (run : Nat → Bool) : State :=
  (s.intc.coreWait.filter run).foldl (fun t c => t.emit (.coreIrq c))
    { s with intc := { s.intc with coreWait := s.intc.coreWait.filter (fun c => !run c) } }

/-! ## Where a register can be reached (R5) -/

/-- Are the registers of a domain accessible: it is ON, or a cluster in MEM (R227, R517), and its switch-off has not begun (R6)? -/
def State.regsOn (s : State) (d : Nat) : Bool :=
  d == 0 || s.domOn d || (decide (5 ≤ d ∧ d ≤ 12) && s.dom d == 2 && !s.leaving d)

/-- Is the register at a byte offset accessible? -/
def State.offOn (s : State) (o : Nat) : Bool := (domOfOffset o).all s.regsOn

/-- Is the class of memory that bucket `b` counts present (R2, R359)? -/
def State.bucketHere (s : State) (b : Nat) : Bool :=
  if b < 8 then decide (b < s.nMcs)
  else if b < 24 then decide (b % 8 < s.nClusters)
  else if b < 38 then s.domPresent (13 + (b - 24))
  else decide (b - 38 < s.nTiles)

/-- Is the unit of a register present (R2)? The domain's absence is the unit's; lanes, DRAM controllers, buckets, modules, fabric
PLLs, video PLLs, fabric ports and the operating points of clusters share domains that stay. -/
def State.offPresent (s : State) (o : Nat) : Bool :=
  (domOfOffset o).all s.domPresent &&
  (if 0x200000 ≤ o ∧ o < 0x300000 then s.lanePresent ((o - 0x200000) / 0x1000)
   else if 0x100000 ≤ o ∧ o < 0x200000 then decide ((o - 0x100000) / 0x20000 < s.nMcs)
   else if 0x880100 ≤ o ∧ o < 0x880140 then decide ((o - 0x880100) / 4 < 16) && (s.ident.variant != 3 || decide ((o - 0x880100) / 4 < 8))
   else if 0x880140 ≤ o ∧ o < 0x880150 then s.ident.variant != 3 || decide ((o - 0x880140) / 4 < 2)
   else if 0x881000 ≤ o ∧ o < 0x881400 then decide ((o - 0x881000) / 16 < s.nFports)
   else if 0x19100 ≤ o ∧ o < 0x196E0 then s.bucketHere ((o - 0x19100) / 16)
   else if 0x301000 ≤ o ∧ o < 0x3010C0 then s.ident.variant != 3 || decide ((o - 0x301000) / 8 < 12)
   else if 0x80040 ≤ o ∧ o < 0x80080 then decide ((o - 0x80040) / 4 % 8 < s.nClusters)
   else true)

/-- A host write that is posted to a unit powered down: discarded, and the endpoint signals the abort in its Status register and in
AER (R5). -/
def State.abortPosted (s : State) (o : Nat) : State :=
  ({ s with intc := { s.intc with sta := true, aerCa := true, aerHdr := some o } } : State).emit (.pcieError s.intc.aerFatal o)

/-- An engine's access to a unit powered down raises its access-fault exception (R5, R219). -/
def State.engAccessFault (s : State) (e o : Nat) : State :=
  let s1 := ((s.wr (Reg.ENG.FAULT.CAUSE e) 2).wr (Reg.ENG.FAULT.PEND e) 1).wr (Reg.ENG.FAULT_ADDR.ADDR e) o
  { s1 with eng := { s1.eng with eng := SMap.upd (fun _ => ({} : Eng)) s1.eng.eng e (fun x => { x with exc := some 2 }) } }

/-- What a master gets for an access to a unit that is present but powered down (R5). Masters: 1–4 management cores, 5 the host,
16 + e an engine; the debug bus master's answer is its wire's (R532). -/
def State.refuseAccess (s : State) (m o : Nat) (write : Bool) : State :=
  if m = 5 then (if write then s.abortPosted o else s.emit (.hostAbort o))
  else if 1 ≤ m ∧ m ≤ 4 then s.emit (.busFault m o)
  else if 16 ≤ m ∧ m < 272 then s.engAccessFault (m - 16) o
  else s

/-- A read by a master: registers of absent units read as zero (R2). -/
def State.accessR (s : State) (m o : Nat) (t : State) : State :=
  if !s.offPresent o then s.emit (.readData m o 0) else if s.offOn o then t else s.refuseAccess m o false

/-- A write by a master: registers of absent units ignore it (R2). -/
def State.access (s : State) (m o : Nat) (t : State) : State :=
  if !s.offPresent o then s else if s.offOn o then t else s.refuseAccess m o true

end Sys2Proof.Machine
end

