-- ==== Sys2Proof/Machine/Formats.lean ====
section
/-! DEFINITION. Rates, FORMAT codes and ports: the rate table (R16), the tick arithmetic in exact rationals (R18, R21),
FORMAT codes (R132, R140, R144, R145), port kinds (R129, R130) and crossbar endpoints (R148). -/

namespace Sys2Proof.Machine

/-! ## Rates (R16) -/

/-- Numerator and denominator of a rate code, ticks per second (R16). -/
def rateOf : Nat → Option (Nat × Nat)
  | 0x0 => some (24000, 1001) | 0x1 => some (24, 1) | 0x2 => some (25, 1) | 0x3 => some (30000, 1001)
  | 0x4 => some (30, 1) | 0x5 => some (48000, 1001) | 0x6 => some (48, 1) | 0x7 => some (50, 1)
  | 0x8 => some (60000, 1001) | 0x9 => some (60, 1) | 0xA => some (100, 1) | 0xB => some (120000, 1001)
  | 0xC => some (120, 1) | _ => none

def rateN (c : Nat) : Nat := ((rateOf c).getD (1, 1)).1
def rateD (c : Nat) : Nat := ((rateOf c).getD (1, 1)).2

/-- The master rate code. -/
def State.rate (s : State) : Nat := s.rd Reg.TICK.STATUS.RATE

/-- Frame starts of a cadence in one master tick: ceil(P / Pc) (R21). -/
def maxPerTick (master cad : Nat) : Nat := ceilDiv (rateD master * rateN cad) (rateN master * rateD cad)

/-- The tick number at a PTP time in nanoseconds: floor(t × N / D) (R18). -/
def tickAt (rate ns : Nat) : Nat := ns * rateN rate / (rateD rate * 1000000000)

/-- The slot at a PTP time in nanoseconds, with `slots` slots a tick (R17, R18). -/
def slotAt (rate slots ns : Nat) : Nat :=
  (ns * rateN rate - tickAt rate ns * (rateD rate * 1000000000)) * slots / (rateD rate * 1000000000)

/-- Where slot `k` of a tick begins, in nanoseconds after the tick's start, rounded down (R17). -/
def slotStartNs (rate slots k : Nat) : Nat := k * rateD rate * 1000000000 / (rateN rate * slots)

/-- The number of the first tick of a new rate after the last tick of the old rate has ended (R48 step 2). -/
def rephase (old new tick : Nat) : Nat := ceilDiv (tick * rateD old * rateN new) (rateN old * rateD new)

/-! ## FORMAT codes (R144) -/

def fmtRate (f : Nat) : Nat := f % 16
def fmtRaster (f : Nat) : Nat := f / 16 % 16
def fmtSampling (f : Nat) : Nat := f / 2 ^ 8 % 8
def fmtDepth (f : Nat) : Nat := f / 2 ^ 11 % 4
def fmtColour (f : Nat) : Nat := f / 2 ^ 13 % 8
def fmtCarriage (f : Nat) : Nat := f / 2 ^ 16 % 16
def fmtXsProfile (f : Nat) : Nat := f / 2 ^ 24 % 4
def fmtXsBpp (f : Nat) : Nat := f / 2 ^ 26 % 64
def fmtAudio (f : Nat) : Bool := fmtCarriage f == 5 || fmtCarriage f == 6
def fmtChannels (f : Nat) : Nat := f / 16 % 64 + 1
def fmtL24 (f : Nat) : Bool := bit f 10
def fmtPtime (f : Nat) : Nat := f / 2 ^ 11 % 4

/-- Active width, total lines, first and last active line of a raster (widths and heights of R144; line totals and
places of the standards R132 names, PRESUMED, notes/assumptions/12.md). -/
def rasterGeom : Nat → Option (Nat × Nat × Nat × Nat)
  | 1 => some (720, 525, 21, 525) | 2 => some (720, 625, 23, 623) | 3 => some (1280, 750, 26, 745)
  | 4 => some (1920, 1125, 21, 1123) | 5 => some (1920, 1125, 21, 1123) | 6 => some (1920, 1125, 42, 1121)
  | 7 => some (3840, 2250, 84, 2243) | 8 => some (7680, 4500, 168, 4487) | _ => none

/-- First and last active line of each field of a raster: interlaced and segmented frames have two (PRESUMED as above). -/
def rasterFields : Nat → List (Nat × Nat)
  | 1 => [(21, 263), (283, 525)] | 2 => [(23, 310), (336, 623)] | 4 => [(21, 560), (584, 1123)] | 5 => [(21, 560), (584, 1123)]
  | r => match rasterGeom r with | some (_, _, a, b) => [(a, b)] | none => []

/-- Active lines of a raster in one frame (R144). -/
def rasterHeight : Nat → Nat
  | 1 => 486 | 2 => 576 | 3 => 720 | 4 => 1080 | 5 => 1080 | 6 => 1080 | 7 => 2160 | 8 => 4320 | _ => 0

/-- Does a FORMAT name a raster (R63)? -/
def fmtHasRaster (f : Nat) : Bool := !fmtAudio f && (rasterGeom (fmtRaster f)).isSome && (rateOf (fmtRate f)).isSome

/-- Samples per pixel and bits per sample (R144, R145). -/
def fmtSpp (f : Nat) : Nat := if fmtSampling f = 0 then 2 else 3
def fmtBits (f : Nat) : Nat := match fmtDepth f with | 1 => 12 | 2 => 8 | _ => 10

/-- Line bytes (R145); for ST 2110-22 the compressed bits of a line's pixels; for audio one packet's payload
(48 samples a millisecond, 6 a 125 µs packet; R140); ancillary carriage has none. -/
def lineBytes (f : Nat) : Nat :=
  if fmtCarriage f = 5 then (if fmtPtime f = 0 then 48 else 6) * fmtChannels f * (if fmtL24 f then 3 else 2)
  else if fmtCarriage f = 6 then (if fmtPtime f = 0 then 48 else 6) * fmtChannels f * 4
  else if fmtCarriage f = 7 then 0
  else match rasterGeom (fmtRaster f) with
    | some (w, _, _, _) =>
      if fmtCarriage f = 4 then ceilDiv (w * fmtXsBpp f) 32 else w * fmtSpp f * fmtBits f / 8
    | none => 0

/-- Is the frame rate above `n` Hz? -/
def rateAbove (c n : Nat) : Bool := decide (n * rateD c < rateN c)

/-- The SDI part of the FORMAT check (R132): which raster and sampling each SDI rate carries. -/
def sdiOk (f : Nat) : Bool :=
  let hq := fmtSampling f != 0 || fmtDepth f == 1
  let r := fmtRaster f
  let c := fmtRate f
  !rateAbove c 60 &&
  (match fmtCarriage f with
   | 0 => decide (1 ≤ r ∧ r ≤ 7)
   | 1 => r == 8
   | 2 => r == 8
   | _ => decide (1 ≤ r ∧ r ≤ 6)) &&
  (!hq || ((r == 4 || r == 5 || r == 6 || r == 7 || r == 8) && !rateAbove c 30))

/-- Does the device support a FORMAT (R132, R140, R144)? That 525i comes at rate code 0x3 alone, 625i at 0x2, and 1080i and 1080PsF
at 30 Hz at most holds on every carriage, and COLOUR of an audio FORMAT may hold any value (DESIGN CHOICE,
notes/assumptions/94.md). -/
def fmtOk (f : Nat) : Bool :=
  decide (f < 2 ^ 32) && f / 2 ^ 20 % 16 == 0 && decide (fmtCarriage f ≤ 9) &&
  (fmtCarriage f == 4 || f / 2 ^ 24 == 0) &&
  (if fmtAudio f then
    fmtRate f == 0xF && decide (fmtPtime f ≤ 1) &&
    (if fmtCarriage f = 5 then fmtPtime f == 1 || decide (fmtChannels f ≤ 8)
     else fmtChannels f % 2 == 0 && decide (fmtChannels f ≤ 16) && !fmtL24 f)
  else
    (rateOf (fmtRate f)).isSome && decide (1 ≤ fmtRaster f ∧ fmtRaster f ≤ 8) && decide (fmtSampling f ≤ 3) &&
    decide (fmtDepth f ≤ 2) && decide (fmtColour f ≤ 4) &&
    (fmtRaster f != 1 || fmtRate f == 3) && (fmtRaster f != 2 || fmtRate f == 2) &&
    (!(fmtRaster f == 4 || fmtRaster f == 5) || !rateAbove (fmtRate f) 30) &&
    (match fmtCarriage f with
     | 0 => sdiOk f | 1 => sdiOk f | 2 => sdiOk f | 8 => sdiOk f
     | 3 => fmtSampling f != 3 && (fmtDepth f != 2 || fmtSampling f == 0)
     | 4 => fmtSampling f != 3 && fmtXsBpp f != 0 && (fmtRaster f != 8 || !rateAbove (fmtRate f) 60) &&
        (decide (2 ≤ fmtXsProfile f) || (fmtSampling f == 0 && fmtDepth f != 1))
     | _ => true))

/-- Equal formats; without a payload ID 1080i and 1080PsF of one frame rate satisfy each other (R135). -/
def fmtSame (a b : Nat) (pid : Bool) : Bool :=
  a == b ||
  (!pid && ((fmtRaster a == 4 && fmtRaster b == 5) || (fmtRaster a == 5 && fmtRaster b == 4)) &&
    a - fmtRaster a * 16 == b - fmtRaster b * 16)

/-- Serial rate of an SDI rate code in bits per second, as a fraction (R132). -/
def sdiRate : Nat → Nat × Nat
  | 0x1 => (270000000, 1) | 0x2 => (1485000000, 1) | 0x3 => (1485000000000, 1001)
  | 0x4 => (2970000000, 1) | 0x5 => (2970000000000, 1001) | 0x6 => (5940000000, 1) | 0x7 => (5940000000000, 1001)
  | 0x8 => (11880000000, 1) | 0x9 => (11880000000000, 1001) | _ => (0, 1)

/-! ## Ports and endpoints (R129, R130, R148) -/

def State.port (s : State) (p : Nat) : PortCfg := SMap.get (fun _ => {}) s.strm.ports p

/-- Ports of the variant (R129). -/
def State.portPresent (s : State) (p : Nat) : Bool :=
  if p < 96 then decide (p < s.nLanes) else decide (p < 100) && s.ident.variant == 1

/-- An Ethernet kind (R164). -/
def ethKind (k : Nat) : Bool := decide (3 ≤ k ∧ k ≤ 6)

def State.ethPort (s : State) (p : Nat) : Bool := ethKind (s.port p).kind

/-- The lanes of a port of a kind: four for a group or a P-quad, one otherwise (R129). -/
def portLanes (p kind : Nat) : List Nat :=
  if 96 ≤ p then (List.range 4).map (fun i => 128 + 4 * (p - 96) + i)
  else if kind = 2 ∨ kind = 5 then (List.range 4).map (fun i => p + i)
  else [p]

/-- Is the port powered: PD03 and the domain of each of its lanes ON (R130)? -/
def State.portOn (s : State) (p : Nat) : Bool :=
  s.domOn 3 && (portLanes p (s.port p).kind).all (fun l => s.domOn (laneDom l))

/-- The group port, if any, that occupies port `p` as one of its upper three (R130). -/
def State.groupOf (s : State) (p : Nat) : Option Nat :=
  let g := p / 4 * 4
  if p < 96 ∧ g ≠ p ∧ ((s.port g).kind = 2 ∨ (s.port g).kind = 5) then some g else none

def State.link (s : State) (k : Nat) : LinkDyn := SMap.get (fun _ => ({} : LinkDyn)) s.mesh.links k

def State.flow (s : State) (i : Nat) : Flow := SMap.get (fun _ => {}) s.strm.flows i
def State.flowDyn (s : State) (i : Nat) : FlowDyn := SMap.get (fun _ => {}) s.strm.dyn i
def State.setFlow (s : State) (i : Nat) (f : Flow) : State :=
  { s with strm := { s.strm with flows := SMap.set (fun _ => {}) s.strm.flows i f } }
def State.setDyn (s : State) (i : Nat) (f : FlowDyn) : State :=
  { s with strm := { s.strm with dyn := SMap.set (fun _ => {}) s.strm.dyn i f } }

/-- The ports of a flow's legs. -/
def Flow.ports (f : Flow) : List Nat := if f.legs = 2 then [f.legA.port, f.legB.port] else [f.legA.port]

/-- Flow entries in use: ingress below 1024, egress from 1024 (R146). -/
def State.flowsUsed (s : State) (egress : Bool) : Nat :=
  (s.strm.flows.filter (fun e => e.2.used && decide (1024 ≤ e.1) == egress)).length

/-- Stream engine of a port (R146). -/
def streamEngine (p : Nat) : Nat := if p < 48 ∨ p = 96 ∨ p = 97 then 0 else 1

/-- Is a mesh ID the local device? -/
def State.isLocal (s : State) (dev : Nat) : Bool := dev == 0 || dev == s.meshId

/-- Does an endpoint entry use port `p`: naming it, or naming a flow with a leg on it (R45)? `eg` marks a destination. -/
def State.endUsesPort (s : State) (e : EndPt) (eg : Bool) (p : Nat) : Bool :=
  s.isLocal e.dev &&
  ((e.kind == 1 && (e.index == p || s.groupOf p == some e.index)) ||
   (e.kind == 2 && ((s.flow (if eg then 1024 + e.index else e.index)).ports.contains p)))

/-- Does a contract use a port's block (R45)? -/
def State.usesPort (s : State) (c : Contract) (p : Nat) : Bool :=
  c.d.srcs.any (fun e => s.endUsesPort e false p) || c.d.dsts.any (fun e => s.endUsesPort e true p)

/-- The tiles a contract's fabric stages and fabric ports use (R86 TILES). -/
def State.contractTiles (s : State) (c : Contract) : Nat :=
  c.d.stages.foldl (fun acc st =>
    if st.kind = 2 then acc ||| (SMap.get (fun _ => ({} : CostDesc)) s.led.costs st.desc).tiles else acc) 0

/-- Does a contract use the block a tap serves (R45): its charges name the cluster or controller, its tiles the tile? -/
def State.usesTap (s : State) (c : Contract) : Tap → Bool
  | .port p => s.usesPort c p
  | .tile t => bit (s.contractTiles c) t
  | .cluster k => c.charges.any (fun x => (x.res == 1 || x.res == 2) && x.inst == k) ||
      c.d.stages.any (fun st => st.kind == 1 && st.cluster == k)
  | .mc m => c.charges.any (fun x => x.res == 4 && x.inst == m)

/-- The contracts not RELEASED that satisfy a property, by index. -/
def State.liveWhere (s : State) (p : Contract → Bool) : List Nat :=
  (s.led.contracts.filter (fun e => e.2.st != .released && p e.2)).map (·.1)

/-- First crossbar endpoint and count of a unit's endpoints (R148): kind 0 fabric port, 1 cluster, 2 DRAM channel,
3 stream engine, 4 SDI quad, 5 Dolmet link, 6 host DMA, 7 management. -/
def xbarUnit (kind i : Nat) : Nat × Nat :=
  match kind with
  | 0 => (i, 1) | 1 => (64 + 4 * i, 4) | 2 => (96 + 4 * i, 4) | 3 => (128 + 16 * i, 16) | 4 => (160 + i, 1)
  | 5 => (184 + i, 1) | 6 => (190, 1) | _ => (191, 1)

/-! ## What a boundary leaves (R91, R150) -/

/-- Does the contract run, so that the crossbar carries its streams? -/
def Contract.runs (c : Contract) : Bool := c.st == .active || c.st == .starved || c.st == .held || c.st == .releasing

/-- The schedule of the contracts that run: their XBAR charges (R150). -/
def State.schedNow (s : State) : List (Nat × Charge) :=
  (s.led.contracts.filter (fun x => x.2.runs)).flatMap (fun x => (x.2.charges.filter (fun c => c.res == 6)).map (fun c => (x.1, c)))

/-- The schedule copy in use. -/
def State.schedIn (s : State) : List (Nat × Charge) := if s.rd Reg.XBAR.STATUS.COPY = 0 then s.strm.copy0 else s.strm.copy1

/-- A schedule that has changed stands in the other copy, and the crossbar swaps copies at this boundary (R150). -/
def State.xbarSwap (s : State) : State :=
  if s.schedNow = s.schedIn then s
  else if s.rd Reg.XBAR.STATUS.COPY = 0 then
    ({ s with strm := { s.strm with copy1 := s.schedNow } } : State).wr Reg.XBAR.STATUS.COPY 1
  else ({ s with strm := { s.strm with copy0 := s.schedNow } } : State).wr Reg.XBAR.STATUS.COPY 0

/-- Does accepted work change which contracts run? -/
def Act.reschedules : Act → Bool
  | .activate _ => true | .release _ => true | .arm _ _ _ _ _ _ _ => true | .disarm _ => true
  | .posture _ _ m => !m.isEmpty
  | _ => false

/-- Does accepted work change the ledger (R91)? -/
def Act.ledgered : Act → Bool
  | .activate _ => true | .release _ => true | .posture _ _ _ => true | .flowAdd _ => true | .flowRemove _ => true
  | .subst _ _ _ => true | .arm _ _ _ _ _ _ _ => true | .disarm _ => true
  | _ => false

/-- SWAP_PEND shows whether a change of the schedule is set for the next boundary (R150). -/
def State.showSwap (s : State) : State :=
  s.flag Reg.XBAR.STATUS.SWAP_PEND (s.due.any (fun d => d.act.reschedules && decide (s.now < d.eff ∧ d.eff ≤ s.now + 1)))

/-- The ledger as it stands is what LEDGER_SNAPSHOT tells of this boundary (R91). -/
def State.snapLedger (s : State) : State :=
  { s with led := { s.led with
    snap := ⟨s.led.contracts, s.flowsUsed false, s.flowsUsed true, s.led.plane.length⟩ } }

/-- A boundary's changes stand: the crossbar swaps, and the ledger is kept for snapshots. -/
def State.settle (s : State) : State := s.xbarSwap.showSwap.snapLedger

/-- An activation or release accepted for contract `i` is withdrawn. -/
def State.dropChange (s : State) (i : Nat) : State :=
  { s with due := s.due.filter (fun d => d.act != .activate i && d.act != .release i) }

/-- Does the contract's path cross Dolmet link `k`, as fixed at its admission (R440)? -/
def Contract.usesLink (c : Contract) (k : Nat) : Bool := c.links.any (fun x => x.2 == k)

/-- Is a crossbar endpoint present (R148)? -/
def State.xbarPresent (s : State) (e : Nat) : Bool :=
  if e < 64 then decide (e < s.nFports)
  else if e < 96 then decide ((e - 64) / 4 < s.nClusters)
  else if e < 128 then decide ((e - 96) / 4 < s.nMcs)
  else if e < 144 then true
  else if e < 160 then s.ident.variant != 3
  else if e < 184 then decide (4 * (e - 160) < s.nLanes)
  else decide (e < 192)

end Sys2Proof.Machine
end

