-- ==== Sys2Proof/Machine/Command.lean ====
section
/-! DEFINITION. What every opcode shares: the opcode table's flags (R124), the entry checks (R100), the order of
refusals (R122), forwarding (R111–R114), Cocoon (R123), held cores (R96, R542) and twins (R120, R433). -/

namespace Sys2Proof.Machine

/-- An opcode's row of R124: the flags it accepts as a FLAGS mask beside IRQ_ON_COMPLETE, and its reply bound in
microseconds where it has one (0: one tick or its chapter's own). -/
def opRow : Nat → Option (Nat × Nat)
  | 0x0101 => some (0, 50) | 0x0102 => some (0, 50) | 0x0103 => some (0, 0) | 0x0104 => some (0, 50)
  | 0x0105 => some (0, 0) | 0x0201 => some (0, 0) | 0x0202 => some (0, 50) | 0x0203 => some (8, 0)
  | 0x0204 => some (0, 0) | 0x0205 => some (0, 0) | 0x0206 => some (0, 50) | 0x0207 => some (0, 0)
  | 0x0208 => some (0, 50) | 0x0301 => some (0x18, 0) | 0x0302 => some (8, 0) | 0x0303 => some (8, 0)
  | 0x0304 => some (0, 50) | 0x0305 => some (0, 0) | 0x0306 => some (0, 0) | 0x0401 => some (8, 0)
  | 0x0402 => some (8, 0) | 0x0403 => some (0, 0) | 0x0404 => some (8, 0) | 0x0405 => some (0, 0)
  | 0x0406 => some (0, 50) | 0x0501 => some (0x8008, 0) | 0x0502 => some (8, 0) | 0x0503 => some (8, 0)
  | 0x0504 => some (0, 0) | 0x0505 => some (8, 0) | 0x0506 => some (0x8008, 0) | 0x0601 => some (8, 0)
  | 0x0602 => some (8, 0) | 0x0603 => some (8, 0) | 0x0604 => some (0, 50) | 0x0701 => some (0, 0)
  | 0x0702 => some (2, 0) | 0x0703 => some (2, 0) | 0x0704 => some (0, 50) | 0x0801 => some (0, 0)
  | 0x0802 => some (0, 50) | 0x0803 => some (0, 0) | 0x0901 => some (0, 0) | 0x0902 => some (0, 0)
  | 0x0903 => some (0, 0) | 0x0904 => some (0, 0) | 0x0905 => some (0, 0) | 0x0A01 => some (0, 0)
  | 0x0A02 => some (0, 50) | 0x0A03 => some (0, 0) | 0x0A04 => some (0, 50) | 0x0A05 => some (0, 0)
  | 0x0B01 => some (0, 0) | 0x0B02 => some (0, 50) | 0x0B03 => some (0, 0) | 0x0B04 => some (0, 50)
  | 0x0B05 => some (0, 0) | 0x0C01 => some (0, 0) | 0x0C02 => some (0, 50) | 0x0C03 => some (0, 0)
  | 0x0E01 => some (0, 50) | 0x0E02 => some (0, 0) | 0x0E03 => some (0, 0) | 0x0E04 => some (0, 0)
  | _ => none

/-- The flags an opcode accepts, IRQ_ON_COMPLETE included. -/
def opFlags (op : Nat) : Nat := 1 + ((opRow op).getD (0, 0)).1

/-- The entry checks of R100 on what a header carries: unknown opcode, flags not listed, TARGET above 16,384, or any TARGET
with HW_PATH (R119). -/
def entryErr (op : Nat) (h : Hdr) : Option Nat :=
  if (opRow op).isNone then some Sts.badOpcode
  else if h.flags.toNat &&& (0xFFFF - opFlags op) ≠ 0 then some Sts.badParam
  else if 16384 < h.target.toNat ∨ (h.hwPath ∧ h.target ≠ 0) then some Sts.badParam
  else none

/-- Opcodes accepted in Cocoon (R123). -/
def cocoonOp (op : Nat) : Bool :=
  decide (0x0101 ≤ op ∧ op ≤ 0x0105) || op == 0x0201 || op == 0x0202 || decide (0x0206 ≤ op ∧ op ≤ 0x0208) ||
  op == 0x0406 || op == 0x0903 || op == 0x0904 || op == 0x0C01 || op == 0x0C02 || decide (0x0E01 ≤ op ∧ op ≤ 0x0E04)

/-- The opcodes with the command set of R123 alone: in Cocoon, and with boot sources 1 and 3 from step 5 until the
end of step 11 (R491). -/
def State.limited (s : State) : Bool :=
  s.mode = 2 || (s.mode = 1 && decide (s.rd Reg.MODE.STATUS.ECL_STEP < 12))

/-- The best route to a mesh ID: the narrowest range, then the lower metric (R440). -/
def State.route (s : State) (dst : Nat) : Option Route :=
  (s.mesh.routes.filter (fun r => decide (r.lo ≤ dst ∧ dst ≤ r.hi))).foldl (fun best r =>
    match best with
    | none => some r
    | some b => if r.hi - r.lo < b.hi - b.lo ∨ (r.hi - r.lo = b.hi - b.lo ∧ r.metric < b.metric) then some r
        else some b) none

/-- A link that carries frames: UP or QUARANTINED (R429). -/
def State.linkUp (s : State) (k : Nat) : Bool :=
  s.rd (Reg.DOLMET.LINK_STATUS.STATE k) = 3 || s.rd (Reg.DOLMET.LINK_STATUS.STATE k) = 4

/-- The link towards a mesh ID, where a route exists and its link is up. -/
def State.linkTo (s : State) (dst : Nat) : Option Nat :=
  match s.route dst with
  | some r => if s.linkUp r.link then some r.link else none
  | none => none

def State.twinState (s : State) : Nat := s.rd Reg.TWIN.STATUS.STATE

/-- Paired for R120: neither UNPAIRED nor ALONE (R433). -/
def State.paired (s : State) : Bool := s.twinState != 0 && s.twinState != 4

/-- The management core that holds a command while it runs, 1–4 (03_commands.md, the core table). -/
def coreOf (op : Nat) : Nat :=
  if op = 0x0301 ∨ op = 0x0203 ∨ op = 0x0702 then 2
  else if 0x0B01 ≤ op ∧ op ≤ 0x0B05 then 3
  else if (0x0204 ≤ op ∧ op ≤ 0x0208) ∨ op = 0x0704 ∨ (0x0801 ≤ op ∧ op ≤ 0x0803) ∨ (0x0A01 ≤ op ∧ op ≤ 0x0A05) then 4
  else 1

/-- Does management core `c` not run: a debugger has halted it, or it restarts (R96, R542)? -/
def State.coreOff (s : State) (c : Nat) : Bool := bit s.xp.coreHalt (c - 1) || bit s.xp.coreDown (c - 1)

/-- Is the core that carries the opcode halted or restarting, or core 1, which dispatches every command (R542)? Commands for it
wait (R96). HW_PATH bypasses the cores (R119). -/
def State.coreHeld (s : State) (op : Nat) (h : Hdr) : Bool := (s.coreOff 1 || s.coreOff (coreOf op)) && !h.hwPath

/-- CMD.STATUS.CORE_UP shows the cores that run (R127). -/
def State.showCores (s : State) : State :=
  s.wr Reg.CMD.STATUS.CORE_UP ((List.range 4).foldl (fun a k => if s.coreOff (k + 1) then a else setBit a k) 0)

/-- The journal holds a record of a command (R95, R96). -/
def State.journaled (s : State) (h : Hdr) : Bool := s.xp.journal.contains (h.via, h.seq)

/-- The twin rule of R433 on an opcode that accepts TWIN_APPLY: SYNCING answers BUSY_RETRY; SYNCING, MATCHING and
PAIRED refuse it without the flag, a DRY_RUN proposal excepted. -/
def State.twinErr (s : State) (op : Nat) (h : Hdr) : Option Nat :=
  if opFlags op &&& 8 = 0 ∨ (op = 0x0301 ∧ h.dryRun) then none
  else if s.paired ∧ ¬ h.twinApply then some Sts.badState
  else none

/-- A status that comes before BAD_STATE in the order of R122, or that a check of that rank gave. -/
def beforeBadState (st : Nat) : Bool :=
  [Sts.badOpcode, Sts.unreachable, Sts.modeRefused, Sts.authRequired, Sts.authFailed, Sts.busy, Sts.unitAbsent,
    Sts.domainOff, Sts.badParam].contains st

/-- Forward a command to its TARGET: BAD_PARAM with HW_PATH (R114), REMOTE_UNREACHABLE without a route (R112). Its parameters go with
it, and of the structures they name by address none: the target reads those from what it is told was carried (DESIGN CHOICE,
notes/assumptions/101.md). -/
def State.forward (s : State) (op : Nat) (h : Hdr) (p : List Byte) : State :=
  if h.hwPath then s.answer h Sts.badParam 0 []
  else match s.linkTo h.target.toNat with
    | none => s.answer h Sts.unreachable 0 []
    | some _ =>
      let s1 : State := { s with xp := { s.xp with fwdOut := s.xp.fwdOut ++ [⟨h, op, s.now⟩] } }
      s1.emit (.meshCmd h.target.toNat op h p)

/-- What a body answers, with the twin rules applied (R120, R433): without TWIN_APPLY it stands; with it, a device
not paired answers BAD_STATE in BAD_STATE's rank, and a paired one passes an accepted command to its partner (with HW_PATH its
body does so itself, R187) and keeps it for the partner's answer, committing nothing yet. -/
def State.twinFinish (s : State) (op : Nat) (h : Hdr) (p : List Byte) (a : Ans) : State :=
  if !h.twinApply || h.hwPath then State.deliver h a
  else match a.rep with
    | some (st, eff, _) =>
      if beforeBadState st then State.deliver h a
      else if !s.paired then s.answer h Sts.badState 0 []
      else if 2 < st then State.deliver h a
      else
        let s1 : State := { s with xp := { s.xp with twinWait := s.xp.twinWait ++ [⟨op, h, p, s.now⟩] } }
        s1.emit (.twinCmd op h p eff)
    | none =>
      if !s.paired then s.answer h Sts.badState 0 [] else a.st.emit (.twinCmd op h p 0)

/-- A command was received at its time, over its transport: what it schedules keeps its place by that (R115, R117). -/
def State.stamped (s : State) (h : Hdr) : State := { s with xp := { s.xp with stamp := (h.ns, h.rank) } }

/-- Run one command: entry checks, forwarding, Cocoon, held core, twin rules, then its own body (R100, R122). The
body's first argument is the earliest tick a twin partner can meet; 0 where there is none (R120). -/
def command (op : Nat) (h : Hdr) (p : List Byte) (body : Nat → State → Ans) (s0 : State) : State :=
  let s := s0.stamped h
  if !s.isSet Reg.CMD.STATUS.FW_READY then s
  else match entryErr op h with
    | some e => s.answer h e 0 []
    | none =>
      if h.target.toNat ≠ 0 ∧ h.target.toNat ≠ s.meshId then
        if s.limited ∧ ¬ cocoonOp op ∧ (s.linkTo h.target.toNat).isSome ∧ ¬ h.hwPath then s.answer h Sts.modeRefused 0 []
        else s.forward op h p
      else if s.limited ∧ ¬ cocoonOp op then s.answer h Sts.modeRefused 0 []
      else if s.coreHeld op h then { s with xp := { s.xp with held := s.xp.held ++ [⟨op, h, p, s.now⟩] } }
      else if s.twinState = 1 ∧ opFlags op &&& 8 ≠ 0 ∧ ¬ (op = 0x0301 ∧ h.dryRun) then s.answer h Sts.busy 0 []
      else
        let a := body 0 s
        match s.twinErr op h, a.rep with
        | some e, some (st, _, _) => if beforeBadState st then State.deliver h a else s.answer h e 0 []
        | some e, none => s.answer h e 0 []
        | none, _ => s.twinFinish op h p a

/-- A parameter list that must be empty: BAD_PARAM for a non-zero PLEN (R125). -/
def noParams (p : List Byte) : Bool := !p.isEmpty

end Sys2Proof.Machine
end

