-- ==== Sys2Proof/Machine/Tick.lean ====
section
/-! DEFINITION. Tick, time and reference (01_tick_and_reference.md): reference sources, lock states, selection,
steps, the tick's part of a boundary, and the rows of the tick family. -/

namespace Sys2Proof.Machine

/-! ## Reference sources -/

/-- The key of a source: SRC, DOMAIN and INDEX (R43). -/
def refKey (src dom index : Nat) : Nat := (src * 256 + dom) * 65536 + index

def State.ref (s : State) (src dom index : Nat) : RefState := SMap.get (fun _ => {}) s.tick.refs (refKey src dom index)

def State.setRef (s : State) (src dom index : Nat) (r : RefState) : State :=
  { s with tick := { s.tick with refs := SMap.set (fun _ => {}) s.tick.refs (refKey src dom index) r } }

/-- What is known of the source an entry names. -/
def State.refOf (s : State) (e : RefEntry) : RefState := s.ref e.src e.dom e.index

/-- Is a frame rate compatible with a tick rate: R = k × F with k one of 1/2, 1, 2, 4 (R25)? -/
def compatible (rate frate : Nat) : Bool :=
  (rateOf rate).isSome && (rateOf frate).isSome &&
  let a := rateN rate * rateD frate
  let b := rateN frate * rateD rate
  2 * a == b || a == b || a == 2 * b || a == 4 * b

/-- Is a reference entry present and in range (R25, R26, R30, R38, R41, R48)? PTP and Dolmet stop in Diapause (R39). -/
def State.entryValid (s : State) (e : RefEntry) : Bool :=
  let r := s.refOf e
  match e.src with
  | 1 => s.ethPort e.index && r.alive && r.inRange && s.mode != 0
  | 2 => s.isSet (Reg.TICK.REF_STATUS.PRESENT 0) && compatible s.rate (s.rd (Reg.TICK.REF_STATUS.FRATE 0)) && r.inRange
  | 3 => s.isSet (Reg.TICK.REF_STATUS.PRESENT 1) && compatible s.rate (s.rd (Reg.TICK.REF_STATUS.FRATE 1)) && r.inRange
  | 4 => s.linkUp e.index && r.alive && r.inRange && s.mode != 0
  | 5 => s.rd Reg.CLK.STATUS.SRC = 0
  | _ => false

/-- The position of the highest-priority valid entry of the selection in force (R41). -/
def State.bestEntry (s : State) : Option Nat := s.tick.sel.entries.findIdx? s.entryValid

/-- The entry at a position of the selection in force. -/
def State.entry (s : State) (i : Nat) : RefEntry := s.tick.sel.entries.getD i {}

/-- The active entry, where one is (TICK.STATUS.SRC non-zero). -/
def State.activeEntry (s : State) : Option Nat :=
  if s.rd Reg.TICK.STATUS.SRC = 0 then none else some (s.rd Reg.TICK.STATUS.ACTIVE_ENTRY)

/-! ## Lock states (R31) -/

/-- Device time in ns of the running tick's start (R17). -/
def State.edgeNs (s : State) : Int := s.tick.edge / (rateN s.rate : Int)

/-- Put the lock state to a code, restarting the acquisition count (R31). -/
def State.setLock (s : State) (l : Nat) : State :=
  let s1 := s.wr Reg.TICK.STATUS.LOCK l
  { s1 with tick := { s1.tick with run := 0, holding := if l = 3 then some (s.edgeNs + slotStartNs s.rate s.slots s.slot) else none } }

/-- Enter HOLDOVER, from which HOLDOVER_LIMIT runs (R31, R33). -/
def State.enterHoldover (s : State) : State := (s.setLock 3).evt Reg.TICK.EVENT.HOLDOVER_ENTER

/-- Make an entry the active one. -/
def State.useEntry (s : State) (i : Nat) : State :=
  let s1 := (s.wr Reg.TICK.STATUS.SRC (s.entry i).src).wr Reg.TICK.STATUS.ACTIVE_ENTRY i
  { s1 with tick := { s1.tick with run := 0 } }

/-- One entry replaces another as the active one: REF_SWITCH, counted (R41). -/
def State.switchTo (s : State) (i : Nat) : State :=
  ((s.useEntry i).evt Reg.TICK.EVENT.REF_SWITCH).bump Reg.TICK.EVENT_CNT.REF_SWITCH_CNT

/-- No entry is active. -/
def State.noEntry (s : State) : State :=
  (s.wr Reg.TICK.STATUS.SRC 0).wr Reg.TICK.STATUS.ACTIVE_ENTRY 0

/-- The active entry is lost: LOCKED passes to HOLDOVER, then the highest-priority valid entry is selected; with none
left ACQUIRING passes to FREE, and so does every state while the device runs on RC (R31, R38, R41). -/
def State.loseActive (s : State) : State :=
  match s.bestEntry with
  | some i => (if s.lock = 2 then s.enterHoldover else s).switchTo i
  | none =>
    if s.rd Reg.CLK.STATUS.SRC = 1 ∨ s.lock = 1 then (s.setLock 0).noEntry
    else if s.lock = 2 then s.enterHoldover.noEntry
    else s.noEntry

/-- A source may have become valid: with no active entry the best valid one becomes active, and FREE passes to
ACQUIRING (R31, R41). -/
def State.refAvailable (s : State) : State :=
  match s.activeEntry, s.bestEntry with
  | none, some i =>
    let s1 := s.useEntry i
    if s1.lock = 0 then s1.setLock 1 else s1
  | _, _ => s

/-- Does the active entry name this source (R43)? -/
def State.isActive (s : State) (src dom index : Nat) : Bool :=
  s.activeEntry.any (fun i => s.entry i == ⟨src, dom, index⟩)

/-- A source is gone or out of range: if it is the active entry, that entry is lost (R41). -/
def State.sourceGone (s : State) (src dom index : Nat) : State :=
  if s.isActive src dom index then s.loseActive else s

/-- Is a frequency within ±50 ppm (R30)? -/
def inPpm (ppb : Int) : Bool := decide (ppb.natAbs ≤ 50000)

/-- A source's frequency has been measured: beyond ±50 ppm it raises OUT_OF_RANGE and counts as absent, within it counts as
present again (R30, R41). -/
def State.ranged (s : State) (src dom index : Nat) (r : RefState) (ppb : Int) : State :=
  if inPpm ppb then s.setRef src dom index { r with ppb := ppb, inRange := true }
  else
    let s1 := s.setRef src dom index { r with ppb := ppb, inRange := false, validRun := 0 }
    if r.inRange then (s1.evt Reg.TICK.EVENT.OUT_OF_RANGE).sourceGone src dom index else s1

/-! ## Where the tick edge lies against a reference (R18, R25, R28, R32) -/

/-- A tick period in units of 1/N ns (R16). -/
def State.period (s : State) : Int := rateD s.rate * 1000000000

/-- The multiple of `g` nearest to `x`, and what `x` exceeds it by. -/
def nearest (x g : Int) : Int × Int :=
  let n := (2 * x + g) / (2 * g)
  (n, x - n * g)

/-- Where the tick edge lies in PTP time: the tick number nearest to it, and the error in units of 1/N ns (R18). -/
def State.onPtp (s : State) (r : RefState) : Int × Int := nearest (s.tick.edge - r.offset * rateN s.rate) s.period

/-- The tick edge against the neighbour's markers (R28). -/
def State.onMarker (s : State) (r : RefState) : Int × Int :=
  let x := nearest (s.tick.edge - r.edge * rateN s.rate) s.period
  (r.num + x.1, x.2)

/-- The tick number and error that the time entry gives, where it is valid (R27). -/
def State.timeGives (s : State) : Option (Int × Int) :=
  let e := s.entry s.tick.sel.timeEntry
  if s.tick.sel.timeEntry = 0xFF ∨ ¬ s.entryValid e then none
  else if e.src = 1 then some (s.onPtp (s.refOf e))
  else if e.src = 4 then some (s.onMarker (s.refOf e))
  else none

/-- At k = 1/2: does the latest reference frame lie between two tick edges? The time source says so once it has set the number;
before, the tick keeps to every second frame from the first one accepted (R25). -/
def State.offFrame (s : State) (r : RefState) : Bool :=
  let half := s.period / 2
  let from0 := fun (o : Int) => (nearest ((r.edge - o) * rateN s.rate) half).1 % 2 != 0
  let e := s.entry s.tick.sel.timeEntry
  if s.isSet Reg.TICK.STATUS.TIME_VALID ∧ s.timeGives.isSome then from0 (if e.src = 1 then (s.refOf e).offset else (s.refOf e).edge)
  else from0 (r.anchor.getD r.edge)

/-- Is a frame rate twice the tick rate (R25)? -/
def halfRate (rate frate : Nat) : Bool := 2 * rateN rate * rateD frate == rateN frate * rateD rate

/-- The tick edge minus the reference edge against an analog input's frames, in units of 1/N ns (R25). -/
def State.onFrames (s : State) (i : Nat) (r : RefState) : Int :=
  let x := s.tick.edge - r.edge * rateN s.rate
  let x := if halfRate s.rate (s.rd (Reg.TICK.REF_STATUS.FRATE i)) ∧ s.offFrame r then x + s.period / 2 else x
  (nearest x s.period).2

/-- The phase error against an entry in ns, rounded down: the tick edge minus the reference edge; 0 against MCLK (R29, R32). -/
def State.phaseOf (s : State) (e : RefEntry) : Int :=
  (match e.src with
    | 1 => (s.onPtp (s.refOf e)).2
    | 2 => s.onFrames 0 (s.refOf e)
    | 3 => s.onFrames 1 (s.refOf e)
    | 4 => (s.onMarker (s.refOf e)).2
    | _ => 0) / (rateN s.rate : Int)

/-- LOCK_WINDOW in ns. -/
def State.window (s : State) : Nat := s.rd Reg.TICK.LOCK_CFG.LOCK_WINDOW * 10

/-- Another entry replaces the active one without loss: LOCKED stays within LOCK_WINDOW, and passes to HOLDOVER beyond it
(R31, R41). -/
def State.replaceBy (s : State) (i : Nat) : State :=
  (if s.lock = 2 ∧ s.window < (s.phaseOf (s.entry i)).natAbs then s.enterHoldover else s).switchTo i

/-! ## Time and steps (R35, R36) -/

/-- Signed ns, saturated at ±2,147,483,647 (TICK.PHASE_ERR). -/
def satPhase (x : Int) : Int := max (-2147483647) (min 2147483647 x)

/-- Write the phase error of the last tick (TICK.PHASE_ERR). -/
def State.setPhase (s : State) (x : Int) : State := s.wr Reg.TICK.PHASE_ERR.ERR (unsigned 32 (satPhase x))

/-- Hold every ACTIVE contract for the stepped tick, in which no late unit counts (R36). -/
def State.holdForStep (s : State) : State :=
  let s1 := s.holdAll (s.inSt (fun c => c == .active)) .step (some (s.now + 1))
  { s1 with tick := { s1.tick with stepped := some s.now } }

/-- No step is pending any more (R35, R36). -/
def State.noStep (s : State) : State :=
  { s with tick := { s.tick with stepNs := 0, stepNum := 0, stepFrom := none }, mesh := { s.mesh with off := 0 } }

/-- Renumber the tick. -/
def State.setNum (s : State) (n : Nat) : State := { s with tick := { s.tick with num := n % 2 ^ 64 } }

/-- The frame starts of cadence rate `code` in tick `n`: the first frame, and how many; frame m begins m × Dc / Nc seconds after
the epoch (R18, R20). -/
def cadStarts (rate code n : Nat) : Nat × Nat :=
  let g := rateN rate * rateD code
  let m := ceilDiv (n * rateD rate * rateN code) g
  (m, ceilDiv ((n + 1) * rateD rate * rateN code) g - m)

/-- The frame starts of the running tick (R20). -/
def State.setStarts (s : State) : State :=
  { s with tick := { s.tick with starts :=
    ((List.range 8).filter (fun c => s.isSet (Reg.TICK.CAD_CFG.EN c))).map (fun c =>
      (c, cadStarts s.rate (s.rd (Reg.TICK.CAD_CFG.RATE c)) s.now)) } }

/-- TICK: the number advances, slot 0 begins, and the edge lies one period after the last one, at the frequency last measured
and less the slew (R17, R18, R33, R35). -/
def State.advance (s : State) : State :=
  let s1 := (s.setNum (s.now + 1)).wr Reg.TICK.STATUS.SLOT 0
  { s1 with tick := { s1.tick with edge := s.tick.edge + rateD s.rate * (1000000000 - s.tick.freq) - s.tick.corr * rateN s.rate } }

/-- Staged writes of LOCK_CFG and HOLD_CFG take effect (R46). -/
def State.stagedCfg (s : State) : State :=
  let s1 := match s.tick.lockCfg with | some w => s.setReg Reg.TICK.LOCK_CFG w | none => s
  let s2 := match s.tick.holdCfg with | some w => s1.setReg Reg.TICK.HOLD_CFG w | none => s1
  { s2 with tick := { s2.tick with lockCfg := none, holdCfg := none } }

/-- Analog inputs: a frame sync of the tick just ended gives the reference edge; a tick without one counts (R25, R26, R30). -/
def State.syncIn (l : List (Nat × Int × Int)) (s : State) (i : Nat) : State :=
  let r := s.ref (2 + i) 0 0
  if !s.isSet (Reg.TICK.REF_STATUS.PRESENT i) then s
  else match l.find? (fun x => x.1 == i) with
    | some (_, ns, ppb) =>
      s.ranged (2 + i) 0 0 { r with edge := ns, anchor := some (if s.offFrame { r with edge := ns } then r.anchor.getD ns else ns), miss := 0 } ppb
    | none => s.setRef (2 + i) 0 0 { r with miss := r.miss + 1 }

/-- Dolmet references: a tick without a marker counts (R26). -/
def State.markerIn (s : State) (k : Nat) : State :=
  let r := s.ref 4 0 k
  if r.alive then s.setRef 4 0 k { r with fresh := false, miss := if r.fresh then 0 else r.miss + 1 } else s

/-- One more tick for which the source of an entry has been valid, or none (R42). -/
def State.countValid (s : State) (e : RefEntry) : State :=
  let r := s.refOf e
  s.setRef e.src e.dom e.index { r with validRun := if s.entryValid e then r.validRun + 1 else 0 }

/-- The most the device slews in one tick, in ns: SLEW_PPM of the tick period (R35). -/
def State.slewMax (s : State) : Int := s.rd Reg.TICK.LOCK_CFG.SLEW_PPM * rateD s.rate * 1000 / rateN s.rate

/-- The whole-tick difference to take over: the time entry's, else the one a tick marker told (R27, R35, R444). -/
def State.numDiff (s : State) : Int :=
  match s.timeGives with
  | some (n, _) => if n = s.now then s.mesh.off else n - s.now
  | none => s.mesh.off

/-- The edge judged against the active entry (R27, R32, R33, R35): the error is shown, and within 1 ms slewed out in Flight and
stepped at the next boundary outside; a larger one, or another tick number, needs a step. -/
def State.judgeEdge (s : State) (a : Option RefEntry) : State :=
  let err := (a.map s.phaseOf).getD 0
  let diff := s.numDiff
  let far := decide (1000000 < err.natAbs) || diff != 0
  let s1 := if a.isSome then s.setPhase err else s
  let s2 := if s.timeGives.isSome ∧ diff = 0 then s1.wr Reg.TICK.STATUS.TIME_VALID 1 else s1
  let near := a.isSome && !far && decide (err.natAbs ≤ s.window)
  let slew := if s.mode = 4 ∧ ¬ far then max (-s.slewMax) (min s.slewMax err) else 0
  let step := far || (s.mode != 4 && err != 0)
  let s3 : State := { (s2.flag Reg.TICK.STATUS.SLEWING (slew != 0)) with
    tick := { s2.tick with
      corr := slew, freq := (a.map (fun e => (s.refOf e).ppb)).getD s.tick.freq,
      run := if a.any (fun e => e.src == 5) then s.tick.mclkRun else if near then s.tick.run + 1 else 0,
      stepNs := if step then err else 0, stepNum := diff, stepFrom := if step then s.tick.stepFrom.orElse (fun _ => some s.now) else none } }
  if far ∧ s.mode = 4 then
    let s4 := if s.isSet Reg.TICK.STATUS.STEP_PEND then s3 else s3.evt Reg.TICK.EVENT.STEP_NEEDED
    let s5 := s4.wr Reg.TICK.STATUS.STEP_PEND 1
    if s.lock = 2 then s5.enterHoldover else s5
  else s3.wr Reg.TICK.STATUS.STEP_PEND 0

/-- The tick's own part of a boundary: the strobe, staged writes, the syncs and markers of the tick just ended, the edge against
the active entry, FREE left for ACQUIRING where an entry is valid (R31), and the cadences' frame starts. -/
def State.tickPart (e : Edge) (s : State) : State :=
  let s1 := s.advance.stagedCfg
  let s2 : State := { s1 with tick := { s1.tick with mclkRun := if e.mclkOk then s1.tick.mclkRun + 1 else 0 } }
  let s3 := (List.range 6).foldl State.markerIn ([0, 1].foldl (State.syncIn e.syncs) s2)
  let s4 := (s3.tick.sel.entries.filter (fun x => x.src != 0)).eraseDups.foldl State.countValid s3
  let a := (s4.activeEntry.map s4.entry).filter s4.entryValid
  let s5 := s4.judgeEdge a
  (if s5.lock = 0 ∧ a.isSome then s5.setLock 1 else s5).setStarts

/-! ## The tick tree (R44, R45) -/

/-- The tick bits that a tap holds: the low 16 bits of the tick number, or what a tap out of line received. -/
def State.tapBits (s : State) (t : Tap) : Nat := ((s.tick.taps.find? (fun x => x.1 == t)).map (·.2)).getD (s.now % 65536)

/-- Does a tap's check fail at the TICK that begins the running tick: S SLOT strobes since the last TICK, the bits advanced by one, and
parity (R45)? A tap out of line is realigned at this TICK instead. -/
def State.tapFails (s : State) (x : TapRx) : Bool :=
  !s.tick.taps.any (fun y => y.1 == x.tap) && (x.strobes != s.slots || x.bits != s.now % 65536 || !x.parity)

/-- A tap check fails: TREE_FAULT, counted, and every contract that uses the block is HELD for the tick (R45). -/
def State.treeFault (s : State) (t : Tap) : State :=
  let s1 := (s.evt Reg.TICK.EVENT.TREE_FAULT).bump Reg.TICK.EVENT_CNT.TREE_FAULT_CNT
  s1.holdAll (s1.liveWhere (fun c => s1.usesTap c t)) .tap (some (s1.now + 1))

/-- The taps' part of a boundary: those out of line are realigned, those whose check fails hold what they received until the next
TICK (R45). -/
def State.tapPart (e : Edge) (s : State) : State :=
  let bad := e.taps.filter s.tapFails
  let s1 : State := { s with tick := { s.tick with taps := bad.map (fun x => (x.tap, x.bits)) } }
  (bad.map (·.tap)).foldl State.treeFault s1

/-! ## Applying a selection (R43, R48) -/

/-- Write cadence `c` at a rate code, or disable it with 0xFF (R20, R21, R48). -/
def State.setCadence (s : State) (c code : Nat) : State :=
  if code = 0xFF then ((s.wr (Reg.TICK.CAD_CFG.RATE c) 0).wr (Reg.TICK.CAD_CFG.EN c) 0).wr (Reg.TICK.CAD_CFG.MAX_PER_TICK c) 0
  else ((s.wr (Reg.TICK.CAD_CFG.RATE c) code).wr (Reg.TICK.CAD_CFG.EN c) 1).wr (Reg.TICK.CAD_CFG.MAX_PER_TICK c)
    (maxPerTick s.rate code)

/-- The ledger writes the targets of DP00–DP19 and DP21 when the tick rate is set: the slot length rounded down to 10 ns
(R329). -/
def State.setTargets (s : State) : State :=
  let t := rateD s.rate * 1000000000 / (rateN s.rate * s.slots) / 10
  ((List.range 20) ++ [21]).foldl (fun x p => x.wr (Reg.MC.PORT_TGT.TARGET p) t) s

/-- A change of the master rate re-phases the tick onto the new grid (R48) re-derives MAX_PER_TICK (R21) and sets the port targets
(R329). -/
def State.setRate (s : State) (r : Nat) : State :=
  if r = s.rate then s
  else
    let n := rephase s.rate r s.now
    let edge := (s.tick.edge - (s.now * rateD s.rate * 1000000000 : Nat)) * rateN r / (rateN s.rate : Int) + (n * rateD r * 1000000000 : Nat)
    let s0 := s.setNum n
    let s1 := State.wr { s0 with tick := { s0.tick with edge := edge } } Reg.TICK.STATUS.RATE r
    let s2 := s1.wr (Reg.TICK.CAD_CFG.RATE 0) r
    let s3 := if s2.domOn 4 then s2.setTargets else s2
    (List.range 7).foldl (fun s c =>
      if s.isSet (Reg.TICK.CAD_CFG.EN (c + 1)) then
        s.wr (Reg.TICK.CAD_CFG.MAX_PER_TICK (c + 1)) (maxPerTick r (s.rd (Reg.TICK.CAD_CFG.RATE (c + 1))))
      else s) s3

/-- Show an entry in TICK.REF_ENTRYi. -/
def State.showEntry (s : State) (i : Nat) (e : RefEntry) : State :=
  ((s.wr (Reg.TICK.REF_ENTRY.SRC i) e.src).wr (Reg.TICK.REF_ENTRY.DOMAIN i) e.dom).wr (Reg.TICK.REF_ENTRY.INDEX i) e.index

/-- Apply a selection at its boundary: rate, SET_TICK, cadences, then the entries; the source in use stays active at
its new position if the new list names it, and otherwise counts as lost; with no valid entry the tick is FREE
(R31, R36, R40, R43, R48). -/
def State.install (s : State) (sel : RefSel) : State :=
  let old := s.activeEntry.map (fun i => s.entry i)
  let s := s.setRate sel.rate
  let s := if sel.setTick then
      let s := (s.setNum sel.tickInit).wr Reg.TICK.STATUS.TIME_VALID 1
      let s := (s.wr Reg.TICK.STATUS.STEP_PEND 0).noStep
      let s := if s.mode = 4 then s.holdForStep else s
      s.evt Reg.TICK.EVENT.STEP_DONE
    else s
  let s := if sel.cadences then
      ((List.range 7).zip sel.cads).foldl (fun s c => s.setCadence (c.1 + 1) c.2) s
    else s
  let s : State := { s with tick := { s.tick with sel := sel, pend := none } }
  let s := ((List.range 4).zip sel.entries).foldl (fun s e => s.showEntry e.1 e.2) s
  let s := ((s.wr Reg.TICK.STATUS.SEL_PEND 0).evt Reg.TICK.EVENT.SEL_APPLIED).setStarts
  if s.bestEntry.isNone then (s.setLock 0).noEntry
  else match old with
    | none => s.refAvailable
    | some e =>
      match sel.entries.findIdx? (fun x => x == e) with
      | some i => if s.entryValid e then s.wr Reg.TICK.STATUS.ACTIVE_ENTRY i else s.loseActive
      | none => s.loseActive

/-! ## REF_SELECT and TICK_STATUS (R48, R49) -/

/-- The entry at byte `k` of REF_SELECT's parameters. -/
def parseEntry (p : List Byte) (k : Nat) : RefEntry := ⟨u8 p k, u8 p (k + 1), u16 p (k + 2)⟩

/-- REF_SELECT's parameters as a selection (R48). -/
def parseRefSel (p : List Byte) : RefSel where
  rate := u8 p 0
  stepOk := bit (u8 p 1) 0
  setTick := bit (u8 p 1) 1
  cadences := bit (u8 p 1) 2
  revert := bit (u8 p 1) 3
  timeEntry := u8 p 2
  entries := [parseEntry p 4, parseEntry p 8, parseEntry p 12, parseEntry p 16]
  tickInit := u64 p 20
  cads := (List.range 7).map (fun i => u8 p (29 + i))

/-- Is an entry malformed: unknown source, a bad INDEX, or DOMAIN or INDEX non-zero where unused (R48)? -/
def badEntry (e : RefEntry) : Bool :=
  decide (5 < e.src) ||
  (match e.src with
   | 1 => decide (127 < e.dom) || decide (99 < e.index)
   | 4 => e.dom != 0 || decide (5 < e.index)
   | _ => e.dom != 0 || e.index != 0)

/-- Does an entry name a port of an absent lane (R3, R48)? -/
def State.entryAbsent (s : State) (e : RefEntry) : Bool := e.src = 1 && decide (e.index ≤ 99) && !s.portPresent e.index

/-- Does an entry name a port, or a link by its lanes, that is powered down (R5, R48)? -/
def State.entryOff (s : State) (e : RefEntry) : Bool :=
  (e.src = 1 && decide (e.index ≤ 99) && !s.portOn e.index) ||
  (e.src = 4 && (s.link e.index).lanes.any (fun l => !s.domOn (laneDom l)))

/-- Contracts not RELEASED that use a cadence (TICK.CAD_CFG.USERS). -/
def State.cadUsers (s : State) (c : Nat) : Nat := (s.liveWhere (fun k => k.d.cadence == c)).length

/-- Would a selection change or disable a cadence in use (R22)? -/
def State.cadenceInUse (s : State) (sel : RefSel) : Bool :=
  sel.cadences && ((List.range 7).zip sel.cads).any (fun c =>
    s.cadUsers (c.1 + 1) != 0 &&
    (c.2 == 0xFF || c.2 != s.rd (Reg.TICK.CAD_CFG.RATE (c.1 + 1)) || !s.isSet (Reg.TICK.CAD_CFG.EN (c.1 + 1))))

/-- An analog entry whose present reference does not fit the rate (R25). -/
def State.analogBad (s : State) (rate : Nat) (e : RefEntry) : Bool :=
  (e.src = 2 && s.isSet (Reg.TICK.REF_STATUS.PRESENT 0) && !compatible rate (s.rd (Reg.TICK.REF_STATUS.FRATE 0))) ||
  (e.src = 3 && s.isSet (Reg.TICK.REF_STATUS.PRESENT 1) && !compatible rate (s.rd (Reg.TICK.REF_STATUS.FRATE 1)))

/-- Are a selection's parameters malformed (R48)? -/
def refSelBad (s : State) (p : List Byte) (sel : RefSel) : Bool :=
  (rateOf sel.rate).isNone || decide (15 < u8 p 1) || u8 p 3 != 0 || u8 p 28 != 0 || !zeroFrom p 36 ||
  sel.entries.any badEntry || sel.entries.any (s.analogBad sel.rate) ||
  (sel.timeEntry != 0xFF && (decide (3 < sel.timeEntry) ||
    !((sel.entries.getD sel.timeEntry {}).src == 1 || (sel.entries.getD sel.timeEntry {}).src == 4))) ||
  (sel.cadences && sel.cads.any (fun c => c != 0xFF && (rateOf c).isNone))

/-- The body of REF_SELECT (R48). Accepted, it waits for the first boundary at least one slot ahead (R43). -/
def cmdRefSelect (p : List Byte) (_floor : Nat) (s : State) : Ans :=
  let sel := parseRefSel p
  let eff := s.now + (if s.slot + 1 < s.slots then 1 else 2)
  Ans.check s
    [(s.isSet Reg.TICK.STATUS.SEL_PEND, Sts.busy),
     (sel.entries.any s.entryAbsent, Sts.unitAbsent),
     (sel.entries.any s.entryOff, Sts.domainOff),
     (refSelBad s p sel, Sts.badParam),
     (s.cadenceInUse sel, Sts.badState),
     (sel.rate != s.rate && !s.live.isEmpty, Sts.badState),
     (sel.setTick && s.mode = 4 && !sel.stepOk, Sts.badState)]
    (let s1 : State := { s.wr Reg.TICK.STATUS.SEL_PEND 1 with tick := { s.tick with pend := some (eff, sel) } }
     Ans.say s1 Sts.ok eff
       ([BitVec.ofNat 8 s.lock, BitVec.ofNat 8 ((s.activeEntry).getD 0xFF), 0, 0] ++
         toLe 4 (s.rd Reg.TICK.PHASE_ERR.ERR)))

/-- REF_SELECT (R48). -/
def execRefSelect (h : Hdr) (p : List Byte) (s : State) : Res := .next (command 0x0405 h p (cmdRefSelect p) s)

/-- The body of TICK_STATUS (R49). -/
def cmdTickStatus (p : List Byte) (_floor : Nat) (s : State) : Ans :=
  Ans.check s [(noParams p, Sts.badParam)]
    (Ans.say s Sts.ok 0 (toLe 8 s.now ++ toLe 2 s.slot ++
      [BitVec.ofNat 8 s.lock, BitVec.ofNat 8 (s.rd Reg.TICK.STATUS.SRC)] ++ toLe 4 (s.rd Reg.TICK.PHASE_ERR.ERR)))

/-- TICK_STATUS (R49). -/
def execTickStatus (h : Hdr) (p : List Byte) (s : State) : Res := .next (command 0x0406 h p (cmdTickStatus p) s)

/-! ## Register read, references and lock (R19, R23–R33) -/

/-- A read of TICK.NUM_LO, `ns` nanoseconds into the slot: NUM_HI and SNAP are captured at the same instant (R19). -/
def execTickNumLoRead (ns : Nat) (s : State) : Res :=
  .next ((((s.wr Reg.TICK.NUM_LO.NUM_LO s.now).wr Reg.TICK.NUM_HI.NUM_HI (s.now / 2 ^ 32)).wr Reg.TICK.SNAP.SLOT s.slot).wr
    Reg.TICK.SNAP.NS (min ns 65535))

/-- Is PTP run on a port: an entry of the selection in force names it, with this domain (R23)? -/
def State.ptpOn (s : State) (port dom : Nat) : Bool :=
  s.mode != 0 && s.ethPort port && s.tick.sel.entries.any (fun e => e.src == 1 && e.index == port && e.dom == dom)

/-- A PTP time is known for a source: the offset of the device from it (R23). A source in range may become valid. -/
def State.ptpMeasured (s : State) (port dom : Nat) (r : RefState) (origin rx : Nat) : State :=
  let d : Int := (rx : Int) - origin - r.pathNs
  (s.setRef 1 dom port { r with alive := true, waitFollow := none, originNs := origin, rxNs := rx, offset := d }).refAvailable

/-- A PTP Sync of the selected master (R23): one-step gives the offset at once, two-step waits for its Follow_Up. A
Delay_Req goes out in answer (end-to-end). -/
def execPtpSyncReceive (port : Nat) (m : PtpMsg) (s : State) : Res :=
  let r := s.ref 1 m.domain port
  if !s.ptpOn port m.domain || r.master != some m.sender || decide (m.logInt < -7) || decide (-1 < m.logInt) then .next s
  else
    let r1 : RefState := { r with logSync := m.logInt, delayReq := some (m.seq, m.rx), rxNs := m.rx, waitFollow := if m.twoStep then some m.seq else none }
    let s1 := (s.emit (.portMsg port 4 m.seq)).ranged 1 m.domain port r1 m.ppb
    if m.twoStep then .next s1 else .next (s1.ptpMeasured port m.domain (s1.ref 1 m.domain port) m.origin m.rx)

/-- The Follow_Up of the two-step Sync that waits for it carries the precise origin time (R23). -/
def execPtpFollowUpReceive (port : Nat) (m : PtpFrom) (origin : Nat) (s : State) : Res :=
  let r := s.ref 1 m.domain port
  if r.master = some m.sender ∧ r.waitFollow = some m.seq then .next (s.ptpMeasured port m.domain r origin r.rxNs) else .next s

/-- The Delay_Resp to the Delay_Req sent: the mean path delay is ((t2 − t1) + (t4 − t3)) ÷ 2 (R23). -/
def execPtpDelayRespReceive (port : Nat) (m : PtpFrom) (rx : Nat) (s : State) : Res :=
  let r := s.ref 1 m.domain port
  match r.delayReq with
  | some (q, tx) =>
    if q = m.seq ∧ r.master = some m.sender then
      .next (s.setRef 1 m.domain port
        { r with delayReq := none, pathNs := ((((r.rxNs : Int) - r.originNs) + ((rx : Int) - tx)) / 2).toNat })
    else .next s
  | none => .next s

/-- Is one master's data set better: lexicographic order of the default best master clock algorithm's keys (R23)? -/
def betterMaster : List Nat → List Nat → Bool
  | [], _ => false
  | _, [] => false
  | a :: as, b :: bs => if a < b then true else if b < a then false else betterMaster as bs

/-- The best of the masters announced on a port (R23). -/
def bestMaster (l : SMap (List Nat)) : Option Nat :=
  (l.foldl (fun (b : Option (Nat × List Nat)) x => match b with
    | none => some x
    | some y => if betterMaster x.2 y.2 then some x else some y) none).map (·.1)

/-- A PTP Announce: its sender's data set is kept in place of an earlier one, and the best master announced is selected (R23); the
announce receipt timeout counts from the selected master's (R24). -/
def execPtpAnnounceReceive (port domain : Nat) (m : PtpAnn) (s : State) : Res :=
  let r := s.ref 1 domain port
  if !s.ptpOn port domain || decide (m.logInt < -3) || decide (1 < m.logInt) then .next s
  else
    let l := SMap.insert m.sender m.quality r.masters
    let best := bestMaster l
    let r1 : RefState := { r with masters := l, master := best }
    let r2 : RefState := if best = some m.sender then { r1 with logAnn := m.logInt, annRx := m.rx } else r1
    .next (s.setRef 1 domain port (if best = r.master then r2 else { r2 with waitFollow := none, delayReq := none }))

/-- 2 to a log interval, in ns. -/
def logNs (k : Int) : Nat := if 0 ≤ k then 1000000000 * 2 ^ k.toNat else 1000000000 / 2 ^ (-k).toNat

/-- Has no Sync come for 4 sync intervals, or no Announce for 3 announce intervals, at the running tick's start (R24)? -/
def State.ptpSilent (s : State) (r : RefState) : Bool :=
  decide ((r.rxNs : Int) + 4 * logNs r.logSync ≤ s.edgeNs) || decide ((r.annRx : Int) + 3 * logNs r.logAnn ≤ s.edgeNs)

/-- The PTP reference on a port is lost at a boundary (R24): it stops counting as valid, and if it is active the lock
state passes to HOLDOVER (R41). -/
def execPtpReferenceLost (at_ : SourceAt) (s : State) : Res :=
  let r := s.ref 1 at_.domain at_.index
  if r.alive ∧ s.ptpSilent r then
    .next ((s.setRef 1 at_.domain at_.index { r with
      alive := false, master := none, masters := [], waitFollow := none, validRun := 0 }).sourceGone 1 at_.domain at_.index)
  else .next s

/-- LOSS_TICKS (R26). -/
def State.lossTicks (s : State) : Nat := s.rd Reg.TICK.HOLD_CFG.LOSS_TICKS

/-- An analog reference without a frame sync for LOSS_TICKS ticks is lost: PRESENT clears, LOSS_CNT advances (R26, R41).
Input 0 is REFA_IN, 1 REFB_IN. -/
def execAnalogReferenceLost (i : Nat) (s : State) : Res :=
  if i < 2 ∧ s.isSet (Reg.TICK.REF_STATUS.PRESENT i) ∧ s.lossTicks ≤ (s.ref (2 + i) 0 0).miss then
    let s1 := ((s.wr (Reg.TICK.REF_STATUS.PRESENT i) 0).wr (Reg.TICK.REF_STATUS.FMT i) 0).bump (Reg.TICK.REF_STATUS.LOSS_CNT i)
    .next ((s1.setRef (2 + i) 0 0 {}).sourceGone (2 + i) 0 0)
  else .next s

/-- A Dolmet reference without a marker for LOSS_TICKS ticks, or whose link left the trained state, is lost (R26, R41). -/
def execDolmetReferenceLost (k : Nat) (s : State) : Res :=
  let r := s.ref 4 0 k
  if r.alive ∧ (s.lossTicks ≤ r.miss ∨ ¬ s.linkUp k) then
    .next ((s.setRef 4 0 k { r with alive := false, fresh := false, miss := 0, validRun := 0 }).sourceGone 4 0 k)
  else .next s

/-- Valid sync appears on an analog input, or changes format: format and rate are shown; a reference that does not
fit the rate counts as absent (R25, R41). -/
def execAnalogSyncAppear (i fmt frate : Nat) (s : State) : Res :=
  if i < 2 then
    let s1 := ((s.wr (Reg.TICK.REF_STATUS.PRESENT i) 1).wr (Reg.TICK.REF_STATUS.FMT i) fmt).wr (Reg.TICK.REF_STATUS.FRATE i) frate
    let s2 := s1.setRef (2 + i) 0 0 { s1.ref (2 + i) 0 0 with alive := true, inRange := true, miss := 0, anchor := none }
    if s2.isActive (2 + i) 0 0 && !compatible s2.rate frate then .next s2.loseActive else .next s2.refAvailable
  else .next s

/-- A reference beyond ±50 ppm: OUT_OF_RANGE, and it counts as absent (R30). -/
def execReferenceOutOfRange (src : Nat) (at_ : SourceAt) (s : State) : Res :=
  if src = 1 ∨ src = 2 ∨ src = 3 ∨ src = 4 then
    let r := s.ref src at_.domain at_.index
    .next (((s.setRef src at_.domain at_.index { r with inRange := false, validRun := 0 }).evt Reg.TICK.EVENT.OUT_OF_RANGE).sourceGone
      src at_.domain at_.index)
  else .next s

/-- The acquisition condition is met: within LOCK_WINDOW for LOCK_COUNT ticks on the active entry, ACQUIRING or
HOLDOVER becomes LOCKED (R29, R31, R32); not while a step is pending in Flight (R35). -/
def execAcquisitionCountMet (s : State) : Res :=
  if (s.lock = 1 ∨ s.lock = 3) ∧ s.activeEntry.isSome ∧ s.rd Reg.TICK.LOCK_CFG.LOCK_COUNT ≤ s.tick.run ∧
      ¬ s.isSet Reg.TICK.STATUS.STEP_PEND then
    .next ((s.setLock 2).evt Reg.TICK.EVENT.LOCKED)
  else .next s

/-- With REVERT a higher-priority entry that has been valid for LOCK_COUNT ticks becomes active again (R41, R42). -/
def execRevertToEntry (a e : Nat) (s : State) : Res :=
  if s.tick.sel.revert ∧ s.activeEntry = some a ∧ e < a ∧ s.entryValid (s.entry e) ∧
      s.rd Reg.TICK.LOCK_CFG.LOCK_COUNT ≤ (s.refOf (s.entry e)).validRun then
    .next (s.replaceBy e)
  else .next s

/-- HOLDOVER_LIMIT seconds have elapsed since the entry to HOLDOVER, at a tick boundary: FREE with HOLDOVER_EXPIRED (R33). The mode and
active contracts stay. -/
def execHoldoverLimitExpiry (s : State) : Res :=
  if s.lock = 3 ∧ s.rd Reg.TICK.HOLD_CFG.HOLDOVER_LIMIT ≠ 0 ∧
      s.tick.holding.any (fun t => decide (t + s.rd Reg.TICK.HOLD_CFG.HOLDOVER_LIMIT * 1000000000 ≤ s.edgeNs)) then
    .next ((s.setLock 0).evt Reg.TICK.EVENT.HOLDOVER_EXPIRED)
  else .next s

/-- An accepted REF_SELECT applies at its boundary (R43). -/
def execRefSelectApply (s : State) : Res :=
  match s.tick.pend with
  | some (eff, sel) => if eff ≤ s.now then .next (s.install sel) else .next s
  | none => .next s

/-- A pending step applies: in Flight with the permission of the selection in force, outside Flight at the boundary after the
one that found it (R35, R36). The edge moves onto the reference, a tick-number difference is taken over, ACTIVE contracts are
HELD for the tick in Flight, and STEP_DONE is raised. -/
def execStepApply (s : State) : Res :=
  if s.tick.stepFrom.any (fun t => s.tick.sel.stepOk && s.mode == 4 || s.mode != 4 && decide (t < s.now)) then
    let n := (s.now : Int) + s.tick.stepNum
    let s1 := if s.tick.stepNum ≠ 0 then (s.setNum n.toNat).wr Reg.TICK.STATUS.TIME_VALID 1 else s
    let s2 := (s1.wr Reg.TICK.STATUS.STEP_PEND 0).wr Reg.TICK.STATUS.SLEWING 0
    let s3 := State.noStep { s2 with tick := { s2.tick with edge := s2.tick.edge - s2.tick.stepNs * rateN s.rate, corr := 0 } }
    let s4 := if s3.mode = 4 then s3.holdForStep else s3
    .next (s4.setStarts.evt Reg.TICK.EVENT.STEP_DONE)
  else .next s

end Sys2Proof.Machine
end

