-- ==== Sys2Proof/Machine/Ledger.lean ====
section
/-! DEFINITION. The ledger's arithmetic (02_ledger.md): contract and cost descriptors (R85, R86, R568, R570),
capacities, maintenance and limits (R57–R61), demand (R63, R64, R145, R157, R170, R571), bounds (R68) and the search
for the first failing resource (R66, R67). -/

namespace Sys2Proof.Machine

/-! ## Descriptors -/

/-- The endpoint entry at byte `k` of a contract descriptor (R85). -/
def parseEnd (p : List Byte) (k : Nat) : EndPt :=
  ⟨u8 p k % 128, bit (u8 p k) 7, u16 p (k + 2), u32 p (k + 4), u32 p (k + 8), u32 p (k + 12)⟩

/-- The stage entry at byte `k` of a contract descriptor (R85). -/
def parseStage (p : List Byte) (k : Nat) : Stage := ⟨u8 p k, u8 p (k + 1), u16 p (k + 2), u32 p (k + 4), u32 p (k + 8)⟩

/-- The bytes a descriptor's counts call for (R85). -/
def descLen (p : List Byte) : Nat := 32 + 16 * (u8 p 5 + u8 p 6 + u8 p 7)

/-- A contract descriptor's fields (R85). -/
def parseDesc (p : List Byte) : CDesc where
  typ := u8 p 0
  cls := u8 p 1
  subst := u8 p 2
  switchable := bit (u8 p 3) 0
  preset := bit (u8 p 3) 1
  xdev := bit (u8 p 3) 2
  cadence := u8 p 4
  boundReq := u32 p 8
  xferRate := u32 p 12
  parent := u32 p 16
  actLimit := u32 p 20
  srcs := (List.range (u8 p 5)).map (fun i => parseEnd p (32 + 16 * i))
  dsts := (List.range (u8 p 6)).map (fun i => parseEnd p (32 + 16 * (u8 p 5 + i)))
  stages := (List.range (u8 p 7)).map (fun i => parseStage p (32 + 16 * (u8 p 5 + u8 p 6 + i)))

/-- A cost descriptor, by DESC_ID (R86). -/
def State.cost (s : State) (i : Nat) : CostDesc := SMap.get (fun _ => ({} : CostDesc)) s.led.costs i

/-- Is a DESC_ID registered? A registered descriptor has at least one entry (R86). -/
def State.costKnown (s : State) (i : Nat) : Bool := !(s.cost i).ents.isEmpty

/-- The entry at byte `k` of a cost descriptor (R86). -/
def parseCostEnt (p : List Byte) (k : Nat) : CostEnt :=
  ⟨u8 p k, u8 p (k + 1), u8 p (k + 2), u32 p (k + 4), u16 p (k + 8), u16 p (k + 10)⟩

/-- A cost descriptor's fields (R86). -/
def parseCost (p : List Byte) : CostDesc where
  latency := u32 p 12
  tiles := u64 p 16
  ents := (List.range (u16 p 6)).map (fun i => parseCostEnt p (32 + 16 * i))

/-- A count resource: FLOW_IN, FLOW_EG, CHRY (R56). -/
def countRes (r : Nat) : Bool := r == 7 || r == 8 || r == 10

/-- Is a cost descriptor malformed: bad magic, format, count, length or entry, a VARIANTS mask without this variant,
or a reserved field not zero (R86, R92, R568)? -/
def State.costBad (s : State) (p : List Byte) : Bool :=
  p.length < 32 || u32 p 0 != 0x5344435A || u16 p 4 != 1 || u16 p 6 == 0 || decide (512 < u16 p 6) ||
  p.length != 32 + 16 * u16 p 6 || decide (7 < u8 p 8) || !bit (u8 p 8) (s.ident.variant - 1) ||
  !zeroAt p 9 3 || !zeroAt p 24 8 ||
  (List.range (u16 p 6)).any (fun i =>
    let k := 32 + 16 * i
    let e := parseCostEnt p k
    e.res == 0 || decide (11 < e.res) || decide (3 < e.kind) || (countRes e.res != (e.kind == 3)) ||
    u8 p (k + 3) != 0 || !zeroAt p (k + 12) 4 ||
    (if e.kind = 0 then decide (e.last < e.first) || decide (s.slots ≤ e.last) else e.first != 0 || e.last != 0))

/-- Does an endpoint entry break R85, R144, R299 or R568? `i` is its position; `src` marks a source entry. -/
def State.endBad (s : State) (d : CDesc) (p : List Byte) (k : Nat) (src : Bool) (i : Nat) : Bool :=
  let e := parseEnd p k
  e.kind == 0 || decide (5 < e.kind) || (e.backup && (!src || i == 0)) || u8 p (k + 1) != 0 ||
  decide (16384 < e.dev) || (e.phase != 0xFFFFFFFF && decide (s.slots ≤ e.phase)) ||
  (d.typ == 5 && !src && e.kind != 3 && e.kind != 5) ||
  (if d.typ = 5 then e.format != 0 && !fmtOk e.format else !fmtOk e.format) ||
  (e.backup && (d.srcs.getD (i - 1) {}).format != e.format) ||
  (s.isLocal e.dev && e.kind == 2 &&
    (decide (1023 < e.index) || !(s.flow (if src then e.index else 1024 + e.index)).used ||
      (s.flow (if src then e.index else 1024 + e.index)).format != e.format)) ||
  (s.isLocal e.dev && e.kind == 4 && decide (63 < e.index))

/-- Does a stage entry break R85, R289, R568 or R570? -/
def State.stageBad (s : State) (d : CDesc) (p : List Byte) (k : Nat) : Bool :=
  let g := parseStage p k
  let c := s.cost g.desc
  g.kind == 0 || decide (3 < g.kind) || (g.cluster != 0xFF && decide (7 < g.cluster)) || !zeroAt p (k + 12) 4 ||
  (g.lineFmt != 0 && !fmtOk g.lineFmt) ||
  (if g.kind = 3 then g.desc != 0 || g.cluster != 0xFF
   else g.param != 0 || !s.costKnown g.desc ||
    (c.ents.any (fun e => e.kind == 1) &&
      !(if g.lineFmt = 0 then d.srcs.any (fun e => fmtHasRaster e.format) else fmtHasRaster g.lineFmt)) ||
    (g.kind == 2 && (g.cluster != 0xFF || c.tiles == 0 || c.latency == 0 ||
      (List.range 64).any (fun t => bit c.tiles t && decide (s.nTiles ≤ t)) ||
      c.ents.any (fun e => (e.res == 3 || e.res == 4 || e.res == 6) && e.inst == 0xFF))))

/-- Does a descriptor break R85, R568, R570 or R571 with BAD_PARAM? `part`: on a path device, whose part has no stages (R80). -/
def State.descBad (s : State) (p : List Byte) (part : Bool) : Bool :=
  let d := parseDesc p
  let remote := d.srcs.any (fun e => !s.isLocal e.dev) || d.dsts.any (fun e => !s.isLocal e.dev)
  decide (p.length < 32) || decide (1824 < p.length) || p.length != descLen p || d.typ == 0 || decide (5 < d.typ) ||
  decide (2 < d.cls) || decide (3 < d.subst) || decide (7 < u8 p 3) || decide (7 < d.cadence) ||
  (if d.typ = 5 then u8 p 5 != 0 else u8 p 5 == 0) || decide (64 < u8 p 5) || u8 p 6 == 0 || decide (16 < u8 p 6) ||
  decide (32 < u8 p 7) || !zeroAt p 24 8 || ((d.typ == 5) != (d.xferRate != 0)) || (d.switchable && d.preset) ||
  (d.subst == 2 && !d.srcs.any (fun e => e.backup)) || (remote != d.xdev) ||
  (List.range (u8 p 5)).any (fun i => s.endBad d p (32 + 16 * i) true i) ||
  (List.range (u8 p 6)).any (fun i => s.endBad d p (32 + 16 * (u8 p 5 + i)) false i) ||
  (!part && (List.range (u8 p 7)).any (fun i => s.stageBad d p (32 + 16 * (u8 p 5 + u8 p 6 + i))))

/-- Does an endpoint name an absent unit (R3, R66)? -/
def State.endAbsent (s : State) (e : EndPt) (src : Bool) : Bool :=
  s.isLocal e.dev &&
  ((e.kind == 1 && !s.portPresent e.index) || (e.kind == 4 && decide (e.index < 64) && decide (s.nFports ≤ e.index)) ||
   (e.kind == 2 && decide (e.index < 1024) &&
    (s.flow (if src then e.index else 1024 + e.index)).ports.any (fun p => !s.portPresent p)))

/-- Does an endpoint name a powered-down unit (R5, R130)? Every local one needs PD03, a DRAM buffer PD04. -/
def State.endOff (s : State) (e : EndPt) (src : Bool) : Bool :=
  s.isLocal e.dev &&
  (!s.domOn 3 || (e.kind == 1 && !s.portOn e.index) || (e.kind == 3 && !s.domOn 4) ||
   (e.kind == 2 && (s.flow (if src then e.index else 1024 + e.index)).ports.any (fun p => !s.portOn p)))

/-- Does a descriptor name an absent unit? -/
def State.descAbsent (s : State) (d : CDesc) : Bool :=
  d.srcs.any (fun e => s.endAbsent e true) || d.dsts.any (fun e => s.endAbsent e false) ||
  d.stages.any (fun g => g.kind == 1 && decide (g.cluster < 8) && decide (s.nClusters ≤ g.cluster))

/-- The clusters that are ON. -/
def State.clustersOn (s : State) : List Nat := (List.range s.nClusters).filter (fun c => s.domOn (5 + c))

/-- Does a descriptor name a powered-down unit (R5, R66, R289)? -/
def State.descOff (s : State) (d : CDesc) : Bool :=
  d.srcs.any (fun e => s.endOff e true) || d.dsts.any (fun e => s.endOff e false) ||
  d.stages.any (fun g =>
    (g.kind == 1 && (if g.cluster < 8 then !s.domOn (5 + g.cluster) else s.clustersOn.isEmpty)) ||
    (g.kind == 3 && !s.domOn 4) ||
    (g.kind == 2 && (List.range s.nTiles).any (fun t => bit (s.cost g.desc).tiles t && !s.domOn (13 + t / 4))))

/-- First byte of the configuration store, the highest 512 MiB of installed DRAM (R299). -/
def State.dramSize (s : State) : Nat := (List.range s.nMcs).foldl (fun a m => a + s.rd (Reg.MC.ORG.SIZE_GIB m)) 0 * 2 ^ 30
def State.storeBase (s : State) : Nat := s.dramSize - 2 ^ 29

/-- Does a contract write into the configuration store (R299)? -/
def State.writesStore (s : State) (d : CDesc) : Bool :=
  d.dsts.any (fun e => s.isLocal e.dev && e.kind == 3 && decide (s.storeBase ≤ Config.dramPlace 4 e.index))

/-- The protection-map region of a DRAM address, where an enabled one holds it (R353). -/
def State.regionAt (s : State) (a : Nat) : Option Nat :=
  (List.range 64).find? (fun r =>
    s.isSet (Reg.PMAP.REG_LO.EN r) && decide (s.rd (Reg.PMAP.REG_LO.BASE r) * 2 ^ 24 ≤ a) &&
    decide (a < (s.rd (Reg.PMAP.REG_LO.BASE r) + s.rd (Reg.PMAP.REG_HI.SIZE r)) * 2 ^ 24))

/-! ## Capacities and limits (R57–R61) -/

/-- What a limit depends on besides the state: posture, power cap in mW, each cluster's operating point. -/
structure LEnv where
  post : Nat
  cap  : Nat
  op   : Nat → Nat

/-- A cluster's operating point for the ledger: the lower one while a change is pending (R463, R78). -/
def State.opLow (s : State) (c : Nat) : Nat :=
  if s.isSet (Reg.PWR.CLU.PEND c) then min (s.rd (Reg.PWR.CLU.OP c)) (s.rd (Reg.PWR.CLU.TARGET c))
  else s.rd (Reg.PWR.CLU.OP c)

/-- The posture in force (LEDGER.STATUS.POSTURE). -/
def State.posture (s : State) : Nat := s.rd Reg.LEDGER.STATUS.POSTURE

def State.envNow (s : State) : LEnv := ⟨s.posture, s.led.capMw, s.opLow⟩

/-- Cluster frequency in MHz of an operating point (R199). -/
def opMhz : Nat → Nat
  | 0 => 600 | 1 => 750 | 2 => 900 | _ => 1000

/-- Posture reserve in percent (R61). -/
def reserveOf : Nat → Nat
  | 0 => 25 | 1 => 8 | _ => 15

/-- Lanes and lane rate of a Dolmet link (DOLMET.LINK_STATUS). -/
def State.linkLanes (s : State) (k : Nat) : Nat := match s.rd (Reg.DOLMET.LINK_STATUS.LANES k) with | 0 => 1 | 1 => 2 | _ => 4
def State.linkBits (s : State) (k : Nat) : Nat :=
  match s.rd (Reg.DOLMET.LINK_STATUS.RATE k) with | 0 => 10312500000 | 1 => 25781250000 | _ => 32000000000

/-- Rate R of an instance in units per second, as a fraction (R58, R431). A quad-link SDI port has one link's rate (DESIGN CHOICE,
notes/assumptions/93.md). -/
def State.rateRes (s : State) (op : Nat → Nat) (res inst : Nat) : Nat × Nat :=
  match res with
  | 1 | 2 => (32 * opMhz (op inst) * 1000000, 1)
  | 3 => (64 * min (s.rd (Reg.FAB.FPORT_CFG.CLK_KHZ inst)) 800000 * 1000, 1)
  | 4 => match s.rd (Reg.MC.STATUS.DIMMS 0), s.rd (Reg.MC.STATUS.SPEED 0) with
    | 2, _ => (24960000000, 1)
    | 1, 3 => (35750000000, 1)
    | 1, 2 => (31280000000, 1)
    | 1, 1 => (26810000000, 1)
    | _, _ => (0, 1)
  | 5 =>
    if 100 ≤ inst then
      let fec := s.isSet (Reg.DOLMET.LINK_STATUS.FEC (inst - 100))
      (s.linkLanes (inst - 100) * s.linkBits (inst - 100) * 64 * (if fec then 514 else 1), 66 * 8 * (if fec then 528 else 1))
    else match (s.port inst).kind with
      | 1 | 2 => ((sdiRate (s.port inst).txRate).1, 8 * (sdiRate (s.port inst).txRate).2)
      | 3 => (1250000000, 1) | 4 => (3125000000, 1) | 5 => (12500000000, 1) | 6 => (50000000000, 1)
      | _ => (0, 1)
  | 6 => (16000000000, 1)
  | 9 => (if s.ident.variant = 1 then 480000000000 else 160000000000, 1)
  | _ => (0, 1)

/-- Is an instance present (R56)? -/
def State.resPresent (s : State) (res inst : Nat) : Bool :=
  match res with
  | 1 | 2 => decide (inst < s.nClusters)
  | 3 => decide (inst < s.nFports)
  | 4 => decide (inst < s.nMcs)
  | 5 => if 100 ≤ inst then decide (inst < 106) && s.linkUp (inst - 100) else s.portPresent inst
  | 6 => s.xbarPresent inst
  | 7 | 8 | 9 | 10 | 11 => inst == 0
  | _ => false

/-- Capacity of an instance: floor(R × Ts) for a rate resource (R57), the count of a count resource, the power cap. -/
def State.capacity (s : State) (v : LEnv) (res inst : Nat) : Nat :=
  if !s.resPresent res inst then 0
  else match res with
    | 7 | 8 => 1024
    | 10 => 14
    | 11 => v.cap
    | _ =>
      let op := fun c => if v.post = 2 then min (v.op c) 1 else v.op c
      let r := s.rateRes op res inst
      r.1 * rateD s.rate * 9999 / (r.2 * rateN s.rate * 10000 * s.slots)

/-- The point whose power a cluster is charged: a raise's new point from T − 1, a lowering's old point through T (R463). -/
def State.opPower (s : State) (c : Nat) : Nat :=
  let op := s.rd (Reg.PWR.CLU.OP c)
  let up := s.pwr.ops.any (fun x => x.1 == c && decide (x.2 ≤ s.now + 1))
  let op1 := if up then max op (s.rd (Reg.PWR.CLU.TARGET c)) else op
  s.pwr.fall.foldl (fun m x => if x.1 = c then max m x.2.1 else m) op1

/-- Is a domain charged for: powered, being raised, about to be raised in the present tick, or lowered in it (R460)? -/
def State.domCharged (s : State) (d : Nat) : Bool :=
  s.dom d != 0 || s.pwr.ending.contains d ||
  s.pwr.seqs.any (fun q => q.dom == d && q.st != 0 && (q.running || decide (q.tick ≤ s.now)))

/-- Power of the powered domains, the units in them and the maintenance tasks in mW (R59, R460). -/
def State.maintPower (s : State) (v : LEnv) : Nat :=
  (List.range 30).foldl (fun a d =>
    if s.domPresent d && s.domCharged d then
      a + Config.staticMw d + Config.idleMw d (if 5 ≤ d ∧ d ≤ 12 then max (v.op (d - 5)) (s.opPower (d - 5)) else 0)
    else a) Config.maintMw

/-- The maintenance share of an instance in a slot, rounded up where it is no whole number (R59, R431). -/
def State.maint (s : State) (v : LEnv) (res inst slot : Nat) : Nat :=
  match res with
  | 1 => if slot = 0 then 4096 else 0
  | 2 => 64
  | 5 =>
    if 100 ≤ inst then
      128 + (if (s.rd (Reg.DOLMET.LINK_STATUS.ROLE (inst - 100)) = 2 ∨ s.rd (Reg.DOLMET.LINK_STATUS.ROLE (inst - 100)) = 3) ∧
        1 ≤ slot ∧ slot ≤ 9 then 1024 else 0)
    else if s.ethPort inst then 256 else 0
  | 6 => if 184 ≤ inst ∧ inst ≤ 189 then 128 else 0
  | 7 => (List.range 100).countP (fun p => s.tick.sel.entries.any (fun e => e.src == 1 && e.index == p) && s.ethPort p)
  | 9 => ceilDiv (s.capacity v 9 inst) 100
  | 10 => 1
  | 11 => s.maintPower v
  | _ => 0

/-- The maintenance share in hundredths of a unit: SEC's is 1 % of capacity, exactly (R59). -/
def State.maint100 (s : State) (v : LEnv) (res inst slot : Nat) : Nat :=
  if res = 9 then s.capacity v 9 inst else 100 * s.maint v res inst slot

/-- The ledger's limit of an instance in a slot: one floor, at the end (R60). -/
def State.limit (s : State) (v : LEnv) (res inst slot : Nat) : Nat :=
  if countRes res then s.capacity v res inst - s.maint v res inst slot
  else (100 * s.capacity v res inst - s.maint100 v res inst slot) * (100 - reserveOf v.post) / 10000

/-! ## Usage -/

/-- Usage of an instance in a slot by a list of charges (R56, R66). -/
def usedAt (cs : List Charge) (res inst slot : Nat) : Nat :=
  cs.foldl (fun a c => if c.res = res ∧ c.inst = inst ∧ c.first ≤ slot ∧ slot ≤ c.last then a + c.amt else a) 0

/-- Insert a number into a rising list, dropping repeats. -/
def insNat (n : Nat) : List Nat → List Nat
  | [] => [n]
  | x :: xs => if n < x then n :: x :: xs else if n = x then x :: xs else x :: insNat n xs

/-- A rising list without repeats. -/
def sortNat (l : List Nat) : List Nat := l.foldl (fun a n => insNat n a) []

/-- The slots at which usage, demand or maintenance of an instance can change (R59, R63, R431). -/
def stepPoints (slots : Nat) (cs : List Charge) (res inst : Nat) : List Nat :=
  (sortNat ([0, 1, 10] ++ (cs.filter (fun c => c.res == res && c.inst == inst)).flatMap (fun c => [c.first, c.last + 1]))).filter
    (fun p => decide (p < slots))

/-- The charges of the contracts named. -/
def State.chargesOf (s : State) (l : List Nat) : List Charge := l.flatMap (fun i => (s.contract i).charges)

/-- Usage of a count resource outside the contracts: flow entries (R146), tiles the plane holds (R300). -/
def State.heldCount (s : State) (res : Nat) : Nat :=
  match res with
  | 7 => s.flowsUsed false
  | 8 => s.flowsUsed true
  | 10 => s.led.plane.length
  | _ => 0

/-- Tiles that contracts reserve in the chrysalis plane (R300). -/
def State.chryReserved (s : State) : Nat := usedAt (s.chargesOf s.live) 10 0 0

/-- Chrysalis tiles in use: tiles held, tiles reserved, the reload tile (R300). -/
def State.chryUsed (s : State) : Nat := min 14 (s.led.plane.length + s.chryReserved + 1)

/-- The instances a list of charges touches, in ascending resource and instance order. -/
def chargeKeys (cs : List Charge) : List (Nat × Nat) :=
  (sortNat (cs.map (fun c => c.res * 65536 + c.inst))).map (fun k => (k / 65536, k % 65536))

/-- Does a set of charges fit every limit of an environment (R62, R78)? -/
def State.fits (s : State) (v : LEnv) (cs : List Charge) : Bool :=
  (chargeKeys cs).all (fun k =>
    if countRes k.1 then decide (usedAt cs k.1 k.2 0 + s.heldCount k.1 ≤ s.limit v k.1 k.2 0)
    else (stepPoints s.slots cs k.1 k.2).all (fun p =>
      usedAt cs k.1 k.2 p == 0 || decide (usedAt cs k.1 k.2 p ≤ s.limit v k.1 k.2 p)))

/-- A failed admission: resource, instance, slot and shortfall (R67). -/
structure Short where
  res  : Nat
  inst : Nat
  slot : Nat
  amt  : Nat
  deriving DecidableEq, Repr

/-- The failure of a demand on one instance, first slot first (R66, R67). Under THERM_BLOCK no PWR demand fits, and the shortfall told
is the whole demand (DESIGN CHOICE, notes/assumptions/89.md: R79 states none). -/
def State.failOn (s : State) (used dem : List Charge) (res inst : Nat) : Option Short :=
  let lim := fun p => s.limit s.envNow res inst p
  if countRes res then
    let n := usedAt dem res inst 0
    let u := usedAt used res inst 0 + s.heldCount res
    if 0 < n ∧ lim 0 < u + n then some ⟨res, inst, 0xFFFF, u + n - lim 0⟩ else none
  else
    match (stepPoints s.slots (used ++ dem) res inst).find? (fun p =>
      let n := usedAt dem res inst p
      decide (0 < n) && ((res == 11 && s.isSet Reg.LEDGER.STATUS.THERM_BLOCK) || decide (lim p < usedAt used res inst p + n))) with
    | some p =>
      let n := usedAt dem res inst p
      some ⟨res, inst, p, if res = 11 ∧ s.isSet Reg.LEDGER.STATUS.THERM_BLOCK then n else usedAt used res inst p + n - lim p⟩
    | none => none

/-- The first failure of a demand in the order of R66. -/
def State.firstFail (s : State) (used dem : List Charge) : Option Short :=
  (chargeKeys dem).findSome? (fun k => s.failOn used dem k.1 k.2)

/-! ## Demand (R63, R64, R145) -/

/-- A demand item before rounding: `num`/`den` units in each slot of its windows. On DRAM, instance 0xFF is striped
over the channels (R64). -/
structure Item where
  res  : Nat
  inst : Nat
  num  : Nat
  den  : Nat
  wins : List (Nat × Nat)

/-- The sum of the items that touch a slot, as a fraction. -/
def sumItems (l : List Item) (slot : Nat) : Nat × Nat :=
  l.foldl (fun a i =>
    if i.wins.any (fun w => decide (w.1 ≤ slot ∧ slot ≤ w.2)) then (a.1 * i.den + i.num * a.2, a.2 * i.den) else a) (0, 1)

/-- Where the items' windows begin and end. -/
def itemCuts (slots : Nat) (l : List Item) : List Nat :=
  (sortNat (0 :: l.flatMap (fun i => i.wins.flatMap (fun w => [w.1, w.2 + 1])))).filter (fun p => decide (p < slots))

/-- Runs of slots between cuts. -/
def runs (slots : Nat) : List Nat → List (Nat × Nat)
  | [] => []
  | [a] => [(a, slots - 1)]
  | a :: b :: t => (a, b - 1) :: runs slots (b :: t)

/-- Charges of one instance from an amount per slot that is constant between cuts. -/
def runCharges (slots res inst : Nat) (amt : Nat → Nat) (cuts : List Nat) : List Charge :=
  (runs slots cuts).filterMap (fun r => if amt r.1 = 0 then none else some ⟨res, inst, amt r.1, r.1, r.2⟩)

/-- Round items into charges: once per instance, and DRAM's striped total once per channel (R63, R64). -/
def State.roundItems (s : State) (l : List Item) : List Charge :=
  let up := fun (x : Nat × Nat) => ceilDiv x.1 x.2
  let stripe := l.filter (fun i => i.res == 4 && i.inst == 0xFF)
  let named := l.filter (fun i => !(i.res == 4 && i.inst == 0xFF))
  let keys := sortNat (named.map (fun i => i.res * 65536 + i.inst) ++
    (if stripe.isEmpty then [] else (List.range s.nMcs).map (fun m => 4 * 65536 + m)))
  keys.flatMap (fun k =>
    let res := k / 65536
    let inst := k % 65536
    let mine := named.filter (fun i => i.res == res && i.inst == inst)
    if countRes res then [⟨res, inst, up (sumItems mine 0), 0, 0⟩]
    else
      let amt := fun p => up (sumItems mine p) +
        (if res = 4 then let t := sumItems stripe p; ceilDiv t.1 (t.2 * s.nMcs) else 0)
      runCharges s.slots res inst amt (itemCuts s.slots (if res = 4 then mine ++ stripe else mine)))

/-- Every slot of the tick. -/
def State.allSlots (s : State) : List (Nat × Nat) := [(0, s.slots - 1)]

/-- Slot length over line period of a format's raster, as a fraction (R63); (0, 1) without a raster. -/
def State.lineRatio (s : State) (f : Nat) : Nat × Nat :=
  match rasterGeom (fmtRaster f) with
  | some (_, total, _, _) => (rateD s.rate * rateN (fmtRate f) * total, rateN s.rate * s.slots * rateD (fmtRate f))
  | none => (0, 1)

/-- A window that may wrap past the tick's end. -/
def wrapWin (slots lo hi : Nat) : List (Nat × Nat) :=
  if slots ≤ hi + 1 - lo then [(0, slots - 1)]
  else if lo % slots ≤ hi % slots then [(lo % slots, hi % slots)]
  else [(0, hi % slots), (lo % slots, slots - 1)]

/-- The slots that the active region of a raster can touch (R63): every slot unless its phase is known and it keeps a
fixed place in the tick; each field of an interlaced frame has its own run of active lines. -/
def State.activeWins (s : State) (f phase : Nat) : List (Nat × Nat) :=
  match rasterGeom (fmtRaster f) with
  | none => s.allSlots
  | some (_, total, _, _) =>
    let tn := rateD s.rate * rateN (fmtRate f)
    let fd := rateN s.rate * rateD (fmtRate f)
    if s.slots ≤ phase then s.allSlots
    else if tn % fd ≠ 0 ∧ fd % tn ≠ 0 then s.allSlots
    else
      -- a line spans fd * slots / (tn * total) slots
      let den := tn * total
      let q := fd * s.slots
      (List.range (if tn % fd = 0 then tn / fd else 1)).flatMap (fun j => (rasterFields (fmtRaster f)).flatMap (fun w =>
        wrapWin s.slots ((phase * den + (j * total + w.1 - 1) * q) / den) (ceilDiv (phase * den + (j * total + w.2) * q) den - 1)))

/-- The slots an endpoint's active lines can touch: a source's PHASE where its entry gives one; an output of a SYNC or COMPOSE, which
the device schedules, at its entry's PHASE, or with frame starts at the tick's where it names none (R63; DESIGN CHOICE,
notes/assumptions/90.md). Every other output follows its input. -/
def State.endWins (s : State) (d : CDesc) (dst : Bool) (e : EndPt) : List (Nat × Nat) :=
  if !dst then s.activeWins e.format e.phase
  else if d.typ = 3 ∨ d.typ = 4 then s.activeWins e.format (if e.phase = 0xFFFFFFFF then 0 else e.phase)
  else s.allSlots

/-- A PER_LINE item of `amt` units a line (R63). -/
def State.perLine (s : State) (res inst amt f : Nat) (wins : List (Nat × Nat)) : Item :=
  ⟨res, inst, amt * (s.lineRatio f).1, (s.lineRatio f).2, wins⟩

/-- Packets per second of an audio format (R140). -/
def audioPps (f : Nat) : Nat := if fmtPtime f = 0 then 1000 else 8000

/-- A stream's own charge of `amt` units a line, or a packet for audio; ancillary carriage once a frame (R145). -/
def State.perUnit (s : State) (res inst amt : Nat) (d : CDesc) (dst : Bool) (e : EndPt) : Item :=
  if fmtAudio e.format then
    ⟨res, inst, amt * audioPps e.format * rateD s.rate, rateN s.rate * s.slots, s.allSlots⟩
  else if fmtCarriage e.format = 7 then
    ⟨res, inst, ceilDiv (amt * s.rd (Reg.TICK.CAD_CFG.MAX_PER_TICK d.cadence)) s.slots, 1, s.allSlots⟩
  else s.perLine res inst amt e.format (s.endWins d dst e)

/-- Does buffer `i` of kind `k` lie in a region with integrity on? -/
def State.integAt (s : State) (k i : Nat) : Bool :=
  (s.regionAt (Config.dramPlace k i)).any (fun r => s.isSet (Reg.PMAP.REG_LO.INTEG r))

/-- The integrity charge: 83 bytes for every 64 moved (R64). -/
def State.integItem (_s : State) (on : Bool) (it : Item) : Item :=
  if on then { it with num := it.num * 83, den := it.den * 64 } else it

/-- DRAM demand of buffer kind `k`, index `i`: striped, with the integrity charge of R64 and the crypto charge of a
region under a key (R56). -/
def State.dramItems (s : State) (k i : Nat) (it : Item) : List Item :=
  [s.integItem (s.integAt k i) it] ++
  (if (s.regionAt (Config.dramPlace k i)).any (fun r => s.rd (Reg.PMAP.REG_LO.KID r) != 0) then [{ it with res := 9, inst := 0 }] else [])

/-- Payload header bytes of an essence, by CARRIAGE (R145 gives ST 2110-20's; the rest PRESUMED from the standards it
names, notes/assumptions/14.md). -/
def payloadHdr : Nat → Nat
  | 3 => 8 | 4 => 4 | 7 => 8 | 8 => 8 | _ => 0

/-- Overhead bytes of one packet of an egress flow (R145). -/
def State.ovh (s : State) (f : Flow) (l : Leg) : Nat :=
  78 + payloadHdr (fmtCarriage f.format) + (if bit l.vlan 15 then 4 else 0) + (if 2 ^ 32 ≤ l.dstIp then 20 else 0) +
  (if (s.port l.port).macsec then 32 else 0)

/-- Packets in which a line is sent: R145's case of a line of 4,800 bytes goes as four of 1,200, in general packing mode. -/
def fmtPackets (fmt : Nat) (block : Bool) : Nat :=
  if fmtCarriage fmt = 3 ∧ lineBytes fmt = 4800 ∧ ¬ block then 4 else max 1 (Config.linePackets fmt block)

/-- Second sample row data headers in them: none in R145's case, and at most one a packet (R140). -/
def rowHdrs (fmt : Nat) (block : Bool) : Nat :=
  if fmtCarriage fmt = 3 ∧ lineBytes fmt = 4800 ∧ ¬ block then 0 else min (fmtPackets fmt block) (Config.rowHeaders fmt block)

/-- Wire bytes of one unit of an egress flow on a leg: a line, an audio packet, a frame's ancillary packets, up to 64 in one packet (R140,
R145). -/
def State.wireBytes (s : State) (f : Flow) (l : Leg) : Nat :=
  if fmtAudio f.format then lineBytes f.format + s.ovh f l
  else if fmtCarriage f.format = 7 then Config.ancBytes f.format + ceilDiv (Config.ancPackets f.format) 64 * s.ovh f l
  else lineBytes f.format + fmtPackets f.format f.block * s.ovh f l + 6 * rowHdrs f.format f.block

/-- NET and SEC items of an egress flow (R145, R56). -/
def State.flowItems (s : State) (d : CDesc) (e : EndPt) : List Item :=
  let f := s.flow (1024 + e.index)
  (if f.legs = 2 then [f.legA, f.legB] else [f.legA]).flatMap (fun l =>
    let w := s.wireBytes f l
    let it := if f.sender = 1 ∧ fmtHasRaster f.format then
        (⟨5, l.port, ceilDiv (w * rasterHeight (fmtRaster f.format) * s.rd (Reg.TICK.CAD_CFG.MAX_PER_TICK d.cadence)) s.slots, 1,
          s.allSlots⟩ : Item)
      else s.perUnit 5 l.port w d true e
    if (s.port l.port).macsec then [it, { it with res := 9, inst := 0 }] else [it])

/-- SDI egress: the port's Latency limit in every slot (R145). -/
def State.sdiItem (s : State) (p : Nat) : Item := ⟨5, p, s.capacity s.envNow 5 p * 75 / 100, 1, s.allSlots⟩

/-- First crossbar endpoint and count of the unit an endpoint entry's stream passes (R148). -/
def State.endUnit (s : State) (e : EndPt) (src : Bool) : Nat × Nat :=
  if !s.isLocal e.dev then (184 + ((s.linkTo e.dev).getD 0), 1)
  else match e.kind with
    | 1 => xbarUnit 4 (e.index / 4)
    | 2 => xbarUnit 3 (streamEngine (s.flow (if src then e.index else 1024 + e.index)).legA.port)
    | 3 => xbarUnit 2 (Config.xbarPick 2 e.index % s.nMcs)
    | 4 => xbarUnit 0 e.index
    | _ => xbarUnit 6 0

/-- The crossbar endpoint the ledger picks for stream `n` of a unit (R150). -/
def pickEnd (u : Nat × Nat) (n : Nat) : Nat := u.1 + Config.xbarPick u.1 n % u.2

/-- Line bytes of an endpoint's format on the crossbar (R145). -/
def unitBytes (e : EndPt) : Nat := if fmtCarriage e.format = 7 then Config.ancBytes e.format else lineBytes e.format

/-- The wire bytes of a line-packet on a Dolmet link (R431). -/
def State.linkBytes (s : State) (k : Nat) (e : EndPt) : Nat :=
  unitBytes e + (if s.isSet (Reg.DOLMET.LINK_STATUS.ENC k) then 56 else 40)

/-- One frame written per frame period into the hold buffer of each output with a raster (R157). -/
def State.holdItems (s : State) (d : CDesc) (n : Nat) : List Item :=
  (d.dsts.filter (fun e => s.isLocal e.dev && fmtHasRaster e.format)).flatMap (fun e =>
    s.dramItems 0 n (s.perLine 4 0xFF (lineBytes e.format) e.format (s.endWins d true e)))

/-- What the ledger charges on a local egress port or flow (R145): on one `shared` with a switchable contract only what is not NET
(R170). -/
def State.egressItems (s : State) (d : CDesc) (shared : Bool) (e : EndPt) : List Item :=
  (if e.kind = 1 then [s.sdiItem e.index] else if e.kind = 2 then s.flowItems d e else []).filter (fun i => !shared || i.res != 5)

/-- The stream items of a contract (R145, R157, R158, R141, R571, R431); `shared` leaves NET of the egress to the
switchable contract (R170). `n` is the contract's table index, by which the ledger's own choices go. -/
def State.streamItems (s : State) (d : CDesc) (shared : Bool) (n : Nat) : List Item :=
  if d.typ = 5 then
    [s.integItem (d.dsts.any (fun e => s.isLocal e.dev && s.integAt (if e.kind = 3 then 4 else 5) e.index))
      ⟨4, 0xFF, ceilDiv (d.xferRate * 1000000 * rateD s.rate) (rateN s.rate * s.slots), 1, s.allSlots⟩]
  else
    let srcs := d.srcs.filter (fun e => s.isLocal e.dev)
    let dsts := d.dsts.filter (fun e => s.isLocal e.dev)
    dsts.flatMap (s.egressItems d shared) ++
    d.srcs.map (fun e => s.perUnit 6 (pickEnd (s.endUnit e true) n) (unitBytes e) d false e) ++
    d.dsts.map (fun e => s.perUnit 6 (pickEnd (s.endUnit e false) n) (unitBytes e) d true e) ++
    (d.dsts.filter (fun e => !s.isLocal e.dev)).flatMap (fun e =>
      match s.linkTo e.dev with
      | some k => [s.perUnit 5 (100 + k) (s.linkBytes k e) d true e] ++
          (if s.isSet (Reg.DOLMET.LINK_STATUS.ENC k) then [s.perUnit 9 0 (unitBytes e) d true e] else [])
      | none => []) ++
    (if (d.typ = 1 ∨ d.typ = 2) ∧ (d.subst = 0 ∨ d.subst = 2) then
      s.holdItems d n else []) ++
    (if (d.typ = 3 ∨ d.typ = 4) then
      (srcs.filter (fun e => !e.backup && fmtHasRaster e.format)).flatMap (fun e => s.dramItems 1 n (s.perLine 4 0xFF (2 * lineBytes e.format) e.format (s.endWins d false e))) else []) ++
    (srcs.filter (fun e => e.backup && fmtHasRaster e.format)).flatMap (fun e =>
      s.dramItems 1 n (s.perLine 4 0xFF (2 * lineBytes e.format) e.format s.allSlots)) ++
    (srcs.filter (fun e => e.kind == 2 && (s.flow e.index).legs == 2 && (s.flow e.index).skewUs != 0)).flatMap (fun e =>
      s.dramItems 2 n (s.perUnit 4 0xFF (2 * unitBytes e) d false e)) ++
    (srcs.filter (fun e => e.kind == 3)).flatMap (fun e => s.dramItems 4 e.index (s.perUnit 4 0xFF (unitBytes e) d false e)) ++
    (dsts.filter (fun e => e.kind == 3)).flatMap (fun e => s.dramItems 4 e.index (s.perUnit 4 0xFF (unitBytes e) d true e))

/-- Demand of one cost-descriptor entry in a slot window set (R63). -/
def State.entItem (s : State) (e : CostEnt) (inst f : Nat) (lineWins : List (Nat × Nat)) (cad : Nat) : Item :=
  match e.kind with
  | 0 => ⟨e.res, inst, e.amount, 1, [(e.first, e.last)]⟩
  | 1 => s.perLine e.res inst e.amount f lineWins
  | 2 => ⟨e.res, inst, ceilDiv (e.amount * s.rd (Reg.TICK.CAD_CFG.MAX_PER_TICK cad)) s.slots, 1, s.allSlots⟩
  | _ => ⟨e.res, inst, e.amount, 1, s.allSlots⟩

/-- The cluster that runs an engine stage: the one named, or the ledger's pick among those ON (R85). -/
def State.stageCluster (s : State) (g : Stage) (n : Nat) : Nat :=
  if g.cluster < 8 then g.cluster
  else match s.clustersOn with
    | [] => 0
    | l => l.getD (Config.clusterPick g.desc n % l.length) 0

/-- The instance an entry charges: its own, or the one the ledger assigns (R86). -/
def State.entInst (s : State) (d : CDesc) (g : Stage) (e : CostEnt) (n : Nat) : Nat :=
  if e.inst ≠ 0xFF then e.inst
  else match e.res with
    | 1 | 2 => s.stageCluster g n
    | 3 => ((d.srcs ++ d.dsts).find? (fun x => x.kind == 4 && s.isLocal x.dev)).elim 0 (·.index)
    | 4 => 0xFF
    | 5 => match d.dsts.find? (fun x => (x.kind == 1 || x.kind == 2) && s.isLocal x.dev) with
      | some x => if x.kind = 1 then x.index else (s.flow (1024 + x.index)).legA.port
      | none => 0
    | 6 => pickEnd (xbarUnit 1 (s.stageCluster g n)) n
    | _ => 0

/-- The raster that governs a stage's PER_LINE items, and the slots it can touch (R63). -/
def State.stageRaster (s : State) (d : CDesc) (g : Stage) : Nat × List (Nat × Nat) :=
  if g.lineFmt ≠ 0 then (g.lineFmt, s.allSlots)
  else match d.srcs.find? (fun e => fmtHasRaster e.format) with
    | some e => (e.format, s.activeWins e.format e.phase)
    | none => (0, s.allSlots)

/-- The stream a KIND 3 stage delays: the first source with a raster, else the first such destination (DESIGN CHOICE,
notes/assumptions/91.md: R570 does not say which of several). -/
def delayed (d : CDesc) : Option (Bool × EndPt) :=
  match d.srcs.find? (fun e => fmtHasRaster e.format) with
  | some e => some (false, e)
  | none => (d.dsts.find? (fun e => fmtHasRaster e.format)).map (true, ·)

/-- The items of one stage; `every` spreads PER_LINE and PER_SLOT items over every slot (R170's transition stage). A DRAM delay of PARAM
lines writes and reads each line once; one of no line stores nothing (R570). A cost descriptor's own DRAM entries are charged as they
stand, with no integrity charge added (R64; DESIGN CHOICE, notes/assumptions/92.md). -/
def State.stageItems (s : State) (d : CDesc) (g : Stage) (n : Nat) (every : Bool) : List Item :=
  if g.kind = 3 then
    match delayed d with
    | some (dst, e) =>
      if g.param = 0 then [] else s.dramItems 3 n (s.perLine 4 0xFF (2 * lineBytes e.format) e.format (s.endWins d dst e))
    | none => []
  else
    let rw := s.stageRaster d g
    (s.cost g.desc).ents.map (fun e =>
      let it := s.entItem e (s.entInst d g e n) rw.1 rw.2 d.cadence
      if every then { it with wins := s.allSlots } else it)

/-- Line period over slot length for W lines, rounded up: W_slots (R173). -/
def State.wSlots (s : State) (f w : Nat) : Nat := ceilDiv (w * (s.lineRatio f).2) (s.lineRatio f).1

/-- The run-ahead charges of a preset (R170): the downstream stages a second time and the provisional buffers over the window, and the
engines' checkpoints. Armed with W lines in `arm`'s slots, exactly those; before PRESET_ARM has named W, what covers every W that R174
allows (DESIGN CHOICE, notes/assumptions/99.md). -/
def State.presetItems (s : State) (d sw : CDesc) (n : Nat) (arm : Option (Nat × Nat)) : List Item :=
  let down := sw.stages.drop (Config.switchPoint (sw.stages.map (·.desc)))
  let f := (d.dsts.getD 0 {}).format
  let ws := match arm with | some (_, ws) => ws | none => max 16 (min 1024 (s.wSlots f 256))
  let win := [(s.slots - ws, s.slots - 1)]
  let chk := match arm with
    | some _ => [(s.slots - ws, s.slots - ws), (s.slots - 8, s.slots - 8)]
    | none => [(s.slots - ws, s.slots - 16), (s.slots - 8, s.slots - 8)]
  down.flatMap (fun g => (s.stageItems sw g n false).map (fun i => { i with wins := win })) ++
  (if fmtHasRaster f then
    s.dramItems 8 n (match arm with
      | some (w, _) => ⟨4, 0xFF, w * lineBytes f, ws, win⟩
      | none => { s.perLine 4 0xFF (lineBytes f) f win with wins := win }) else []) ++
  (down.filter (fun g => g.kind == 1)).map (fun g => ⟨1, s.stageCluster g n, 64 * Config.stageEngines g.desc, 1, chk⟩)

/-- All of a contract's charges (R63, R64, R145, R170); `sw` is the switchable contract of a preset, `arm` the window it is armed with. -/
def State.demand (s : State) (d : CDesc) (sw : Option CDesc) (n : Nat) (arm : Option (Nat × Nat) := none) : List Charge :=
  let tr := if d.switchable then some (Config.switchPoint (d.stages.map (·.desc))) else none
  let stages := ((List.range d.stages.length).zip d.stages).flatMap (fun g => s.stageItems d g.2 n (tr == some g.1))
  s.roundItems (s.streamItems d sw.isSome n ++ stages ++ (match sw with | some w => s.presetItems d w n arm | none => []))

/-! ## Bound (R68, R141, R432) -/

/-- The devices of a cross-device contract besides this one, in the descriptor's order (R80). -/
def State.pathDevs (s : State) (d : CDesc) : List Nat :=
  (d.srcs ++ d.dsts).foldl (fun a e => if s.isLocal e.dev || a.contains e.dev then a else a ++ [e.dev]) []

/-- The Dolmet links toward those devices, by the present routes (R440). -/
def State.pathLinks (s : State) (d : CDesc) : List (Nat × Nat) := (s.pathDevs d).filterMap (fun v => (s.linkTo v).map (v, ·))

/-- Nanoseconds rounded up to whole slots. -/
def State.nsSlots (s : State) (ns : Nat) : Nat := ceilDiv (ns * rateN s.rate * s.slots) (rateD s.rate * 1000000000)

/-- The bound of a contract in slots (R68): stage latencies, one slot for each crossbar hop and each DRAM access, the
formats' buffering, the raster wait of SYNC and COMPOSE, merge buffers (R141), DRAM delays and Dolmet hops (R432). -/
def State.bound (s : State) (d : CDesc) : Nat :=
  let src := (d.srcs.getD 0 {}).format
  let dst := (d.dsts.getD 0 {}).format
  let lat := d.stages.foldl (fun a g => a +
    (if g.kind = 3 then 2 + (match delayed d with
      | some (_, e) => ceilDiv (g.param * (s.lineRatio e.format).2) (s.lineRatio e.format).1
      | none => 0)
     else (s.cost g.desc).latency)) 0
  let merge := d.srcs.foldl (fun a e =>
    if s.isLocal e.dev && e.kind == 2 && (s.flow e.index).legs == 2 && (s.flow e.index).skewUs != 0 then
      max a (2 + s.nsSlots ((s.flow e.index).skewUs * 1000)) else a) 0
  let store := if d.typ = 3 ∨ d.typ = 4 then 2 + Config.rasterWait dst (d.dsts.getD 0 {}).phase else 0
  let bufs := d.srcs.countP (fun e => e.kind == 3) + d.dsts.countP (fun e => e.kind == 3)
  let hops := (s.pathDevs d).foldl (fun a v => a + 2 +
    (match s.linkTo v with | some k => s.nsSlots (s.rd (Reg.DOLMET.LINK_DELAY.DELAY k)) | none => 0)) 0
  lat + (d.stages.length + 1) + bufs + merge + store + Config.formatSlots src dst + hops

end Sys2Proof.Machine
end

