-- ==== Sys2Proof/Machine/MailOps.lean ====
section
/-! DEFINITION. Mailbox halves and locks as the register bus sees them (R511–R517, R520–R525), and what an engine holds. A
master is its number of R524. -/

namespace Sys2Proof.Machine

/-! ## Engines -/

def State.engine (s : State) (e : Nat) : Eng := SMap.get (fun _ => ({} : Eng)) s.eng.eng e

def State.setEngine (s : State) (e : Nat) (x : Eng) : State :=
  { s with eng := { s.eng with eng := SMap.set (fun _ => ({} : Eng)) s.eng.eng e x } }

def State.updEngine (s : State) (e : Nat) (f : Eng → Eng) : State := s.setEngine e (f (s.engine e))

/-- Raise interrupt `i` of an engine: 0 fault, 1 take-commit, 2 tick, 3 doorbell (R213). -/
def State.engRaise (s : State) (e i : Nat) : State := s.updEngine e (fun x => { x with pend := setBit x.pend i })

/-! ## Mailbox halves (R511–R516) -/

/-- The kinds of half of R511. -/
inductive Half where
  | h2c | c2h | c2e | e2c | e2e | send | recv
  deriving DecidableEq, Repr

/-- A half: its kind, its base offset, and the number of its mailbox or engine. -/
structure HalfAt where
  kind : Half
  base : Nat
  i    : Nat
  deriving DecidableEq, Repr

/-- The block of cluster `c`, and the cluster and block offset of a byte offset. -/
def cluBase (c : Nat) : Nat := 0x1000000 + 0x200000 * c
def cluOf (o : Nat) : Nat := (o - 0x1000000) / 0x200000
def cluOff (o : Nat) : Nat := (o - 0x1000000) % 0x200000

/-- The C2E half and the E2E half of engine `e` (R511). -/
def c2eHalf (e : Nat) : HalfAt := ⟨.c2e, cluBase (e / 32) + 0x2080 + 0x200 * (e % 32), e⟩
def e2eHalf (e : Nat) : HalfAt := ⟨.e2e, cluBase (e / 32) + 0x6000 + 0x50 * (e % 32), e⟩

/-- The half a byte offset lies in (R511, R512). -/
def halfAt (o : Nat) : Option HalfAt :=
  if 0x30000 ≤ o ∧ o < 0x30800 then
    let n := (o - 0x30000) / 0x100
    let x := o % 0x100
    if x < 0x50 then some ⟨.h2c, o - x, n⟩ else if 0x80 ≤ x ∧ x < 0xD0 then some ⟨.c2h, o - x + 0x80, n⟩ else none
  else if 0x31000 ≤ o ∧ o < 0x32000 then
    let r := (o - 0x31000) / 0x100
    let x := o % 0x100
    if x < 0x54 then some ⟨.send, o - x, r⟩ else if 0x80 ≤ x ∧ x < 0xD4 then some ⟨.recv, o - x + 0x80, r⟩ else none
  else if 0x1000000 ≤ o ∧ o < 0x2000000 then
    let b := cluOff o
    if 0x2000 ≤ b ∧ b < 0x6000 then
      let e := 32 * cluOf o + (b - 0x2000) / 0x200
      let x := b % 0x200
      if 0x80 ≤ x ∧ x < 0xD0 then some ⟨.c2e, o - x + 0x80, e⟩ else if 0x100 ≤ x ∧ x < 0x150 then some ⟨.e2c, o - x + 0x100, e⟩ else none
    else if 0x6000 ≤ b ∧ b < 0x6A00 then some ⟨.e2e, o - (b - 0x6000) % 0x50, 32 * cluOf o + (b - 0x6000) / 0x50⟩
    else none
  else none

/-- A half's fields (R512). -/
def HalfAt.bell (h : HalfAt) : Fld := ⟨h.base + 0x40, 0, 32⟩
def HalfAt.mask (h : HalfAt) : Fld := ⟨h.base + 0x44, 0, 32⟩
def HalfAt.valid (h : HalfAt) : Fld := ⟨h.base + 0x48, 31, 1⟩
def HalfAt.pending (h : HalfAt) : Fld := ⟨h.base + 0x4C, 0, 1⟩
def HalfAt.cross (h : HalfAt) : Fld := ⟨h.base + 0x4C, 1, 1⟩
def HalfAt.timeout (h : HalfAt) : Fld := ⟨h.base + 0x4C, 2, 1⟩
def HalfAt.sendErr (h : HalfAt) : Fld := ⟨h.base + 0x4C, 3, 1⟩
def HalfAt.acked (h : HalfAt) : Fld := ⟨h.base + 0x4C, 4, 1⟩
def HalfAt.busy (h : HalfAt) : Fld := ⟨h.base + 0x4C, 5, 1⟩
def HalfAt.owner (h : HalfAt) : Fld := ⟨h.base + 0x4C, 6, 9⟩
def HalfAt.reject (h : HalfAt) : Fld := ⟨h.base + 0x4C, 16, 8⟩
def HalfAt.meshId (h : HalfAt) : Fld := ⟨h.base + 0x50, 0, 15⟩
def HalfAt.mailbox (h : HalfAt) : Fld := ⟨h.base + 0x50, 16, 4⟩

/-- Cormo cores, the host, an engine, a fabric port as masters (R524). -/
def isCormo (m : Nat) : Bool := decide (1 ≤ m ∧ m ≤ 4)
def isFabric (m : Nat) : Bool := decide (288 ≤ m ∧ m < 352)

/-- The master that an interrupt group's route names now (R508, R512). -/
def State.routeMaster (s : State) (g : Nat) : Option Nat :=
  match s.rd (Reg.INTC.ROUTE.KIND g) with
  | 1 => some 5
  | 2 => some (s.rd (Reg.INTC.ROUTE.TARGET g))
  | 3 => some (16 + s.rd (Reg.INTC.ROUTE.TARGET g))
  | _ => none

/-- May master `m` send on a half, and may it receive from it (R511)? -/
def HalfAt.sender (h : HalfAt) (m : Nat) : Bool :=
  match h.kind with
  | .h2c => m == 5
  | .c2h => isCormo m
  | .c2e => isCormo m || m == 5
  | .e2c => m == 16 + h.i
  | .e2e => decide (16 ≤ m ∧ m < 272 ∧ (m - 16) / 32 = h.i / 32)
  | .send => isCormo m || m == 5 || isFabric m
  | .recv => false
def State.receiver (s : State) (h : HalfAt) (m : Nat) : Bool :=
  match h.kind with
  | .h2c => isCormo m
  | .c2h => m == 5
  | .c2e | .e2e => m == 16 + h.i
  | .e2c => s.routeMaster (8 + h.i / 32) == some m
  | .send => false
  | .recv => isCormo m || m == 5 || isFabric m

/-- The other half of a crossing pair, where one stands (R515). -/
def State.crossing (s : State) (h : HalfAt) : Option HalfAt :=
  match h.kind with
  | .h2c => some ⟨.c2h, h.base + 0x80, h.i⟩
  | .c2h => some ⟨.h2c, h.base - 0x80, h.i⟩
  | .c2e => some ⟨.e2c, h.base + 0x80, h.i⟩
  | .e2c => some ⟨.c2e, h.base - 0x80, h.i⟩
  | .send => some ⟨.recv, h.base + 0x80, h.i⟩
  | .recv => some ⟨.send, h.base - 0x80, h.i⟩
  | .e2e =>
    let a := s.rd h.owner - 16
    if s.rd h.owner < 16 ∨ s.rd (e2eHalf a).owner ≠ 16 + h.i then none else some (e2eHalf a)

/-- An engine's doorbell interrupt is raised while a bit of its half is set and not masked (R213, R512). -/
def State.ringEngine (s : State) (h : HalfAt) : State :=
  match h.kind with
  | .c2e | .e2e => if s.rd h.bell &&& (2 ^ 32 - 1 - s.rd h.mask) = 0 then s else s.engRaise h.i 3
  | _ => s

/-- Set doorbell bits of a half. -/
def State.addBells (s : State) (h : HalfAt) (bits : Nat) : State := (s.wr h.bell (s.rd h.bell ||| bits)).ringEngine h

/-- An engine sender sees its acknowledgement as bit 29 of its C2E half (R512). -/
def State.bell29 (s : State) (h : HalfAt) : State :=
  match h.kind with
  | .e2c => s.addBells (c2eHalf h.i) (2 ^ 29)
  | .e2e => if 16 ≤ s.rd h.owner then s.addBells (c2eHalf (s.rd h.owner - 16)) (2 ^ 29) else s
  | _ => s

/-- The half of the pair's other message, acknowledged or not (R515). -/
def State.crossPeer (s : State) (h : HalfAt) : Option HalfAt :=
  if h.kind = .e2e then (if s.rd h.owner < 16 then none else some (e2eHalf (s.rd h.owner - 16))) else s.crossing h

/-- CROSS is cleared once both messages are acknowledged, of the two halves of the pair; a half that has since crossed with another
keeps its own (R515). `other` is the other half while its message is the pair's, `peer` whatever it holds. -/
def State.uncross (s : State) (h : HalfAt) (other peer : Option HalfAt) : State :=
  if !s.isSet h.cross || other.any (fun o => s.isSet o.pending) then s
  else
    let s1 := s.wr h.cross 0
    match peer with
    | some o => if s1.isSet o.pending && (s1.crossing o).any (fun x => s1.isSet x.pending) then s1 else s1.wr o.cross 0
    | none => s1

/-- A half's message is acknowledged with a code, by its receiver or by the device, which then clears the message's doorbell
bits (R513, R514, R516). -/
def State.ackHalf (s : State) (h : HalfAt) (code : Nat) (dev : Bool) : State :=
  let other := s.crossing h
  let peer := s.crossPeer h
  let s1 := (s.setReg (h.base + 0x48) (BitVec.ofNat 32 (2 ^ 31 + code % 2 ^ 16))).bell29 h
  let s2 := ((s1.wr h.pending 0).wr h.acked 1).flag h.timeout dev
  let s3 := if dev then s2.wr ⟨h.base + 0x40, 0, if h.kind = .c2e then 29 else 30⟩ 0 else s2
  ((s3.uncross h other peer).wr h.busy 0).wr h.owner 0

/-- A MAILBOX frame (R441): destination, source, mailbox, sending mailbox, 0 a message or 1 its acknowledgement, code or doorbell
bits, and the words. -/
def State.mailFrame (s : State) (k dst m frm ack x : Nat) (words : List Nat) : State :=
  s.emit (.frame k 5 ([dst, s.meshId, m, frm, ack, x] ++ words))

/-- A remote message leaves; without a route the device acknowledges it with 0xFFFE at once (R441, R516). -/
def State.sendRemote (s : State) (h : HalfAt) : State :=
  match s.linkTo (s.rd h.meshId) with
  | none => s.ackHalf h 0xFFFE true
  | some k => s.mailFrame k (s.rd h.meshId) (s.rd h.mailbox) h.i 0 (s.rd h.bell)
      ((List.range 16).map (fun i => (s.reg (h.base + 4 * i)).toNat))

/-- A message starts (R513); the second of a crossing pair sets CROSS and doorbell bit 31 in both halves (R515). -/
def State.startMsg (s : State) (h : HalfAt) : State :=
  let s1 := (((s.wr h.pending 1).wr h.valid 0).wr h.acked 0).wr h.timeout 0
  let s2 := match s1.crossing h with
    | some o =>
      if s1.isSet o.pending then
        (((s1.wr h.cross 1).wr o.cross 1).addBells h (2 ^ 31)).addBells o (2 ^ 31)
      else s1
    | none => s1
  if h.kind = .send then s2.sendRemote h else s2

/-- A claimed half that another master holds (R514). -/
def State.claimedBy (s : State) (h : HalfAt) (m : Nat) : Bool := s.isSet h.busy && s.rd h.owner != m

/-- A write of message word `i` (R512–R514). -/
def State.msgWrite (s : State) (h : HalfAt) (m i v : Nat) : State :=
  if !h.sender m || s.claimedBy h m then s.bump h.reject
  else if s.isSet h.pending then s.wr h.sendErr 1
  else
    let s1 := if (h.kind = .c2e ∨ h.kind = .e2e) ∧ i = 0 ∧ ¬ s.isSet h.busy then (s.wr h.busy 1).wr h.owner m else s
    s1.setReg (h.base + 4 * i) (BitVec.ofNat 32 v)

/-- A write of the doorbell register: the receiver clears bits, the sender sets bits and starts a message (R512, R513). -/
def State.bellWrite (s : State) (h : HalfAt) (m v : Nat) : State :=
  if s.receiver h m then s.wr h.bell (s.rd h.bell &&& (2 ^ 32 - 1 - v % 2 ^ 32))
  else if !h.sender m || s.claimedBy h m then s.bump h.reject
  else
    let bits := v % 2 ^ (if h.kind = .c2e then 29 else 30)
    if bits = 0 then s
    else
      let s1 := s.addBells h bits
      if s.isSet h.pending then s1 else s1.startMsg h

/-- A write of ACK by the receiver (R513, R516): codes 0xFFFD–0xFFFF are ignored, and so is an acknowledgement of nothing. The
acknowledgement of a remote message goes back to its sender. -/
def State.ackWrite (s : State) (h : HalfAt) (m v : Nat) : State :=
  let code := v % 2 ^ 16
  if !s.receiver h m then s.bump h.reject
  else if ¬ s.isSet h.pending ∨ 0xFFFD ≤ code then s
  else if v / 2 ^ 31 % 2 = 0 then s.wr ⟨h.base + 0x48, 0, 16⟩ code
  else
    let s1 := s.ackHalf h code false
    if h.kind = .recv then match s.linkTo (s.rd h.meshId) with
      | some k => s1.mailFrame k (s.rd h.meshId) (s.rd h.mailbox) h.i 1 code []
      | none => s1
    else s1

/-- A write at offset `x` of a half (R512). -/
def State.halfWrite (s : State) (h : HalfAt) (m x v : Nat) : State :=
  if x < 0x40 then s.msgWrite h m (x / 4) v
  else if x = 0x40 then s.bellWrite h m v
  else if x = 0x44 then (if s.receiver h m then (s.wr h.mask v).ringEngine h else s.bump h.reject)
  else if x = 0x48 then s.ackWrite h m v
  else if x = 0x4C then
    if !h.sender m || s.claimedBy h m then s.bump h.reject
    else s.setReg (h.base + 0x4C) (s.reg (h.base + 0x4C) &&& ~~~(BitVec.ofNat 32 (v % 32 / 8 * 8)))
  else if x = 0x50 ∧ h.kind = .send then
    if h.sender m then (s.wr h.meshId v).wr h.mailbox (v / 2 ^ 16) else s.bump h.reject
  else s

/-- The messages pending to an engine that stops or goes away are acknowledged with 0xFFFD (R516). -/
def State.engMailLost (s : State) (e : Nat) : State :=
  let s1 := if s.isSet (c2eHalf e).pending then s.ackHalf (c2eHalf e) 0xFFFD true else s
  if s1.isSet (e2eHalf e).pending then s1.ackHalf (e2eHalf e) 0xFFFD true else s1

/-! ## Locks (R520–R525) -/

/-- A holder that a debugger has halted (R522). -/
def State.holderHalted (s : State) (m : Nat) : Bool :=
  (isCormo m && bit s.xp.coreHalt (m - 1)) || (decide (16 ≤ m ∧ m < 272) && s.rd (Reg.ENG.STATUS.STATE (m - 16)) == 5)

/-- A lock's word as it reads without acquiring. -/
def State.lockWord (s : State) (o : Nat) : Word :=
  let m := (s.reg o).field 0 9
  BitVec.ofNat 32 (m + if s.holderHalted m then 2 ^ 31 else 0)

/-- May a master reach a lock (R520)? An engine reaches only its own cluster's. -/
def lockReach (m o : Nat) : Bool :=
  if 16 ≤ m ∧ m < 272 then decide (0x1000000 ≤ o ∧ cluOf o = (m - 16) / 32) else true

/-- A read of a lock: a free one is acquired and reads 0 (R520). -/
def State.lockRead (s : State) (m o : Nat) : State × Word :=
  if lockReach m o ∧ (s.reg o).field 0 9 = 0 then (s.setReg o (BitVec.ofNat 32 m), 0) else (s, s.lockWord o)

/-- The status register of a lock's block (R525). -/
def lockStatus (o : Nat) : Nat := if o < 0x31000 then Reg.LOCKS.STATUS else Reg.CLU.LOCK_STATUS (cluOf o)

/-- A write of a lock: the holder's 0 releases it; any other write is recorded and counted (R520). -/
def State.lockWrite (s : State) (m o v : Nat) : State :=
  if lockReach m o ∧ (s.reg o).field 0 9 = m ∧ v % 512 = 0 then s.setReg o 0
  else (s.wr ⟨lockStatus o, 0, 9⟩ m).bump ⟨lockStatus o, 16, 8⟩

end Sys2Proof.Machine
end

