-- ==== Sys2Proof/Machine/Engines.lean ====
section
/-! DEFINITION. Engines as machines (06_quinner_engines.md): their states, results in flight, interrupts and
exceptions, the speculative area and checkpoints, the tick watchdog, the march unit and the engine commands. What a
bundle does stands in Bundle.lean. -/

namespace Sys2Proof.Machine

/-! ## Engine state -/

/-- Engine states as ENGINE_STATUS codes them (R233). -/
def engEmpty := 0
def engLoaded := 1
def engRunning := 2
def engStopped := 3
def engFaulted := 4
def engHalted := 5

def State.engState (s : State) (e : Nat) : Nat := s.rd (Reg.ENG.STATUS.STATE e)

/-- Put an engine into a state; one that enters EMPTY, STOPPED or FAULTED loses its locks and the messages pending to it (R516,
R523). -/
def State.setEngState (s : State) (e x : Nat) : State :=
  (if x = engEmpty ∨ x = engStopped ∨ x = engFaulted then (s.orphan (16 + e)).engMailLost e else s).wr (Reg.ENG.STATUS.STATE e) x
def State.engPc (s : State) (e : Nat) : Nat := s.rd (Reg.ENG.STATUS.PC e)
def State.inHandler (s : State) (e : Nat) : Bool := s.isSet (Reg.ENG.STATUS.HANDLER e)
def State.inSpec (s : State) (e : Nat) : Bool := s.isSet (Reg.ENG.STATUS.SPEC e)

/-- Is engine `e` present (R198)? -/
def State.engPresent (s : State) (e : Nat) : Bool := decide (e / 32 < s.nClusters)

/-- Is the engine's cluster ON (R227)? -/
def State.engOn (s : State) (e : Nat) : Bool := s.domOn (5 + e / 32)

/-- Does contract `c` use engine `e`: an engine stage of it, placed on the engine's cluster, names the DESC_ID the
engine's program was loaded under (R229)? -/
def State.contractEngine (s : State) (c : Contract) (e : Nat) : Bool :=
  (s.engine e).desc != 0 &&
  c.d.stages.any (fun g => g.kind == 1 && g.desc == (s.engine e).desc && s.stageCluster g c.pick == e / 32)

/-- The contract that uses an engine, if any that is not RELEASED does (R229, R233). -/
def State.engContract (s : State) (e : Nat) : Option Nat :=
  (s.led.contracts.find? (fun x => x.2.st != .released && s.contractEngine x.2 e)).map (·.1)

/-! ## Results in flight (R200, R240–R242) -/

/-- Saturate to 48 bits. -/
def sat48 (x : Int) : Int := max (-(2 ^ 47)) (min (2 ^ 47 - 1) x)

/-- Redundant sign bits of a value held in `w` bits (R254): the bits below the sign bit that equal it. -/
def rsbFrom (x : Int) : Nat → Nat
  | 0 => 0
  | n + 1 => if -(2 ^ n : Int) ≤ x ∧ x < (2 ^ n : Int) then 1 + rsbFrom x n else 0
def rsb (w : Nat) (x : Int) : Nat := rsbFrom x (w - 1)

/-- The least redundant sign bit count of a list of lanes (R254). -/
def rsbMin (w : Nat) (l : List Int) : Nat := (l.map (rsb w)).foldl min 63

/-- An accumulator's sixteen lanes (R251). -/
def Eng.accum (x : Eng) (r : Nat) : List Int := SMap.get (fun _ => List.replicate 16 0) x.acc r
def Eng.setAcc (x : Eng) (r : Nat) (v : List Int) : Eng :=
  { x with acc := SMap.set (fun _ => List.replicate 16 0) x.acc r v }
def Eng.vec_ (x : Eng) (r : Nat) : BitVec 256 := SMap.get (fun _ => 0) x.vreg r

/-- Lanes of width `w` of a vector, as signed numbers, lane 0 first (R238). -/
def lanes (w : Nat) (v : BitVec 256) : List Int :=
  (List.range (256 / w)).map (fun i => signed w (v.toNat / 2 ^ (w * i)))

/-- A vector from lanes of width `w`. -/
def packLanes (w : Nat) (l : List Int) : BitVec 256 :=
  BitVec.ofNat 256 (((List.range l.length).zip l).foldl (fun a x => a + unsigned w x.2 * 2 ^ (w * x.1)) 0)

/-- Write lanes into an accumulator, saturating, with the fold into BEXP where marked (R251, R253, R254). -/
def Eng.landAcc (x : Eng) (r : Nat) (l : List Int) (bx : Bool) : Eng :=
  let v := l.map sat48
  let y := (x.setAcc r v)
  let y : Eng := { y with sat := y.sat || l.any (fun t => t != sat48 t) }
  if bx then { y with bexp := min y.bexp (rsbMin 48 v) } else y

/-- One result lands (R200). -/
def Eng.land (x : Eng) : Landing → Eng
  | .sreg true r w => { x with sreg := SMap.set (fun _ => 0) x.sreg r w }
  | .sreg false r w => { x with shadow := SMap.set (fun _ => 0) x.shadow r w }
  | .vreg r v => { x with vreg := SMap.set (fun _ => 0) x.vreg r v }
  | .accSet r l bx => x.landAcc r l bx
  | .accAdd r l bx => x.landAcc r (List.zipWith (· + ·) (x.accum r) l) bx
  | .accPart r p v =>
    let part := fun (a : Int) (i : Nat) =>
      signed 48 (unsigned 48 a - unsigned 48 a / 2 ^ (16 * p) % 65536 * 2 ^ (16 * p) + v.toNat / 2 ^ (16 * i) % 65536 * 2 ^ (16 * p))
    x.setAcc r (List.zipWith part (x.accum r) (List.range 16))
  | .bexpSet b => { x with bexp := b }
  | .bexpMin b => { x with bexp := min x.bexp b }
  | .satSet b => { x with sat := b }
  | .satOr => { x with sat := true }
  | .ie _ => x
  | .lc true 0 n => { x with lc0 := n }
  | .lc true _ n => { x with lc1 := n }
  | .lc false 0 n => { x with slc0 := n }
  | .lc false _ n => { x with slc1 := n }
  | .epc n => { x with epc := n }

/-- Writes of BEXP and SAT land before the results that fold into them (R242, R254). -/
def Landing.early : Landing → Bool
  | .bexpSet _ | .satSet _ => true
  | _ => false

/-- One cycle passes: results due land, those of later bundles after those of earlier ones (R200, R242). -/
def State.engCycle (s : State) (e : Nat) : State :=
  let x := s.engine e
  let due := (x.fly.filter (fun f => decide (f.1 ≤ 1))).map (·.2)
  let y := (due.filter Landing.early ++ due.filter (fun l => !l.early)).foldl Eng.land x
  let s1 := s.setEngine e { y with fly := (x.fly.filter (fun f => decide (1 < f.1))).map (fun f => (f.1 - 1, f.2)) }
  due.foldl (fun s l => match l with | .ie v => s.wr (Reg.ENG.STATUS.IE e) v | _ => s) s1

/-- Let every result in flight land: at most 8 cycles (R214, R215). -/
def State.engDrain (s : State) (e : Nat) : State := (List.range 8).foldl (fun s _ => s.engCycle e) s

/-! ## Exceptions and interrupts (R213–R216, R219) -/

/-- Record a cause in ENG.FAULT and ENG.FAULT_ADDR (R219, R235). -/
def State.engCause (s : State) (e cause pc addr : Nat) : State :=
  (((s.wr (Reg.ENG.FAULT.CAUSE e) cause).wr (Reg.ENG.FAULT.PEND e) 1).wr (Reg.ENG.FAULT.PC e) pc).wr (Reg.ENG.FAULT_ADDR.ADDR e) addr

/-- A bundle raises an exception: recorded and pending; inside a handler the engine stops with cause DOUBLE and state
FAULTED (R215, R219). -/
def State.engExc (s : State) (e cause pc addr : Nat) : State :=
  if s.inHandler e then (s.engCause e 7 pc addr).setEngState e engFaulted
  else (s.engCause e cause pc addr).updEngine e (fun x => { x with exc := some cause })

/-- Is the engine at a boundary at which it may take an interrupt: outside an atomic group and a branch's delay bundles
(R202, R214)? -/
def Eng.free (x : Eng) : Bool := x.atom == 0 && x.br.isNone

/-- The interrupts that are pending, enabled and not held back by SPEC state (R213, R216). -/
def State.engReadyIrq (s : State) (e : Nat) : Nat :=
  let x := s.engine e
  let on := x.pend &&& s.rd (Reg.ENG.STATUS.IE e)
  if s.inHandler e || x.fresh then 0 else if s.inSpec e then on &&& 7 else on

/-- The number of the event the engine takes next: 0 exception, 1 fault, 2 take-commit, 3 tick, 4 doorbell (R213,
R256). -/
def State.engEvent (s : State) (e : Nat) : Option Nat :=
  if (s.engine e).exc.isSome then some 0
  else
    let on := s.engReadyIrq e
    if bit on 0 then some 1 else if bit on 1 then some 2 else if bit on 2 then some 3 else if bit on 3 then some 4 else none

/-- INTERRUPT_ENTRY (R214): at an allowed boundary the event of highest priority is taken: EPC, shadow bank, vector;
one cycle passes. -/
def execInterruptEntry (e : Nat) (s : State) : Res :=
  let x := s.engine e
  match s.engEvent e with
  | some v =>
    if s.engState e = engRunning ∧ x.free ∧ s.engOn e then
      let s1 := s.setEngine e { x with
        epc := s.engPc e, exc := if v = 0 then none else x.exc, pend := if v = 0 then x.pend else clrBit x.pend (v - 1), wait := false }
      let s2 := (s1.wr (Reg.ENG.STATUS.HANDLER e) 1).wr (Reg.ENG.STATUS.PC e) (x.vec + 4 * v)
      let s3 := if v ≤ 1 then s2.bump (Reg.ENG.COUNT.EXC_CNT e) else s2
      .next (s3.engCycle e)
    else .next s
  | none => .next s

/-! ## Speculation (R208–R211) -/

def State.dmaQueue (s : State) (e : Nat) : List DmaDesc := SMap.get (fun _ => ([] : List DmaDesc)) s.eng.dmaq e
def State.setDmaQueue (s : State) (e : Nat) (l : List DmaDesc) : State :=
  { s with eng := { s.eng with dmaq := SMap.set (fun _ => ([] : List DmaDesc)) s.eng.dmaq e l } }

/-- An engine's DMA registers that a descriptor is made of (R519). -/
def dmaRegs (e : Nat) : List Nat :=
  [Reg.DMA.SRC_LO e, Reg.DMA.SRC_HI e, Reg.DMA.DST_LO e, Reg.DMA.DST_HI e, Reg.DMA.LEN e, Reg.DMA.CTX e]

/-- The engine's registers as a checkpoint holds them (R209), with those of its DMA queue, which a rollback must restore as well (R182). -/
def State.checkpoint (s : State) (e : Nat) : Checkpoint :=
  let x := s.engine e
  { s := x.sreg, v := x.vreg, a := x.acc, lc0 := x.lc0, lc1 := x.lc1, bexp := x.bexp, sat := x.sat, pc := s.engPc e, loops := x.loops,
    dma := (dmaRegs e).map s.reg, done := s.rd (Reg.DMA.STAT.DONE_CNT e), err := s.isSet (Reg.DMA.STAT.ERR e) }

/-- A rollback's part of the DMA queue (R182): what was queued in SPEC state is dropped, and the registers are as they would have been. -/
def State.dmaRestore (s : State) (e : Nat) (c : Checkpoint) : State :=
  let q := (s.dmaQueue e).filter (fun d => !d.spec)
  let s1 := ((dmaRegs e).zip c.dma).foldl (fun t r => t.setReg r.1 r.2) (s.setDmaQueue e q)
  ((s1.wr (Reg.DMA.STAT.FREE e) (8 - q.length)).wr (Reg.DMA.STAT.DONE_CNT e) c.done).flag (Reg.DMA.STAT.ERR e) c.err

/-- The take unit signals a checkpoint for an egress (R179, R209). -/
def State.engAsk (s : State) (e egress : Nat) : State :=
  if s.engState e = engRunning ∧ s.isSet (Reg.ENG.STATUS.SPEC_EN e) ∧ ¬ s.inSpec e then
    s.updEngine e (fun x => { x with ask := true, egress := egress, rollback := false })
  else s

/-- ENGINE_CHECKPOINT (R209): at its next allowed boundary the engine drains, copies its registers and the next
bundle's address, clears every written bit and enters SPEC state. -/
def execEngineCheckpoint (e : Nat) (s : State) : Res :=
  let x := s.engine e
  if x.ask ∧ s.engState e = engRunning ∧ x.free ∧ ¬ s.inHandler e ∧ s.engOn e then
    let s1 := s.engDrain e
    .next ((s1.updEngine e (fun y => { y with ask := false, chk := some (s1.checkpoint e), writ := [] })).wr
      (Reg.ENG.STATUS.SPEC e) 1)
  else .next s

/-- The engine's part of a commit: provisional words become the committed ones, SPEC state ends, and the take-commit
interrupt is raised with status COMMIT (R211). -/
def State.engCommit (s : State) (e : Nat) : State :=
  if s.inSpec e then
    let s0 := s.setDmaQueue e ((s.dmaQueue e).map (fun d => { d with spec := false }))
    let s1 := s0.updEngine e (fun x => { x with
      sel := x.writ.foldl (fun l w => if l.contains w then l.filter (· != w) else sortNat (w :: l)) x.sel,
      writ := [], chk := none, rollback := false, tcst := 1 })
    (s1.wr (Reg.ENG.STATUS.SPEC e) 0).engRaise e 1
  else s.updEngine e (fun x => { x with ask := false })

/-- The engine's part of a landing (R181): a commit where it speculated; otherwise the take-commit interrupt with status COMMIT alone. -/
def State.engLand (s : State) (e : Nat) : State :=
  if s.inSpec e then s.engCommit e
  else if s.engOn e ∧ (s.engState e = engRunning ∨ s.engState e = engHalted) then
    (s.updEngine e (fun x => { x with ask := false, tcst := 1 })).engRaise e 1
  else s

/-- ENGINE_COMMIT (R211): the take unit's commit reaches an engine. -/
def execEngineCommit (e : Nat) (s : State) : Res := .next (s.engCommit e)

/-- The take unit signals a rollback (R182): an engine in SPEC state rolls back once it can; one that has not yet
checkpointed forgets the request. -/
def State.engRollbackAsk (s : State) (e : Nat) : State :=
  s.updEngine e (fun x => { x with ask := false, rollback := x.rollback || s.inSpec e })

/-- ENGINE_ROLLBACK (R211): outside any handler and atomic group the engine restores its checkpoint, discards the
provisional words and its speculative DMA, leaves SPEC state at the checkpoint PC and gets the take-commit interrupt with ROLLBACK. -/
def execEngineRollback (e : Nat) (s : State) : Res :=
  let x := s.engine e
  match x.chk with
  | some c =>
    if x.rollback ∧ s.inSpec e ∧ ¬ s.inHandler e ∧ x.atom = 0 then
      let s1 := s.setEngine e { x with
        sreg := c.s, vreg := c.v, acc := c.a, lc0 := c.lc0, lc1 := c.lc1, bexp := c.bexp, sat := c.sat, loops := c.loops,
        fly := [], br := none, writ := [], chk := none, rollback := false, tcst := 2, openB := {} }
      .next ((((s1.dmaRestore e c).wr (Reg.ENG.STATUS.PC e) c.pc).wr (Reg.ENG.STATUS.SPEC e) 0).engRaise e 1)
    else .next s
  | none => .next s

/-! ## Watchdog (R218) -/

/-- ENGINE_WATCHDOG_DEADLINE (R218): MARGIN slots into the tick, with no t.done for the tick just ended the miss is counted and the fault interrupt
raised with cause WDOG; in a handler, or at the second deadline missed in a row, the engine stops FAULTED. -/
def execEngineWatchdogDeadline (e : Nat) (s : State) : Res :=
  let x := s.engine e
  if s.engState e = engRunning ∧ s.isSet (Reg.ENG.WDOG.EN e) ∧ s.engOn e ∧ s.slot = s.rd (Reg.ENG.WDOG.MARGIN e) then
    if x.done.any (fun d => decide (s.now ≤ d + 1)) then .next (s.setEngine e { x with missed := 0 })
    else
      let s1 := (((s.bump (Reg.ENG.COUNT.WDOG_CNT e)).engCause e 5 (s.engPc e) 0).engRaise e 0).updEngine e
        (fun y => { y with missed := y.missed + 1 })
      .next (if s.inHandler e ∨ 1 ≤ x.missed then s1.setEngState e engFaulted else s1)
  else .next s

/-! ## March unit (R225, R226) -/

/-- MARCH_GROUP: the march unit tests the next group of a cluster's memory; a verify step that fails (bank, row,
column) is recorded, raised and listed for repair. -/
def execMarchGroup (c : Nat) (fail : Option (Nat × Nat × Nat)) (s : State) : Res :=
  if c < s.nClusters ∧ (s.dom (5 + c) = 3 ∨ s.dom (5 + c) = 2) then
    let g := s.rd (Reg.CLU.MARCH.GROUP c)
    let s1 := s.wr (Reg.CLU.MARCH.GROUP c) ((g + 1) % 32768)
    let s2 := if g = 32767 then s1.bump (Reg.CLU.MARCH.PASS_CNT c) else s1
    match fail with
    | some (b, r, k) =>
      .next ((((((s2.wr (Reg.CLU.MARCH_FAIL.BANK c) b).wr (Reg.CLU.MARCH_FAIL.ROW c) r).wr (Reg.CLU.MARCH_FAIL.COLUMN c) k).bump
        (Reg.CLU.MARCH_FAIL.FAIL_CNT c)).evt (Reg.CLU.EVENT.MARCH_FAIL c)).addCand c b k 1)
    | none => .next s2
  else .next s

/-! ## Starting and stopping (R229, R231, R232) -/

/-- An engine starts at its ENTRY with the watchdog word given (R231); nothing of an earlier speculation is left. -/
def State.engStart (s : State) (e wdog : Nat) : State :=
  if (s.engState e = engLoaded ∨ s.engState e = engStopped) ∧ s.engOn e then
    let x := s.engine e
    let s1 := (s.wr (Reg.ENG.STATUS.SPEC e) 0).setEngine e { x with
      fly := [], br := none, atom := 0, loops := [], sloops := [], openB := {}, exc := none, pend := 0, wait := false, fresh := false,
      ask := false, chk := none, rollback := false, writ := [],
      done := if s.now = 0 then none else some (s.now - 1), missed := 0 }
    (((s1.setEngState e engRunning).wr (Reg.ENG.STATUS.PC e) x.entry).wr (Reg.ENG.STATUS.HANDLER e) 0).setReg (Reg.ENG.WDOG e)
      (BitVec.ofNat 32 wdog)
  else s

/-- A halt of engine `e` ends: contracts HELD for it alone resume at the next boundary (R539, R541). -/
def State.haltOver (s : State) (e : Nat) : State :=
  let held := (s.led.contracts.filter (fun x => x.2.st == .held && s.contractEngine x.2 e)).map (·.1)
  held.foldl (fun t i =>
    if (List.range 256).any (fun x => x != e && t.engState x == engHalted && t.contractEngine (t.contract i) x) then t
    else t.ceaseHold i .halt) s

/-- An engine stops at a boundary: results drain, and it enters STOPPED (R232). -/
def State.engStopNow (s : State) (e : Nat) : State :=
  if s.engState e = engRunning ∨ s.engState e = engFaulted ∨ s.engState e = engHalted then
    let s1 := if s.engState e = engHalted then s.haltOver e else s
    ((s1.engDrain e).updEngine e (fun x => { x with haltReq := false })).setEngState e engStopped
  else s

/-- An engine is told to stop: inside an atomic group it stops at its end (R228, R229, R232). -/
def State.engStopAsk (s : State) (e : Nat) : State :=
  if s.engState e = engRunning ∧ (s.engine e).atom ≠ 0 then s.schedule s.now (.engStop e) else s.engStopNow e

/-- The engines that a contract uses. -/
def State.enginesOf (s : State) (c : Contract) : List Nat := (List.range 256).filter (fun e => s.contractEngine c e)

/-- The engines of a contract start at its activation tick (R229). -/
def State.startStages (s : State) (i : Nat) : State :=
  (s.enginesOf (s.contract i)).foldl (fun t e => t.engStart e (s.reg (Reg.ENG.WDOG e)).toNat) s

/-- A contract enters RELEASED, and its engines stop (R55, R229). -/
def State.releaseContract (s : State) (i : Nat) : State :=
  let es := s.enginesOf (s.contract i)
  let s1 := s.enterReleased i
  es.foldl (fun t e => if (t.engContract e).isSome then t else t.engStopAsk e) s1

/-- The engines FIRST to FIRST + COUNT − 1. -/
def engRange (first count : Nat) : List Nat := (List.range count).map (fun i => first + i)

/-- A bad engine range: COUNT out of 1–32, beyond 255, or across two clusters (R230–R232). -/
def badRange (first count : Nat) : Bool :=
  count == 0 || decide (32 < count) || decide (256 < first + count) || first / 32 != (first + count - 1) / 32

/-- Does a blob break R230 or R568? -/
def blobBad (b : List Byte) : Bool :=
  decide (b.length < 32) || u32 b 0 != 0x4750515A || u16 b 4 != 1 || u16 b 6 == 0 || decide (2048 < u16 b 6) ||
  decide (u16 b 6 ≤ u16 b 8) || decide (2047 < u16 b 10) || u32 b 12 % 32 != 0 || decide (65536 < u32 b 12) ||
  decide (1 < u8 b 16) || !zeroAt b 17 15 || b.length != 32 + 16 * u16 b 6 + u32 b 12

/-- Load a blob into an engine: program memory, LDM, header fields; the engine is LOADED (R230). -/
def State.engLoad (s : State) (e desc : Nat) (b : List Byte) : State :=
  let n := u16 b 6
  let x := s.engine e
  let s1 := s.setEngine e { x with
    prog := Memory.writeN [] 0 ((b.drop 32).take (16 * n)), nb := n, entry := u16 b 8, vec := u16 b 10, desc := desc,
    ldm := x.ldm.writeN 0 ((b.drop (32 + 16 * n)).take (u32 b 12)), sel := [], writ := [] }
  ((s1.setEngState e engLoaded).wr (Reg.ENG.STATUS.SPEC_EN e) (u8 b 16)).wr (Reg.ENG.STATUS.PC e) (u16 b 8)

/-- Does a range name an absent engine, or one that is powered down (R3, R5)? -/
def State.rangeAbsent (s : State) (es : List Nat) : Bool := es.any (fun e => decide (e < 256) && !s.engPresent e)
def State.rangeOff (s : State) (es : List Nat) : Bool := es.any (fun e => decide (e < 256) && !s.engOn e)

/-- The body of ENGINE_LOAD (R230). -/
def cmdEngineLoad (h : Hdr) (p : List Byte) (_floor : Nat) (s : State) : Ans :=
  let first := u16 p 12
  let count := u8 p 14
  let desc := u16 p 16
  let es := engRange first count
  Ans.check s [(s.rangeAbsent es, Sts.unitAbsent), (s.rangeOff es, Sts.domainOff)]
   (match s.readBuf h (u64 p 0) (min (u32 p 8) 131072) with
   | none => s.dataErr h
   | some b =>
    Ans.check s
      [(u8 p 15 != 0 || !zeroFrom p 18 || badRange first count || h.spiBad (u64 p 0) (u32 p 8) ||
         (u32 p 8 != b.length) || blobBad b || (desc != 0 && !s.costKnown desc), Sts.badParam),
       (es.any (fun e => s.engState e == engRunning || s.engState e == engHalted), Sts.badState),
       (es.any (fun e => (s.engContract e).isSome), Sts.wouldBreak)]
      (Ans.say (es.foldl (fun s e => s.engLoad e desc b) s) Sts.ok 0 (toLe 2 (u16 b 6))))

/-- ENGINE_LOAD (R230). -/
def execEngineLoad (h : Hdr) (p : List Byte) (s : State) : Res := .next (command 0x0601 h p (cmdEngineLoad h p) s)

/-- The body of ENGINE_START (R231). -/
def cmdEngineStart (p : List Byte) (floor : Nat) (s : State) : Ans :=
  let first := u16 p 0
  let count := u8 p 2
  let es := engRange first count
  let eff := effTick (u64 p 8) (max (s.now + 1) floor)
  Ans.check s
    [(s.rangeAbsent es, Sts.unitAbsent),
     (s.rangeOff es, Sts.domainOff),
     (badRange first count || decide (1 < u8 p 3) || u32 p 4 == 0 || decide (255 < u32 p 4) ||
       !zeroFrom p 16, Sts.badParam),
     (es.any (fun e => (s.engState e != engLoaded && s.engState e != engStopped) || (s.engContract e).isSome), Sts.badState)]
    (Ans.say (es.foldl (fun t e => t.schedule eff.1 (.engStart e (u8 p 3 + u32 p 4 * 256))) s) eff.2 eff.1 [])

/-- ENGINE_START (R231). -/
def execEngineStart (h : Hdr) (p : List Byte) (s : State) : Res := .next (command 0x0602 h p (cmdEngineStart p) s)

/-- The body of ENGINE_STOP (R232). -/
def cmdEngineStop (p : List Byte) (floor : Nat) (s : State) : Ans :=
  let first := u16 p 0
  let count := u8 p 2
  let es := engRange first count
  let eff := effTick (u64 p 8) (max (s.now + 1) floor)
  Ans.check s
    [(s.rangeAbsent es, Sts.unitAbsent),
     (s.rangeOff es, Sts.domainOff),
     (badRange first count || !zeroAt p 3 5 || !zeroFrom p 16, Sts.badParam),
     (es.any (fun e => (s.engContract e).isSome), Sts.wouldBreak)]
    (Ans.say (es.foldl (fun t e => t.schedule eff.1 (.engStop e)) s) eff.2 eff.1 [])

/-- ENGINE_STOP (R232). -/
def execEngineStop (h : Hdr) (p : List Byte) (s : State) : Res := .next (command 0x0603 h p (cmdEngineStop p) s)

/-- The body of ENGINE_STATUS (R233). -/
def cmdEngineStatus (p : List Byte) (_floor : Nat) (s : State) : Ans :=
  let e := u16 p 0
  let x := s.engine e
  let b := fun (c : Bool) (i : Nat) => if c then 2 ^ i else 0
  Ans.check s
    [(decide (e < 256) && !s.engPresent e, Sts.unitAbsent),
     (decide (e < 256) && decide (s.dom (5 + e / 32) < 2), Sts.domainOff),
     (decide (255 < e) || !zeroFrom p 2, Sts.badParam)]
    (Ans.say s Sts.ok 0 (
      [BitVec.ofNat 8 (s.engState e), BitVec.ofNat 8 (b (s.inSpec e) 0 + b (s.inHandler e) 1 +
        b (s.isSet (Reg.ENG.STATUS.SPEC_EN e)) 2 + b (s.isSet (Reg.ENG.WDOG.EN e)) 3)] ++
      toLe 2 (s.engPc e) ++ [BitVec.ofNat 8 (s.rd (Reg.ENG.FAULT.CAUSE e)), 0] ++ toLe 2 x.desc ++
      toLe 2 (s.rd (Reg.ENG.COUNT.WDOG_CNT e)) ++ toLe 2 ((s.engContract e).getD 0xFFFF)))

/-- ENGINE_STATUS (R233). -/
def execEngineStatus (h : Hdr) (p : List Byte) (s : State) : Res := .next (command 0x0604 h p (cmdEngineStatus p) s)

/-- A cluster leaves ON: its engines lose program, LDM and registers and come up EMPTY; OFF also loses the cluster
memory (R227). The registers of the cluster's domain are cleared with its power by the sequencer. -/
def State.clusterDown (s0 : State) (c : Nat) (off : Bool) : State :=
  let s := (List.range 32).foldl (fun t i => (t.orphan (16 + 32 * c + i)).engMailLost (32 * c + i)) s0
  { s with eng := { s.eng with
    eng := SMap.keep (fun e => e / 32 != c) s.eng.eng, dmaq := SMap.keep (fun e => e / 32 != c) s.eng.dmaq,
    cmem := if off then SMap.keep (fun a => a / 2 ^ 23 != c) s.eng.cmem else s.eng.cmem } }

end Sys2Proof.Machine
end

