-- ==== Sys2Proof/Machine/TakeOps.lean ====
section
/-! DEFINITION. What takes and contracts share (05_takes.md): switchable egresses and their roles (R168, R171), take
timing (R173), speculation and rollback (R177, R179, R182), and cancelling the takes of a released contract (R172). -/

namespace Sys2Proof.Machine

/-- The key of a destination entry of a contract. -/
def egKey (i dst : Nat) : Nat := i * 16 + dst

def State.egress (s : State) (k : Nat) : Egress := SMap.get (fun _ => ({} : Egress)) s.take.egress k
def State.setEgress (s : State) (k : Nat) (e : Egress) : State :=
  { s with take := { s.take with egress := SMap.set (fun _ => ({} : Egress)) s.take.egress k e } }
def State.updEgress (s : State) (k : Nat) (f : Egress → Egress) : State := s.setEgress k (f (s.egress k))
def State.setTakes (s : State) (l : List PTake) : State := { s with take := { s.take with pend := l } }

/-- The egress whose PROGRAM or PRESET chain is contract `i`, with the role: true PROGRAM. -/
def State.roleOf (s : State) (i dst : Nat) : Option (Nat × Bool) :=
  if (s.contract i).d.switchable then some (egKey i dst, (s.egress (egKey i dst)).preset != i + 1)
  else match s.take.egress.find? (fun e => e.2.program == i + 1 || e.2.preset == i + 1) with
    | some e => some (e.1, e.2.program == i + 1)
    | none => none

/-- The window in lines and slots a preset is armed with (R173). -/
def State.armedWin (s : State) (i : Nat) : Option (Nat × Nat) :=
  if !(s.contract i).d.preset then none
  else (s.roleOf i 0).bind (fun r => let e := s.egress r.1; if e.wSlots = 0 then none else some (e.w, e.wSlots))

/-- Does contract `i`'s chain hold the PRESET role at its destination, so that its output is discarded there, or did it until it was
released (R171)? -/
def State.isPreset (s : State) (i dst : Nat) : Bool := (s.roleOf i dst).any (fun r => !r.2) || (s.contract i).shadow.contains dst

/-- The same for a frame that began at `frame`, in the units of the tick's edge: each landing after that changed the roles (R171, R181). -/
def State.isPresetAt (s : State) (i dst : Nat) (frame : Int) : Bool :=
  let flips := match s.roleOf i dst with
    | some r => (s.egress r.1).swaps.countP (fun t => decide (frame < t))
    | none => 0
  s.isPreset i dst != (flips % 2 == 1)

/-- Does an egress carry HELD substitute content since its latest landing: a hold of that moment lasts (R185)? -/
def State.egressHeld (s : State) (k : Nat) : Bool :=
  (s.egress k).heldBy.any (fun x => (s.contract x.1).st == .held && (s.contract x.1).changeTick == x.2)

/-- Run-ahead is on in the present posture (R61). -/
def State.runAhead (s : State) : Bool := s.posture != 1

/-- Cutoff in slots of the present posture (R61). -/
def State.cutoff (s : State) : Nat := if s.posture = 1 then 256 else 8

/-- The engines of the stages downstream of a switchable contract's switch point (R170, R179). -/
def State.downEngines (s : State) (k : Nat) : List Nat :=
  let c := s.contract (k / 16)
  let down := c.d.stages.drop (Config.switchPoint (c.d.stages.map (·.desc)))
  (List.range 256).filter (fun e => (s.engine e).desc != 0 &&
    down.any (fun g => g.kind == 1 && g.desc == (s.engine e).desc && s.stageCluster g c.pick == e / 32))

/-- Of those engines, the ones that take the speculative copy for the next window (R212). -/
def State.specEngines (s : State) (k : Nat) : List Nat := (s.downEngines k).filter (fun e => Config.specCopy k e != (s.egress k).turn)

/-- The tiles of the stages downstream of the switch point (R179). -/
def State.downTiles (s : State) (k : Nat) : Nat :=
  let c := s.contract (k / 16)
  (c.d.stages.drop (Config.switchPoint (c.d.stages.map (·.desc)))).foldl (fun a g =>
    if g.kind = 2 then a ||| (s.cost g.desc).tiles else a) 0

/-- The stage of a molt that swaps next, as its mask. -/
def State.nextStage (s : State) : Nat := s.molt.stages.getD (s.rd Reg.MOLT.STATUS.NEXT - 1) 0

/-- Own stages run: a plain molt, or the half of a staggered one whose turn it is (R309). -/
def State.ownStages (s : State) : Bool :=
  s.isSet Reg.MOLT.STATUS.COMMIT_PEND && s.rd Reg.MOLT.STATUS.NEXT != 0 && decide (s.rd Reg.MOLT.STATUS.STAGGER < 2)

/-- Tiles that get no SPEC: those whose stage swaps at the next boundary (R305 step 1). -/
def State.specless (s : State) : Nat := if s.ownStages ∧ s.molt.tick = s.now + 1 then s.nextStage else 0

/-- The take unit's strobe for an egress at the taps of its downstream tiles: 1 SPEC, 2 COMMIT, 3 ROLLBACK, with SPEC_CTX, in ascending
order of it (R282). -/
def State.strobe (s : State) (kind k : Nat) : State :=
  let x := (kind, k / 16 + 4096 * (k % 16))
  let add := fun (l : List (Nat × Nat)) => l.filter (fun y => decide (y.2 ≤ x.2)) ++ x :: l.filter (fun y => !decide (y.2 ≤ x.2))
  let m := if kind = 1 then s.downTiles k - (s.downTiles k &&& s.specless) else s.downTiles k
  ({ s with cells := SMap.mapAll (fun _ => ({} : TileSt)) (fun t c => if bit m t then { c with pulses := add c.pulses } else c) s.cells } :
    State).emit (.fabric kind k m)

/-- Does a contract have a stage, or an end, on fabric port `n` (R286)? -/
def State.onFport (s : State) (ctx n : Nat) : Bool :=
  (s.contract (ctx % 4096)).st != .released &&
  (s.contract (ctx % 4096)).charges.any (fun x => x.res == 3 && x.inst == n)

/-- Is a packet an egress's speculative one (R287)? -/
def LinePkt.specOf (x : LinePkt) (k : Nat) : Bool := x.spec && egKey (x.ctx % 4096) (x.ctx / 4096) == k

/-- A commit makes an egress's speculative line-packets ordinary ones (R181, R287). -/
def State.keepSpec (s : State) (k : Nat) : State :=
  let f := updWhere (fun x => x.specOf k) (fun x => { x with spec := false })
  { s with strm := { s.strm with xbar := f s.strm.xbar, arrived := SMap.mapAll (fun _ => []) (fun _ l => f l) s.strm.arrived } }

/-- A rollback takes them back (R182, R287). -/
def State.dropSpec (s : State) (k : Nat) : State :=
  let f := List.filter (fun (x : LinePkt) => !x.specOf k)
  { s with strm := { s.strm with xbar := f s.strm.xbar, arrived := SMap.mapAll (fun _ => []) (fun _ l => f l) s.strm.arrived } }

/-- Start speculative work for an egress (R177, R179): the provisional buffer, the engines' checkpoints, the
fabric's speculate strobe (kind 1). -/
def State.speculate (s : State) (k tick trans : Nat) : State :=
  let s1 := s.updEgress k (fun e => { e with spec := some (tick, trans) })
  ((s.specEngines k).foldl (fun t e => t.engAsk e k) s1).strobe 1 k

/-- Roll an egress's speculation back (R182): engines restore, the provisional buffer is freed, the fabric gets its
rollback strobe (kind 3); counted and raised. -/
def State.rollback (s : State) (k : Nat) : State :=
  if (s.egress k).spec.isNone then s
  else
    let s1 := s.updEgress k (fun e => { e with spec := none })
    let s2 := ((s.downEngines k).foldl (fun t e => t.engRollbackAsk e) s1).strobe 3 k |>.dropSpec k
    (s2.evt Reg.TAKE.EVENT.ROLLED_BACK).bump Reg.TAKE.COUNT.ROLLBACK_CNT

/-- A take that waits for the twin partner and is cancelled: its command is answered BAD_STATE and withdrawn there, and so is an abort of
it (R187; DESIGN CHOICE of the status, notes/assumptions/100.md). -/
def State.dropTwinTake (s : State) (t : PTake) : State :=
  let id := (s.contract t.idx).id t.idx
  let s1 := if t.wait then
      let u := s.emit (.twinTake 4 id t.dst t.tick false 0)
      match t.hdr with | some h => u.answer h Sts.badState 0 [] | none => u
    else s
  match t.abort with
  | some h => (s1.emit (.twinTake 4 id t.dst t.tick true 0)).answer h Sts.badState 0 []
  | none => s1

/-- Cancel the takes pending on a contract's egresses for a tick or later: ABORTED (R172). -/
def State.cancelTakes (s : State) (i from_ : Nat) : State :=
  let gone := s.take.pend.filter (fun t => t.idx == i && decide (from_ ≤ t.tick))
  if gone.isEmpty then s
  else
    let s1 := (s.setTakes (s.take.pend.filter (fun t => !(t.idx == i && decide (from_ ≤ t.tick))))).evt Reg.TAKE.EVENT.ABORTED
    gone.foldl (fun u t => (u.dropTwinTake t).rollback (egKey i t.dst)) s1

/-- A contract's outputs stop at its release tick (R54, R77): ADMITTED enters RELEASED, a running one RELEASING. -/
def State.endContract (s : State) (i : Nat) : State :=
  match (s.contract i).st with
  | .admitted => s.releaseContract i
  | .active | .starved | .held =>
    (s.updContract i (fun c => { c with st := .releasing, changeTick := s.now, relTick := none, holds := [] })).leaveDegraded
      (s.contract i).st
  | _ => s

/-- Release contract `i` at the present tick; a switchable one takes its armed presets with it and cancels the takes
pending on its egresses (R77, R172). The units of a chain in the PRESET role stay discarded (R171). -/
def State.applyRelease (s : State) (i : Nat) : State :=
  let c := s.contract i
  let mine := s.take.egress.filter (fun e => e.1 / 16 == i)
  let pair := (mine.flatMap (fun e => [e.2.program, e.2.preset])).filter (fun x => x != 0 && x != i + 1)
  let shade := fun (t : State) (x dst : Nat) => t.updContract x (fun c => { c with shadow := c.shadow ++ [dst] })
  let s0 := if c.d.switchable then (s.cancelTakes i s.now) else s
  let s1 := if c.d.switchable then
      mine.foldl (fun t e =>
        if e.2.preset = 0 then t else if e.2.preset = i + 1 then shade t i (e.1 % 16) else shade t (e.2.preset - 1) 0) s0
    else if s0.isPreset i 0 then shade s0 i 0 else s0
  let s2 := pair.foldl (fun t x => t.endContract (x - 1)) s1
  let s3 := s2.endContract i
  if c.d.switchable then
    let s4 := mine.foldl (fun t e => t.rollback e.1) s3
    { s4 with take := { s4.take with egress := SMap.keep (fun k => k / 16 != i) s4.take.egress } }
  else match s3.roleOf i 0 with
    | some (k, _) => s3.updEgress k (fun e => { e with preset := 0 })
    | none => s3

/-- A transition as one number: kind, pattern, duration (R192, R194). -/
def transKey (trans pattern dur : Nat) : Nat := trans + 256 * pattern + 65536 * dur

/-- Has a pending take's cutoff passed (R173, R177)? -/
def State.pastCutoff (s : State) (t : PTake) : Bool :=
  t.final || decide (t.tick ≤ s.now) || (t.tick == s.now + 1 && decide (s.slots ≤ s.slot + t.cutoff))

/-- Takes that will land on tick `t`, besides the one that a take for egress `k` would replace (R176, R183). -/
def State.takesOn (s : State) (k t : Nat) : Nat :=
  s.take.pend.countP (fun x => x.tick == t && !(egKey x.idx x.dst == k && !s.pastCutoff x))

/-- Has a take for egress `k` a place on tick `t`: fewer than 64 land there, and no take of `k` itself that can no longer be replaced
(R176, R183)? -/
def State.room (s : State) (k t : Nat) : Bool :=
  decide (s.takesOn k t < 64) && !s.take.pend.any (fun x => egKey x.idx x.dst == k && x.tick == t && s.pastCutoff x)

/-- The first tick from `t` on with room for a take of egress `k` (R176). -/
def State.roomFrom (s : State) (k t : Nat) : Nat :=
  ((List.range 512).find? (fun i => s.room k (t + i))).elim t (t + ·)

/-- A forbidden access in speculation for an egress (R180): rolled back and counted; the take pending for that tick lands
at the next tick with room, its work of that tick not speculative; LATE. -/
def State.specFault (s : State) (k : Nat) : State :=
  match (s.egress k).spec with
  | none => s
  | some (tick, _) =>
    let s1 := ((s.rollback k).evt Reg.TAKE.EVENT.SPEC_FAULT).bump Reg.TAKE.ERR_CNT.SPEC_FAULT_CNT
    let mine := fun (t : PTake) => egKey t.idx t.dst == k && t.tick == tick
    if s1.take.pend.any mine then
      let t2 := s1.roomFrom k (tick + 1)
      ((s1.setTakes (updWhere mine (fun t => { t with tick := t2, plain := true, final := false }) s1.take.pend)).evt
        Reg.TAKE.EVENT.LATE).bump Reg.TAKE.ERR_CNT.LATE_CNT
    else s1

end Sys2Proof.Machine
end

