-- ==== Sys2Proof/Machine/Contracts.lean ====
section
/-! DEFINITION. Contracts at work (02_ledger.md): proposals and their batch (R65–R67, R87), activation and release
(R54, R71, R77), cross-device admission (R80, R81, R443), output units and misses (R72–R76), postures (R62, R93) and
the ledger's other commands. -/

namespace Sys2Proof.Machine

/-! ## Proposals (R65, R87) -/

/-- Proposals received in the present tick. -/
def State.openBatch (s : State) : Nat := s.led.props.countP (fun x => x.rcvd == s.now)

def State.addProp (s : State) (x : Proposal) : State := { s with led := { s.led with props := s.led.props ++ [x] } }

/-- Does proposal `a` go before `b` by receipt: the earlier time, at equal times the lower transport (R65, R115)? -/
def Proposal.before (a b : Proposal) : Bool :=
  decide (a.rcvd < b.rcvd) || (a.rcvd == b.rcvd && (decide (a.h.ns < b.h.ns) || (a.h.ns == b.h.ns && decide (a.h.rank < b.h.rank))))

/-- Insert behind every proposal that it does not go before. -/
def insProp (x : Proposal) : List Proposal → List Proposal
  | [] => [x]
  | y :: ys => if x.before y then x :: y :: ys else y :: insProp x ys

/-- Proposals in order of receipt (R65). -/
def byReceipt (l : List Proposal) : List Proposal := l.foldl (fun a x => insProp x a) []

/-- The body of CONTRACT_PROPOSE (R87): the descriptor is read in full at receipt and waits for its batch. -/
def cmdContractPropose (h : Hdr) (p : List Byte) (_floor : Nat) (s : State) : Ans :=
  if 64 ≤ s.openBatch then Ans.err s Sts.busy
  else match s.readBuf h (u64 p 0) (min (u32 p 8) 1825) with
    | none => s.dataErr h
    | some d => Ans.wait (s.addProp
        { h := h, desc := d, dry := h.dryRun, twin := h.twinApply, rcvd := s.now,
          bad := !zeroFrom p 12 || h.spiBad (u64 p 0) (u32 p 8) })

/-- CONTRACT_PROPOSE (R87). -/
def execContractPropose (h : Hdr) (p : List Byte) (s : State) : Res :=
  .next (command 0x0301 h p (cmdContractPropose h p) s)

/-! ## Admission (R66–R71, R80, R82, R169) -/

/-- Is a source entry lost at present: a port without a locked signal of its format, a flow that is lost (R155)? -/
def State.srcLost (s : State) (e : EndPt) : Bool :=
  s.isLocal e.dev && !e.backup &&
  ((e.kind == 1 && !(s.isSet (Reg.STRM.PORT_STATUS.LOCKED e.index) &&
      fmtSame (s.rd (Reg.STRM.PORT_PID.FORMAT e.index)) e.format (s.isSet (Reg.STRM.PORT_STATUS.PID_VALID e.index)))) ||
   (e.kind == 2 && (s.flowDyn e.index).lost))

/-- The source entries lost at present. -/
def State.lostNow (s : State) (d : CDesc) : List Nat :=
  (List.range d.srcs.length).filter (fun k => s.srcLost (d.srcs.getD k {}))

/-- The lowest table index whose entry is RELEASED (DESIGN CHOICE, notes/assumptions/15.md), if any of 4,096 is. -/
def State.freeIndex (s : State) : Option Nat := (List.range 4096).find? (fun i => (s.contract i).st == .released)

/-- The next generation of an index: it skips 0 (R52). -/
def nextGen (g : Nat) : Nat := if 2 ^ 20 ≤ g + 1 then 1 else g + 1

/-- The switchable contract a preset's descriptor names, with an egress equal to the preset's (R168). -/
def State.parentOf (s : State) (d : CDesc) : Option Nat :=
  match s.findContract d.parent with
  | some i =>
    let c := s.contract i
    let e := d.dsts.getD 0 {}
    if c.d.switchable && c.st != .released && d.dsts.length == 1 &&
        c.d.dsts.contains e then some i
    else none
  | none => none

/-- Does another contract than a preset's own pair already drive an egress flow entry of the descriptor (R146)? -/
def State.egressTaken (s : State) (d : CDesc) (parent : Option Nat) : Bool :=
  (s.led.contracts.filter (fun x => x.2.st != .released &&
      some x.1 != parent && !(parent.isSome && x.2.d.preset && s.findContract x.2.d.parent == parent))).any (fun x =>
    x.2.d.dsts.any (fun e => e.kind == 2 && s.isLocal e.dev &&
      d.dsts.any (fun f => f.kind == 2 && s.isLocal f.dev && f.index == e.index)))

/-- The failure result of R87: resource, instance, slot, shortfall, device. -/
def failBytes (res inst slot short dev : Nat) : List Byte :=
  [BitVec.ofNat 8 res, BitVec.ofNat 8 inst] ++ toLe 2 slot ++ toLe 4 short ++ toLe 2 dev

/-- What the checks of R66 give a proposal: a refusal with its result bytes, or its bound and charges. -/
inductive Verdict where
  | no (status : Nat) (result : List Byte)
  | yes (bound : Nat) (charges : List Charge)

/-- The first refusal of a list, in order. -/
def firstNo : List (Bool × Nat × List Byte) → Verdict → Verdict
  | [], v => v
  | (c, st, r) :: t, v => if c then .no st r else firstNo t v

/-- Does a path of the contract cross a quarantined link (R445)? -/
def State.pathBlocked (s : State) (d : CDesc) : Bool :=
  (s.pathDevs d).any (fun v => (s.linkTo v).any (fun k => s.rd (Reg.DOLMET.LINK_STATUS.STATE k) == 4))

/-- What of a proposal this device admits: on its owner, and on a device alone, all of it; on a path device its endpoints, whose stages
run on the owner (R80; DESIGN CHOICE, notes/assumptions/95.md). -/
def Proposal.part (x : Proposal) : CDesc :=
  let d := parseDesc x.desc
  if x.owner = 0 then d else { d with stages := [] }

/-- The checks of R66 on one proposal, with usage from every contract not RELEASED (R67, R169, R570). A full contract table, or one
that could only give index 4,095 to 16 destinations, falls short by 1 (DESIGN CHOICE, notes/assumptions/96.md). -/
def State.judge (s : State) (x : Proposal) : Verdict :=
  let d := x.part
  let bad := x.bad || s.descBad x.desc (x.owner != 0)
  let par := if d.preset then s.parentOf d else none
  let sw := par.map (fun i => (s.contract i).d)
  let bound := s.bound d
  let dem := s.demand d sw (s.freeIndex.getD 0)
  firstNo
    [(s.mode != 3 && s.mode != 4, Sts.modeRefused, []),
     (s.descAbsent d, Sts.unitAbsent, []),
     (s.descOff d, Sts.domainOff, []),
     (bad || s.writesStore d || (d.preset && par.isNone), Sts.badParam, []),
     (!s.isSet (Reg.TICK.CAD_CFG.EN d.cadence) || s.egressTaken d par ||
       par.any (fun i => (s.contract i).st == .releasing), Sts.badState, []),
     (s.freeIndex.isNone || (s.freeIndex == some 4095 && d.dsts.length == 16), Sts.noCapacity, failBytes 0x10 0 0xFFFF 1 0),
     (d.boundReq != 0 && decide (d.boundReq < bound), Sts.noCapacity, failBytes 0x0F 0 0xFFFF (bound - d.boundReq) 0),
     (par.any (fun i => decide ((s.contract i).bound < bound)), Sts.noCapacity,
       failBytes 0x0F 0 0xFFFF (bound - (par.elim 0 (fun i => (s.contract i).bound))) 0),
     (s.pathBlocked d, Sts.disagrees, failBytes 0 0 0xFFFF 0 ((s.pathDevs d).headD 0))]
    (match s.firstFail (s.chargesOf s.live) dem with
     | some f => .no (if f.res = 11 then Sts.powerCap else Sts.noCapacity) (failBytes f.res f.inst f.slot f.amt 0)
     | none => .yes bound dem)

/-- Enter an admitted, or provisionally reserved, contract into the table (R52, R66, R80). -/
def State.newContract (s : State) (i gen : Nat) (x : Proposal) (bound : Nat) (ch : List Charge) (prov : Bool) : State :=
  let d := x.part
  let s1 := s.setContract i {
    gen := gen, st := if prov then .proposed else .admitted, d := d, bound := bound, charges := ch,
    admitTick := s.now, changeTick := s.now, order := s.led.admitted, pick := i, earliest := s.now + 2, lost := s.lostNow d,
    owner := x.owner, ownerId := x.ownerId, path := s.pathDevs d, links := s.pathLinks d, prov := prov, provTick := s.now, twin := x.twin }
  { s1 with led := { s1.led with admitted := s1.led.admitted + 1 } }

/-- Drop a provisional reservation: no entry is kept (R54, R80). -/
def State.dropContract (s : State) (i : Nat) : State := (s.dropWork i).setContract i { gen := (s.contract i).gen }

/-- An OK reply's result: contract ID, bound, earliest activation tick (R87). -/
def okBytes (id bound earliest : Nat) : List Byte := toLe 4 id ++ toLe 4 bound ++ toLe 8 earliest

/-- Answer a proposal at the tick of the reply (R87); the twin partner's copy answers no one (R82); a path device sends its vote
(R80). -/
def State.answerProp (s : State) (x : Proposal) (status : Nat) (result : List Byte) : State :=
  if x.owner ≠ 0 then s.emit (.xdev x.owner (if status = Sts.ok then 1 else 2) x.ownerId s.now [])
  else if x.partner then s
  else s.answer x.h status s.now result

/-- A contract's charges under a substitution policy (R157, R167), with the choices of its admission kept (R150). -/
def State.redemand (s : State) (i policy : Nat) : List Charge :=
  let c := s.contract i
  let sw := if c.d.preset then (s.findContract c.d.parent).map (fun j => (s.contract j).d) else none
  s.demand { c.d with subst := policy } sw i (s.armedWin i)

/-- The hold buffers of a contract's outputs, the extra demand of a policy that needs them (R157, R167). -/
def State.holdDemand (s : State) (i : Nat) : List Charge := s.roundItems (s.holdItems (s.contract i).d i)

/-- A twin vote of this device on a proposal under TWIN_APPLY, with the ID it gives the contract (R82). -/
def State.vote (s : State) (x : Proposal) (yes : Bool) (id : Nat) : State :=
  if x.twin then s.emit (.twinVote x.h.seq yes id) else s

/-- The partner's vote on a proposal. -/
def voteOn (votes : List TwinVote) (x : Proposal) : Option TwinVote := votes.find? (fun t => t.seq == x.h.seq)

/-- What a vote that is missing, or says otherwise than this device, makes of a proposal under TWIN_APPLY (R82, R120). -/
def splitOf (votes : List TwinVote) (x : Proposal) (yes : Bool) : Option Nat :=
  if !x.twin then none
  else match voteOn votes x with
    | none => some Sts.unreachable
    | some t => if t.yes = yes then none else some Sts.disagrees

/-- Index and generation a new contract takes: its own lowest free index, or on a twin's partner those of the device that answers the
host, so that both carry one ID (R52, R82). None where they cannot be given. -/
def State.newIndex (s : State) (votes : List TwinVote) (x : Proposal) : Option (Nat × Nat) :=
  match (if x.partner then voteOn votes x else none) with
  | some t =>
    let i := t.id % 4096
    if (s.contract i).st = .released ∧ t.id / 4096 ≠ 0 then some (i, t.id / 4096) else none
  | none => s.freeIndex.map (fun i => (i, nextGen (s.contract i).gen))

/-- Admit a SUBST_POLICY change whose hold buffer is extra demand (R167): the buffers are charged from now, and with the change the
contract's charges become those of its descriptor with the new policy. -/
def State.judgeSubst (s : State) (votes : List TwinVote) (x : Proposal) (i policy nr : Nat) : State :=
  let c := s.contract i
  let dem := s.holdDemand i
  let fail := if c.st = .releasing ∨ c.st = .released then some (Sts.badState, [])
    else (s.firstFail (s.chargesOf s.live) dem).map (fun f =>
      (Sts.noCapacity, [BitVec.ofNat 8 c.d.subst, 0, 0, 0] ++ toLe 4 f.amt))
  let s0 := s.vote x fail.isNone 0
  match splitOf votes x fail.isNone, fail with
  | some st, _ => s0.answerProp x st []
  | none, some (st, r) => s0.answerProp x st r
  | none, none =>
    let eff := effTick x.substTick (s.now + 1)
    let s1 := (s0.updContract i (fun c => { c with charges := c.charges ++ dem })).schedule eff.1 (.subst i policy (nr == 1))
    if x.partner then s1 else s1.answer x.h eff.2 eff.1 [BitVec.ofNat 8 policy]

/-- A descriptor as it goes to a path device: DEVICE 0, which names the owner, becomes its mesh ID (R80, R570). -/
def forPath (own : Nat) (p : List Byte) : List Byte :=
  (List.range (u8 p 5 + u8 p 6)).foldl (fun b i =>
    let k := 32 + 16 * i + 2
    if u16 b k = 0 then b.take k ++ toLe 2 own ++ b.drop (k + 2) else b) p

/-- Evaluate one proposal (R66, R69, R80, R82): a dry run goes the whole way and reserves nothing. -/
def State.admitOne (votes : List TwinVote) (s : State) (x : Proposal) : State :=
  match x.subst with
  | some (i, pol, nr) => s.judgeSubst votes x i pol nr
  | none =>
    let d := x.part
    let v := s.judge x
    let at_ := s.newIndex votes x
    let yes := (match v with | .yes _ _ => true | .no _ _ => false) && at_.isSome
    let (i, gen) := at_.getD (0, 0)
    let s0 := s.vote x yes (gen * 4096 + i)
    match splitOf votes x yes, v with
    | some st, _ => s0.answerProp x st (failBytes 0 0 0xFFFF 0 s.twin.partner)
    | none, .no st r => s0.answerProp x st r
    | none, .yes bound ch =>
      if ¬ yes then s0
      else if d.xdev ∧ x.owner = 0 then
        let id := gen * 4096 + i
        let s1 := if x.dry then s0 else s0.newContract i gen x bound ch true
        let s2 := (s.pathDevs d).foldl (fun u dev => u.emit (.xdev dev (if x.dry then 7 else 0) id s.now (forPath s.meshId x.desc))) s1
        { s2 with led := { s2.led with
          xprops := s2.led.xprops ++ [⟨i, bound, x.h, s.now, (s.pathDevs d).map (fun dev => (dev, none)), x.dry⟩] } }
      else if x.dry then s0.answerProp x Sts.ok (okBytes 0 bound (s.now + 2))
      else if x.owner ≠ 0 then (s0.newContract i gen x bound ch true).answerProp x Sts.ok []
      else (s0.newContract i gen x bound ch false).answerProp x Sts.ok (okBytes (gen * 4096 + i) bound (s.now + 2))

/-- ADMISSION_BATCH (R65, R66): the proposals of earlier ticks are evaluated, ON_AIR first, then PREVIEW, then UTILITY,
each class in order of receipt; every one is answered, and the batch is done (cross-device replies follow at R80's
decision). -/
def execAdmissionBatch (votes : List TwinVote) (s : State) : Res :=
  let batch := s.led.props.filter (fun x => decide (x.rcvd < s.now))
  let cls : Proposal → Nat := fun x => match x.subst with | some (i, _, _) => (s.contract i).d.cls | none => u8 x.desc 1
  let rec_ := byReceipt batch
  let order := rec_.filter (fun x => cls x == 0) ++ rec_.filter (fun x => cls x == 1) ++ rec_.filter (fun x => decide (2 ≤ cls x))
  if batch.isEmpty then .next s
  else
    let s0 : State := { s with led := { s.led with props := s.led.props.filter (fun x => !decide (x.rcvd < s.now)) } }
    let s1 := order.foldl (State.admitOne votes) s0
    .next (if s1.led.xprops.any (fun y => y.batch == s.now) then s1 else s1.evt Reg.LEDGER.EVENT.BATCH_DONE)

/-! ## Cross-device contracts (R80, R81, R443) -/

/-- XDEV_PROPOSAL_RECEIVE (R65, R80 step 2): the owner's proposal joins this device's next batch; a batch with 64 proposals votes no at
once. -/
def execXdevProposalReceive (owner id n : Nat) (dry : Bool) (desc : List Byte) (s : State) : Res :=
  .next (if 64 ≤ s.openBatch then s.emit (.xdev owner 2 id s.now [])
    else s.addProp { h := ⟨.mesh owner, 0, 0, 0, [], 0⟩, desc := desc, dry := dry, rcvd := min s.now n, owner := owner, ownerId := id })

/-- XDEV_VOTE_RECEIVE (R80): a path device's vote. -/
def execXdevVoteReceive (src id : Nat) (yes : Bool) (s : State) : Res :=
  .next { s with led := { s.led with xprops := s.led.xprops.map (fun x =>
    if (nextGen (s.contract x.idx).gen * 4096 + x.idx = id ∧ x.dry) ∨ (s.contract x.idx).id x.idx = id then
      { x with votes := x.votes.map (fun v => if v.1 = src ∧ v.2.isNone then (src, some yes) else v) } else x) } }

/-- Decide one cross-device proposal at the boundary of N+2 (R80 step 3). -/
def State.decideX (s : State) (x : XProp) : State :=
  let id := (s.contract x.idx).id x.idx
  let tell := fun (u : State) (kind : Nat) => x.votes.foldl (fun w v => w.emit (.xdev v.1 kind id s.now [])) u
  match x.votes.find? (fun v => v.2 != some true) with
  | none =>
    if x.dry then s.answer x.h Sts.ok s.now (okBytes 0 x.bound (x.batch + 4))
    else
      let s1 := s.updContract x.idx (fun c => { c with
        prov := false, st := .admitted, admitTick := s.now, changeTick := s.now, earliest := x.batch + 4 })
      (tell s1 3).answer x.h Sts.ok s.now (okBytes id x.bound (x.batch + 4))
  | some (dev, v) =>
    let s1 := if x.dry then s else tell (s.dropContract x.idx) 4
    (s1.evt Reg.LEDGER.EVENT.XDEV_ABORT).answer x.h (if v = some false then Sts.disagrees else Sts.unreachable) s.now
      (failBytes 0 0 0xFFFF 0 dev)

/-- XDEV_DECISION (R80 step 3): every cross-device proposal whose boundary N+2 has come is decided. -/
def execXdevDecision (s : State) : Res :=
  let due := s.led.xprops.filter (fun x => decide (x.batch + 2 ≤ s.now))
  if due.isEmpty then .next s
  else
    let s0 : State := { s with led := { s.led with xprops := s.led.xprops.filter (fun x => !decide (x.batch + 2 ≤ s.now)) } }
    .next ((due.foldl State.decideX s0).evt Reg.LEDGER.EVENT.BATCH_DONE)

/-- The table index of a reservation made for another device's contract. -/
def State.ownedBy (s : State) (owner id : Nat) : Option Nat :=
  (s.led.contracts.find? (fun x => x.2.owner == owner && x.2.ownerId == id && owner != 0 && x.2.st != .released)).map (·.1)

/-- XDEV_COMMIT_RECEIVE (R80 step 4): the reservation becomes firm. -/
def execXdevCommitReceive (owner id : Nat) (s : State) : Res :=
  match s.ownedBy owner id with
  | some i =>
    if (s.contract i).prov then
      let s1 := s.updContract i (fun c => { c with prov := false, st := .admitted, admitTick := s.now, changeTick := s.now })
      .next { s1 with led := { s1.led with asking := SMap.erase i s1.led.asking } }
    else .next s
  | none => .next s

/-- XDEV_ABORT_RECEIVE (R80 step 4, R81): the reservation is dropped. Of a firm one the owner withdraws the activation or release it
forwarded, and the contract stays in its state. -/
def execXdevAbortReceive (owner id : Nat) (s : State) : Res :=
  match s.ownedBy owner id with
  | some i =>
    if (s.contract i).prov then
      let s1 := (s.dropContract i).evt Reg.LEDGER.EVENT.XDEV_ABORT
      .next { s1 with led := { s1.led with asking := SMap.erase i s1.led.asking } }
    else .next (((s.dropChange i).updContract i (fun c => { c with actTick := none, relTick := none })).showSwap)
  | none => .next s

/-- The provisional reservations held for other devices. -/
def State.provFor (s : State) : List (Nat × Contract) := s.led.contracts.filter (fun x => x.2.prov && x.2.owner != 0)

/-- XDEV_OWNER_QUERY (R81, R443): each reservation without COMMIT or ABORT by the end of tick N+3 asks its owner; the
reservation was made in tick N+1. -/
def execXdevOwnerQuery (s : State) : Res :=
  let ask := s.provFor.filter (fun x => decide (x.2.provTick + 2 < s.now))
  .next (ask.foldl (fun u x =>
    let u1 : State := if (SMap.get (fun _ => 0) u.led.asking x.1) = 0 then
        { u with led := { u.led with asking := SMap.insert x.1 u.now u.led.asking } } else u
    (u1.evt Reg.LEDGER.EVENT.XDEV_ABORT).emit (.xdev x.2.owner 5 x.2.ownerId u.now [])) s)

/-- XDEV_QUERY_RECEIVE (R443): the owner answers COMMIT for a contract it holds, ABORT where it has no record; a
proposal still undecided is answered at its decision. -/
def execXdevQueryReceive (src id : Nat) (s : State) : Res :=
  match s.findContract id with
  | some i =>
    if (s.contract i).prov then .next s
    else if (s.contract i).st = .released then .next (s.emit (.xdev src 4 id s.now []))
    else .next (s.emit (.xdev src 3 id s.now []))
  | none => .next (s.emit (.xdev src 4 id s.now []))

/-- XDEV_QUERY_TIMEOUT (R443): reservations whose owner has not answered for 16 ticks are dropped. -/
def execXdevQueryTimeout (s : State) : Res :=
  let late := s.provFor.filter (fun x =>
    let t := SMap.get (fun _ => 0) s.led.asking x.1
    t != 0 && decide (t + 16 ≤ s.now))
  .next (late.foldl (fun u x =>
    let u1 := ((u.dropContract x.1).evt Reg.LEDGER.EVENT.XDEV_ABORT).evt Reg.MESH.EVENT.XDEV_ABORT
    { u1 with led := { u1.led with
      asking := SMap.erase x.1 u1.led.asking, dropped := u1.led.dropped ++ [(x.2.owner, x.2.ownerId)] } }) s)

/-- The contract a command names: one reserved for the sending owner goes by the owner's ID (R81). -/
def State.namedContract (s : State) (h : Hdr) (id : Nat) : Option Nat :=
  match h.via with
  | .mesh src => match s.ownedBy src id with | some i => some i | none => s.findContract id
  | _ => s.findContract id

/-- Did this device drop a reservation of the sender's under this ID (R443)? -/
def State.droppedFor (s : State) (h : Hdr) (id : Nat) : Bool :=
  match h.via with | .mesh src => s.led.dropped.contains (src, id) | _ => false

/-! ## Activation and release (R54, R71, R77, R88, R89) -/

/-- The tick at which ACT_LIMIT expires (R71). -/
def Contract.expiry (c : Contract) : Option Nat := if c.d.actLimit = 0 then Option.none else some (c.admitTick + c.d.actLimit)

/-- Accept an activation or release: forward it to the path devices of a cross-device contract this device owns and
wait for them, or schedule it (R81, R88, R89). -/
def State.acceptChange (s : State) (h : Hdr) (p : List Byte) (i : Nat) (rel : Bool) (eff status : Nat) : Ans :=
  let c := s.contract i
  let s0 := (s.updContract i (fun c => if rel then { c with relTick := some eff } else { c with actTick := some eff }))
  if c.owner = 0 ∧ c.path ≠ [] then
    if c.path.any (fun d => (s.linkTo d).isNone) then Ans.err s Sts.unreachable
    else
      let s1 : State := { s0 with led := { s0.led with xacts := s0.led.xacts ++ [⟨i, rel, eff, status, h, c.path⟩] } }
      Ans.wait (c.path.foldl (fun u d => u.emit (.meshCmd d (if rel then 0x0303 else 0x0302) h (p.take 4 ++ toLe 8 eff))) s1)
  else Ans.say (s0.schedule eff (if rel then .release i else .activate i)).showSwap status eff []

/-- The body of CONTRACT_ACTIVATE (R71, R88, R172). -/
def cmdContractActivate (h : Hdr) (p : List Byte) (floor : Nat) (s : State) : Ans :=
  let tick := u64 p 4
  match s.namedContract h (u32 p 0) with
  | none =>
    Ans.check s [(s.mode != 4, Sts.modeRefused), (!zeroFrom p 12 || !s.droppedFor h (u32 p 0), Sts.badParam)]
      (Ans.err s Sts.badState)
  | some i =>
    let c := s.contract i
    let first := max (max (c.admitTick + 2) c.earliest) (max (s.now + 1) floor)
    let eff := if tick = 0 then first else tick
    Ans.check s
      [(s.mode != 4, Sts.modeRefused),
       (!zeroFrom p 12 || decide (eff < first) || c.expiry.any (fun t => decide (t < eff)), Sts.badParam),
       (c.st != .admitted || c.actTick.isSome || c.d.preset, Sts.badState)]
      (s.acceptChange h p i false eff Sts.ok)

/-- CONTRACT_ACTIVATE (R88). -/
def execContractActivate (h : Hdr) (p : List Byte) (s : State) : Res :=
  .next (command 0x0302 h p (cmdContractActivate h p) s)

/-- May a preset not be released now: it holds PROGRAM, or a take is pending on its egress (R172)? -/
def State.presetBusy (s : State) (i : Nat) : Bool :=
  (s.contract i).d.preset &&
  (match s.roleOf i 0 with
   | some (k, prog) => prog || s.take.pend.any (fun t => egKey t.idx t.dst == k)
   | none => false)

/-- The body of CONTRACT_RELEASE (R77, R89, R117). -/
def cmdContractRelease (h : Hdr) (p : List Byte) (floor : Nat) (s : State) : Ans :=
  let eff := effTick (u64 p 4) (max (s.now + 1) floor)
  match s.namedContract h (u32 p 0) with
  | none => Ans.err s Sts.badParam
  | some i =>
    let c := s.contract i
    Ans.check s
      [(!zeroFrom p 12, Sts.badParam),
       (c.st == .releasing || c.st == .released || c.relTick.isSome || s.presetBusy i, Sts.badState)]
      (s.acceptChange h p i true eff.1 eff.2)

/-- CONTRACT_RELEASE (R89). -/
def execContractRelease (h : Hdr) (p : List Byte) (s : State) : Res :=
  .next (command 0x0303 h p (cmdContractRelease h p) s)

/-- No output of the contract holds anything yet (R156). -/
def State.dropHeld (s : State) (i : Nat) : State :=
  { s with strm := { s.strm with holdBuf := s.strm.holdBuf.filter (fun x => x.1 / 16 != i) } }

/-- An admitted contract becomes ACTIVE; with a source lost it is STARVED at once (R54, R71); its engines start (R229). -/
def State.activate (s : State) (i : Nat) : State :=
  if (s.contract i).st = .admitted then
    let lost := s.lostNow (s.contract i).d
    let s1 := ((s.updContract i (fun c => { c with
      st := .active, changeTick := s.now, actTick := none, lost := lost, since := s.tick.edge, actAt := s.now })).startStages i).dropHeld i
    if lost.isEmpty then s1 else s1.enterStarved i
  else s

/-- ACT_LIMIT_EXPIRY (R71): admitted contracts whose limit has come without an activation accepted for that tick or an
earlier one are released. -/
def execActLimitExpiry (s : State) : Res :=
  .next ((s.inSt (fun c => c == .admitted)).foldl (fun u i =>
    let c := u.contract i
    match c.expiry with
    | some t => if t ≤ u.now ∧ ¬ c.actTick.any (fun a => decide (a ≤ t)) then
        (u.releaseContract i).evt Reg.LEDGER.EVENT.ACT_EXPIRED else u
    | none => u) s).settle

/-- RELEASING_COMPLETE (R54): the last output unit due has left, and the contract is RELEASED. -/
def execReleasingComplete (i : Nat) (s : State) : Res :=
  .next (if (s.contract i).st = .releasing then (s.releaseContract i).settle else s)

/-- HOLD_END (R54, R55): at a boundary the holds whose cause has ended, end. -/
def execHoldEnd (s : State) : Res :=
  .next ((s.inSt (fun c => c == .held)).foldl (fun u i => u.endHolds i) s).settle

/-! ## Queries (R90–R92) -/

/-- State code of CONTRACT_QUERY (R90). -/
def CSt.code : CSt → Nat
  | .proposed => 0 | .admitted => 1 | .active => 2 | .starved => 3 | .held => 4 | .releasing => 5 | .released => 6

/-- The first twelve bytes of a contract's record (R90). -/
def Contract.record (c : Contract) : List Byte :=
  [BitVec.ofNat 8 c.st.code, BitVec.ofNat 8 c.d.typ, BitVec.ofNat 8 c.d.cls,
   BitVec.ofNat 8 ((if c.lost.isEmpty then 0 else 1) + (if c.d.xdev then 2 else 0) + (if c.owner = 0 then 0 else 4))] ++
  toLe 4 c.bound ++ toLe 4 c.miss

/-- The body of CONTRACT_QUERY (R90). -/
def cmdContractQuery (h : Hdr) (p : List Byte) (_floor : Nat) (s : State) : Ans :=
  match s.namedContract h (u32 p 0) with
  | none => Ans.err s Sts.badParam
  | some i => Ans.check s [(!zeroFrom p 4, Sts.badParam)] (Ans.say s Sts.ok (s.contract i).changeTick (s.contract i).record)

/-- CONTRACT_QUERY (R90). -/
def execContractQuery (h : Hdr) (p : List Byte) (s : State) : Res := .next (command 0x0304 h p (cmdContractQuery h p) s)

/-- The instances a resource can have, by code (R56, R431). -/
def resTop : Nat → Nat
  | 1 => 8 | 2 => 8 | 3 => 64 | 4 => 8 | 5 => 106 | 6 => 192 | _ => 1

/-- The snapshot's bytes (R91): header, resource records, contract records, all as they stood at the latest boundary. -/
def State.snapshot (s : State) (res inst : Nat) (contracts : Bool) : List Byte :=
  let keys := ((List.range 12).filter (fun r => r != 0 && (res == 0xFF || r == res))).flatMap (fun r =>
    ((List.range (resTop r)).filter (fun i => s.resPresent r i && (inst == 0xFF || i == inst))).map (fun i => (r, i)))
  let live := s.led.snap.contracts.filter (fun x => x.2.st != .released)
  let used := live.flatMap (fun x => x.2.charges)
  let held := fun (r : Nat) => match r with | 7 => s.led.snap.flowsIn | 8 => s.led.snap.flowsOut | 10 => s.led.snap.plane | _ => 0
  let cs := if contracts then live else []
  toLe 8 s.now ++ [BitVec.ofNat 8 s.posture, BitVec.ofNat 8 s.ident.algVer] ++ toLe 2 keys.length ++ toLe 2 cs.length ++
    List.replicate 18 0 ++
  keys.flatMap (fun k => [BitVec.ofNat 8 k.1, BitVec.ofNat 8 k.2] ++ List.replicate 14 0 ++
    (List.range s.slots).flatMap (fun p =>
      let q := if countRes k.1 then 0 else p
      toLe 4 (usedAt used k.1 k.2 q + held k.1) ++ toLe 4 (s.limit s.envNow k.1 k.2 p))) ++
  cs.flatMap (fun x => x.2.record ++ toLe 4 (x.2.id x.1))

/-- The body of LEDGER_SNAPSHOT (R91): the ledger as it stands at the present tick's boundary. -/
def cmdLedgerSnapshot (h : Hdr) (p : List Byte) (_floor : Nat) (s : State) : Ans :=
  let res := u8 p 12
  let inst := u8 p 13
  let b := s.snapshot res inst (bit (u8 p 14) 0)
  Ans.check s
    [(res != 0xFF && inst != 0xFF && decide (1 ≤ res ∧ res ≤ 11) && !s.resPresent res inst, Sts.unitAbsent),
     (res == 0 || (res != 0xFF && decide (11 < res)) || decide (1 < u8 p 14) || !zeroFrom p 15 ||
       h.spiBad (u64 p 0) (u32 p 8), Sts.badParam)]
    (if u32 p 8 < b.length then Ans.say s Sts.badParam 0 (toLe 4 b.length)
     else Ans.say (s.writeBuf h (u64 p 0) b) Sts.ok s.now (toLe 4 b.length))

/-- LEDGER_SNAPSHOT (R91). -/
def execLedgerSnapshot (h : Hdr) (p : List Byte) (s : State) : Res := .next (command 0x0305 h p (cmdLedgerSnapshot h p) s)

/-- The DESC_IDs a proposal's stages name (R92). -/
def Proposal.names (x : Proposal) (id : Nat) : Bool := (parseDesc x.desc).stages.any (fun g => g.kind != 3 && g.desc == id)

/-- The body of DESCRIPTOR_REGISTER (R92). -/
def cmdDescriptorRegister (h : Hdr) (p : List Byte) (_floor : Nat) (s : State) : Ans :=
  let id := u16 p 12
  Ans.check s [(s.led.props.any (fun x => x.names id), Sts.busy)]
   (match s.readBuf h (u64 p 0) (min (u32 p 8) 8225) with
    | none => s.dataErr h
    | some b =>
      Ans.check s
        [(id == 0 || decide (256 < id) || !zeroFrom p 14 || h.spiBad (u64 p 0) (u32 p 8) || s.costBad b, Sts.badParam),
         (!(s.liveWhere (fun c => c.d.stages.any (fun g => g.kind != 3 && g.desc == id))).isEmpty, Sts.badState)]
        (Ans.say { s with led := { s.led with costs := SMap.set (fun _ => ({} : CostDesc)) s.led.costs id (parseCost b) } }
          Sts.ok 0 (toLe 2 id)))

/-- DESCRIPTOR_REGISTER (R92). -/
def execDescriptorRegister (h : Hdr) (p : List Byte) (s : State) : Res :=
  .next (command 0x0306 h p (cmdDescriptorRegister h p) s)

/-! ## Postures (R61, R62, R93) -/

/-- The contracts a posture change is checked for: those that are to go on. -/
def State.kept (s : State) : List Nat :=
  s.inSt (fun c => c == .proposed || c == .admitted || c == .active || c == .starved || c == .held)

/-- Candidates for release, in the order of R62: UTILITY before PREVIEW, the most recently admitted first. -/
def State.candidates (s : State) : List Nat :=
  let of_ : Nat → List Nat := fun cls => (s.kept.filter (fun i => (s.contract i).d.cls == cls && (s.contract i).st != .proposed))
  let byAge : List Nat → List Nat := fun l => (sortNat (l.map (fun i => (s.contract i).order * 4096 + i))).reverse.map (· % 4096)
  byAge (of_ 2) ++ byAge (of_ 1)

/-- Mark candidates until the rest fit (R62): the marked contracts, or none where even then they do not. -/
def State.markFor (s : State) (v : LEnv) : List Nat → List Nat → Option (List Nat)
  | cand, marked =>
    if s.fits v (s.chargesOf (s.kept.filter (fun i => !marked.contains i))) then some marked
    else match cand with
      | [] => none
      | c :: rest => s.markFor v rest (marked ++ [c])

/-- An operating-point change is pending for some cluster (R61). -/
def State.opPending (s : State) : Bool := (List.range s.nClusters).any (fun c => s.isSet (Reg.PWR.CLU.PEND c))

/-- A POSTURE_SET is accepted and not yet applied. -/
def State.posturePending (s : State) : Bool := s.due.any (fun d => match d.act with | .posture _ _ _ => true | _ => false)

/-- The body of POSTURE_SET (R62, R78, R93). -/
def cmdPostureSet (p : List Byte) (floor : Nat) (s : State) : Ans :=
  let pos := u8 p 0
  let cap := if u32 p 4 = 0 then s.led.capMw else u32 p 4
  let v : LEnv := ⟨pos, cap, s.opLow⟩
  let eff := effTick (u64 p 8) (max (s.now + 2) floor)
  let pwr := (s.chargesOf s.kept).filter (fun c => c.res == 11)
  let marks := if bit (u8 p 1) 0 then s.markFor v s.candidates [] else s.markFor v [] []
  Ans.check s
    [(s.posturePending || (pos == 2 && s.opPending), Sts.busy),
     (decide (2 < pos) || decide (1 < u8 p 1) || u16 p 2 != 0 ||
       (u32 p 4 != 0 && (decide (u32 p 4 < 20000) || decide (225000 < u32 p 4))) || !zeroFrom p 16, Sts.badParam),
     (decide (cap < s.led.capMw) && (stepPoints s.slots pwr 11 0).any (fun q => decide (cap < usedAt pwr 11 0 q)), Sts.powerCap),
     (marks.isNone, Sts.wouldBreak)]
    (let m := marks.getD []
     Ans.say ((s.wr Reg.LEDGER.STATUS.POST_PEND 1).schedule eff.1 (.posture pos cap m)) eff.2 eff.1
       ([BitVec.ofNat 8 pos, 0, 0, 0] ++ toLe 4 m.length))

/-- POSTURE_SET (R93). -/
def execPostureSet (h : Hdr) (p : List Byte) (s : State) : Res := .next (command 0x0203 h p (cmdPostureSet p) s)

/-- A cluster's frequency is lowered at the present boundary: the old point's power stays charged through this tick, and the voltage
starts slewing down (R463). -/
def State.lowerOp (s : State) (c new : Nat) : State :=
  let old := s.rd (Reg.PWR.CLU.OP c)
  let s1 := (((s.opSwitch c new).wr (Reg.PWR.CLU.TARGET c) new).wr (Reg.PWR.CLU.PEND c) 0).wr (Reg.CLU.STATUS.OP_PEND c) 0
  ({ s1 with pwr := { s1.pwr with fall := s1.pwr.fall ++ [(c, old, s1.now)] } } : State).wr (Reg.PWR.CLU.SLEWING c) 1

/-- A posture takes effect (R61, R62): registers, run-ahead and cutoff, clusters above OP1 lowered in Cool (R463), marked
contracts released. A cap that is no multiple of 100 mW shows rounded up in LEDGER.PWR.CAP (DESIGN CHOICE, notes/assumptions/97.md). -/
def State.setPosture (s : State) (pos cap : Nat) (marked : List Nat) : State :=
  let s1 := ((s.wr Reg.LEDGER.STATUS.POSTURE pos).wr Reg.LEDGER.STATUS.POST_PEND 0).wr Reg.LEDGER.PWR.CAP (ceilDiv cap 100)
  let s2 : State := { s1 with led := { s1.led with capMw := cap } }
  let s3 := ((s2.wr Reg.TAKE.STATUS.RUNAHEAD (if pos = 1 then 0 else 1)).wr Reg.TAKE.STATUS.CUTOFF (if pos = 1 then 256 else 8)).evt
    Reg.LEDGER.EVENT.POSTURE_APPLIED
  let s4 := if pos = 2 then
      (List.range s.nClusters).foldl (fun u c => if 1 < u.rd (Reg.PWR.CLU.OP c) then u.lowerOp c 1 else u) s3
    else s3
  marked.foldl (fun u i => u.applyRelease i) s4

end Sys2Proof.Machine
end

