-- ==== Sys2Proof/Machine/LaneOps.lean ====
section
/-! DEFINITION. Lanes as the units above them use them (13_lanes.md): transmit bases and PLLs (R404), power-state
sequences (R413, R414), link state and negotiation (R408, R410). NL l is lane l, PL k lane 128 + k. -/

namespace Sys2Proof.Machine

def State.laneDyn (s : State) (l : Nat) : LaneDyn := SMap.get (fun _ => ({} : LaneDyn)) s.lane l
def State.updLane (s : State) (l : Nat) (f : LaneDyn → LaneDyn) : State :=
  { s with lane := SMap.upd (fun _ => ({} : LaneDyn)) s.lane l f }

/-- Owners of LANE.STATUS.FUNC (R399). -/
def funcPort := 1
def funcLink := 2
def funcPcie := 3

def State.laneFunc (s : State) (l : Nat) : Nat := s.rd (Reg.LANE.STATUS.FUNC l)

/-- Transmit base of a rate code (R402, R404), 1–5 in R404's order, 6 for PAM4 at 106.25 Gb/s, 0 where none; a rate given in kb/s needs
a PLL of its own. -/
def rateBase (code kbps : Nat) : Nat :=
  if code = 0x0A then 3 else if code = 0x0B then 4 else if code = 0x0C then 5
  else if code = 0x20 then 6
  else if code = 0xFF then 16 + kbps
  else if 1 ≤ code ∧ code ≤ 9 then (if code = 1 ∨ code % 2 = 0 then 1 else 2)
  else 0

/-- The rate code a port of a kind runs its lanes at (R402). -/
def kindRate (c : PortCfg) : Nat :=
  match c.kind with
  | 1 | 2 => c.txRate | 3 => 0x0A | 4 | 5 => 0x0B | 6 => 0x20 | _ => 0

/-- The transmit bases that lanes of a quad use, lanes `but` apart, with the port configurations that wait. -/
def State.quadBases (s : State) (q : Nat) (but : List Nat) : List Nat :=
  let mine := ((List.range 4).map (fun i => 4 * q + i)).filter (fun l => !but.contains l)
  let now := mine.map (fun l => (s.laneDyn l).base)
  let soon := s.due.filterMap (fun d => match d.act with
    | .port p c => if (portLanes p c.kind).any (fun l => mine.contains l) then some (rateBase (kindRate c) 0) else none
    | _ => none)
  (sortNat (now ++ soon)).filter (fun b => b != 0)

/-- The modulation of a P-lane's base: NRZ at 10.3125 and 25.78125 Gb/s (0), PAM4 (1) (R399, R404). -/
def baseMod (base : Nat) : Nat := if base = 3 ∨ base = 4 then 0 else 1

/-- Would lanes that change to a base need a third base in a quad (R404)? A P-quad has one PLL for each of its two modulations, so a
second base of one modulation is one too many there. -/
def State.thirdBase (s : State) (ls : List Nat) (base : Nat) : Bool :=
  base != 0 && ls.any (fun l => if l < 128 then decide (2 < (sortNat (base :: s.quadBases (l / 4) ls)).length)
    else (s.quadBases (l / 4) ls).any (fun b => b != base && baseMod b == baseMod base))

/-- Put a lane on a transmit base, and on the PLL of its quad that runs it (R404). -/
def State.setBase (s : State) (l base : Nat) : State :=
  let peers := ((List.range 4).map (fun i => l / 4 * 4 + i)).filter (fun x => x != l && (s.laneDyn x).base != 0)
  let pll := if 128 ≤ l then baseMod base else match peers.find? (fun x => (s.laneDyn x).base == base) with
    | some x => s.rd (Reg.LANE.CFG.TXPLL x)
    | none => if peers.any (fun x => s.rd (Reg.LANE.CFG.TXPLL x) == 0) then 1 else 0
  let s1 := s.updLane l (fun d => { d with base := base, idle := false })
  if base = 0 then s1.wr (Reg.LANE.STATUS.PLL_LOCK l) 0
  else (s1.wr (Reg.LANE.CFG.TXPLL l) pll).wr (Reg.LANE.STATUS.PLL_LOCK l) 1

/-- Ask for a power state: a running sequence is completed first, and the request queued (R414); a lane already there
has reached it. -/
def State.askPstate (s : State) (l p : Nat) : State :=
  if (s.laneDyn l).target.isSome then (s.updLane l (fun d => { d with queued := some p })).wr (Reg.LANE.STATUS.PEND l) 1
  else if s.rd (Reg.LANE.STATUS.PSTATE l) = p then s.evt (Reg.LANE.EVENT.PSTATE_DONE l)
  else (s.updLane l (fun d => { d with target := some p })).wr (Reg.LANE.STATUS.PSTATE l) 3

/-- LINK_UP changes (LANE.EVENT.LINK_CHANGE). -/
def State.setLinkUp (s : State) (l : Nat) (up : Bool) : State :=
  if s.isSet (Reg.LANE.STATUS.LINK_UP l) = up then s
  else (s.flag (Reg.LANE.STATUS.LINK_UP l) up).evt (Reg.LANE.EVENT.LINK_CHANGE l)

/-- Begin the bring-up of a lane: the module memory is read first where a module is present (R408). -/
def State.startNeg (s : State) (l : Nat) : State :=
  s.wr (Reg.LANE.STATUS.NEG_STATE l)
    (if l < 96 ∧ s.isSet (Reg.STRM.MOD_STATUS.PRESENT (l / 4)) then 1 else 2)

/-- Negotiation or training fails with a reason; NEG_FAIL is raised once until a success (R410). -/
def State.negFail (s : State) (l reason : Nat) : State :=
  let s1 := (s.wr (Reg.LANE.STATUS.NEG_STATE l) 6).wr (Reg.LANE.STATUS.NEG_FAIL l) reason
  if (s.laneDyn l).failed then s1
  else (s1.updLane l (fun d => { d with failed := true })).evt (Reg.LANE.EVENT.NEG_FAIL l)

/-- The port that owns a lane, where one is configured on it. -/
def State.lanePort (s : State) (l : Nat) : Option Nat :=
  if 128 ≤ l then some (96 + (l - 128) / 4)
  else match s.groupOf l with
    | some g => some g
    | none => some l

end Sys2Proof.Machine
end

