-- ==== Sys2Proof/Machine/Streams.lean ====
section
/-! DEFINITION. Streams (04_streams.md): ports, flows, source loss and return, modules, line-packets and the crossbar,
and the stream family's commands and events. -/

namespace Sys2Proof.Machine

/-! ## Loss and return of sources (R54, R155, R158–R160) -/

/-- Raise a port event bit; a 400GbE port's also shows in STRM.EVENT.P400. -/
def State.portEvt (s : State) (p : Nat) (f : Nat → Fld) : State :=
  let s1 := s.evt (f p)
  if 96 ≤ p ∧ p < 100 then s1.evtBit Reg.STRM.EVENT.P400 (p - 96) else s1

/-- Pairs of contract and source entry of the contracts not RELEASED whose entry satisfies a property. -/
def State.sourcesWhere (s : State) (f : EndPt → Bool) : List (Nat × Nat) :=
  (s.led.contracts.filter (fun x => x.2.st != .released)).flatMap (fun x =>
    ((List.range x.2.d.srcs.length).filter (fun k => f (x.2.d.srcs.getD k {}))).map (fun k => (x.1, k)))

/-- One source entry is gone: a primary is lost (R54); a backup in use no longer carries (R158). -/
def State.loseEntry (s : State) (x : Nat × Nat) : State :=
  let s1 : State := { s with strm := { s.strm with back := s.strm.back.filter (fun b => !(b.1 == x.1 && b.2.1 == x.2)) } }
  if ((s.contract x.1).d.srcs.getD x.2 {}).backup then
    s1.updContract x.1 (fun c => { c with onBackup := c.onBackup.filter (fun k => k + 1 != x.2) })
  else s1.loseSource x.1 x.2

/-- The source entries of a list are lost. -/
def State.loseList (s : State) (l : List (Nat × Nat)) : State := l.foldl State.loseEntry s

/-- Every source on entries that satisfy a property is lost. -/
def State.loseWhere (s : State) (f : EndPt → Bool) : State := s.loseList (s.sourcesWhere f)

/-- Is it a source entry of SDI port `p`? -/
def State.onPort (s : State) (p : Nat) (e : EndPt) : Bool := s.isLocal e.dev && e.kind == 1 && e.index == p

/-- Is it a source entry of ingress flow `i`? -/
def State.onFlow (s : State) (i : Nat) (e : EndPt) : Bool := s.isLocal e.dev && e.kind == 2 && e.index == i

/-- A whole ingress flow is lost (R155). -/
def State.flowLost (s : State) (i : Nat) : State :=
  let s1 := s.setDyn i { s.flowDyn i with lost := true, runs := [] }
  ((s1.evt Reg.STRM.EVENT.FLOW_LOST).wr Reg.STRM.FLOW_EVT.INDEX i).loseWhere (s1.onFlow i)

/-- A leg of a flow stops arriving: with a leg left LEG_LOST is raised, with none the flow is lost (R155). -/
def State.legLost (s : State) (i leg : Nat) : State :=
  let f := s.flow i
  let d := s.flowDyn i
  if f.used && decide (i < 1024) && decide (leg < f.legs) && !bit d.lostLegs leg then
    let l := setBit d.lostLegs leg
    let s1 := s.setDyn i { d with lostLegs := l }
    if l + 1 = 2 ^ f.legs then s1.flowLost i
    else (s1.evt Reg.STRM.EVENT.LEG_LOST).wr Reg.STRM.FLOW_EVT.INDEX i
  else s

/-- Every leg that arrives on a port is lost (R154, R155). -/
def State.portLegsLost (s : State) (p : Nat) : State :=
  s.strm.flows.foldl (fun t e =>
    if e.1 < 1024 then
      let t1 := if e.2.legA.port = p then t.legLost e.1 0 else t
      if e.2.legs = 2 ∧ e.2.legB.port = p then t1.legLost e.1 1 else t1
    else t) s

/-- A port stops receiving: LOCKED clears and every source that arrives on it is lost (R154, R155). -/
def State.portDown (s : State) (p : Nat) : State :=
  let s1 := ((s.wr (Reg.STRM.PORT_STATUS.LOCKED p) 0).wr (Reg.STRM.PORT_STATUS.PID_VALID p) 0).wr (Reg.STRM.PORT_PID.FORMAT p) 0
  (s1.loseWhere (s1.onPort p)).portLegsLost p

/-- A source entry is back with a format: in the contracted one it waits for the first frame start after the next
boundary (R159). -/
def State.entryBack (s : State) (fmt : Nat) (pid : Bool) (x : Nat × Nat) : State :=
  let c := s.contract x.1
  let e := c.d.srcs.getD x.2 {}
  if c.lost.contains x.2 && fmtSame fmt e.format pid then
    { s with strm := { s.strm with back := s.strm.back.filter (fun b => !(b.1 == x.1 && b.2.1 == x.2)) ++ [(x.1, x.2, s.now)] } }
  else s

/-- Has one of the entries lost another contracted format (R160)? -/
def State.otherFormat (s : State) (fmt : Nat) (pid : Bool) (l : List (Nat × Nat)) : Bool :=
  l.any (fun x => (s.contract x.1).lost.contains x.2 && !fmtSame fmt ((s.contract x.1).d.srcs.getD x.2 {}).format pid)

/-! ## Line-packets (R148–R151) -/

/-- The crossbar endpoint a contract's stream goes to first: its first stage, or its destination (R148, R150). -/
def State.firstHop (s : State) (c : Contract) (j : Nat) : Nat :=
  match c.d.stages.head? with
  | some g =>
    if g.kind = 1 then pickEnd (xbarUnit 1 (s.stageCluster g c.pick)) c.pick
    else if g.kind = 3 then pickEnd (xbarUnit 2 (Config.xbarPick 2 c.pick % s.nMcs)) c.pick
    else match (c.d.srcs ++ c.d.dsts).find? (fun e => e.kind == 4 && s.isLocal e.dev) with
      | some e => e.index
      | none => Config.xbarPick 0 g.desc % s.nFports
  | none => pickEnd (s.endUnit (c.d.dsts.getD j {}) false) c.pick

/-- The segments of a line of `len` bytes: at most 16,368 each, index in bits 1:0, bit 2 on the last (R151); with the place of each. -/
def segments (fmt len : Nat) : List (Nat × Nat × Nat × Nat) :=
  let n := max 1 (ceilDiv len 16368)
  (List.range n).map (fun i =>
    (min 16368 (len - 16368 * i), i % 4 + (if i + 1 = n then 4 else 0),
      if fmtAudio fmt then 0 else i * 16368 * 8 / (fmtSpp fmt * fmtBits fmt), 16368 * i))

/-- A line-packet as its readers see it: the 16-byte header of R151, then the payload. -/
def LinePkt.bytes (k : LinePkt) : List Byte :=
  toLe 2 k.len ++ toLe 2 k.line ++ toLe 4 (k.ns % 2 ^ 16 + k.slot % 2 ^ 11 * 2 ^ 16) ++ toLe 2 (k.tick % 2 ^ 16) ++ toLe 2 k.ctx ++
  [BitVec.ofNat 8 k.seg, BitVec.ofNat 8 k.flags] ++ toLe 2 k.first ++ k.data

/-- The running slot counted over all ticks. -/
def State.absSlot (s : State) : Nat := s.now * s.slots + s.slot

/-- Device time in ns of a stamp of the running tick: slot and nanoseconds into it (R151). -/
def State.stampNs (s : State) (slot ns : Nat) : Nat := (s.tick.edge / rateN s.rate).toNat + slotStartNs s.rate s.slots slot + ns

/-- The line-packets of a unit of `data` (R151), ready at their source now. -/
def State.linePkts (s : State) (fmt : Nat) (data : List Byte) (k : LinePkt) : List LinePkt :=
  (segments fmt data.length).map (fun g =>
    { k with len := g.1, seg := g.2.1, first := g.2.2.1, data := (data.drop g.2.2.2).take g.1, tick := s.now, ready := s.absSlot })

/-- Does the contract run, so that its sources' units are passed on? -/
def State.carried (s : State) (x : Nat × Nat) : Bool := (s.contract x.1).runs

/-- Pass a unit on as line-packets to the running contracts among the pairs of contract and source entry given (R151). -/
def State.passTo (s : State) (l : List (Nat × Nat)) (fmt : Nat) (data : List Byte) (k : LinePkt) : State :=
  let pks := (l.filter s.carried).flatMap (fun x => (List.range (s.contract x.1).d.dsts.length).flatMap (fun j =>
    s.linePkts fmt data { k with dst := s.firstHop (s.contract x.1) j, ctx := x.1 + 4096 * j }))
  { s with strm := { s.strm with xbar := s.strm.xbar ++ pks } }

/-- Pass a unit on to every running contract that names its source (R134, R151). -/
def State.passOn (s : State) (f : EndPt → Bool) (fmt : Nat) (data : List Byte) (k : LinePkt) : State :=
  s.passTo (s.sourcesWhere f) fmt data k

/-- A unit of the sources that satisfy a property did not conform: its contracts keep its stamp (R72, R74, R134, R143). -/
def State.noteNonconf (s : State) (f : EndPt → Bool) (at_ : Nat) : State :=
  (s.sourcesWhere f).foldl (fun t x => t.updContract x.1 (fun c => { c with nonconf := ((x.2, at_) :: c.nonconf).take 256 })) s

/-- LFLAGS of a line-packet (R151). -/
def lflags (first last second subst inerr : Bool) : Nat :=
  (if first then 1 else 0) + (if last then 2 else 0) + (if second then 4 else 0) + (if subst then 8 else 0) + (if inerr then 16 else 0)

/-- A line-packet arrives at its destination (R149, R285): a fabric port without `room` discards it, and what a contract loses so is a
miss. -/
def State.arrive (s : State) (k : LinePkt) (room : Bool) : State :=
  let n := k.len + 16
  let add := fun (m : SMap Nat) (e : Nat) => SMap.upd (fun _ => 0) m e (· + n)
  let s1 : State := { s with strm := { s.strm with xbar := s.strm.xbar.erase k, used := add (add s.strm.used k.src) (192 + k.dst) } }
  if k.dst < 64 ∧ ¬ room then
    let s2 := (s1.bump (Reg.FAB.FPORT_CNT.DROP_CNT k.dst)).evt Reg.FAB.EVENT.PORT_DROP
    s2.countMiss (k.ctx % 4096) (k.ctx / 4096)
  else { s1 with strm := { s1.strm with arrived := SMap.upd (fun _ => []) s1.strm.arrived k.dst (fun l => l ++ [k]) } }

/-- Has the running slot capacity left at both ends for a best-effort packet: what no scheduled packet that waits there needs, and the
schedule did not use (R149)? -/
def State.spare (s : State) (k : LinePkt) : Bool :=
  let left := fun (e inst : Nat) => SMap.get (fun _ => 0) s.strm.used e + k.len + 16 ≤ s.capacity s.envNow 6 inst
  decide (left k.src k.src) && decide (left (192 + k.dst) k.dst) &&
  !s.strm.xbar.any (fun x => x.ctx != 0xFFFF && (x.src == k.src || x.dst == k.dst))

/-- Fabric logic offers a line-packet on its port's stream channel: it waits at the port's endpoint, marked where its egress speculates
(R283, R287). A contract's packet needs the contract on the port, and a speculative one a provisional destination: a port, a cluster or
a DRAM channel; to any other it is discarded, counted and faults the speculation (R180, R287). -/
def State.offered (s : State) (src dst : Nat) (p : PortPkt) : State :=
  let k := egKey (p.ctx % 4096) (p.ctx / 4096 % 16)
  let marked := p.ctx != 0xFFFF && (s.egress k).spec.isSome
  if s.nFports ≤ src ∨ ¬ s.domOn 3 ∨ s.xbarPresent dst = false ∨ p.data.length = 0 ∨ 16368 < p.data.length ∨
      (p.ctx ≠ 0xFFFF ∧ s.onFport p.ctx src = false) then s
  else if marked ∧ 128 ≤ dst then ((s.bump (Reg.FAB.FPORT_CNT.SPEC_FAULT_CNT src)).evt Reg.FAB.EVENT.SPEC_FAULT).specFault k
  else
    let pk : LinePkt := {
      src := src, dst := dst, len := p.data.length, line := p.line, tick := p.tick, slot := p.slot, ns := p.ns,
      ctx := p.ctx % 65536, seg := p.seg, flags := p.flags, first := p.first, data := p.data, spec := marked, ready := s.absSlot }
    { s with strm := { s.strm with xbar := s.strm.xbar ++ [pk] } }

/-- LINE_PACKET_TRANSFER (R149, R283, R285, R287): what the source offers joins those that wait; the oldest scheduled packet between two
endpoints is carried; or the oldest best-effort one, only where capacity is spare and no lower source endpoint waits for the
destination. A fabric port without `room` discards a scheduled packet, and holds up a best-effort one. -/
def execLinePacketTransfer (src dst : Nat) (sched : Bool) (x : XbarTurn) (s0 : State) : Res :=
  let s := match x.offer with | some p => s0.offered src dst p | none => s0
  let room := x.room
  match s.strm.xbar.find? (fun k => k.src == src && k.dst == dst && (k.ctx != 0xFFFF) == sched) with
  | some k =>
      if sched then .next (s.arrive k room)
      else if s.spare k && !s.strm.xbar.any (fun k => k.ctx == 0xFFFF && k.dst == dst && decide (k.src < src)) && (room || decide (64 ≤ dst)) then
        .next (s.arrive k true)
      else .next s
  | none => .next s

/-- A slot begins (R149): no endpoint has carried anything in it yet, and the scheduled packets that were ready two slots ago have
arrived. -/
def State.xbarSlot (s : State) : State :=
  let s1 : State := { s with strm := { s.strm with used := [] } }
  (s.strm.xbar.filter (fun k => k.ctx != 0xFFFF && decide (k.ready + 2 ≤ s.absSlot))).foldl (fun t k => t.arrive k true) s1

/-- XBAR_PARITY_FAULT (R150): the active schedule is reloaded within the tick, and the contracts charged on the endpoint
are HELD for the rest of it. -/
def execXbarParityFault (e : Nat) (s : State) : Res :=
  let s1 := (s.bump Reg.XBAR.STATUS.PARITY_CNT).evt Reg.STRM.EVENT.XBAR_PARITY
  .next (s1.holdAll (s1.liveWhere (fun c => c.charges.any (fun x => x.res == 6 && x.inst == e))) .parity (some (s1.now + 1)))

/-! ## SDI (R132–R137, R155, R160) -/

/-- Every SDI output that no contract drives sends what its IDLE selects (R77, R137). -/
def State.idleOutputs (s : State) : State :=
  s.strm.ports.foldl (fun t x =>
    let driven := s.led.contracts.any (fun c => c.2.runs && c.2.st != .releasing &&
      c.2.d.dsts.any (fun e => e.kind == 1 && e.index == x.1 && s.isLocal e.dev))
    if (x.2.kind == 1 || x.2.kind == 2) && x.2.tx && s.portOn x.1 && !driven then t.emit (.sdiIdle x.1 x.2.idle) else t) s

/-- Is the port a receiving SDI port? -/
def State.sdiIn (s : State) (p : Nat) : Bool := ((s.port p).kind == 1 || (s.port p).kind == 2) && (s.port p).rx

/-- The port that a lane's SDI signal belongs to: its group where one holds it (R130, R155). -/
def State.sdiPort (s : State) (p : Nat) : Nat := (s.groupOf p).getD p

/-- SDI_SIGNAL_DETECT_DROP (R155): the source is lost, SIG_LOST is raised. -/
def execSdiSignalDetectDrop (port : Nat) (s : State) : Res :=
  let p := s.sdiPort port
  if s.sdiIn p && (s.isSet (Reg.STRM.PORT_STATUS.SIG_DET p) || s.isSet (Reg.STRM.PORT_STATUS.LOCKED p)) then
    .next (((s.wr (Reg.STRM.PORT_STATUS.SIG_DET p) 0).portEvt p Reg.STRM.PORT_EVENT.SIG_LOST).portDown p)
  else .next s

/-- SDI_TRS_TIMEOUT (R155): no valid TRS for 4 line periods. -/
def execSdiTrsTimeout (port : Nat) (s : State) : Res :=
  let p := s.sdiPort port
  if s.sdiIn p && s.isSet (Reg.STRM.PORT_STATUS.LOCKED p) then .next (s.portDown p) else .next s

/-- SDI_LINE_RECEIVE (R134–R136, R155): errors are counted, mark the line-packet INERR and make it non-conforming input; a change of
rate or payload ID loses the source; ancillary packets that match a filter entry of the port go on with their line. -/
def execSdiLineReceive (port : Nat) (x : SdiLine) (s : State) : Res :=
  let p := s.sdiPort port
  if !(s.sdiIn p && s.isSet (Reg.STRM.PORT_STATUS.LOCKED p)) then .next s
  else
    let fmt := s.rd (Reg.STRM.PORT_PID.FORMAT p)
    let changed := x.rate != s.rd (Reg.STRM.PORT_STATUS.RATE p) || x.pid.any (fun f => f != fmt) ||
      (x.pid.isNone && s.isSet (Reg.STRM.PORT_STATUS.PID_VALID p))
    if changed then .next (s.portDown p)
    else
      let bad := !(x.crcOk && x.trsOk && x.numOk)
      let s1 := if x.crcOk then s else (s.bump (Reg.STRM.PORT_ERR.CRC_CNT p)).portEvt p Reg.STRM.PORT_EVENT.CRC_ERR
      let s2 := if x.trsOk && x.numOk then s1 else (s1.bump (Reg.STRM.PORT_ERR.LINE_CNT p)).portEvt p Reg.STRM.PORT_EVENT.LINE_ERR
      let s3 := if bad then s2.noteNonconf (s2.onPort p) (s2.stampNs x.slot x.ns) else s2
      let k : LinePkt := { src := 160 + p / 4, line := x.line, slot := x.slot, ns := x.ns, flags := lflags x.first x.last x.second false bad }
      let keep := SMap.get (fun _ => []) s.strm.filters p
      .next (x.anc.foldl (fun t a => if keep.contains (a.1, a.2.1) then
        t.passOn (t.onPort p) fmt a.2.2 { k with did := a.1, sdid := a.2.1 } else t) (s3.passOn (s3.onPort p) fmt x.data k))

/-- SDI_INPUT_LOCK (R132, R133, R135, R159, R160): the port reports LOCKED with its rate and format; sources whose contracted
format it is are on their way back, for others FORMAT_CHANGED is raised. A quad-link is made of links at 11.88 Gb/s. -/
def execSdiInputLock (port rate fmt : Nat) (pid : Bool) (s : State) : Res :=
  let p := s.sdiPort port
  let c := s.port p
  if s.sdiIn p && s.portOn p && decide ((if c.kind = 2 then 8 else 1) ≤ rate ∧ rate ≤ 9) && (c.auto || rate == c.txRate) then
    let s1 := (((s.wr (Reg.STRM.PORT_STATUS.LOCKED p) 1).wr (Reg.STRM.PORT_STATUS.SIG_DET p) 1).wr
      (Reg.STRM.PORT_STATUS.RATE p) rate).flag (Reg.STRM.PORT_STATUS.PID_VALID p) pid
    let s2 := (s1.wr (Reg.STRM.PORT_PID.FORMAT p) fmt).portEvt p Reg.STRM.PORT_EVENT.LOCK
    let s3 := (portLanes p c.kind).foldl (fun t l => (t.wr (Reg.LANE.STATUS.CDR_LOCK l) 1).setLinkUp l true) s2
    let l := s3.sourcesWhere (s3.onPort p)
    let s4 := if s3.otherFormat fmt pid l then s3.portEvt p Reg.STRM.PORT_EVENT.FORMAT_CHANGED else s3
    .next (l.foldl (fun t x => t.entryBack fmt pid x) s4)
  else .next s

/-! ## IP flows (R139, R141, R143, R155, R159) -/

/-- FLOW_LOSS_TIMEOUT (R155): no valid packet for LOSS_US on every leg. -/
def execFlowLossTimeout (i : Nat) (s : State) : Res :=
  let f := s.flow i
  if f.used && f.valid && decide (i < 1024) && !(s.flowDyn i).lost then
    .next ((s.setDyn i { s.flowDyn i with lostLegs := 2 ^ f.legs - 1 }).flowLost i)
  else .next s

/-- LEG_LOSS_TIMEOUT (R155): no valid packet for LOSS_US on one leg. -/
def execLegLossTimeout (i leg : Nat) (s : State) : Res := .next (if (s.flow i).valid then s.legLost i leg else s)

/-- A leg's packet arrives: a leg that was lost returns (R155). -/
def State.legBack (s : State) (i leg : Nat) : State :=
  let d := s.flowDyn i
  if bit d.lostLegs leg then
    let s1 := s.setDyn i { d with lostLegs := clrBit d.lostLegs leg }
    if (s.flow i).legs = 2 then (s1.evt Reg.STRM.EVENT.LEG_RESTORED).wr Reg.STRM.FLOW_EVT.INDEX i else s1
  else s

/-- A flow locks, or is seen in another format (R159, R160). -/
def State.flowLock (s : State) (i fmt : Nat) : State :=
  let f := s.flow i
  let l := s.sourcesWhere (s.onFlow i)
  if fmt = f.format then
    let s1 := s.setDyn i { s.flowDyn i with lost := false }
    l.foldl (fun t x => t.entryBack fmt true x) s1
  else if s.otherFormat fmt true l then
    (s.wr Reg.STRM.FLOW_EVT.INDEX i).portEvt f.legA.port Reg.STRM.PORT_EVENT.FORMAT_CHANGED
  else s

/-- Is a packet accepted for a leg of a flow: a sound frame of at most 9,018 bytes whose tag, addresses, ports, SSRC and payload type are
those the flow names (R138, R147)? -/
def ipAccepted (x : IpPkt) (f : Flow) (l : Leg) : Bool :=
  x.fcsOk && decide (x.size ≤ 9018) && (x.vlan == if bit l.vlan 15 then some (l.vlan % 2 ^ 12) else none) &&
  x.v6 == decide (2 ^ 32 ≤ l.dstIp) && x.dstIp == l.dstIp && (l.srcIp == 0 || x.srcIp == l.srcIp) && x.dport == l.dport &&
  (l.sport == 0 || x.sport == l.sport) && (f.ssrc == 0 || x.ssrc == f.ssrc) && x.pt == f.pt

/-- A leg's count of packets without loss, and whether its running frame misses none (R159). -/
def LegRun.next (r : LegRun) (x : IpPkt) : LegRun :=
  let inRow := r.run != 0 && x.seq == r.seq + 1
  ⟨if inRow then r.run + 1 else 1, x.seq, x.first || (inRow && r.clean)⟩

/-- IP_PACKET_RECEIVE (R138, R141, R143, R155, R159): the first valid copy of a sequence number is used, a second one is
discarded, counted in LATE_CNT where it comes more than SKEW_US after the first. A flow locks with its first complete frame, or ten
audio packets, without loss on a leg. -/
def execIpPacketReceive (port i : Nat) (x : IpPkt) (s : State) : Res :=
  let f := s.flow i
  let leg := if x.leg = 0 then f.legA else f.legB
  if !(ipAccepted x f leg && f.used && f.valid && decide (i < 1024) && decide (x.leg < f.legs) && leg.port == port && s.portOn port) then
    .next s
  else
    let s1 := s.legBack i x.leg
    let viol := x.nonconf && (fmtCarriage f.format == 3 || fmtCarriage f.format == 4)
    let s2 := if viol then
        ((s1.bump Reg.STRM.FLOW_EVT.NONCONF_CNT).wr Reg.STRM.FLOW_EVT.INDEX i).noteNonconf (s1.onFlow i) (s1.stampNs x.slot x.ns)
      else s1
    let d := s2.flowDyn i
    let r := (d.runs.getD x.leg {}).next x
    let runs := (List.range 2).map (fun k => if k = x.leg then r else d.runs.getD k {})
    let audio := fmtAudio f.format
    let locked := if audio then decide (10 ≤ r.run) else x.last && r.clean
    let lock := fun (t : State) => if locked && (d.lost || (!audio && x.fmt != f.format)) then
      t.flowLock i (if audio then f.format else x.fmt) else t
    match d.seen.find? (fun e => e.1 == x.seq) with
    | some e =>
      let s3 := s2.setDyn i { d with runs := runs }
      .next (lock (if f.legs = 2 ∧ e.2 + f.skewUs < x.us then (s3.bump Reg.STRM.FLOW_EVT.LATE_CNT).wr Reg.STRM.FLOW_EVT.INDEX i else s3))
    | none =>
      let seen := if f.legs = 2 then d.seen.filter (fun e => decide (x.us ≤ e.2 + 1000000)) ++ [(x.seq, x.us)] else []
      let s3 := s2.setDyn i { d with seen := seen, runs := runs }
      let eng := if s.ident.variant = 3 then 0 else streamEngine f.legA.port
      let k : LinePkt := { src := 128 + 16 * eng + Config.xbarPick (128 + 16 * eng) i % 16, line := if audio then 0 else x.line,
                           slot := x.slot, ns := x.ns, flags := lflags x.first x.last x.second false false }
      .next (lock (s3.passOn (s3.onFlow i) f.format x.data k))

/-- SOURCE_RESUME (R159): at the first input frame start after the first boundary after lock, the entry is back in use
and RESUMED is raised; with NO_REVERT an entry whose backup carries stays on it (R158). -/
def execSourceResume (i k : Nat) (s : State) : Res :=
  if s.strm.back.any (fun b => b.1 == i && b.2.1 == k && decide (b.2.2 < s.now)) then
    let s1 : State := { s with strm := { s.strm with back := s.strm.back.filter (fun b => !(b.1 == i && b.2.1 == k)) } }
    if s.strm.noRevert.contains i && (s.contract i).onBackup.contains k then .next s1 else .next (s1.regainSource i k)
  else .next s

/-- Is a source entry without signal at present, backup or not (R155)? -/
def State.endLost (s : State) (e : EndPt) : Bool := s.srcLost { e with backup := false }

/-- BACKUP_SWITCH (R158): at the first boundary after the loss each lost entry's backup carries, where it is there. -/
def execBackupSwitch (s : State) : Res :=
  .next ((s.inSt (fun c => c == .starved)).foldl (fun t i =>
    let c := t.contract i
    if c.d.subst = 2 then
      let go := c.lost.filter (fun k => (c.d.srcs.getD (k + 1) {}).backup && !t.endLost (c.d.srcs.getD (k + 1) {}) &&
        !c.onBackup.contains k && decide (c.changeTick < t.now))
      t.updContract i (fun c => { c with onBackup := c.onBackup ++ go })
    else t) s)

/-- The legs a flow has. -/
def Flow.legList (f : Flow) : List Leg := if f.legs = 2 then [f.legA, f.legB] else [f.legA]

/-- Membership messages for a flow's legs, on every port or one: IGMPv3 or MLDv2 by the group's address, source-specific where the leg names a
source (R139). -/
def State.joinMsgs (s : State) (f : Flow) (kind : Nat) (only : Option Nat) : State :=
  (f.legList.filter (fun l => only.all (· == l.port))).foldl (fun t l =>
    t.emit (.group l.port kind (decide (2 ^ 32 ≤ l.dstIp)) l.dstIp l.srcIp)) s

/-- IGMP_QUERY_RECEIVE (R139): reports for every ingress flow with a leg on the port. -/
def execIgmpQueryReceive (port : Nat) (s : State) : Res :=
  .next (if s.ethPort port then
    (s.strm.flows.filter (fun e => decide (e.1 < 1024) && e.2.used && e.2.ports.contains port)).foldl (fun t e =>
      t.joinMsgs e.2 2 (some port)) s
  else s)

/-- ARP_REQUEST_RECEIVE (R138): ARP, neighbour discovery or ping for the port's own address is answered. -/
def execArpRequestReceive (port kind ip : Nat) (s : State) : Res :=
  .next (if s.ethPort port && ip == (s.port port).ip then s.emit (.portMsg port 3 kind) else s)

/-! ## Modules (R152–R154) -/

/-- The configured ports with lanes in a quad. -/
def State.quadPorts (s : State) (q : Nat) : List Nat :=
  ((List.range 4).map (fun i => 4 * q + i)).filter (fun p => (s.port p).kind != 0)

/-- MODULE_INSERT (R152, R153): MOD_INSERT, and the wait for the module's initialisation time. -/
def execModuleInsert (q : Nat) (s : State) : Res :=
  if q < 24 ∧ s.domOn 3 then
    .next (((s.wr (Reg.STRM.MOD_STATUS.PRESENT q) 1).wr (Reg.STRM.MOD_STATUS.STATE q) 1).evt (Reg.STRM.MOD_STATUS.MOD_INSERT q))
  else .next s

/-- MODULE_REMOVE (R152–R154, R412): MOD_REMOVE; the lanes of the quad's configured ports go down, to P1, and their
sources are lost. -/
def execModuleRemove (q : Nat) (s : State) : Res :=
  if q < 24 ∧ s.isSet (Reg.STRM.MOD_STATUS.PRESENT q) then
    let s1 := (((s.wr (Reg.STRM.MOD_STATUS.PRESENT q) 0).wr (Reg.STRM.MOD_STATUS.TYPE q) 0).wr (Reg.STRM.MOD_STATUS.STATE q) 0).evt
      (Reg.STRM.MOD_STATUS.MOD_REMOVE q)
    .next ((s1.quadPorts q).foldl (fun t p =>
      let t1 := (portLanes p (t.port p).kind).foldl (fun u l => ((u.setLinkUp l false).wr (Reg.LANE.STATUS.NEG_STATE l) 0).askPstate l 1) t
      (t1.portEvt p Reg.STRM.PORT_EVENT.SIG_LOST).portDown p) s1)
  else .next s

/-- MODULE_INIT_DONE (R152, R153, R412): with no `read` yet the initialisation time is over and the module is being read; then, no answer
is an I2C fault; the ports whose rate and kind it supports get their lanes enabled, the others' lanes are kept or taken down, a
MISMATCH. -/
def execModuleInitDone (q : Nat) (read answers : Bool) (r : ModRead) (s : State) : Res :=
  let st := s.rd (Reg.STRM.MOD_STATUS.STATE q)
  if 24 ≤ q ∨ ¬ (st = 1 ∨ st = 2) then .next s
  else if !read then .next (s.wr (Reg.STRM.MOD_STATUS.STATE q) 2)
  else if !answers then .next ((s.wr (Reg.STRM.MOD_STATUS.STATE q) 5).evt (Reg.STRM.MOD_STATUS.I2C_FAULT q))
  else
    let s1 := s.wr (Reg.STRM.MOD_STATUS.TYPE q) r.ty
    let lanes := fun (l : List Nat) => l.flatMap (fun p => portLanes p (s1.port p).kind)
    let bad := (s1.quadPorts q).filter (fun p => r.bad.contains p)
    let good := (s1.quadPorts q).filter (fun p => !r.bad.contains p)
    let s2 := (lanes good).foldl (fun t l => (t.askPstate l 0).wr (Reg.LANE.STATUS.NEG_STATE l) 2) s1
    if bad.isEmpty then .next (s2.wr (Reg.STRM.MOD_STATUS.STATE q) 3)
    else
      let s3 := (s2.wr (Reg.STRM.MOD_STATUS.STATE q) 4).evt (Reg.STRM.MOD_STATUS.MOD_MISMATCH q)
      .next ((lanes bad).foldl (fun t l => ((t.setLinkUp l false).askPstate l 1).negFail l 5) (bad.foldl State.portDown s3))

/-- MOD_LOS_SAMPLE (R152): bit q of `los` is the level of MOD_LOS[q]. -/
def execModLosSample (los : Nat) (s : State) : Res :=
  .next ((List.range 24).foldl (fun t q => t.flag (Reg.STRM.MOD_STATUS.LOS q) (bit los q)) s)

/-! ## PORT_CONFIG (R130, R132, R137, R164) -/

/-- PORT_CONFIG's parameters as a configuration (R164). -/
def parsePort (p : List Byte) : PortCfg where
  kind := u8 p 2
  rx := bit (u8 p 3) 0
  tx := bit (u8 p 3) 1
  auto := bit (u8 p 3) 2
  fec := bit (u8 p 3) 3
  macsec := bit (u8 p 3) 4
  txRate := u8 p 4
  idle := u8 p 5
  mac := leAt p 8 6
  prefixLen := u8 p 14
  ip := leAt p 16 16

/-- Is a kind allowed on a port (R129)? -/
def kindOk (port kind : Nat) : Bool :=
  kind == 0 || (if port < 96 then kind == 1 || kind == 3 || kind == 4 || ((kind == 2 || kind == 5) && port % 4 == 0)
    else kind == 6)

/-- Is the SDI rate bad for the kind (R132, R164)? -/
def portRateBad (c : PortCfg) : Bool :=
  match c.kind with
  | 1 => c.txRate == 0 || decide (9 < c.txRate)
  | 2 => !(c.txRate == 8 || c.txRate == 9)
  | _ => false

/-- Is the port held by something else (R130, R404)? -/
def State.portHeld (s : State) (p : Nat) (c : PortCfg) : Bool :=
  (s.groupOf p).isSome ||
  ((portLanes p c.kind).any (fun l => s.laneFunc l == funcPcie || s.laneFunc l == funcLink)) ||
  ((c.kind == 2 || c.kind == 5) && (List.range 3).any (fun i => (s.port (p + 1 + i)).kind != 0)) ||
  s.thirdBase (portLanes p c.kind) (if c.kind ≠ 0 ∧ (c.tx ∨ 3 ≤ c.kind) then rateBase (kindRate c) 0 else 0)

/-- The body of PORT_CONFIG (R164). -/
def cmdPortConfig (p : List Byte) (floor : Nat) (s : State) : Ans :=
  let port := u16 p 0
  let c := parsePort p
  let eff := (effTick 0 (max (s.now + 1) floor)).1
  Ans.check s
    [(!s.portPresent port, Sts.unitAbsent),
     (!(s.domOn 3 && (portLanes port c.kind).all (fun l => s.domOn (laneDom l) ||
        (s.laneFunc l == funcPcie))), Sts.domainOff),
     (!kindOk port c.kind || portRateBad c || decide (31 < u8 p 3) || decide (1 < c.idle) || u16 p 6 != 0 ||
       u8 p 15 != 0 || !zeroFrom p 32, Sts.badParam),
     (s.portHeld port c, Sts.badState),
     (c != { s.port port with idle := c.idle } && !(s.liveWhere (fun k => s.usesPort k port)).isEmpty, Sts.wouldBreak)]
    (Ans.say (s.schedule eff (.port port c)) Sts.ok eff [])

/-- PORT_CONFIG (R164). -/
def execPortConfig (h : Hdr) (p : List Byte) (s : State) : Res := .next (command 0x0403 h p (cmdPortConfig p) s)

/-- A port configuration takes effect (R131, R137, R164, R399, R413): lanes change owner, rate and base, and an
SDI framer has its ancillary filter entries (R136). -/
def State.applyPort (s : State) (p : Nat) (c : PortCfg) : State :=
  let old := s.port p
  let keep := if c.kind = 1 ∨ c.kind = 2 then (Config.ancFilters p).take 32 else []
  let s1 : State := { s with strm := { s.strm with
    ports := SMap.set (fun _ => ({} : PortCfg)) s.strm.ports p c, filters := SMap.set (fun _ => []) s.strm.filters p keep } }
  if { old with idle := 0 } = { c with idle := 0 } then s1
  else
    let freed := (portLanes p old.kind).filter (fun l => old.kind != 0 && !(c.kind != 0 && (portLanes p c.kind).contains l))
    let s2 := if old.kind = 0 then s1 else (s1.wr (Reg.STRM.PORT_STATUS.SIG_DET p) 0).portDown p
    let s3 := (s2.wr (Reg.STRM.PORT_STATUS.KIND p) c.kind).wr (Reg.STRM.PORT_STATUS.RATE p) 0
    let s4 := freed.foldl (fun t l =>
      ((((t.wr (Reg.LANE.STATUS.FUNC l) 0).wr (Reg.LANE.STATUS.RATE l) 0).setLinkUp l false).setBase l 0).askPstate l 2) s3
    if c.kind = 0 then s4
    else
      let wait := p < 96 ∧ s4.isSet (Reg.STRM.MOD_STATUS.PRESENT (p / 4)) ∧ s4.rd (Reg.STRM.MOD_STATUS.STATE (p / 4)) ≠ 3
      (portLanes p c.kind).foldl (fun t l =>
        let t1 := ((t.wr (Reg.LANE.STATUS.FUNC l) funcPort).wr (Reg.LANE.STATUS.RATE l) (kindRate c)).setBase l
          (if c.tx ∨ 3 ≤ c.kind then rateBase (kindRate c) 0 else 0)
        let t2 := t1.askPstate l (if wait then 1 else 0)
        if ethKind c.kind then (t2.setLinkUp l false).startNeg l else t2) s4

/-! ## FLOW_ADD and FLOW_REMOVE (R146, R147, R165, R166) -/

/-- The leg at byte `k` of a flow descriptor (R147). -/
def parseLeg (p : List Byte) (k : Nat) : Leg :=
  ⟨u16 p k, u16 p (k + 2), u16 p (k + 4), u8 p (k + 6), u8 p (k + 7), leAt p (k + 8) 16, leAt p (k + 24) 16, u16 p (k + 40),
    leAt p (k + 42) 6⟩

/-- A flow descriptor's fields (R147). -/
def parseFlow (p : List Byte) : Flow where
  used := true
  legs := u8 p 1
  sender := u8 p 2
  restamp := bit (u8 p 3) 0
  block := bit (u8 p 3) 1
  format := u32 p 4
  lossUs := if u32 p 8 = 0 then 1000 else u32 p 8
  skewUs := u32 p 12
  ssrc := u32 p 16
  pt := u8 p 20
  legA := parseLeg p 32
  legB := if u8 p 1 = 2 then parseLeg p 80 else {}

/-- Does a leg break R147 or R568? -/
def State.legBad (s : State) (eg : Bool) (l : Leg) : Bool :=
  !s.ethPort l.port || (eg && l.srcIp != 0) || l.vlan / 2 ^ 12 % 8 != 0 ||
  (eg && s.strm.flows.any (fun e => decide (1024 ≤ e.1) && e.2.used &&
    ((e.2.legA.port == l.port && e.2.legA.dstIp == l.dstIp && e.2.legA.dport == l.dport) ||
     (e.2.legs == 2 && e.2.legB.port == l.port && e.2.legB.dstIp == l.dstIp && e.2.legB.dport == l.dport))))

/-- Does a flow descriptor break R147, R140 or R568? -/
def State.flowBad (s : State) (p : List Byte) : Bool :=
  let f := parseFlow p
  decide (1 < u8 p 0) || f.legs == 0 || decide (2 < f.legs) || decide (2 < f.sender) || decide (3 < u8 p 3) ||
  !fmtOk f.format || decide (fmtCarriage f.format < 3) || decide (8 < fmtCarriage f.format) ||
  (u32 p 8 != 0 && (decide (u32 p 8 < 100) || decide (100000 < u32 p 8))) ||
  decide ((if f.legs = 2 then 10000 else 0) < f.skewUs) || decide (f.pt < 96) || decide (127 < f.pt) || !zeroAt p 21 11 ||
  f.legList.any (s.legBad (u8 p 0 == 1))

/-- The lowest free index of a table (R434 gives a twin the lowest; the same alone). -/
def State.freeFlow (s : State) (base : Nat) : Option Nat :=
  ((List.range 1024).find? (fun i => !(s.flow (base + i)).used)).map (base + ·)

/-- The body of FLOW_ADD (R146, R165). -/
def cmdFlowAdd (h : Hdr) (p : List Byte) (floor : Nat) (s : State) : Ans :=
  match s.readBuf h (u64 p 0) (min (u32 p 8) 128) with
  | none => s.dataErr h
  | some b =>
    let f := parseFlow b
    let eg := u8 b 0 == 1
    let res := if eg then 8 else 7
    let eff := (effTick 0 (max (s.now + 1) floor)).1
    let i := (s.freeFlow (if eg then 1024 else 0)).getD 0
    Ans.check s
      [(f.legList.any (fun l => !s.portPresent l.port), Sts.unitAbsent),
       (f.legList.any (fun l => !s.portOn l.port), Sts.domainOff),
       (u32 p 8 != 128 || !zeroFrom p 12 || h.spiBad (u64 p 0) 128 || s.flowBad b, Sts.badParam),
       ((s.freeFlow (if eg then 1024 else 0)).isNone ||
         decide (s.limit s.envNow res 0 0 < s.heldCount res + 1), Sts.noCapacity)]
      (let s1 := (s.setFlow i f).schedule eff (.flowAdd i)
       let s2 := if eg then s1 else s1.joinMsgs f 0 none
       Ans.say s2 Sts.ok eff (toLe 2 (i % 1024) ++
         [BitVec.ofNat 8 (if s.ident.variant = 3 then 0 else streamEngine f.legA.port)]))

/-- FLOW_ADD (R165). -/
def execFlowAdd (h : Hdr) (p : List Byte) (s : State) : Res := .next (command 0x0401 h p (cmdFlowAdd h p) s)

/-- A flow entry that was added is valid (R165). -/
def State.applyFlow (s : State) (i : Nat) : State := (s.setFlow i { s.flow i with valid := (s.flow i).used }).setDyn i {}

/-- The body of FLOW_REMOVE (R166). -/
def cmdFlowRemove (p : List Byte) (floor : Nat) (s : State) : Ans :=
  let eg := u8 p 0 == 1
  let i := (if eg then 1024 else 0) + u16 p 2
  let eff := (effTick 0 (max (s.now + 1) floor)).1
  let named := s.liveWhere (fun c => (if eg then c.d.dsts else c.d.srcs).any (fun e =>
    s.isLocal e.dev && e.kind == 2 && e.index == u16 p 2))
  Ans.check s
    [((s.flow i).used && (s.flow i).ports.any (fun q => !s.portOn q), Sts.domainOff),
     (decide (1 < u8 p 0) || u8 p 1 != 0 || decide (1023 < u16 p 2) || !zeroFrom p 4 || !(s.flow i).used ||
       (s.flow i).removing, Sts.badParam),
     (!named.isEmpty, Sts.badState)]
    (Ans.say ((s.setFlow i { s.flow i with removing := true }).schedule eff (.flowRemove i)) Sts.ok eff [])

/-- FLOW_REMOVE (R166). -/
def execFlowRemove (h : Hdr) (p : List Byte) (s : State) : Res := .next (command 0x0402 h p (cmdFlowRemove p) s)

/-- A flow entry goes and its leaves are sent (R139, R166). -/
def State.dropFlow (s : State) (i : Nat) : State :=
  let f := s.flow i
  let s1 := (s.setFlow i {}).setDyn i {}
  if i < 1024 then s1.joinMsgs f 1 none else s1

/-! ## SUBST_POLICY (R157, R158, R167) -/

/-- Does a policy bring a hold buffer that the contract has not (R157)? -/
def Contract.addsHold (c : Contract) (pol : Nat) : Bool :=
  (c.d.typ == 1 || c.d.typ == 2) && (pol == 0 || pol == 2) && !(c.d.subst == 0 || c.d.subst == 2) &&
  c.d.dsts.any (fun e => fmtHasRaster e.format)

/-- The body of SUBST_POLICY (R167). -/
def cmdSubstPolicy (h : Hdr) (p : List Byte) (floor : Nat) (s : State) : Ans :=
  let pol := u8 p 4
  match s.namedContract h (u32 p 0) with
  | none => Ans.err s Sts.badParam
  | some i =>
    let c := s.contract i
    let eff := effTick (u64 p 8) (max (s.now + 1) floor)
    Ans.check s
      [(decide (3 < pol) || decide (1 < u8 p 5) || u16 p 6 != 0 || !zeroFrom p 16 ||
         (pol == 2 && !c.d.srcs.any (fun e => e.backup)), Sts.badParam),
       (c.st == .releasing || c.st == .released, Sts.badState)]
      (if c.addsHold pol then
         Ans.wait (s.addProp { h := h, desc := [], rcvd := s.now, subst := some (i, pol, u8 p 5), substTick := u64 p 8 })
       else Ans.say (s.schedule eff.1 (.subst i pol (u8 p 5 == 1))) eff.2 eff.1 [BitVec.ofNat 8 pol])

/-- SUBST_POLICY (R167). -/
def execSubstPolicy (h : Hdr) (p : List Byte) (s : State) : Res := .next (command 0x0404 h p (cmdSubstPolicy h p) s)

/-- A contract's policy, its charges and NO_REVERT change (R157, R167). -/
def State.applySubst (s : State) (i pol : Nat) (nr : Bool) : State :=
  if (s.contract i).st = .released then s
  else
    let dem := s.redemand i pol
    let s1 := s.updContract i (fun c => { c with
      d := { c.d with subst := pol }, charges := dem, onBackup := if pol = 2 then c.onBackup else [] })
    { s1 with strm := { s1.strm with
      noRevert := if nr then sortNat (i :: s1.strm.noRevert) else s1.strm.noRevert.filter (· != i) } }

end Sys2Proof.Machine
end

