-- ==== Sys2Proof/Machine/Takes.lean ====
section
/-! DEFINITION. Takes, presets and run-ahead (05_takes.md): the take unit's timing (R173–R176), speculation, cutoff and
landing (R177–R185), twin takes (R187), GPI and tally (R188–R190), and the family's commands. -/

namespace Sys2Proof.Machine

/-! ## A take's tick (R173, R175, R176) -/

/-- A transition with the armed one put in for 0xFF (R192). -/
def Egress.transOf (e : Egress) (trans pattern dur : Nat) : Nat :=
  if trans = 0xFF then transKey e.trans e.pattern e.dur else transKey trans pattern dur

/-- Can a take with this transition, cutoff and run-ahead land on tick `t` (R175)? -/
def State.meets (s : State) (k tr cut : Nat) (ahead : Bool) (t : Nat) : Bool :=
  decide (s.now + 1 < t) ||
  (t == s.now + 1 && decide (s.slot + cut < s.slots) &&
    (!ahead || decide (s.slot + (s.egress k).wSlots < s.slots) || (s.egress k).spec == some (t, tr)))

/-- The landing tick of a take that names `named`, and whether it was moved (R175, R176): no tick before `floor`, the earliest a twin
partner can meet, is one it can meet (R120). -/
def State.takeTick (s : State) (k tr cut : Nat) (ahead : Bool) (named floor : Nat) : Nat × Bool :=
  let first := max floor (if s.meets k tr cut ahead (s.now + 1) then s.now + 1 else s.now + 2)
  let t0 := if s.meets k tr cut ahead named && decide (floor ≤ named) then named else first
  let t := s.roomFrom k t0
  (t, t != t0 || (named != 0 && t0 != named))

/-- A take takes the place of the pending take of its egress that is not past its cutoff; where its tick or transition
differs from the work being speculated, that work is rolled back at once (R183). -/
def State.placeTake (s : State) (t : PTake) : State :=
  let k := egKey t.idx t.dst
  let old := fun (x : PTake) => egKey x.idx x.dst == k && !s.pastCutoff x
  let s1 := s.setTakes (s.take.pend.filter (fun x => !old x) ++ [t])
  if s.take.pend.any old && (s.egress k).spec.any (fun w => w != (t.tick, transKey t.trans t.pattern t.dur)) then s1.rollback k
  else s1

/-- Is a preset armed on an egress that a take could still find there at tick `t`: no release of the pair is due by then (R172)? -/
def State.armedBy (s : State) (k t : Nat) : Bool :=
  let e := s.egress k
  e.preset != 0 && !s.due.any (fun d => decide (d.eff ≤ t) && (match d.act with
    | .disarm i => i + 1 == e.preset || i + 1 == e.program
    | .release i => i == k / 16
    | _ => false))

/-- Is a transition malformed: TRANS, a PATTERN beside a wipe, a DURATION of a cut or out of range (R192, R568)? -/
def transBad (trans pattern dur : Nat) : Bool :=
  (decide (2 < trans) && trans != 0xFF) || (trans != 2 && pattern != 0) ||
  (if trans = 0 then dur != 0 else if trans = 0xFF then decide (999 < dur) else dur == 0 || decide (999 < dur))

/-- Are TAKE's parameters malformed (R175, R192, R568)? -/
def State.takeBad (s : State) (i : Option Nat) (dst trans pattern dur tick : Nat) : Bool :=
  !(i.any (fun i => (s.contract i).d.switchable && decide (dst < (s.contract i).d.dsts.length))) ||
  transBad trans pattern dur || decide (s.now + 256 < tick)

/-- May a switchable contract's egress not be taken for tick `t`: it does not run, or no preset is armed then (R192)? -/
def State.takeOff (s : State) (i dst t : Nat) : Bool :=
  !((s.contract i).st == .active || (s.contract i).st == .starved || (s.contract i).st == .held) ||
  !s.armedBy (egKey i dst) t

/-- The take a request makes: its landing tick and flags (R175–R178); `extra` slots of cutoff on a twin (R187). -/
def State.makeTake (s : State) (i dst trans pattern dur named floor extra : Nat) : PTake :=
  let k := egKey i dst
  let e := s.egress k
  let tr := e.transOf trans pattern dur
  let t := s.takeTick k tr (s.cutoff + extra) s.runAhead named floor
  { idx := i, dst := dst, trans := tr % 256, pattern := tr / 256 % 256, dur := tr / 65536, tick := t.1, ahead := s.runAhead,
    cutoff := s.cutoff + extra, late := t.2 }

/-- LATE and its count, for a take moved to a later tick. -/
def State.noteLate (s : State) (late : Bool) : State :=
  if late then (s.evt Reg.TAKE.EVENT.LATE).bump Reg.TAKE.ERR_CNT.LATE_CNT else s

/-- The result bytes of TAKE (R192). -/
def State.takeBytes (s : State) (t : PTake) : List Byte :=
  toLe 2 (s.slots - t.cutoff) ++ toLe 2 (if t.ahead then s.slots - (s.egress (egKey t.idx t.dst)).wSlots else 0xFFFF)

/-- Send a take to the twin partner and keep it for the answer (R187). -/
def State.sendTake (s : State) (t : PTake) (h : Option Hdr) : State :=
  let s1 := s.setTakes (s.take.pend ++ [{ t with wait := true, hdr := h }])
  s1.emit (.twinTake 0 ((s.contract t.idx).id t.idx) t.dst t.tick false (transKey t.trans t.pattern t.dur))

/-- The body of TAKE (R175, R183, R186, R187, R192). -/
def cmdTake (h : Hdr) (p : List Byte) (floor : Nat) (s : State) : Ans :=
  let i := s.findContract (u32 p 0)
  let dst := u8 p 4
  let twin := h.twinApply && h.hwPath
  let t := s.makeTake (i.getD 0) dst (u8 p 5) (u8 p 6) (u16 p 8) (u64 p 12) floor (if twin then 2 else 0)
  Ans.check s
    [(s.mode != 4, Sts.modeRefused),
     (s.takeBad i dst (u8 p 5) (u8 p 6) (u16 p 8) (u64 p 12) || u8 p 7 != 0 || u16 p 10 != 0 || !zeroFrom p 20, Sts.badParam),
     (s.takeOff (i.getD 0) dst t.tick || (twin && !s.paired), Sts.badState)]
    (if twin then Ans.wait (s.sendTake t (some h))
     else Ans.say ((s.placeTake t).noteLate t.late) (if t.late then Sts.later else Sts.ok) t.tick (s.takeBytes t))

/-- TAKE (R192). -/
def execTake (h : Hdr) (p : List Byte) (s : State) : Res := .next (command 0x0501 h p (cmdTake h p) s)

/-! ## TAKE_ABORT (R184, R193) -/

/-- The pending take an abort names: the tick given, or whichever is pending, before its cutoff, or where the abort is `twin`'s, before a
cutoff of two slots more (R184, R187). -/
def State.abortTarget (s : State) (i dst tick : Nat) (twin : Bool) : Option PTake :=
  s.take.pend.find? (fun t => t.idx == i && t.dst == dst && (tick == 0 || t.tick == tick) && !t.wait && !t.prov &&
    !s.pastCutoff (if twin then { t with cutoff := max t.cutoff (s.cutoff + 2) } else t))

/-- Remove a pending take before its cutoff and roll its speculation back (R184). -/
def State.abortTake (s : State) (t : PTake) : State :=
  let k := egKey t.idx t.dst
  let s1 := (s.setTakes (s.take.pend.erase t)).evt Reg.TAKE.EVENT.ABORTED
  if (s.egress k).spec.any (fun w => w.1 == t.tick) then s1.rollback k else s1

/-- The body of TAKE_ABORT (R184, R186, R187, R193). -/
def cmdTakeAbort (h : Hdr) (p : List Byte) (_floor : Nat) (s : State) : Ans :=
  let i := s.findContract (u32 p 0)
  let dst := u8 p 4
  let twin := h.twinApply && h.hwPath
  let t := i.bind (fun i => s.abortTarget i dst (u64 p 8) twin)
  Ans.check s
    [(s.mode != 4, Sts.modeRefused),
     (!(i.any (fun i => (s.contract i).d.switchable && decide (dst < (s.contract i).d.dsts.length))) || !zeroAt p 5 3 ||
       !zeroFrom p 16, Sts.badParam),
     (t.isNone || (twin && !s.paired), Sts.badState)]
    (match t with
     | none => Ans.err s Sts.badState
     | some t =>
       if twin then
         Ans.wait ((s.setTakes (updWhere (· == t) (fun x => { x with abort := some h }) s.take.pend)).emit
           (.twinTake 0 (u32 p 0) dst t.tick true 0))
       else Ans.say (s.abortTake t) Sts.ok t.tick [])

/-- TAKE_ABORT (R193). -/
def execTakeAbort (h : Hdr) (p : List Byte) (s : State) : Res := .next (command 0x0506 h p (cmdTakeAbort h p) s)

/-! ## Run-ahead, cutoff and landing (R177–R185) -/

/-- The take pending on an egress for the next tick, the latest first. -/
def State.nextTake (s : State) (k : Nat) : Option PTake :=
  s.take.pend.reverse.find? (fun t => egKey t.idx t.dst == k && t.tick == s.now + 1)

/-- The armed egresses. -/
def State.armed (s : State) : List Nat := (s.take.egress.filter (fun e => e.2.preset != 0)).map (·.1)

/-- RUNAHEAD_START (R177, R178): every armed egress whose run-ahead starts with the present slot begins the work of the
take pending for the next tick, or of the armed transition, while run-ahead is on or a take accepted with it is pending there; none
starts on a halted engine (R539). -/
def execRunaheadStart (s : State) : Res :=
  .next (s.armed.foldl (fun t k =>
    let e := t.egress k
    let on := t.runAhead || t.take.pend.any (fun x => egKey x.idx x.dst == k && x.ahead)
    if on ∧ t.slot + e.wSlots = t.slots ∧ e.spec.isNone ∧ ¬ (t.downEngines k).any (fun x => t.engState x == engHalted) then
      match t.nextTake k with
      | some x => if x.plain then t else t.speculate k (t.now + 1) (transKey x.trans x.pattern x.dur)
      | none => t.speculate k (t.now + 1) (transKey e.trans e.pattern e.dur)
    else t) s)

/-- One egress at its cutoff (R177, R178, R187). -/
def State.cutoffOne (s : State) (k : Nat) : State :=
  match s.nextTake k with
  | some t =>
    if s.slots ≤ s.slot + t.cutoff then
      if t.prov then
        let s1 := s.setTakes (s.take.pend.erase t)
        (if (s.egress k).spec.any (fun w => w.1 == t.tick) then s1.rollback k else s1).evt Reg.TAKE.EVENT.TWIN_REFUSED
      else if t.wait then s
      else s.setTakes (updWhere (· == t) (fun x => { x with final := true, plain := x.plain || (s.egress k).spec.isNone }) s.take.pend)
    else s
  | none => if s.slots ≤ s.slot + s.cutoff ∧ (s.egress k).spec.any (fun w => w.1 == s.now + 1) then s.rollback k else s

/-- TAKE_CUTOFF (R177): pending takes become final, speculation without a take is rolled back. -/
def execTakeCutoff (s : State) : Res := .next ((s.take.egress.map (·.1)).foldl State.cutoffOne s)

/-- The level a tally gives its GPO (R197). -/
def State.tallyLevel (s : State) (t : Tally) : Bool :=
  let role : Option (Nat × Bool) := match s.findContract t.id with
    | some i => (s.roleOf i t.dst).filter (fun r => r.1 % 16 == t.dst)
    | none => none
  let on := match t.source with
    | 0 => false
    | 1 => true
    | 2 => role.any (fun r => r.2)
    | _ => role.any (fun r => !r.2)
  on != (t.polarity == 1)

/-- Drive every GPO that a tally moves (R190). -/
def State.updTallies (s : State) : State :=
  s.take.tally.foldl (fun u x =>
    let v := u.tallyLevel x.2
    if bit (u.rd Reg.GPO.LEVEL.LEVEL) x.1 = v then u
    else (u.wr Reg.GPO.LEVEL.LEVEL (if v then setBit (u.rd Reg.GPO.LEVEL.LEVEL) x.1 else clrBit (u.rd Reg.GPO.LEVEL.LEVEL) x.1)).emit
      (.gpo x.1 v)) s

/-- One take lands (R181, R185): provisional buffers and engine words become the committed ones, the engines get the take-commit
interrupt and the fabric its commit strobe (kind 2), the roles swap, and LANDED is raised. -/
def State.land (s : State) (t : PTake) : State :=
  let k := egKey t.idx t.dst
  let e := s.egress k
  let s1 := s.setTakes (s.take.pend.erase t)
  let s2 := (((s1.downEngines k).foldl State.engLand s1).strobe 2 k).keepSpec k
  let held := [t.idx, e.preset - 1, e.program - 1].filter (fun i => (s.contract i).st == .held)
  let s3 := s2.updEgress k (fun e => { e with
    program := e.preset, preset := e.program, spec := none, buffer := if e.spec.isSome then 1 - e.buffer else e.buffer,
    turn := e.turn != e.spec.isSome,
    running := t.dur, swaps := (s.tick.edge :: e.swaps).take 256, heldBy := held.map (fun i => (i, (s.contract i).changeTick)) })
  let s4 := (s3.evt Reg.TAKE.EVENT.LANDED).bump Reg.TAKE.COUNT.LANDED_CNT
  ((s4.wr Reg.TAKE.LAST.INDEX t.idx).wr Reg.TAKE.LAST.DST t.dst).wr Reg.TAKE.LAST.TICK s.now

/-- Is a switchable contract released at this boundary (R77, R172)? -/
def State.releasedNow (s : State) (i : Nat) : Bool :=
  s.due.any (fun d => decide (d.eff ≤ s.now) && (match d.act with
    | .release j => j == i
    | .posture _ _ m => m.contains i
    | _ => false)) || (s.contract i).expiry.any (fun t => (s.contract i).st == .admitted && decide (t ≤ s.now))

/-- A take of this boundary lands, unless its contract is released at it or no preset is left (R172, R181). -/
def State.landOrCancel (s : State) (t : PTake) : State :=
  if s.releasedNow t.idx || (s.egress (egKey t.idx t.dst)).preset == 0 then
    ((s.setTakes (s.take.pend.erase t)).evt Reg.TAKE.EVENT.ABORTED).rollback (egKey t.idx t.dst)
  else s.land t

/-- TAKE_LANDING (R172, R181, R190): the takes of this boundary land, and the tallies follow. -/
def execTakeLanding (s : State) : Res :=
  let due := s.take.pend.filter (fun t => decide (t.tick ≤ s.now) && !t.prov && !t.wait)
  .next (if due.isEmpty then s else (due.foldl State.landOrCancel s).updTallies)

/-! ## Twin takes (R187) -/

/-- The table index and pending take that a twin message names. -/
def State.twinTarget (s : State) (id dst tick : Nat) (f : PTake → Bool) : Option PTake :=
  (s.findContract id).bind (fun i => s.take.pend.find? (fun t => t.idx == i && t.dst == dst && t.tick == tick && f t))

/-- TWIN_TAKE_RECEIVE: the partner checks the take, or the abort, and answers ACCEPT or REFUSE on both links. -/
def execTwinTakeReceive (id dst tick trans : Nat) (abort : Bool) (s : State) : Res :=
  let ans := fun (u : State) (ok : Bool) => u.emit (.twinTake (if ok then 1 else 2) id dst tick abort 0)
  match s.findContract id with
  | none => .next (ans s false)
  | some i =>
    let k := egKey i dst
    if abort then
      match s.abortTarget i dst tick false with
      | some t => .next (ans (s.setTakes (updWhere (· == t) (fun x => { x with abProv := true }) s.take.pend)) true)
      | none => .next (ans s false)
    else if s.mode = 4 ∧ (s.contract i).d.switchable ∧ dst < (s.contract i).d.dsts.length ∧ ¬ s.takeOff i dst tick ∧
        s.meets k trans s.cutoff s.runAhead tick ∧ s.room k tick then
      let t : PTake := { idx := i, dst := dst, trans := trans % 256, pattern := trans / 256 % 256, dur := trans / 65536, tick := tick, ahead := s.runAhead, cutoff := s.cutoff, prov := true }
      .next (ans (s.setTakes (s.take.pend ++ [t])) true)
    else .next (ans s false)

/-- TWIN_TAKE_ANSWER_RECEIVE: on ACCEPT the receiving unit sends CONFIRM and replies; on REFUSE neither device lands
it. -/
def execTwinTakeAnswerReceive (id dst tick : Nat) (abort accept : Bool) (s : State) : Res :=
  if abort then
    match s.twinTarget id dst tick (fun t => t.abort.isSome) with
    | none => .next s
    | some t =>
      let reply := fun (u : State) (st eff : Nat) => match t.abort with | some h => u.answer h st eff [] | none => u
      if accept then .next (reply ((s.abortTake t).emit (.twinTake 3 id dst tick true 0)) Sts.ok tick)
      else .next (reply ((s.setTakes (updWhere (· == t) (fun x => { x with abort := none }) s.take.pend)).evt
        Reg.TAKE.EVENT.TWIN_REFUSED) Sts.disagrees 0)
  else
    match s.twinTarget id dst tick (fun t => t.wait) with
    | none => .next s
    | some t =>
      let reply := fun (u : State) (st eff : Nat) (r : List Byte) => match t.hdr with | some h => u.answer h st eff r | none => u
      let s1 := s.setTakes (s.take.pend.erase t)
      if accept then
        .next (reply (((s1.placeTake { t with wait := false, hdr := none }).noteLate t.late).emit (.twinTake 3 id dst tick false 0))
          (if t.late then Sts.later else Sts.ok) tick (s.takeBytes t))
      else .next (reply (s1.evt Reg.TAKE.EVENT.TWIN_REFUSED) Sts.disagrees 0 [])

/-- TWIN_TAKE_ANSWER_TIMEOUT: no answer within 2 slots; WITHDRAW is sent. -/
def execTwinTakeAnswerTimeout (id dst tick : Nat) (abort : Bool) (s : State) : Res :=
  match s.twinTarget id dst tick (fun t => if abort then t.abort.isSome else t.wait) with
  | none => .next s
  | some t =>
    let s1 := if abort then s.setTakes (updWhere (· == t) (fun x => { x with abort := none }) s.take.pend)
      else s.setTakes (s.take.pend.erase t)
    let s2 := (s1.evt Reg.TAKE.EVENT.TWIN_REFUSED).emit (.twinTake 4 id dst tick abort 0)
    .next (match (if abort then t.abort else t.hdr) with | some h => s2.answer h Sts.unreachable 0 [] | none => s2)

/-- TWIN_TAKE_CONFIRM_RECEIVE: the partner's provisional take, or abort, becomes a firm one; an abort of a take past its cutoff comes too
late (R184, R187). -/
def execTwinTakeConfirmReceive (id dst tick : Nat) (abort : Bool) (s : State) : Res :=
  match s.twinTarget id dst tick (fun t => if abort then t.abProv else t.prov) with
  | none => .next s
  | some t =>
    if abort then .next (if s.pastCutoff t then s else s.abortTake t)
    else .next ((s.setTakes (s.take.pend.erase t)).placeTake { t with prov := false })

/-- TWIN_TAKE_WITHDRAW_RECEIVE: the partner discards the provisional take, or abort. -/
def execTwinTakeWithdrawReceive (id dst tick : Nat) (abort : Bool) (s : State) : Res :=
  match s.twinTarget id dst tick (fun t => if abort then t.abProv else t.prov) with
  | none => .next s
  | some t =>
    if abort then .next (s.setTakes (updWhere (· == t) (fun x => { x with abProv := false }) s.take.pend))
    else
      let k := egKey t.idx t.dst
      let s1 := s.setTakes (s.take.pend.erase t)
      .next (if (s.egress k).spec.any (fun w => w == (t.tick, transKey t.trans t.pattern t.dur)) then s1.rollback k else s1)

/-! ## Presets (R168, R172, R194, R195) -/

/-- An arming is accepted and not yet applied on an egress. -/
def State.armDue (s : State) (k : Nat) : Bool :=
  s.due.any (fun d => match d.act with | .arm _ e _ _ _ _ _ => e == k | _ => false)

/-- The presets armed, and those accepted for it (R168). -/
def State.armCount (s : State) : Nat :=
  s.armed.length + s.due.countP (fun d => match d.act with | .arm _ _ _ _ _ _ _ => true | _ => false)

/-- The body of PRESET_ARM (R71, R172, R174, R186, R194). -/
def cmdPresetArm (p : List Byte) (floor : Nat) (s : State) : Ans :=
  let w := u16 p 10
  match (s.findContract (u32 p 0)).filter (fun i => (s.contract i).d.preset) with
  | none => Ans.check s [(s.mode != 4, Sts.modeRefused)] (Ans.err s Sts.badParam)
  | some i =>
    let c := s.contract i
    let j := s.findContract c.d.parent
    let par := s.contract (j.getD 0)
    let dst := u8 p 4
    let e := c.d.dsts.getD 0 {}
    let f := par.d.dsts.getD dst {}
    let k := egKey (j.getD 0) dst
    let ws := s.wSlots e.format w
    let first := max (max (c.admitTick + 2) c.earliest) (max (s.now + 1) floor)
    let eff := effTick (u64 p 12) first
    Ans.check s
      [(s.mode != 4, Sts.modeRefused),
       (decide (w < 8) || decide (256 < w) || !fmtHasRaster e.format || decide (ws < 16) || decide (1024 < ws) || decide (2 < u8 p 5) ||
         (u8 p 5 != 2 && u8 p 6 != 0) || (if u8 p 5 = 0 then u16 p 8 != 0 else u16 p 8 == 0 || decide (999 < u16 p 8)) ||
         u8 p 7 != 0 || !zeroFrom p 20 ||
         (j.isSome && !(decide (dst < par.d.dsts.length) && f == e)) || c.expiry.any (fun t => decide (t < eff.1)), Sts.badParam),
       (c.st != .admitted || c.actTick.isSome || (s.egress k).preset != 0 || s.armDue k || j.isNone ||
         par.st == .releasing || par.st == .released || decide (256 ≤ s.armCount), Sts.badState)]
      (Ans.say ((s.updContract i (fun c => { c with actTick := some eff.1 })).schedule eff.1 (.arm i k (u8 p 5) (u8 p 6) (u16 p 8) w ws))
        eff.2 eff.1 (toLe 2 ws))

/-- PRESET_ARM (R194). -/
def execPresetArm (h : Hdr) (p : List Byte) (s : State) : Res := .next (command 0x0502 h p (cmdPresetArm p) s)

/-- A preset becomes ACTIVE in the PRESET role, and its run-ahead charges those of its window (R170–R172). -/
def State.applyArm (s : State) (i k tr pat dur w ws : Nat) : State :=
  let par := (s.contract (k / 16)).st
  if (s.contract i).st = .admitted ∧ par ≠ .releasing ∧ par ≠ .released then
    let s1 := (s.activate i).updEgress k (fun e => { e with
      program := k / 16 + 1, preset := i + 1, trans := tr, pattern := pat, dur := dur, w := w, wSlots := ws, spec := none })
    (s1.updContract i (fun c => { c with charges := s1.redemand i c.d.subst })).updTallies
  else s

/-- The body of PRESET_DISARM (R172, R186, R195). -/
def cmdPresetDisarm (p : List Byte) (floor : Nat) (s : State) : Ans :=
  let eff := effTick (u64 p 4) (max (s.now + 1) floor)
  match (s.findContract (u32 p 0)).filter (fun i => (s.contract i).d.preset) with
  | none => Ans.check s [(s.mode != 4, Sts.modeRefused)] (Ans.err s Sts.badParam)
  | some i =>
    Ans.check s
      [(s.mode != 4, Sts.modeRefused), (!zeroFrom p 12, Sts.badParam),
       ((s.roleOf i 0).isNone || s.presetBusy i || (s.contract i).relTick.isSome || (s.contract i).st == .releasing, Sts.badState)]
      (Ans.say ((s.updContract i (fun c => { c with relTick := some eff.1 })).schedule eff.1 (.disarm i)) eff.2 eff.1 [])

/-- PRESET_DISARM (R195). -/
def execPresetDisarm (h : Hdr) (p : List Byte) (s : State) : Res := .next (command 0x0503 h p (cmdPresetDisarm p) s)

/-- A preset is released; speculation for its egress ends (R172). -/
def State.applyDisarm (s : State) (i : Nat) : State :=
  let s1 := match s.roleOf i 0 with | some (k, _) => s.rollback k | none => s
  (s1.applyRelease i).updTallies

/-! ## GPI and tally (R188–R190, R196, R197) -/

/-- GPI_EDGE_CONFIRM (R188, R189): a confirmed edge is recorded with the stamp of its raw edge; bound, it raises a TAKE with
tick 0; on a binding with TWIN only the PRIMARY acts, and sends the take to its partner. -/
def execGpiEdgeConfirm (g tick slot : Nat) (rise : Bool) (s : State) : Res :=
  if 32 ≤ g then .next s
  else
    let lv := s.rd Reg.GPI.LEVEL.LEVEL
    let s1 := (s.wr Reg.GPI.LEVEL.LEVEL (if rise then setBit lv g else clrBit lv g)).evtBit Reg.GPI.EDGE.EDGE g
    let s2 := (((s1.wr (Reg.GPI.STAMP.SLOT g) slot).wr (Reg.GPI.STAMP.TICK g) tick).flag (Reg.GPI.STAMP.RISE g) rise).evt
      Reg.TAKE.EVENT.GPI_EDGE
    let b := SMap.get (fun _ => ({} : GpiBind)) s.take.binds g
    let i := s.findContract b.id
    if !(bit b.edge (if rise then 0 else 1)) || (b.twin && s.rd Reg.TWIN.CFG.ROLE != 1) || s.mode != 4 ||
        s.takeBad i b.dst b.trans b.pattern b.dur 0 || (b.twin && !s.paired) then .next s2
    else
      let t := s2.makeTake (i.getD 0) b.dst b.trans b.pattern b.dur 0 0 (if b.twin then 2 else 0)
      let s3 := s2.evt Reg.TAKE.EVENT.GPI_TAKE
      .next (if s2.takeOff (i.getD 0) b.dst t.tick then s2
        else if b.twin then s3.sendTake t none else (s3.placeTake t).noteLate t.late)

/-- The body of GPI_BIND (R196). -/
def cmdGpiBind (p : List Byte) (_floor : Nat) (s : State) : Ans :=
  let b : GpiBind := ⟨u8 p 1, u8 p 2, bit (u8 p 3) 0, u32 p 4, u8 p 8, u8 p 9, u8 p 10, u16 p 12⟩
  Ans.check s
    [(decide (31 < u8 p 0) || decide (3 < u8 p 1) || decide (20 < u8 p 2) || decide (1 < u8 p 3) || u8 p 11 != 0 || !zeroFrom p 14 ||
       transBad b.trans b.pattern b.dur,
       Sts.badParam),
     (b.twin && !s.paired, Sts.badState)]
    (Ans.say (s.schedule (s.now + 1) (.gpiBind (u8 p 0) b)) Sts.ok (s.now + 1) [])

/-- GPI_BIND (R196). -/
def execGpiBind (h : Hdr) (p : List Byte) (s : State) : Res := .next (command 0x0504 h p (cmdGpiBind p) s)

/-- A binding takes effect; edge code 0 unbinds (R196). -/
def State.applyBind (s : State) (g : Nat) (b : GpiBind) : State :=
  { s with take := { s.take with binds := SMap.set (fun _ => ({} : GpiBind)) s.take.binds g (if b.edge = 0 then {} else b) } }

/-- The body of TALLY_SET (R197). -/
def cmdTallySet (p : List Byte) (floor : Nat) (s : State) : Ans :=
  let t : Tally := ⟨u8 p 1, u8 p 2, u32 p 4, u8 p 8⟩
  let eff := effTick (u64 p 16) (max (s.now + 1) floor)
  Ans.check s
    [(decide (31 < u8 p 0) || decide (3 < t.source) || decide (1 < t.polarity) || u8 p 3 != 0 || !zeroAt p 9 7 || !zeroFrom p 24 ||
       (if t.source ≤ 1 then t.id != 0 else (s.findContract t.id).isNone), Sts.badParam)]
    (Ans.say (s.schedule eff.1 (.tally (u8 p 0) t)) eff.2 eff.1 [])

/-- TALLY_SET (R197). -/
def execTallySet (h : Hdr) (p : List Byte) (s : State) : Res := .next (command 0x0505 h p (cmdTallySet p) s)

/-- A GPO follows what TALLY_SET named (R190, R197). -/
def State.applyTally (s : State) (g : Nat) (t : Tally) : State :=
  ({ s with take := { s.take with tally := SMap.insert g t s.take.tally } } : State).updTallies

end Sys2Proof.Machine
end

