-- ==== Sys2Proof/Machine/Mesh.lean ====
section
/-! DEFINITION. Dolmet links, twins and the mesh (14_twin_and_mesh.md): link states and settlement (R426–R430), the digest
and its verdict (R434, R435), rejoin (R437), failover (R438, R439), routes, authority and quarantine (R440–R445), and the
family's commands. -/

namespace Sys2Proof.Machine

/-! ## Links (R426–R430, R432) -/

def State.updLink (s : State) (k : Nat) (f : LinkDyn → LinkDyn) : State :=
  { s with mesh := { s.mesh with links := SMap.upd (fun _ => ({} : LinkDyn)) s.mesh.links k f } }
def State.linkPol (s : State) (k : Nat) : LinkPol := SMap.get (fun _ => ({} : LinkPol)) s.mesh.pol k
def State.linkState (s : State) (k : Nat) : Nat := s.rd (Reg.DOLMET.LINK_STATUS.STATE k)

/-- The source entries carried over link `k`, by the paths fixed at admission: contract and entry (R432, R440). -/
def State.overLink (s : State) (k : Nat) : List (Nat × Nat) :=
  (s.led.contracts.filter (fun x => x.2.st != .released)).flatMap (fun x =>
    ((List.range x.2.d.srcs.length).filter (fun j => x.2.links.contains ((x.2.d.srcs.getD j {}).dev, k))).map (fun j => (x.1, j)))

/-- Is the link one of the two twin links? -/
def State.isTwinLink (s : State) (k : Nat) : Bool :=
  s.rd Reg.TWIN.CFG.ROLE != 0 && (s.rd Reg.TWIN.CFG.LINK_A == k || s.rd Reg.TWIN.CFG.LINK_B == k)

/-- A link leaves UP, or fails to reach it, for a reason: every source carried over it is lost, and so is a tick reference
it served (R26, R429, R432). -/
def State.linkDown (s : State) (k reason : Nat) : State :=
  let was := s.linkUp k
  let s1 := (s.wr (Reg.DOLMET.LINK_STATUS.STATE k) 0).wr (Reg.DOLMET.LINK_STATUS.DOWN_REASON k) reason
  let s2 := (s1.link k).lanes.foldl (fun t l => (t.setLinkUp l false).wr (Reg.LANE.STATUS.NEG_STATE l) 0) s1
  let s3 := s2.updLink k (fun d => { d with hbMiss := 0, tagFails := 0 })
  if was then
    let s4 := (s3.evt (Reg.DOLMET.LINK_EVENT.LINK_DOWN k)).loseList (s3.overLink k)
    (s4.setRef 4 0 k { s4.ref 4 0 k with alive := false, validRun := 0 }).sourceGone 4 0 k
  else s3

/-- A link's sources are back: they resume under R159 (R432). -/
def State.linkBack (s : State) (k : Nat) : State :=
  (s.overLink k).foldl (fun t x => t.entryBack ((t.contract x.1).d.srcs.getD x.2 {}).format true x) s

/-- A link enters QUARANTINED (R445): it carries no contract traffic, which is a loss of its sources (R432). -/
def State.quarantine (s : State) (k : Nat) : State :=
  if s.linkState k = 3 then
    let s1 := (s.wr (Reg.DOLMET.LINK_STATUS.STATE k) 4).evt (Reg.DOLMET.LINK_EVENT.QUARANTINE k)
    s1.loseList (s1.overLink k)
  else s

/-- The values agree again: at a boundary a quarantined link is UP (R445). -/
def State.unquarantine (s : State) (k : Nat) : State :=
  if s.linkState k = 4 ∧ (s.link k).agree then (s.wr (Reg.DOLMET.LINK_STATUS.STATE k) 3).linkBack k else s

/-- The role this end claims on a link (R401, R430): the twin roles, RECOVERY while a start reads its image over link 0,
MESH with a mesh ID, otherwise NONE. -/
def State.claim (s : State) (k : Nat) : Nat :=
  if s.isTwinLink k then s.rd Reg.TWIN.CFG.ROLE + 1
  else if k = 0 ∧ (s.mode = 2 ∨ (s.mode = 1 ∧ s.straps.bootSrc = 2)) then 4
  else if s.meshId ≠ 0 then 1 else 0

/-- The rate code of a link rate (R402), and its transmit base (R404). -/
def linkRateCode (r : Nat) : Nat := match r with | 0 => 0x0A | 1 => 0x0B | _ => 0x0C

/-- The highest rate of a mask of rates at or below `r`. -/
def bestRate (mask : Nat) : Nat → Option Nat
  | 0 => if bit mask 0 then some 0 else none
  | r + 1 => if bit mask (r + 1) then some (r + 1) else bestRate mask r

/-- Does this end hold a link key in the current phase (R430)? -/
def LinkDyn.keyed (d : LinkDyn) : Bool := if d.phase = 0 then d.key0 != 0 else d.key1 != 0

/-- CAPABILITY_EXCHANGE (R430, R443): the ends settle revision, lanes, FEC, encryption and role, and the link goes to the
qualification of its highest common rate, or down with its reason. -/
def execCapabilityExchange (k : Nat) (c : Caps) (s : State) : Res :=
  if !(decide (k < 6) && decide (s.linkState k < 2) && !(s.link k).lanes.isEmpty) then .next s
  else
    let mine := s.linkPol k
    let d := s.link k
    let rev2 := bit c.revs 1 && s.ident.profile != 0x56
    let role := s.claim k
    let lanes := min c.lanes (match d.lanes.length with | 1 => 0 | 2 => 1 | _ => 2)
    let fec := rev2 && (mine.fec || c.fec)
    let enc := mine.enc || c.enc || (s.isTwinLink k && s.twin.encReq)
    let top := min mine.rate (if role = 4 ∨ c.role = 4 then 0 else if rev2 then 2 else 1)
    let twinRole := fun (r : Nat) => r == 2 || r == 3
    let s0 := s.updLink k (fun d => { d with role := c.role, pStep := c.step, pProfile := c.profile, pBusy := c.busy })
    let s1 := (s0.wr (Reg.DOLMET.LINK_STATUS.PARTNER k) c.id).wr (Reg.DOLMET.LINK_STATUS.ROLE k) role
    let s2 := if c.reset then
        let t := s1.loseWhere (fun e => e.dev == c.id && !s1.isLocal e.dev)
        (t.liveWhere (fun x => x.owner == 0 && x.path.contains c.id && x.st == .active)).foldl State.enterStarved t
      else s1
    let fail := fun (r : Nat) => s2.linkDown k r
    if !(bit c.revs 0 || rev2) then .next (fail 2)
    else if enc && !(rev2 && c.key && d.keyed) then .next (fail 4)
    else if (twinRole role != twinRole c.role) || (twinRole role && role == c.role) then
      .next ((fail 6).evt (Reg.DOLMET.LINK_EVENT.ROLE_CONFLICT k))
    else match bestRate c.rates top with
      | none => .next (fail 3)
      | some r =>
        let s3 := ((((s2.flag (Reg.DOLMET.LINK_STATUS.REV2 k) rev2).wr (Reg.DOLMET.LINK_STATUS.LANES k) lanes).flag
          (Reg.DOLMET.LINK_STATUS.FEC k) fec).flag (Reg.DOLMET.LINK_STATUS.ENC k) enc).wr (Reg.DOLMET.LINK_STATUS.STATE k) 2
        let s4 := s3.updLink k (fun d => { d with cand := r, hbMiss := 0, agree := true })
        .next (d.lanes.foldl (fun t l => (t.updLane l (fun y => { y with qual := true })).wr (Reg.LANE.STATUS.NEG_STATE l) 3) s4)

/-- LANE_QUALIFICATION_END (R409, R430 item 6): a pass brings the link UP at the candidate rate; a fail tries the next lower
one, and after the lowest the link is down with reason 0x5 and the lanes fail with 0x07. -/
def execLaneQualificationEnd (k : Nat) (pass : Bool) (s : State) : Res :=
  if !(decide (k < 6) && s.linkState k == 2) then .next s
  else
    let d := s.link k
    let s0 := d.lanes.foldl (fun t l => t.updLane l (fun y => { y with qual := false })) s
    if pass then
      let s1 := (((s0.wr (Reg.DOLMET.LINK_STATUS.STATE k) 3).wr (Reg.DOLMET.LINK_STATUS.RATE k) d.cand).wr
        (Reg.DOLMET.LINK_STATUS.DOWN_REASON k) 0).evt (Reg.DOLMET.LINK_EVENT.LINK_UP k)
      let s2 := d.lanes.foldl (fun t l =>
        let t1 := (((t.wr (Reg.LANE.STATUS.RATE l) (linkRateCode d.cand)).setBase l (rateBase (linkRateCode d.cand) 0)).setLinkUp l true)
        (t1.wr (Reg.LANE.STATUS.NEG_STATE l) 5).updLane l (fun y => { y with failed := false })) s1
      .next (s2.linkBack k)
    else if 0 < d.cand then
      .next ((s0.updLink k (fun d => { d with cand := d.cand - 1 })))
    else .next (d.lanes.foldl (fun t l => t.negFail l 7) (s0.linkDown k 5))

/-- A line-packet that arrives over a link enters the crossbar for the contract whose owner's ID it carries (R148, R151,
R426, R427). -/
def State.linkPacket (s : State) (k : Nat) (f : DFrame) : State :=
  let i := match s.ownedBy f.src f.cid with
    | some i => some i
    | none => s.findContract f.cid
  match i with
  | some i => s.passTo [(i, 0)] ((s.contract i).d.srcs.getD 0 {}).format f.data { src := 184 + k, line := f.line, slot := s.slot, flags := f.flags }
  | none => s

/-- Does a link carry frames of a type: a QUARANTINED one no line-packets (R445), one in the RECOVERY role only COMMAND, REPLY and BOOT
(R430)? -/
def State.carries (s : State) (k ty : Nat) : Bool :=
  s.linkUp k && !(ty == 6 && s.linkState k == 4) && (s.rd (Reg.DOLMET.LINK_STATUS.ROLE k) != 4 || ty == 3 || ty == 4 || ty == 9)

/-- Forward a frame that is for another device: its header with one hop less, and its payload (R426, R427, R440). -/
def State.forwardFrame (s : State) (k ty dst : Nat) (f : DFrame) : State :=
  if f.hops = 0 then s.bump (Reg.DOLMET.LINK_CNT.HOP_DROP_CNT k)
  else if 3 ≤ ty ∧ ty ≤ 6 then
    match s.route dst with
    | none => s.evt Reg.MESH.EVENT.UNROUTABLE
    | some r => if s.carries r.link ty then s.emit (.frame r.link ty ([f.src, dst, f.hops - 1, f.cid] ++ f.data.map (·.toNat))) else s
  else s

/-- FRAME_FORWARD (R427). -/
def execFrameForward (k ty dst : Nat) (f : DFrame) (s : State) : Res :=
  .next (if s.carries k ty && dst != 0 && dst != s.meshId then s.forwardFrame k ty dst f else s)

/-- DOLMET_FRAME_RECEIVE (R390, R426, R427, R445): CRC, then tag; the first frame of a new key phase zeroes the old key; a
frame for another device is forwarded; a line-packet is passed on unless the link is quarantined. The other types act
through their own events. -/
def execDolmetFrameReceive (k : Nat) (f : DFrame) (s : State) : Res :=
  if !(decide (k < 6) && s.linkUp k) then .next s
  else if !f.crcOk then .next (s.bump (Reg.DOLMET.LINK_CNT.CRC_CNT k))
  else
    let enc := s.isSet (Reg.DOLMET.LINK_STATUS.ENC k)
    if enc && (!f.tagOk || (if f.phase = 0 then (s.link k).key0 else (s.link k).key1) == 0) then
      .next (((s.bump Reg.SEC.CNT.LINK_FAIL_CNT).evt Reg.SEC.EVENT.LINK_AUTH).updLink k (fun d => { d with tagFails := d.tagFails + 1 }))
    else
      let s1 := if enc then s.updLink k (fun d =>
          if d.rxPhase = f.phase then { d with rxCnt := f.fcnt }
          else if f.phase = 0 then { d with rxPhase := 0, rxCnt := f.fcnt, key1 := 0 }
          else { d with rxPhase := 1, rxCnt := f.fcnt, key0 := 0 })
        else s
      if s.carries k f.ty = false then .next s1
      else if f.dst ≠ 0 ∧ f.dst ≠ s.meshId then .next (s1.forwardFrame k f.ty f.dst f)
      else if f.ty = 6 then .next (s1.linkPacket k f)
      else .next s1

/-- LINK_TAG_FAIL_LIMIT (R390, R429): 16 tag failures within one tick take the link down with reason 0x7. -/
def execLinkTagFailLimit (k : Nat) (s : State) : Res :=
  .next (if k < 6 ∧ s.linkUp k ∧ 16 ≤ (s.link k).tagFails then s.linkDown k 7 else s)

/-- HEARTBEAT_RECEIVE (R427, R429). -/
def execHeartbeatReceive (k : Nat) (s : State) : Res :=
  .next (if k < 6 ∧ s.linkUp k then s.updLink k (fun d => { d with hbMiss := 0 }) else s)

/-! ## Twins: loss, withdrawal (R433, R435, R438, R439) -/

/-- Put the twin into a state (R433). -/
def State.setTwin (s : State) (st : Nat) : State := s.wr Reg.TWIN.STATUS.STATE st

/-- Mute or unmute every output (R433). -/
def State.setMuted (s : State) (b : Bool) : State := s.flag Reg.TWIN.STATUS.MUTED b

/-- Drive CHG_SEL: the PRIMARY alone does (R438). -/
def State.setChg (s : State) (b : Bool) : State := s.flag Reg.TWIN.STATUS.CHG_SEL (b && s.rd Reg.TWIN.CFG.ROLE == 1)

/-- Unmute the outputs a staggered molt muted (R309, R310); a paired device has muted no other contract. -/
def State.moltUnmute (s : State) : State :=
  let s1 := s.wr Reg.MOLT.STATUS.MUTED 0
  { s1 with led := { s1.led with contracts := SMap.mapAll Contract.none (fun _ c => { c with muted := false }) s1.led.contracts } }

/-- The partner is lost during a staggered molt (R310): before S the PRIMARY cancels its half and keeps its staging; from S
on the carrying device goes on and a PRIMARY unmutes without waiting for matches. -/
def State.staggerLost (s : State) : State :=
  if s.rd Reg.MOLT.STATUS.STAGGER = 0 then s
  else if s.now < s.molt.bound ∧ s.rd Reg.TWIN.CFG.ROLE = 1 then
    (((s.wr Reg.MOLT.STATUS.STAGGER 0).wr Reg.MOLT.STATUS.COMMIT_PEND 0).wr Reg.MOLT.STATUS.NEXT 0).evt Reg.MOLT.EVENT.MOLT_ABORTED
  else s.moltUnmute.wr Reg.MOLT.STATUS.STAGGER 0

/-- The partner is lost (R439): ALONE, PARTNER_LOST, every output carried; a muted receiver carries from the next boundary;
the tick leaves the twin links (R41). -/
def State.partnerLost (s : State) : State :=
  if s.twinState = 0 ∨ s.twinState = 4 then s
  else
    let muted := s.isSet Reg.TWIN.STATUS.MUTED
    let s1 := ((s.orphan 7).staggerLost.setTwin 4).evt Reg.TWIN.EVENT.PARTNER_LOST
    let s2 : State := { s1 with twin := { s1.twin with carrier := true, unmute := muted, actTick := none } }
    let s3 := if muted then s2 else s2.setChg true
    [s.rd Reg.TWIN.CFG.LINK_A, s.rd Reg.TWIN.CFG.LINK_B].foldl (fun t k =>
      (t.setRef 4 0 k { t.ref 4 0 k with alive := false, validRun := 0 }).sourceGone 4 0 k) s3

/-- This device withdraws (R435): it mutes, raises DIVERGED and enters SYNCING as a receiver. -/
def State.withdraw (s : State) : State :=
  let s1 := (((s.setMuted true).evt Reg.TWIN.EVENT.DIVERGED).bump Reg.TWIN.STATUS.DIV_CNT).setTwin 1
  let s2 : State := { s1 with twin := { s1.twin with
    carrier := false, since := s1.now, lastDiv := s1.now, moved := false, copied := [], slow := false, actTick := none } }
  (s2.wr Reg.TWIN.STATUS.MATCH_RUN 0).setChg false

/-- The partner withdraws: this device carries while it is SYNCING (R433, R435). -/
def State.carryOn (s : State) : State :=
  let s1 := (s.setTwin 1).wr Reg.TWIN.STATUS.MATCH_RUN 0
  ({ s1 with twin := { s1.twin with carrier := true, since := s1.now, slow := false, actTick := none, copied := [] } } : State).setChg true

/-- One of the two withdraws. -/
def State.verdict (s : State) (mine : Bool) : State := if mine then s.withdraw else s.carryOn

/-- HEARTBEAT_TIMEOUT (R429, R439): 3 slots without a heartbeat take the link down; with both twin links so and
TWIN_PEER_OK low, the partner is lost. -/
def execHeartbeatTimeout (k : Nat) (s : State) : Res :=
  if k < 6 ∧ s.linkUp k ∧ 3 ≤ (s.link k).hbMiss then
    let s1 := s.linkDown k 8
    .next (if s1.isTwinLink k && !s1.linkUp (s1.rd Reg.TWIN.CFG.LINK_A) && !s1.linkUp (s1.rd Reg.TWIN.CFG.LINK_B) &&
        !s1.isSet Reg.TWIN.STATUS.PEER_OK then s1.partnerLost else s1)
  else .next s

/-- TWIN_PEER_OK_FALL (R439). -/
def execTwinPeerOkFall (s : State) : Res := .next ((s.wr Reg.TWIN.STATUS.PEER_OK 0).partnerLost)

/-- FAULT_MESSAGE_RECEIVE (R429, R439): both twin links go down with reason 0x9 and the partner is lost. -/
def execFaultMessageReceive (s : State) : Res :=
  if s.rd Reg.TWIN.CFG.ROLE = 0 then .next s
  else .next (((s.linkDown (s.rd Reg.TWIN.CFG.LINK_A) 9).linkDown (s.rd Reg.TWIN.CFG.LINK_B) 9).partnerLost)

/-- LINKS_LOST (R439): both twin links are down while TWIN_PEER_OK is high: the SECONDARY withdraws and the PRIMARY carries
alone; a receiver that had not unmuted has lost its partner. -/
def execLinksLost (s : State) : Res :=
  if s.rd Reg.TWIN.CFG.ROLE ≠ 0 ∧ s.twinState ≠ 0 ∧ s.twinState ≠ 4 ∧ s.isSet Reg.TWIN.STATUS.PEER_OK ∧
      ¬ s.linkUp (s.rd Reg.TWIN.CFG.LINK_A) ∧ ¬ s.linkUp (s.rd Reg.TWIN.CFG.LINK_B) then
    let s1 := s.evt Reg.TWIN.EVENT.LINKS_LOST
    if s.isSet Reg.TWIN.STATUS.MUTED then .next s1.partnerLost
    else if s.rd Reg.TWIN.CFG.ROLE = 2 then .next s1.withdraw
    else .next (({ (s1.setTwin 4) with twin := { s1.twin with carrier := true } } : State).setChg true)
  else .next s

/-! ## The digest (R434, R435) -/

/-- A molt is in progress: committed, or a staggered plan runs (R309, R434). -/
def State.molting (s : State) : Bool := s.isSet Reg.MOLT.STATUS.COMMIT_PEND || s.rd Reg.MOLT.STATUS.STAGGER != 0

/-- CRC-64 over the contract table in index order (R434); its bytes are the records of R90 with their IDs. -/
def State.tableDigest (s : State) : Nat :=
  Config.crc64 ((s.led.contracts.filter (fun x => x.2.st != .released)).flatMap (fun x => x.2.record ++ toLe 4 (x.2.id x.1)))

/-- The digest of the tick just ended (R434). -/
def State.digest (s : State) : Digest :=
  ⟨s.now - 1, s.rd Reg.MOLT.INSTAR.INSTAR, s.twinState, s.isSet Reg.TWIN.STATUS.MUTED, s.molting, s.twin.eccTick, s.boot.imgDigest,
    s.tableDigest, s.twin.sentCrcs⟩

/-- The digest as a frame's numbers. -/
def State.digestBody (s : State) : List Nat :=
  let d := s.digest
  [d.tick, d.instar, d.st + (if d.muted then 8 else 0) + (if d.molt then 16 else 0) + (if s.rd Reg.TWIN.CFG.ROLE = 1 then 32 else 0),
    d.ecc, d.image, d.table, d.crcs.length] ++ d.crcs.flatMap (fun c => [c.1, c.2.1, c.2.2])

/-- ECC_TICK lies in the 64 ticks up to the digest's (R435). -/
def nearEcc (ecc tick : Nat) : Bool := ecc != 0 && decide (tick ≤ ecc + 64) && decide (ecc ≤ tick)

/-- The first output whose CRCs differ between two lists, among the outputs that both hold. -/
def crcDiffer (a b : List (Nat × Nat × Nat)) : Option (Nat × Nat) :=
  a.findSome? (fun x => match b.find? (fun y => y.1 == x.1) with
    | some y => if y.2 = x.2 then none else some (x.1, x.2.1)
    | none => some (x.1, x.2.1))

/-- The outputs touched by a staggered molt are not compared for divergence (R309). -/
def State.compared (s : State) (l : List (Nat × Nat × Nat)) : List (Nat × Nat × Nat) :=
  if s.rd Reg.MOLT.STATUS.STAGGER = 0 then l
  else l.filter (fun x => !(s.liveWhere (fun c => c.muted && c.d.dsts.any (fun e =>
    (e.kind == 2 && e.index == x.1) || (e.kind == 1 && e.index + 0x400 == x.1)))).any (fun _ => true))

/-- The carrier sends its tables in STATE frames and names the activation tick A, two ticks after the transfer's (R437 step 2). -/
def State.sendState (s : State) : State :=
  let a := s.now + 2
  let s1 := s.emit (.state (s.led.contracts.filter (fun x => x.2.st != .released)) s.strm.ports s.strm.flows s.take s.strm.noRevert a)
  { s1 with twin := { s1.twin with actTick := some a, copied := [] } }

/-- The partner is a receiver in SYNCING with the same INSTAR and image: a device that carries alone is SYNCING as the carrier, and a
carrier that has not sent its state does (R433, R437). -/
def State.partnerSyncs (s : State) : State :=
  if s.twinState = 4 then s.carryOn
  else if s.twinState = 1 ∧ s.twin.carrier ∧ s.twin.actTick = none ∧
      s.linkUp (s.rd Reg.TWIN.CFG.LINK_A) ∧ s.linkUp (s.rd Reg.TWIN.CFG.LINK_B) then s.sendState
  else s

/-- DIGEST_RECEIVE (R435, R437, R445): the digests of one tick are compared. Paired, a difference makes one device withdraw;
while a receiver matches, the run of matching ticks advances or restarts; differing INSTAR or image outside a molt also
quarantines the twin links. -/
def execDigestReceive (d : Digest) (s : State) : Res :=
  if s.rd Reg.TWIN.CFG.ROLE = 0 ∨ d.tick + 1 ≠ s.now then .next s
  else
    let own := s.digest
    let sec := s.rd Reg.TWIN.CFG.ROLE = 2
    let mism := (d.instar != own.instar || d.image != own.image) && !d.molt && !own.molt
    let diff := (crcDiffer (s.compared own.crcs) d.crcs).orElse (fun _ => crcDiffer (s.compared d.crcs) own.crcs)
    let s0 : State := { s with twin := { s.twin with mismatch := mism } }
    let mark := fun (t : State) (b : Bool) => [t.rd Reg.TWIN.CFG.LINK_A, t.rd Reg.TWIN.CFG.LINK_B].foldl (fun u k =>
      let u1 := u.updLink k (fun x => { x with agree := b })
      if b then u1 else u1.quarantine k) t
    let s1 := if mism then (mark s0 false).evt Reg.TWIN.EVENT.INSTAR_MISMATCH else mark s0 true
    if s.twinState = 3 then
      if mism then .next (s1.verdict sec)
      else match diff with
        | some (o, f) =>
          let s2 := (s1.wr Reg.TWIN.LAST_DIV.OUTPUT o).wr Reg.TWIN.LAST_DIV.FRAME f
          let a := nearEcc own.ecc d.tick
          let b := nearEcc d.ecc d.tick
          .next (s2.verdict (if a != b then a else sec))
        | none => .next (if d.table != own.table then s1.verdict sec else s1)
    else if s.twinState = 2 ∨ (s.twinState = 1 ∧ s.twin.carrier ∧ d.st = 2) then
      .next (s1.wr Reg.TWIN.STATUS.MATCH_RUN (if diff.isNone then min 8 (s.rd Reg.TWIN.STATUS.MATCH_RUN + 1) else 0))
    else .next (if mism ∨ d.st ≠ 1 then s1 else s1.partnerSyncs)

/-! ## Rejoin (R437) -/

/-- The state a contract takes on a receiver: what ran on the carrier waits for the activation tick. -/
def State.takeContract (s : State) (x : Nat × Nat × Nat × Nat × List Byte) : State :=
  let (i, gen, code, bound, desc) := x
  let d := parseDesc desc
  let c : Contract := {
    gen := gen, st := if code = 6 then .released else .admitted, d := d, bound := bound,
    admitTick := s.now, changeTick := s.now, order := s.led.admitted, pick := i, lost := [], path := s.pathDevs d, links := s.pathLinks d, twin := true, muted := code != 1 }
  let s1 := s.setContract i c
  let sw := if d.preset then (s1.findContract d.parent).map (fun j => (s1.contract j).d) else none
  let s2 := s1.updContract i (fun c => if code = 6 then c else { c with charges := s1.demand d sw i })
  { s2 with led := { s2.led with admitted := s2.led.admitted + 1 } }

/-- STATE_TRANSFER_RECEIVE (R437 steps 1 and 2): a receiver takes the carrier's tables, and the activation tick. -/
def execStateTransferReceive (x : Xfer) (s : State) : Res :=
  if !(s.twinState == 1 && !s.twin.carrier && (s.mode == 3 || s.mode == 4) && !s.twin.mismatch &&
      s.linkUp (s.rd Reg.TWIN.CFG.LINK_A) && s.linkUp (s.rd Reg.TWIN.CFG.LINK_B)) then .next s
  else
    let s1 := x.ports.foldl (fun t p => t.applyPort p.1 (parsePort p.2)) s
    let s2 := x.flows.foldl (fun t f => t.setFlow f.1 { parseFlow f.2 with valid := true }) s1
    let s3 := x.contracts.foldl State.takeContract s2
    let s4 : State := { s3 with
      take := { s3.take with
        tally := x.tallies.foldl (fun m p => SMap.insert (u8 p 0) ⟨u8 p 1, u8 p 2, u32 p 4, u8 p 8⟩ m) s3.take.tally,
        binds := x.binds.foldl (fun m p => SMap.insert (u8 p 0)
          ⟨u8 p 1, u8 p 2, bit (u8 p 3) 0, u32 p 4, u8 p 8, u8 p 9, u8 p 10, u16 p 12⟩ m) s3.take.binds,
        egress := x.roles.foldl (fun m r => SMap.insert r.1
          { (s3.egress r.1) with program := r.2.1, preset := r.2.2.1, trans := r.2.2.2 % 256, pattern := r.2.2.2 / 256 % 256, dur := r.2.2.2 / 65536 } m)
          s3.take.egress,
        pend := s3.take.pend ++ x.takes.map (fun t => {
          idx := t.1, dst := t.2.1, trans := t.2.2.1 % 256, pattern := t.2.2.1 / 256 % 256, dur := t.2.2.1 / 65536,
          tick := t.2.2.2, ahead := s.runAhead, cutoff := s.cutoff }) },
      strm := { s3.strm with noRevert := sortNat (s3.strm.noRevert ++ x.noRevert) },
      twin := { s3.twin with actTick := x.act, moved := x.act.isSome } }
    .next s4

/-- REJOIN_ACTIVATION (R34, R437 step 3): at tick A the receiver, LOCKED or in HOLDOVER, is in Flight, its contracts run muted, and it is MATCHING. -/
def execRejoinActivation (s : State) : Res :=
  match s.twin.actTick with
  | some a =>
    if s.twinState = 1 ∧ ¬ s.twin.carrier ∧ a ≤ s.now ∧ (s.mode = 4 ∨ 2 ≤ s.lock) then
      let s1 := if s.mode = 4 then s else s.setMode 4
      let s2 := (s1.liveWhere (fun c => c.muted && c.st == .admitted)).foldl (fun t i => t.activate i) s1
      let s3 := ((s2.setMuted true).setTwin 2).wr Reg.TWIN.STATUS.MATCH_RUN 0
      .next { s3 with twin := { s3.twin with actTick := none } }
    else .next s
  | none => .next s

/-- REJOIN_ENGINE_COPY (R437 step 4): the receiver's engines of a cluster start from the carrier's copy at TICK. -/
def execRejoinEngineCopy (c : Nat) (l : List EngCopy) (s : State) : Res :=
  if s.twinState = 2 ∧ ¬ s.twin.copied.contains c ∧ (∀ d ∈ s.twin.copied, d < c) then
    let put := fun (t : State) (x : EngCopy) =>
      let e := t.engine x.e
      let t1 := t.setEngine x.e { e with
        ldm := Memory.writeN [] 0 x.ldm, lc0 := x.lc0, lc1 := x.lc1, bexp := x.bexp, sat := x.sat,
        sreg := ((List.range x.sreg.length).zip x.sreg).foldl (fun m p => SMap.set (fun _ => 0) m p.1 p.2) [],
        vreg := ((List.range x.vreg.length).zip x.vreg).foldl (fun m p => SMap.set (fun _ => 0) m p.1 p.2) [],
        acc := ((List.range x.acc.length).zip x.acc).foldl (fun m p => SMap.set (fun _ => List.replicate 16 0) m p.1 p.2) [] }
      if t1.engState x.e = engLoaded ∨ t1.engState x.e = engStopped then t1.engStart x.e (t1.reg (Reg.ENG.WDOG x.e)).toNat else t1
    let s1 := (l.filter (fun x => x.e / 32 == c)).foldl put s
    .next { s1 with twin := { s1.twin with copied := sortNat (c :: s1.twin.copied) } }
  else .next s

/-- A SECONDARY takes its tick reference from a twin link that its selection names (R41, R437 step 6). -/
def State.followTwin (s : State) : State :=
  if s.rd Reg.TWIN.CFG.ROLE ≠ 2 then s
  else match s.tick.sel.entries.findIdx? (fun e => e.src == 4 && s.isTwinLink e.index && s.entryValid e) with
    | some i => if s.activeEntry = some i then s else s.replaceBy i
    | none => s

/-- REJOIN_MATCH_COMPLETE (R437 step 6): at the first boundary after 8 matching ticks the receiver unmutes, and both ends
are PAIRED; CHG_SEL returns to a PRIMARY receiver. -/
def execRejoinMatchComplete (s : State) : Res :=
  if 8 ≤ s.rd Reg.TWIN.STATUS.MATCH_RUN ∧ (s.twinState = 2 ∨ (s.twinState = 1 ∧ s.twin.carrier)) then
    let s1 := ((s.setMuted false).setTwin 3).evt Reg.TWIN.EVENT.REJOINED
    let s2 : State := { s1 with
      led := { s1.led with contracts := SMap.mapAll Contract.none (fun _ c => { c with muted := false }) s1.led.contracts },
      twin := { s1.twin with carrier := true, actTick := none } }
    .next ((s2.setChg true).followTwin)
  else .next s

/-- REJOIN_SLOW (R437): PAIRED not reached within REJOIN_LIMIT ticks. -/
def execRejoinSlow (s : State) : Res :=
  if (s.twinState = 1 ∨ s.twinState = 2) ∧ ¬ s.twin.slow ∧ s.twin.since + s.rd Reg.TWIN.CFG.REJOIN_LIMIT < s.now then
    let s1 := s.evt Reg.TWIN.EVENT.REJOIN_SLOW
    .next { s1 with twin := { s1.twin with slow := true } }
  else .next s

/-! ## Tick markers (R28, R428, R442, R444, R445) -/

/-- The AUTH_DIST and AUTH_ID this device sends (R442). -/
def State.authority (s : State) : Nat × Nat :=
  if s.mesh.master ≠ 0 ∧ s.mesh.master = s.meshId then (0, s.meshId)
  else match s.activeEntry with
    | some i =>
      let e := s.entry i
      if s.lock = 2 ∧ e.src = 1 ∧ s.isSet Reg.TICK.STATUS.TIME_VALID then (0, s.meshId)
      else if s.lock = 2 ∧ e.src = 4 then (min 0xFF ((s.link e.index).authDist + 1), (s.link e.index).authId)
      else (0xFF, 0)
    | none => (0xFF, 0)

/-- Bring MESH.STATUS.AUTH_DIST and the authority up to date (R442). -/
def State.updAuth (s : State) : State :=
  let a := s.authority
  ({ s with mesh := { s.mesh with authId := a.2 } } : State).wr Reg.MESH.STATUS.AUTH_DIST a.1

/-- This device is out of tick (R444): ON_AIR outputs are withheld; outside Flight it realigns at the next boundary, in
Flight a step is needed. -/
def State.outOfTick (s : State) (num : Nat) : State :=
  let s1 := (s.wr Reg.MESH.STATUS.OUT_OF_TICK 1).evt Reg.MESH.EVENT.OUT_OF_TICK
  let d := (num : Int) - s1.now
  let s2 : State := { s1 with
    mesh := { s1.mesh with withheld := true, off := d },
    tick := { s1.tick with stepNum := d, stepFrom := s1.tick.stepFrom.orElse (fun _ => some s1.now) } }
  if s.mode = 4 then
    let s3 := (s2.wr Reg.TICK.STATUS.STEP_PEND 1).evt Reg.TICK.EVENT.STEP_NEEDED
    if s.lock = 2 then s3.enterHoldover else s3
  else s2

/-- The departure of this device's marker that a partner's marker of tick `num` tells the arrival of: the latest one sent in an earlier
tick (R428). -/
def State.sentBefore (s : State) (d : LinkDyn) (num : Nat) : Nat := if s.now < num then d.txAt else d.txPrev

/-- TICK_MARKER_RECEIVE (R428, R442, R444, R445): the one-way delay, the reference the link serves, the tick number and the
mesh INSTAR and digest. -/
def execTickMarkerReceive (k : Nat) (m : Marker) (s : State) : Res :=
  if !(decide (k < 6) && s.linkUp k) then .next s
  else
    let d := s.link k
    let delay := (((m.t2 : Int) - m.t1) + ((m.t4 : Int) - s.sentBefore d m.num)) / 2
    let s1 := if m.t4 = 0 then s else s.wr (Reg.DOLMET.LINK_DELAY.DELAY k) (max 0 delay).toNat
    let s2 := s1.updLink k (fun d => { d with hbMiss := 0, rxAt := m.t2, authDist := m.authDist, authId := m.authId, instar := m.instar, digest := m.digest })
    let edge : Int := (m.t2 : Int) - delay - (s.linkPol k).asym / 1000
    let s3 := (s2.ranged 4 0 k { s2.ref 4 0 k with alive := true, edge := edge, num := m.num, fresh := true } m.ppb).refAvailable
    let twin := s.isTwinLink k
    let grace := s.molting || s.mesh.setAt == some s.now ||
      s.due.any (fun x => x.eff == s.now && (match x.act with | .instar _ _ => true | _ => false))
    let same := twin || grace || (m.instar == s.mesh.instar && m.digest == s.mesh.digest)
    let mine := s3.authority.1
    let s4 :=
      if m.num = s.now then
        if s3.isSet Reg.MESH.STATUS.OUT_OF_TICK then
          ({ s3 with mesh := { s3.mesh with withheld := false, off := 0 } } : State).wr Reg.MESH.STATUS.OUT_OF_TICK 0
        else s3
      else if m.authDist < mine then s3.outOfTick m.num
      else if mine = m.authDist then
        ((s3.evt Reg.MESH.EVENT.OUT_OF_TICK).updLink k (fun d => { d with agree := false })).quarantine k
      else s3
    let s5 := if same then
        (if m.num = s.now ∧ ¬ twin then s4.updLink k (fun d => { d with agree := true }) else s4)
      else ((s4.updLink k (fun d => { d with agree := false })).evt Reg.MESH.EVENT.INSTAR_MISMATCH).quarantine k
    .next s5.updAuth

/-! ## Commands (R447–R451) -/

/-- TWIN_PAIR's rule on a link: absent power, or not made of four lanes (R401, R447). -/
def State.twinLinkOff (s : State) (k : Nat) : Bool := (s.link k).lanes.any (fun l => !s.domOn (laneDom l))
def State.twinLinkBad (s : State) (k : Nat) : Bool := (s.link k).lanes.length != 4

/-- A link's role changes: a link that was up starts its exchange again (R429, R430). -/
def State.relink (s : State) (k : Nat) : State :=
  if s.linkUp k then (s.linkDown k 0).wr (Reg.DOLMET.LINK_STATUS.STATE k) 1 else s

/-- The body of TWIN_PAIR (R436, R447). -/
def cmdTwinPair (p : List Byte) (_floor : Nat) (s : State) : Ans :=
  let role := u8 p 0
  let a := u8 p 1
  let b := u8 p 2
  let busy := !(s.liveWhere (fun _ => true)).isEmpty
  let other := fun (k : Nat) => s.link k
  let unlike := fun (k : Nat) => s.linkUp k && (decide ((other k).pProfile ≠ s.ident.profile) ||
    ((other k).pStep != s.ident.stepping && s.ident.profile == 0))
  Ans.check s
    [(role != 0 && decide (a < 6) && decide (b < 6) && (s.twinLinkOff a || s.twinLinkOff b), Sts.domainOff),
     (decide (2 < role) || decide (3 < u8 p 3) || !zeroFrom p 8 ||
       (role != 0 && (decide (5 < a) || decide (5 < b) || a == b || s.twinLinkBad a || s.twinLinkBad b || u16 p 4 == 0 ||
         decide (16384 < u16 p 4))), Sts.badParam),
     (role == 0 && s.paired && s.live.any (fun i => match (s.contract i).st with
        | .active | .starved | .held | .releasing => true | _ => false), Sts.badState),
     (role != 0 && (unlike a || unlike b || (busy && ((other a).pBusy || (other b).pBusy))), Sts.badState)]
    (if role = 0 then
       let s1 := (((s.setTwin 0).setMuted false).setChg false).setReg Reg.TWIN.CFG (resetWord Reg.TWIN.CFG)
       let s2 := (s1.relink (s.rd Reg.TWIN.CFG.LINK_A)).relink (s.rd Reg.TWIN.CFG.LINK_B)
       Ans.ok { s2 with twin := { s2.twin with partner := 0, encReq := false, carrier := false, actTick := none } }
     else
       let pb := (other a).pBusy || (other b).pBusy
       let carrier := busy || (!pb && role == 1)
       let s1 := ((((s.wr Reg.TWIN.CFG.ROLE role).wr Reg.TWIN.CFG.LINK_A a).wr Reg.TWIN.CFG.LINK_B b).flag Reg.TWIN.CFG.AUTO_REJOIN
         (bit (u8 p 3) 0)).wr Reg.TWIN.CFG.REJOIN_LIMIT (if u16 p 6 = 0 then 600 else u16 p 6)
       let s2 : State := { s1 with twin := { s1.twin with
         partner := u16 p 4, encReq := bit (u8 p 3) 1, carrier := carrier, since := s.now, moved := false, copied := [],
         slow := false, actTick := none } }
       let s3 := (((s2.setTwin 1).setMuted (!carrier)).setChg carrier).wr Reg.TWIN.STATUS.MATCH_RUN 0
       Ans.ok ((s3.relink a).relink b))

/-- TWIN_PAIR (R447). -/
def execTwinPair (h : Hdr) (p : List Byte) (s : State) : Res := .next (command 0x0B01 h p (cmdTwinPair p) s)

/-- The body of TWIN_STATUS (R448). -/
def cmdTwinStatus (p : List Byte) (_floor : Nat) (s : State) : Ans :=
  let b := fun (c : Bool) (i : Nat) => if c then 2 ^ i else 0
  Ans.check s [(noParams p, Sts.badParam)]
    (Ans.say s Sts.ok 0 ([BitVec.ofNat 8 s.twinState, BitVec.ofNat 8 (s.rd Reg.TWIN.CFG.ROLE),
      BitVec.ofNat 8 (s.rd Reg.TWIN.STATUS.MATCH_RUN),
      BitVec.ofNat 8 (b (s.isSet Reg.TWIN.STATUS.MUTED) 0 + b (s.isSet Reg.TWIN.STATUS.PEER_OK) 1 +
        b (s.rd Reg.TWIN.CFG.ROLE != 0 && s.linkUp (s.rd Reg.TWIN.CFG.LINK_A)) 2 +
        b (s.rd Reg.TWIN.CFG.ROLE != 0 && s.linkUp (s.rd Reg.TWIN.CFG.LINK_B)) 3)] ++
      toLe 4 (s.rd Reg.TWIN.STATUS.DIV_CNT) ++ toLe 8 s.twin.lastDiv))

/-- TWIN_STATUS (R448). -/
def execTwinStatus (h : Hdr) (p : List Byte) (s : State) : Res := .next (command 0x0B02 h p (cmdTwinStatus p) s)

/-- The body of MESH_ROUTE_SET (R440, R449). -/
def cmdMeshRouteSet (p : List Byte) (_floor : Nat) (s : State) : Ans :=
  let op := u8 p 0
  let k := u8 p 1
  let id := u16 p 2
  let lo := u16 p 4
  let hi := u16 p 6
  let range := decide (lo == 0 || hi < lo || 16384 < hi)
  let n := s.mesh.routes.length
  let pol : LinkPol := ⟨bit (u8 p 9) 0, bit (u8 p 9) 1, u8 p 9 / 4 % 4, signed 16 (u16 p 10) * 10⟩
  let known := s.mesh.routes.any (fun r => r.lo == lo && r.hi == hi)
  let setRoutes := fun (l : List Route) => ({ s with mesh := { s.mesh with routes := l } } : State).wr Reg.MESH.ROUTES.COUNT l.length
  Ans.check s
    [(decide (4 < op) || !zeroFrom p 12 ||
       (match op with
        | 0 => id == 0 || decide (16384 < id)
        | 1 => decide (5 < k) || range
        | 2 => range || !known
        | 3 => decide (5 < k) || decide (15 < u8 p 9) || u8 p 9 / 4 == 3
        | _ => decide (16384 < id)), Sts.badParam),
     (op == 0 && id != s.meshId && !(s.liveWhere (fun c => c.d.xdev || c.owner != 0)).isEmpty, Sts.badState),
     (op == 1 && decide (256 ≤ n), Sts.noCapacity)]
    (Ans.ok (match op with
      | 0 => s.wr Reg.MESH.STATUS.MESH_ID id
      | 1 => setRoutes (s.mesh.routes ++ [⟨lo, hi, k, u8 p 8⟩])
      | 2 => setRoutes (s.mesh.routes.filter (fun r => !(r.lo == lo && r.hi == hi)))
      | 3 => { s with mesh := { s.mesh with pol := SMap.insert k pol s.mesh.pol } }
      | _ => ({ s with mesh := { s.mesh with master := id } } : State).updAuth))

/-- MESH_ROUTE_SET (R449). -/
def execMeshRouteSet (h : Hdr) (p : List Byte) (s : State) : Res := .next (command 0x0B03 h p (cmdMeshRouteSet p) s)

/-- The body of MESH_STATUS (R450). -/
def cmdMeshStatus (p : List Byte) (_floor : Nat) (s : State) : Ans :=
  let b := fun (c : Bool) (i : Nat) => if c then 2 ^ i else 0
  let links := (List.range 6).foldl (fun a k => a + b (s.linkUp k) (k + 1)) 0
  Ans.check s [(noParams p, Sts.badParam)]
    (Ans.say s Sts.ok 0 (toLe 2 s.meshId ++ [BitVec.ofNat 8 (s.rd Reg.MESH.STATUS.AUTH_DIST),
      BitVec.ofNat 8 (b (s.isSet Reg.MESH.STATUS.OUT_OF_TICK) 0 + links + b ((List.range 6).any (fun k => s.linkState k == 4)) 7)] ++
      toLe 4 s.mesh.instar ++ toLe 2 s.mesh.authId ++ toLe 2 s.mesh.routes.length))

/-- MESH_STATUS (R450). -/
def execMeshStatus (h : Hdr) (p : List Byte) (s : State) : Res := .next (command 0x0B04 h p (cmdMeshStatus p) s)

/-- The body of INSTAR_SET (R451). -/
def cmdInstarSet (p : List Byte) (_floor : Nat) (s : State) : Ans :=
  let eff := effTick (u64 p 8) (s.now + 2)
  Ans.check s
    [(u32 p 4 != 0 || !zeroFrom p 64, Sts.badParam),
     (s.due.any (fun d => match d.act with | .instar _ _ => true | _ => false), Sts.badState)]
    (Ans.say (s.schedule eff.1 (.instar (u32 p 0) (leAt p 16 48))) eff.2 eff.1 [])

/-- INSTAR_SET (R451). -/
def execInstarSet (h : Hdr) (p : List Byte) (s : State) : Res := .next (command 0x0B05 h p (cmdInstarSet p) s)

end Sys2Proof.Machine
end

