-- ==== Sys2Proof/Machine/Lanes.lean ====
section
/-! DEFINITION. Serial lanes (13_lanes.md): the family's commands, signal detect and locks, bring-up and negotiation, power
states, PRBS and margin scans. -/

namespace Sys2Proof.Machine

/-! ## Lanes and their owners -/

/-- The lane a LANE field names: 0–95 for NL, 0x0100 + k for PLk (R421). -/
def laneOf (v : Nat) : Option Nat :=
  if v < 96 then some v else if 0x100 ≤ v ∧ v < 0x110 then some (128 + (v - 0x100)) else none

/-- COUNT consecutive lanes from a LANE field, within one quad. -/
def lanesOf (v n : Nat) : Option (List Nat) :=
  match laneOf v with
  | some l => if 1 ≤ n ∧ l % 4 + n ≤ 4 then some ((List.range n).map (fun i => l + i)) else none
  | none => none

/-- Is a lane absent (R399, R400)? Lanes the PCIe endpoint owns are there for it. -/
def State.laneAbsent (s : State) (l : Nat) : Bool := !s.lanePresent l && s.laneFunc l != funcPcie

/-- Is a lane without power (R400, R419)? -/
def State.laneOff (s : State) (l : Nat) : Bool := s.laneFunc l != funcPcie && !s.domOn (laneDom l)

/-- Does a contract that is not RELEASED use the lane's port or link (R415, R417)? -/
def State.laneInUse (s : State) (l : Nat) : Bool :=
  if s.laneFunc l = funcPort then match s.lanePort l with
    | some p => !(s.liveWhere (fun c => s.usesPort c p)).isEmpty
    | none => false
  else if s.laneFunc l = funcLink then
    let k := s.rd (Reg.LANE.STATUS.LINK l)
    !(s.liveWhere (fun c => c.usesLink k)).isEmpty
  else false

/-- Is the lane negotiating or training (R417)? -/
def State.laneNeg (s : State) (l : Nat) : Bool :=
  decide (1 ≤ s.rd (Reg.LANE.STATUS.NEG_STATE l)) && decide (s.rd (Reg.LANE.STATUS.NEG_STATE l) ≤ 4)

/-- May a link's lanes not be taken away: it is twin-paired or named by a route (R421)? -/
def State.linkHeld (s : State) (k : Nat) : Bool := s.isTwinLink k || s.mesh.routes.any (fun r => r.link == k)

/-- An Ethernet port's link goes down, and its bring-up starts again (R408, R411). -/
def State.ethDown (s : State) (p : Nat) : State :=
  let ls := portLanes p (s.port p).kind
  let s1 := ls.foldl (fun t l => (t.setLinkUp l false).startNeg l) s
  (s1.portEvt p Reg.STRM.PORT_EVENT.SIG_LOST).portDown p

/-- A lane stops receiving: its Ethernet port's link, or its Dolmet link, goes down (R411, R429). -/
def State.laneDown (s : State) (l : Nat) : State :=
  if s.laneFunc l = funcPort then match s.lanePort l with
    | some p => if s.ethPort p ∧ s.isSet (Reg.LANE.STATUS.LINK_UP l) then s.ethDown p else s
    | none => s
  else if s.laneFunc l = funcLink ∧ s.linkUp (s.rd (Reg.LANE.STATUS.LINK l)) then s.linkDown (s.rd (Reg.LANE.STATUS.LINK l)) 1
  else s

/-! ## LANE_CONFIG and LANE_STATE (R401, R406, R414, R415, R421, R422) -/

/-- A lane grouping that a Dolmet link may use (R401). -/
def linkGroupOk (ls : List Nat) : Bool :=
  match ls with
  | [l] => decide (l < 128)
  | [l, _] => decide (l < 128) && l % 2 == 0
  | [l, _, _, _] => decide (l < 128) && l % 4 == 0
  | _ => false

/-- FIR coefficients within their limits (R406). -/
def firOk (p : List Byte) : Bool :=
  let c := (List.range 4).map (fun i => signed 8 (u8 p (8 + i)))
  decide ((c.foldl (fun a x => a + x.natAbs) 0) ≤ 64) && decide (24 ≤ c.getD 2 0)

/-- Take lanes away from their Dolmet link (R421). -/
def State.dropLink (s : State) (l : Nat) : State :=
  if s.laneFunc l = funcLink then
    let k := s.rd (Reg.LANE.STATUS.LINK l)
    (s.linkDown k 0).updLink k (fun d => { d with lanes := d.lanes.filter (· != l) })
  else s

/-- One lane of LANE_CONFIG. -/
def State.laneSet (p : List Byte) (s : State) (l : Nat) : State :=
  let f := u8 p 6
  let s1 := match u8 p 3 with
    | 1 => (((s.dropLink l).wr (Reg.LANE.STATUS.FUNC l) 0).wr (Reg.LANE.STATUS.RATE l) 0).setBase l 0
    | 2 =>
      let t := ((s.dropLink l).wr (Reg.LANE.STATUS.FUNC l) funcLink).wr (Reg.LANE.STATUS.LINK l) (u8 p 4)
      ((t.wr (Reg.LANE.STATUS.RATE l) 0x0A).setBase l 3).updLink (u8 p 4) (fun d => { d with lanes := sortNat (l :: d.lanes) })
    | _ => s
  let s2 := (((s1.flag (Reg.LANE.CFG.TX_INV l) (bit f 0)).flag (Reg.LANE.CFG.RX_INV l) (bit f 1)).flag
    (Reg.LANE.CFG.EQ_FREEZE l) (bit f 2)).wr (Reg.LANE.CFG.LOOPBACK l) (f / 16)
  let s3 := if u8 p 7 = 0 then s2 else s2.wr (Reg.LANE.CFG.TX_AMP l) (u8 p 7)
  let s4 := if bit f 3 then s3.setReg (Reg.LANE.TXFIR l) (BitVec.ofNat 32 (u32 p 8)) else s3
  if u8 p 5 = 0xFF then s4 else s4.askPstate l (u8 p 5)

/-- The body of LANE_CONFIG (R421). -/
def cmdLaneConfig (p : List Byte) (_floor : Nat) (s : State) : Ans :=
  let func := u8 p 3
  let k := u8 p 4
  let ps := u8 p 5
  let f := u8 p 6
  match laneOf (u16 p 0) with
  | none => Ans.err s Sts.badParam
  | some l0 =>
    let ls := (lanesOf (u16 p 0) (u8 p 2)).getD [l0]
    let running := ps != 0xFF && ls.any (fun l => (s.laneDyn l).target.isSome)
    let lost := (ls.filter (fun l => s.laneFunc l == funcLink && (func == 1 || (func == 2 && s.rd (Reg.LANE.STATUS.LINK l) != k)))).map
      (fun l => s.rd (Reg.LANE.STATUS.LINK l))
    let extra := func == 2 && (s.link k).lanes.any (fun l => !ls.contains l)
    Ans.check s
      [(ps != 0xFF && ls.any (fun l => (s.laneDyn l).queued.isSome), Sts.busy),
       (ls.any s.laneAbsent, Sts.unitAbsent), (ls.any s.laneOff, Sts.domainOff),
       ((lanesOf (u16 p 0) (u8 p 2)).isNone || decide (2 < func) || (func == 2 && (decide (5 < k) || !linkGroupOk ls)) ||
         (decide (2 < ps) && ps != 0xFF) || decide (63 < f) || f / 16 == 3 ||
         (u8 p 7 != 0 && (decide (u8 p 7 < 40) || decide (120 < u8 p 7))) || (bit f 3 && !firOk p) || !zeroFrom p 12, Sts.badParam),
       (ls.any (fun l => s.laneFunc l == funcPcie || (func != 0 && s.laneFunc l == funcPort)) || lost.any s.linkHeld ||
         (extra && s.linkHeld k) || (func == 2 && s.thirdBase ls 3) ||
         (f / 16 != 0 && ls.any (fun l => s.laneNeg l || s.rd (Reg.LANE.STATUS.PSTATE l) != 0)), Sts.badState),
       (((ps == 1 || ps == 2 || f / 16 != 0) && ls.any s.laneInUse) ||
         ls.any (fun l => s.laneInUse l && s.laneFunc l == funcLink && (func == 1 || (func == 2 && s.rd (Reg.LANE.STATUS.LINK l) != k))) ||
         (extra && (s.link k).lanes.any s.laneInUse), Sts.wouldBreak)]
      (let s1 := if extra then (s.link k).lanes.foldl (fun t l => if ls.contains l then t else
           ((t.dropLink l).wr (Reg.LANE.STATUS.FUNC l) 0).setBase l 0) s else s
       Ans.say (ls.foldl (State.laneSet p) s1) (if running then Sts.deferred else Sts.ok) 0 [])

/-- LANE_CONFIG (R421). -/
def execLaneConfig (h : Hdr) (p : List Byte) (s : State) : Res := .next (command 0x0A01 h p (cmdLaneConfig p) s)

/-- The checks every one-lane query shares. -/
def laneQuery (p : List Byte) (s : State) (go : Nat → Ans) : Ans :=
  match laneOf (u16 p 0) with
  | none => Ans.err s Sts.badParam
  | some l =>
    Ans.check s [(s.laneAbsent l, Sts.unitAbsent), (s.laneOff l, Sts.domainOff), (!zeroFrom p 2, Sts.badParam)] (go l)

/-- The body of LANE_STATE (R422). -/
def cmdLaneState (p : List Byte) (_floor : Nat) (s : State) : Ans :=
  laneQuery p s (fun l =>
    let st := s.reg (Reg.LANE.STATUS l)
    Ans.say s Sts.ok 0 ([BitVec.ofNat 8 (st.field 0 2), BitVec.ofNat 8 (st.field 2 2), BitVec.ofNat 8 (st.field 16 8),
      BitVec.ofNat 8 (st.field 4 8), BitVec.ofNat 8 (st.field 12 3), BitVec.ofNat 8 (st.field 27 3)] ++
      toLe 4 (s.reg (Reg.LANE.TXFIR l)).toNat ++
      [BitVec.ofNat 8 (s.rd (Reg.LANE.RXEQ.CTLE l)), BitVec.ofNat 8 (s.rd (Reg.LANE.RXEQ.DFE1 l)),
       BitVec.ofNat 8 (s.rd (Reg.LANE.RXEQ.EYE l))]))

/-- LANE_STATE (R422). -/
def execLaneState (h : Hdr) (p : List Byte) (s : State) : Res := .next (command 0x0A02 h p (cmdLaneState p) s)

/-- PSTATE_SEQUENCE_DONE (R413, R414): the sequence ends; a queued request runs next, and PSTATE_DONE is raised at the state
of the latest one. In P2 the CDR is off, and the quad's PLLs once all four lanes are in P2. -/
def execPstateSequenceDone (l : Nat) (s : State) : Res :=
  let d := s.laneDyn l
  match d.target with
  | none => .next s
  | some t =>
    let s1 := s.wr (Reg.LANE.STATUS.PSTATE l) t
    let s2 := if t = 2 then s1.wr (Reg.LANE.STATUS.CDR_LOCK l) 0 else s1
    let quad := (List.range 4).map (fun i => l / 4 * 4 + i)
    let s3 := if t = 2 ∧ quad.all (fun x => s2.rd (Reg.LANE.STATUS.PSTATE x) == 2) then
        quad.foldl (fun u x => u.wr (Reg.LANE.STATUS.PLL_LOCK x) 0) s2
      else if t ≠ 2 ∧ d.base ≠ 0 then s2.wr (Reg.LANE.STATUS.PLL_LOCK l) 1 else s2
    match d.queued with
    | some q =>
      if q = t then .next (((s3.updLane l (fun x => { x with target := none, queued := none })).wr (Reg.LANE.STATUS.PEND l) 0).evt
        (Reg.LANE.EVENT.PSTATE_DONE l))
      else .next ((s3.updLane l (fun x => { x with target := some q, queued := none })).wr (Reg.LANE.STATUS.PSTATE l) 3)
    | none => .next (((s3.updLane l (fun x => { x with target := none })).wr (Reg.LANE.STATUS.PEND l) 0).evt
        (Reg.LANE.EVENT.PSTATE_DONE l))

/-! ## Signal detect, locks and PLLs (R403, R405, R411) -/

/-- SIGNAL_DETECT_ASSERT (R408, R411): shown on lane and port; a Dolmet link's first lane starts the exchange. -/
def execSignalDetectAssert (l : Nat) (s : State) : Res :=
  if s.laneAbsent l || s.laneOff l then .next s
  else
    let s1 := s.wr (Reg.LANE.STATUS.SIG_DET l) 1
    if s.laneFunc l = funcPort then match s.lanePort l with
      | some p => .next ((s1.wr (Reg.STRM.PORT_STATUS.SIG_DET p) 1).portEvt p Reg.STRM.PORT_EVENT.SIG_FOUND)
      | none => .next s1
    else if s.laneFunc l = funcLink then
      let k := s.rd (Reg.LANE.STATUS.LINK l)
      .next (if s.linkState k = 0 ∧ (s.link k).lanes.head? = some l then s1.wr (Reg.DOLMET.LINK_STATUS.STATE k) 1 else s1)
    else .next s1

/-- SIGNAL_DETECT_DEASSERT (R154, R155, R411): SIG_LOST on the lane and its port; the port's sources, or the Dolmet link,
are lost. -/
def execSignalDetectDeassert (l : Nat) (s : State) : Res :=
  if !s.isSet (Reg.LANE.STATUS.SIG_DET l) then .next s
  else
    let s1 := (s.wr (Reg.LANE.STATUS.SIG_DET l) 0).evt (Reg.LANE.EVENT.SIG_LOST l)
    if s.laneFunc l = funcPort then match s.lanePort l with
      | some p =>
        let s2 := s1.wr (Reg.STRM.PORT_STATUS.SIG_DET p) 0
        let s3 := (portLanes p (s2.port p).kind).foldl (fun t x => t.setLinkUp x false) s2
        let s4 := if s3.ethPort p then s3.startNeg l else s3
        .next ((s4.portEvt p Reg.STRM.PORT_EVENT.SIG_LOST).portDown p)
      | none => .next s1
    else .next (s1.laneDown l)

/-- A lane loses a lock: LOCK_LOST, and its port's or Dolmet link goes down (R411). -/
def State.lockLost (s : State) (l : Nat) : State := (s.evt (Reg.LANE.EVENT.LOCK_LOST l)).laneDown l

/-- BLOCK_LOCK_LOSS (R403, R411): 16 invalid headers within 64. -/
def execBlockLockLoss (l : Nat) (s : State) : Res :=
  .next (if s.isSet (Reg.LANE.STATUS.BLOCK_LOCK l) then (s.wr (Reg.LANE.STATUS.BLOCK_LOCK l) 0).lockLost l else s)

/-- HIGH_BER (R403, R411). -/
def execHighBer (l : Nat) (s : State) : Res :=
  .next (if s.laneFunc l = funcPort ∨ s.laneFunc l = funcLink then s.lockLost l else s)

/-- CDR_LOCK_LOSS (R411). -/
def execCdrLockLoss (l : Nat) (s : State) : Res :=
  .next (if s.isSet (Reg.LANE.STATUS.CDR_LOCK l) then (s.wr (Reg.LANE.STATUS.CDR_LOCK l) 0).lockLost l else s)

/-- FEC_LOCK_LOSS (R411): a port with FEC. -/
def execFecLockLoss (p : Nat) (s : State) : Res :=
  if s.ethPort p ∧ ((s.port p).fec ∨ (s.port p).kind = 6) then
    .next ((portLanes p (s.port p).kind).foldl (fun t l => t.lockLost l) s)
  else .next s

/-- The lanes of a quad that transmit from one of its PLLs (R404); quads 32–35 are PQ0–PQ3. -/
def State.pllLanes (s : State) (q pll : Nat) : List Nat :=
  ((List.range 4).map (fun i => 4 * q + i)).filter (fun l =>
    (s.laneDyn l).base != 0 && s.rd (Reg.LANE.CFG.TXPLL l) == pll)

/-- QUAD_PLL_UNLOCK (R405): the lanes that transmit from the PLL go to electrical idle and PLL_UNLOCK is raised. -/
def execQuadPllUnlock (q pll : Nat) (s : State) : Res :=
  let ls := s.pllLanes q pll
  .next (if ls.isEmpty then s else
    (ls.foldl (fun t l => ((t.wr (Reg.LANE.STATUS.PLL_LOCK l) 0).evt (Reg.LANE.EVENT.PLL_UNLOCK l)).updLane l
      (fun d => { d with idle := true })) s).emit (.quadIdle q true))

/-- QUAD_PLL_RELOCK (R405): the transmitters restart; an Ethernet or Dolmet lane's link comes up again. -/
def execQuadPllRelock (q pll : Nat) (s : State) : Res :=
  let ls := (s.pllLanes q pll).filter (fun l => (s.laneDyn l).idle)
  .next (if ls.isEmpty then s else
    (ls.foldl (fun t l => ((t.wr (Reg.LANE.STATUS.PLL_LOCK l) 1).updLane l (fun d => { d with idle := false })).laneDown l) s).emit
      (.quadIdle q false))

/-! ## Bring-up (R408, R410) -/

/-- The lanes of the owner of a lane. -/
def State.peerLanes (s : State) (l : Nat) : List Nat :=
  if s.laneFunc l = funcPort then match s.lanePort l with
    | some p => portLanes p (s.port p).kind
    | none => [l]
  else if s.laneFunc l = funcLink then (s.link (s.rd (Reg.LANE.STATUS.LINK l))).lanes
  else [l]

/-- A word of LANE.TXFIR within the limits of R406. -/
def firWordOk (w : Nat) : Bool := firOk (List.replicate 8 0 ++ toLe 4 w)

/-- The coefficients that training left in force show in LANE.TXFIR (R406). -/
def State.trained (s : State) (ls : List Nat) (fir : List (Nat × Nat)) : State :=
  (fir.filter (fun x => ls.contains x.1 && firWordOk x.2)).foldl (fun t x => t.setReg (Reg.LANE.TXFIR x.1) (BitVec.ofNat 32 x.2)) s

/-- LINK_BRINGUP_COMPLETE (R139, R406, R408): the owner's link is up. An Ethernet port reports LOCKED and SIG_FOUND and sends its
joins again; a Dolmet link's first lane leads to the exchange; the PCIe link is in L0. -/
def execLinkBringupComplete (u : BringUp) (s : State) : Res :=
  let l := u.lane
  if s.laneOff l ∨ s.rd (Reg.LANE.STATUS.PSTATE l) ≠ 0 ∧ s.laneFunc l ≠ funcPcie then .next s
  else
    let up := fun (t : State) => (s.peerLanes l).foldl (fun u x =>
      ((((u.wr (Reg.LANE.STATUS.NEG_STATE x) 5).wr (Reg.LANE.STATUS.CDR_LOCK x) 1).wr (Reg.LANE.STATUS.BLOCK_LOCK x) 1).setLinkUp x true).updLane
        x (fun d => { d with failed := false })) (t.trained (s.peerLanes l) u.fir)
    if s.laneFunc l = funcPort then match s.lanePort l with
      | some p =>
        if s.ethPort p then
          let s1 := (((up s).wr (Reg.STRM.PORT_STATUS.LOCKED p) 1).wr (Reg.STRM.PORT_STATUS.SIG_DET p) 1).portEvt p
            Reg.STRM.PORT_EVENT.SIG_FOUND
          let s2 := s1.portEvt p Reg.STRM.PORT_EVENT.LOCK
          .next ((s2.strm.flows.filter (fun e => decide (e.1 < 1024) && e.2.used && e.2.ports.contains p)).foldl (fun t e =>
            t.joinMsgs e.2 0 (some p)) s2)
        else .next s
      | none => .next s
    else if s.laneFunc l = funcLink then
      let k := s.rd (Reg.LANE.STATUS.LINK l)
      if s.linkState k = 0 then
        .next (((s.wr (Reg.LANE.STATUS.CDR_LOCK l) 1).wr (Reg.LANE.STATUS.BLOCK_LOCK l) 1).wr (Reg.DOLMET.LINK_STATUS.STATE k) 1)
      else .next s
    else if s.laneFunc l = funcPcie then
      let s1 := up s
      .next { s1 with intc := { s1.intc with link := 1, wakeN := false } }
    else .next s

/-- NEGOTIATION_FAIL (R410). -/
def execNegotiationFail (l reason : Nat) (s : State) : Res :=
  if s.laneFunc l = 0 ∨ reason = 0 ∨ 7 < reason then .next s
  else .next ((s.peerLanes l).foldl (fun t x => t.negFail x reason) s)

/-- A Dolmet link that is down after a failure waits to restart (R429). -/
def State.linkWaits (s : State) (k : Nat) : Bool := s.linkState k == 0 && decide (2 ≤ s.rd (Reg.DOLMET.LINK_STATUS.DOWN_REASON k))

/-- NEGOTIATION_RETRY (R410, R429): one second after a failure the sequence starts again. -/
def execNegotiationRetry (l : Nat) (s : State) : Res :=
  let k := s.rd (Reg.LANE.STATUS.LINK l)
  if s.laneFunc l ≠ 0 ∧ (s.rd (Reg.LANE.STATUS.NEG_STATE l) = 6 ∨ (s.laneFunc l = funcLink ∧ s.linkWaits k = true)) then
    let s1 := (s.peerLanes l).foldl (fun t x => t.startNeg x) s
    .next (if s.laneFunc l = funcLink ∧ s.linkState k = 0 then s1.wr (Reg.DOLMET.LINK_STATUS.STATE k) 1 else s1)
  else .next s

/-- Receiver settings as adaptation has them at a lane in P0; EQ_FREEZE holds CTLE and DFE, and P-lanes show neither (R407). -/
def State.adapted (s : State) (x : Nat × Nat × Nat × Nat) : State :=
  let (l, ctle, dfe, eye) := x
  if s.laneAbsent l || s.laneOff l || s.rd (Reg.LANE.STATUS.PSTATE l) != 0 then s
  else
    let s1 := s.wr (Reg.LANE.RXEQ.EYE l) (min eye 255)
    if decide (128 ≤ l) || s.isSet (Reg.LANE.CFG.EQ_FREEZE l) then s1
    else (s1.wr (Reg.LANE.RXEQ.CTLE l) ctle).wr (Reg.LANE.RXEQ.DFE1 l) dfe

/-! ## PRBS (R416, R417, R423, R424) -/

/-- A rate code a pattern may run at on a lane (R402, R423). -/
def prbsRateOk (l code kbps : Nat) : Bool :=
  if code = 0 then true
  else if code = 0xFF then
    (if l < 128 then decide (270000 ≤ kbps ∧ kbps ≤ 32750000) else decide (26562500 ≤ kbps ∧ kbps ≤ 112500000))
  else if l < 128 then decide (1 ≤ code ∧ code ≤ 0x0C)
  else code == 0x0A || code == 0x0B || code == 0x20

/-- Start patterns on a lane: counters from zero; a port's or link's lane no longer carries it (R416, R417). -/
def State.prbsOn (s : State) (l pat dir rate kbps : Nat) : State :=
  let s1 := s.laneDown l
  let s2 := if s.laneFunc l = funcPort ∧ ¬ (s.lanePort l).any s.ethPort then
      match s.lanePort l with
      | some p => if s.sdiIn p then (s1.portEvt p Reg.STRM.PORT_EVENT.SIG_LOST).portDown p else s1
      | none => s1
    else s1
  let gen := bit dir 0
  let code := if rate = 0 then s.rd (Reg.LANE.STATUS.RATE l) else rate
  let s3 := ((s2.wr (Reg.LANE.STATUS.RATE l) code).wr (Reg.LANE.STATUS.PRBS_ON l) (if dir = 0 then 0 else 1)).updLane l
    (fun d => { d with pattern := pat, gen := gen, chk := bit dir 1, errs := 0, bits := 0, sync := false, full := false, lost := false, kbps := kbps })
  if gen ∧ rate ≠ 0 then s3.setBase l (rateBase code kbps) else s3

/-- Stop patterns on a lane: it returns to its owner's rate, and its link comes up again (R408, R423). -/
def State.prbsOff (s : State) (l dir : Nat) : State :=
  let d := s.laneDyn l
  let gen := d.gen && !(dir == 0 || bit dir 0)
  let chk := d.chk && !(dir == 0 || bit dir 1)
  let s1 := (s.updLane l (fun d => { d with gen := gen, chk := chk, pattern := if gen || chk then d.pattern else 0 })).flag
    (Reg.LANE.STATUS.PRBS_ON l) (gen || chk)
  if gen || chk || d.pattern = 0 then s1
  else
    let code := if s.laneFunc l = funcPort then (s.lanePort l).elim 0 (fun p => kindRate (s.port p))
      else if s.laneFunc l = funcLink then 0x0A else 0
    let s2 := (s1.wr (Reg.LANE.STATUS.RATE l) code).setBase l (rateBase code 0)
    if s.laneFunc l = 0 then s2 else s2.startNeg l

/-- The body of PRBS_START (R404, R416, R417, R423). -/
def cmdPrbsStart (p : List Byte) (_floor : Nat) (s : State) : Ans :=
  let pat := u8 p 3
  let dir := u8 p 4
  let rate := u8 p 5
  match laneOf (u16 p 0) with
  | none => Ans.err s Sts.badParam
  | some l0 =>
    let ls := (lanesOf (u16 p 0) (u8 p 2)).getD [l0]
    Ans.check s
      [(ls.any s.laneAbsent, Sts.unitAbsent), (ls.any s.laneOff, Sts.domainOff),
       ((lanesOf (u16 p 0) (u8 p 2)).isNone || decide (6 < pat) || decide (3 < dir) || !prbsRateOk l0 rate (u32 p 8) || u16 p 6 != 0 ||
         !zeroFrom p 12, Sts.badParam),
       (ls.any (fun l => s.laneFunc l == funcPcie || (pat != 0 && (s.laneNeg l || s.rd (Reg.LANE.STATUS.PSTATE l) != 0))) ||
         (pat != 0 && bit dir 0 && rate != 0 && s.thirdBase ls (rateBase rate (u32 p 8))), Sts.badState),
       (pat != 0 && ls.any s.laneInUse, Sts.wouldBreak)]
      (Ans.ok (ls.foldl (fun t l => if pat = 0 then t.prbsOff l dir else t.prbsOn l pat dir rate (u32 p 8)) s))

/-- PRBS_START (R423). -/
def execPrbsStart (h : Hdr) (p : List Byte) (s : State) : Res := .next (command 0x0A03 h p (cmdPrbsStart p) s)

/-- The body of PRBS_READ (R424). -/
def cmdPrbsRead (p : List Byte) (_floor : Nat) (s : State) : Ans :=
  laneQuery p s (fun l =>
    let d := s.laneDyn l
    Ans.say s Sts.ok 0 (toLe 6 d.errs ++ toLe 6 d.bits ++
      [BitVec.ofNat 8 ((if d.sync then 1 else 0) + (if d.full then 2 else 0) + (if d.lost then 4 else 0)), BitVec.ofNat 8 d.pattern]))

/-- PRBS_READ (R424). -/
def execPrbsRead (h : Hdr) (p : List Byte) (s : State) : Res := .next (command 0x0A04 h p (cmdPrbsRead p) s)

/-- A checker has compared bits: the counters advance until the bit counter is full (R416). -/
def State.prbsCount (s : State) (x : Nat × Nat × Nat) : State :=
  let d := s.laneDyn x.1
  if d.chk ∧ ¬ d.full then
    let b := min (d.bits + x.2.1) (2 ^ 48 - 1)
    s.updLane x.1 (fun d => { d with sync := true, bits := b, errs := min (d.errs + x.2.2) (2 ^ 48 - 1), full := b == 2 ^ 48 - 1 })
  else s

/-- PRBS_SYNC_LOSS (R416): PRBS_LOST; the checker synchronises again, the counters stay. -/
def execPrbsSyncLoss (l : Nat) (s : State) : Res :=
  .next (if (s.laneDyn l).chk then (s.updLane l (fun d => { d with sync := false, lost := true })).evt (Reg.LANE.EVENT.PRBS_LOST l) else s)

/-- PRBS_COUNTER_FULL (R416): the bit counter reaches 2^48 − 1 and both counters stop. -/
def execPrbsCounterFull (l errs : Nat) (s : State) : Res :=
  .next (if (s.laneDyn l).chk then
    s.updLane l (fun d => { d with full := true, bits := 2 ^ 48 - 1, errs := min errs (2 ^ 48 - 1) }) else s)

/-- LANE_PRBS_ERR_LO_READ (R419): the other three words are captured at the same instant. -/
def execLanePrbsErrLoRead (l : Nat) (s : State) : Res :=
  let d := s.laneDyn l
  if s.laneAbsent l || s.laneOff l then .next s
  else .next ((((s.wr (Reg.LANE.PRBS_ERR_LO.COUNT_LO l) d.errs).wr (Reg.LANE.PRBS_ERR_HI.COUNT_HI l) (d.errs / 2 ^ 32)).wr
    (Reg.LANE.PRBS_BITS_LO.COUNT_LO l) d.bits).wr (Reg.LANE.PRBS_BITS_HI.COUNT_HI l) (d.bits / 2 ^ 32))

/-! ## Margin scans (R418, R425) -/

/-- Points of a scan: eyes × horizontal × vertical steps. -/
def scanPoints (l h v : Nat) : Nat := (if l < 128 then 1 else 3) * (2 * h + 1) * (2 * v + 1)

/-- The body of MARGIN_SCAN (R425). -/
def cmdMarginScan (hd : Hdr) (p : List Byte) (_floor : Nat) (s : State) : Ans :=
  let h := u8 p 2
  let v := u8 p 3
  match laneOf (u16 p 0) with
  | none => Ans.err s Sts.badParam
  | some l =>
    let need := 16 + 4 * scanPoints l h v
    Ans.check s
      [(s.laneAbsent l, Sts.unitAbsent), (s.laneOff l, Sts.domainOff),
       (decide (h == 0 || 32 < h || v == 0 || 32 < v || u8 p 4 < 20 || 40 < u8 p 4) || !zeroAt p 5 3 || !zeroFrom p 20 ||
         hd.spiBad (u64 p 8) (u32 p 16), Sts.badParam)]
      (if u32 p 16 < need then Ans.say s Sts.badParam 0 (toLe 4 need)
       else if s.rd (Reg.LANE.STATUS.PSTATE l) ≠ 0 ∨ s.isSet (Reg.LANE.STATUS.SCAN l) ∨ s.laneFunc l = funcPcie then Ans.err s Sts.badState
       else Ans.say ((s.wr (Reg.LANE.STATUS.SCAN l) 1).updLane l (fun d => { d with scan := some ⟨h, v, u8 p 4, u64 p 8, hd⟩ }))
         Sts.ok 0 (toLe 4 need))

/-- MARGIN_SCAN (R425). -/
def execMarginScan (h : Hdr) (p : List Byte) (s : State) : Res := .next (command 0x0A05 h p (cmdMarginScan h p) s)

/-- MARGIN_SCAN_DONE (R418, R425): header and one saturating count per point are written, SCAN_DONE is raised. -/
def execMarginScanDone (l : Nat) (counts : List Nat) (s : State) : Res :=
  match (s.laneDyn l).scan with
  | none => .next s
  | some c =>
    let n := scanPoints l c.hw c.vw
    let hdr := [BitVec.ofNat 8 c.hw, BitVec.ofNat 8 c.vw, BitVec.ofNat 8 c.dwell, if l < 128 then 1 else 3,
      BitVec.ofNat 8 (s.rd (Reg.LANE.STATUS.RATE l))] ++ List.replicate 11 0
    let s1 := s.writeBuf c.h c.addr (hdr ++ (List.range n).flatMap (fun i => toLe 4 (min (counts.getD i 0) 0xFFFFFFFF)))
    .next (((s1.updLane l (fun d => { d with scan := none })).wr (Reg.LANE.STATUS.SCAN l) 0).evt (Reg.LANE.EVENT.SCAN_DONE l))

end Sys2Proof.Machine
end

