-- ==== Sys2Proof/Machine/Reset.lean ====
section
/-! DEFINITION. What the device does when it must stop, and what a reset keeps: fault records (R362), electrical idle
and the fault message (R361, R383, R455, R527), the warm reset (R365), domains that lose power, the start of Eclosion
(R486) and the end of an attempt (R488). -/

namespace Sys2Proof.Machine

/-! ## Stopping -/

/-- Write a fault record over the oldest of eight and assert FAULT_N (R361–R364). -/
def State.faultRecord (s : State) (cause inst addr detail : Nat) (multi : Bool) : State :=
  let fl := (if multi then 1 else 0) + (if s.mode = 1 then 2 else 0) + (if s.rd Reg.TWIN.CFG.ROLE = 0 then 0 else 4)
  let recs := (⟨s.now, s.slot, cause, fl, inst, addr, detail⟩ :: s.integ.recs).take 8
  let s1 : State := { s with integ := { s.integ with recs := recs } }
  (((s1.wr Reg.FAULT.STATUS.RECS recs.length).wr Reg.FAULT.STATUS.FAULT_N 1).wr Reg.FAULT.STATUS.LAST_CAUSE cause).bump
    Reg.FAULT.STATUS.TOTAL

/-- A fault record's 32 bytes (R362). -/
def FaultRec.bytes (r : FaultRec) : List Byte :=
  toLe 8 r.tick ++ toLe 2 r.slot ++ toLe 1 r.cause ++ toLe 1 r.flags ++ toLe 2 r.inst ++ toLe 2 0 ++ toLe 8 r.addr ++
  toLe 4 r.detail ++ toLe 4 0

/-- TWIN_OK and CHG_SEL are dropped (R361, R455, R469). -/
def State.dropTwinOk (s : State) : State :=
  let s1 := s.setChg false
  { s1 with twin := { s1.twin with ok := false } }

/-- Steps 3 and 4 of R361: every transmitter to electrical idle, the fault message on both twin links, TWIN_OK dropped. -/
def State.goSilent (s : State) (cause : Nat) : State :=
  let s1 := s.emit .txIdle
  let s2 := if s.rd Reg.TWIN.CFG.ROLE = 0 then s1 else s1.emit (.faultMsg cause s.now)
  s2.dropTwinOk

/-! ## Domains that lose power -/

/-- Clear what domain `d`'s registers hold: they read their reset values when it comes up (R365, R457). -/
def State.clearDomain (s : State) (d : Nat) : State :=
  { s with regs := SMap.keep (fun o => domOfOffset o != some d) s.regs }

/-- The registers that a warm reset keeps: those of PD00, the debug port's challenge and level apart (R365, R392). -/
def keptReg (o : Nat) : Bool :=
  domOfOffset o == some 0 && o != Reg.DBG.AUTH && !(decide (Reg.DBG.CHAL 0 ≤ o ∧ o ≤ Reg.DBG.CHAL 11)) && o != Reg.BOOT.CTRL

/-- What every domain but PD00 in reset leaves (R365): the tick with its reference selection, ports and flow entries, the
fault records, the map's copy, the attempt counts, the mesh ID and routes, the twin role and TABLE of R496's facts; contracts,
commands, keys, memories, engines and every other unit's state are gone. Emissions already made stay made. -/
def State.clearUnits (s : State) : State :=
  let start := if s.isSet Reg.TICK.STATUS.TIME_VALID then s.now else 0
  let boot0 : BootSt := { s.boot with pend := none, wakeTick := 0, wake := false, domHeld := [], delivered := [] }
  let boot1 : BootSt := { boot0 with lastSeen := false, erased := [], resetDue := false, start := start }
  let boot2 : BootSt := { boot1 with resetForce := false, logged := false, firstBad := false }
  { s with
    regs := SMap.keep keptReg ((((s.wr Reg.DBG.STATUS.SESSION 0).wr Reg.DBG.STATUS.UNIT 0).wr Reg.DBG.STATUS.LEVEL 0).wr Reg.TICK.STATUS.SEL_PEND 0).regs,
    dbg := { cands := s.dbg.cands, ovf := s.dbg.ovf },
    tick := { s.tick with pend := none, lockCfg := none, holdCfg := none },
    led := {}, take := {}, eng := {},
    strm := {
      ports := s.strm.ports,
      flows := SMap.mapAll (fun _ => ({} : Flow)) (fun _ f => { f with removing := false, valid := f.used }) s.strm.flows },
    lane := [], cells := [],
    mesh := { s.mesh with
      links := SMap.mapAll (fun _ => ({} : LinkDyn)) (fun _ d => { lanes := d.own.getD d.lanes }) s.mesh.links, withheld := false,
      setAt := none },
    twin := { partner := s.twin.partner, encReq := s.twin.encReq },
    xp := {}, dram := {}, sec := {}, molt := {},
    integ := { s.integ with last := [] },
    pwr := { hold := s.pwr.hold, peaks := s.pwr.peaks, hot := s.pwr.hot },
    boot := boot2,
    due := [] }

/-- Every domain but PD00 is off. -/
def State.domainsOff (s : State) : State := ((s.wr Reg.PWR.DOM0.STATES 3).wr Reg.PWR.DOM1.STATES 0).wr
  Reg.PWR.DOM_BUSY.DOMAINS 0 |>.wr Reg.PWR.DOM_PEND.DOMAINS 0

/-- The PCIe link goes down: host messages wait for it, and the host's locks are released (R508, R523). -/
def State.hostLinkDown (s : State) : State :=
  let s1 := s.orphan 5
  { s1 with intc := { s1.intc with link := 0 } }

/-- Reset of every domain except PD00, leaving the mode Eclosion at step 1 (R361 step 5, R365, R455 step 4). -/
def State.resetUnits (s : State) : State :=
  let s1 := s.hostLinkDown.clearUnits.domainsOff
  let s2 := if s.mode = 1 then s1 else s1.setMode 1
  ((((s2.wr Reg.MODE.STATUS.ECL_STEP 1).wr Reg.MODE.STATUS.PEND 0).wr Reg.MODE.STATUS.TARGET 0).wr
    Reg.MODE.STATUS.CONFIRMED 0).wr Reg.MODE.STATUS.WAIT_IMAGE 0

/-- The warm reset (R365): the units are reset and Eclosion starts at step 1. -/
def State.warmReset (s : State) : State :=
  let s1 := s.resetUnits
  { s1 with pwr := { s1.pwr with hold := .none } }

/-- Hold every domain except PD00 in reset for a cause (R383, R455, R475, R527). -/
def State.holdReset (s : State) (c : Hold) : State :=
  let s1 := s.resetUnits
  { s1 with pwr := { s1.pwr with hold := c } }

/-! ## Attempts (R488) -/

/-- The consecutive failed attempts k. -/
def State.attempts (s : State) : Nat := s.rd Reg.MODE.STATUS.ATTEMPTS

/-- The slot the present attempt uses (R488): PREFERRED, the other of A and B, factory; 3 for a delivered image. -/
def State.bootSlot (s : State) : Nat :=
  if s.straps.bootSrc ≠ 0 then 3
  else match s.attempts with
    | 0 => s.rd Reg.BOOT.FLASH.PREFERRED
    | 1 => 1 - s.rd Reg.BOOT.FLASH.PREFERRED
    | _ => 2

/-- Put an attempt's slot and reason first in BOOT.RECORD, which keeps the latest three (R488). -/
def State.recordAttempt (s : State) (slot code : Nat) : State :=
  (((((s.wr Reg.BOOT.RECORD.REASON3 (s.rd Reg.BOOT.RECORD.REASON2)).wr Reg.BOOT.RECORD.REASON2
    (s.rd Reg.BOOT.RECORD.REASON1)).wr Reg.BOOT.RECORD.REASON1 code).wr Reg.BOOT.RECORD.SLOT3 (s.rd Reg.BOOT.RECORD.SLOT2)).wr
    Reg.BOOT.RECORD.SLOT2 (s.rd Reg.BOOT.RECORD.SLOT1)).wr Reg.BOOT.RECORD.SLOT1 slot

/-- Record the end of an attempt: 0x01 for the first one where the descriptor at offset 0 failed (R490); a failure of an
image whose start is recorded replaces that record's reason. -/
def State.logAttempt (s : State) (code : Nat) (done : Bool) : State :=
  let c := if s.boot.firstBad then 1 else code
  let s1 := if s.boot.logged then s.wr Reg.BOOT.RECORD.REASON1 c else s.recordAttempt s.bootSlot c
  { s1 with boot := { s1.boot with firstBad := false, logged := done } }

/-- One more failed attempt with a reason: recorded, counted, ATTEMPT_FAIL (R488). -/
def State.countFail (s : State) (code : Nat) : State :=
  ((s.logAttempt code false).wr Reg.MODE.STATUS.ATTEMPTS (min 3 (s.attempts + 1))).evt Reg.MODE.EVENT.ATTEMPT_FAIL

/-- Set a domain's state. -/
def State.setDom (s : State) (d x : Nat) : State := if s.domPresent d then s.wr (domFld d) x else s

/-- Link 0 on NL00 in the RECOVERY role at 10.3125 Gb/s, whatever the configuration held; down while the device runs on RC
(R401, R493). -/
def State.recoveryLink (s : State) : State :=
  let s1 := (((s.wr (Reg.LANE.STATUS.FUNC 0) funcLink).wr (Reg.LANE.STATUS.LINK 0) 0).wr (Reg.LANE.STATUS.RATE 0) 0x0A).setBase 0 3
  let s2 := (s1.updLink 0 (fun d => { lanes := [0], own := some (d.own.getD d.lanes) })).askPstate 0 0
  if s.rd Reg.CLK.STATUS.SRC = 0 then (s2.wr (Reg.DOLMET.LINK_STATUS.STATE 0) 1).startNeg 0
  else s2.wr (Reg.DOLMET.LINK_STATUS.STATE 0) 0

/-- The controllers of a powered PD04: those not trained begin to be; the fall-back scheduler runs in Cocoon (R334, R345). -/
def State.startMcs (s : State) (fallback : Bool) : State :=
  (List.range s.nMcs).foldl (fun t m =>
    if 2 ≤ t.rd (Reg.MC.STATUS.STATE m) then (if fallback then t.wr (Reg.MC.STATUS.SCHED m) 1 else t)
    else t.wr (Reg.MC.STATUS.STATE m) 1) s

/-- The management cores run and the transports with them (R123). -/
def State.fwReady (s : State) : State :=
  ((s.wr Reg.CMD.STATUS.FW_READY 1).showCores).flushCores (fun c => !s.coreOff c)

/-- Enter Cocoon (R493): ROM firmware alone, PD01, PD04 with the fall-back scheduler unless DRAM training failed, PD27 for
link 0, FW_READY for the opcodes of R123. -/
def State.enterCocoon (s : State) (noDram : Bool) : State :=
  let s1 := (List.range 30).foldl (fun t d =>
    if d = 0 ∨ d = 1 ∨ (d = 4 ∧ !noDram) then t else (t.clearDomain d).setDom d 0) s
  let s2 := (s1.setDom 1 3).setDom 27 3
  let s3 := if noDram then s2 else (s2.setDom 4 3).startMcs true
  let s4 := ((s3.setMode 2).wr Reg.MODE.STATUS.ECL_STEP 0).evt Reg.MODE.EVENT.COCOON
  let s5 : State := { s4 with lane := SMap.keep (fun _ => false) s4.lane }
  ((s5.wr Reg.CMD.STATUS.PATCH_LEVEL 0).wr Reg.MODE.STATUS.WAIT_IMAGE 0).recoveryLink.fwReady

/-- A failed attempt ends the start with a warm reset, or, the third in a row, in Cocoon; where the third fails after step 8, the
warm reset comes first and the next start finds the count at 3 (R488, R493). -/
def State.attemptFail (s : State) (code : Nat) : State :=
  let s1 := s.countFail code
  if s1.attempts = 3 ∧ s.mode = 1 ∧ s.rd Reg.MODE.STATUS.ECL_STEP ≤ 8 then s1.enterCocoon (code = 9) else s1.warmReset

/-- A fault that resets the device before BOOT_CONFIRM counts as a failed attempt with its reason; after it, it does not
(R364, R383, R475, R489). -/
def State.countIfUnconfirmed (s : State) (code : Nat) : State :=
  if s.isSet Reg.MODE.STATUS.CONFIRMED ∨ s.mode = 2 then s else s.countFail code

end Sys2Proof.Machine
end

