-- ==== Sys2Proof/Machine/MemOps.lean ====
section
/-! DEFINITION. What every user of device DRAM shares: the address map (R323), access errors (R325, R355), reads and
writes with the encryption counters (R378–R381), corrected errors and their buckets (R351, R358–R360), and the integrity
halt (R383). -/

namespace Sys2Proof.Machine

/-! ## Address map (R323) -/

def State.chanOf (s : State) (a : Nat) : Nat := a / 256 % s.nMcs
/-- Bits by which every field above the channel sits lower: one on ZWX9-M. -/
def State.mapShift (s : State) : Nat := if s.ident.variant = 3 then 1 else 0
def State.subOf (s : State) (a : Nat) : Nat := a / 2 ^ (11 - s.mapShift) % 2
/-- Bank (two bits) and bank group (three bits), bank lowest. -/
def State.bankOf (s : State) (a : Nat) : Nat := a / 2 ^ (12 - s.mapShift) % 32
/-- Row and rank above the column, which is one bit narrower with x8 devices (R324). -/
def State.rowOf (s : State) (a : Nat) : Nat :=
  a / 2 ^ ((if s.isSet (Reg.MC.ORG.WIDTH (s.chanOf a)) then 21 else 22) - s.mapShift)

/-! ## Access errors -/

/-- Does a range of `n` bytes from `a` touch protection-map region `r`? -/
def State.inRegion (s : State) (r a n : Nat) : Bool :=
  s.isSet (Reg.PMAP.REG_LO.EN r) && decide (s.rd (Reg.PMAP.REG_LO.BASE r) * 2 ^ 24 < a + n) &&
  decide (a < (s.rd (Reg.PMAP.REG_LO.BASE r) + s.rd (Reg.PMAP.REG_HI.SIZE r)) * 2 ^ 24)

/-- An access that gets an error response: memory off, beyond installed DRAM, or in a region in INIT (R325, R355). -/
def State.dramBad (s : State) (a n : Nat) : Bool :=
  !s.domOn 4 || decide (s.dramSize < a + n) ||
  (List.range 64).any (fun r => s.rd (Reg.PMAP.REG_LO.STATE r) == 1 && s.inRegion r a n)

/-! ## Corrected errors (R351, R358–R360) -/

/-- An ECC event is stamped (R360). -/
def State.eccEvent (s : State) : State :=
  let s1 := s.wr Reg.INTEG.ECC_TICK.TICK_LO s.now
  { s1 with twin := { s1.twin with eccTick := s1.now } }

/-- `n` corrected errors at an address in bucket `b` (R359); 254 management SRAM and 255 the counter cache count in
INTEG.SRAM_CNT alone (R358). -/
def State.corrected (s : State) (b n addr : Nat) : State :=
  let s0 := s.eccEvent
  let s1 : State := { s0 with integ := { s0.integ with last := SMap.set (fun _ => 0) s0.integ.last b addr } }
  if b = 254 then (s1.wr Reg.INTEG.SRAM_CNT.MGMT (s1.rd Reg.INTEG.SRAM_CNT.MGMT + n)).evt Reg.INTEG.EVENT.SRAM_CORR
  else if b = 255 then (s1.wr Reg.INTEG.SRAM_CNT.CCACHE (s1.rd Reg.INTEG.SRAM_CNT.CCACHE + n)).evt Reg.INTEG.EVENT.SRAM_CORR
  else
    let old := s1.rd (Reg.INTEG.BKT_LVL.LEVEL b)
    let thr := s1.rd (Reg.INTEG.BKT_CFG.THRESHOLD b)
    let s2 := (s1.bumpSat (Reg.INTEG.BKT_LVL.LEVEL b) n).wr (Reg.INTEG.BKT_CNT.CORR_CNT b)
      (s1.rd (Reg.INTEG.BKT_CNT.CORR_CNT b) + n)
    if old < thr ∧ thr ≤ s2.rd (Reg.INTEG.BKT_LVL.LEVEL b) then s2.evt (Reg.INTEG.BKT_LVL.OVER b) else s2

/-! ## Integrity (R378–R383) -/

/-- The integrity halt (R383): record, idle, notify, keys gone, every domain but PD00 held in reset. -/
def State.integrityHalt (s : State) (ch detail addr : Nat) : State :=
  (((s.faultRecord 0x20 ch addr detail false).goSilent 0x20).countIfUnconfirmed 0x0E).holdReset .integrity

/-- Is an address in an enabled region with a key ID other than KID0? -/
def State.keyed (s : State) (a : Nat) : Bool :=
  match s.regionAt a with
  | some r => s.rd (Reg.PMAP.REG_LO.KID r) != 0
  | none => false

/-- Total bytes of the keyed regions (R354). -/
def State.keyedBytes (s : State) : Nat :=
  ((List.range 63).filter (fun r => s.isSet (Reg.PMAP.REG_LO.EN r) && s.rd (Reg.PMAP.REG_LO.KID r) != 0)).foldl
    (fun n r => n + s.rd (Reg.PMAP.REG_HI.SIZE r) * 2 ^ 24) 0

/-- Levels of a tree over `n` counter lines and its root registers: it rises until a level has at most 64 nodes (R380). -/
def treeShape : Nat → Nat → Nat × Nat
  | 0, n => (1, n)
  | f + 1, n => if n ≤ 64 then (1, n) else let t := treeShape f (ceilDiv n 8); (t.1 + 1, t.2)

/-- SEC.IME follows the keyed regions (R380). -/
def State.setIme (s : State) : State :=
  let b := s.keyedBytes
  if b = 0 then (s.wr Reg.SEC.IME.LEVELS 0).wr Reg.SEC.IME.ROOTS 0
  else (s.wr Reg.SEC.IME.LEVELS (treeShape 24 (b / 512)).1).wr Reg.SEC.IME.ROOTS (treeShape 24 (b / 512)).2

/-- Is a counter line or node resident in the counter cache? -/
def State.resident (s : State) (l i : Nat) : Bool := s.dram.cache.any (fun x => x.1 == (l, i))

/-- Make a counter line and its ancestors resident; `dirty` marks the line changed (R381). -/
def State.touchCounter (s : State) (line : Nat) (dirty : Bool) : State :=
  let nodes := (List.range (s.rd Reg.SEC.IME.LEVELS)).map (fun l => (l, line / 8 ^ (l + 1)))
  let add := (nodes.filter (fun x => !s.resident x.1 x.2)).map (fun x => (x, false))
  let all := s.dram.cache ++ add
  let mark := fun (x : (Nat × Nat) × Bool) => if dirty && x.1 == (0, line / 8) then (x.1, true) else x
  { s with dram := { s.dram with cache := all.map mark } }

/-! ## Reads and writes -/

def State.dramRead (s : State) (a n : Nat) : List Byte := s.dram.mem.readN a n

/-- The lines that `n` bytes from `a` touch. -/
def linesOf (a n : Nat) : List Nat := if n = 0 then [] else (List.range ((a + n - 1) / 64 - a / 64 + 1)).map (· + a / 64)

/-- A write of bytes: each keyed line's counter goes up by one; a counter at its limit refuses the write and halts (R378,
R379). -/
def State.dramWrite (s : State) (a : Nat) (bytes : List Byte) : State :=
  let ks := (linesOf a bytes.length).filter (fun l => s.keyed (l * 64))
  match ks.find? (fun l => decide (2 ^ 64 - 1 ≤ SMap.get (fun _ => 0) s.dram.ctrs l)) with
  | some l => s.integrityHalt (s.chanOf (l * 64)) 3 (l * 64)
  | none =>
    let s1 := ks.foldl (fun t l => t.touchCounter l true) s
    let ctrs := ks.foldl (fun c l => SMap.upd (fun _ => 0) c l (· + 1)) s1.dram.ctrs
    { s1 with dram := { s1.dram with mem := s1.dram.mem.writeN a bytes, ctrs := ctrs } }

end Sys2Proof.Machine
end

