-- ==== Sys2Proof/Machine/Dram.lean ====
section
/-! DEFINITION. The DDR5 controllers (10_dram.md): requests, the two schedulers, page policies, refresh, retraining and
self-refresh. Which DRAM commands the timing rules of the installed devices allow in a cycle is the event's operand. -/

namespace Sys2Proof.Machine

def State.mcd (s : State) (m : Nat) : McDyn := SMap.get (fun _ => ({} : McDyn)) s.dram.mcs m
def State.setMcd (s : State) (m : Nat) (x : McDyn) : State :=
  { s with dram := { s.dram with mcs := SMap.set (fun _ => ({} : McDyn)) s.dram.mcs m x } }
def State.updMcd (s : State) (m : Nat) (f : McDyn → McDyn) : State := s.setMcd m (f (s.mcd m))
def State.mcState (s : State) (m : Nat) : Nat := s.rd (Reg.MC.STATUS.STATE m)

/-- A controller that is present, powered and at least trained. -/
def State.mcLive (s : State) (m : Nat) : Bool := decide (m < s.nMcs) && s.domOn 4 && decide (2 ≤ s.mcState m)

/-- Does the fall-back scheduler run (R334, R335): after a parity fault, in Cocoon, or requested outside Flight? -/
def State.fallback (s : State) (m : Nat) : Bool :=
  (s.mcd m).parity || s.mode == 2 || (s.isSet (Reg.MC.CFG.FALLBACK_REQ m) && s.mode != 4)

/-- The compatibility page policy in force (R337); a unit under profile lock V has no other (R11). -/
def State.compatPolicy (s : State) (m : Nat) : Bool := s.isSet (Reg.MC.STATUS.POLICY m) || s.ident.profile == 0x56

/-- A port's target in ns (R329). -/
def State.target (s : State) (p : Nat) : Nat := s.rd (Reg.MC.PORT_TGT.TARGET p) * 10

/-- The class of a request (R328). -/
def State.classOf (s : State) (ctx : Nat) (maint : Bool) : Nat :=
  if maint then 1
  else match (s.contract (ctx % 4096)).st with
    | .active | .starved | .held | .releasing => if ctx = 0xFFFF then 0 else 2
    | _ => 0

/-- Management, host and test requests carry CLOSE (R336). -/
def closePort (p : Nat) : Bool := p == 20 || p == 22 || p == 23

/-- A request's part of one line (R325). -/
def lineReq (r : DramReq) (cls line : Nat) : DLine :=
  let lo := max r.addr (line * 64)
  let hi := min (r.addr + r.len) (line * 64 + 64)
  { port := r.port, id := r.id, line := line, off := lo - line * 64, len := hi - lo, write := r.write,
    data := (r.data.drop (lo - r.addr)).take (hi - lo), cls := cls, keep := r.keep && !closePort r.port, ns := r.ns, src := r.src }

/-- A request joins a controller's queue behind those before it; of requests of one cycle the lower port's is accepted first (R326). -/
def enqueue (x : DLine) : List DLine → List DLine
  | [] => [x]
  | y :: ys => if y.ns = x.ns ∧ x.port < y.port ∧ y.issued = false then x :: y :: ys else y :: enqueue x ys

/-- DRAM_REQUEST_ARRIVAL (R325–R328, R343): split into lines and queued; one that reaches beyond installed DRAM, or into a
region in INIT, gets an error response and no part of it is performed. An arrival abandons an entry into self-refresh not
yet issued, and starts the exit of a channel in self-refresh. -/
def State.dramArrive (s : State) (r : DramReq) : State :=
  if r.len = 0 then s
  else if s.dramBad r.addr r.len then s.emit (.dram (s.chanOf r.addr) 9 r.port r.id)
  else
    let cls := s.classOf r.ctx r.maint
    (linesOf r.addr r.len).foldl (fun t l =>
      let m := t.chanOf (l * 64)
      let t1 := t.updMcd m (fun x => { x with queue := enqueue (lineReq r cls l) x.queue })
      if t1.mcState m = 3 then t1.wr (Reg.MC.STATUS.SR_PEND m) 1 else t1.wr (Reg.MC.STATUS.SR_PEND m) 0) s

def execDramRequestArrival (r : DramReq) (s : State) : Res := .next (s.dramArrive r)

/-- Urgency of a request at a time, from its port's target (R330). -/
def urgencyAt (target elapsed : Nat) : Nat :=
  if 9 * target ≤ 10 * elapsed then 3 else if 3 * target ≤ 4 * elapsed then 2 else if target ≤ 2 * elapsed then 1 else 0

/-- URGENCY_STEP (R330): the urgencies of a controller's waiting requests at a time; URG_MAX follows. -/
def execUrgencyStep (m now : Nat) (s : State) : Res :=
  if s.mcLive m ∧ s.mcState m = 2 then
    let q := (s.mcd m).queue.map (fun x => { x with urg := max x.urg (urgencyAt (s.target x.port) (now - x.ns)) })
    let s1 := s.updMcd m (fun x => { x with queue := q })
    .next (q.foldl (fun t x => t.wr (Reg.MC.PORT_TGT.URG_MAX x.port) (max (t.rd (Reg.MC.PORT_TGT.URG_MAX x.port)) x.urg)) s1)
  else .next s

/-- Is one request ahead of another under the main scheduler (R331)? -/
def DLine.before (a b : DLine) : Bool :=
  if a.prom != b.prom then a.prom
  else if a.cls != b.cls then decide (b.cls < a.cls)
  else if a.urg != b.urg then decide (b.urg < a.urg)
  else if a.ns != b.ns then decide (a.ns < b.ns)
  else decide (a.port < b.port)

/-- The first of a list of requests in an order. -/
def pickBy (before : DLine → DLine → Bool) : List DLine → Option DLine
  | [] => none
  | x :: xs =>
    match pickBy before xs with
    | none => some x
    | some y => if before y x then some y else some x

/-- The requests of a subchannel that may issue: those of the list whose line has no earlier request waiting (R326). -/
def State.ready (s : State) (m sub : Nat) (allowed : List (Nat × Nat)) : List DLine :=
  let q := (s.mcd m).queue
  q.filter (fun x => !x.issued && s.subOf (x.line * 64) == sub && allowed.contains (x.id, x.line) &&
    (q.find? (fun y => y.line == x.line)).any (fun y => y.id == x.id && y.port == x.port))

/-- AGE_PROMOTION (R332): in each subchannel the oldest request older than AGE_LIMIT is promoted, at most one in any window
of AGE_LIMIT. -/
def State.promote (s : State) (m sub now : Nat) : State :=
  let lim := s.rd (Reg.MC.AGE.AGE_LIMIT m)
  let d := s.mcd m
  let last := if sub = 0 then d.promA else d.promB
  let old := d.queue.filter (fun x => s.subOf (x.line * 64) == sub && !x.prom && !x.issued && decide (x.ns + lim < now))
  match pickBy (fun a b => decide (a.ns < b.ns)) old with
  | some x =>
    if last.all (fun t => decide (t + lim ≤ now)) then
      let q := updWhere (fun y => y.id == x.id && y.line == x.line && y.port == x.port) (fun y => { y with prom := true }) d.queue
      (s.setMcd m { d with
        queue := q, promA := if sub = 0 then some now else d.promA,
        promB := if sub = 0 then d.promB else some now }).bump (Reg.MC.CNT.PROMOTE_CNT m)
    else s
  | none => s

def execAgePromotion (m now : Nat) (s : State) : Res :=
  if s.mcLive m ∧ s.mcState m = 2 ∧ ¬ s.fallback m then .next ((s.promote m 0 now).promote m 1 now) else .next s

/-- The fall-back scheduler's choice: banks in rotation, each in arrival order (R334). -/
def State.rotate (s : State) (rot : Nat) (l : List DLine) : Option DLine :=
  pickBy (fun a b =>
    let ka := (s.bankOf (a.line * 64) + 32 - (rot + 1) % 32) % 32
    let kb := (s.bankOf (b.line * 64) + 32 - (rot + 1) % 32) % 32
    if ka = kb then decide (a.ns < b.ns) else decide (ka < kb)) l

/-- One DRAM command for a request: a precharge where its bank holds another row, an activate where it holds none, else the
column command, which closes the row with auto-precharge where policy and hint say so (R334, R336, R337). Kinds: 0 PRE,
1 ACT, 2 RD, 3 WR, 4 RMW. -/
def State.dramIssue (s : State) (m : Nat) (x : DLine) : State :=
  let a := x.line * 64
  let key := s.subOf a + 2 * s.bankOf a
  let d := s.mcd m
  match d.rows.find? (fun r => r.1 == key) with
  | none => (s.setMcd m { d with rows := d.rows ++ [(key, s.rowOf a)] }).emit (.dram m 1 key (s.rowOf a))
  | some r =>
    if r.2 ≠ s.rowOf a then (s.setMcd m { d with rows := d.rows.filter (fun y => y.1 != key) }).emit (.dram m 0 key r.2)
    else
      let close := s.fallback m || (!s.compatPolicy m && !x.keep)
      let q := updWhere (fun y => y.id == x.id && y.line == x.line && y.port == x.port) (fun y => { y with issued := true }) d.queue
      (s.setMcd m { d with
        queue := q, rows := if close then d.rows.filter (fun y => y.1 != key) else d.rows,
        rotA := if s.subOf a = 0 then s.bankOf a else d.rotA,
        rotB := if s.subOf a = 0 then d.rotB else s.bankOf a }).emit
        (.dram m (if !x.write then 2 else if x.len = 64 then 3 else 4) x.line (if close then 1 else 0))

/-- DRAM_COMMAND_CYCLE (R331, R334): the scheduler in force chooses among the requests whose next command is allowed. -/
def execDramCommandCycle (m sub _now : Nat) (allowed : List (Nat × Nat)) (s : State) : Res :=
  if s.mcLive m ∧ s.mcState m = 2 ∧ (s.mcd m).pause ≠ some sub then
    let l := s.ready m sub allowed
    match (if s.fallback m then s.rotate (if sub = 0 then (s.mcd m).rotA else (s.mcd m).rotB) l else pickBy DLine.before l) with
    | some x => .next (s.dramIssue m x)
    | none => .next s
  else .next s

/-- DRAM_REQUEST_COMPLETE (R306, R325, R329, R333): read data leaves, unless the response is discarded, or write data is in the write
buffer; a CONTRACT request over its port's target is counted. -/
def execDramRequestComplete (m id line now : Nat) (s : State) : Res :=
  match (s.mcd m).queue.find? (fun x => x.id == id && x.line == line && x.issued) with
  | none => .next s
  | some x =>
    let s1 := s.updMcd m (fun d => { d with queue := d.queue.filter (fun y => !(y.id == id && y.line == line && y.port == x.port)) })
    let s2 := if x.cls = 2 ∧ s.target x.port < now - x.ns then (s1.bump (Reg.MC.CNT.LATE_CNT m)).evt (Reg.MC.EVENT.LATE m) else s1
    if x.write then .next (s2.dramWrite (line * 64 + x.off) x.data)
    else if x.mute then .next s2
    else .next (s2.emit (.dramData x.port id line (s2.dramRead (line * 64 + x.off) x.len)))

/-! ## Refresh and temperature (R322, R338, R339) -/

/-- The next bank index is refreshed: its rows close (R336, R338). -/
def State.refresh (s : State) (m : Nat) : State :=
  let d := s.mcd m
  (s.setMcd m { d with
    refBank := (d.refBank + 1) % 4, rows := d.rows.filter (fun r => r.1 / 2 % 4 != d.refBank) }).emit (.dram m 5 d.refBank 0)

/-- REFRESH_INTERVAL (R338, R340): one refresh, at the end of the pause if one runs; the rate MR4 calls for is in force
from here (R339). -/
def execRefreshInterval (m : Nat) (s : State) : Res :=
  if s.mcLive m ∧ s.mcState m = 2 then
    let s1 := s.flag (Reg.MC.STATUS.REF2X m) (s.mcd m).hot
    match (s.mcd m).pause with
    | some _ => .next (s1.updMcd m (fun d => { d with refDue := d.refDue + 1 }))
    | none => .next (s1.refresh m)
  else .next s

/-- MR4_READ (R339): a hot rank doubles the rate; 16 consecutive normal reads of every rank restore it. -/
def execMr4Read (m : Nat) (hot : List Bool) (above : Bool) (s : State) : Res :=
  if s.mcLive m ∧ s.mcState m = 2 then
    let d := s.mcd m
    let h := hot.any (fun b => b)
    let cool := if h then 0 else d.cool + 1
    let rate := h || (d.hot && decide (cool < 16))
    let s1 := (s.setMcd m { d with hot := rate, cool := min cool 16 }).flag (Reg.MC.TEMP.HOT m) h
    let s2 := if rate = d.hot then s1 else s1.evt (Reg.MC.EVENT.REF_RATE m)
    .next (if above then s2.evt (Reg.MC.EVENT.DRAM_HOT m) else s2)
  else .next s

/-- SPD_TEMPERATURE_READ (R322, R339): two signed readings, whether one exceeds its SPD limit, whether the read failed. -/
def execSpdTemperatureRead (m t0 t1 : Nat) (above fail : Bool) (s : State) : Res :=
  if m < s.nMcs ∧ s.domOn 4 then
    if fail then .next (s.evt (Reg.MC.EVENT.SPD_FAULT m))
    else
      let s1 := (s.wr (Reg.MC.TEMP.TEMP0 m) t0).wr (Reg.MC.TEMP.TEMP1 m) (if s.rd (Reg.MC.STATUS.DIMMS m) = 2 then t1 else 0)
      .next (if above then s1.evt (Reg.MC.EVENT.DRAM_HOT m) else s1)
  else .next s

/-! ## Retraining (R340, R341) -/

/-- RETRAIN_PAUSE (R340): at slot 1,024 of ticks whose number mod 64 is 2m + subchannel. -/
def execRetrainPause (m sub : Nat) (s : State) : Res :=
  if s.mcLive m ∧ s.mcState m = 2 ∧ sub < 2 ∧ s.slot = 1024 ∧ s.now % 64 = 2 * m + sub ∧ (s.mcd m).pause = none then
    .next ((s.updMcd m (fun d => { d with pause := some sub })).wr (Reg.MC.STATUS.TRAINING m) 1)
  else .next s

/-- RETRAIN_PAUSE_END (R340, R341): due refreshes are issued in order; a result outside the window is counted. -/
def execRetrainPauseEnd (m sub dur : Nat) (ok : Bool) (s : State) : Res :=
  if (s.mcd m).pause = some sub then
    let n := (s.mcd m).refDue
    let s1 := (List.range n).foldl (fun t _ => t.refresh m) (s.updMcd m (fun d => { d with pause := none, refDue := 0 }))
    let s2 := (s1.wr (Reg.MC.STATUS.TRAINING m) 0).wr (Reg.MC.TRAIN.PAUSE_MAX m) (min 255 (max (s.rd (Reg.MC.TRAIN.PAUSE_MAX m)) dur))
    let s3 := s2.flag (if sub = 0 then Reg.MC.TRAIN.A_OK m else Reg.MC.TRAIN.B_OK m) ok
    .next (if ok then s3
      else (s3.bump (if sub = 0 then Reg.MC.TRAIN.A_FAIL_CNT m else Reg.MC.TRAIN.B_FAIL_CNT m)).evt (Reg.MC.EVENT.TRAIN_FAIL m))
  else .next s

/-! ## Self-refresh (R342–R344) -/

/-- A contract with DRAM demand stands in the way of self-refresh (R342). -/
def State.dramDemand (s : State) : Bool :=
  !(s.liveWhere (fun c => c.st != .proposed && c.charges.any (fun x => x.res == 4))).isEmpty

/-- MC_SR_REQ_WRITE (R342): SR_REQ is set; entry starts where no contract has DRAM demand. -/
def execMcSrReqWrite (m : Nat) (s : State) : Res :=
  if m < s.nMcs ∧ s.domOn 4 then
    let s1 := s.wr (Reg.MC.CFG.SR_REQ m) 1
    .next (if s.mcState m = 2 ∧ ¬ s.dramDemand then s1.wr (Reg.MC.STATUS.SR_PEND m) 1 else s1)
  else .next s

/-- SR_IDLE_TIMEOUT (R342): with SR_AUTO, a channel idle for SR_IDLE_US starts entry. -/
def execSrIdleTimeout (m : Nat) (s : State) : Res :=
  if s.mcLive m ∧ s.mcState m = 2 ∧ s.isSet (Reg.MC.CFG.SR_AUTO m) ∧ (s.mcd m).queue = [] ∧ ¬ s.dramDemand then
    .next (s.wr (Reg.MC.STATUS.SR_PEND m) 1)
  else .next s

/-- A controller enters self-refresh (R342). -/
def State.enterSr (s : State) (m : Nat) : State :=
  let s1 := s.updMcd m (fun d => { d with rows := [], pause := none, refDue := 0 })
  ((((s1.wr (Reg.MC.STATUS.STATE m) 3).wr (Reg.MC.STATUS.SR_PEND m) 0).wr (Reg.MC.STATUS.TRAINING m) 0).evt
    (Reg.MC.EVENT.SR_ENTER m)).emit (.dram m 6 0 0)

/-- SR_ENTRY_COMPLETE (R342): the accepted requests are done and the entry command is issued to every rank. -/
def execSrEntryComplete (m : Nat) (s : State) : Res :=
  if s.mcLive m ∧ s.mcState m = 2 ∧ (s.isSet (Reg.MC.STATUS.SR_PEND m) ∨ s.isSet (Reg.MC.CFG.SR_REQ m)) ∧ (s.mcd m).queue = [] ∧ ¬ s.dramDemand then .next (s.enterSr m)
  else .next s

/-- A controller is out of self-refresh (R343, R344): latencies of waiting requests count from here. -/
def State.exitSr (s : State) (m now : Nat) : State :=
  let s1 := s.updMcd m (fun d => { d with queue := d.queue.map (fun x => { x with ns := now, urg := 0 }) })
  ((((s1.wr (Reg.MC.STATUS.STATE m) 2).wr (Reg.MC.STATUS.SR_PEND m) 0).wr (Reg.MC.CFG.SR_REQ m) 0).evt
    (Reg.MC.EVENT.SR_EXIT m)).emit (.dram m 7 0 0)

/-- Does a channel leave self-refresh: a request or a scrub reload waits, or a contract with DRAM demand is admitted (R342–R344)? -/
def State.srLeaves (s : State) (m : Nat) : Bool :=
  s.mcState m == 3 && (s.isSet (Reg.MC.STATUS.SR_PEND m) || s.dramDemand)

/-- SR_EXIT_COMPLETE (R344): an exit under way is done. -/
def execSrExitComplete (m now : Nat) (s : State) : Res :=
  if s.mcLive m ∧ s.srLeaves m then .next (s.exitSr m now) else .next s

/-! ## Scheduler and page policy (R334, R335, R337) -/

/-- MC_FALLBACK_REQ_WRITE (R334): refused in Flight with CFG_ERR. -/
def execMcFallbackReqWrite (m : Nat) (v : Bool) (s : State) : Res :=
  if m < s.nMcs ∧ s.domOn 4 then
    if s.mode = 4 then .next (s.evt (Reg.MC.EVENT.CFG_ERR m))
    else
      let s1 := s.flag (Reg.MC.CFG.FALLBACK_REQ m) v
      .next (s1.flag (Reg.MC.STATUS.SCHED m) (s1.fallback m))
  else .next s

/-- MC_POLICY_WRITE (R337): the policy selected from the next boundary; read-only under profile lock V. -/
def execMcPolicyWrite (m : Nat) (v : Bool) (s : State) : Res :=
  if m < s.nMcs ∧ s.domOn 4 ∧ s.ident.profile ≠ 0x56 then .next (s.flag (Reg.MC.CFG.POLICY m) v) else .next s

/-- SCHED_PARITY_FAULT (R335, R360): the fall-back scheduler at once; an ECC event. -/
def execSchedParityFault (m : Nat) (s : State) : Res :=
  if s.mcLive m then
    .next ((((s.updMcd m (fun d => { d with parity := true, rebuilt := false })).wr (Reg.MC.STATUS.SCHED m) 1).evt
      (Reg.MC.EVENT.SCHED_PARITY m)).eccEvent)
  else .next s

/-- SCHED_REBUILD_DONE (R335): the main scheduler returns at the first boundary from here. -/
def execSchedRebuildDone (m : Nat) (s : State) : Res :=
  if (s.mcd m).parity then .next (s.updMcd m (fun d => { d with rebuilt := true })) else .next s

/-- A boundary's part (R335, R337): rebuilt tables return to use, a new page policy takes effect. -/
def State.mcBoundary (s : State) (m : Nat) : State :=
  let s1 := if (s.mcd m).rebuilt then s.updMcd m (fun d => { d with parity := false, rebuilt := false }) else s
  if s1.mcLive m then
    (s1.flag (Reg.MC.STATUS.SCHED m) (s1.fallback m)).wr (Reg.MC.STATUS.POLICY m) (s1.rd (Reg.MC.CFG.POLICY m))
  else s1

end Sys2Proof.Machine
end

