-- ==== Sys2Proof/Machine/Integrity.lean ====
section
/-! DEFINITION. Error correction and fault containment (11_integrity.md): fault records, the protection map, leaky
buckets, patrol, and the reset of an uncorrectable error. -/

namespace Sys2Proof.Machine

/-! ## Fault records (R362–R364) -/

/-- The body of FAULT_READ (R367). -/
def cmdFaultRead (h : Hdr) (p : List Byte) (_floor : Nat) (s : State) : Ans :=
  let n := s.integ.recs.length
  Ans.check s [(!zeroFrom p 12 || h.spiBad (u64 p 0) (u32 p 8) || decide (u32 p 8 < 32 * n), Sts.badParam)]
    (Ans.say (s.writeBuf h (u64 p 0) (s.integ.recs.flatMap FaultRec.bytes)) Sts.ok 0
      ([BitVec.ofNat 8 n, 0] ++ toLe 2 (s.rd Reg.FAULT.STATUS.TOTAL)))

/-- FAULT_READ (R367). -/
def execFaultRead (h : Hdr) (p : List Byte) (s : State) : Res := .next (command 0x0104 h p (cmdFaultRead h p) s)

/-- Empty a bucket and clear its OVER (R368). -/
def State.emptyBucket (s : State) (b : Nat) : State := s.setReg (Reg.INTEG.BKT_LVL b) 0

/-- The body of FAULT_CLEAR (R368). -/
def cmdFaultClear (p : List Byte) (_floor : Nat) (s : State) : Ans :=
  let s1 := (s.setReg Reg.LEDGER.MISS 0).setReg Reg.LEDGER.MISS_LAST 0
  let s2 : State := if bit (u8 p 0) 0 then { s1.setReg Reg.FAULT.STATUS 0 with integ := { s1.integ with recs := [] } } else s1
  let s3 := if bit (u8 p 0) 1 then (List.range 94).foldl (fun t b => t.emptyBucket b) s2 else s2
  Ans.check s [(decide (3 < u8 p 0) || !zeroFrom p 1, Sts.badParam)] (Ans.ok s3)

/-- FAULT_CLEAR (R368). -/
def execFaultClear (h : Hdr) (p : List Byte) (s : State) : Res := .next (command 0x0105 h p (cmdFaultClear p) s)

/-! ## The protection map (R353–R356) -/

/-- Keep the map's copy in PD00 (R356). -/
def State.copyRegion (s : State) (r : Nat) : State :=
  let c := SMap.set (fun _ => (0 : Word)) s.integ.copy (Reg.PMAP.REG_LO r) (s.reg (Reg.PMAP.REG_LO r))
  { s with integ := { s.integ with copy := SMap.set (fun _ => (0 : Word)) c (Reg.PMAP.REG_HI r) (s.reg (Reg.PMAP.REG_HI r)) } }

/-- Set a region's registers; its STATE as given (R355). -/
def State.setRegion (s : State) (r : Nat) (en strong integ : Bool) (kid base size st : Nat) : State :=
  ((((((((s.flag (Reg.PMAP.REG_LO.EN r) en).flag (Reg.PMAP.REG_LO.CODE r) strong).flag (Reg.PMAP.REG_LO.INTEG r) integ).wr
    (Reg.PMAP.REG_LO.KID r) kid).wr (Reg.PMAP.REG_LO.BASE r) (base / 2 ^ 24)).wr (Reg.PMAP.REG_HI.SIZE r) (size / 2 ^ 24)).wr
    (Reg.PMAP.REG_LO.STATE r) st).copyRegion r).setIme

/-- Where a contract's DRAM demand lies (R64, R85). -/
def Contract.places (c : Contract) : List Nat :=
  if c.charges.any (fun x => x.res == 4) then
    (List.range 4).map (fun k => Config.dramPlace k c.pick) ++
    ((c.d.srcs ++ c.d.dsts).filter (fun e => e.kind == 3)).map (fun e => Config.dramPlace 4 e.index) ++
    (if c.d.typ = 5 then [Config.dramPlace 5 ((c.d.dsts.getD 0 {}).index)] else [])
  else []

/-- A contract that is not RELEASED has DRAM demand in a range (R369). -/
def State.demandIn (s : State) (lo hi : Nat) : Bool :=
  !(s.liveWhere (fun c => c.places.any (fun a => decide (lo ≤ a ∧ a < hi)))).isEmpty

/-- The body of PROTECT_MAP_SET (R354, R355, R369). -/
def cmdProtectMapSet (p : List Byte) (_floor : Nat) (s : State) : Ans :=
  let r := u8 p 0
  let en := bit (u8 p 1) 0
  let strong := bit (u8 p 1) 1
  let integ := bit (u8 p 1) 2
  let kid := u8 p 2
  let base := u64 p 8
  let size := u64 p 16
  let overlap := (List.range 64).any (fun q => q != r && s.inRegion q base size)
  let range := base % 2 ^ 24 != 0 || size % 2 ^ 24 != 0 || size == 0 || decide (s.dramSize < base + size) || overlap
  let combo := (integ && strong) || (kid != 0 && !integ) || (r == 62 && (!strong || kid != 0 || integ))
  let oldLo := s.rd (Reg.PMAP.REG_LO.BASE r) * 2 ^ 24
  let oldHi := oldLo + s.rd (Reg.PMAP.REG_HI.SIZE r) * 2 ^ 24
  let old := s.isSet (Reg.PMAP.REG_LO.EN r) && s.demandIn oldLo oldHi
  let keyedNow := s.keyedBytes
  let keyedOther := if s.isSet (Reg.PMAP.REG_LO.EN r) && s.rd (Reg.PMAP.REG_LO.KID r) != 0 then keyedNow - (oldHi - oldLo) else keyedNow
  let need := ceilDiv (ceilDiv (keyedOther + size) 7) (2 ^ 24)
  let small := en && kid != 0 && (!s.isSet (Reg.PMAP.REG_LO.EN 62) || decide (s.rd (Reg.PMAP.REG_HI.SIZE 62) < need))
  let locked := r == 62 && keyedNow != 0
  let noKey := en && kid != 0 && !(s.sec.keys.any (fun k => k.1 == kid))
  Ans.check s
    [(!s.hasIme && (integ || kid != 0), Sts.unitAbsent),
     (!s.domOn 4, Sts.domainOff),
     (decide (62 < r) || decide (7 < u8 p 1) || decide (15 < kid) || !zeroAt p 3 5 || !zeroFrom p 24 || (en && (range || combo)), Sts.badParam),
     (s.rd (Reg.PMAP.REG_LO.STATE r) == 1 || old || (en && s.demandIn base (base + size)) || small || locked || noKey, Sts.badState)]
    (Ans.ok (s.setRegion r en strong integ kid base size (if en then 1 else 0)))

/-- PROTECT_MAP_SET (R369). -/
def execProtectMapSet (h : Hdr) (p : List Byte) (s : State) : Res := .next (command 0x0801 h p (cmdProtectMapSet p) s)

/-- REGION_INIT_COMPLETE (R355): every line of the range holds zero data under the new settings; READY, MAP_DONE. -/
def execRegionInitComplete (r : Nat) (s : State) : Res :=
  if r < 64 ∧ s.rd (Reg.PMAP.REG_LO.STATE r) = 1 then
    let lo := s.rd (Reg.PMAP.REG_LO.BASE r) * 2 ^ 24
    let hi := lo + s.rd (Reg.PMAP.REG_HI.SIZE r) * 2 ^ 24
    let s1 := (((s.wr (Reg.PMAP.REG_LO.STATE r) 2).copyRegion r).evt Reg.INTEG.EVENT.MAP_DONE)
    .next { s1 with dram := { s1.dram with
      mem := SMap.keep (fun a => !decide (lo ≤ a ∧ a < hi)) s1.dram.mem,
      ctrs := SMap.keep (fun l => !decide (lo ≤ l * 64 ∧ l * 64 < hi)) s1.dram.ctrs } }
  else .next s

/-! ## Leaky buckets (R359, R360) -/

/-- A bucket's unit: whether it is present, and its domain (R359). 254 is management SRAM, 255 the counter cache. -/
def State.bucketUnit (s : State) (b : Nat) : Bool × Nat :=
  if b < 8 then (decide (b < s.nMcs), 4)
  else if b < 16 then (decide (b - 8 < s.nClusters), 5 + (b - 8))
  else if b < 24 then (decide (b - 16 < s.nClusters), 5 + (b - 16))
  else if b < 38 then (decide ((b - 24) * 4 < s.nTiles), 13 + (b - 24))
  else if b < 94 then (decide (b - 38 < s.nTiles), 13 + (b - 38) / 4)
  else if b = 254 then (true, 1) else if b = 255 then (s.hasIme, 2) else (false, 1)

/-- Is the memory a bucket counts powered? Cluster memory is in state MEM also (R227, R370). -/
def State.bucketPowered (s : State) (b : Nat) : Bool :=
  if 16 ≤ b ∧ b < 24 then s.regsOn (s.bucketUnit b).2 else s.domOn (s.bucketUnit b).2

/-- The body of ECC_STATUS (R370). -/
def cmdEccStatus (p : List Byte) (_floor : Nat) (s : State) : Ans :=
  let b := u8 p 0
  let known := decide (b < 94) || b == 254 || b == 255
  let corr := if b = 254 then s.rd Reg.INTEG.SRAM_CNT.MGMT else if b = 255 then s.rd Reg.INTEG.SRAM_CNT.CCACHE
    else s.rd (Reg.INTEG.BKT_CNT.CORR_CNT b)
  let lvl := if b < 94 then s.rd (Reg.INTEG.BKT_LVL.LEVEL b) else 0
  let thr := if b < 94 then s.rd (Reg.INTEG.BKT_CFG.THRESHOLD b) else 0
  Ans.check s
    [(known && !(s.bucketUnit b).1, Sts.unitAbsent), (known && !s.bucketPowered b, Sts.domainOff),
     (!known || !zeroFrom p 1, Sts.badParam)]
    (Ans.say s Sts.ok 0 (toLe 4 corr ++ toLe 2 lvl ++ toLe 2 thr ++ toLe 8 (SMap.get (fun _ => 0) s.integ.last b)))

/-- ECC_STATUS (R370). -/
def execEccStatus (h : Hdr) (p : List Byte) (s : State) : Res := .next (command 0x0802 h p (cmdEccStatus p) s)

/-- Set one bucket's parameters; `empty` empties it and leaves OVER, and a THRESHOLD at or below LEVEL sets OVER at once (R371). -/
def State.setBucket (s : State) (b : Nat) (empty : Bool) (thr leak : Nat) : State :=
  let s1 := if empty then s.wr (Reg.INTEG.BKT_LVL.LEVEL b) 0 else s
  let s2 := if thr = 0 then s1 else s1.wr (Reg.INTEG.BKT_CFG.THRESHOLD b) thr
  let s3 := if leak = 0 then s2 else s2.wr (Reg.INTEG.BKT_CFG.LEAK_MS b) leak
  if thr ≠ 0 ∧ thr ≤ s3.rd (Reg.INTEG.BKT_LVL.LEVEL b) then s3.evt (Reg.INTEG.BKT_LVL.OVER b) else s3

/-- The body of BUCKET_CONFIG (R371). -/
def cmdBucketConfig (p : List Byte) (_floor : Nat) (s : State) : Ans :=
  let b := u8 p 0
  let bs := if b = 255 then (List.range 94).filter (fun k => (s.bucketUnit k).1) else [b]
  Ans.check s
    [(decide (b < 94) && !(s.bucketUnit b).1, Sts.unitAbsent),
     ((decide (94 ≤ b) && b != 255) || decide (1 < u8 p 1) || !zeroFrom p 6, Sts.badParam)]
    (Ans.ok (bs.foldl (fun t k => t.setBucket k (bit (u8 p 1) 0) (u16 p 2) (u16 p 4)) s))

/-- BUCKET_CONFIG (R371). -/
def execBucketConfig (h : Hdr) (p : List Byte) (s : State) : Res := .next (command 0x0803 h p (cmdBucketConfig p) s)

/-- A corrected DRAM line is written back as MAINT unless a later write to it was accepted (R351). -/
def State.writeBack (s : State) (m line : Nat) : State :=
  if (s.mcd m).queue.any (fun x => x.write && x.line == line) then s else s.emit (.dram m 8 line 0)

/-- ECC_CORRECTION (R351, R358, R359): `n` errors corrected in one cycle at an address; a corrected DRAM line is written
back as MAINT unless a later write to it was accepted. -/
def execEccCorrection (b n addr : Nat) (s : State) : Res :=
  if (s.bucketUnit b).1 then
    let s1 := s.corrected b n addr
    .next (if b < 8 then s1.writeBack b (addr / 64) else s1)
  else .next s

/-- BUCKET_LEAK (R359). -/
def execBucketLeak (b : Nat) (s : State) : Res :=
  if b < 94 ∧ (s.bucketUnit b).1 then
    .next (s.wr (Reg.INTEG.BKT_LVL.LEVEL b) (s.rd (Reg.INTEG.BKT_LVL.LEVEL b) - 1))
  else .next s

/-! ## Uncorrectable errors (R361, R363) -/

/-- The error recorded of those detected in one cycle: lowest CAUSE, then lowest INSTANCE (R363). -/
def worst : List (Nat × Nat × Nat × Nat) → Option (Nat × Nat × Nat × Nat)
  | [] => none
  | e :: es =>
    match worst es with
    | none => some e
    | some f => if f.1 < e.1 ∨ (f.1 = e.1 ∧ f.2.1 < e.2.1) then some f else some e

/-- Record, go silent and reset for uncorrectable errors: (CAUSE, INSTANCE, ADDR, DETAIL) each (R361, R363, R364). -/
def State.uncorrectable (s : State) (errs : List (Nat × Nat × Nat × Nat)) : State :=
  match worst errs with
  | none => s
  | some (cause, inst, addr, detail) =>
    (((s.faultRecord cause inst addr detail (decide (1 < errs.length))).goSilent cause).countIfUnconfirmed 0x0D).warmReset

/-- An error as it is recorded: management SRAM and the counter cache are the device's, INSTANCE 0xFFFF (R362). -/
def errOf (e : Nat × Nat × Nat × Nat) : Nat × Nat × Nat × Nat := if e.1 = 6 ∨ e.1 = 7 then (e.1, 0xFFFF, e.2.2) else e

/-- UNCORRECTABLE_ERROR (R361): CAUSEs 0x01–0x07. -/
def execUncorrectableError (errs : List (Nat × Nat × Nat × Nat)) (s : State) : Res :=
  .next (s.uncorrectable ((errs.filter (fun e => decide (1 ≤ e.1 ∧ e.1 ≤ 7))).map errOf))

/-! ## Patrol (R357) -/

/-- The first line of a channel at or above an address that is a multiple of 64 (R323). -/
def State.alignChan (s : State) (m a : Nat) : Nat :=
  if a / 256 % s.nMcs = m then a else ((a / 256 + (m + s.nMcs - a / 256 % s.nMcs) % s.nMcs) * 256)

/-- The next line of a channel that patrol reads, from an address on, in the READY STRONG regions (R357). -/
def State.patrolNext (s : State) (m a : Nat) : Option Nat :=
  (List.range 64).foldl (fun best r =>
    if s.isSet (Reg.PMAP.REG_LO.EN r) ∧ s.isSet (Reg.PMAP.REG_LO.CODE r) ∧ s.rd (Reg.PMAP.REG_LO.STATE r) = 2 then
      let lo := s.rd (Reg.PMAP.REG_LO.BASE r) * 2 ^ 24
      let x := s.alignChan m (max a lo)
      if x < lo + s.rd (Reg.PMAP.REG_HI.SIZE r) * 2 ^ 24 ∧ best.all (fun b => decide (x < b)) then some x else best
    else best) none

/-- PATROL_LINE_READ (R357): the next line is read; a corrected one is counted and written back; the last ends the pass. -/
def execPatrolLineRead (m : Nat) (fix : Bool) (s : State) : Res :=
  if s.mcLive m ∧ s.mcState m = 2 then
    match s.patrolNext m (s.mcd m).patrol with
    | none => .next s
    | some a =>
      let s1 := if fix then (s.corrected m 1 a).writeBack m (a / 64) else s
      let s2 := s1.updMcd m (fun d => { d with patrol := a + 64 })
      .next (match s2.patrolNext m (a + 64) with
        | some _ => s2
        | none => ((s2.updMcd m (fun d => { d with patrol := 0 })).evt Reg.INTEG.EVENT.PATROL_DONE).bump Reg.INTEG.PATROL.PASS_CNT)
  else .next s

end Sys2Proof.Machine
end

