-- ==== Sys2Proof/Machine/Security.lean ====
section
/-! DEFINITION. Keys, encryption and authorisation (12_security.md): memory and link keys, the counter cache, the integrity
halt, MACsec and debug authorisation. -/

namespace Sys2Proof.Machine

/-! ## Keys (R384–R387, R394, R395) -/

/-- The first tick after the present one whose bits [31:0] equal `lo`; 0 names the next boundary (R394). -/
def State.tickLo (s : State) (lo : Nat) : Nat :=
  let t := (s.now + 1) / 2 ^ 32 * 2 ^ 32 + lo
  if lo = 0 then s.now + 1 else if s.now + 1 ≤ t then t else t + 2 ^ 32

/-- A key as KEY_LOAD and MACSEC_SA carry it in 40 bytes: wrapped under IMAGE_KEY (key number 1), or plaintext followed
by 8 zero bytes; none where the unwrap check fails or the bytes are not zero (R394, R398). -/
def keyOf (wrapped : Bool) (b : List Byte) : Option Nat :=
  if wrapped then Config.keyUnwrap 1 b else if zeroFrom b 32 then some (leAt b 0 32) else none

/-- Load a memory key into a key ID (R384). -/
def State.loadKey (s : State) (kid key : Nat) : State :=
  let s1 : State := { s with sec := { s.sec with keys := s.sec.keys ++ [(kid, key)] } }
  s1.wr Reg.SEC.STATUS.KID_LOADED (setBit (s1.rd Reg.SEC.STATUS.KID_LOADED) kid)

/-- A key ID's key is zeroed. -/
def State.dropKey (s : State) (kid : Nat) : State :=
  let s1 : State := { s with sec := { s.sec with keys := s.sec.keys.filter (fun k => k.1 != kid) } }
  s1.wr Reg.SEC.STATUS.KID_LOADED (clrBit (s1.rd Reg.SEC.STATUS.KID_LOADED) kid)

/-- The phase a link key goes into: the one not in use, phase 0 where no key is loaded (R390). -/
def LinkDyn.freePhase (d : LinkDyn) : Nat := if d.key0 = 0 ∧ d.key1 = 0 then 0 else 1 - d.phase

/-- Is a link's free phase filled already? -/
def LinkDyn.filled (d : LinkDyn) : Bool := if d.freePhase = 0 then d.key0 != 0 else d.key1 != 0

/-- Fill a link's phase with a key (kept as key + 1; 0 is none). -/
def LinkDyn.fill (d : LinkDyn) (ph key : Nat) : LinkDyn :=
  if ph = 0 then { d with key0 := key + 1 } else { d with key1 := key + 1 }

/-- The body of KEY_LOAD (R394). -/
def cmdKeyLoad (p : List Byte) (_floor : Nat) (s : State) : Ans :=
  let kind := u8 p 0
  let idx := u8 p 1
  let wrapped := bit (u8 p 2) 0
  let gen := bit (u8 p 2) 1
  let key := keyOf wrapped ((fitTo 48 p).drop 8)
  let d := s.link idx
  let eff := s.tickLo (u32 p 4)
  let badIdx := if kind = 1 then idx == 0 || decide (15 < idx) else decide (5 < idx)
  Ans.check s
    [(kind == 1 && !s.hasIme, Sts.unitAbsent), (!s.domOn 2, Sts.domainOff),
     ((kind != 1 && kind != 2) || badIdx || decide (3 < u8 p 2) || (wrapped && gen) || (gen && kind == 2) || u8 p 3 != 0 ||
       (gen && !zeroFrom p 8) || (!gen && key.isNone) || !zeroFrom p 48, Sts.badParam),
     ((kind == 1 && s.sec.keys.any (fun k => k.1 == idx)) || (!wrapped && !gen && s.ident.noPlain) ||
       (kind == 2 && (d.filled || d.switch.isSome)), Sts.badState)]
    (if kind = 1 then
      if gen then Ans.ok ((s.loadKey idx s.free).drew) else Ans.ok (s.loadKey idx (key.getD 0))
    else Ans.say (s.updLink idx (fun d => { (d.fill d.freePhase (key.getD 0)) with switch := some (eff, d.freePhase) })) Sts.ok eff [])

/-- KEY_LOAD (R394). -/
def execKeyLoad (h : Hdr) (p : List Byte) (s : State) : Res := .next (command 0x0901 h p (cmdKeyLoad p) s)

/-- The body of KEY_RETIRE (R385, R395). No region names the key ID when it is retired, so the caches hold none of its
lines. -/
def cmdKeyRetire (p : List Byte) (_floor : Nat) (s : State) : Ans :=
  let k := u8 p 0
  let named := (List.range 64).any (fun r => s.isSet (Reg.PMAP.REG_LO.EN r) && s.rd (Reg.PMAP.REG_LO.KID r) == k)
  Ans.check s
    [(!s.hasIme, Sts.unitAbsent), (!s.domOn 2, Sts.domainOff), (k == 0 || decide (15 < k) || !zeroFrom p 1, Sts.badParam),
     (!(s.sec.keys.any (fun x => x.1 == k)) || named, Sts.badState)]
    (Ans.ok (s.dropKey k))

/-- KEY_RETIRE (R395). -/
def execKeyRetire (h : Hdr) (p : List Byte) (s : State) : Res := .next (command 0x0902 h p (cmdKeyRetire p) s)

/-- LINK_KEY_SWITCH (R390): at its tick the sender uses the new phase, whose frame counter starts at 0. -/
def execLinkKeySwitch (k : Nat) (s : State) : Res :=
  match (s.link k).switch with
  | some (t, ph) => if t ≤ s.now then .next (s.updLink k (fun d => { d with phase := ph, txCnt := 0, switch := none })) else .next s
  | none => .next s

/-! ## Counter cache and integrity halt (R381, R383) -/

/-- COUNTER_CACHE_MISS (R381): the counter line of a data line and its ancestors up to the first resident one are fetched
and verified; a tag that fails halts the device. -/
def execCounterCacheMiss (line : Nat) (ok : Bool) (s : State) : Res :=
  if s.hasIme ∧ s.keyed (line * 64) ∧ ¬ s.resident 0 (line / 8) then
    .next (if ok then s.touchCounter line false else s.integrityHalt (s.chanOf (line * 64)) 2 (line * 64))
  else .next s

/-- COUNTER_CACHE_EVICT (R381): a line with no resident child leaves the cache; a changed one is written to region 62 after
its parent's tag, in the cache or in a root register, is current. -/
def execCounterCacheEvict (level idx : Nat) (s : State) : Res :=
  let child := 0 < level ∧ s.dram.cache.any (fun x => x.1.1 + 1 == level && x.1.2 / 8 == idx)
  match s.dram.cache.find? (fun x => x.1 == (level, idx)) with
  | some (_, dirty) =>
    if child then .next s
    else
      let rest := s.dram.cache.filter (fun x => x.1 != (level, idx))
      let up := if dirty then updWhere (fun x => x.1 == (level + 1, idx / 8)) (fun x => (x.1, true)) rest else rest
      let s1 : State := { s with dram := { s.dram with cache := up } }
      .next (if dirty then s1.emit (.dram 0 11 level idx) else s1)
  | none => .next s

/-- INTEGRITY_HALT (R383): a MAC (1) or tree tag (2) failed, or a counter is exhausted (3), on a channel. -/
def execIntegrityHalt (ch detail addr : Nat) (s : State) : Res :=
  if s.hasIme ∧ 1 ≤ detail ∧ detail ≤ 3 ∧ s.pwr.hold = .none then .next (s.integrityHalt ch detail addr) else .next s

/-! ## MACsec (R388, R389, R398) -/

/-- The PN at which PN_NEAR is raised, and the last PN (R389). -/
def Sa.near (a : Sa) : Nat := if a.xpn then 2 ^ 62 else 0xC0000000
def Sa.last (a : Sa) : Nat := if a.xpn then 2 ^ 64 - 1 else 2 ^ 32 - 1

/-- Do two SAs lie in the same secure channel of a port? -/
def Sa.sameChan (a b : Sa) : Bool := a.port == b.port && a.tx == b.tx && a.sc == b.sc

def State.setSas (s : State) (l : List Sa) : State := { s with sec := { s.sec with sas := l } }

/-- The SA a descriptor spells (R398). -/
def parseSa (d : List Byte) (key tick : Nat) : Sa :=
  { port := u16 d 0, tx := u8 d 2 == 1, an := u8 d 3, sc := u8 d 4, xpn := u8 d 5 == 1, replay := bit (u8 d 6) 2,
    sci := u64 d 8, ssci := u32 d 16, salt := leAt d 20 12, pn := u64 d 32, low := u64 d 32, key := key, tick := tick,
    window := u32 d 88 }

/-- The body of MACSEC_SA (R398). An SA with the association number of an installed one takes its place. -/
def cmdMacsecSa (h : Hdr) (p : List Byte) (floor : Nat) (s : State) : Ans :=
  match s.readBuf h (u64 p 0) 96 with
  | none => if !s.domOn 2 || !s.domOn 3 then Ans.err s Sts.domainOff else s.dataErr h
  | some d =>
    let del := bit (u8 d 6) 0
    let key := keyOf (bit (u8 d 6) 1) ((d.drop 40).take 40)
    let eff := effTick (u64 d 80) (max (s.now + 1) floor)
    let a := parseSa d (key.getD 0) eff.1
    let others := s.sec.sas.filter (fun x => !(x.sameChan a && x.an == a.an))
    let tx := u8 d 2 == 1
    Ans.check s
      [(decide (u16 d 0 < 100) && !s.portPresent (u16 d 0), Sts.unitAbsent), (!s.domOn 2 || !s.domOn 3, Sts.domainOff),
       (u32 p 8 != 96 || !zeroFrom p 12 || decide (100 ≤ u16 d 0) || decide (1 < u8 d 2) || decide (3 < u8 d 3) || decide (3 < u8 d 4) ||
         (tx && u8 d 4 != 0) || decide (1 < u8 d 5) || decide (7 < u8 d 6) || u8 d 7 != 0 || !zeroAt d 92 4 ||
         (!del && key.isNone) || h.spiBad (u64 p 0) 96, Sts.badParam),
       (!s.ethPort (u16 d 0) || (del && s.sec.sas.any (fun x => x.sameChan a && x.an == a.an && x.tx && x.used)), Sts.badState),
       (!del && decide (2 ≤ others.countP (fun x => x.sameChan a)), Sts.noCapacity)]
      (if del then Ans.ok (s.setSas others)
       else if tx then Ans.say (s.setSas (others ++ [a])) eff.2 eff.1 [] else Ans.ok (s.setSas (others ++ [a])))

/-- MACSEC_SA (R398). -/
def execMacsecSa (h : Hdr) (p : List Byte) (s : State) : Res := .next (command 0x0905 h p (cmdMacsecSa h p) s)

/-- A received frame is discarded and counted (R388). -/
def State.macsecFail (s : State) : State := (s.bump Reg.SEC.CNT.MACSEC_FAIL_CNT).evt Reg.SEC.EVENT.MACSEC_AUTH

/-- MACSEC_FRAME_RECEIVE (R388): a frame without a valid SecTAG is discarded where the port requires MACsec; a tagged one
needs an installed receive SA, a valid ICV, and a PN its replay window accepts. -/
def execMacsecFrameReceive (f : MsFrame) (s : State) : Res :=
  if ¬ s.ethPort f.port then .next s
  else if ¬ f.tagged then .next (if (s.port f.port).macsec then s.macsecFail else s)
  else
    match s.sec.sas.find? (fun a => a.port == f.port && !a.tx && a.sci == f.sci && a.an == f.an) with
    | none => .next s.macsecFail
    | some a =>
      if ¬ f.icvOk ∨ f.pn < a.low ∨ (a.replay ∧ f.pn + a.window < a.pn) then .next s.macsecFail
      else .next (s.setSas (updWhere (fun x => x.port == f.port && !x.tx && x.sci == f.sci && x.an == f.an)
        (fun x => { x with pn := max x.pn (f.pn + 1) }) s.sec.sas))

/-- PN events of the transmit SA in use: reached its threshold, exhausted (R389). -/
def State.pnEvents (s : State) (port : Nat) : State :=
  match s.sec.sas.find? (fun a => a.port == port && a.tx && a.used) with
  | none => s
  | some a =>
    let s1 := if a.near ≤ a.pn then s.evt Reg.SEC.EVENT.PN_NEAR else s
    if a.last < a.pn then
      (s1.setSas (updWhere (fun x => x.port == port && x.tx && x.used) (fun x => { x with dead := true }) s1.sec.sas)).evt
        Reg.SEC.EVENT.PN_EXHAUSTED
    else s1

/-- MACSEC_FRAME_SEND (R389): a frame leaves under the transmit SA in use with the next PN. -/
def execMacsecFrameSend (port : Nat) (s : State) : Res :=
  match s.sec.sas.find? (fun a => a.port == port && a.tx && a.used) with
  | some a =>
    if a.dead ∨ a.last < a.pn then .next s
    else
      let s1 := s.setSas (updWhere (fun x => x.port == port && x.tx && x.used) (fun x => { x with pn := x.pn + 1 }) s.sec.sas)
      .next (if a.pn + 1 = a.near ∨ a.pn = a.last then s1.pnEvents port else s1)
  | none => .next s

/-- Transmit SAs whose tick has come and which have not been in use yet (R389). -/
def State.saDue (s : State) : List Sa := s.sec.sas.filter (fun a => a.tx && !a.used && !a.dead && decide (a.tick ≤ s.now))

/-- A transmit SA becomes the one in use on its port; the one it replaces sends no further frame (R389). -/
def State.saTake (s : State) (a : Sa) : State :=
  (s.setSas (s.sec.sas.map (fun x =>
    if x.tx && x.port == a.port then { x with used := x.an == a.an, dead := x.dead || (x.used && x.an != a.an) } else x))).pnEvents a.port

/-- MACSEC_SA_SWITCH (R389): each transmit SA whose tick has come is the one in use on its port. -/
def execMacsecSaSwitch (s : State) : Res := .next (s.saDue.foldl State.saTake s)

/-! ## Debug authorisation (R391, R392, R396, R397) -/

/-- The debug level granted, device-wide; SEC.STATUS.DBG_LEVEL shows it (R392). -/
def State.dbgLevel (s : State) : Nat := s.rd Reg.DBG.STATUS.LEVEL

/-- Put the debug level, raising LEVEL_CHANGE where it changes (R392, R393). -/
def State.setLevel (s : State) (l : Nat) : State :=
  if s.dbgLevel = l then s else (s.wr Reg.DBG.STATUS.LEVEL l).evt Reg.SEC.EVENT.LEVEL_CHANGE

/-- A fresh challenge for a level: nonce, serial, level, 7 zero bytes; it replaces any earlier one (R391, R396). -/
def State.challenge (s : State) (level : Nat) : State :=
  let b := toLe 32 s.free ++ toLe 8 s.ident.serial ++ [BitVec.ofNat 8 level] ++ List.replicate 7 0
  let s1 := s.drew
  { s1 with sec := { s1.sec with chal := some ⟨b, level, s.now⟩ } }

/-- The challenge stands and is at most 60 s old (R391). -/
def State.chalLive (s : State) : Bool :=
  s.sec.chal.any (fun c => decide ((s.now - c.tick) * rateD s.rate ≤ 60 * rateN s.rate))

/-- A response of 192 bytes (R391, R392): grants the level, or counts one more failure and locks out. -/
def State.respond (s : State) (resp : List Byte) : State × Bool :=
  match s.sec.chal with
  | none => (s, false)
  | some c =>
    let s1 : State := { s with sec := { s.sec with chal := none } }
    let key := resp.take 96
    if Config.sha384 key = s.ident.debugKey ∧ Config.ecdsaVerify key (Config.sha384 c.block) (resp.drop 96) = true then
      ((s1.wr Reg.SEC.DBG_LOCK.FAIL_RUN 0).setLevel c.level, true)
    else
      let f := min 255 (s1.rd Reg.SEC.DBG_LOCK.FAIL_RUN + 1)
      (((s1.wr Reg.SEC.DBG_LOCK.FAIL_RUN f).wr Reg.SEC.DBG_LOCK.LOCK_S (min 1024 (2 ^ (f - 1)))).evt Reg.SEC.EVENT.AUTH_FAIL, false)

/-- Level 0 is always allowed, up to DEBUG_CAP otherwise (R391). -/
def State.levelBad (s : State) (l : Nat) : Bool := decide (s.ident.debugCap < l) || decide (2 < l)

/-- The body of DEBUG_AUTH_CHALLENGE (R396). -/
def cmdDebugAuthChallenge (h : Hdr) (p : List Byte) (_floor : Nat) (s : State) : Ans :=
  let l := u8 p 0
  let lock := s.rd Reg.SEC.DBG_LOCK.LOCK_S
  let res := fun (t : State) => [BitVec.ofNat 8 t.dbgLevel, BitVec.ofNat 8 t.ident.debugCap, 0, 0] ++ toLe 4 lock
  Ans.check s
    [(lock != 0, Sts.busy),
     (s.levelBad l || !zeroAt p 1 7 || !zeroFrom p 20 || (l != 0 && (decide (u32 p 16 < 48) || h.spiBad (u64 p 8) (u32 p 16))), Sts.badParam),
     (l != 0 && s.ident.debugKey == 0, Sts.badState)]
    (if l = 0 then
      let s1 := s.setLevel 0
      let s2 : State := { s1 with sec := { s1.sec with chal := none } }
      Ans.say s2 Sts.ok 0 (res s2)
    else
      let s1 := s.challenge l
      Ans.say (s1.writeBuf h (u64 p 8) ((s1.sec.chal.map (·.block)).getD [])) Sts.ok 0 (res s1))

/-- DEBUG_AUTH_CHALLENGE (R396). -/
def execDebugAuthChallenge (h : Hdr) (p : List Byte) (s : State) : Res := .next (command 0x0903 h p (cmdDebugAuthChallenge h p) s)

/-- The body of DEBUG_AUTH_RESPONSE (R397). -/
def cmdDebugAuthResponse (h : Hdr) (p : List Byte) (_floor : Nat) (s : State) : Ans :=
  match s.readBuf h (u64 p 0) 192 with
  | none => s.dataErr h
  | some b =>
    Ans.check s
      [(u32 p 8 != 192 || !zeroFrom p 12 || h.spiBad (u64 p 0) 192, Sts.badParam), (!s.chalLive, Sts.badState)]
      (let r := s.respond b
       if r.2 then Ans.say r.1 Sts.ok 0 [BitVec.ofNat 8 r.1.dbgLevel] else Ans.err r.1 Sts.authFailed)

/-- DEBUG_AUTH_RESPONSE (R397). -/
def execDebugAuthResponse (h : Hdr) (p : List Byte) (s : State) : Res := .next (command 0x0904 h p (cmdDebugAuthResponse h p) s)

/-- DEBUG_LOCKOUT_EXPIRY (R392). -/
def execDebugLockoutExpiry (s : State) : Res := .next (s.wr Reg.SEC.DBG_LOCK.LOCK_S 0)

end Sys2Proof.Machine
end

