-- ==== Sys2Proof/Machine/Image.lean ====
section
/-! DEFINITION. Configuration images (R293–R298, R374–R377): the container's fields and the six checks. A reader `rd off n`
gives `n` bytes of the image from offset `off`, wherever the copy lies. -/

namespace Sys2Proof.Machine

/-! ## CRC-32C (R296, R298): the Castagnoli polynomial, reflected, initial value and final XOR 0xFFFF_FFFF. -/

def crcBit (c : BitVec 32) : BitVec 32 := if c.getLsbD 0 then (c >>> 1) ^^^ 0x82F63B78 else c >>> 1
def crcByte (c : BitVec 32) (b : Byte) : BitVec 32 :=
  let x := c ^^^ b.setWidth 32
  crcBit (crcBit (crcBit (crcBit (crcBit (crcBit (crcBit (crcBit x)))))))

/-- CRC-32C over bytes (R296). -/
def crc32c (l : List Byte) : Nat := ((l.foldl crcByte 0xFFFFFFFF) ^^^ 0xFFFFFFFF).toNat

/-! ## Container (R293, R294) -/

abbrev Reader := Nat → Nat → List Byte

/-- A section-table entry (R294). -/
structure Sect where
  typ    : Nat
  enc    : Bool
  keysel : Nat
  arg    : Nat
  off    : Nat
  len    : Nat
  iv     : Nat
  tag    : Nat
  aad    : List Byte
  digest : Nat
  deriving DecidableEq, Repr

def parseSect (e : List Byte) : Sect :=
  ⟨u8 e 0, bit (u8 e 1) 0, u8 e 2, u32 e 4, u64 e 8, u64 e 16, leAt e 24 12, leAt e 36 16, e.take 8, leAt e 64 48⟩

def imgSects (rd : Reader) : Nat := u16 (rd 20 2) 0
def imgLen (rd : Reader) : Nat := u64 (rd 12 8) 0
def imgInstar (rd : Reader) : Nat := u32 (rd 8 4) 0
def imgSlot (rd : Reader) : Nat := u8 (rd 22 1) 0
def imgFlags (rd : Reader) : Nat := u8 (rd 23 1) 0

/-- The section table (R294). -/
def imgTable (rd : Reader) : List Sect := (List.range (min 256 (imgSects rd))).map (fun i => parseSect (rd (128 + 128 * i) 128))

/-- Bytes from 0 to the end of the table, which the signature covers. -/
def imgSigned (rd : Reader) : List Byte := rd 0 (128 + 128 * imgSects rd)

/-- SHA-384 over header and table (R294, R434). -/
def imgDigest (rd : Reader) : Nat := Config.sha384 (imgSigned rd)

/-- Two sections of one TYPE and ARG (R295). -/
def dupSect : List Sect → Bool
  | [] => false
  | x :: xs => xs.any (fun y => y.typ == x.typ && y.arg == x.arg) || dupSect xs

/-- Check 1 (R297, R374): MAGIC, FORMAT, and table, signature and key within IMAGE_LEN and the copy's length; no section
twice (R295). -/
def imgShape (rd : Reader) (avail : Nat) : Bool :=
  u32 (rd 0 4) 0 == 0x4D49575A && u16 (rd 4 2) 0 == 1 && decide (1 ≤ imgSects rd ∧ imgSects rd ≤ 256) &&
  decide (128 + 128 * imgSects rd + 192 ≤ imgLen rd) && decide (imgLen rd ≤ avail) && !dupSect (imgTable rd)

/-- Checks 1–4 of R297: the failing code. -/
def State.imgCheck (s : State) (rd : Reader) (avail : Nat) : Option Nat :=
  let e := 128 + 128 * imgSects rd
  let key := rd (e + 96) 96
  let k := imgSlot rd
  if !imgShape rd avail then some 0x01
  else if 3 < k ∨ bit s.ident.revoked k ∨ Config.sha384 key ≠ s.ident.keyHash.getD k 0 ∨
      Config.ecdsaVerify key (imgDigest rd) (rd e 96) = false then some 0x02
  else if !bit (u8 (rd 6 1) 0) (s.ident.variant - 1) then some 0x0B
  else if u8 (rd 7 1) 0 ≠ s.ident.profile then some 0x0C
  else none

/-! ## Section keys and contents (R375, R376) -/

/-- The KEYS_WRAPPED entries: usage, index and unwrapped key; none where an unwrap check fails, the section is encrypted, or it is too
short for its entries (R376). -/
def imgKeys (rd : Reader) : Option (List (Nat × Nat × Nat)) :=
  match (imgTable rd).find? (fun x => x.typ == 5) with
  | none => some []
  | some x =>
    if x.enc ∨ x.len < 48 * x.arg then none
    else (List.range x.arg).foldr (fun i acc =>
      match acc, Config.keyUnwrap 1 (rd (x.off + 48 * i) 40) with
      | some l, some k => some ((u8 (rd (x.off + 48 * i + 40) 1) 0, u8 (rd (x.off + 48 * i + 41) 1) 0, k) :: l)
      | _, _ => none) (some [])

/-- The key number of a section: 1 is IMAGE_KEY, an unwrapped key counts from 2; none where KEYSEL names no loaded key
(R375). -/
def sectKey (rd : Reader) (x : Sect) : Option Nat :=
  if x.keysel = 1 then some 1
  else if x.keysel < 0x10 then none
  else match (imgKeys rd).bind (fun l => l[x.keysel - 0x10]?) with
    | some (0, _, k) => some (k + 2)
    | _ => none

/-- A section's plaintext. -/
def sectBytes (rd : Reader) (x : Sect) : List Byte :=
  if x.enc then Config.gcmDecrypt ((sectKey rd x).getD 0) x.iv (rd x.off x.len) else rd x.off x.len

/-- Check 5 for a section: DIGEST, KEYSEL and GCM tag (R297, R375). -/
def sectGood (rd : Reader) (x : Sect) : Bool :=
  Config.sha384 (rd x.off x.len) == x.digest &&
  (if x.enc then match sectKey rd x with
      | some k => Config.gcmVerify k x.iv (x.aad ++ rd x.off x.len) x.tag
      | none => false
    else x.keysel == 0)

/-- Check 6 for a tile section: every frame record's CRC-32C (R296, R297). -/
def framesGood (b : List Byte) : Bool :=
  b.length == 4325376 && (List.range 32768).all (fun f => crc32c ((b.drop (132 * f)).take 128) == u32 b (132 * f + 128))

/-- A tile section's 32,768 frames without their CRCs: 4 MiB (R296, R299). -/
def frameData (b : List Byte) : List Byte := (List.range 32768).flatMap (fun f => (b.drop (132 * f)).take 128)

/-- Checks 5 and 6 over the sections of a list (R297), those of no type of R295 left aside: the failing code. -/
def sectsCheck (rd : Reader) (l0 : List Sect) : Option Nat :=
  let l := l0.filter (fun x => decide (1 ≤ x.typ ∧ x.typ ≤ 7))
  if l.any (fun x => !sectGood rd x) ∨ (imgKeys rd).isNone then some 0x03
  else if l.any (fun x => x.typ == 1 && decide (x.arg < 56) && !framesGood (sectBytes rd x)) then some 0x0A
  else none

/-! ## Copies of an image -/

/-- An image copy in device DRAM. -/
def State.dramImage (s : State) (a : Nat) : Reader := fun off n => s.dramRead (a + off) n

/-- Where slot A, B or factory begins in the boot flash (R298). -/
def State.slotBase (s : State) (k : Nat) : Nat := 65536 + k * s.rd Reg.BOOT.FLASH.SLOT_SIZE * 65536

/-- An image in a flash slot. -/
def State.flashImage (s : State) (k : Nat) : Reader := fun off n => s.boot.flash.readN (s.slotBase k + off) n

/-- A flash descriptor at an offset, where its MAGIC, FORMAT and CRC check: PREFERRED and SLOT_SIZE (R298, R490). -/
def State.flashDesc (s : State) (a : Nat) : Option (Nat × Nat) :=
  let d := s.boot.flash.readN a 20
  if u32 d 0 = 0x4446575A ∧ u16 d 4 = 1 ∧ u32 d 16 = crc32c (d.take 16) then some (u8 d 6 % 2, u32 d 8) else none

/-! ## Configuration store (R299): ACTIVE copies from its base, STAGED copies above them, blobs from 448 MiB. -/

/-- The SCRUB_MASK sections of an image by tile (R295). -/
def imgMasks (rd : Reader) : SMap (List Byte) :=
  ((imgTable rd).filter (fun x => x.typ == 7 && decide (x.arg < 56))).foldl (fun m x => SMap.set (fun _ => []) m x.arg (sectBytes rd x)) []

def State.activeAt (s : State) (t : Nat) : Nat := s.storeBase + t * 2 ^ 22
def State.stagedAt (s : State) (t : Nat) : Nat := s.storeBase + (56 + t) * 2 ^ 22

end Sys2Proof.Machine
end

