-- ==== Sys2Proof/Machine/Fabric.lean ====
section
/-! DEFINITION. Fabric PLLs and fabric ports (08_fabric.md), and the cluster DMA (17_interrupts_mailboxes.md, R519). -/

namespace Sys2Proof.Machine

/-! ## PLLs (R277–R279) -/

/-- Fabric PLLs and video PLLs per device: half of them lie on die 1 (R277, R278). -/
def State.nFplls (s : State) : Nat := if s.ident.variant = 3 then 8 else 16
def State.nVplls (s : State) : Nat := if s.ident.variant = 3 then 2 else 4

/-- FPLL_UNLOCK (R277): the outputs run on at the last frequency. -/
def execFpllUnlock (k : Nat) (s : State) : Res :=
  .next (if k < s.nFplls ∧ s.domOn 3 ∧ s.isSet (Reg.FAB.FPLL_STATUS.EN k) then
    ((s.wr (Reg.FAB.FPLL_STATUS.LOCKED k) 0).wr (Reg.FAB.FPLL_STATUS.HOLDOVER k) 1).evt Reg.FAB.EVENT.FPLL_UNLOCK
  else s)

/-- FPLL_RELOCK (R277): lock after enable, or again when the input returns. -/
def execFpllRelock (k : Nat) (s : State) : Res :=
  .next (if k < s.nFplls ∧ s.domOn 3 ∧ s.isSet (Reg.FAB.FPLL_STATUS.EN k) then
    (s.wr (Reg.FAB.FPLL_STATUS.LOCKED k) 1).wr (Reg.FAB.FPLL_STATUS.HOLDOVER k) 0
  else s)

/-- VPLL_UNLOCK (R279). -/
def execVpllUnlock (k : Nat) (s : State) : Res :=
  .next (if k < s.nVplls ∧ s.domOn 3 ∧ s.rd (Reg.FAB.VPLL_STATUS.K k) ≠ 0 then
    (s.wr (Reg.FAB.VPLL_STATUS.ALIGNED k) 0).evt Reg.FAB.EVENT.VPLL_UNLOCK
  else s)

/-! ## Memory channel (R286, R287, R511) -/

/-- A discarded request: a read returns all-zero data with an error flag (R286). -/
def State.fportDiscard (s : State) (r : FportReq) : State :=
  if r.write then s else s.emit (.dram r.n 9 (8 + r.n / 8) r.id)

/-- Where a speculating egress's write goes: the provisional buffer, for an address in either of its buffers (R173, R287). -/
def State.provAddr (s : State) (k a n : Nat) : Option Nat :=
  let base := fun b => Config.dramPlace 8 (2 * k + b)
  let size := Config.bufBytes k
  let into := fun b => decide (base b ≤ a ∧ a + n ≤ base b + size)
  if into 0 then some (base (s.egress k).buffer + (a - base 0))
  else if into 1 then some (base (s.egress k).buffer + (a - base 1))
  else none

/-- A request to locks and remote mailboxes: its first 4 bytes, with the rights of the host (R511, R520). -/
def State.fportReg (s : State) (r : FportReq) : State :=
  let o := 0x30000 + r.addr % 2 ^ 16
  let m := 288 + r.n
  if o % 4 ≠ 0 then s
  else if lockOff o then
    if r.write then s.access m o (s.lockWrite m o (u32 r.data 0))
    else s.accessR m o (let x := s.lockRead m o; x.1.emit (.readData m o x.2))
  else match halfAt o with
    | some h =>
      if h.kind = .send ∨ h.kind = .recv then
        if r.write then s.access m o (s.halfWrite h m (o - h.base) (u32 r.data 0)) else s.accessR m o (s.emit (.readData m o (s.reg o)))
      else s
    | none => s

/-- The DRAM request of a fabric request, through DP(8 + n div 8) (R283). -/
def fportDram (r : FportReq) (a : Nat) : DramReq where
  port := 8 + r.n / 8
  id := r.id
  addr := a
  len := r.len
  write := r.write
  data := fitTo r.len r.data
  ctx := r.ctx
  keep := r.keep
  ns := r.ns
  src := r.n + 1

/-- FPORT_MEMORY_REQUEST (R284, R286–R288). -/
def execFportMemoryRequest (r : FportReq) (s : State) : Res :=
  let k := egKey (r.ctx % 4096) (r.ctx / 4096 % 16)
  let spec := r.ctx != 0xFFFF && (s.egress k).spec.isSome
  if s.nFports ≤ r.n ∨ ¬ s.domOn 3 ∨ r.len % 64 ≠ 0 ∨ r.len < 64 ∨ 4096 < r.len then .next s
  else if r.ctx ≠ 0xFFFF ∧ ¬ s.onFport r.ctx r.n then
    .next (((s.bump (Reg.FAB.FPORT_CNT.BAD_CTX_CNT r.n)).evt Reg.FAB.EVENT.BAD_CTX).fportDiscard r)
  else if 0xFFFFFFFFFFFF ≤ r.addr / 2 ^ 16 then
    if spec ∧ r.write then
      .next (((s.bump (Reg.FAB.FPORT_CNT.SPEC_FAULT_CNT r.n)).evt Reg.FAB.EVENT.SPEC_FAULT).specFault k)
    else .next (s.fportReg r)
  else
    let go := fun (a : Nat) => s.dramArrive (fportDram r a)
    if spec ∧ r.write then
      match s.provAddr k r.addr r.len with
      | some a => .next (go a)
      | none => .next (((s.bump (Reg.FAB.FPORT_CNT.SPEC_FAULT_CNT r.n)).evt Reg.FAB.EVENT.SPEC_FAULT).specFault k)
    else .next (go r.addr)

/-! ## Register channel (R288) -/

/-- Base of a port's window of fabric user space. -/
def fportWin (n : Nat) : Nat := 0x2000000 + 0x80000 * n

/-- FPORT_REGISTER_READ (R2, R5, R288): a host read at window offset `a`; `answer` is what the port's logic gives in time. -/
def execFportRegisterRead (n a : Nat) (answer : Option Word) (s : State) : Res :=
  if 64 ≤ n ∨ 0x80000 ≤ a then .next s
  else if s.nFports ≤ n then .next (s.emit (.readData 5 (fportWin n + a) 0))
  else if ¬ s.domOn 3 then .next (s.emit (.hostAbort (fportWin n + a)))
  else
    let s1 := s.emit (.fabric 8 n a)
    match answer with
    | some v => .next (s1.emit (.readData 5 (fportWin n + a) v))
    | none => .next { s1 with strm := { s1.strm with fabReads := s1.strm.fabReads ++ [(n, a)] } }

/-- FPORT_REGISTER_TIMEOUT (R288). -/
def execFportRegisterTimeout (n a : Nat) (s : State) : Res :=
  if s.strm.fabReads.contains (n, a) ∧ s.domOn 3 then
    let s1 : State := { s with strm := { s.strm with fabReads := s.strm.fabReads.erase (n, a) } }
    .next (((s1.emit (.hostAbort (fportWin n + a))).bump (Reg.FAB.FPORT_REG.REG_TIMEOUT_CNT n)).evt Reg.FAB.EVENT.REG_TIMEOUT)
  else .next s

/-! ## Cluster DMA (R519) -/

/-- Where engine `e`'s queue would write in speculation: into the provisional buffer of its egress (R179, R210); none elsewhere. -/
def State.dmaProv (s : State) (e : Nat) : Option Nat :=
  let a := s.rd (Reg.DMA.DST_HI.ADDR e) * 2 ^ 32 + s.rd (Reg.DMA.DST_LO.ADDR e)
  if a < 2 ^ 60 then s.provAddr (s.engine e).egress (a % 2 ^ 48) (s.rd (Reg.DMA.LEN.LEN e)) else none

/-- GO queues the descriptor as written, `v` being the word of the CTX register; with no place free it sets ERR. What an engine queues in
SPEC state goes to the provisional buffer (R179). -/
def State.dmaGo (s : State) (e v : Nat) (spec : Bool) : State :=
  let s1 := s.wr (Reg.DMA.CTX.CTX e) v
  if s.rd (Reg.DMA.STAT.FREE e) = 0 then s1.wr (Reg.DMA.STAT.ERR e) 1
  else
    let dst := s.rd (Reg.DMA.DST_HI.ADDR e) * 2 ^ 32 + s.rd (Reg.DMA.DST_LO.ADDR e)
    let d : DmaDesc := ⟨s.rd (Reg.DMA.SRC_HI.ADDR e) * 2 ^ 32 + s.rd (Reg.DMA.SRC_LO.ADDR e),
      if spec then (s.dmaProv e).getD dst else dst, s.rd (Reg.DMA.LEN.LEN e), v % 2 ^ 16, spec⟩
    (s1.setDmaQueue e (s.dmaQueue e ++ [d])).wr (Reg.DMA.STAT.FREE e) (s.rd (Reg.DMA.STAT.FREE e) - 1)

/-- May a master write engine `e`'s DMA queue (R519)? -/
def dmaMaster (m e : Nat) : Bool := isCormo m || m == 16 + e

/-- DMA_GO (R519): a write of the CTX word with GO set. -/
def execDmaGo (m e v : Nat) (s : State) : Res :=
  if 256 ≤ e ∨ ¬ dmaMaster m e then .next s else .next (s.access m (Reg.DMA.CTX e) (s.dmaGo e v (s.inSpec e && m == 16 + e)))

/-- The bytes at a DMA address: none where it fails (R519). Spaces: 0 DRAM, 1 cluster memory, 2 LDM. -/
def State.dmaRead (s : State) (a n : Nat) : Option (List Byte) :=
  match a / 2 ^ 60 with
  | 0 => if s.dramBad (a % 2 ^ 48) n then none else some (s.dramRead (a % 2 ^ 48) n)
  | 1 =>
    let c := a / 2 ^ 24 % 8
    if s.nClusters ≤ c ∨ ¬ s.regsOn (5 + c) ∨ 2 ^ 23 < a % 2 ^ 23 + n then none else some (s.eng.cmem.readN (c * 2 ^ 23 + a % 2 ^ 23) n)
  | 2 =>
    let e := a / 2 ^ 16 % 2 ^ 8
    if ¬ s.engPresent e ∨ ¬ s.engOn e ∨ 2 ^ 16 < a % 2 ^ 16 + n then none else some ((s.engine e).ldm.readN (a % 2 ^ 16) n)
  | _ => none

/-- A line-packet as its bytes carry it: header, then payload (R151). -/
def linePkt (src dst : Nat) (b : List Byte) (ctx : Nat) : LinePkt :=
  let ts := u32 b 4
  { src := src, dst := dst, len := u16 b 0, line := u16 b 2, tick := u16 b 8, slot := ts / 2 ^ 16 % 2 ^ 11, ns := ts % 2 ^ 16,
    ctx := ctx, seg := u8 b 12, flags := u8 b 13, first := u16 b 14, data := (b.drop 16).take (u16 b 0) }

/-- Write bytes at a DMA address: none where it fails; space 3 is a crossbar endpoint (R519). -/
def State.dmaWrite (s : State) (e a ctx : Nat) (b : List Byte) : Option State :=
  match a / 2 ^ 60 with
  | 0 => if s.dramBad (a % 2 ^ 48) b.length then none else some (s.dramWrite (a % 2 ^ 48) b)
  | 1 =>
    let c := a / 2 ^ 24 % 8
    if s.nClusters ≤ c ∨ ¬ s.regsOn (5 + c) ∨ 2 ^ 23 < a % 2 ^ 23 + b.length then none
    else some { s with eng := { s.eng with cmem := s.eng.cmem.writeN (c * 2 ^ 23 + a % 2 ^ 23) b } }
  | 2 =>
    let t := a / 2 ^ 16 % 2 ^ 8
    if ¬ s.engPresent t ∨ ¬ s.engOn t ∨ 2 ^ 16 < a % 2 ^ 16 + b.length then none
    else some (s.updEngine t (fun x => { x with ldm := x.ldm.writeN (a % 2 ^ 16) b }))
  | 3 =>
    if ¬ s.xbarPresent (a % 2 ^ 8) ∨ ¬ s.domOn 3 then none
    else some { s with strm := { s.strm with xbar := s.strm.xbar ++ [{ linePkt (xbarUnit 1 (e / 32)).1 (a % 2 ^ 8) b ctx with ready := s.absSlot }] } }
  | _ => none

/-- A descriptor that fails (R219, R519). -/
def State.dmaErr (s : State) (e : Nat) : State :=
  (((s.wr (Reg.DMA.STAT.ERR e) 1).evt (Reg.CLU.EVENT.DMA_ERR (e / 32))).engCause e 6 (s.engPc e) 0).engRaise e 0

/-- Is a descriptor malformed: a length or address not a multiple of 32 bytes, or a source in space 3 (R519)? -/
def DmaDesc.bad (d : DmaDesc) : Bool :=
  d.len == 0 || d.len % 32 != 0 || d.src % 32 != 0 || (d.dst / 2 ^ 60 != 3 && d.dst % 32 != 0)

/-- DMA_DESCRIPTOR_DONE (R182, R519): the oldest descriptor of engine `e`'s queue ends; the queue goes on. A checkpoint keeps count of what
is not speculative. -/
def execDmaDescriptorDone (e : Nat) (s : State) : Res :=
  match s.dmaQueue e with
  | [] => .next s
  | d :: rest =>
    let s1 := (s.setDmaQueue e rest).wr (Reg.DMA.STAT.FREE e) (s.rd (Reg.DMA.STAT.FREE e) + 1)
    let moved := if d.bad then none
      else match s1.dmaRead d.src d.len with
        | some b => s1.dmaWrite e d.dst d.ctx b
        | none => none
    let note := fun (t : State) (f : Checkpoint → Checkpoint) =>
      if d.spec then t else t.updEngine e (fun x => { x with chk := x.chk.map f })
    match moved with
    | some t => .next (note (t.bump (Reg.DMA.STAT.DONE_CNT e)) (fun c => { c with done := c.done + 1 }))
    | none => .next (note (s1.dmaErr e) (fun c => { c with err := true }))

end Sys2Proof.Machine
end

