-- ==== Sys2Proof/Machine/Intc.lean ====
section
/-! DEFINITION. The interrupt controller, and the mailbox and lock commands (17_interrupts_mailboxes.md). -/

namespace Sys2Proof.Machine

/-! ## Sources (R502, R503) -/

/-- The fields whose bits drive a source, for the sources that registers drive (R502 and the rules it names). -/
def srcFlds (n : Nat) : List Fld :=
  if n < 256 then [Reg.ENG.FAULT.PEND n]
  else if n < 512 then []
  else if n < 608 then [⟨Reg.LANE.EVENT (n - 512), 0, 32⟩]
  else if n < 624 then [⟨Reg.LANE.EVENT (128 + (n - 608)), 0, 32⟩]
  else if n < 640 then []
  else if n < 664 then [⟨Reg.STRM.MOD_STATUS (n - 640), 8, 4⟩]
  else if n < 672 then [⟨Reg.STRM.EVENT, n - 664, 1⟩]
  else if n < 768 then [⟨Reg.STRM.PORT_EVENT (n - 672), 0, 32⟩]
  else if n < 800 then [⟨Reg.TICK.EVENT, n - 768, 1⟩]
  else if n < 832 then [⟨Reg.LEDGER.EVENT, n - 800, 1⟩]
  else if n < 864 then [⟨Reg.TAKE.EVENT, n - 832, 1⟩]
  else if n < 992 then if (n - 864) % 16 < 9 then [⟨Reg.MC.EVENT ((n - 864) / 16), (n - 864) % 16, 1⟩] else []
  else if n < 1086 then [Reg.INTEG.BKT_LVL.OVER (n - 992)]
  else if n = 1086 then [⟨Reg.INTEG.EVENT, 0, 32⟩]
  else if n = 1087 then []
  else if n < 1120 then [⟨Reg.SEC.EVENT, n - 1088, 1⟩]
  else if n < 1129 then [⟨Reg.MOLT.EVENT, n - 1120, 1⟩]
  else if n < 1144 then []
  else if n < 1151 then [⟨Reg.FAB.EVENT, n - 1144, 1⟩]
  else if n < 1152 then []
  else if n < 1158 then [⟨Reg.DOLMET.LINK_EVENT (n - 1152), 0, 32⟩]
  else if n < 1160 then []
  else if n < 1184 then [⟨Reg.TWIN.EVENT, n - 1160, 1⟩]
  else if n < 1216 then [⟨Reg.MESH.EVENT, n - 1184, 1⟩]
  else if n < 1248 then [⟨Reg.PWR.EVENT, n - 1216, 1⟩]
  else if n < 1280 then [⟨Reg.CLK.EVENT, n - 1248, 1⟩]
  else if n < 1312 then [⟨Reg.MODE.EVENT, n - 1280, 1⟩]
  else if n < 1344 then [⟨Reg.DBG.EVENT, n - 1312, 1⟩]
  else if n < 1360 then [⟨Reg.BIST.EVENT, n - 1344, 1⟩]
  else if n < 1368 then [⟨Reg.CLU.EVENT (n - 1360), 0, 32⟩]
  else if n < 1400 then []
  else if n < 1408 then [⟨Reg.CMD.EVENT, n - 1400, 1⟩]
  else []

/-- The halves whose doorbell bits, not masked, drive a source, and those whose ACKED does (R512). -/
def srcBells (n : Nat) : List HalfAt :=
  if 256 ≤ n ∧ n < 512 then [⟨.e2c, (c2eHalf (n - 256)).base + 0x80, n - 256⟩]
  else if 1376 ≤ n ∧ n < 1384 then
    [⟨.h2c, 0x30000 + 0x100 * (n - 1376), n - 1376⟩, ⟨.c2h, 0x30080 + 0x100 * (n - 1376), n - 1376⟩]
  else if 1408 ≤ n ∧ n < 1424 then [⟨.recv, 0x31080 + 0x100 * (n - 1408), n - 1408⟩]
  else []
def srcAcks (n : Nat) : List HalfAt :=
  if 1384 ≤ n ∧ n < 1392 then
    [⟨.h2c, 0x30000 + 0x100 * (n - 1384), n - 1384⟩, ⟨.c2h, 0x30080 + 0x100 * (n - 1384), n - 1384⟩]
  else if 1424 ≤ n ∧ n < 1440 then [⟨.send, 0x31000 + 0x100 * (n - 1424), n - 1424⟩]
  else []

/-- A fabric user source: present, and its die powered (R2, R288, R503). -/
def State.userSrc (s : State) (n : Nat) : Bool := decide (1504 ≤ n ∧ n < if s.ident.variant = 3 then 1760 else 2016)

/-- The level of a source (R502, R503): low while its unit is absent or its domain's registers are inaccessible. -/
def State.srcLevel (s : State) (n : Nat) : Bool :=
  (srcFlds n).any (fun f => s.offPresent f.off && s.offOn f.off && s.isSet f) ||
  (srcBells n).any (fun h => s.offPresent h.base && s.offOn h.base && s.rd h.bell &&& (2 ^ 32 - 1 - s.rd h.mask) != 0) ||
  (srcAcks n).any (fun h => s.offOn h.base && s.isSet h.acked) ||
  (s.userSrc n && s.domOn 3 && s.intc.lines.contains n)

/-- INTC.PENDg.LEVEL (R510). -/
def State.grpLevel (s : State) (g : Nat) : Nat :=
  (List.range 32).foldl (fun v i => if s.srcLevel (32 * g + i) then v + 2 ^ i else v) 0

/-- The sources of a group that are high and not masked. -/
def State.grpView (s : State) (g : Nat) : Nat := s.grpLevel g &&& (2 ^ 32 - 1 - s.rd (Reg.INTC.MASK.MASK g))

/-! ## Delivery (R504–R509) -/

/-- A vector is sent, or, masked, becomes pending in the array (R508). -/
def State.sendVector (s : State) (v : Nat) : State :=
  if s.isSet (Reg.MSIX.CTRL.MASKED v) then s.evtBit (Reg.MSIX.PBA.PEND (v / 32)) (v % 32)
  else s.emit (.msix v (s.rd (Reg.MSIX.ADDR_HI.ADDR v) * 2 ^ 32 + s.rd (Reg.MSIX.ADDR_LO.ADDR v)) (s.rd (Reg.MSIX.DATA.DATA v)))

/-- A message to the host (R508): an L1 link leaves L1; in L2 and in Diapause PCIE_WAKE_N is asserted; otherwise it waits. -/
def State.toHost (s : State) (v : Nat) : State :=
  if s.intc.link = 1 ∨ s.intc.link = 2 then
    ({ s with intc := { s.intc with link := 1 } } : State).sendVector v
  else
    let w := s.intc.wakeN || s.intc.link == 3 || s.mode == 0
    { s with intc := { s.intc with msiWait := s.intc.msiWait ++ [v], wakeN := w } }

/-- A message to a management core: one halted or not up takes it when it runs again (R508). -/
def State.toCore (s : State) (c : Nat) : State :=
  if bit s.xp.coreHalt (c - 1) || !bit (s.rd Reg.CMD.STATUS.CORE_UP) (c - 1) then
    { s with intc := { s.intc with coreWait := s.intc.coreWait ++ [c] } }
  else s.emit (.coreIrq c)

/-- A message to an engine: DOORBELL bit 30 of its C2E half, lost unless its cluster is ON (R508). -/
def State.toEngine (s : State) (e : Nat) : State :=
  if s.domOn (5 + e / 32) then s.addBells (c2eHalf e) (2 ^ 30) else s

/-- The highest TARGET and the lowest of each KIND (R510). -/
def targetOk (kind t : Nat) : Bool :=
  match kind with
  | 1 => decide (t < 64)
  | 2 => decide (1 ≤ t ∧ t ≤ 4)
  | _ => decide (t < 256)

/-- A group delivers one message to its target, or, with KIND 0, nothing (R504, R508). An earlier TARGET that a new KIND's range
does not hold takes nothing (DESIGN CHOICE, notes/assumptions/122.md). -/
def State.deliverGroup (s : State) (g : Nat) : State :=
  let s1 := (s.wr (Reg.INTC.STATE.STATE g) 2).wr (Reg.INTC.STATE.REMAIN_US g) 0
  let t := s1.rd (Reg.INTC.ROUTE.TARGET g)
  if !targetOk (s1.rd (Reg.INTC.ROUTE.KIND g)) t then s1
  else match s1.rd (Reg.INTC.ROUTE.KIND g) with
  | 1 => (s1.bump (Reg.INTC.STATE.DELIV_CNT g)).toHost t
  | 2 => (s1.bump (Reg.INTC.STATE.DELIV_CNT g)).toCore t
  | 3 => (s1.bump (Reg.INTC.STATE.DELIV_CNT g)).toEngine t
  | _ => s1

/-- A group in IDLE whose output is high delivers at once or starts its hold-off (R504). -/
def State.grpRise (s : State) (g : Nat) : State :=
  if s.rd (Reg.INTC.STATE.STATE g) = 0 ∧ s.grpView g ≠ 0 then
    if s.rd (Reg.INTC.ROUTE.HOLDOFF_US g) = 0 then s.deliverGroup g
    else (s.wr (Reg.INTC.STATE.STATE g) 1).wr (Reg.INTC.STATE.REMAIN_US g) (s.rd (Reg.INTC.ROUTE.HOLDOFF_US g))
  else s

/-- INTERRUPT_SOURCE_RISE (R502–R504, R508): source `n` of its group; a fabric user source takes the level given. -/
def execInterruptSourceRise (n : Nat) (high : Bool) (s : State) : Res :=
  if 2048 ≤ n then .next s
  else
    let rest := s.intc.lines.filter (fun x => x != n)
    let s1 : State := if s.userSrc n then { s with intc := { s.intc with lines := if high then rest ++ [n] else rest } } else s
    .next (s1.grpRise (n / 32))

/-- HOLDOFF_EXPIRY (R504). -/
def execHoldoffExpiry (g : Nat) (s : State) : Res :=
  if g < 64 ∧ s.rd (Reg.INTC.STATE.STATE g) = 1 then
    .next (if s.grpView g ≠ 0 then s.deliverGroup g
      else (s.wr (Reg.INTC.STATE.STATE g) 0).wr (Reg.INTC.STATE.REMAIN_US g) 0)
  else .next s

/-- MSIX_SEND (R508): the link reaches L0, and the messages that waited are sent, oldest first. A link that is down trains first. -/
def execMsixSend (s : State) : Res :=
  if s.intc.link = 0 then .next s
  else
    .next (s.intc.msiWait.foldl (fun t v => t.sendVector v)
      { s with intc := { s.intc with link := 1, wakeN := false, msiWait := [] } })

/-- End of service of a group (R504, R505). -/
def State.grpEoi (s : State) (g : Nat) : State :=
  if s.rd (Reg.INTC.STATE.STATE g) = 2 then (s.wr (Reg.INTC.STATE.STATE g) 0).grpRise g else s

/-- INTC_EOI_WRITE (R505). -/
def execIntcEoiWrite (g : Nat) (s : State) : Res := .next (if g < 64 then s.grpEoi g else s)

/-- INTC_ROUTE_WRITE (R508–R510): an engine that another group names leaves ROUTE unchanged; a TARGET outside its KIND's range
leaves TARGET unchanged. Both set ROUTE_ERR. -/
def execIntcRouteWrite (g v : Nat) (s : State) : Res :=
  let kind := v % 4
  let t := v / 2 ^ 8 % 2 ^ 8
  if 64 ≤ g then .next s
  else if kind = 3 ∧ (List.range 64).any (fun x => x != g && s.rd (Reg.INTC.ROUTE.KIND x) == 3 && s.rd (Reg.INTC.ROUTE.TARGET x) == t) then
    .next (s.evt Reg.INTC.EVENT.ROUTE_ERR)
  else
    let s1 := (s.wr (Reg.INTC.ROUTE.KIND g) kind).wr (Reg.INTC.ROUTE.HOLDOFF_US g) (v / 2 ^ 16)
    .next (if targetOk kind t then s1.wr (Reg.INTC.ROUTE.TARGET g) t else s1.evt Reg.INTC.EVENT.ROUTE_ERR)

/-- The group routed to an engine (R509). -/
def State.grpOf (s : State) (e : Nat) : Option Nat :=
  (List.range 64).find? (fun g => s.rd (Reg.INTC.ROUTE.KIND g) == 3 && s.rd (Reg.INTC.ROUTE.TARGET g) == e)

/-- ENGINE_INTC_EOI (R509): an engine ends the service of its group through INTC_GRP. -/
def State.engEoi (s : State) (e : Nat) : State :=
  if s.domOn (5 + e / 32) then
    match s.grpOf e with
    | some g => s.grpEoi g
    | none => s
  else s
def execEngineIntcEoi (e : Nat) (s : State) : Res := .next (if e < 256 then s.engEoi e else s)

/-! ## Mailboxes (R511–R517) -/

/-- A write by a master into the half at an offset, where `p` says which of the half's registers the row writes. -/
def State.halfAccess (s : State) (m o v : Nat) (p : Nat → Bool) : State :=
  match halfAt o with
  | some h => if p (o - h.base) && o % 4 == 0 then s.access m o (s.halfWrite h m (o - h.base) v) else s
  | none => s

/-- MAILBOX_MSG_WRITE (R511–R514): a message word. -/
def execMailboxMsgWrite (m o v : Nat) (s : State) : Res := .next (s.halfAccess m o v (fun x => decide (x < 0x40)))

/-- MAILBOX_BELL_WRITE (R512, R513, R515). -/
def execMailboxBellWrite (m o v : Nat) (s : State) : Res := .next (s.halfAccess m o v (fun x => x == 0x40))

/-- MAILBOX_ACK_WRITE (R512–R516). -/
def execMailboxAckWrite (m o v : Nat) (s : State) : Res := .next (s.halfAccess m o v (fun x => x == 0x48))

/-- MAILBOX_ACK_TIMEOUT (R516): the message of the half at `o` was not acknowledged in time. -/
def execMailboxAckTimeout (o : Nat) (s : State) : Res :=
  match halfAt o with
  | some h => .next (if s.offPresent o ∧ s.offOn o ∧ s.isSet h.pending ∧ h.kind ≠ .recv then s.ackHalf h 0xFFFF true else s)
  | none => .next s

/-- MAILBOX_CLAIM_TIMEOUT (R514): no BELL bit was set within the half's timeout from the claim. -/
def execMailboxClaimTimeout (o : Nat) (s : State) : Res :=
  match halfAt o with
  | some h =>
    .next (if s.offPresent o ∧ s.offOn o ∧ s.isSet h.busy ∧ ¬ s.isSet h.pending then (s.wr h.busy 0).wr h.owner 0 else s)
  | none => .next s

/-- MAILBOX_FRAME_RECEIVE (R441, R511): a remote message enters the receive half of mailbox `m`, unless that half still holds
one; an acknowledgement ends the message of the send half. -/
def execMailboxFrameReceive (f : MailFrame) (s : State) : Res :=
  if 16 ≤ f.m ∨ ¬ s.domOn 1 then .next s
  else if f.ack then
    let h : HalfAt := ⟨.send, 0x31000 + 0x100 * f.m, f.m⟩
    .next (if s.isSet h.pending ∧ s.rd h.meshId = f.src then s.ackHalf h f.x false else s)
  else
    let h : HalfAt := ⟨.recv, 0x31080 + 0x100 * f.m, f.m⟩
    if s.isSet h.pending then .next s
    else
      let s1 := (List.range 16).foldl (fun t i => t.setReg (h.base + 4 * i) (BitVec.ofNat 32 (f.words.getD i 0))) s
      .next ((((s1.wr h.meshId f.src).wr h.mailbox f.from_).addBells h (f.x % 2 ^ 30)).startMsg h)

/-! ## Locks (R520–R525) -/

/-- LOCK_READ (R520–R522): a read of a lock by a master; a debugger's never acquires it. -/
def execLockRead (m o : Nat) (s : State) : Res :=
  if !lockOff o || o % 4 != 0 || m == 0 then .next s
  else
    .next (s.accessR m o (if m = 6 then s.emit (.readData m o (s.lockWord o))
      else let r := s.lockRead m o; r.1.emit (.readData m o r.2)))

/-- LOCK_WRITE (R520). -/
def execLockWrite (m o v : Nat) (s : State) : Res :=
  if !lockOff o || o % 4 != 0 || m == 0 then .next s else .next (s.access m o (s.lockWrite m o v))

end Sys2Proof.Machine
end

