-- ==== Sys2Proof/Machine/Slots.lean ====
section
/-! DEFINITION. What the operation of each slot of a bundle computes (07_engine_instructions.md): scalar, load and store, vector and
multiply-accumulate. Operands are read at issue; results go to the list of results in flight with their latency (R200, R240). -/

namespace Sys2Proof.Machine

/-! ## Scalar slot (R244) -/

/-- A scalar register of the main or the shadow bank. -/
def Eng.s_ (x : Eng) (main : Bool) (r : Nat) : Word := SMap.get (fun _ => 0) (if main then x.sreg else x.shadow) r

/-- A shift right that rounds half up; by 0 it changes nothing (R252). -/
def roundShr (x : Int) (n : Nat) : Int := if n = 0 then x else (x + 2 ^ (n - 1)) / 2 ^ n

/-- Three-register arithmetic, 0x01–0x0D. -/
def sAlu (op : Nat) (a b : Word) : Option Word :=
  match op with
  | 0x01 => some (a + b) | 0x02 => some (a - b) | 0x03 => some (a &&& b) | 0x04 => some (a ||| b) | 0x05 => some (a ^^^ b)
  | 0x06 => some (a <<< (b.toNat % 32)) | 0x07 => some (a >>> (b.toNat % 32)) | 0x08 => some (a.sshiftRight (b.toNat % 32))
  | 0x09 => some (a * b) | 0x0A => some (if a.slt b then a else b) | 0x0B => some (if a.slt b then b else a)
  | 0x0C => some (if a.slt b then 1 else 0) | 0x0D => some (if a.ult b then 1 else 0)
  | _ => none

/-- Immediate arithmetic, 0x10–0x19: `n` is the immediate's bits. -/
def sImm (op : Nat) (a : Word) (n : Nat) : Option Word :=
  match op with
  | 0x10 => some (a + BitVec.ofInt 32 (signed 15 n)) | 0x11 => some (a &&& BitVec.ofNat 32 (n % 2 ^ 15))
  | 0x12 => some (a ||| BitVec.ofNat 32 (n % 2 ^ 15)) | 0x13 => some (a ^^^ BitVec.ofNat 32 (n % 2 ^ 15))
  | 0x14 => some (a <<< (n % 32)) | 0x15 => some (a >>> (n % 32)) | 0x16 => some (a.sshiftRight (n % 32))
  | 0x17 => some (BitVec.ofInt 32 (roundShr a.toInt (n % 32)))
  | 0x18 => some (BitVec.ofInt 32 (signed 20 n)) | 0x19 => some (BitVec.ofNat 32 (n % 2 ^ 20 * 2 ^ 12))
  | _ => none

/-- Is a signed compare-and-branch taken, 0x20–0x23? -/
def sCmp (op : Nat) (a b : Word) : Bool :=
  match op with
  | 0x20 => a == b | 0x21 => a != b | 0x22 => a.slt b | _ => b.sle a

/-- A control register's value (R239). -/
def State.ctlReg (s : State) (e cr : Nat) : Word :=
  let x := s.engine e
  let main := !s.inHandler e
  match cr with
  | 0 => BitVec.ofNat 32 x.epc
  | 1 => BitVec.ofNat 32 (s.rd (Reg.ENG.FAULT.CAUSE e))
  | 2 => BitVec.ofNat 32 x.tcst
  | 3 => BitVec.ofNat 32 x.bexp
  | 4 => if x.sat then 1 else 0
  | 5 => BitVec.ofNat 32 (s.rd (Reg.ENG.STATUS.IE e))
  | 6 => BitVec.ofNat 32 (s.rd (Reg.ENG.STATUS.SPEC e) + 2 * s.rd (Reg.ENG.STATUS.SPEC_EN e) + 4 * s.rd (Reg.ENG.STATUS.HANDLER e))
  | 7 => BitVec.ofNat 32 e
  | 8 => BitVec.ofNat 32 (if main then x.lc0 else x.slc0)
  | 9 => BitVec.ofNat 32 (if main then x.lc1 else x.slc1)
  | 10 => s.reg (Reg.ENG.FAULT_ADDR e)
  | _ => 0

/-- What lands after a write of a control register (R239). -/
def ctlLand (main : Bool) (cr : Nat) (v : Word) : Option Landing :=
  match cr with
  | 0 => some (.epc (v.toNat % 2 ^ 11))
  | 3 => some (.bexpSet (v.toNat % 2 ^ 6))
  | 4 => some (.satSet (v.getLsbD 0))
  | 5 => some (.ie (v.toNat % 16))
  | 8 => some (.lc main 0 (v.toNat % 2 ^ 16))
  | 9 => some (.lc main 1 (v.toNat % 2 ^ 16))
  | _ => none

/-- What the scalar slot does to the flow of bundles. -/
inductive Ctl where
  | plain
  /-- A branch, with its target where it is taken (R202, R245). -/
  | branch (t : Option Nat)
  /-- A hardware loop: counter, count, end bundle (R246). -/
  | loop (lc count last : Nat)
  | atom (n : Nat)
  | reti | wait | done
  /-- Forbidden in SPEC state (R258). -/
  | spec
  deriving DecidableEq, Repr

/-- A branch target's bundle index. -/
def brTarget (o : SlotOp) (a : Word) : Nat := if o.op = 0x26 then a.toNat % 2 ^ 11 else o.n

/-- The scalar slot at issue: what lands, all at latency 1, and what it does to the flow (R244–R247, R254–R258). -/
def State.sSlot (s : State) (e : Nat) (o : SlotOp) : List Landing × Ctl :=
  let x := s.engine e
  let main := !s.inHandler e
  let a := x.s_ main o.a
  let b := x.s_ main o.b
  let ie := s.rd (Reg.ENG.STATUS.IE e)
  let spec := s.inSpec e
  match sAlu o.op a b with
  | some v => ([.sreg main o.d v], .plain)
  | none =>
  match sImm o.op a o.n with
  | some v => ([.sreg main o.d v], .plain)
  | none =>
  match o.op with
  | 0x20 | 0x21 | 0x22 | 0x23 => ([], .branch (if sCmp o.op a b then some o.n else none))
  | 0x24 => ([], .branch (some o.n))
  | 0x25 => ([.sreg main o.d (BitVec.ofNat 32 ((s.engPc e + 3) % 2 ^ 11))], .branch (some o.n))
  | 0x26 => ([], .branch (some (brTarget o a)))
  | 0x28 => ([], .loop o.m (a.toNat % 2 ^ 16) o.n)
  | 0x29 => ([], .loop o.m o.a o.n)
  | 0x2A => ([], .atom (o.n % 8 + 1))
  | 0x30 => ([.sreg main o.d (s.ctlReg e o.a)], .plain)
  | 0x31 => if spec ∧ o.d = 5 then ([], .spec) else ((ctlLand main o.d a).toList, .plain)
  | 0x32 => if spec then ([], .spec) else ([.ie (ie ||| o.n % 16)], .plain)
  | 0x33 => if spec then ([], .spec) else ([.ie (ie &&& (15 - o.n % 16))], .plain)
  | 0x34 => ([], .reti)
  | 0x38 => ([.bexpSet 63], .plain)
  | 0x39 => ([.sreg main o.d (BitVec.ofNat 32 (x.bexp - o.n % 16))], .plain)
  | 0x3A => ([.satSet false], .plain)
  | 0x40 => ([], .done)
  | 0x41 => ([], .wait)
  | 0x42 => ([.sreg main o.d (BitVec.ofNat 32 (s.slot % 2 ^ 11 + s.now % 2 ^ 16 * 2 ^ 16))], .plain)
  | _ => ([], .plain)

/-! ## Vector slot (R250, R252–R254) -/

/-- The lane width of a lane mode (R238). -/
def laneW (m : Nat) : Nat := if m = 0 then 16 else if m = 1 then 8 else 32

/-- The nearest value of a signed range of `w` bits (R253). -/
def satTo (w : Nat) (x : Int) : Int := max (-(2 ^ (w - 1) : Int)) (min (2 ^ (w - 1) - 1 : Int) x)

/-- A vector result: width of its lanes, exact lanes, and whether it saturates. -/
structure VRes where
  w   : Nat
  l   : List Int
  sat : Bool

/-- What a vector operation gives, before wrapping or saturation; `m` is the present value of its destination, `k` a scalar. -/
def vCalc (o : SlotOp) (a b d : BitVec 256) (k : Word) : VRes :=
  let w := laneW o.m
  let la := lanes w a
  let lb := lanes w b
  let shr := fun (x : Int) => if o.rnd then roundShr x o.n else x / 2 ^ o.n
  match o.op with
  | 0x01 => ⟨w, List.zipWith (· + ·) la lb, o.sat⟩
  | 0x02 => ⟨w, List.zipWith (· - ·) la lb, o.sat⟩
  | 0x03 => ⟨w, List.zipWith (fun (p q : Int) => shr (p * q)) la lb, o.sat⟩
  | 0x04 => ⟨w, List.zipWith min la lb, false⟩
  | 0x05 => ⟨w, List.zipWith max la lb, false⟩
  | 0x06 => ⟨w, la.map (fun p => (p.natAbs : Int)), o.sat⟩
  | 0x07 => ⟨w, lanes w (a &&& b), false⟩
  | 0x08 => ⟨w, lanes w (a ||| b), false⟩
  | 0x09 => ⟨w, lanes w (a ^^^ b), false⟩
  | 0x0A => ⟨w, la.map shr, false⟩
  | 0x0B => ⟨w, la.map (fun p => ((unsigned w p / 2 ^ o.n : Nat) : Int)), false⟩
  | 0x0C => ⟨w, la.map (fun p => p * 2 ^ o.n), true⟩
  | 0x0D => ⟨w, la.map (fun p => p * 2 ^ min (k.toNat % 64) w), true⟩
  | 0x0E => ⟨w, ((la ++ lb).drop o.n).take (256 / w), false⟩
  | 0x0F => ⟨w, List.replicate (256 / w) (signed w k.toNat), false⟩
  | 0x10 => ⟨w, List.zipWith (fun (p q : Int) => if q < p then -1 else 0) la lb, false⟩
  | 0x11 => ⟨w, List.zipWith (fun (c : Int) (y : Int × Int) => if c ≠ 0 then y.1 else y.2) (lanes w d) (la.zip lb), false⟩
  | 0x12 => ⟨w, la, false⟩
  | 0x13 => ⟨w, lanes (2 * w) a ++ lanes (2 * w) b, true⟩
  | 0x14 => ⟨w, ((lanes (w / 2) a).drop (o.n * (256 / w))).take (256 / w), false⟩
  | 0x15 => ⟨w, (List.range (256 / w)).map (fun i => (la ++ lb).getD (2 * i) 0), false⟩
  | 0x16 => ⟨w, (List.range (256 / w)).map (fun i => (la ++ lb).getD (2 * i + 1) 0), false⟩
  | 0x17 => ⟨w, la.map (fun p => min (max p 0) (2 ^ o.n - 1 : Int)), false⟩
  | _ => ⟨w, [], false⟩

/-- Lanes wrapped, or saturated, to their width. -/
def VRes.done (r : VRes) : List Int := r.l.map (fun x => if r.sat then satTo r.w x else signed r.w (unsigned r.w x))

/-- Where a result is written: register, sticky saturation and block exponent fold, at one latency. -/
def vLand (lat d : Nat) (bx : Bool) (r : VRes) : List (Nat × Landing) :=
  [(lat, .vreg d (packLanes r.w r.done))] ++ (if r.sat && r.done != r.l then [(lat, .satOr)] else []) ++
  (if bx then [(lat, .bexpMin (rsbMin r.w r.done))] else [])

/-- The vector slot at issue, latency 2. -/
def State.vSlot (s : State) (e : Nat) (o : SlotOp) : List (Nat × Landing) :=
  let x := s.engine e
  let main := !s.inHandler e
  if o.op = 0 then []
  else vLand 2 o.d o.bx (vCalc o (x.vec_ o.a) (x.vec_ o.b) (x.vec_ o.d) (x.s_ main (if o.op = 0x0F then o.a else o.b)))

/-! ## Multiply-accumulate slot (R251) -/

/-- The product of two 16-bit lanes, or with .b the sum of the products of their two byte pairs. -/
def mProd (bytes : Bool) (p q : Int) : Int :=
  if bytes then
    signed 8 (unsigned 16 p) * signed 8 (unsigned 16 q) + signed 8 (unsigned 16 p / 256) * signed 8 (unsigned 16 q / 256)
  else p * q

/-- The multiply-accumulate slot at issue, latency 4: `d` is ad, `n` is j, a shift or unused, `m` is p, `sat` the .b modifier. -/
def State.mSlot (s : State) (e : Nat) (o : SlotOp) : List (Nat × Landing) :=
  let x := s.engine e
  let main := !s.inHandler e
  let la := lanes 16 (x.vec_ o.a)
  let lb := lanes 16 (x.vec_ o.b)
  let q := List.zipWith (mProd o.sat) la lb
  let j := la.map (fun p => mProd o.sat p (lb.getD o.n 0))
  let ext := fun (n : Nat) => vLand 4 o.d o.bx ⟨16, (x.accum o.a).map (fun a => roundShr a n), true⟩
  match o.op with
  | 0x01 => [(4, .accAdd o.d q o.bx)]
  | 0x02 => [(4, .accAdd o.d (q.map (fun p => -p)) o.bx)]
  | 0x03 => [(4, .accSet o.d q o.bx)]
  | 0x04 => [(4, .accAdd o.d j o.bx)]
  | 0x05 => [(4, .accSet o.d j o.bx)]
  | 0x06 => [(4, .accSet o.d (List.replicate 16 0) false)]
  | 0x07 => ext o.n
  | 0x08 => ext (min ((x.s_ main o.b).toNat % 64) 47)
  | 0x09 => [(4, .accAdd o.d (x.accum o.a) o.bx)]
  | 0x0A => vLand 4 o.d false ⟨16, (x.accum o.a).map (fun a => signed 16 (unsigned 48 a / 2 ^ (16 * o.m))), false⟩
  | 0x0B => [(4, .accPart o.d o.m (x.vec_ o.a))]
  | _ => []

/-! ## Load and store slot (R206–R210, R243, R248, R249) -/

/-- What the load and store slot did: the state with its store, what lands, and a cause with its address. -/
structure LRes where
  st   : State
  fly  : List (Nat × Landing) := []
  exc  : Option (Nat × Nat) := none

def LRes.fault (s : State) (cause a : Nat) : LRes := { st := s, exc := some (cause, a) }

/-- The LDM byte address that a program's address names (R208): in the window, the committed copy, or in SPEC state the provisional one
where the word is written; `wr` asks for the copy that a write reaches. -/
def State.ldmAddr (s : State) (e a : Nat) (wr : Bool) : Nat :=
  let x := s.engine e
  if s.isSet (Reg.ENG.STATUS.SPEC_EN e) ∧ 0x8000 ≤ a ∧ a < 0xC000 then
    let w := (a - 0x8000) / 32
    let prov := s.inSpec e && (wr || x.writ.contains w)
    a + (if x.sel.contains w != prov then 0x4000 else 0)
  else a

/-- In which part of the address map an address lies (R206): 0 LDM, 1 the cluster window, 2 cluster memory, 3 none. -/
def State.engMap (s : State) (e a : Nat) : Nat :=
  if a < 0x10000 then (if s.isSet (Reg.ENG.STATUS.SPEC_EN e) ∧ 0xC000 ≤ a then 3 else 0)
  else if 0x20000 ≤ a ∧ a < 0x21000 then 1
  else if 0x800000 ≤ a ∧ a < 0x1000000 then 2
  else 3

/-- A load of `n` bytes by engine `e`: the bytes, or the cause of an exception. Bytes of cluster memory that the engine stored less than
8 bundles ago are free values (R243). -/
def State.engRead (s : State) (e a n : Nat) : State × (List Byte ⊕ Nat) :=
  match s.engMap e a with
  | 0 => if a % n ≠ 0 then (s, .inr 3) else (s, .inl ((s.engine e).ldm.readN (s.ldmAddr e a false) n))
  | 2 =>
    if a % n ≠ 0 then (s, .inr 3)
    else if (s.engine e).recent.any (fun r => r.2 == a / 32) then (s.drew, .inl (toLe n s.free))
    else (s, .inl (s.eng.cmem.readN (e / 32 * 2 ^ 23 + a % 2 ^ 23) n))
  | _ => (s, .inr 2)

/-- The register of its own cluster that a window offset names: the half or lock a mailbox or lock access reaches (R518). -/
def winOff (e x : Nat) : Option Nat :=
  if x < 0x20 then some (cluBase (e / 32) + 0x2000 + 0x200 * (e % 32) + x)
  else if (0x80 ≤ x ∧ x < 0xD4) ∨ (0x100 ≤ x ∧ x < 0x154) then some (cluBase (e / 32) + 0x2000 + 0x200 * (e % 32) + x)
  else if 0x200 ≤ x ∧ x < 0x280 then some (cluBase (e / 32) + 0x7000 + (x - 0x200))
  else if 0x600 ≤ x ∧ x < 0x1000 then some (cluBase (e / 32) + 0x6000 + (x - 0x600))
  else none

/-- A load from the cluster window (R249, R518): the word, or a cause. A lock read acquires. -/
def State.winRead (s : State) (e x : Nat) : State × (Word ⊕ Nat) :=
  if x % 4 ≠ 0 then (s, .inr 2)
  else if x = 0x280 then (s, .inl (BitVec.ofNat 32 ((s.grpOf e).elim 0 s.grpView)))
  else if x = 0x284 then (s, .inl (BitVec.ofNat 32 ((s.grpOf e).getD 0)))
  else match winOff e x with
    | none => (s, .inr 2)
    | some o =>
      if 0x20 ≤ x ∧ s.inSpec e then (s, .inr 4)
      else if 0x200 ≤ x ∧ x < 0x280 then let r := s.lockRead (16 + e) o; (r.1, .inl r.2)
      else (s, .inl (s.reg o))

/-- A write of a word of engine `e`'s own DMA queue (R519): LEN out of its range changes nothing (R569); GO queues. -/
def State.dmaWord (s : State) (e x v : Nat) : State :=
  match x with
  | 0x00 => s.wr (Reg.DMA.SRC_LO.ADDR e) v
  | 0x04 => s.wr (Reg.DMA.SRC_HI.ADDR e) v
  | 0x08 => s.wr (Reg.DMA.DST_LO.ADDR e) v
  | 0x0C => s.wr (Reg.DMA.DST_HI.ADDR e) v
  | 0x10 => if v % 2 ^ 24 % 32 = 0 ∧ v % 2 ^ 24 ≠ 0 then s.wr (Reg.DMA.LEN.LEN e) v else s
  | 0x14 => if bit v 31 then s.dmaGo e v (s.inSpec e) else s.wr (Reg.DMA.CTX.CTX e) v
  | 0x18 => if bit v 4 then s.wr (Reg.DMA.STAT.ERR e) 0 else s
  | _ => s

/-- A store to the cluster window (R249, R518): the state, or a cause. -/
def State.winWrite (s : State) (e x v : Nat) : State ⊕ Nat :=
  if x % 4 ≠ 0 then .inr 2
  else if x = 0x280 ∨ x = 0x284 then
    if s.inSpec e then .inr 4 else .inl (if x = 0x284 ∧ bit v 31 then s.engEoi e else s)
  else match winOff e x with
    | none => .inr 2
    | some o =>
      if x < 0x20 then (if s.inSpec e ∧ x = 0x14 ∧ bit v 31 ∧ (s.dmaProv e).isNone then .inr 4 else .inl (s.dmaWord e x v))
      else if s.inSpec e then .inr 4
      else if 0x200 ≤ x ∧ x < 0x280 then .inl (s.lockWrite (16 + e) o v)
      else match halfAt o with
        | some h => .inl (s.halfWrite h (16 + e) (o - h.base) v)
        | none => .inl s

/-- A store of bytes by engine `e` (R206–R210): the state, or a cause. -/
def State.engWrite (s : State) (e a : Nat) (bytes : List Byte) : State ⊕ Nat :=
  let n := bytes.length
  match s.engMap e a with
  | 0 =>
    if a % n ≠ 0 then .inr 3
    else
      let win := s.isSet (Reg.ENG.STATUS.SPEC_EN e) && decide (0x8000 ≤ a ∧ a < 0xC000)
      if s.inSpec e ∧ ¬ win then .inr 4
      else
        let w := (a - 0x8000) / 32
        let t := s.ldmAddr e a true
        let mark := s.inSpec e && !(s.engine e).writ.contains w
        .inl (s.updEngine e (fun x => { x with ldm := x.ldm.writeN t bytes, writ := if mark then w :: x.writ else x.writ }))
  | 2 =>
    if a % n ≠ 0 then .inr 3
    else if s.inSpec e then .inr 4
    else
      let s1 := s.updEngine e (fun x => { x with recent := (0, a / 32) :: x.recent })
      .inl { s1 with eng := { s1.eng with cmem := s1.eng.cmem.writeN (e / 32 * 2 ^ 23 + a % 2 ^ 23) bytes } }
  | _ => .inr 2

/-- The latency of a load (R248). -/
def State.ldLat (s : State) (e a : Nat) : Nat := if s.engMap e a = 0 then 3 else 8

/-- A vector of 32 bytes, byte 0 lowest (R236). -/
def bytesVec (b : List Byte) : BitVec 256 := BitVec.ofNat 256 (leAt b 0 32)

/-- A 32-byte load; `post` lands with it where it does not fault. -/
def State.ldVec (s : State) (e d a : Nat) (post : List (Nat × Landing)) : LRes :=
  match s.engRead e a 32 with
  | (t, .inl b) => { st := t, fly := [(s.ldLat e a, .vreg d (bytesVec b))] ++ post }
  | (t, .inr c) => LRes.fault t c a

/-- A 32-byte store. -/
def State.stVec (s : State) (e d a : Nat) (post : List (Nat × Landing)) : LRes :=
  match s.engWrite e a (toLe 32 ((s.engine e).vec_ d).toNat) with
  | .inl t => { st := t, fly := post }
  | .inr c => LRes.fault s c a

/-- The load and store slot at issue: `n` holds the immediate's 15 bits, or the two increment bits of l.ld2. -/
def State.lSlot (s : State) (e : Nat) (o : SlotOp) : LRes :=
  let x := s.engine e
  let main := !s.inHandler e
  let sa := x.s_ main o.a
  let off := (sa + BitVec.ofInt 32 (signed 15 o.n)).toNat
  let incr := [(1, Landing.sreg main o.a (sa + BitVec.ofInt 32 (signed 15 o.n)))]
  match o.op with
  | 0x01 => s.ldVec e o.d off []
  | 0x02 => s.ldVec e o.d sa.toNat incr
  | 0x03 =>
    let sb := x.s_ main o.b
    let a := sa.toNat
    let b := sb.toNat
    if s.engMap e a ≠ 0 then LRes.fault s 2 a
    else if s.engMap e b ≠ 0 then LRes.fault s 2 b
    else if a % 32 ≠ 0 then LRes.fault s 3 a
    else if b % 32 ≠ 0 then LRes.fault s 3 b
    else
      let va := bytesVec (x.ldm.readN (s.ldmAddr e a false) 32)
      let vb := bytesVec (x.ldm.readN (s.ldmAddr e b false) 32)
      { st := s, fly := [(3, .vreg o.d va), (3, .vreg o.m vb)] ++ (if bit o.n 0 then [(1, Landing.sreg main o.a (sa + 32))] else []) ++
          (if bit o.n 1 then [(1, Landing.sreg main o.b (sb + 32))] else []) }
  | 0x04 =>
    if s.engMap e off = 1 then
      match s.winRead e (off - 0x20000) with
      | (t, .inl v) => { st := t, fly := [(8, .sreg main o.d v)] }
      | (t, .inr c) => LRes.fault t c off
    else match s.engRead e off 4 with
      | (t, .inl b) => { st := t, fly := [(s.ldLat e off, .sreg main o.d (BitVec.ofNat 32 (leAt b 0 4)))] }
      | (t, .inr c) => LRes.fault t c off
  | 0x05 => s.stVec e o.d off []
  | 0x06 => s.stVec e o.d sa.toNat incr
  | 0x07 =>
    let v := (x.s_ main o.d).toNat
    let r := if s.engMap e off = 1 then s.winWrite e (off - 0x20000) v else s.engWrite e off (toLe 4 v)
    match r with
    | .inl t => { st := t }
    | .inr c => LRes.fault s c off
  | _ => { st := s }

end Sys2Proof.Machine
end

