-- ==== Sys2Proof/Machine/Cells.lean ====
section
/-! DEFINITION. The inside of the fabric's tiles (R262–R275, R280–R282): what a tile's configuration sets up works from one instant to
the next, an instant being the clock edges less than 400 ps apart (R266). Which clocks have an edge in an instant, and what reaches a tile
from outside, are free values (notes/assumptions/110.md). -/

namespace Sys2Proof.Machine

/-! ## Nets -/

abbrev Nets := SMap Bool

def net (e : Nets) (n : Nat) : Bool := SMap.get (fun _ => false) e n
def setNet (e : Nets) (n : Nat) (v : Bool) : Nets := SMap.set (fun _ => false) e n v

/-- The number on a bus. -/
def bus (e : Nets) : List Nat → Nat
  | [] => 0
  | n :: l => (if net e n then 1 else 0) + 2 * bus e l

/-- A number onto a bus. -/
def setBus (e : Nets) : List Nat → Nat → Nets
  | [], _ => e
  | n :: l, v => setBus (setNet e n (v % 2 == 1)) l (v / 2)

/-- The parts of a tile's design with their places (R296). -/
def TileSt.parts (t : TileSt) : List (Part × Nat) := (Config.tileParts (t.frames.take (18688 * 128))).zipIdx

/-! ## Logic cells and carry (R262, R263) -/

/-- One carry chain cell: the sum of its two operands and the carry, and the carry on (R263; DESIGN CHOICE of an adder's cell,
notes/assumptions/111.md). -/
def carryCell (a : Nets × Bool) (x : Nat × Nat × Nat) : Nets × Bool :=
  let p := net a.1 x.1
  let q := net a.1 x.2.1
  (setNet a.1 x.2.2 ((p != q) != a.2), (p && q) || (a.2 && (p || q)))

/-- A carry chain from cell 0 of its lowest group to cell 7 of each group and on into the group above, at most 64 groups (R262,
R263). -/
def carryChain (e : Nets) (groups : List (List (Nat × Nat × Nat))) (cin cout : Nat) : Nets :=
  let o := (groups.take 64).foldl (fun a g => (g.take 8).foldl carryCell a) (e, net e cin)
  setNet o.1 cout o.2

/-- What a part puts on its nets at once: a LUT as one 6-input table or two of 5 inputs that share four (R262), a carry chain, and the
word that LUT memory holds (R264). -/
def logicPart (t : TileSt) (e : Nets) (x : Part × Nat) : Nets :=
  match x.1 with
  | .lut6 table ins out => setNet e out (bit table (bus e (ins.take 6)))
  | .lut5 ta tb shared a b outA outB =>
    let ia := bus e (shared.take 4 ++ [a])
    let ib := bus e (shared.take 4 ++ [b])
    setNet (setNet e outA (bit ta ia)) outB (bit tb ib)
  | .carry groups cin cout => carryChain e groups cin cout
  | .lutMem _ _ addr _ dout _ => setBus e dout (SMap.get (fun _ => 0) t.lut x.2 / 2 ^ (8 * bus e (addr.take 6)) % 256)
  | .shifts _ _ _ dout _ =>
    (dout.take 8).zipIdx.foldl (fun e o => setNet e o.1 (bit (SMap.get (fun _ => 0) t.lut x.2) (32 * o.2 + 31))) e
  | _ => e

/-- A flip-flop at an instant (R262): an asynchronous set or reset acts at any time, a synchronous one and the clock enable at an
edge. -/
def flopNext (c : FlipFlop) (e : Nets) (edges : Nat) : Bool :=
  let on := c.sr.any (fun x => net e x.1)
  let async := c.sr.any (fun x => x.2.1)
  let val := c.sr.any (fun x => x.2.2)
  if on && async then val
  else if !bit edges c.clk then net e c.q
  else if on then val
  else if c.ce.all (fun n => net e n) then net e c.d
  else net e c.q

/-- LUT memory after an instant (R264): a write of one of 64 words of 8 bits. -/
def lutMemNext (v : Nat) (e : Nets) (addr din : List Nat) : Nat :=
  let k := 8 * bus e (addr.take 6)
  v % 2 ^ k + 2 ^ k * bus e (din.take 8) + 2 ^ (k + 8) * (v / 2 ^ (k + 8))

/-- Eight shift registers of 32 bits after an instant (R264). -/
def shiftsNext (v : Nat) (e : Nets) (din : List Nat) : Nat :=
  (List.range 8).foldl (fun a j => a + 2 ^ (32 * j) * ((v / 2 ^ (32 * j) * 2 + (if net e (din.getD j 0) then 1 else 0)) % 2 ^ 32)) 0

/-! ## Leaf memories (R265–R268) -/

/-- The 40-bit word at bit `k` of the configuration's frames (R268, R296; DESIGN CHOICE of the order of its bits,
notes/assumptions/111.md). -/
def TileSt.initWord (t : TileSt) (k : Nat) : Nat := leAt t.frames (k / 8) 5

/-- Word `i` of leaf memory `m`, and of frame block `m`: what was written, else the configuration's, else 0 (R268). -/
def TileSt.leafInit (t : TileSt) (i : Nat) : Nat := t.initWord (18688 * 1024 + 40 * i)
def TileSt.leafWord (t : TileSt) (m i : Nat) : Nat := SMap.get t.leafInit t.leaf (m * 1024 + i)
def TileSt.setLeaf (t : TileSt) (m i v : Nat) : TileSt := { t with leaf := SMap.set t.leafInit t.leaf (m * 1024 + i) v }
def TileSt.frameInit (t : TileSt) (i : Nat) : Nat := t.initWord (25088 * 1024 + 40 * i)
def TileSt.frameWord (t : TileSt) (m i : Nat) : Nat := SMap.get t.frameInit t.frame (m * 8192 + i)
def TileSt.setFrame (t : TileSt) (m i v : Nat) : TileSt := { t with frame := SMap.set t.frameInit t.frame (m * 8192 + i) v }

/-- Width of a port's words and how many a 40-bit word holds (R265). -/
def shapeW (shape : Nat) : Nat := match shape with | 0 => 40 | 1 => 20 | 2 => 10 | 3 => 5 | _ => 32
def shapePer (shape : Nat) : Nat := match shape with | 0 => 1 | 1 => 2 | 2 => 4 | 3 => 8 | _ => 1

/-- Where a port's address lies: the 40-bit word, and the first bit in it (R265). -/
def portWord (p : LeafPort) (e : Nets) : Nat := bus e p.addr / shapePer p.shape % 1024
def portLsb (p : LeafPort) (e : Nets) : Nat := bus e p.addr % shapePer p.shape * shapeW p.shape

/-- Is the port active at an instant, and does it write? -/
def portOn (p : LeafPort) (e : Nets) (edges : Nat) : Bool := bit edges p.clk && net e p.en
def portWrites (p : LeafPort) (e : Nets) (edges : Nat) : Bool := portOn p e edges && net e p.we

/-- What the array holds at a port's address. -/
def portOld (p : LeafPort) (t : TileSt) (m : Nat) (e : Nets) : Nat :=
  t.leafWord m (portWord p e) / 2 ^ portLsb p e % 2 ^ shapeW p.shape

/-- A port's write into the array. -/
def portPut (p : LeafPort) (t : TileSt) (m : Nat) (e : Nets) : TileSt :=
  let v := t.leafWord m (portWord p e)
  let k := portLsb p e
  let w := shapeW p.shape
  t.setLeaf m (portWord p e) (v % 2 ^ k + 2 ^ k * (bus e p.din % 2 ^ w) + 2 ^ (k + w) * (v / 2 ^ (k + w)))

/-- What a port's output shows after an instant: the stored data, on its own write what its mode says (R266). -/
def portShow (p : LeafPort) (t : TileSt) (m : Nat) (e : Nets) (edges : Nat) (ns : Nets) : Nets :=
  if !(portOn p e edges) then ns
  else if !(portWrites p e edges) ∨ p.mode = 0 then setBus ns p.dout (portOld p t m e)
  else if p.mode = 1 then setBus ns p.dout (bus e p.din) else ns

/-- Do both ports write the same bits in one instant (R266)? -/
def leafCollides (a b : LeafPort) (e : Nets) (edges : Nat) : Bool :=
  portWrites a e edges && portWrites b e edges && portWord a e == portWord b e &&
  decide (portLsb a e < portLsb b e + shapeW b.shape ∧ portLsb b e < portLsb a e + shapeW a.shape)

/-- A leaf memory at an instant (R266): reads give the old data, port A's write stands over port B's, and a collision shows for one
cycle of port A's clock. -/
def leafStep (old t : TileSt) (m : Nat) (a b : LeafPort) (coll : Nat) (e : Nets) (edges : Nat) : TileSt :=
  let t1 := if portWrites b e edges then portPut b t m e else t
  let t2 := if portWrites a e edges then portPut a t1 m e else t1
  let n1 := portShow a old m e edges (portShow b old m e edges t2.nets)
  { t2 with nets := if bit edges a.clk then setNet n1 coll (leafCollides a b e edges) else n1 }

/-! ## Frame blocks (R269–R271) -/

/-- Words of the circular store in line mode: k lines of L (R270). -/
def frameSpan (c : FrameCfg) : Nat := 8192 / c.line * c.line

/-- The word a read gives (R269, R270): in line mode the one written d lines before the write position; for d = k on two clocks, or a d
that no tap has, a free value. -/
def frameRead (c : FrameCfg) (t : TileSt) (m : Nat) (e : Nets) (junk : Nat) : Nat :=
  let k := 8192 / c.line
  let d := bus e c.delay
  if c.line = 0 then t.frameWord m (bus e c.raddr % 8192)
  else if d = 0 ∨ k < d ∨ (d = k ∧ c.rclk ≠ c.wclk) then junk % 2 ^ 40
  else t.frameWord m ((SMap.get (fun _ => 0) t.pos m + frameSpan c - d * c.line) % frameSpan c)

/-- A frame block at an instant: the read gives the old data (R269), the write position advances and wraps (R270), and the word
that it overwrites is the next block's written word one cycle later (R271). -/
def frameStep (old t : TileSt) (m : Nat) (c : FrameCfg) (e : Nets) (edges junk : Nat) : TileSt :=
  let pos := SMap.get (fun _ => 0) old.pos m
  let din := match c.from_ with
    | some j => SMap.get (fun _ => 0) old.casc j
    | none => bus e c.din
  let at_ := if c.line = 0 then bus e c.waddr % 8192 else pos
  let t1 := if bit edges c.rclk && net e c.re then { t with nets := setBus t.nets c.dout (frameRead c old m e junk) } else t
  if bit edges c.wclk && net e c.we then
    let t2 := t1.setFrame m at_ (din % 2 ^ 40)
    if c.line = 0 then t2
    else { t2 with pos := SMap.set (fun _ => 0) t2.pos m ((pos + 1) % frameSpan c),
                   casc := SMap.set (fun _ => 0) t2.casc m (old.frameWord m pos) }
  else t1

/-! ## Arithmetic slices (R272–R275) -/

/-- The pre-adder's 25-bit value (R272). -/
def preAdd (op : Nat) (a d : Int) : Int := match op with | 0 => a + d | 1 => a - d | _ => a

/-- The accumulator's work before it saturates (R272). -/
def accWork (op : Nat) (acc m cin : Int) : Int := match op with | 0 => m | 1 => acc + m | _ => m + cin

/-- One clock of a slice (R272–R275): every stage takes what the stage before it held; `below` is the slice below as it was. The
pre-adder's result, the accumulator and the rounded result saturate to 24, 56 and `w` bits and set SAT, which SAT_CLR clears; the
running minimum takes in the latest rsb and the minimum from below, and a block's start sets it to 63. -/
def sliceStep (c : SliceCfg) (x below : SliceSt) (e : Nets) : SliceSt :=
  let p := preAdd c.pre x.a x.d
  let acc := accWork (bus e c.acc) x.acc x.m2 below.acc
  let r := roundShr x.acc c.n
  let clip := p != satTo 24 p || acc != satTo 56 acc || r != satTo c.w r
  let start := if c.below.isSome then below.clr else net e c.bxClr
  let up := if c.below.isSome then below.bx else 63
  { a := signed 24 (bus e c.a), d := signed 24 (bus e c.d), b := signed 20 (bus e c.b), v0 := net e c.valid,
    p := satTo 24 p, b1 := x.b, v1 := x.v0,
    m1 := x.p * x.b1, v2 := x.v1, m2 := x.m1, v3 := x.v2,
    acc := satTo 56 acc, v4 := x.v3, r := satTo c.w r, v5 := x.v4,
    sat := clip || (x.sat && !net e c.satClr),
    rs := if x.v5 then rsb c.w x.r else 63,
    bx := if start then 63 else min x.bx (min x.rs up), clr := start }

/-- A slice at an instant, with its outputs: R, SAT and BX_OUT. -/
def sliceTick (old t : TileSt) (m : Nat) (c : SliceCfg) (e : Nets) (edges : Nat) : TileSt :=
  if !bit edges c.clk then t
  else
    let of_ := fun (k : Nat) => SMap.get (fun _ => ({} : SliceSt)) old.slices k
    let y := sliceStep c (of_ m) (match c.below with | some k => of_ k | none => {}) e
    { t with slices := SMap.set (fun _ => ({} : SliceSt)) t.slices m y,
             nets := setBus (setNet (setBus t.nets c.r (unsigned c.w y.r)) c.sat y.sat) c.bx y.bx }

/-! ## Tick taps (R280–R282) -/

/-- A tap at an instant of its clock: a SLOT or TICK strobe comes through 2 cycles after it, with a tap clock that is no video PLL's
output 2 or 3 (R281); the take unit's pulses follow one a cycle (R282). -/
def State.tapTick (s : State) (n : Nat) (t : TileSt) (c : TapCfg) (edges junk : Nat) : TileSt :=
  if !bit edges c.clk then t
  else
    let new := if s.absSlot = t.seen then [] else [(if c.video then 1 else 1 + junk % 2, decide (s.slot = 0))]
    let due := t.tapQ.filter (fun x => x.1 == 1)
    let q := (t.tapQ.filter (fun x => x.1 != 1)).map (fun x => (x.1 - 1, x.2)) ++ new
    let k := (t.pulses.head?.map (fun x => x.1)).getD 0
    let n1 := setNet (setNet t.nets c.slot (!due.isEmpty)) c.tick (due.any (fun x => x.2))
    let n2 := setBus (setBus n1 c.slotNum s.slot) c.tickLo (s.tapBits (.tile n))
    let n3 := setNet n2 c.fault (s.tick.taps.any (fun y => y.1 == .tile n))
    let n4 := setNet (setNet (setNet n3 c.spec (k == 1)) c.commit (k == 2)) c.rollback (k == 3)
    { t with nets := setBus n4 c.ctx ((t.pulses.head?.map (fun x => x.2)).getD 0), seen := s.absSlot, tapQ := q, pulses := t.pulses.tail }

/-! ## A tile, and the fabric -/

/-- What reaches a tile's nets from outside it: nets of other tiles as their registers left them, and outside signals. -/
def State.inPart (s : State) (junk : Nat) (e : Nets) (x : Part × Nat) : Nets :=
  match x.1 with
  | .wire n tile src => setNet e n (net (SMap.get (fun _ => ({} : TileSt)) s.cells tile).nets src)
  | .outside n => setNet e n (bit junk x.2)
  | _ => e

/-- What a part's registers hold after an instant; `old` is the tile before it and `e` its nets. -/
def State.partTick (s : State) (n : Nat) (old : TileSt) (e : Nets) (edges junk : Nat) (t : TileSt) (x : Part × Nat) : TileSt :=
  let lut := SMap.get (fun _ => 0) old.lut x.2
  let setLut := fun (v : Nat) => { t with lut := SMap.set (fun _ => 0) t.lut x.2 v }
  match x.1 with
  | .ff c => { t with nets := setNet t.nets c.q (flopNext c e edges) }
  | .lutMem clk we addr din _ _ => if bit edges clk && net e we then setLut (lutMemNext lut e addr din) else t
  | .shifts clk ce din _ _ => if bit edges clk && net e ce then setLut (shiftsNext lut e din) else t
  | .leaf m a b coll => leafStep old t m a b coll e edges
  | .frame m c => frameStep old t m c e edges junk
  | .slice m c => sliceTick old t m c e edges
  | .tap c => s.tapTick n t c edges junk
  | _ => t

/-- The nets of a tile in an instant: its registers' outputs, what comes from outside, and its logic in the order signals flow. -/
def State.tileNets (s : State) (t : TileSt) (junk : Nat) : Nets := t.parts.foldl (logicPart t) (t.parts.foldl (s.inPart junk) t.nets)

/-- Leaf memories of a tile in which both ports write the same bits in an instant (R266). -/
def tileColls (t : TileSt) (e : Nets) (edges : Nat) : Nat :=
  t.parts.countP (fun x => match x.1 with | .leaf _ a b _ => leafCollides a b e edges | _ => false)

/-- One instant of a tile, on the fabric as the instant found it. -/
def State.tileInstant (s : State) (edges junk : Nat) (u : State) (x : Nat × TileSt) : State :=
  let e := s.tileNets x.2 junk
  let t := x.2.parts.foldl (s.partTick x.1 x.2 e edges junk) x.2
  let f := Reg.FAB.TILE_STATUS.LEAF_COLL_CNT x.1
  let u1 := u.wr f (u.rd f + tileColls x.2 e edges)
  { u1 with cells := SMap.set (fun _ => ({} : TileSt)) u1.cells x.1 t }

/-- One instant of the fabric, in which every configured tile whose domain is ON works (R260), but for those a swap holds: their
registers keep their values and their taps withhold pulses (R305); with none configured nothing happens. -/
def State.fabricInstant (s : State) : State :=
  if s.cells.isEmpty then s
  else
    let edges := s.free
    let junk := s.drew.free
    ((s.cells.filter (fun x => !s.molt.frozen.any (fun f => f.1 == x.1))).foldl (s.tileInstant edges junk) s).drew.drew

/-! ## Entering ON (R260, R268, R305, R313) -/

/-- A part's initial contents: flip-flops and LUT memory (R260, R262); what a memory's words start as is read from the configuration
(R268). -/
def initPart (t : TileSt) (x : Part × Nat) : TileSt :=
  match x.1 with
  | .ff c => { t with nets := setNet t.nets c.q c.init }
  | .lutMem _ _ _ _ _ init => { t with lut := SMap.set (fun _ => 0) t.lut x.2 (init % 2 ^ 512) }
  | .shifts _ _ _ _ init => { t with lut := SMap.set (fun _ => 0) t.lut x.2 (init % 2 ^ 256) }
  | _ => t

/-- A tile takes the configuration of its ACTIVE copy, with every flip-flop and memory at its initial value (R260, R268, R305). -/
def State.initTile (s : State) (t : Nat) : State :=
  if !s.domOn (13 + t / 4) then s
  else
    let c : TileSt := { frames := s.dramRead (s.activeAt t) (2 ^ 22), seen := s.absSlot }
    { s with cells := SMap.set (fun _ => ({} : TileSt)) s.cells t (c.parts.foldl initPart c) }

/-- The configured tiles of a fabric domain that enters ON (R260). -/
def State.initTiles (s : State) (d : Nat) : State := (s.molt.conf.filter (fun t => 13 + t / 4 == d)).foldl State.initTile s

/-- A reloaded tile takes the static frames of its ACTIVE copy, flip-flops at their initial values and memories as they are (R313). -/
def State.resetFlops (s : State) (t : Nat) : State :=
  let old := SMap.get (fun _ => ({} : TileSt)) s.cells t
  if old.frames.isEmpty then s
  else
    let c := { old with frames := s.dramRead (s.activeAt t) (18688 * 128) ++ old.frames.drop (18688 * 128) }
    { s with cells := SMap.set (fun _ => ({} : TileSt)) s.cells t (c.parts.foldl (fun t x =>
        match x.1 with | .ff f => { t with nets := setNet t.nets f.q f.init } | _ => t) c) }

/-- A tile that a swap held runs again: with its new configuration and contents, or after a scrub reload with its flip-flops at their
initial values; the first pulse it sees is the SLOT that begins (R305 step 4, R313). -/
def State.freeTile (s : State) (x : Nat × Bool) : State :=
  let s1 := if x.2 then s.resetFlops x.1 else s.initTile x.1
  { s1 with cells := SMap.mapAll (fun _ => ({} : TileSt)) (fun t c =>
    if t = x.1 then { c with seen := s.absSlot - 1, pulses := [], tapQ := [] } else c) s1.cells }

/-- The tiles that a swap holds run again. -/
def State.freeTiles (s : State) : State :=
  s.molt.frozen.foldl State.freeTile { s with molt := { s.molt with frozen := [] } }

/-- A tile is held from its swap to slot 1 (R305 step 2). -/
def State.holdTile (s : State) (t : Nat) (reload : Bool) : State :=
  { s with molt := { s.molt with frozen := s.molt.frozen.filter (fun f => f.1 != t) ++ [(t, reload)] } }

end Sys2Proof.Machine
end

