-- ==== Sys2Proof/Machine/Apply.lean ====
section
/-! DEFINITION. Accepted commands take effect at a tick boundary (R117): whichever row brings it about, work accepted for an earlier tick,
or received earlier for the same tick, goes first. -/

namespace Sys2Proof.Machine

/-- One accepted command takes effect. An engine inside an atomic group stops at its end, so its stop waits (R232). -/
def State.applyOne (s : State) (d : Due) : State :=
  match d.act with
  | .activate i => s.activate i
  | .release i => s.applyRelease i
  | .posture p c m => s.setPosture p c m
  | .port p c => s.applyPort p c
  | .flowAdd i => s.applyFlow i
  | .flowRemove i => s.dropFlow i
  | .subst i pol nr => s.applySubst i pol nr
  | .arm i k tr pat dur w ws => s.applyArm i k tr pat dur w ws
  | .disarm i => s.applyDisarm i
  | .gpiBind g b => s.applyBind g b
  | .tally g t => s.applyTally g t
  | .engStart e w => s.engStart e w
  | .engStop e => if s.engState e = engRunning ∧ (s.engine e).atom ≠ 0 then { s with due := s.due ++ [d] } else s.engStopNow e
  | .instar i g => { s with mesh := { s.mesh with instar := i, digest := g, setAt := some s.now } }

/-- The work of one kind that is due takes effect, with all that goes before it (R117); what changes the ledger is then what the boundary
leaves (R91, R150). -/
def State.applyDue (s : State) (k : Act → Bool) : State :=
  let all := s.dueNow
  let now := uptoLast k all
  let s1 : State := { s with due := s.due.filter (fun d => !decide (d.eff ≤ s.now)) ++ all.drop now.length }
  let s2 := now.foldl State.applyOne s1
  if now.isEmpty then s else if now.any (fun d => d.act.ledgered) then s2.settle else s2

/-- CONTRACT_ACTIVATION (R54, R71, R117): the activations due at this boundary take place. -/
def execContractActivation (s : State) : Res := .next (s.applyDue (fun a => match a with | .activate _ => true | _ => false))

/-- CONTRACT_RELEASE_APPLY (R54, R77, R117): the releases due at this boundary take place. -/
def execContractReleaseApply (s : State) : Res := .next (s.applyDue (fun a => match a with | .release _ => true | _ => false))

/-- POSTURE_APPLY (R62, R117): the posture change due at this boundary. -/
def execPostureApply (s : State) : Res := .next (s.applyDue (fun a => match a with | .posture _ _ _ => true | _ => false))

/-- PORT_CONFIG_APPLY (R117, R164). -/
def execPortConfigApply (s : State) : Res := .next (s.applyDue (fun a => match a with | .port _ _ => true | _ => false))

/-- FLOW_ADD_APPLY (R117, R165): the entries are valid. -/
def execFlowAddApply (s : State) : Res := .next (s.applyDue (fun a => match a with | .flowAdd _ => true | _ => false))

/-- FLOW_REMOVE_APPLY (R117, R139, R166): the entries go. -/
def execFlowRemoveApply (s : State) : Res := .next (s.applyDue (fun a => match a with | .flowRemove _ => true | _ => false))

/-- SUBST_POLICY_APPLY (R117, R157, R167). -/
def execSubstPolicyApply (s : State) : Res := .next (s.applyDue (fun a => match a with | .subst _ _ _ => true | _ => false))

/-- PRESET_ARM_APPLY (R117, R171, R172): presets become ACTIVE in the PRESET role. -/
def execPresetArmApply (s : State) : Res := .next (s.applyDue (fun a => match a with | .arm _ _ _ _ _ _ _ => true | _ => false))

/-- PRESET_DISARM_APPLY (R117, R172): presets are released. -/
def execPresetDisarmApply (s : State) : Res := .next (s.applyDue (fun a => match a with | .disarm _ => true | _ => false))

/-- GPI_BIND_APPLY (R117, R196). -/
def execGpiBindApply (s : State) : Res := .next (s.applyDue (fun a => match a with | .gpiBind _ _ => true | _ => false))

/-- TALLY_SET_APPLY (R117, R190, R197). -/
def execTallySetApply (s : State) : Res := .next (s.applyDue (fun a => match a with | .tally _ _ => true | _ => false))

/-- ENGINE_START_APPLY (R117, R231). -/
def execEngineStartApply (s : State) : Res := .next (s.applyDue (fun a => match a with | .engStart _ _ => true | _ => false))

/-- ENGINE_STOP_APPLY (R117, R232). -/
def execEngineStopApply (s : State) : Res := .next (s.applyDue (fun a => match a with | .engStop _ => true | _ => false))

/-- INSTAR_SET_APPLY (R117, R451). -/
def execInstarSetApply (s : State) : Res := .next (s.applyDue (fun a => match a with | .instar _ _ => true | _ => false))

end Sys2Proof.Machine
end

