-- ==== Sys2Proof/Machine/Molt.lean ====
section
/-! DEFINITION. Staging, molt and scrubbing (09_molt_and_scrub.md). -/

namespace Sys2Proof.Machine

/-! ## Staging and the plan (R300–R303) -/

def State.staging (s : State) : Nat := s.rd Reg.MOLT.STATUS.STAGING

/-- The staged tiles as a mask. -/
def State.stagedTiles (s : State) : Nat := s.rd Reg.MOLT.STAGED_LO.TILES_LO + s.rd Reg.MOLT.STAGED_HI.TILES_HI * 2 ^ 32

/-- The tiles of a mask in ascending order. -/
def maskTiles (m : Nat) : List Nat := (List.range 56).filter (fun t => bit m t)
def tilesMask (l : List Nat) : Nat := l.foldl setBit 0

/-- Cut a list into pieces of at most `n`. -/
def chunks (n : Nat) : Nat → List Nat → List (List Nat)
  | 0, _ => []
  | f + 1, l => if l.isEmpty then [] else l.take n :: chunks n f (l.drop n)

/-- The stages of a staged change (R302): globals alone first, then the tiles, at most 14 − 1 − the reserved ones each. -/
def State.planStages (s : State) : List Nat :=
  (if s.isSet Reg.MOLT.STAGED_HI.GLOBALS then [0] else []) ++
  (chunks (max 1 (13 - s.chryReserved)) 56 (maskTiles s.stagedTiles)).map tilesMask

/-- The tiles a stage touches: its own, or for the globals stage those that use what it changes (R303). -/
def State.stageTouches (s : State) (m : Nat) : Nat := if m = 0 then Config.globalTiles s.molt.digest else m

/-- The stages of a plan, 1 up, that touch a contract (R303). -/
def State.touching (s : State) (stages : List Nat) (c : Contract) : List Nat :=
  ((List.range stages.length).filter (fun k => s.stageTouches (stages.getD k 0) &&& s.contractTiles c != 0)).map (· + 1)

/-- The contracts a plan holds, with first and last stage (R303). -/
def State.heldBy (s : State) (stages : List Nat) : List (Nat × Nat × Nat) :=
  (s.liveWhere (fun c => !(s.touching stages c).isEmpty)).map (fun i =>
    let l := s.touching stages (s.contract i)
    (i, l.getD 0 0, l.getD (l.length - 1) 0))

/-- Clear the staging (R301, R316). -/
def State.clearStaging (s : State) : State :=
  let s1 := (((s.wr Reg.MOLT.STATUS.STAGING 0).setReg Reg.MOLT.STAGED_LO 0).setReg Reg.MOLT.STAGED_HI 0).wr Reg.MOLT.STATUS.N_STAGES 0
  { s1 with
    led := { s1.led with plane := [] },
    molt := { s1.molt with stages := [], planOf := none, addr := 0, len := 0 } }

/-- The sections a staging applies: its tiles, the globals, and the keys (R301). -/
def State.stagedSects (s : State) (rd : Reader) : List Sect :=
  (imgTable rd).filter (fun x => x.typ == 1 &&
    ((decide (x.arg < 56) && bit s.stagedTiles x.arg) || (x.arg == 0xFF && s.isSet Reg.MOLT.STAGED_HI.GLOBALS)))

/-- Load a stage of the plan, 1 up, into the chrysalis plane (R300, R301). -/
def State.loadStage (s : State) (k : Nat) : State :=
  { s with led := { s.led with plane := maskTiles (s.molt.stages.getD (k - 1) 0) } }

/-- The body of IMAGE_STAGE (R301, R316). -/
def cmdImageStage (p : List Byte) (_floor : Nat) (s : State) : Ans :=
  let a := u64 p 0
  let len := u64 p 8
  let mask := leAt p 16 7
  let glob := bit (u8 p 23) 0
  let rd := s.dramImage a
  let strong := (s.regionAt a).any (fun r => s.isSet (Reg.PMAP.REG_LO.CODE r) && s.rd (Reg.PMAP.REG_LO.STATE r) == 2 &&
    decide (a + len ≤ (s.rd (Reg.PMAP.REG_LO.BASE r) + s.rd (Reg.PMAP.REG_HI.SIZE r)) * 2 ^ 24))
  let tbl := imgTable rd
  let lacks := imgShape rd len && ((maskTiles mask).any (fun t => !(tbl.any (fun x => x.typ == 1 && x.arg == t))) ||
    (glob && !(tbl.any (fun x => x.typ == 1 && x.arg == 0xFF))))
  let code := s.imgCheck rd len
  let pend := s.isSet Reg.MOLT.STATUS.COMMIT_PEND
  if a = 0 then
    Ans.check s [(s.staging == 1, Sts.busy), (decide (1 < u8 p 23) || !zeroFrom p 24, Sts.badParam), (pend, Sts.badState)]
      (Ans.ok s.clearStaging)
  else
    Ans.check s
      [(s.staging == 1, Sts.busy),
       (mask / 2 ^ s.nTiles != 0, Sts.unitAbsent),
       (!s.domOn 4 || (maskTiles mask).any (fun t => decide (t < s.nTiles) && !s.domOn (13 + t / 4)), Sts.domainOff),
       (!strong || decide (s.storeBase < a + len) || lacks || decide (1 < u8 p 23) || !zeroFrom p 24,
         Sts.badParam),
       (pend, Sts.badState)]
      (match code with
       | some c => Ans.err (s.wr Reg.MOLT.STATUS.FAIL_CODE c) Sts.imageInvalid
       | none =>
         let s1 := ((((s.clearStaging.wr Reg.MOLT.STATUS.STAGING 1).wr Reg.MOLT.STAGED_LO.TILES_LO (mask % 2 ^ 32)).wr
           Reg.MOLT.STAGED_HI.TILES_HI (mask / 2 ^ 32)).flag Reg.MOLT.STAGED_HI.GLOBALS glob).wr Reg.MOLT.STAGED_INSTAR.INSTAR (imgInstar rd)
         Ans.say { s1 with molt := { s1.molt with addr := a, len := len, digest := imgDigest rd } } Sts.ok 0 (toLe 4 (imgInstar rd)))

/-- IMAGE_STAGE (R316). -/
def execImageStage (h : Hdr) (p : List Byte) (s : State) : Res := .next (command 0x0701 h p (cmdImageStage p) s)

/-- STAGING_END (R301): digests and frame CRCs of the named sections are checked; the tiles stand in their STAGED copies and
the first stage in the plane, or the staging is cleared. -/
def execStagingEnd (s : State) : Res :=
  if s.staging ≠ 1 then .next s
  else
    let rd := s.dramImage s.molt.addr
    let l := s.stagedSects rd
    match sectsCheck rd l with
    | some c => .next (((s.clearStaging.wr Reg.MOLT.STATUS.STAGING 3).wr Reg.MOLT.STATUS.FAIL_CODE c).evt Reg.MOLT.EVENT.STAGE_FAIL)
    | none =>
      let s1 := (l.filter (fun x => decide (x.arg < 56))).foldl (fun t x => t.dramWrite (t.stagedAt x.arg) (frameData (sectBytes rd x))) s
      let st := s1.planStages
      let s2 : State := { s1 with molt := { s1.molt with stages := st, planOf := none, staged := imgMasks rd } }
      .next ((((s2.wr Reg.MOLT.STATUS.STAGING 2).wr Reg.MOLT.STATUS.N_STAGES st.length).loadStage 1).evt Reg.MOLT.EVENT.STAGE_DONE)

/-- The contract table as PLAN_ID sees it (R317): index and generation with state of every contract not RELEASED. -/
def State.tableSig (s : State) : List (Nat × Nat) := s.live.map (fun i => (i, (s.contract i).gen * 8 + (s.contract i).st.code))

/-- The plan's PLAN_ID: a new one whenever staging or table changed since the last (R317). -/
def State.planNow (s : State) : State × Nat :=
  if s.molt.planOf = some (s.molt.planId, s.tableSig) then (s, s.molt.planId)
  else
    let n := s.molt.planId + 1
    ({ s with molt := { s.molt with planId := n, planOf := some (n, s.tableSig) } }, n)

/-- An ON_AIR contract is among the held ones. -/
def State.onAirHeld (s : State) : List Nat :=
  ((s.heldBy s.molt.stages).filter (fun x => (s.contract x.1).d.cls == 0)).map (·.1)

/-- A device that may start a staggered molt: a paired PRIMARY (R309, R317). -/
def State.staggerable (s : State) : Bool := s.rd Reg.TWIN.CFG.ROLE == 1 && s.paired

/-- The body of MOLT_PLAN (R317). -/
def cmdMoltPlan (h : Hdr) (p : List Byte) (_floor : Nat) (s : State) : Ans :=
  let stag := bit (u8 p 12) 0
  let held := s.heldBy s.molt.stages
  let n := s.molt.stages.length
  let b := [BitVec.ofNat 8 n, 0] ++ toLe 2 held.length ++ toLe 12 0 ++
    s.molt.stages.flatMap (fun m => toLe 7 m ++ [if m = 0 then 1 else 0] ++ toLe 8 0) ++
    held.flatMap (fun x => toLe 4 ((s.contract x.1).id x.1) ++ [BitVec.ofNat 8 (s.contract x.1).d.cls, BitVec.ofNat 8 x.2.1,
      BitVec.ofNat 8 x.2.2] ++ toLe 9 0)
  Ans.check s
    [(decide (1 < u8 p 12) || !zeroFrom p 13 || h.spiBad (u64 p 0) (u32 p 8), Sts.badParam),
     (s.staging != 2 || (stag && !s.staggerable), Sts.badState),
     (!s.onAirHeld.isEmpty && !h.allowHold && !stag, Sts.wouldBreak)]
    (let r := s.planNow
     let res := [BitVec.ofNat 8 n, 0] ++ toLe 2 held.length ++ toLe 2 s.onAirHeld.length ++ toLe 2 0 ++ toLe 4 r.2 ++ toLe 4 b.length
     if u32 p 8 < b.length then Ans.say r.1 Sts.ok 0 res else Ans.say (r.1.writeBuf h (u64 p 0) b) Sts.ok 0 res)

/-- MOLT_PLAN (R317). -/
def execMoltPlan (h : Hdr) (p : List Byte) (s : State) : Res := .next (command 0x0702 h p (cmdMoltPlan h p) s)

/-- A commit begins (R304, R309): its first stage lands at tick `t`; `mode` is the STAGGER code, `bound` the boundary S. -/
def State.startMolt (s : State) (t mode bound : Nat) : State :=
  let s1 : State := { s with molt := { s.molt with tick := t, late := 0, bound := bound, held := [] } }
  ((s1.wr Reg.MOLT.STATUS.COMMIT_PEND 1).wr Reg.MOLT.STATUS.NEXT 1).wr Reg.MOLT.STATUS.STAGGER mode

/-- What the devices of a twin compare of their staging: image digest, INSTAR, tile mask, globals flag (R309). -/
def State.stageFacts (s : State) : List Byte :=
  toLe 48 s.molt.digest ++ toLe 4 (s.rd Reg.MOLT.STAGED_INSTAR.INSTAR) ++ toLe 8 s.stagedTiles ++ toLe 1 (s.rd Reg.MOLT.STAGED_HI.GLOBALS)

/-- The body of MOLT_COMMIT (R309, R318). With STAGGER the PRIMARY tells its staging and T to its partner, and starts once the
partner has `agreed` on T = `floor`. -/
def cmdMoltCommit (h : Hdr) (p : List Byte) (agreed : Bool) (floor : Nat) (s : State) : Ans :=
  let stag := bit (u8 p 4) 0
  let q := if u8 p 5 = 0 then 8 else u8 p 5
  let eff := effTick (u64 p 8) (if agreed then floor else s.now + 2)
  let m := s.molt.stages.length
  Ans.check s
    [(s.mode != 3 && s.mode != 4, Sts.modeRefused),
     (decide (1 < u8 p 4) || decide (64 < u8 p 5) || !zeroAt p 6 2 || !zeroFrom p 16, Sts.badParam),
     (s.staging != 2 || s.isSet Reg.MOLT.STATUS.COMMIT_PEND || s.molt.planOf != some (u32 p 0, s.tableSig) || (stag && !s.staggerable),
       Sts.badState),
     (!s.onAirHeld.isEmpty && !h.allowHold && !stag, Sts.wouldBreak)]
    (if stag && agreed then Ans.say (s.startMolt (eff.1 + m + q) 2 (eff.1 + m + q)) eff.2 eff.1 []
     else if stag then
       let s1 : State := { s with xp := { s.xp with twinWait := s.xp.twinWait ++ [⟨0x0703, h, p, s.now⟩] } }
       Ans.wait (s1.emit (.twinCmd 0x0703 h (fitTo 48 p ++ s.stageFacts) eff.1))
     else Ans.say (s.startMolt eff.1 0 0) eff.2 eff.1 [])

/-- MOLT_COMMIT (R318). -/
def execMoltCommit (h : Hdr) (p : List Byte) (s : State) : Res := .next (command 0x0703 h p (cmdMoltCommit h p false) s)

/-- The SECONDARY's half of a staggered commit from tick `t`, where its staging is the PRIMARY's (R309); none where it is not. -/
def State.moltSecondary (s : State) (p : List Byte) (t : Nat) : Option State :=
  let q := if u8 p 5 = 0 then 8 else u8 p 5
  if s.staging = 2 ∧ ¬ s.isSet Reg.MOLT.STATUS.COMMIT_PEND ∧ p.drop 48 = s.stageFacts then
    some (s.startMolt t 1 (t + s.molt.stages.length + q))
  else none

/-! ## The swap (R305–R308) -/

/-- MOLT_STAGE_CHECK (R305 step 1, R307): a failed check reloads the stage and postpones it by a tick; after 4 postponements
the remaining stages are abandoned and the staging kept. -/
def execMoltStageCheck (ok : Bool) (s : State) : Res :=
  if ¬ s.ownStages ∨ s.now + 1 ≠ s.molt.tick ∨ ok then .next s
  else if s.molt.late = 4 then
    let s0 := s.molt.held.foldl (fun t i => t.ceaseHold i .molt) s
    let s1 := if s.isSet Reg.MOLT.STATUS.MUTED then s0.moltUnmute else s0
    let k := s.rd Reg.MOLT.STATUS.NEXT - 1
    let s2 : State := { s1 with molt := { s1.molt with stages := s1.molt.stages.drop k, planOf := none, held := [] } }
    .next (((((s2.wr Reg.MOLT.STATUS.COMMIT_PEND 0).wr Reg.MOLT.STATUS.NEXT 0).wr Reg.MOLT.STATUS.N_STAGES s2.molt.stages.length).wr
      Reg.MOLT.STATUS.STAGGER 0).evt Reg.MOLT.EVENT.MOLT_ABORTED)
  else
    let s1 : State := { s with molt := { s.molt with tick := s.molt.tick + 1, late := s.molt.late + 1 } }
    .next (((s1.loadStage (s.rd Reg.MOLT.STATUS.NEXT)).evt Reg.MOLT.EVENT.MOLT_LATE).bump Reg.MOLT.COUNT.LATE_CNT)

/-- Fabric PLLs, video PLLs and fabric port clocks as the globals of an image set them (R277, R278, R284). -/
def State.bootGlobals (s : State) (dg : Nat) : State :=
  let die := fun (n : Nat) => if s.ident.variant = 3 then n / 2 else n
  let s1 := (List.range (die 16)).foldl (fun t k =>
    let on := if Config.fpllOn dg k = 0 then 0 else 1
    (t.wr (Reg.FAB.FPLL_STATUS.EN k) on).wr (Reg.FAB.FPLL_STATUS.LOCKED k) on) s
  let s2 := (List.range (die 4)).foldl (fun t k =>
    let on := if Config.vpllK dg k = 0 then 0 else 1
    ((t.wr (Reg.FAB.VPLL_STATUS.K k) (Config.vpllK dg k)).wr (Reg.FAB.VPLL_STATUS.LOCKED k) on).wr (Reg.FAB.VPLL_STATUS.ALIGNED k) on) s1
  (List.range s.nFports).foldl (fun t n =>
    (t.wr (Reg.FAB.FPORT_CFG.EN n) (if Config.fportKhz dg n = 0 then 0 else 1)).wr (Reg.FAB.FPORT_CFG.CLK_KHZ n) (Config.fportKhz dg n)) s2

/-- A swapped tile's STAGED copy becomes ACTIVE, and it is configured; it runs from slot 1 (R305 steps 2–4). -/
def State.swapTile (s : State) (t : Nat) : State :=
  let s1 := s.dramWrite (s.activeAt t) (s.dramRead (s.stagedAt t) (2 ^ 22))
  let mask := SMap.get (fun _ => []) s1.molt.staged t
  ({ s1 with molt := { s1.molt with
    conf := if s1.molt.conf.contains t then s1.molt.conf else s1.molt.conf ++ [t],
    masks := SMap.set (fun _ => []) s1.molt.masks t mask } } : State).holdTile t false

/-- The responses of a fabric port's memory requests in flight are discarded (R306). -/
def State.mutePort (s : State) (n : Nat) : State :=
  { s with dram := { s.dram with mcs := SMap.mapAll (fun _ => ({} : McDyn)) (fun _ d =>
    { d with queue := updWhere (fun x => x.src == n + 1) (fun x => { x with mute := true }) d.queue }) s.dram.mcs } }

/-- The fabric ports whose logic lies in swapped tiles: receive buffers empty, responses in flight are discarded, locks released (R306,
R523). -/
def State.swapPorts (s : State) (mask : Nat) : State :=
  let ps := (List.range s.nFports).filter (fun n => Config.portTiles s.boot.imgDigest n &&& mask != 0)
  ps.foldl (fun t n =>
    { ((t.orphan (288 + n)).mutePort n) with strm := { t.strm with arrived := SMap.set (fun _ => []) t.strm.arrived n [] } }) s

/-- The swap of a stage: its tiles, or for the globals stage the clocks (R302, R305 step 3). -/
def State.swapStage (s : State) (m : Nat) : State :=
  if m = 0 then s.bootGlobals s.molt.digest else ((maskTiles m).foldl State.swapTile s).swapPorts m

/-- MOLT_STAGE_SWAP (R303, R305–R309): at its boundary every tile of the stage swaps; contracts it touches are HELD until the
boundary after the last stage that touches them. A SECONDARY in a staggered molt mutes at its first stage every contract the molt holds. -/
def execMoltStageSwap (s : State) : Res :=
  if ¬ s.ownStages ∨ s.molt.tick ≠ s.now then .next s
  else
    let k := s.rd Reg.MOLT.STATUS.NEXT
    let m := s.nextStage
    let muted := s.rd Reg.MOLT.STATUS.STAGGER = 1
    let touched := (s.heldBy s.molt.stages).filter (fun x => decide (x.2.1 ≤ k ∧ k ≤ x.2.2))
    let s0 := if muted then (s.heldBy s.molt.stages).foldl (fun t x => t.updContract x.1 (fun c => { c with muted := true })) s else s
    let s1 := touched.foldl (fun t x => t.hold x.1 .molt (if x.2.2 = k then some (s.now + 1) else none)) s0
    let s2 := s1.swapStage m
    let held := touched.foldl (fun l x => if l.contains x.1 then l else l ++ [x.1]) s2.molt.held
    let s3 : State := { s2 with molt := { s2.molt with held := held, tick := s.now + 1, late := 0 } }
    let s4 := ((if muted then s3.wr Reg.MOLT.STATUS.MUTED 1 else s3).evt Reg.MOLT.EVENT.STAGE_APPLIED).bump Reg.MOLT.COUNT.STAGE_CNT
    if k < s.molt.stages.length then .next ((s4.wr Reg.MOLT.STATUS.NEXT (k + 1)).loadStage (k + 1))
    else
      let s5 := ((s4.wr Reg.MOLT.INSTAR.INSTAR (s4.rd Reg.MOLT.STAGED_INSTAR.INSTAR)).wr Reg.MOLT.STATUS.NEXT 0).wr Reg.MOLT.STATUS.COMMIT_PEND 0
      let s6 : State := { s5 with boot := { s5.boot with imgDigest := s5.molt.digest } }
      let s7 := s6.clearStaging
      .next (if s.rd Reg.MOLT.STATUS.STAGGER = 0 then s7.evt Reg.MOLT.EVENT.MOLT_DONE
        else if s.rd Reg.TWIN.CFG.ROLE = 1 then s7.wr Reg.MOLT.STATUS.STAGGER 3 else s7)

/-! ## Staggered molt on a twin (R309) -/

/-- STAGGER_HANDOVER (R309 step 3): at boundary S the SECONDARY unmutes, carries and drives CHG_SEL; the PRIMARY mutes the
same outputs and runs its own stages. -/
def execStaggerHandover (s : State) : Res :=
  if s.now ≠ s.molt.bound ∨ s.rd Reg.MOLT.STATUS.STAGGER = 0 then .next s
  else if s.rd Reg.TWIN.CFG.ROLE = 1 then
    let l := (s.heldBy s.molt.stages).map (·.1)
    let s1 := l.foldl (fun t i => t.updContract i (fun c => { c with muted := true })) (s.setChg false)
    .next ((s1.wr Reg.MOLT.STATUS.MUTED 1).wr Reg.MOLT.STATUS.STAGGER 1)
  else .next ((s.moltUnmute.wr Reg.TWIN.STATUS.CHG_SEL 1).wr Reg.MOLT.STATUS.STAGGER 2)

/-- STAGGER_MATCH_COMPLETE (R309 step 6): after 8 matching ticks the PRIMARY unmutes and takes CHG_SEL back. -/
def execStaggerMatchComplete (s : State) : Res :=
  if s.rd Reg.MOLT.STATUS.STAGGER < 2 ∨ s.isSet Reg.MOLT.STATUS.COMMIT_PEND then .next s
  else if s.rd Reg.TWIN.CFG.ROLE = 1 then
    .next (((s.moltUnmute.setChg true).wr Reg.MOLT.STATUS.STAGGER 0).evt Reg.MOLT.EVENT.MOLT_DONE)
  else .next (((s.wr Reg.TWIN.STATUS.CHG_SEL 0).wr Reg.MOLT.STATUS.STAGGER 0).evt Reg.MOLT.EVENT.MOLT_DONE)

/-! ## Scrubbing (R311–R314) -/

/-- A reload starts the exit of every channel in self-refresh (R344). -/
def State.srWake (s : State) : State :=
  ((List.range s.nMcs).filter (fun m => s.mcState m == 3)).foldl (fun t m => t.wr (Reg.MC.STATUS.SR_PEND m) 1) s

/-- A multi-bit error in a tile (R313, R314, R344); one in a tile whose reload waits adds nothing. -/
def State.tileReload (s : State) (t : Nat) : State :=
  let hit := s.liveWhere (fun c => bit (s.contractTiles c) t)
  let s0 : State := { s with twin := { s.twin with eccTick := s.now } }
  if s.ownStages ∧ s.molt.tick = s.now + 1 ∧ bit s.nextStage t then s0.holdAll hit .reload (some (s.now + 2))
  else if s.molt.reloads.any (fun r => r.tile == t) then s0
  else if s.pwr.seqs.any (fun q => q.dom == 13 + t / 4 && q.st != 3 && q.running) then s0
  else
    let late := decide (s.slots - 64 ≤ s.slot)
    let base := if late then s.now + 2 else s.now + 1
    let at_ := match s.molt.reloads.getLast? with
      | some r => r.tick + 1
      | none => base
    let s1 := (s0.holdAll hit .reload (some (at_ + 1))).wr (Reg.SCRUB.TILE.RELOAD_PEND t) 1
    let s2 : State := { s1 with molt := { s1.molt with reloads := s1.molt.reloads ++ [⟨t, at_⟩] } }
    let s3 := s2.srWake
    if late then s3.evt Reg.MOLT.EVENT.RELOAD_LATE else s3

/-- Does the tile's SCRUB_MASK mark frame `f` (R264, R295, R311)? -/
def State.scrubMasked (s : State) (t f : Nat) : Bool := bit (u8 (SMap.get (fun _ => []) s.molt.masks t) (f / 8)) (f % 8)

/-- Is frame `f` of tile `t` the end of a pass of the device (R311)? -/
def State.passEnd (s : State) (t f : Nat) : Bool :=
  f == 18687 && t == (s.molt.conf.filter (fun x => s.domOn (13 + x / 4))).foldl min t

/-- SCRUB_FRAME_READ (R311–R314): a tile's scrubber comes to frame `f`, which it skips where the tile's mask marks it; `err` 0 none, 1
single-bit, 2 multi-bit. -/
def execScrubFrameRead (t f err : Nat) (s : State) : Res :=
  if s.nTiles ≤ t ∨ 18688 ≤ f ∨ ¬ s.domOn (13 + t / 4) then .next s
  else
    let s0 := if s.passEnd t f then s.bump Reg.SCRUB.LAST.PASS_CNT else s
    if err = 0 ∨ s.scrubMasked t f then .next s0
    else
      let s1 := ((s0.wr Reg.SCRUB.LAST.TILE t).wr Reg.SCRUB.LAST.FRAME f).flag Reg.SCRUB.LAST.MULTI (err != 1)
      if err = 1 then .next (((s1.bump (Reg.SCRUB.TILE.CORR_CNT t)).corrected (38 + t) 1 f).evt Reg.MOLT.EVENT.SCRUB_CORRECTED)
      else .next (s1.tileReload t)

/-- SCRUB_RELOAD_SWAP (R313): the reloaded tile swaps in at its boundary and runs from slot 1; its contracts leave HELD at the next
boundary. -/
def execScrubReloadSwap (s : State) : Res :=
  let due := s.molt.reloads.filter (fun r => decide (r.tick ≤ s.now))
  let s1 : State := { s with molt := { s.molt with reloads := s.molt.reloads.filter (fun r => !decide (r.tick ≤ s.now)) } }
  .next (due.foldl (fun t r => (((t.bump (Reg.SCRUB.TILE.RELOAD_CNT r.tile)).wr (Reg.SCRUB.TILE.RELOAD_PEND r.tile) 0).evt
    Reg.MOLT.EVENT.SCRUB_RELOAD).holdTile r.tile true) s1)

/-- The body of SCRUB_STATUS (R319). -/
def cmdScrubStatus (p : List Byte) (_floor : Nat) (s : State) : Ans :=
  let t := u8 p 0
  let all := List.range s.nTiles
  let sum := fun (f : Nat → Fld) => all.foldl (fun a k => a + s.rd (f k)) 0
  let corr := if t = 0xFF then sum Reg.SCRUB.TILE.CORR_CNT else s.rd (Reg.SCRUB.TILE.CORR_CNT t)
  let rel := if t = 0xFF then sum Reg.SCRUB.TILE.RELOAD_CNT else s.rd (Reg.SCRUB.TILE.RELOAD_CNT t)
  Ans.check s
    [(decide (t < 56 ∧ s.nTiles ≤ t), Sts.unitAbsent), (decide (t < 56) && !s.domOn (13 + t / 4), Sts.domainOff),
     (decide (56 ≤ t ∧ t ≠ 0xFF) || !zeroFrom p 1, Sts.badParam)]
    (Ans.say s Sts.ok 0 (toLe 4 corr ++ toLe 2 rel ++ toLe 2 (s.rd Reg.SCRUB.LAST.PASS_CNT) ++ toLe 1 (s.rd Reg.SCRUB.LAST.TILE) ++
      toLe 1 (s.rd Reg.SCRUB.LAST.MULTI) ++ toLe 2 (s.rd Reg.SCRUB.LAST.FRAME)))

/-- SCRUB_STATUS (R319). -/
def execScrubStatus (h : Hdr) (p : List Byte) (s : State) : Res := .next (command 0x0704 h p (cmdScrubStatus p) s)

end Sys2Proof.Machine
end

