-- ==== Sys2Proof/Machine/Power.lean ====
section
/-! DEFINITION. Supplies, power domains, operating points, clocks and temperature (15_power_and_clocks.md). -/

namespace Sys2Proof.Machine

/-! ## Supply inputs (R452–R456) -/

/-- The VIN path moves to VIN_B (true) or VIN_A (R453). -/
def State.pathTo (s : State) (b : Bool) : State :=
  if s.isSet Reg.PWR.SUPPLY.SEL = b then s
  else (s.flag Reg.PWR.SUPPLY.SEL b).evt (if b then Reg.PWR.EVENT.PATH_SWITCH else Reg.PWR.EVENT.PATH_RETURN)

/-- VIN_INPUT_FAULT (R453): VIN_A (false) or VIN_B meets its fault condition. A fault of A commits the path to B; a fault of B
ends the use of B that FORCE_B asked for, while A is not faulted. -/
def execVinInputFault (b : Bool) (s : State) : Res :=
  if b then
    let s1 := (s.wr Reg.PWR.SUPPLY.B_OK 0).evt Reg.PWR.EVENT.B_LOST
    .next (if s1.isSet Reg.PWR.SUPPLY.A_OK ∧ s1.isSet Reg.PWR.CFG.FORCE_B then s1.pathTo false else s1)
  else .next (((s.wr Reg.PWR.SUPPLY.A_OK 0).evt Reg.PWR.EVENT.A_LOST).pathTo true)

/-- VIN_RETURN_QUALIFIED (R453): an input has stayed in range for RETURN_MS; the path returns to A provided B is not faulted,
and not while FORCE_B holds it on B. -/
def execVinReturnQualified (b : Bool) (s : State) : Res :=
  if b then
    let s1 := s.wr Reg.PWR.SUPPLY.B_OK 1
    .next (if s1.isSet Reg.PWR.CFG.FORCE_B then s1.pathTo true else s1)
  else
    let s1 := s.wr Reg.PWR.SUPPLY.A_OK 1
    .next (if s1.isSet Reg.PWR.SUPPLY.B_OK ∧ ¬ s1.isSet Reg.PWR.CFG.FORCE_B then s1.pathTo false else s1)

/-- The VAUX path moves (R453). -/
def State.auxTo (s : State) (b : Bool) : State :=
  if s.isSet Reg.PWR.SUPPLY.AUX_SEL = b then s else (s.flag Reg.PWR.SUPPLY.AUX_SEL b).evt Reg.PWR.EVENT.AUX_SWITCH

/-- VAUX_INPUT_FAULT (R453): VAUX_A (false) or VAUX_B faults; a fault of A commits the path to B. -/
def execVauxInputFault (b : Bool) (s : State) : Res :=
  let s1 := s.evt Reg.PWR.EVENT.AUX_LOST
  .next (if b then s1.wr Reg.PWR.SUPPLY.AUX_B_OK 0 else (s1.wr Reg.PWR.SUPPLY.AUX_A_OK 0).auxTo true)

/-- VAUX_RETURN_QUALIFIED (R453). -/
def execVauxReturnQualified (b : Bool) (s : State) : Res :=
  if b then .next (s.wr Reg.PWR.SUPPLY.AUX_B_OK 1)
  else
    let s1 := s.wr Reg.PWR.SUPPLY.AUX_A_OK 1
    .next (if s1.isSet Reg.PWR.SUPPLY.AUX_B_OK then s1.auxTo false else s1)

/-- PWR_FORCE_B_WRITE (R453): while set and B not faulted, the path uses B; cleared, it returns to an unfaulted A. -/
def execPwrForceBWrite (v : Bool) (s : State) : Res :=
  let s1 := s.flag Reg.PWR.CFG.FORCE_B v
  .next (if v then (if s1.isSet Reg.PWR.SUPPLY.B_OK then s1.pathTo true else s1)
    else if s1.isSet Reg.PWR.SUPPLY.A_OK then s1.pathTo false else s1)

/-- Steps 1–4 of R455 for a cause, controller `mc` with cause 4: LAST_FAULT, FAULT_N, idle, fault message, reset held. -/
def State.supplyStop (s : State) (cause mc : Nat) (h : Hold) : State :=
  let s1 := (((s.wr Reg.PWR.LAST_FAULT.CAUSE cause).wr Reg.PWR.LAST_FAULT.MC (if cause = 4 then mc else 0)).wr
    Reg.PWR.LAST_FAULT.TICK_LO s.now).wr Reg.FAULT.STATUS.FAULT_N 1
  (s1.goSilent cause).holdReset h

/-- SUPPLY_FAULT (R455): 1 the VIN path, 2 VLANE, 3 VLANE_HV, 4 VDDQ of a present controller. During Eclosion it ends the
attempt with 0x06 (R486). -/
def execSupplyFault (cause mc : Nat) (s : State) : Res :=
  if cause = 0 ∨ 4 < cause ∨ (cause = 4 ∧ s.nMcs ≤ mc) then .next s
  else
    let s1 := match cause with
      | 2 => s.wr Reg.PWR.SUPPLY.VLANE_OK 0
      | 3 => s.wr Reg.PWR.SUPPLY.VLANE_HV_OK 0
      | 4 => s.wr Reg.PWR.SUPPLY.VDDQ_OK (clrBit (s.rd Reg.PWR.SUPPLY.VDDQ_OK) mc)
      | _ => s
    let s2 := if s1.mode = 1 then s1.countFail 6 else s1
    .next (s2.supplyStop cause mc .supply)

/-- SUPPLY_RECOVERY (R455): every faulted input and rail in range for 100 ms; Eclosion starts. -/
def execSupplyRecovery (s : State) : Res :=
  if s.pwr.hold = .supply then
    let s1 := ((s.wr Reg.PWR.SUPPLY.VLANE_OK 1).wr Reg.PWR.SUPPLY.VLANE_HV_OK 1).wr Reg.PWR.SUPPLY.VDDQ_OK (2 ^ s.nMcs - 1)
    .next { s1 with pwr := { s1.pwr with hold := .none } }
  else .next s

/-- VIO_FAULT (R455). -/
def execVioFault (s : State) : Res := .next ((s.wr Reg.PWR.SUPPLY.VIO_OK 0).evt Reg.PWR.EVENT.VIO_FAULT)

/-- VAUX_LOSS (R456): PD00 loses power and every state with it; the flash, the fuses and what lies outside stay. -/
def execVauxLoss (s : State) : Res :=
  .next { pending := s.pending, ident := s.ident, hostMem := s.hostMem, out := s.out, freed := s.freed, boot := { flash := s.boot.flash },
          pwr := { hold := .off } }

/-! ## Domains (R457–R461) -/

/-- The states a domain offers (R457). -/
def domOffers (d st : Nat) : Bool :=
  if 5 ≤ d ∧ d ≤ 12 then decide (st ≤ 3) else if 13 ≤ d ∧ d ≤ 26 then st == 0 || st == 1 || st == 3 else st == 0 || st == 3

/-- The domains that `d` needs ON while it is ON or MEM (R457, R458). -/
def domNeeds (d : Nat) : List Nat := if d = 1 then [0] else if 5 ≤ d ∧ d ≤ 26 then [3, 4] else if d = 0 then [] else [1]

/-- A domain's state as a list of states tells it. -/
def stAt (l : List Nat) (d : Nat) : Nat := l.getD d 0

def setAt (l : List Nat) (d x : Nat) : List Nat := l.set d x

/-- The states once the sequences that run or are queued no later than tick `t` have completed (R458, R459). -/
def State.domAfter (s : State) (t : Nat) : List Nat :=
  (s.pwr.seqs.filter (fun q => q.running || decide (q.tick ≤ t))).foldl (fun l q => setAt l q.dom q.st) ((List.range 30).map s.dom)

/-- The state a domain will hold when all its sequences end. -/
def State.domFinal (s : State) (d : Nat) : Nat := s.pwr.seqs.foldl (fun x q => if q.dom = d then q.st else x) (s.dom d)

/-- Do the sequences queued behind tick `t` still find what they need, from the states `l` on (R458)? -/
def State.behindOk (s : State) (t : Nat) (l : List Nat) : Bool :=
  ((s.pwr.seqs.filter (fun q => !q.running && decide (t < q.tick))).foldl (fun (a : List Nat × Bool) q =>
    (setAt a.1 q.dom q.st, a.2 && (decide (q.st < 2) || (domNeeds q.dom).all (fun n => stAt a.1 n == 3)))) (l, true)).2

/-- Queue a sequence in order of tick, behind equal ticks (R459). -/
def insertSeq (q : DomSeq) : List DomSeq → List DomSeq
  | [] => [q]
  | x :: xs => if x.running ∨ x.tick ≤ q.tick then x :: insertSeq q xs else q :: x :: xs

/-- DOM_BUSY and DOM_PEND follow the queue. -/
def State.showSeqs (s : State) : State :=
  let busy := (s.pwr.seqs.filter (·.running)).foldl (fun m q => setBit m q.dom) 0
  let pend := (s.pwr.seqs.filter (fun q => !q.running)).foldl (fun m q => setBit m q.dom) 0
  (s.wr Reg.PWR.DOM_BUSY.DOMAINS busy).wr Reg.PWR.DOM_PEND.DOMAINS pend

/-- Chapter refusals with BAD_STATE for a domain leaving ON (R304, R347, R387, R415). -/
def State.domHeldBad (s : State) (d : Nat) : Bool :=
  (d == 2 && ((List.range 64).any (fun r => s.isSet (Reg.PMAP.REG_LO.EN r) && s.rd (Reg.PMAP.REG_LO.KID r) != 0) ||
    !s.sec.sas.isEmpty || (List.range 6).any (fun k => (s.link k).key0 != 0 || (s.link k).key1 != 0))) ||
  (decide (27 ≤ d) && ((List.range 96 ++ (List.range 16).map (128 + ·)).any (fun l =>
    laneDom l == d && s.lanePresent l && (s.laneFunc l == funcPort || s.laneFunc l == funcLink)))) ||
  (decide (13 ≤ d ∧ d ≤ 26) && s.staging != 0 && (List.range 4).any (fun i => bit s.stagedTiles (4 * (d - 13) + i)))

/-- Does a contract that is not RELEASED stand in the way of a domain leaving ON (R78, R228, R260, R347, R415)? -/
def State.domBreaks (s : State) (d : Nat) : Bool :=
  !(s.liveWhere (fun c =>
    d == 3 || (d == 4 && c.charges.any (fun x => x.res == 4)) ||
    (decide (5 ≤ d ∧ d ≤ 12) && s.usesTap c (.cluster (d - 5))) ||
    (decide (13 ≤ d ∧ d ≤ 26) && s.contractTiles c / 2 ^ (4 * (d - 13)) % 16 != 0) ||
    (decide (27 ≤ d) && (List.range 100).any (fun p => s.usesPort c p && (portLanes p (s.port p).kind).any (fun l => laneDom l == d))) ||
    (decide (27 ≤ d) && (List.range 6).any (fun k => c.usesLink k && (s.link k).lanes.any (fun l => laneDom l == d))))).isEmpty

/-- May a raise be charged (R460)? Not under the thermal alarm, nor beyond the cap in any environment. -/
def State.raiseFits (s : State) : Bool :=
  !s.isSet Reg.LEDGER.STATUS.THERM_BLOCK &&
  let v := s.envNow
  decide (s.maintPower v ≤ v.cap) && s.fits v ((s.chargesOf s.live).filter (fun c => c.res == 11))

/-- The body of DOMAIN_POWER (R458–R460, R477). -/
def cmdDomainPower (p : List Byte) (_floor : Nat) (s : State) : Ans :=
  let d := u8 p 0
  let st := u8 p 1
  let ok := decide (2 ≤ d ∧ d ≤ 29)
  let eff := effTick (u64 p 8) (s.now + 1)
  let seq : DomSeq := { dom := d, st := st, tick := eff.1 }
  let before := s.domAfter eff.1
  let cur := stAt before d
  let after := setAt before d st
  let needs := decide (2 ≤ st) && (domNeeds d).any (fun n => stAt before n != 3)
  let users := cur == 3 && st != 3 && (List.range 30).any (fun x => (domNeeds x).contains d && decide (2 ≤ stAt before x))
  let running := s.pwr.seqs.any (fun q => q.running && q.dom == d)
  let s1 : State := { s with pwr := { s.pwr with seqs := insertSeq seq s.pwr.seqs } }
  let sTry : State := { s with pwr := { s.pwr with seqs := s.pwr.seqs ++ [{ seq with running := true }] } }
  let same := ok && s.domFinal d == st
  Ans.check s
    [(ok && s.pwr.seqs.any (fun q => !q.running && q.dom == d), Sts.busy),
     (ok && !s.domPresent d, Sts.unitAbsent),
     (!ok || !domOffers d st || !zeroAt p 2 6 || !zeroFrom p 16, Sts.badParam),
     (!same && (needs || users || !s.behindOk eff.1 after || (cur == 3 && st != 3 && s.domHeldBad d)), Sts.badState),
     (!same && cur == 3 && st != 3 && s.domBreaks d, Sts.wouldBreak),
     (!same && decide (cur < st) && !sTry.raiseFits, Sts.powerCap)]
    (if same then Ans.say s Sts.ok eff.1 [0]
     else Ans.say s1.showSeqs (if eff.2 = Sts.ok ∧ running then Sts.deferred else eff.2) eff.1
      [BitVec.ofNat 8 (s.pwr.seqs.countP (fun q => q.running || decide (q.tick ≤ eff.1)))])

/-- DOMAIN_POWER (R477). -/
def execDomainPower (h : Hdr) (p : List Byte) (s : State) : Res := .next (command 0x0204 h p (cmdDomainPower p) s)

/-- FAB.DOM_STATE of a fabric domain: 0 OFF, 1 RETAIN, 2 ON, 3 changing. -/
def State.fabState (s : State) (d x : Nat) : State :=
  if 13 ≤ d ∧ d ≤ 26 then s.wr ⟨Reg.FAB.DOM_STATE, 2 * (d - 13), 2⟩ x else s

/-- Locks of the units a domain takes away with it: a cluster's engines, the fabric ports of its tiles (R523). -/
def State.domOrphans (s : State) (d : Nat) : State :=
  if 5 ≤ d ∧ d ≤ 12 then (List.range 32).foldl (fun t i => t.orphan (16 + 32 * (d - 5) + i)) s
  else if 13 ≤ d ∧ d ≤ 26 then
    ((List.range s.nFports).filter (fun n => Config.portTiles s.boot.imgDigest n / 2 ^ (4 * (d - 13)) % 16 != 0)).foldl
      (fun t n => t.orphan (288 + n)) s
  else s

/-- The lanes that take their power from a domain. -/
def State.domLanes (s : State) (d : Nat) : List Nat :=
  (List.range 96 ++ (List.range 16).map (128 + ·)).filter (fun l => laneDom l == d && s.lanePresent l && s.laneFunc l != funcPcie)

/-- What a domain that leaves ON does first: a cluster stops its engines (R228), a lane domain takes its lanes to P2 (R415). -/
def State.domQuiet (s : State) (d : Nat) : State :=
  if 5 ≤ d ∧ d ≤ 12 then ((List.range 32).map (32 * (d - 5) + ·)).foldl State.engStopAsk s
  else (s.domLanes d).foldl (fun t l => if t.rd (Reg.LANE.STATUS.PSTATE l) = 2 then t else t.askPstate l 2) s

/-- Has a domain completed what it had accepted: a cluster its engines' last bundles and DMA (R228), PD04 its requests (R347), a lane
domain its lanes' way to P2 (R415)? -/
def State.domIdle (s : State) (d : Nat) : Bool :=
  if 5 ≤ d ∧ d ≤ 12 then ((List.range 32).map (32 * (d - 5) + ·)).all (fun e => s.engState e != engRunning && (s.dmaQueue e).isEmpty)
  else if d = 4 then (List.range s.nMcs).all (fun m => (s.mcd m).queue.isEmpty)
  else (s.domLanes d).all (fun l => s.rd (Reg.LANE.STATUS.PSTATE l) == 2)

/-- DOMAIN_SEQUENCE_START (R228, R415, R459): the first queued sequence whose tick has come starts, one at a time. -/
def execDomainSequenceStart (s : State) : Res :=
  match s.pwr.seqs with
  | q :: qs =>
    if q.running ∨ s.now < q.tick then .next s
    else
      let s1 : State := { s with pwr := { s.pwr with seqs := { q with running := true } :: qs } }
      let s2 := if s.domOn q.dom ∧ q.st ≠ 3 then (s1.domOrphans q.dom).domQuiet q.dom else s1
      .next ((s2.fabState q.dom 3).showSeqs)
  | [] => .next s

/-- Words of the trained controllers that PD00 keeps while PD04 is off (R347). -/
def State.keepMcs (s : State) : State :=
  let regs := (List.range s.nMcs).flatMap (fun m => [Reg.MC.STATUS m, Reg.MC.ORG m])
  { s with dram := { s.dram with kept := regs.foldl (fun k o => SMap.set (fun _ => (0 : Word)) k o (s.reg o)) [], mcs := [] } }

/-- The protection map's copy back into its registers (R356). -/
def State.restoreMap (s : State) : State := (s.integ.copy.foldl (fun t e => t.setReg e.1 e.2) s).setIme

/-- PD04 is powered again over DRAM in self-refresh: its controllers exit and are ready (R344, R347). -/
def State.restoreMcs (s : State) : State :=
  let s1 := (s.dram.kept.foldl (fun t e => t.setReg e.1 e.2) s).restoreMap
  (List.range s.nMcs).foldl (fun t m => if 2 ≤ t.mcState m then (t.wr (Reg.MC.STATUS.STATE m) 2).evt (Reg.MC.EVENT.SR_EXIT m) else t)
    (if s.dram.kept.isEmpty then s1 else s1.setTargets)

/-- What a domain loses as it leaves ON for state `st` (R131, R227, R260, R347). -/
def State.domLose (s : State) (d st : Nat) : State :=
  let s1 := if 5 ≤ d ∧ d ≤ 12 then s.clusterDown (d - 5) (st == 0)
    else if d = 3 then { s with strm := { ports := s.strm.ports, flows := s.strm.flows }, take := {} }
    else if d = 4 then s.keepMcs
    else if d = 2 then { s with sec := { s.sec with keys := [], sas := [] } }
    else if 13 ≤ d ∧ d ≤ 26 then { s with cells := SMap.keep (fun t => 13 + t / 4 != d) s.cells }
    else if 27 ≤ d then { s with lane := SMap.keep (fun l => laneDom l != d) s.lane }
    else s
  if st = 2 then { s1 with regs := SMap.keep (fun o => !(domOfOffset o == some d && decide (0x1000 ≤ o % 0x200000 ∧ o % 0x200000 < 0x2000))) s1.regs }
  else s1.clearDomain d

/-- A domain arrives in a state. -/
def State.domArrive (s : State) (d st : Nat) : State :=
  let old := s.dom d
  let s1 := if st < old then s.domLose d st else s
  let s2 := (s1.setDom d st).fabState d (if st = 3 then 2 else st)
  let s3 := if 5 ≤ d ∧ d ≤ 12 then s2.wr (Reg.CLU.STATUS.OP (d - 5)) (s2.rd (Reg.PWR.CLU.OP (d - 5))) else s2
  if d = 4 ∧ old = 0 ∧ st = 3 then s3.restoreMcs
  else if old < 3 ∧ st = 3 then s3.initTiles d else s3

/-- DOMAIN_SEQUENCE_DONE (R6, R459, R460): a domain that leaves ON first completes what it had accepted. -/
def execDomainSequenceDone (s : State) : Res :=
  match s.pwr.seqs with
  | q :: qs =>
    if ¬ q.running ∨ (s.dom q.dom = 3 ∧ q.st < 3 ∧ s.domIdle q.dom = false) then .next s
    else
      let s1 := s.domArrive q.dom q.st
      let ending := if q.st < s.dom q.dom then s1.pwr.ending ++ [q.dom] else s1.pwr.ending
      let s2 : State := { s1 with pwr := { s1.pwr with seqs := qs, ending := ending } }
      .next (s2.showSeqs.evt Reg.PWR.EVENT.DOMAIN_DONE)
  | [] => .next s

/-! ## Operating points (R462–R464, R478) -/

/-- A pending POSTURE_SET to Cool (R61). -/
def State.coolPending (s : State) : Bool := s.due.any (fun x => match x.act with | .posture 2 _ _ => true | _ => false)

/-- The body of OPPOINT_SET (R61, R78, R79, R464, R478). -/
def cmdOppointSet (p : List Byte) (floor : Nat) (s : State) : Ans :=
  let c := u8 p 0
  let pt := u8 p 1
  let cs := if c = 0xFF then s.clustersOn else [c]
  let eff := effTick (u64 p 8) (max (s.now + 2) floor)
  let op := fun k => s.rd (Reg.PWR.CLU.OP k)
  let low : LEnv → LEnv := fun v => { v with op := fun k => if cs.contains k then min (v.op k) pt else v.op k }
  let high : LEnv → LEnv := fun v => { v with op := fun k => if cs.contains k then max (v.op k) pt else v.op k }
  let up := cs.any (fun k => decide (op k < pt))
  let used := s.chargesOf s.live
  Ans.check s
    [(decide (c < 8) && decide (s.nClusters ≤ c), Sts.unitAbsent), (decide (c < 8) && !s.domOn (5 + c), Sts.domainOff),
     ((decide (8 ≤ c) && c != 0xFF) || decide (3 < pt) || !zeroAt p 2 6 || !zeroFrom p 16, Sts.badParam),
     ((decide (1 < pt) && (s.posture == 2 || s.coolPending)) || cs.any (fun k => s.isSet (Reg.PWR.CLU.PEND k)), Sts.badState),
     (cs.any (fun k => decide (pt < op k)) && !s.fits (low s.envNow) (used.filter (fun x => x.res != 11)), Sts.wouldBreak),
     (up && (s.isSet Reg.LEDGER.STATUS.THERM_BLOCK || 
       !(decide (s.maintPower (high s.envNow) ≤ s.envNow.cap) && s.fits (high s.envNow) (used.filter (fun x => x.res == 11)))), Sts.powerCap)]
    (let s1 := cs.foldl (fun t k => ((t.wr (Reg.PWR.CLU.TARGET k) pt).wr (Reg.PWR.CLU.PEND k) 1).wr (Reg.CLU.STATUS.OP_PEND k) 1) s
     Ans.say { s1 with pwr := { s1.pwr with ops := s1.pwr.ops ++ cs.map (fun k => (k, eff.1)) } } eff.2 eff.1 [])

/-- OPPOINT_SET (R478). -/
def execOppointSet (h : Hdr) (p : List Byte) (s : State) : Res := .next (command 0x0205 h p (cmdOppointSet p) s)

/-- OPPOINT_RAISE_START (R463): at the boundary of T − 1 the voltages of raised clusters start slewing up. -/
def execOppointRaiseStart (s : State) : Res :=
  .next ((s.pwr.ops.filter (fun x => x.2 == s.now + 1 && decide (s.rd (Reg.PWR.CLU.OP x.1) < s.rd (Reg.PWR.CLU.TARGET x.1)))).foldl
    (fun t x => t.wr (Reg.PWR.CLU.SLEWING x.1) 1) s)

/-- One cluster's frequency switches at T (R463): a raise is done, a lowering starts slewing down. -/
def State.opApply (s : State) (c : Nat) : State :=
  let old := s.rd (Reg.PWR.CLU.OP c)
  let new := s.rd (Reg.PWR.CLU.TARGET c)
  if new < old then s.lowerOp c new
  else ((((s.opSwitch c new).wr (Reg.PWR.CLU.PEND c) 0).wr (Reg.CLU.STATUS.OP_PEND c) 0).wr (Reg.PWR.CLU.SLEWING c) 0).evt
    Reg.PWR.EVENT.OP_DONE

/-- OPPOINT_SWITCH (R463): at the boundary of T. -/
def execOppointSwitch (s : State) : Res :=
  let due := s.pwr.ops.filter (fun x => decide (x.2 ≤ s.now))
  let s1 : State := { s with pwr := { s.pwr with ops := s.pwr.ops.filter (fun x => !decide (x.2 ≤ s.now)) } }
  .next (due.foldl (fun t x => t.opApply x.1) s1)

/-- OPPOINT_VOLTAGE_REACHED (R463): the measured voltage; a lowering is done. -/
def execOppointVoltageReached (c mv : Nat) (s : State) : Res :=
  if c < s.nClusters ∧ s.isSet (Reg.PWR.CLU.SLEWING c) then
    let s1 := (s.wr (Reg.PWR.CLU.SLEWING c) 0).wr (Reg.PWR.CLU.VOLT c) mv
    .next (if s.pwr.fall.any (fun x => x.1 == c) then s1.evt Reg.PWR.EVENT.OP_DONE else s1)
  else .next s

/-- A boundary's part (R460, R463): charges of lowered domains and clusters end. -/
def State.pwrBoundary (s : State) : State :=
  { s with pwr := { s.pwr with ending := [], fall := s.pwr.fall.filter (fun x => decide (s.now ≤ x.2.2)) } }

/-! ## Clocks (R465–R471) -/

/-- The tick's part of a loss of MCLK (R38): MCLK free run is lost; without any reference FREE at once. -/
def State.clockTick (s : State) : State :=
  let s1 := match s.activeEntry with
    | some i => if s.entryValid (s.entry i) then s else s.loseActive
    | none => s
  if s1.bestEntry.isNone then (s1.setLock 0).noEntry else s1

/-- Lanes of ports and links whose PLLs take MCLK (R405). -/
def State.mclkLanes (s : State) : List Nat :=
  (List.range s.nLanes).filter (fun l => s.laneFunc l == funcPort || s.laneFunc l == funcLink)

/-- The device runs on RC (R154, R415, R469): TWIN_OK and CHG_SEL drop, port and Dolmet lanes idle and their sources are
lost; the tick follows R38. -/
def State.runOnRc (s : State) (forced : Bool) : State :=
  let s1 := ((s.wr Reg.CLK.STATUS.SRC 1).wr Reg.CLK.STATUS.MCLK_GOOD 0).dropTwinOk
  let s2 := s1.mclkLanes.foldl (fun t l => (t.laneDown l).updLane l (fun d => { d with idle := true })) s1
  let s3 := (List.range 100).foldl (fun t p => if (t.port p).kind = 0 ∨ (t.port p).kind > 2 then t else t.portDown p) s2
  let s4 := s3.clockTick.evt Reg.CLK.EVENT.CLOCK_LOSS
  if forced then s4.evt Reg.CLK.EVENT.FORCED else s4

/-- CLOCK_LOSS_RC_RUNNING (R469). -/
def execClockLossRcRunning (cause : Nat) (forced : Bool) (s : State) : Res :=
  if s.rd Reg.CLK.STATUS.SRC = 0 ∧ s.isSet Reg.CLK.STATUS.RC_RUN then
    .next (((((s.wr Reg.CLK.LOSS.CAUSE cause).wr Reg.CLK.LOSS.NOT_READY 0).wr Reg.CLK.LOSS.GAP 0).runOnRc forced))
  else .next s

/-- CLOCK_LOSS_RC_STOPPED (R470): clocks outside PD00 stop with state kept, transmitters idle, RC starts. -/
def execClockLossRcStopped (cause : Nat) (s : State) : Res :=
  if s.rd Reg.CLK.STATUS.SRC = 0 ∧ ¬ s.isSet Reg.CLK.STATUS.RC_RUN then
    .next (((((s.wr Reg.CLK.STATUS.SRC 2).wr Reg.CLK.STATUS.MCLK_GOOD 0).wr Reg.CLK.STATUS.RC_RUN 1).wr
      Reg.CLK.LOSS.CAUSE cause).dropTwinOk.emit .txIdle)
  else .next s

/-- CLOCK_GAP_RESUME (R470): RC ready and the PLLs relocked end a gap of `gap` × 10 ns; in Diapause the device stays there. -/
def execClockGapResume (gap : Nat) (forced : Bool) (s : State) : Res :=
  if s.rd Reg.CLK.STATUS.SRC = 2 then
    .next ((((s.wr Reg.CLK.STATUS.RC_READY 1).wr Reg.CLK.LOSS.NOT_READY 1).wr Reg.CLK.LOSS.GAP (min gap 0xFFFF)).runOnRc forced)
  else .next s

/-- RC stops where RC_STOP asks for it, on MCLK, outside Eclosion; it runs otherwise, but not in Diapause (R467). -/
def State.rcFollows (s : State) : State :=
  let stop := s.mode == 0 || (s.isSet Reg.CLK.CFG.RC_STOP && s.rd Reg.CLK.STATUS.SRC == 0 && s.mode != 1)
  (s.flag Reg.CLK.STATUS.RC_RUN (!stop)).flag Reg.CLK.STATUS.RC_READY (!stop)

/-- MCLK_RETURN (R471): MCLK has passed for GOOD_MS and the boundary has come, with AUTO_RETURN or RETURN_REQ. -/
def execMclkReturn (forced : Bool) (s : State) : Res :=
  if s.rd Reg.CLK.STATUS.SRC = 1 ∧ (s.isSet Reg.CLK.CFG.AUTO_RETURN ∨ s.isSet Reg.CLK.CFG.RETURN_REQ) then
    let s1 := (((s.wr Reg.CLK.STATUS.SRC 0).wr Reg.CLK.STATUS.MCLK_GOOD 1).wr Reg.CLK.CFG.RETURN_REQ 0).evt Reg.CLK.EVENT.CLOCK_RETURN
    let s2 : State := { s1 with twin := { s1.twin with ok := decide (3 ≤ s1.mode) } }
    let s3 := s2.mclkLanes.foldl (fun t l => (t.updLane l (fun d => { d with idle := false })).startNeg l) s2
    .next ((if forced then s3.evt Reg.CLK.EVENT.FORCED else s3).rcFollows.refAvailable)
  else .next s

/-- CLK_RETURN_REQ_WRITE (R471). -/
def execClkReturnReqWrite (s : State) : Res := .next (s.wr Reg.CLK.CFG.RETURN_REQ 1)

/-! ## Eyespot counters (R472, R480) -/

/-- A clock source: none for an unknown code; whether it is present; its domain (R472). -/
def State.clockSrc (s : State) (c : Nat) : Option (Bool × Nat) :=
  if c < 2 then some (true, 0)
  else if c = 2 ∨ c = 3 then some (true, 1) else if c = 4 then some (true, 3) else if c = 5 then some (true, 4)
  else if 8 ≤ c ∧ c < 16 then some (decide (c - 8 < s.nClusters), 5 + (c - 8))
  else if 16 ≤ c ∧ c < 32 then some (decide (c < 24 ∨ s.ident.variant ≠ 3), 3)
  else if 32 ≤ c ∧ c < 36 then some (decide (c < 34 ∨ s.ident.variant ≠ 3), 3)
  else if 0x40 ≤ c ∧ c < 0x58 then some (decide (4 * (c - 0x40) < s.nLanes), laneDom (4 * (c - 0x40)))
  else if 0x60 ≤ c ∧ c < 0x78 then some (decide (4 * (c - 0x60) < s.nLanes), laneDom (4 * (c - 0x60)))
  else if c = 0x7F then some (true, 0) else none

/-- Does a gate last more than 64 s (R480)? -/
def State.gateLong (s : State) (ref gate : Nat) : Bool :=
  if ref = 0x7F then decide (64 * rateN s.rate < gate * rateD s.rate)
  else
    let hz := match ref with
      | 0 => if s.straps.mclkSel = 0 then 27000000 else 25000000
      | 1 => 100000000
      | _ => if 8 ≤ ref ∧ ref < 16 then opMhz (s.rd (Reg.PWR.CLU.OP (ref - 8))) * 1000000 else Config.clockHz ref
    decide (64 * hz < gate)

/-- EYE_GATE_START (R472): counter `k`'s START is written. -/
def execEyeGateStart (k : Nat) (s : State) : Res :=
  if k < 16 ∧ s.domOn 1 ∧ ¬ s.isSet (Reg.CLK.EYE_CFG.BUSY k) then
    .next ((s.wr (Reg.CLK.EYE_CFG.BUSY k) 1).wr (Reg.CLK.EYE_CFG.OVF k) 0)
  else .next s

/-- EYE_GATE_END (R472, R480): the count of edges; a CLOCK_MEASURE that waits for it is answered. -/
def execEyeGateEnd (k count : Nat) (s : State) : Res :=
  if k < 16 ∧ s.isSet (Reg.CLK.EYE_CFG.BUSY k) then
    let n := min count 0xFFFFFFFF
    let ovf := decide (0xFFFFFFFF < count)
    let s1 := (((s.wr (Reg.CLK.EYE_CFG.BUSY k) 0).flag (Reg.CLK.EYE_CFG.OVF k) ovf).wr (Reg.CLK.EYE_COUNT.COUNT k) n).evt Reg.CLK.EVENT.EYE_DONE
    match s.pwr.meas.find? (fun x => x.k == k) with
    | none => .next s1
    | some m =>
      let s2 : State := { s1 with pwr := { s1.pwr with meas := s1.pwr.meas.filter (fun x => x.k != k) } }
      .next (s2.answer m.h Sts.ok 0 (toLe 4 n ++ [BitVec.ofNat 8 k, if ovf then 1 else 0]))
  else .next s

/-- The body of CLOCK_MEASURE (R480). -/
def cmdClockMeasure (h : Hdr) (p : List Byte) (_floor : Nat) (s : State) : Ans :=
  let t := u8 p 0
  let r := u8 p 1
  let k := u8 p 2
  let free := (List.range 16).filter (fun i => !s.isSet (Reg.CLK.EYE_CFG.BUSY i))
  let pick := if k = 0xFF then free.getD 0 16 else k
  let srcs := [s.clockSrc t, s.clockSrc r]
  let absent := srcs.any (fun x => x.any (fun y => !y.1))
  let off := srcs.any (fun x => x.any (fun y => !s.domOn y.2))
  Ans.check s
    [((k == 0xFF || decide (k < 16)) && !free.contains pick, Sts.busy), (absent, Sts.unitAbsent), (off, Sts.domainOff),
     (srcs.any (·.isNone) || t == 0x7F || (decide (16 ≤ k) && k != 0xFF) || u8 p 3 != 0 || u32 p 4 == 0 || s.gateLong r (u32 p 4) ||
       !zeroFrom p 8, Sts.badParam)]
    (let s1 := ((((s.wr (Reg.CLK.EYE_CFG.TARGET pick) t).wr (Reg.CLK.EYE_CFG.REF pick) r).wr (Reg.CLK.EYE_GATE.GATE pick) (u32 p 4)).wr
       (Reg.CLK.EYE_CFG.BUSY pick) 1).wr (Reg.CLK.EYE_CFG.OVF pick) 0
     Ans.wait { s1 with pwr := { s1.pwr with meas := s1.pwr.meas ++ [⟨pick, h⟩] } })

/-- CLOCK_MEASURE (R480). -/
def execClockMeasure (h : Hdr) (p : List Byte) (s : State) : Res := .next (command 0x0207 h p (cmdClockMeasure h p) s)

/-- The body of CLOCK_STATUS (R481): MCLK_OFFS is a measured value, free while LOCKED. -/
def cmdClockStatus (p : List Byte) (_floor : Nat) (s : State) : Ans :=
  let fl := s.rd Reg.CLK.STATUS.MCLK_GOOD + 2 * s.rd Reg.CLK.STATUS.RC_RUN + 4 * s.rd Reg.CLK.STATUS.RC_READY + 8 * s.rd Reg.CLK.EVENT.FORCED
  let offs := if s.lock = 2 then s.free else 0
  Ans.check s [(noParams p, Sts.badParam)]
    (Ans.say (if s.lock = 2 then s.drew else s) Sts.ok 0
      ([BitVec.ofNat 8 (s.rd Reg.CLK.STATUS.SRC), BitVec.ofNat 8 fl, BitVec.ofNat 8 (s.rd Reg.CLK.LOSS.CAUSE + 128 * s.rd Reg.CLK.LOSS.NOT_READY), 0] ++
        toLe 2 (s.rd Reg.CLK.LOSS.GAP) ++ toLe 2 0 ++ toLe 4 offs))

/-- CLOCK_STATUS (R481). -/
def execClockStatus (h : Hdr) (p : List Byte) (s : State) : Res := .next (command 0x0208 h p (cmdClockStatus p) s)

/-- The body of SUPPLY_STATUS (R479). -/
def cmdSupplyStatus (p : List Byte) (_floor : Nat) (s : State) : Ans :=
  let va := s.rd Reg.PWR.VIN.VIN_A
  let vb := s.rd Reg.PWR.VIN.VIN_B
  let ia := s.rd Reg.PWR.IIN.IIN_A
  let ib := s.rd Reg.PWR.IIN.IIN_B
  Ans.check s [(noParams p, Sts.badParam)]
    (Ans.say s Sts.ok 0 (toLe 2 va ++ toLe 2 vb ++ toLe 2 ia ++ toLe 2 ib ++
      [BitVec.ofNat 8 (s.rd Reg.PWR.SUPPLY.SEL), BitVec.ofNat 8 (s.reg Reg.PWR.SUPPLY).toNat, BitVec.ofNat 8 (s.rd Reg.THERM.STATUS.MAX),
        BitVec.ofNat 8 (s.rd Reg.THERM.STATUS.MAX_SENSOR + 16 * s.rd Reg.THERM.STATUS.ALARM + 32 * s.rd Reg.THERM.STATUS.DEGRADED)] ++
      toLe 2 ((va * ia + vb * ib) / 1000)))

/-- SUPPLY_STATUS (R479). -/
def execSupplyStatus (h : Hdr) (p : List Byte) (s : State) : Res := .next (command 0x0206 h p (cmdSupplyStatus p) s)

/-! ## Temperature (R473–R475) -/

/-- Is a sensor present: its cluster, or die 1's fabric (R473)? -/
def State.sensorPresent (s : State) (i : Nat) : Bool :=
  if i < 8 then decide (i < s.nClusters) else if 11 ≤ i ∧ i ≤ 13 then s.ident.variant != 3 else decide (i < 16)

/-- Consecutive samples of 120 °C or more of a sensor (R475). -/
def State.hotRun (s : State) (i n : Nat) : State := { s with pwr := { s.pwr with hot := SMap.set (fun _ => 0) s.pwr.hot i n } }

/-- PEAK is the highest reading since its last read (R473). -/
def State.peakOf (s : State) (i : Nat) (t : Int) : State :=
  let top := if bit s.pwr.peaks i then max (signed 8 (s.rd (Reg.THERM.SENSOR.PEAK i))) t else t
  let s1 := s.wr (Reg.THERM.SENSOR.PEAK i) (unsigned 8 top)
  { s1 with pwr := { s1.pwr with peaks := setBit s1.pwr.peaks i } }

/-- One sensor's sample: reading and validity, PEAK, SENSOR_FAULT as it becomes invalid (R473). -/
def State.sensor (s : State) (i : Nat) (x : Option Int) : State :=
  match x with
  | none =>
    let s1 := (s.wr (Reg.THERM.SENSOR.VALID i) 0).hotRun i 0
    if s.isSet (Reg.THERM.SENSOR.VALID i) then s1.evt Reg.PWR.EVENT.SENSOR_FAULT else s1
  | some t =>
    (((s.wr (Reg.THERM.SENSOR.TEMP i) (unsigned 8 t)).wr (Reg.THERM.SENSOR.VALID i) 1).peakOf i t).hotRun i
      (if 120 ≤ t then SMap.get (fun _ => 0) s.pwr.hot i + 1 else 0)

/-- THERM.STATUS, the warning, the alarm and its end from the present readings (R473, R474). -/
def State.thermal (s : State) : State :=
  let on := (List.range 16).filter s.sensorPresent
  let good := on.filter (fun i => s.isSet (Reg.THERM.SENSOR.VALID i))
  let temp := fun i => signed 8 (s.rd (Reg.THERM.SENSOR.TEMP i))
  let top := good.foldl (fun (b : Option Nat) i => match b with
    | none => some i
    | some j => if temp j < temp i then some i else some j) none
  let bad := decide (2 ≤ on.length - good.length)
  let mx := top.elim (-128) temp
  let warn := decide ((s.rd Reg.THERM.CFG.WARN_C : Int) ≤ mx)
  let hot := decide (105 ≤ mx) || bad
  let cool := !bad && good.all (fun i => decide (temp i < 100))
  let was := s.isSet Reg.THERM.STATUS.ALARM
  let alarm := hot || (was && !cool)
  let s1 := (((((s.wr Reg.THERM.STATUS.MAX (unsigned 8 (top.elim 0 temp))).wr Reg.THERM.STATUS.MAX_SENSOR (top.getD 0)).flag
    Reg.THERM.STATUS.WARN warn).flag Reg.THERM.STATUS.DEGRADED bad).wr Reg.THERM.STATUS.VALID (good.foldl setBit 0)).flag
    Reg.THERM.STATUS.ALARM alarm
  let s2 := s1.flag Reg.LEDGER.STATUS.THERM_BLOCK alarm
  let s3 := if warn ∧ ¬ s.isSet Reg.THERM.STATUS.WARN then s2.evt Reg.PWR.EVENT.THERM_WARN else s2
  if alarm ∧ ¬ was then s3.evt Reg.PWR.EVENT.THERM_ALARM else if was ∧ ¬ alarm then s3.evt Reg.PWR.EVENT.THERM_CLEAR else s3

/-- SENSOR_SAMPLE (R473, R474): sixteen readings, none where a sensor's check fails; and the supply monitor's readings
VIN_A, VIN_B in mV, IIN_A, IIN_B in 0.1 A. -/
def execSensorSample (l : List (Option Int)) (vin : List Nat) (s : State) : Res :=
  let s1 := ((List.range 16).filter s.sensorPresent).foldl (fun t i => t.sensor i (l.getD i none)) s
  let s2 := if vin.length = 4 then
      (((s1.wr Reg.PWR.VIN.VIN_A (vin.getD 0 0)).wr Reg.PWR.VIN.VIN_B (vin.getD 1 0)).wr Reg.PWR.IIN.IIN_A (vin.getD 2 0)).wr Reg.PWR.IIN.IIN_B (vin.getD 3 0)
    else s1
  .next s2.thermal

/-- THERMAL_TRIP (R475): a valid sensor at 120 °C or more on two consecutive samples. -/
def execThermalTrip (sensor : Nat) (s : State) : Res :=
  if s.sensorPresent sensor ∧ 2 ≤ SMap.get (fun _ => 0) s.pwr.hot sensor ∧ s.pwr.hold ≠ .thermal then
    .next (((s.faultRecord 0x21 sensor 0 0 false).countIfUnconfirmed 0x0F).supplyStop 5 0 .thermal)
  else .next s

/-- Every valid present sensor reads below 95 °C, and at most one present sensor is invalid: with two the temperature counts as at the
alarm level (R473, R475). -/
def State.cooled (s : State) : Bool :=
  let on := (List.range 16).filter s.sensorPresent
  decide (on.countP (fun i => !s.isSet (Reg.THERM.SENSOR.VALID i)) < 2) &&
    on.all (fun i => !s.isSet (Reg.THERM.SENSOR.VALID i) || decide (signed 8 (s.rd (Reg.THERM.SENSOR.TEMP i)) < 95))

/-- THERMAL_RECOVERY (R475): every valid sensor below 95 °C for 10 s; Eclosion starts. -/
def execThermalRecovery (s : State) : Res :=
  .next (if s.pwr.hold = .thermal ∧ s.cooled = true then { s with pwr := { s.pwr with hold := .none } } else s)

end Sys2Proof.Machine
end

