-- ==== Sys2Proof/Machine/Debug.lean ====
section
/-! DEFINITION. Debug port, halts, forced locks, self-test and repair (18_debug_and_test.md); the debug bus master's accesses
are Bus.lean's, stepping and injection Bundle.lean's. -/

namespace Sys2Proof.Machine

/-! ## The wire (R526–R528) -/

/-- DEBUG_WIRE_RESET (R527): transmitters idle, the twin told, no fault record; every domain but PD00 is held in reset. A supply
or thermal hold outlasts it. -/
def execDebugWireReset (s : State) : Res :=
  if s.pwr.hold = .off then .next s
  else
    let s1 := (s.goSilent 0).evt Reg.DBG.EVENT.WIRE_RESET
    .next (s1.holdReset (if s.pwr.hold = .supply ∨ s.pwr.hold = .thermal then s.pwr.hold else .wire))

/-- DEBUG_WIRE_RELEASE (R527): Eclosion starts at the rising edge. -/
def execDebugWireRelease (s : State) : Res :=
  .next (if s.pwr.hold = .wire then { s with pwr := { s.pwr with hold := .none } } else s)

/-- DEBUG_WAKE_PULSE (R528): a low of `us` microseconds, then cells that give the unit `u` in 10 ns; a unit out of range opens no
session, and a low outside 100 to 800 µs does nothing. -/
def execDebugWakePulse (us u : Nat) (s : State) : Res :=
  if s.pwr.hold = .off ∨ us < 100 ∨ 800 < us then .next s
  else if u < 4 ∨ 1000 < u then .next ((s.wr Reg.DBG.STATUS.SESSION 0).wr Reg.DBG.STATUS.UNIT 0)
  else .next (((s.wr Reg.DBG.STATUS.SESSION 1).wr Reg.DBG.STATUS.UNIT u).evt Reg.DBG.EVENT.SESSION_OPEN)

/-! ## Levels (R534, R535) -/

/-- An access that needs L2: refused to the host and other masters with AUTH_VIOL; the wire answers AUTH itself (R535). -/
def State.needL2 (s : State) (m : Nat) (t : State) : State :=
  if s.dbgLevel = 2 then t else if m = 6 then s else s.evt Reg.DBG.EVENT.AUTH_VIOL

/-- DBG_AUTH_CHALLENGE_WRITE (R391, R392, R396, R534): STATE shows a challenge ready, a level the device does not grant (failed), or
a lockout; level 0 ends the level in force. -/
def State.wireChallenge (s : State) (level : Nat) : State :=
  let s0 := s.wr Reg.DBG.AUTH.REQ_LEVEL level
  if s.rd Reg.SEC.DBG_LOCK.LOCK_S ≠ 0 then s0.wr Reg.DBG.AUTH.STATE 5
  else if level = 0 then
    let s1 := s0.setLevel 0
    ({ s1 with sec := { s1.sec with chal := none } } : State).wr Reg.DBG.AUTH.STATE 0
  else if s.levelBad level ∨ s.ident.debugKey = 0 then s0.wr Reg.DBG.AUTH.STATE 4
  else
    let s1 := s0.challenge level
    let b := (s1.sec.chal.map (·.block)).getD []
    ((List.range 12).foldl (fun t i => t.setReg (Reg.DBG.CHAL i) (BitVec.ofNat 32 (u32 b (4 * i)))) s1).wr Reg.DBG.AUTH.STATE 1
def execDbgAuthChallengeWrite (m level : Nat) (s : State) : Res :=
  .next (s.access m Reg.DBG.AUTH (s.wireChallenge (level % 4)))

/-- DBG_AUTH_SUBMIT (R391, R392, R534). -/
def State.wireSubmit (s : State) : State :=
  if !s.chalLive then s.wr Reg.DBG.AUTH.STATE 4
  else
    let r := s.respond ((List.range 48).flatMap (fun i => toLe 4 (s.reg (Reg.DBG.RESP i)).toNat))
    r.1.wr Reg.DBG.AUTH.STATE (if r.2 then 3 else 4)
def execDbgAuthSubmit (m : Nat) (s : State) : Res := .next (s.access m Reg.DBG.AUTH s.wireSubmit)

/-! ## Halting engines (R538–R541) -/

/-- A write of DBG.ENG_CTRL for engine `e` with one of its command bits: at L2 alone (R535). -/
def State.engCtrl (s : State) (m e : Nat) (f : State → State) : State :=
  s.access m Reg.DBG.ENG_CTRL (s.needL2 m (f (s.wr Reg.DBG.ENG_CTRL.ENGINE e)))

/-- HALT: a RUNNING, STOPPED or FAULTED engine is asked to halt. -/
def State.askHalt (s : State) (e : Nat) : State :=
  if s.engPresent e ∧ s.engOn e ∧ (s.engState e = engRunning ∨ s.engState e = engStopped ∨ s.engState e = engFaulted) then
    s.updEngine e (fun x => { x with haltReq := true })
  else s

/-- ENGINE_HALT_REQUEST (R538). -/
def execEngineHaltRequest (m e : Nat) (s : State) : Res := .next (if e < 256 then s.engCtrl m e (fun t => t.askHalt e) else s)

/-- ENGINE_HALT_TAKEN (R522, R538, R539): outside atomic groups, delay bundles and SPEC state, results land and the engine is HALTED;
every running contract with a stage on it is HELD. -/
def execEngineHaltTaken (e : Nat) (s : State) : Res :=
  let x := s.engine e
  if x.haltReq ∧ s.engOn e ∧ x.free ∧ ¬ s.inSpec e then
    let was := s.engState e
    let s1 := (s.engDrain e).updEngine e (fun y => { y with haltReq := false, prior := was, openB := {} })
    let s2 := ((s1.setEngState e engHalted).evt Reg.DBG.EVENT.HALTED)
    .next (s2.holdAll ((s2.led.contracts.filter (fun c => s2.contractEngine c.2 e)).map (·.1)) .halt none)
  else .next s

/-- RESUME: the state before the halt; the present tick's watchdog deadline counts as met; contracts resume at the next boundary
(R541). -/
def State.unhalt (s : State) (e : Nat) : State :=
  if s.engPresent e ∧ s.engOn e ∧ s.engState e = engHalted then
    let s1 := (s.haltOver e).updEngine e (fun x => { x with done := some s.now, missed := 0 })
    s1.setEngState e (s1.engine e).prior
  else s

/-- ENGINE_RESUME (R541). -/
def execEngineResume (m e : Nat) (s : State) : Res := .next (if e < 256 then s.engCtrl m e (fun t => t.unhalt e) else s)

/-- DBG_PC_WRITE (R540): the PC of the engine DBG.ENG_CTRL names, while HALTED, at L2. -/
def State.dbgPc (s : State) (m v : Nat) : State :=
  let e := s.rd Reg.DBG.ENG_CTRL.ENGINE
  s.access m Reg.DBG.ENG_STAT (s.needL2 m (if s.engPresent e ∧ s.engOn e ∧ s.engState e = engHalted then s.wr (Reg.ENG.STATUS.PC e) v else s))
def execDbgPcWrite (m v : Nat) (s : State) : Res := .next (s.dbgPc m v)

/-! ## Management cores (R542) -/

/-- CORE_HALT: bit k of the mask asks core k + 1 to halt. -/
def State.coreAsk (s : State) (m mask : Nat) : State :=
  s.access m Reg.DBG.CORE_CTRL (s.needL2 m { s with xp := { s.xp with coreHaltReq := s.xp.coreHaltReq ||| mask % 16 } })
def execCoreHalt (m mask : Nat) (s : State) : Res := .next (s.coreAsk m mask)

/-- CORE_HALT_TAKEN: core `k`, 1–4, outside its firmware's atomic sections. -/
def execCoreHaltTaken (k : Nat) (s : State) : Res :=
  if 1 ≤ k ∧ k ≤ 4 ∧ bit s.xp.coreHaltReq (k - 1) then
    .next (({ s with xp := { s.xp with
      coreHaltReq := clrBit s.xp.coreHaltReq (k - 1), coreHalt := setBit s.xp.coreHalt (k - 1) } } : State).showCores)
  else .next s

/-! ## Forced locks (R543) -/

/-- A write of DBG.LOCK_FORCE: LOCK, CLUSTER (0–7 or 0xF; another value leaves it unchanged, R569), and GO, which releases the lock
the fields name. -/
def State.lockForce (s : State) (m v : Nat) : State :=
  let c := v / 2 ^ 8 % 2 ^ 4
  let s1 := s.wr Reg.DBG.LOCK_FORCE.LOCK v
  let s2 := if c < 8 ∨ c = 15 then s1.wr Reg.DBG.LOCK_FORCE.CLUSTER c else s1
  let k := s2.rd Reg.DBG.LOCK_FORCE.CLUSTER
  let n := s2.rd Reg.DBG.LOCK_FORCE.LOCK
  let o := if k = 15 then Reg.LK n else Reg.CLU.LK k n
  let ok := (k == 15 || decide (n < 32)) && s2.offPresent o && s2.offOn o
  s.access m Reg.DBG.LOCK_FORCE (s.needL2 m (
    if bit v 12 && ok && (s2.reg o).field 0 9 != 0 then ((s2.setReg o 0).bump (lockOrphans o)).evt Reg.DBG.EVENT.LOCK_FORCED else s2))

/-- LOCK_FORCE (R543). -/
def execLockForce (m v : Nat) (s : State) : Res := .next (s.lockForce m (v % 2 ^ 12 + 2 ^ 12))

/-! ## Self-test (R544–R546, R549, R550) -/

/-- A run of one kind starts: it shows as BUSY; the domain ends OFF with its state lost. -/
def State.bistStart (s : State) (d kind : Nat) (both : Bool) : State :=
  let s1 := ((((s.wr Reg.BIST.STATUS.BUSY 1).wr Reg.BIST.STATUS.DOMAIN d).wr Reg.BIST.STATUS.KIND kind).wr Reg.BIST.STATUS.RESULT 0)
  { s1 with dbg := { s1.dbg with run := some (d, kind, both) } }

/-- The body of BIST_RUN (R544, R549). -/
def cmdBistRun (p : List Byte) (_floor : Nat) (s : State) : Ans :=
  let d := u8 p 0
  let kind := u8 p 1
  let named := decide (2 ≤ d ∧ d ≤ 29)
  Ans.check s
    [(s.dbg.run.isSome, Sts.busy), (s.mode != 5 && s.mode != 2, Sts.modeRefused), (named && !s.domPresent d, Sts.unitAbsent),
     (!named || decide (2 < kind) || !zeroFrom p 2, Sts.badParam),
     ((List.range 30).any (fun x => (domNeeds x).contains d && s.dom x != 0), Sts.badState)]
    (Ans.ok ((if s.dom d = 0 then s else s.domArrive d 0).bistStart d (if kind = 1 then 1 else 0) (kind == 2)))

/-- BIST_RUN (R549). -/
def execBistRun (h : Hdr) (p : List Byte) (s : State) : Res := .next (command 0x0C01 h p (cmdBistRun p) s)

/-- BIST_COMPLETE (R545, R546): the signature is compared with the ROM's; a cluster's failing columns, as bank and column, are listed;
memory BIST follows logic BIST where both were asked for. -/
def execBistComplete (sig : Nat) (fails : List (Nat × Nat)) (s : State) : Res :=
  match s.dbg.run with
  | none => .next s
  | some (d, kind, both) =>
    let pass := Config.bistSig s.ident.variant s.ident.stepping d kind = sig % 2 ^ 64
    let cols := if kind = 1 ∧ 5 ≤ d ∧ d ≤ 12 then fails.filter (fun f => decide (f.1 < 32 ∧ f.2 < 256)) else []
    let s1 := cols.foldl (fun t f => t.addCand (d - 5) f.1 f.2 0) s
    let s2 := (((s1.wr Reg.BIST.SIG_LO.SIG sig).wr Reg.BIST.SIG_HI.SIG (sig / 2 ^ 32)).bump Reg.BIST.STATUS.RUNS).evt Reg.BIST.EVENT.BIST_DONE
    let s3 := if pass then s2.wr Reg.BIST.STATUS.RESULT 1 else (s2.wr Reg.BIST.STATUS.RESULT 2).evt Reg.BIST.EVENT.BIST_FAIL
    let res := SMap.set (fun _ => (0, 0)) s3.dbg.results (2 * d + kind) (if pass then 2 else 3, sig % 2 ^ 64)
    let s4 : State := { s3 with dbg := { s3.dbg with results := res, run := none } }
    .next (if both then s4.bistStart d 1 false else s4.wr Reg.BIST.STATUS.BUSY 0)

/-- The candidates of a domain, as its cluster's records (R550). -/
def State.candsOf (s : State) (d : Nat) : List Cand :=
  s.dbg.cands.filter (fun x => decide (5 ≤ d ∧ d ≤ 12) && x.cluster == d - 5)

/-- The field spares used in a bank (R224). -/
def State.sparesUsed (s : State) (c bank : Nat) : Nat := SMap.get (fun _ => 0) s.ident.spares (c * 32 + bank)

/-- A candidate's 8-byte record (R550). -/
def State.candRec (s : State) (x : Cand) : List Byte :=
  toLe 1 x.cluster ++ toLe 1 x.bank ++ toLe 1 x.col ++ toLe 1 x.src ++ toLe 4 (s.sparesUsed x.cluster x.bank)

/-- The body of BIST_RESULT (R550). -/
def cmdBistResult (h : Hdr) (p : List Byte) (_floor : Nat) (s : State) : Ans :=
  let d := u8 p 0
  let kind := u8 p 1
  let named := decide (2 ≤ d ∧ d ≤ 29)
  let l := s.candsOf d
  let n := 8 * l.length
  let r := if s.dbg.run.any (fun x => x.1 == d && x.2.1 == kind) then (1, 0) else SMap.get (fun _ => (0, 0)) s.dbg.results (2 * d + kind)
  let ovf := if decide (5 ≤ d ∧ d ≤ 12) && s.dbg.ovf.contains (d - 5) then 1 else 0
  Ans.check s
    [(named && !s.domPresent d, Sts.unitAbsent),
     (!named || decide (1 < kind) || !zeroAt p 2 6 || !zeroFrom p 20 ||
       (u64 p 8 != 0 && (decide (u32 p 16 < n) || h.spiBad (u64 p 8) (u32 p 16))), Sts.badParam)]
    (Ans.say (if u64 p 8 = 0 then s else s.writeBuf h (u64 p 8) (l.flatMap s.candRec)) Sts.ok 0
      ([BitVec.ofNat 8 r.1, BitVec.ofNat 8 l.length, ovf, 0] ++ toLe 8 r.2))

/-- BIST_RESULT (R550). -/
def execBistResult (h : Hdr) (p : List Byte) (s : State) : Res := .next (command 0x0C02 h p (cmdBistResult h p) s)

/-! ## Column repair (R547, R551) -/

/-- A bank after memory BIST holds nothing that was written to it (R220, R547). -/
def bankCell (c bank a : Nat) : Bool := a / 2 ^ 23 == c && a / 32 % 32 == bank

/-- The body of REPAIR_FUSE (R547, R551): whether the bank verifies is a free value. -/
def cmdRepairFuse (p : List Byte) (_floor : Nat) (s : State) : Ans :=
  let c := u8 p 0
  let b := u8 p 1
  let k := u8 p 2
  let used := s.sparesUsed c b
  Ans.check s
    [(s.dbgLevel != 2, Sts.authRequired), (s.mode != 5, Sts.modeRefused), (decide (c < 8) && decide (s.nClusters ≤ c), Sts.unitAbsent),
     (decide (c < 8) && !s.regsOn (5 + c), Sts.domainOff), (decide (8 ≤ c) || decide (32 ≤ b) || !zeroFrom p 3, Sts.badParam),
     (!s.dbg.cands.any (fun x => x.cluster == c && x.bank == b && x.col == k) || s.isSet Reg.LEDGER.STATUS.THERM_BLOCK, Sts.badState),
     (decide (2 ≤ used), Sts.noCapacity)]
    (let verify := s.free % 2
     let s0 := s.drew
     let s1 : State := { s0 with ident := { s0.ident with spares := SMap.set (fun _ => 0) s0.ident.spares (c * 32 + b) (used + 1) } }
     let s2 : State := { s1 with eng := { s1.eng with cmem := SMap.keep (fun a => !bankCell c b a) s1.eng.cmem } }
     let s3 : State := { s2 with dbg := { s2.dbg with
       cands := s2.dbg.cands.filter (fun x => !(x.cluster == c && x.bank == b && x.col == k)) } }
     let s4 := s3.evt Reg.BIST.EVENT.REPAIR_DONE
     let s5 := if used = 1 then s4.evt (Reg.CLU.EVENT.SPARE_LOW c) else s4
     Ans.say s5 Sts.ok 0 [BitVec.ofNat 8 verify, BitVec.ofNat 8 (used + 1)])

/-- REPAIR_FUSE (R551). -/
def execRepairFuse (h : Hdr) (p : List Byte) (s : State) : Res := .next (command 0x0C03 h p (cmdRepairFuse p) s)

end Sys2Proof.Machine
end

