-- ==== Sys2Proof/Machine/Bundle.lean ====
section
/-! DEFINITION. How an engine issues a bundle (R200–R202, R236–R247): what makes it ILLEGAL, delay bundles, hardware loops, atomic groups;
one command per slot operation; and stepping and injection (R540). -/

namespace Sys2Proof.Machine

/-! ## What raises ILLEGAL (R237, R245–R247, R250) -/

/-- Is an operation of the scalar slot a branch (0x20–0x26)? -/
def isBranch (o : SlotOp) : Bool := decide (0x20 ≤ o.op ∧ o.op ≤ 0x26)
def isLoop (o : SlotOp) : Bool := o.op == 0x28 || o.op == 0x29

/-- The running loops of the bank in use, innermost first. -/
def Eng.ls (x : Eng) (main : Bool) : List HwLoop := if main then x.loops else x.sloops

/-- Scalar registers and vector registers that a bundle's slots name as destinations, one list per slot. -/
def sDests (o : SlotOp) : List Nat :=
  if decide (1 ≤ o.op ∧ o.op ≤ 0x19) || o.op == 0x25 || o.op == 0x30 || o.op == 0x39 || o.op == 0x42 then [o.d] else []
def lDestsS (o : SlotOp) : List Nat :=
  match o.op with
  | 0x02 | 0x06 => [o.a]
  | 0x03 => (if bit o.n 0 then [o.a] else []) ++ (if bit o.n 1 then [o.b] else [])
  | 0x04 => [o.d]
  | _ => []
def lDestsV (o : SlotOp) : List Nat :=
  match o.op with
  | 0x01 | 0x02 => [o.d]
  | 0x03 => [o.d, o.m]
  | _ => []
def vDests (o : SlotOp) : List Nat := if o.op = 0 then [] else [o.d]
def mDests (o : SlotOp) : List Nat := if o.op = 0x07 ∨ o.op = 0x08 ∨ o.op = 0x0A then [o.d] else []

/-- Do two slots name one destination register, or an l.ld2 one register twice? -/
def clash (b : Bundle) : Bool :=
  (sDests b.s).any (lDestsS b.l).contains || (lDestsV b.l).any (vDests b.v).contains || (lDestsV b.l).any (mDests b.m).contains ||
  (vDests b.v).any (mDests b.m).contains || (b.l.op == 0x03 && b.l.d == b.l.m)

/-- Vector slot conditions: lane mode 0b11 and counts outside their range. -/
def vIllegal (o : SlotOp) : Bool :=
  let w := laneW o.m
  o.op != 0 && (o.m == 3 ||
    match o.op with
    | 0x0A | 0x0B | 0x0C => decide (w ≤ o.n)
    | 0x0E => decide (256 / w ≤ o.n)
    | 0x13 => o.m == 1
    | 0x14 => o.m == 1 || decide (1 < o.n)
    | 0x17 => o.n == 0 || decide (w ≤ o.n)
    | _ => false)

/-- Multiply-accumulate slot conditions. -/
def mIllegal (o : SlotOp) : Bool :=
  match o.op with
  | 0x07 => decide (47 < o.n)
  | 0x0A | 0x0B => decide (2 < o.m)
  | _ => false

/-- Scalar slot conditions, at bundle `pc` (R245–R247, R256). -/
def State.sIllegal (s : State) (e : Nat) (o : SlotOp) : Bool :=
  let x := s.engine e
  let main := !s.inHandler e
  let pc := s.engPc e
  let target := brTarget o (x.s_ main o.a)
  (isBranch o && (x.br.isSome || decide (x.nb ≤ target))) ||
  (isLoop o && (decide (o.n < pc) || decide (x.nb ≤ o.n) || (x.ls main).any (fun l => l.lc == o.m || decide (l.last ≤ o.n)))) ||
  (o.op == 0x17 && o.n % 32 == 0) || (o.op == 0x29 && o.a == 0) ||
  (o.op == 0x30 && decide (10 < o.a)) || (o.op == 0x31 && (ctlLand main o.d 0).isNone) || (o.op == 0x34 && main)

/-- Loop end and atomic group conditions (R246, R247). -/
def State.placeIllegal (s : State) (e : Nat) (o : SlotOp) : Bool :=
  let x := s.engine e
  let atEnd := ((x.ls (!s.inHandler e)).head?).any (fun l => l.last == s.engPc e)
  (atEnd && (isBranch o || x.br.isSome)) ||
  (x.atom != 0 && (o.op == 0x2A || o.op == 0x41 || o.op == 0x34 || atEnd || (isBranch o && decide (x.atom < 3))))

/-- Does a bundle raise ILLEGAL where the engine stands? -/
def State.illegal (s : State) (e : Nat) (b : Bundle) : Bool :=
  clash b || vIllegal b.v || mIllegal b.m || s.sIllegal e b.s || s.placeIllegal e b.s

/-! ## Flow (R202, R245–R247) -/

/-- A loop counter. -/
def Eng.lc_ (x : Eng) (main : Bool) (i : Nat) : Nat :=
  if main then (if i = 0 then x.lc0 else x.lc1) else (if i = 0 then x.slc0 else x.slc1)
def Eng.setLc (x : Eng) (main : Bool) (i v : Nat) : Eng := x.land (.lc main i v)
def Eng.setLs (x : Eng) (main : Bool) (l : List HwLoop) : Eng := if main then { x with loops := l } else { x with sloops := l }

/-- The end of a loop's pass: one pass fewer remains, and the body runs again or the loop is over (R246). -/
def Eng.loopEnd (x : Eng) (main : Bool) (pc : Nat) : Eng × Nat :=
  match x.ls main with
  | l :: rest =>
    if l.last = pc then
      if x.lc_ main l.lc ≤ 1 then ((x.setLc main l.lc 0).setLs main rest, pc + 1)
      else (x.setLc main l.lc (x.lc_ main l.lc - 1), l.first)
    else (x, pc + 1)
  | [] => (x, pc + 1)

/-- The bundle just issued was a delay bundle or not: a branch takes effect after its second, and ends the loops it leaves. -/
def Eng.branchEnd (x : Eng) (main : Bool) (next : Nat) : Eng × Nat :=
  match x.br with
  | some (1, some t) =>
    (({ x with br := none } : Eng).setLs main ((x.ls main).dropWhile (fun l => decide (t < l.first ∨ l.last < t))), t)
  | some (1, none) => ({ x with br := none }, next)
  | some (n, t) => ({ x with br := some (n - 1, t) }, next)
  | none => (x, next)

/-- Issue passes the bundle at `pc`: the next bundle, and whether a skipped loop body costs its two idle cycles. -/
def Eng.advance (x : Eng) (main : Bool) (pc : Nat) (c : Ctl) : Eng × Nat × Bool :=
  let y : Eng := { x with atom := x.atom - 1 }
  let r := (y.loopEnd main pc)
  let q := r.1.branchEnd main r.2
  match c with
  | .branch t => ({ q.1 with br := some (2, t) }, q.2, false)
  | .atom n => ({ q.1 with atom := n }, q.2, false)
  | .loop i count last =>
    if count = 0 then (q.1.setLc main i 0, last + 1, true)
    else if last = pc then (q.1.setLc main i 0, q.2, false)
    else ((q.1.setLc main i count).setLs main (⟨i, pc + 1, last⟩ :: q.1.ls main), q.2, false)
  | _ => (q.1, q.2, false)

/-! ## Issue -/

/-- A running engine whose next boundary takes nothing else first: no event, checkpoint, halt, rollback, or wait (R209, R211, R214, R538). -/
def State.mayIssue (s : State) (e : Nat) : Bool :=
  let x := s.engine e
  s.engPresent e && s.engOn e && s.engState e == engRunning && !x.wait && !(x.free && (s.engEvent e).isSome) &&
  !(x.ask && x.free && !s.inHandler e) && !(x.haltReq && x.free && !s.inSpec e) &&
  !(x.rollback && s.inSpec e && !s.inHandler e && x.atom == 0)

/-- The tick that a t.done satisfies: the one just over, while its deadline has not passed and it is open, else the present one (R218,
R257). -/
def State.doneTick (s : State) (e : Nat) : Nat :=
  if s.slot < s.rd (Reg.ENG.WDOG.MARGIN e) ∧ (s.engine e).done.all (fun d => decide (d + 1 < s.now)) ∧ 0 < s.now then s.now - 1 else s.now

/-- The results of a bundle join those in flight, and the engine's cycle counters of cluster-memory stores age. -/
def State.fly (s : State) (e : Nat) (l : List (Nat × Landing)) : State :=
  s.updEngine e (fun x => { x with
    fly := x.fly ++ l, recent := (x.recent.map (fun r => (r.1 + 1, r.2))).filter (fun r => decide (r.1 < 8)),
    fresh := x.fresh && s.inHandler e })

/-- What the slots of a bundle do at issue: the scalar slot's flow, and the cause of an exception with its address. -/
def State.runSlots (s : State) (e : Nat) (b : Bundle) : State × Ctl × Option (Nat × Nat) :=
  let sr := s.sSlot e b.s
  let lr := s.lSlot e b.l
  let fly := sr.1.map (fun l => (1, l)) ++ lr.fly ++ s.vSlot e b.v ++ s.mSlot e b.m
  let exc := match lr.exc with
    | some x => some x
    | none => if sr.2 = .spec then some (4, 0) else none
  (lr.st.fly e fly, sr.2, exc)

/-- The exception of a bundle; SPEC_ACCESS also ends the speculation (R180, R210, R219). -/
def State.raise (s : State) (e pc : Nat) (exc : Option (Nat × Nat)) : State :=
  match exc with
  | none => s
  | some (c, a) =>
    let s1 := s.engExc e c pc a
    if c = 4 then s1.specFault (s.engine e).egress else s1

/-- reti: results land, the main bank is back, and the interrupted program goes on at EPC (R215). -/
def State.doReti (s : State) (e : Nat) : State :=
  let s1 := s.engDrain e
  let s2 := s1.updEngine e (fun x => { x with fresh := true, br := none, sloops := [] })
  (s2.wr (Reg.ENG.STATUS.HANDLER e) 0).wr (Reg.ENG.STATUS.PC e) (s2.engine e).epc

/-- What the scalar slot does after the cycle. -/
def State.after (s : State) (e : Nat) (c : Ctl) : State :=
  match c with
  | .reti => if s.inHandler e ∧ s.engState e ≠ engFaulted then s.doReti e else s
  | .wait => (s.engDrain e).updEngine e (fun x => { x with wait := true })
  | .done => s.updEngine e (fun x => { x with done := some (s.doneTick e) })
  | _ => s

/-- The flow passes the bundle at the present PC. -/
def State.pass (s : State) (e : Nat) (c : Ctl) : State :=
  let r := (s.engine e).advance (!s.inHandler e) (s.engPc e) c
  let s1 := (s.setEngine e r.1).wr (Reg.ENG.STATUS.PC e) r.2.1
  if r.2.2 then (s1.engCycle e).engCycle e else s1

/-- An engine issues a bundle: one cycle (R200, R236, R237). -/
def State.issue (s : State) (e : Nat) (b : Bundle) : State :=
  let pc := s.engPc e
  let s0 := s.updEngine e (fun x => { x with openB := {} })
  if s.illegal e b then ((((s0.fly e []).pass e .plain).raise e pc (some (1, 0)))).engCycle e
  else
    let r := s0.runSlots e b
    (((r.1.pass e r.2.1).raise e pc r.2.2).engCycle e).after e r.2.1

/-- A slot operation joins the bundle being put together; without `more`, the bundle issues. -/
def State.place (s : State) (e : Nat) (more : Bool) (f : Bundle → Bundle) : State :=
  if !s.mayIssue e then s
  else
    let b := f (s.engine e).openB
    if more then s.updEngine e (fun x => { x with openB := b }) else s.issue e b

/-- One slot's operation. -/
def State.inS (s : State) (e : Nat) (more : Bool) (o : SlotOp) : State := s.place e more (fun b => { b with s := o })
def State.inL (s : State) (e : Nat) (more : Bool) (o : SlotOp) : State := s.place e more (fun b => { b with l := o })
def State.inV (s : State) (e : Nat) (more : Bool) (o : SlotOp) : State := s.place e more (fun b => { b with v := o })
def State.inM (s : State) (e : Nat) (more : Bool) (o : SlotOp) : State := s.place e more (fun b => { b with m := o })

/-! ## Slot words (R236–R238) -/

/-- Bits `hi` to `lo` of a slot word. -/
def bits (w : Word) (hi lo : Nat) : Nat := w.toNat / 2 ^ lo % 2 ^ (hi - lo + 1)

/-- A scalar slot word; none where R237 makes it ILLEGAL. -/
def decodeS (w : Word) : Option SlotOp :=
  let op := bits w 31 25
  let f := bits w 24 20
  let a := bits w 19 15
  let z := fun (c : Bool) (o : SlotOp) => if c then some o else none
  if w = 0 then some {}
  else if 1 ≤ op ∧ op ≤ 0x0D then z (bits w 9 0 == 0) { op := op, d := f, a := a, b := bits w 14 10 }
  else if 0x10 ≤ op ∧ op ≤ 0x13 then some { op := op, d := f, a := a, n := bits w 14 0 }
  else if 0x14 ≤ op ∧ op ≤ 0x17 then z (bits w 14 5 == 0) { op := op, d := f, a := a, n := bits w 4 0 }
  else if op = 0x18 ∨ op = 0x19 then some { op := op, d := f, n := bits w 19 0 }
  else if 0x20 ≤ op ∧ op ≤ 0x23 then z (bits w 14 11 == 0) { op := op, a := f, b := a, n := bits w 10 0 }
  else if op = 0x24 then z (bits w 24 11 == 0) { op := op, n := bits w 10 0 }
  else if op = 0x25 then z (bits w 19 11 == 0) { op := op, d := f, n := bits w 10 0 }
  else if op = 0x26 then z (bits w 19 0 == 0) { op := op, a := f }
  else if op = 0x28 then z (bits w 23 20 == 0 && bits w 14 11 == 0) { op := op, m := bits w 24 24, a := a, n := bits w 10 0 }
  else if op = 0x29 then z (bits w 11 11 == 0) { op := op, m := bits w 24 24, a := bits w 23 12, n := bits w 10 0 }
  else if op = 0x2A then z (bits w 24 3 == 0) { op := op, n := bits w 2 0 }
  else if op = 0x30 ∨ op = 0x31 then z (bits w 9 0 == 0) { op := op, d := f, a := a }
  else if op = 0x32 ∨ op = 0x33 then some { op := op, n := bits w 3 0 }
  else if op = 0x34 ∨ op = 0x38 ∨ op = 0x3A ∨ op = 0x40 ∨ op = 0x41 then z (bits w 24 0 == 0) { op := op }
  else if op = 0x39 then some { op := op, d := f, n := bits w 3 0 }
  else if op = 0x42 then some { op := op, d := f }
  else none

/-- A load and store slot word. -/
def decodeL (w : Word) : Option SlotOp :=
  let op := bits w 31 25
  if w = 0 then some {}
  else if op = 0x03 then
    if bits w 4 2 = 0 then
      some { op := op, d := bits w 24 20, m := bits w 19 15, a := bits w 14 10, b := bits w 9 5, n := bits w 1 0 }
    else none
  else if 1 ≤ op ∧ op ≤ 7 then some { op := op, d := bits w 24 20, a := bits w 19 15, n := bits w 14 0 }
  else none

/-- The modifiers that a vector operation accepts (R250): .s, .r, .bx. -/
def vMods (op : Nat) : Bool × Bool × Bool :=
  match op with
  | 0x01 | 0x02 | 0x06 => (true, false, true)
  | 0x03 => (true, true, true)
  | 0x04 | 0x05 | 0x0C | 0x0D | 0x13 => (false, false, true)
  | 0x0A => (false, true, true)
  | _ => (false, false, false)

/-- A vector slot word. -/
def decodeV (w : Word) : Option SlotOp :=
  let op := bits w 31 25
  let o : SlotOp := { op := op, d := bits w 24 20, a := bits w 19 15, b := bits w 14 10, n := bits w 4 0, m := bits w 9 8, bx := bits w 7 7 == 1, sat := bits w 6 6 == 1, rnd := bits w 5 5 == 1 }
  let k := vMods op
  if w = 0 then some {}
  else if 1 ≤ op ∧ op ≤ 0x17 ∧ (o.sat → k.1) ∧ (o.rnd → k.2.1) ∧ (o.bx → k.2.2) then some o
  else none

/-- A multiply-accumulate slot word. -/
def decodeM (w : Word) : Option SlotOp :=
  let op := bits w 31 25
  let bx := bits w 7 7 == 1
  let ma : SlotOp := { op := op, d := bits w 24 23, a := bits w 22 18, b := bits w 17 13, n := bits w 12 9, sat := bits w 8 8 == 1, bx := bx }
  if w = 0 then some {}
  else if 1 ≤ op ∧ op ≤ 5 then (if bits w 6 0 = 0 then some ma else none)
  else if op = 6 then (if bits w 22 0 = 0 then some { op := op, d := bits w 24 23 } else none)
  else if op = 7 then
    if bits w 17 8 = 0 ∧ bits w 6 6 = 0 then some { op := op, d := bits w 24 20, a := bits w 19 18, n := bits w 5 0, bx := bx } else none
  else if op = 8 then
    if bits w 12 8 = 0 ∧ bits w 6 0 = 0 then some { op := op, d := bits w 24 20, a := bits w 19 18, b := bits w 17 13, bx := bx } else none
  else if op = 9 then
    if bits w 20 8 = 0 ∧ bits w 6 0 = 0 then some { op := op, d := bits w 24 23, a := bits w 22 21, bx := bx } else none
  else if op = 0x0A then
    if bits w 15 0 = 0 then some { op := op, d := bits w 24 20, a := bits w 19 18, m := bits w 17 16 } else none
  else if op = 0x0B then
    if bits w 15 0 = 0 then some { op := op, d := bits w 19 18, a := bits w 24 20, m := bits w 17 16 } else none
  else none

/-- A bundle from its four words, M lowest (R236). -/
def decodeBundle (m v l s : Word) : Option Bundle :=
  match decodeS s, decodeL l, decodeV v, decodeM m with
  | some a, some b, some c, some d => some ⟨a, b, c, d⟩
  | _, _, _, _ => none

/-- The bundle of the engine's program at an index. -/
def Eng.bundleAt (x : Eng) (pc : Nat) : Option Bundle :=
  let word := fun (i : Nat) => BitVec.ofNat 32 (leAt (x.prog.readN (16 * pc + 4 * i) 4) 0 4)
  decodeBundle (word 0) (word 1) (word 2) (word 3)

/-! ## Stepping and injection (R540) -/

/-- The engine issues the bundle its program holds at the PC. -/
def State.issueNext (s : State) (e : Nat) : State :=
  match (s.engine e).bundleAt (s.engPc e) with
  | some b => s.issue e b
  | none => (((s.fly e []).pass e .plain).raise e (s.engPc e) (some (1, 0))).engCycle e

/-- A step's bundles: the rest of an atomic group, or a branch's delay bundles, go with the first. -/
def State.stepMore (s : State) (e : Nat) : Nat → State
  | 0 => s
  | n + 1 => if (s.engine e).free then s else (s.issueNext e).stepMore e n

/-- STEP: the next bundle, or the whole group, then results land and the engine is HALTED again; one that faulted stays FAULTED
for its resume. -/
def State.step1 (s : State) (e : Nat) : State :=
  if s.engPresent e ∧ s.engOn e ∧ s.engState e = engHalted then
    let t := ((s.issueNext e).stepMore e 32).engDrain e
    if t.engState e = engHalted then t else (t.updEngine e (fun x => { x with prior := t.engState e })).wr (Reg.ENG.STATUS.STATE e) engHalted
  else s

/-- ENGINE_STEP (R540). -/
def execEngineStep (m e : Nat) (s : State) : Res := .next (if e < 256 then s.engCtrl m e (fun t => t.step1 e) else s)

/-- What an injected bundle may not hold (R540). -/
def notInject (o : SlotOp) : Bool := isBranch o || isLoop o || o.op == 0x2A || o.op == 0x34 || o.op == 0x41

/-- INJECT: the bundle of DBG.INJ0–3 with the bank in use; one that is forbidden or raises an exception takes no effect, its cause in
INJ_CAUSE. -/
def State.inject (s : State) (e : Nat) : State :=
  if s.engPresent e ∧ s.engOn e ∧ s.engState e = engHalted then
    let fail := fun (c : Nat) => (s.wr Reg.DBG.ENG_STAT.INJ_CAUSE c).evt Reg.DBG.EVENT.INJ_DONE
    match decodeBundle (s.reg (Reg.DBG.INJ 0)) (s.reg (Reg.DBG.INJ 1)) (s.reg (Reg.DBG.INJ 2)) (s.reg (Reg.DBG.INJ 3)) with
    | none => fail 1
    | some b =>
      if notInject b.s || clash b || vIllegal b.v || mIllegal b.m || s.sIllegal e b.s then fail 1
      else
        let r := s.runSlots e b
        match r.2.2 with
        | some (c, _) => fail c
        | none => ((((r.1.engCycle e).after e r.2.1).engDrain e).wr Reg.DBG.ENG_STAT.INJ_CAUSE 0).evt Reg.DBG.EVENT.INJ_DONE
  else s

/-- ENGINE_INJECT (R540). -/
def execEngineInject (m e : Nat) (s : State) : Res := .next (if e < 256 then s.engCtrl m e (fun t => t.inject e) else s)

end Sys2Proof.Machine
end

