-- ==== Sys2Proof/Machine/Rings.lean ====
section
/-! DEFINITION. The command transports' own parts (03_commands.md): the ring registers, replies on rings and SPI, and the
SPI target's buffer and status. Running what they carry is Transport.lean's. -/

namespace Sys2Proof.Machine

/-! ## Rings (R102–R107) -/

def State.ring (s : State) (n : Nat) : Ring := SMap.get (fun _ => ({} : Ring)) s.xp.rings n
def State.setRing (s : State) (n : Nat) (r : Ring) : State :=
  { s with xp := { s.xp with rings := SMap.set (fun _ => ({} : Ring)) s.xp.rings n r } }

/-- A ring's length (R102). -/
def State.ringLen (s : State) (n : Nat) : Nat := 2 ^ s.rd (Reg.CMD.RING_CFG.LOG2_LEN n)

/-- A ring error bit and its event (CMD.EVENT.RING_ERR). -/
def State.ringErr (s : State) (f : Fld) : State := (s.evt f).evt Reg.CMD.EVENT.RING_ERR

/-- All four indices at 0, and the first pass of PHASE 1 (R104, R105). -/
def State.zeroRing (s : State) (n : Nat) : State :=
  ((((s.wr (Reg.CMD.RING_SQ_TAIL.INDEX n) 0).wr (Reg.CMD.RING_SQ_HEAD.INDEX n) 0).wr (Reg.CMD.RING_CQ_TAIL.INDEX n) 0).wr
    (Reg.CMD.RING_CQ_HEAD.INDEX n) 0).setRing n {}

/-- A register write by the host: discarded, with the endpoint's abort, where the register's domain is off (R5). -/
def State.posted (s : State) (off : Nat) (t : State) : State :=
  if (domOfOffset off).all (fun d => s.domOn d) then t else s.abortPosted off

/-- An index write: not below the ring length, it changes nothing (R102). -/
def State.indexWrite (s : State) (n v : Nat) (f : Fld) : State :=
  s.posted f.off (if v < s.ringLen n then s.wr f v else s.ringErr (Reg.CMD.RING_STATUS.DOORBELL_ERR n))

/-- SQ_TAIL_WRITE (R102). -/
def execSqTailWrite (n v : Nat) (s : State) : Res :=
  .next (if n < 4 then s.indexWrite n v (Reg.CMD.RING_SQ_TAIL.INDEX n) else s)

/-- CQ_HEAD_WRITE (R102, R103). -/
def execCqHeadWrite (n v : Nat) (s : State) : Res :=
  .next (if n < 4 then s.indexWrite n v (Reg.CMD.RING_CQ_HEAD.INDEX n) else s)

/-- RING_ENABLE (R106): refused with CFG_ERR unless the ring is IDLE; the indices clear. -/
def execRingEnable (n : Nat) (s : State) : Res :=
  if 4 ≤ n then .next s
  else
    .next (s.posted (Reg.CMD.RING_CFG n)
      (if s.isSet (Reg.CMD.RING_CFG.EN n) then s
       else if ¬ s.isSet (Reg.CMD.RING_STATUS.IDLE n) then s.ringErr (Reg.CMD.RING_STATUS.CFG_ERR n)
       else ((s.zeroRing n).wr (Reg.CMD.RING_CFG.EN n) 1).wr (Reg.CMD.RING_STATUS.IDLE n) 0))

/-- RING_DISABLE (R106): fetching stops; outstanding commands finish. -/
def execRingDisable (n : Nat) (s : State) : Res :=
  .next (if n < 4 then s.posted (Reg.CMD.RING_CFG n) (s.wr (Reg.CMD.RING_CFG.EN n) 0) else s)

/-- RING_IDLE (R106): disabled or stopped by FETCH_ERR, with no command outstanding. -/
def execRingIdle (n : Nat) (s : State) : Res :=
  .next (if n < 4 ∧ s.domOn 1 ∧ (¬ s.isSet (Reg.CMD.RING_CFG.EN n) ∨ (s.ring n).stopped) ∧ s.rd (Reg.CMD.RING_STATUS.OUTSTANDING n) = 0
    then s.wr (Reg.CMD.RING_STATUS.IDLE n) 1 else s)

/-- RING_LENGTH_WRITE (R105, R127): out of 4–12 it changes nothing; staged while the ring is enabled, unless it is the length
in force. -/
def execRingLengthWrite (n v : Nat) (s : State) : Res :=
  if 4 ≤ n ∨ v < 4 ∨ 12 < v then .next s
  else
    .next (s.posted (Reg.CMD.RING_CFG n)
      (if v = s.rd (Reg.CMD.RING_CFG.LOG2_LEN n) then s
       else if s.isSet (Reg.CMD.RING_CFG.EN n) then (s.wr (Reg.CMD.RING_STATUS.PEND_LOG2 n) v).wr (Reg.CMD.RING_STATUS.RING_PEND n) 1
       else s.wr (Reg.CMD.RING_CFG.LOG2_LEN n) v))

/-- Nothing in the ring: both queues empty and no command outstanding (R105). -/
def State.ringEmpty (s : State) (n : Nat) : Bool :=
  s.rd (Reg.CMD.RING_SQ_HEAD.INDEX n) == s.rd (Reg.CMD.RING_SQ_TAIL.INDEX n) && s.rd (Reg.CMD.RING_STATUS.OUTSTANDING n) == 0 &&
  s.rd (Reg.CMD.RING_CQ_HEAD.INDEX n) == s.rd (Reg.CMD.RING_CQ_TAIL.INDEX n)

/-- RING_LENGTH_APPLY (R105). -/
def execRingLengthApply (n : Nat) (s : State) : Res :=
  if n < 4 ∧ s.isSet (Reg.CMD.RING_STATUS.RING_PEND n) ∧ s.ringEmpty n then
    .next (((s.wr (Reg.CMD.RING_CFG.LOG2_LEN n) (s.rd (Reg.CMD.RING_STATUS.PEND_LOG2 n))).wr (Reg.CMD.RING_STATUS.RING_PEND n) 0).zeroRing n)
  else .next s

/-- RING_CANCEL (R105). -/
def execRingCancel (n : Nat) (s : State) : Res :=
  .next (if n < 4 then s.posted (Reg.CMD.RING_CFG n) (s.wr (Reg.CMD.RING_STATUS.RING_PEND n) 0) else s)

/-- The base registers of a ring: SQ low and high, CQ low and high. -/
def ringBase (n r : Nat) : Fld :=
  match r with
  | 0 => Reg.CMD.RING_SQ_BASE_LO.ADDR_LO n
  | 1 => Reg.CMD.RING_SQ_BASE_HI.ADDR_HI n
  | 2 => Reg.CMD.RING_CQ_BASE_LO.ADDR_LO n
  | _ => Reg.CMD.RING_CQ_BASE_HI.ADDR_HI n

/-- RING_BASE_WRITE (R106): a word written to base register `r`; ignored with CFG_ERR while the ring is enabled. -/
def execRingBaseWrite (n r v : Nat) (s : State) : Res :=
  if 4 ≤ n ∨ 4 ≤ r then .next s
  else
    .next (s.posted (ringBase n r).off
      (if s.isSet (Reg.CMD.RING_CFG.EN n) then s.ringErr (Reg.CMD.RING_STATUS.CFG_ERR n)
       else s.wr (ringBase n r) (v / 2 ^ (ringBase n r).lsb)))

/-! ## Replies (R98, R99, R104) -/

/-- An address held in a low and a high register field. -/
def State.ringAddr (s : State) (lo hi : Fld) : Nat := s.rd lo * 2 ^ lo.lsb + s.rd hi * 2 ^ 32

/-- A reply's 32 bytes (R98). -/
def Reply.bytes (r : Reply) (phase : Bool) : List Byte :=
  toLe 4 r.seq.toNat ++ toLe 2 (r.status % 2 ^ 15 + if phase then 2 ^ 15 else 0) ++ toLe 2 r.source ++ toLe 8 r.effect ++ fitTo 16 r.result

/-- CQ_TAIL advances over a contiguous run of written slots (R104): the slots still written past it and the new tail. -/
def advanceTail (len : Nat) : Nat → List Nat → Nat → List Nat × Nat
  | 0, w, t => (w, t)
  | f + 1, w, t => if w.contains t then advanceTail len f (w.filter (· != t)) ((t + 1) % len) else (w, t)

/-- Write a ring's reply into its slot: PHASE, the completion event, CQ_TAIL and its write-back (R99, R104). -/
def State.ringReply (s : State) (r : Reply) (n slot : Nat) (phase : Bool) : State :=
  if s.rd (Reg.CMD.RING_STATUS.OUTSTANDING n) = 0 then s
  else
    let cq := s.ringAddr (Reg.CMD.RING_CQ_BASE_LO.ADDR_LO n) (Reg.CMD.RING_CQ_BASE_HI.ADDR_HI n)
    let len := s.ringLen n
    let s1 : State := { s with hostMem := s.hostMem.writeN (cq + 32 * slot) (r.bytes phase) }
    let s2 := s1.wr (Reg.CMD.RING_STATUS.OUTSTANDING n) (s.rd (Reg.CMD.RING_STATUS.OUTSTANDING n) - 1)
    let s3 := if r.irq then s2.evtBit Reg.CMD.EVENT.CQ n else s2
    let old := s.rd (Reg.CMD.RING_CQ_TAIL.INDEX n)
    let w := (s.ring n).written ++ [slot]
    let t := advanceTail len w.length w old
    let s4 := (s3.setRing n { s.ring n with written := t.1 }).wr (Reg.CMD.RING_CQ_TAIL.INDEX n) t.2
    if t.2 ≠ old ∧ s.isSet (Reg.CMD.RING_CFG.WB_EN n) then
      let wb := s.ringAddr (Reg.CMD.RING_WB_LO.ADDR_LO n) (Reg.CMD.RING_WB_HI.ADDR_HI n)
      let s5 : State := { s4 with hostMem := s4.hostMem.writeN wb (toLe 4 t.2) }
      s5.emit (.cqTail n t.2)
    else s4

/-- Write one completed reply to its transport; an SPI reply waits while 16 stand in the queue (R108). -/
def State.replyWrite (s : State) (i : Nat) : State :=
  match s.xp.replies[i]? with
  | none => s
  | some r =>
    let s1 : State := { s with xp := { s.xp with
      replies := s.xp.replies.eraseIdx i, journal := s.xp.journal.erase (r.via, r.seq) } }
    match r.via with
    | .ring n slot phase => s1.ringReply r n slot phase
    | .spi =>
      if s.xp.spiReplies.length < 16 then { s1 with xp := { s1.xp with spiReplies := s1.xp.spiReplies ++ [r.bytes false] } }
      else s
    | .mesh _ => s1

/-- REPLY_WRITE (R104, R116, R118): the `i`-th completed reply is written; past its bound it is counted in OVERRUN. While core 1
is halted or restarts, HW_PATH commands alone are answered (R542). -/
def execReplyWrite (i : Nat) (late : Bool) (s : State) : Res :=
  if i < s.xp.replies.length ∧ s.isSet Reg.CMD.STATUS.FW_READY ∧
      ¬ (s.coreOff 1 ∧ (s.xp.replies[i]?).any (fun r => !r.hw)) then
    let s1 := s.replyWrite i
    .next (if late then (s1.bump Reg.CMD.OVERRUN.OVERRUN_CNT).evt Reg.CMD.EVENT.OVERRUN else s1)
  else .next s

/-- Every completed reply is written. -/
def State.flushReplies (s : State) : State := (List.range s.xp.replies.length).foldl (fun t _ => t.replyWrite 0) s

/-! ## SPI target (R108–R110) -/

/-- The SPI target runs once the transports do (R110, R123). -/
def State.spiOn (s : State) : Bool := s.isSet Reg.CMD.STATUS.FW_READY

/-- CMD.SPI_STATUS as it reads. -/
def State.spiStatus (s : State) : Word :=
  let e := (s.reg Reg.CMD.SPI_STATUS).toNat / 2 ^ 16 % 4
  BitVec.ofNat 32 (16 - s.xp.spiSubs.length + s.xp.spiReplies.length * 2 ^ 8 + e * 2 ^ 16 + s.rd Reg.CMD.STATUS.FW_READY * 2 ^ 18)

/-- SPI_READ_STATUS (R108): four bytes, lowest first. -/
def execSpiReadStatus (s : State) : Res :=
  .next (if s.spiOn then s.emit (.spiOut (toLe 4 s.spiStatus.toNat)) else s)

/-- SPI_WRITE_BUF (R110): wraps at 0xFFFF. -/
def execSpiWriteBuf (off : Nat) (data : List Byte) (s : State) : Res :=
  if s.spiOn then
    let ps := (List.range data.length).map (fun i => ((off + i) % 0x10000, data.getD i 0))
    .next { s with xp := { s.xp with spiBuf := ps.foldl (fun m x => m.write x.1 x.2) s.xp.spiBuf } }
  else .next s

/-- SPI_READ_BUF (R110): wraps at 0xFFFF. -/
def execSpiReadBuf (off len : Nat) (s : State) : Res :=
  .next (if s.spiOn then s.emit (.spiOut ((List.range len).map (fun i => s.xp.spiBuf.read ((off + i) % 0x10000)))) else s)

/-- CRC-16 of R109: x^16 + x^12 + x^5 + 1, initial value 0xFFFF, the most significant bit first. -/
def crc16Byte (c : BitVec 16) (b : Byte) : BitVec 16 :=
  let step : BitVec 16 → BitVec 16 := fun x => if x.getLsbD 15 then (x <<< 1) ^^^ 0x1021 else x <<< 1
  step (step (step (step (step (step (step (step (c ^^^ (b.setWidth 16 <<< 8)))))))))
def crc16 (l : List Byte) : Nat := (l.foldl crc16Byte 0xFFFF).toNat

/-- A CRC's two bytes, most significant first. -/
def crcBytes (l : List Byte) : List Byte := [BitVec.ofNat 8 (crc16 l / 256), BitVec.ofNat 8 (crc16 l)]

end Sys2Proof.Machine
end

