-- ==== Sys2Proof/Machine/Modes.lean ====
section
/-! DEFINITION. Operating modes, start-up and fallback (16_modes_and_start.md); DEV_QUERY and DEV_CAPS (03_commands.md). -/

namespace Sys2Proof.Machine

/-! ## DEV_QUERY and DEV_CAPS (R7, R125, R126) -/

/-- CAPS.ID, CAPS.UNITS and CAPS.LANES as they read. -/
def State.capsId (s : State) : Nat :=
  s.ident.variant + s.ident.speed * 2 ^ 4 + s.ident.stepping * 2 ^ 8 + s.ident.profile * 2 ^ 16 + s.ident.algVer * 2 ^ 24
def State.capsUnits (s : State) : Nat :=
  (2 ^ s.nClusters - 1) + (2 ^ (s.nTiles / 4) - 1) * 2 ^ 8 + (2 ^ s.nMcs - 1) * 2 ^ 22 + (if s.nPlanes = 0 then 0 else 2 ^ 30) +
  (if s.hasIme then 2 ^ 31 else 0)
def State.capsLanes (s : State) : Nat := (2 ^ (s.nLanes / 4) - 1) + (2 ^ (s.nPlanes / 4) - 1) * 2 ^ 24

/-- The body of DEV_QUERY (R125). Bit 5 of its flags is set in SYNCING and MATCHING as in PAIRED (DESIGN CHOICE, notes/assumptions/103.md:
R433 says what is not paired for R120 alone). -/
def cmdDevQuery (p : List Byte) (_floor : Nat) (s : State) : Ans :=
  let q := s.rd Reg.CMD.STATUS.FW_READY + 2 * s.rd Reg.CMD.STATUS.CORE_UP + (if s.paired then 32 else 0) +
    64 * s.rd Reg.FAULT.STATUS.FAULT_N + 128 * s.rd Reg.THERM.STATUS.ALARM
  Ans.check s [(noParams p, Sts.badParam)]
    (Ans.say s Sts.ok 0 ([BitVec.ofNat 8 s.mode, BitVec.ofNat 8 s.lock, BitVec.ofNat 8 s.posture, BitVec.ofNat 8 q] ++
      toLe 2 s.live.length ++ toLe 2 (s.inSt (fun c => c == .active)).length ++ toLe 4 (s.rd Reg.LEDGER.MISS.DEADLINE_MISS) ++ toLe 4 s.now))

/-- DEV_QUERY (R125). -/
def execDevQuery (h : Hdr) (p : List Byte) (s : State) : Res := .next (command 0x0101 h p (cmdDevQuery p) s)

/-- The body of DEV_CAPS (R126). -/
def cmdDevCaps (p : List Byte) (_floor : Nat) (s : State) : Ans :=
  Ans.check s [(noParams p, Sts.badParam)]
    (Ans.say s Sts.ok 0 (toLe 4 s.capsId ++ toLe 4 s.capsUnits ++ toLe 4 s.capsLanes ++ toLe 2 s.meshId ++
      [BitVec.ofNat 8 (s.rd Reg.CMD.STATUS.PATCH_LEVEL), if s.ident.profile = 0x56 then 0x11 else 0x20]))

/-- DEV_CAPS (R126). -/
def execDevCaps (h : Hdr) (p : List Byte) (s : State) : Res := .next (command 0x0102 h p (cmdDevCaps p) s)

/-! ## Mode changes (R482, R483, R495, R496) -/

/-- A contract work that keeps the device in Flight (R483): an activation, an arming or a take pending. -/
def State.takePending (s : State) : Bool :=
  !s.take.pend.isEmpty || s.due.any (fun d => match d.act with | .activate _ => true | .arm _ _ _ _ _ _ _ => true | _ => false)

/-- Does a transition lie in the table of R483, with its lock condition met (MODE_REFUSED otherwise)? -/
def State.modeAllowed (s : State) (m : Nat) : Bool :=
  match s.mode, m with
  | 3, 4 | 4, 3 => s.lock == 2 || s.lock == 3
  | 3, 5 | 3, 0 => true
  | 5, 3 => s.lock == 2
  | _, _ => false

/-- Does a transition's condition on contracts and twin hold (BAD_STATE otherwise)? -/
def State.modeFree (s : State) (m : Nat) : Bool :=
  match s.mode, m with
  | 4, 3 => (s.inSt (fun c => c == .active || c == .starved || c == .held || c == .releasing)).isEmpty && !s.takePending
  | 3, 5 | 3, 0 => s.live.isEmpty && !s.paired
  | _, _ => true

/-- The body of MODE_SET (R483, R495). -/
def cmdModeSet (p : List Byte) (_floor : Nat) (s : State) : Ans :=
  let m := u8 p 0
  let wake := u64 p 8
  let eff := s.now + (if s.slot + 1 < s.slots then 1 else 2)
  let known := m == 0 || (decide (3 ≤ m) && decide (m ≤ 5))
  Ans.check s
    [(s.boot.pend.isSome, Sts.busy),
     (known && m != s.mode && !s.modeAllowed m, Sts.modeRefused),
     (!known || !zeroAt p 1 7 || !zeroFrom p 16 || (wake != 0 && (m != 0 || decide (wake ≤ s.now))), Sts.badParam),
     (m != s.mode && !s.modeFree m, Sts.badState)]
    (if m = s.mode then Ans.ok s
     else
       let s1 := (s.wr Reg.MODE.STATUS.PEND 1).wr Reg.MODE.STATUS.TARGET m
       Ans.say { s1 with boot := { s1.boot with pend := some (eff, m), wakeTick := wake } } Sts.ok eff [])

/-- MODE_SET (R495). -/
def execModeSet (h : Hdr) (p : List Byte) (s : State) : Res := .next (command 0x0201 h p (cmdModeSet p) s)

/-- The body of MODE_GET (R496). -/
def cmdModeGet (p : List Byte) (_floor : Nat) (s : State) : Ans :=
  let target := match s.boot.pend with | some (_, m) => m | none => 0xFF
  Ans.check s [(noParams p, Sts.badParam)]
    (Ans.say s Sts.ok 0 ([BitVec.ofNat 8 s.mode, BitVec.ofNat 8 target, BitVec.ofNat 8 (s.rd Reg.MODE.STATUS.ECL_STEP),
      BitVec.ofNat 8 (s.rd Reg.MODE.STATUS.CONFIRMED + 2 * s.rd Reg.MODE.STATUS.WAIT_IMAGE)] ++ toLe 8 s.boot.changed))

/-- MODE_GET (R496). -/
def execModeGet (h : Hdr) (p : List Byte) (s : State) : Res := .next (command 0x0202 h p (cmdModeGet p) s)

/-- PTP and Dolmet references stop with their domains (R39). -/
def State.stopRefs (s : State) : State :=
  let stop := fun (k : Nat) (r : RefState) => if k / 2 ^ 24 = 1 ∨ k / 2 ^ 24 = 4 then { r with alive := false } else r
  let s1 : State := { s with tick := { s.tick with refs := SMap.mapAll (fun _ => ({} : RefState)) stop s.tick.refs } }
  match s1.activeEntry with
  | some i => if (s1.entry i).src = 1 ∨ (s1.entry i).src = 4 then s1.loseActive else s1
  | none => s1

/-- A domain's state through Diapause (R484): clusters and fabric retained, the others off. -/
def diapState (d st : Nat) : Nat := if 5 ≤ d ∧ d ≤ 26 then min st 1 else 0

/-- Entry into Diapause (R39, R347, R386, R392, R484): the reply is written, transports stop, the PCIe link goes to L2, keys are
wrapped, DRAM enters self-refresh and the domains are lowered in descending order, PD01 last. -/
def State.enterDiapause (s : State) : State :=
  let s0 := s.flushReplies
  let s1 : State := { s0 with intc := { s0.intc with link := 3 }, xp := {} }
  let s2 : State := { s1 with boot := { s1.boot with domHeld := (List.range 30).map s1.dom, wake := false } }
  let s3 : State := { s2 with sec := { s2.sec with wrapped := s2.sec.keys, chal := none } }
  let s4 := (List.range 6).foldl (fun t k => if (t.link k).lanes.isEmpty then t else t.linkDown k 0) (s3.setLevel 0)
  let s5 := (List.range s4.nMcs).foldl (fun t m => if t.mcLive m ∧ t.mcState m = 2 then t.enterSr m else t) s4.stopRefs
  let s6 := ((List.range 29).map (fun i => 29 - i)).foldl (fun t d =>
    if t.dom d = diapState d (t.dom d) then t else t.domArrive d (diapState d (t.dom d))) s5
  { s6 with pwr := { s6.pwr with seqs := [], meas := [] }, led := { s6.led with capMw := 225000 } }

/-- MODE_CHANGE (R483, R484): the pending MODE_SET at its boundary; a condition that fails leaves the mode and raises MODE_FAIL. -/
def execModeChange (s : State) : Res :=
  match s.boot.pend with
  | none => .next s
  | some (t, m) =>
    if s.now < t then .next s
    else
      let s0 := (s.wr Reg.MODE.STATUS.PEND 0).wr Reg.MODE.STATUS.TARGET 0
      let s1 : State := { s0 with boot := { s0.boot with pend := none } }
      if ¬ s.modeAllowed m ∨ ¬ s.modeFree m then .next (s1.evt Reg.MODE.EVENT.MODE_FAIL)
      else if m = 0 then .next (s1.enterDiapause.setMode 0).rcFollows
      else .next (s1.setMode m).rcFollows

/-! ## Wake (R485) -/

/-- A wake event in Diapause. -/
def State.wakeUp (s : State) : State := if s.mode = 0 then { s with boot := { s.boot with wake := true } } else s

/-- DIAP_WAKE_PIN (R485): DIAP_WAKE_N low for at least 1 ms. -/
def execDiapWakePin (s : State) : Res := .next s.wakeUp

/-- WAKE_TICK_EXPIRY (R485): the tick of MODE_SET's WAKE_TICK has come. -/
def execWakeTickExpiry (s : State) : Res :=
  .next (if s.boot.wakeTick ≠ 0 ∧ s.boot.wakeTick ≤ s.now then
    ({ s with boot := { s.boot with wakeTick := 0 } } : State).wakeUp else s)

/-- Every port configuration and flow entry takes effect again (R131). -/
def State.restorePorts (s : State) : State :=
  s.strm.ports.foldl (fun t e =>
    ({ t with strm := { t.strm with ports := SMap.erase e.1 t.strm.ports } } : State).applyPort e.1 e.2) s

/-- The lanes of the configured Dolmet links run again and their exchange starts (R413, R430, R485). A link 0 in the RECOVERY role stays
as it is (R401). -/
def State.restoreLinks (s : State) : State :=
  (List.range 6).foldl (fun t k =>
    if (t.link k).lanes.isEmpty ∨ (t.link k).own.isSome then t
    else
      let t1 := (t.link k).lanes.foldl (fun u l =>
        ((((((u.wr (Reg.LANE.STATUS.FUNC l) funcLink).wr (Reg.LANE.STATUS.LINK l) k).wr (Reg.LANE.STATUS.RATE l) 0x0A).setBase l 3).askPstate l 0).startNeg l)) t
      t1.wr (Reg.DOLMET.LINK_STATUS.STATE k) 1) s

/-- Roost is entered (R438, R483). -/
def State.enterRoost (s : State) : State :=
  let s1 := (s.setMode 3).wr Reg.MODE.STATUS.ECL_STEP 0
  ({ s1 with twin := { s1.twin with ok := s1.rd Reg.CLK.STATUS.SRC == 0 } } : State).rcFollows

/-- After Eclosion a twin with AUTO_REJOIN is a receiver again without a command (R437, R446). -/
def State.autoRejoin (s : State) : State :=
  if s.rd Reg.TWIN.CFG.ROLE ≠ 0 ∧ s.isSet Reg.TWIN.CFG.AUTO_REJOIN ∧ s.twinState = 0 then
    let s1 := ((s.setTwin 1).setMuted true).setChg false
    { s1 with twin := { s1.twin with carrier := false, since := s1.now } }
  else s

/-- DIAPAUSE_WAKE (R39, R311, R346, R386, R485): domains in ascending order back to the states held, DRAM out of self-refresh,
keys restored, one scrub pass, lanes to P0; Roost at once while LOCKED, else Eclosion step 12. FIRMWARE_PATCH is not loaded again, and
PATCH_LEVEL reads 0, as PD01 lost it (DESIGN CHOICE, notes/assumptions/104.md: R485 is silent). -/
def execDiapauseWake (s : State) : Res :=
  if s.mode ≠ 0 ∨ ¬ s.boot.wake then .next s
  else
    let s0 := (s.wr Reg.CLK.STATUS.RC_RUN 1).wr Reg.CLK.STATUS.RC_READY 1
    let s1 := ((List.range 29).map (· + 1)).foldl (fun t d =>
      if t.dom d < t.boot.domHeld.getD d 0 then t.domArrive d (t.boot.domHeld.getD d 0) else t) s0
    let s2 := s1.sec.wrapped.foldl (fun t k => t.loadKey k.1 k.2) s1
    let s3 : State := { s2 with sec := { s2.sec with wrapped := [] }, intc := { s2.intc with wakeN := true } }
    let s4 := (s3.restorePorts.restoreLinks.bump Reg.SCRUB.LAST.PASS_CNT).fwReady.evt Reg.MODE.EVENT.WAKE
    let s5 : State := { s4 with boot := { s4.boot with wake := false, domHeld := [], wakeTick := 0 } }
    .next (if s5.lock = 2 then s5.enterRoost else ((s5.setMode 1).wr Reg.MODE.STATUS.ECL_STEP 12).refAvailable)

/-! ## Confirmation (R377, R489, R499) -/

/-- The descriptor of the boot flash that counts: at offset 0, or the copy at 32 KiB (R490); with its offset. -/
def State.flashNow (s : State) : Option (Nat × Nat × Nat) :=
  match s.flashDesc 0 with
  | some d => some (0, d)
  | none => (s.flashDesc 32768).map (fun d => (32768, d))

/-- Rewrite the descriptor at offset 0 with a PREFERRED slot and a new CRC (R489, R501). -/
def State.setPreferred (s : State) (slot : Nat) : State :=
  match s.flashNow with
  | none => s
  | some (at_, _, size) =>
    let d := (s.boot.flash.readN at_ 16).set 6 (BitVec.ofNat 8 slot)
    let s1 : State := { s with boot := { s.boot with flash := s.boot.flash.writeN 0 (d ++ toLe 4 (crc32c d)) } }
    ((s1.wr Reg.BOOT.FLASH.PREFERRED slot).wr Reg.BOOT.FLASH.VALID 1).wr Reg.BOOT.FLASH.SLOT_SIZE size

/-- The fuse changes of a confirmed image's FUSE_POLICY that R372 permits (R377). -/
def State.applyPolicy (s : State) : State :=
  let p := s.sec.policy
  if p = [] ∨ u32 p 0 ≠ 0x4C50465A then s
  else
    let want := (List.range 4).filter (fun k => bit (u8 p 4) k && k != s.boot.keySlot)
    let revoked := want.foldl setBit s.ident.revoked
    let cap := if u8 p 5 ≤ 2 then min s.ident.debugCap (u8 p 5) else s.ident.debugCap
    let key := if bit (u8 p 6) 1 ∧ s.ident.debugKey = 0 then leAt p 8 48 else s.ident.debugKey
    let i1 : Identity := { s.ident with revoked := revoked, debugCap := cap, noPlain := s.ident.noPlain || bit (u8 p 6) 0, debugKey := key }
    ({ s with ident := i1, sec := { s.sec with policy := [] } } : State).evt Reg.SEC.EVENT.FUSE_APPLIED

/-- BOOT_CONFIRM takes effect (R489). -/
def State.confirm (s : State) : State :=
  let slot := s.rd Reg.MODE.STATUS.RUN_SLOT
  let s1 := ((s.wr Reg.MODE.STATUS.ATTEMPTS 0).wr Reg.MODE.STATUS.CONFIRMED 1).evt Reg.MODE.EVENT.CONFIRMED
  (if slot < 2 ∧ s.rd Reg.BOOT.FLASH.PREFERRED ≠ slot then s1.setPreferred slot else s1).applyPolicy

/-- The body of BOOT_CONFIRM (R499). -/
def cmdBootConfirm (p : List Byte) (_floor : Nat) (s : State) : Ans :=
  Ans.check s [(s.mode != 3 && s.mode != 4, Sts.modeRefused), (noParams p, Sts.badParam), (s.isSet Reg.MODE.STATUS.CONFIRMED, Sts.badState)]
    (Ans.ok s.confirm)

/-- BOOT_CONFIRM (R499). -/
def execBootConfirm (h : Hdr) (p : List Byte) (s : State) : Res := .next (command 0x0E02 h p (cmdBootConfirm p) s)

/-- ROOST_ENTRY_ON_LOCK (R485, R486 step 12): the attempt is recorded as it succeeds; an image with AUTO_CONFIRM is confirmed at
its first entry to Roost (R489). -/
def execRoostEntryOnLock (s : State) : Res :=
  if s.mode = 1 ∧ s.rd Reg.MODE.STATUS.ECL_STEP = 12 ∧ s.lock = 2 then
    let s1 := if s.boot.logged then s else s.logAttempt 0 true
    let s2 := s1.enterRoost.autoRejoin
    .next (if bit s.boot.iflags 0 ∧ ¬ s.boot.logged ∧ ¬ s.isSet Reg.MODE.STATUS.CONFIRMED then s2.confirm else s2)
  else .next s

/-! ## Resets (R365, R465, R497, R523, R556) -/

/-- The body of DEV_RESET (R489, R493, R497): the warm reset follows 100 µs later, as WARM_RESET. -/
def cmdDevReset (p : List Byte) (_floor : Nat) (s : State) : Ans :=
  let f := u8 p 0
  let held := !(s.inSt (fun c => c == .active || c == .starved || c == .held)).isEmpty
  Ans.check s
    [(s.mode == 4 && held && !bit f 2, Sts.modeRefused), (decide (7 < f) || !zeroFrom p 1, Sts.badParam)]
    (let s1 := if s.mode = 2 ∨ bit f 1 then s.wr Reg.MODE.STATUS.ATTEMPTS 0 else s
     let s2 := if bit f 0 then s1.countIfUnconfirmed 0x10 else s1
     Ans.ok { s2 with boot := { s2.boot with resetDue := true, resetForce := bit f 2 } })

/-- DEV_RESET (R497). -/
def execDevReset (h : Hdr) (p : List Byte) (s : State) : Res := .next (command 0x0103 h p (cmdDevReset p) s)

/-- WARM_RESET (R365, R497): with FORCE the transmitters go idle and the twin is told first; no fault record, FAULT_N unchanged. -/
def execWarmReset (s : State) : Res :=
  if s.pwr.hold ≠ .none then .next s
  else .next (if s.boot.resetForce then (s.goSilent 0).warmReset else s.warmReset)

/-- COLD_START (R465, R556, R560): VAUX good for 1 ms after PD00 had no power: every register at its reset value, straps sampled. -/
def execColdStart (bootSrc mclkSel oscDly : Nat) (s : State) : Res :=
  if s.pwr.hold ≠ .off then .next s
  else
    let s1 : State := { s with
      straps := ⟨bootSrc % 4, mclkSel % 2, oscDly % 8⟩, pwr := {} }
    let s2 := ((s1.wr Reg.MODE.STATUS.BOOT_SRC (bootSrc % 4)).wr Reg.CLK.STATUS.MCLK_SEL (mclkSel % 2)).wr Reg.CLK.STATUS.OSC_DLY (oscDly % 8)
    let s3 := (((s2.wr Reg.PWR.SUPPLY.A_OK 1).wr Reg.PWR.SUPPLY.B_OK 1).wr Reg.PWR.SUPPLY.AUX_A_OK 1).wr Reg.PWR.SUPPLY.AUX_B_OK 1
    .next ((((s3.wr Reg.PWR.SUPPLY.VLANE_OK 1).wr Reg.PWR.SUPPLY.VLANE_HV_OK 1).wr Reg.PWR.SUPPLY.VIO_OK 1).wr Reg.PWR.SUPPLY.VDDQ_OK
      (2 ^ s.nMcs - 1))

/-- BOOT_ABORT_WRITE (R494): ends the attempt with 0x10 and a warm reset; ignored after BOOT_CONFIRM. -/
def execBootAbortWrite (s : State) : Res :=
  .next (if s.isSet Reg.MODE.STATUS.CONFIRMED ∨ s.mode = 2 ∨ s.pwr.hold ≠ .none then s else s.attemptFail 0x10)

/-- The MSI-X table and its pending bits at their reset values: a reset of the endpoint's function (R508). -/
def State.msixReset (s : State) : State := { s with regs := SMap.keep (fun o => !decide (0x50000 ≤ o ∧ o < 0x51000)) s.regs }

/-- PCIE_PERST_ASSERT (R523, R553): the PCIe endpoint alone is reset; the host link goes down. -/
def execPciePerstAssert (s : State) : Res := .next s.hostLinkDown.msixReset

/-- HOST_LINK_DOWN (R523). -/
def execHostLinkDown (s : State) : Res := .next s.hostLinkDown

/-- PCIE_FLR (R508, R523): the host's locks are released and the function's MSI-X table is reset. -/
def execPcieFlr (s : State) : Res := .next (s.orphan 5).msixReset

/-! ## Eclosion, steps 7 to 11 (R486) -/

/-- The 512 MiB boot buffer, immediately below the configuration store (R491). -/
def State.bootBase (s : State) : Nat := s.storeBase - 2 ^ 29

/-- The keys of usage 1 and 2 are loaded as if by KEY_LOAD (R376). -/
def State.bootKeys (s : State) (l : List (Nat × Nat × Nat)) : State :=
  l.foldl (fun t x => match x with
    | (1, i, k) => if t.hasIme ∧ 1 ≤ i ∧ i ≤ 15 ∧ !(t.sec.keys.any (fun y => y.1 == i)) then t.loadKey i k else t
    | (2, i, k) => if i < 6 then t.updLink i (fun d => d.fill 0 k) else t
    | _ => t) s

/-- Cost descriptors of a DESCRIPTORS section in turn (R86): the i-th gets DESC_ID i; none where one is malformed. -/
def State.bootCosts (s : State) : Nat → Nat → List Byte → Option State
  | 0, _, _ => some s
  | n + 1, id, b =>
    let len := 32 + 16 * u16 b 6
    if b.length < len ∨ s.costBad (b.take len) then none
    else
      let c : CostDesc := { parseCost (b.take len) with image := true }
      State.bootCosts { s with led := { s.led with costs := SMap.set (fun _ => ({} : CostDesc)) s.led.costs id c } } n (id + 1) (b.drop len)

/-- Blobs into the store from its base + 448 MiB, in table order, 64-byte aligned (R486). -/
def State.bootBlobs (s : State) (rd : Reader) : State × Nat :=
  ((imgTable rd).filter (fun x => x.typ == 2)).foldl (fun (a : State × Nat) x =>
    let b := sectBytes rd x
    (a.1.dramWrite a.2 b, a.2 + ceilDiv b.length 64 * 64)) (s, s.storeBase + 448 * 2 ^ 20)

/-- Step 9: patch, keys, descriptors, blobs; none where a descriptor is malformed. -/
def State.bootStep9 (s : State) (rd : Reader) : Option State :=
  let of_ := fun (t : Nat) => (imgTable rd).find? (fun x => x.typ == t)
  let s1 := match of_ 3 with | some x => s.wr Reg.CMD.STATUS.PATCH_LEVEL x.arg | none => s
  let s2 := s1.bootKeys ((imgKeys rd).getD [])
  let s3 : State := { s2 with sec := { s2.sec with policy := match of_ 6 with | some x => sectBytes rd x | none => [] } }
  match of_ 4 with
  | some x => (s3.bootCosts (min 256 x.arg) 1 (sectBytes rd x)).map (fun t => (t.bootBlobs rd).1)
  | none => some (s3.bootBlobs rd).1

/-- The tile sections an image has for present tiles. -/
def State.bootTiles (s : State) (rd : Reader) : List Sect := (imgTable rd).filter (fun x => x.typ == 1 && decide (x.arg < s.nTiles))

/-- Step 10: domains in ascending order, clusters ON at OP3, tiles in their ACTIVE copies and configured, one scrub pass, ports and
flows restored. -/
def State.bootStep10 (s : State) (rd : Reader) (dg : Nat) : State :=
  let tiles := s.bootTiles rd
  let need := fun (d : Nat) => s.domPresent d && s.dom d != 3 && decide (2 ≤ d) &&
    (decide (d < 13 ∨ 27 ≤ d) || tiles.any (fun x => 13 + x.arg / 4 == d))
  let s1 := ((List.range 30).filter need).foldl (fun t d => t.domArrive d 3) s
  let s2 := (List.range s.nClusters).foldl (fun t c => (t.opSwitch c 3).wr (Reg.PWR.CLU.TARGET c) 3) s1
  let s3 := tiles.foldl (fun t x => t.dramWrite (t.activeAt x.arg) (frameData (sectBytes rd x))) s2
  let s4 := tiles.foldl (fun t x => t.initTile x.arg)
    ({ s3 with molt := { s3.molt with conf := tiles.map (·.arg), masks := imgMasks rd } } : State)
  let s5 := if (imgTable rd).any (fun x => x.typ == 1 && x.arg == 0xFF) then s4.bootGlobals dg else s4
  (s5.bump Reg.SCRUB.LAST.PASS_CNT).restorePorts.restoreLinks

/-- A region whose key ID holds no key at the end of Eclosion is disabled (R386). -/
def State.dropKeyless (s : State) : State :=
  (List.range 63).foldl (fun t r =>
    let kid := t.rd (Reg.PMAP.REG_LO.KID r)
    if t.isSet (Reg.PMAP.REG_LO.EN r) ∧ kid ≠ 0 ∧ !(t.sec.keys.any (fun k => k.1 == kid)) then
      ((t.setRegion r false false false 0 0 0 0).evt Reg.SEC.EVENT.KEY_LOST)
    else t) s

/-- Step 11: the posture and the reference selection of the image, FW_READY; step 12 begins (R40, R61, R293). -/
def State.bootStep11 (s : State) (rd : Reader) (slot : Nat) : State :=
  let fl := imgFlags rd
  let pos := u8 (rd 24 1) 0
  let s1 := if bit fl 2 ∧ pos ≤ 2 then s.setPosture pos s.led.capMw [] else s
  let s2 := if bit fl 1 then (cmdRefSelect (rd 32 48) 0 s1).st else s1
  let s3 := ((s2.dropKeyless.fwReady.wr Reg.MODE.STATUS.ECL_STEP 12).wr Reg.MODE.STATUS.RUN_SLOT slot).wr Reg.MODE.STATUS.WAIT_IMAGE 0
    |>.wr Reg.MOLT.INSTAR.INSTAR (imgInstar rd)
  { s3 with
    boot := { s3.boot with iflags := fl, keySlot := imgSlot rd, imgDigest := imgDigest rd },
    mesh := { s3.mesh with instar := imgInstar rd, digest := imgDigest rd } }

/-- The copy of an image in DRAM below the configuration store, as far as it was read (R486 step 7). -/
def State.bootCopy (s : State) (rd : Reader) (n : Nat) : State := s.dramWrite s.bootBase (rd 0 n)

/-- Steps 7 and 8 on an image: the code of the first check that fails (R297). -/
def State.bootCheck (s : State) (rd : Reader) (avail : Nat) : Option Nat :=
  match s.imgCheck rd avail with
  | some c => some c
  | none => sectsCheck rd (imgTable rd)

/-- Steps 9 to 11 on a good image; a failure of step 9 ends the start (R486, R488). -/
def State.bootRun (s : State) (rd : Reader) (slot : Nat) : State :=
  match (s.wr Reg.MODE.STATUS.RUN_SLOT slot).bootStep9 rd with
  | none => s.attemptFail 3
  | some t => (t.bootStep10 rd (imgDigest rd)).bootStep11 rd slot

/-- The flash slots in the order of R488, up to `n` attempts: a failure of steps 7–8 goes on with the next slot. -/
def State.bootSlots (s : State) : Nat → State
  | 0 => s
  | n + 1 =>
    let k := s.bootSlot
    let rd := s.flashImage k
    let avail := s.rd Reg.BOOT.FLASH.SLOT_SIZE * 65536
    match s.bootCheck rd avail with
    | none => (s.bootCopy rd (imgLen rd)).bootRun rd k
    | some c =>
      let s1 := (if s.imgCheck rd avail = none then s.bootCopy rd (imgLen rd) else s.bootCopy rd 128).countFail c
      if s1.attempts = 3 then s1.enterCocoon false else State.bootSlots s1 n

/-- A delivery is complete (R491): steps 7 onward from the boot buffer; a failed attempt waits for a fresh delivery. -/
def State.bootDelivered (s : State) : State :=
  let rd := s.dramImage s.bootBase
  let s0 := s.wr Reg.MODE.STATUS.WAIT_IMAGE 0
  match s0.bootCheck rd (2 ^ 29) with
  | none => s0.bootRun rd 3
  | some c =>
    let s1 := s0.countFail c
    let s2 : State := { s1 with boot := { s1.boot with delivered := [], lastSeen := false } }
    if s2.attempts = 3 then s2.enterCocoon false else s2.wr Reg.MODE.STATUS.WAIT_IMAGE 1

/-! ## Eclosion, steps 1 to 6 (R486, R490, R491) -/

/-- Step 5 with the flash source: the descriptor at offset 0, or its copy (R490); false where both fail. -/
def State.openFlash (s : State) : State × Bool :=
  match s.flashNow with
  | none => (s.setReg Reg.BOOT.FLASH 0, false)
  | some (a, pref, size) =>
    let s1 := ((s.wr Reg.BOOT.FLASH.PREFERRED pref).wr Reg.BOOT.FLASH.SLOT_SIZE size).wr Reg.BOOT.FLASH.VALID (if a = 0 then 1 else 0)
    ({ s1.wr Reg.BOOT.FLASH.COPY_USED (if a = 0 then 0 else 1) with boot := { s1.boot with firstBad := a != 0 } }, true)

/-- ECLOSION_START (R466, R486–R491): steps 1 to 6, up to the training of the memory; the third failed attempt in a row is Cocoon. -/
def execEclosionStart (e : EclEnv) (s : State) : Res :=
  if s.mode ≠ 1 ∨ s.rd Reg.MODE.STATUS.ECL_STEP ≠ 1 ∨ s.pwr.hold ≠ .none then .next s
  else
    let s1 := (s.wr Reg.CLK.STATUS.RC_RUN 1).wr Reg.CLK.STATUS.RC_READY 1
    let s2 := (s1.flag Reg.CLK.STATUS.MCLK_GOOD e.mclkOk).wr Reg.CLK.STATUS.SRC (if e.mclkOk then 0 else 1)
    if s.attempts = 3 then .next (s2.enterCocoon false)
    else if ¬ e.fuseOk then .next (s1.attemptFail 0x08)
    else if ¬ e.mclkOk then .next (s2.attemptFail 0x07)
    else
      let s3 := (s2.setDom 1 3).wr Reg.MODE.STATUS.ECL_STEP 4
      if ¬ e.romOk then .next (s3.attemptFail 0x04)
      else
        let s4 := (s3.wr Reg.CMD.STATUS.CORE_UP 0xF).wr Reg.MODE.STATUS.ECL_STEP 5
        let o := if s.straps.bootSrc = 0 then s4.openFlash else (s4, true)
        if ¬ o.2 then .next (o.1.attemptFail 0x01)
        else
          let s5 := match s.straps.bootSrc with
            | 0 => o.1
            | 2 => (o.1.setDom 27 3).recoveryLink
            | _ => o.1.fwReady
          .next (((s5.setDom 4 3).startMcs false).wr Reg.MODE.STATUS.ECL_STEP 6)

/-! ### Step 6: the memory (R320, R321, R324, R345, R356) -/

/-- Channel `m` as its SPD and training tell it; none found where the list has no entry. -/
def dimmOf (l : List DimmCh) (m : Nat) : DimmCh := (l.find? (fun d => d.m == m)).getD { m := m, dimms := 0 }

/-- The highest speed code of R320 that a channel supports. -/
def dimmTop (d : DimmCh) : Nat := if d.dimms = 2 then min 1 d.speed else min 3 d.speed

/-- A channel's FAIL_CODE (R321); none where it is good. -/
def dimmFail (d d0 : DimmCh) : Option Nat :=
  if !d.spdOk then some 5
  else if d.dimms = 0 then some 1
  else if !d.supp ∨ 2 < d.dimms then some 2
  else if d.dimms ≠ d0.dimms ∨ d.x8 ≠ d0.x8 ∨ d.dens32 ≠ d0.dens32 ∨ d.ranks2 ≠ d0.ranks2 then some 3
  else if dimmTop d = 0 then some 4
  else if !d.trainA then some 6
  else if !d.trainB then some 7
  else none

/-- Capacity of a channel in GiB (R324). -/
def dimmGib (d : DimmCh) : Nat :=
  (if d.x8 then 16 else 32) * (if d.dens32 then 2 else 1) * (if d.ranks2 then 2 else 1) * d.dimms

/-- A controller is ready at a speed (R345). -/
def State.mcReady (s : State) (d : DimmCh) (m speed : Nat) : State :=
  let ranks := (if d.ranks2 then 2 else 1) * d.dimms
  let s1 := ((s.flag (Reg.MC.ORG.WIDTH m) d.x8).flag (Reg.MC.ORG.DENSITY m) d.dens32).wr (Reg.MC.ORG.RANKS m) (ranks / 2)
  let s2 := ((s1.wr (Reg.MC.ORG.SIZE_GIB m) (dimmGib d)).wr (Reg.MC.STATUS.STATE m) 2).wr (Reg.MC.STATUS.SPEED m) speed
  let s3 := (s2.wr (Reg.MC.STATUS.DIMMS m) d.dimms).wr (Reg.MC.STATUS.FAIL_CODE m) 0
  s3.flag (Reg.MC.STATUS.SCHED m) (s3.fallback m)

/-- Every line initialised: the map from its copy, its regions READY, and the configuration store STRONG in region 63 (R299, R345,
R356). -/
def State.linesReady (s : State) : State :=
  let s1 := (({ s with dram := { mcs := s.dram.mcs } } : State).restoreMap).setRegion 63 true true false 0 s.storeBase (2 ^ 29) 2
  ((List.range 63).foldl (fun t r => if t.isSet (Reg.PMAP.REG_LO.EN r) then t.wr (Reg.PMAP.REG_LO.STATE r) 2 else t) s1).setTargets

/-- DRAM_INIT_DONE (R321, R345): training and line initialisation end. With the flash source steps 7–11 follow, with another the wait
for the image; a failure ends the start with 0x09. -/
def execDramInitDone (l : List DimmCh) (s : State) : Res :=
  let ms := List.range s.nMcs
  if ¬ s.domOn 4 ∨ !(ms.any (fun m => s.mcState m == 1)) ∨ !((s.mode == 1 && s.rd Reg.MODE.STATUS.ECL_STEP == 6) || s.mode == 2) then .next s
  else
    let d0 := dimmOf l 0
    match ms.find? (fun m => (dimmFail (dimmOf l m) d0).isSome) with
    | some m =>
      let s1 := (s.wr (Reg.MC.STATUS.FAIL_CODE m) ((dimmFail (dimmOf l m) d0).getD 0)).evt (Reg.MC.EVENT.TRAIN_FAIL m)
      .next (if s.mode = 2 then (s1.clearDomain 4).setDom 4 0 else s1.attemptFail 0x09)
    | none =>
      let speed := ms.foldl (fun v m => min v (dimmTop (dimmOf l m))) 3
      let s1 := (ms.foldl (fun t m => t.mcReady (dimmOf l m) m speed) s).linesReady
      if s.mode = 2 then .next s1
      else
        let s2 := s1.wr Reg.MODE.STATUS.ECL_STEP 7
        .next (if s.straps.bootSrc = 0 then s2.bootSlots 3 else s2.wr Reg.MODE.STATUS.WAIT_IMAGE 1)

/-! ## Ends of an attempt (R487, R488) -/

/-- ECLOSION_ATTEMPT_FAIL (R488): a failure in steps 7–8 with an image code goes on with the next slot, or waits for a fresh
delivery; any other ends the start. -/
def execEclosionAttemptFail (code : Nat) (s : State) : Res :=
  let step := s.rd Reg.MODE.STATUS.ECL_STEP
  if s.mode ≠ 1 ∨ step = 12 ∨ s.pwr.hold ≠ .none ∨ code = 0 ∨ 0x10 < code then .next s
  else if 7 ≤ step ∧ step ≤ 8 ∧ [1, 2, 3, 0xA, 0xB, 0xC].contains code then
    let s1 := s.countFail code
    .next (if s1.attempts = 3 then s1.enterCocoon false
      else if s1.straps.bootSrc = 0 then s1.bootSlots 3
      else ({ s1 with boot := { s1.boot with delivered := [], lastSeen := false } } : State).wr Reg.MODE.STATUS.WAIT_IMAGE 1)
  else .next (s.attemptFail code)

/-- ECLOSION_WATCHDOG_EXPIRY (R487): it runs from step 4 to the end of step 11. -/
def execEclosionWatchdogExpiry (s : State) : Res :=
  let step := s.rd Reg.MODE.STATUS.ECL_STEP
  .next (if s.mode = 1 ∧ 4 ≤ step ∧ step ≤ 11 then s.attemptFail 5 else s)

/-! ## Images from outside (R491, R500, R501) -/

/-- A block into the boot buffer. -/
def State.bootBlock (s : State) (off : Nat) (b : List Byte) (last : Bool) : State :=
  let s1 := s.dramWrite (s.bootBase + off) b
  let s2 : State := { s1 with boot := { s1.boot with delivered := s1.boot.delivered ++ [(off, b.length)], lastSeen := last } }
  if last then s2.bootDelivered else s2

/-- BOOT_FRAME_RECEIVE (R491): blocks before WAIT_IMAGE, or beyond the buffer, are discarded. -/
def execBootFrameReceive (off : Nat) (data : List Byte) (last : Bool) (s : State) : Res :=
  .next (if s.isSet Reg.MODE.STATUS.WAIT_IMAGE ∧ s.straps.bootSrc = 2 ∧ off + data.length ≤ 2 ^ 29 then s.bootBlock off data last else s)

/-- A block into a flash slot at base `b`, whose sectors are erased before their first write since the write at OFFSET 0 (R500). -/
def State.flashBlock (s : State) (b off : Nat) (d : List Byte) : State :=
  let lo := b / 65536
  let size := (s.flashNow.elim 0 (fun x => x.2.2))
  let done := if off = 0 then s.boot.erased.filter (fun x => !decide (lo ≤ x ∧ x < lo + size)) else s.boot.erased
  let touched := (List.range ((b + off + d.length - 1) / 65536 - (b + off) / 65536 + 1)).map (· + (b + off) / 65536)
  let new := touched.filter (fun x => !done.contains x)
  let f := SMap.keep (fun a => !new.contains (a / 65536)) s.boot.flash
  { s with boot := { s.boot with flash := Memory.writeN f (b + off) d, erased := done ++ new } }

/-- The body of IMAGE_WRITE (R491, R500). -/
def cmdImageWrite (h : Hdr) (p : List Byte) (_floor : Nat) (s : State) : Ans :=
  let slot := u8 p 0
  let fl := u8 p 1
  let off := u64 p 8
  let len := u32 p 24
  let size := (s.flashNow.elim 0 (fun x => x.2.2)) * 65536
  let room := if slot = 3 then 2 ^ 29 else size
  let running := decide (3 ≤ s.mode ∨ (s.mode = 1 ∧ s.rd Reg.MODE.STATUS.ECL_STEP = 12)) && s.rd Reg.MODE.STATUS.RUN_SLOT == slot
  let base := 65536 + slot * size
  let data := s.readBuf h (u64 p 16) len
  Ans.check s
    [(slot != 3 && s.isSet Reg.BOOT.FLASH.BUSY, Sts.busy),
     ((decide (1 < slot) && slot != 3) || decide (3 < fl) || !zeroAt p 2 6 || !zeroFrom p 28 || off % 64 != 0 || len == 0 ||
       decide (1048576 < len) || (len % 64 != 0 && !bit fl 0) || h.spiBad (u64 p 16) len ||
       ((slot == 3 || s.flashNow.isSome) && decide (room < off + len)), Sts.badParam)]
    (if data.isNone then s.dataErr h else Ans.check s
    [(if slot = 3 then !s.isSet Reg.MODE.STATUS.WAIT_IMAGE else running || s.flashNow.isNone, Sts.badState)]
    (match data with
     | none => s.dataErr h
     | some b =>
       if slot = 3 then Ans.ok (s.bootBlock off b (bit fl 0))
       else
         let s1 := s.flashBlock base off b
         let rd : Reader := fun o n => s1.boot.flash.readN (base + o) n
         match if fl = 3 then s1.bootCheck rd size else none with
         | some c => Ans.say s Sts.imageInvalid 0 [BitVec.ofNat 8 c]
         | none => Ans.ok s1))

/-- IMAGE_WRITE (R500). -/
def execImageWrite (h : Hdr) (p : List Byte) (s : State) : Res := .next (command 0x0E03 h p (cmdImageWrite h p) s)

/-- The body of SLOT_SELECT (R501). -/
def cmdSlotSelect (p : List Byte) (_floor : Nat) (s : State) : Ans :=
  Ans.check s
    [(s.isSet Reg.BOOT.FLASH.BUSY, Sts.busy), (decide (1 < u8 p 0) || !zeroFrom p 1, Sts.badParam), (s.flashNow.isNone, Sts.badState)]
    (Ans.ok ((s.setPreferred (u8 p 0)).wr Reg.MODE.STATUS.ATTEMPTS 0))

/-- SLOT_SELECT (R501). -/
def execSlotSelect (h : Hdr) (p : List Byte) (s : State) : Res := .next (command 0x0E04 h p (cmdSlotSelect p) s)

/-- The body of BOOT_RECORD (R498). -/
def cmdBootRecord (p : List Byte) (_floor : Nat) (s : State) : Ans :=
  let fl := s.rd Reg.MODE.STATUS.CONFIRMED + 2 * s.rd Reg.BOOT.FLASH.COPY_USED + (if s.mode = 2 then 4 else 0)
  let slots := s.rd Reg.BOOT.RECORD.SLOT1 + 4 * s.rd Reg.BOOT.RECORD.SLOT2 + 16 * s.rd Reg.BOOT.RECORD.SLOT3
  Ans.check s [(noParams p, Sts.badParam)]
    (Ans.say s Sts.ok 0 ([BitVec.ofNat 8 s.attempts, BitVec.ofNat 8 s.straps.bootSrc,
      BitVec.ofNat 8 (if s.mode = 2 then 0xFF else s.rd Reg.MODE.STATUS.RUN_SLOT), BitVec.ofNat 8 fl,
      BitVec.ofNat 8 (s.rd Reg.BOOT.RECORD.REASON1), BitVec.ofNat 8 (s.rd Reg.BOOT.RECORD.REASON2),
      BitVec.ofNat 8 (s.rd Reg.BOOT.RECORD.REASON3), BitVec.ofNat 8 slots] ++ toLe 8 s.boot.start))

/-- BOOT_RECORD (R498). -/
def execBootRecord (h : Hdr) (p : List Byte) (s : State) : Res := .next (command 0x0E01 h p (cmdBootRecord p) s)

end Sys2Proof.Machine
end

