-- ==== Sys2Proof/Machine/Transport.lean ====
section
/-! DEFINITION. The transports carry commands to their bodies (03_commands.md): entries fetched from rings (R97–R107), the SPI
target's submissions (R108, R109), commands forwarded over the mesh (R111–R114), commands passed to a twin partner (R120), and the
management cores that carry them out (R96, R542). -/

namespace Sys2Proof.Machine

/-! ## Opcodes and their bodies (R124) -/

/-- The body of an opcode. -/
def bodyOf (op : Nat) (h : Hdr) (p : List Byte) : Nat → State → Ans :=
  match op with
  | 0x0101 => cmdDevQuery p | 0x0102 => cmdDevCaps p | 0x0103 => cmdDevReset p | 0x0104 => cmdFaultRead h p
  | 0x0105 => cmdFaultClear p | 0x0201 => cmdModeSet p | 0x0202 => cmdModeGet p | 0x0203 => cmdPostureSet p
  | 0x0204 => cmdDomainPower p | 0x0205 => cmdOppointSet p | 0x0206 => cmdSupplyStatus p | 0x0207 => cmdClockMeasure h p
  | 0x0208 => cmdClockStatus p | 0x0301 => cmdContractPropose h p | 0x0302 => cmdContractActivate h p
  | 0x0303 => cmdContractRelease h p | 0x0304 => cmdContractQuery h p | 0x0305 => cmdLedgerSnapshot h p
  | 0x0306 => cmdDescriptorRegister h p | 0x0401 => cmdFlowAdd h p | 0x0402 => cmdFlowRemove p | 0x0403 => cmdPortConfig p
  | 0x0404 => cmdSubstPolicy h p | 0x0405 => cmdRefSelect p | 0x0406 => cmdTickStatus p | 0x0501 => cmdTake h p
  | 0x0502 => cmdPresetArm p | 0x0503 => cmdPresetDisarm p | 0x0504 => cmdGpiBind p | 0x0505 => cmdTallySet p
  | 0x0506 => cmdTakeAbort h p | 0x0601 => cmdEngineLoad h p | 0x0602 => cmdEngineStart p | 0x0603 => cmdEngineStop p
  | 0x0604 => cmdEngineStatus p | 0x0701 => cmdImageStage p | 0x0702 => cmdMoltPlan h p | 0x0703 => cmdMoltCommit h p false
  | 0x0704 => cmdScrubStatus p | 0x0801 => cmdProtectMapSet p | 0x0802 => cmdEccStatus p | 0x0803 => cmdBucketConfig p
  | 0x0901 => cmdKeyLoad p | 0x0902 => cmdKeyRetire p | 0x0903 => cmdDebugAuthChallenge h p | 0x0904 => cmdDebugAuthResponse h p
  | 0x0905 => cmdMacsecSa h p | 0x0A01 => cmdLaneConfig p | 0x0A02 => cmdLaneState p | 0x0A03 => cmdPrbsStart p
  | 0x0A04 => cmdPrbsRead p | 0x0A05 => cmdMarginScan h p | 0x0B01 => cmdTwinPair p | 0x0B02 => cmdTwinStatus p
  | 0x0B03 => cmdMeshRouteSet p | 0x0B04 => cmdMeshStatus p | 0x0B05 => cmdInstarSet p | 0x0C01 => cmdBistRun p
  | 0x0C02 => cmdBistResult h p | 0x0C03 => cmdRepairFuse p | 0x0E01 => cmdBootRecord p | 0x0E02 => cmdBootConfirm p
  | 0x0E03 => cmdImageWrite h p | 0x0E04 => cmdSlotSelect p
  | _ => fun _ s => Ans.err s Sts.badOpcode

/-- Start a command of any opcode (R116). -/
def State.start (s : State) (op : Nat) (h : Hdr) (p : List Byte) : State := command op h p (bodyOf op h p) s

/-! ## Submission entries (R97, R100) -/

/-- The header of a 64-byte entry received at `ns` (R115). `bad` are the addresses whose read fails in the environment (R107). -/
def entryHdr (via : Via) (ns : Nat) (e : List Byte) (bad : List Nat) : Hdr where
  via := via
  seq := BitVec.ofNat 32 (u32 e 4)
  flags := BitVec.ofNat 16 (u16 e 2)
  target := BitVec.ofNat 16 (u16 e 8)
  carried := bad.map (fun a => (a, 0))
  ns := ns

/-- Does an entry hold a non-zero reserved byte (R97, R100)? -/
def entryReserved (e : List Byte) : Bool :=
  !zeroAt e 12 4 || (if u16 e 10 ≤ 48 then !zeroFrom e (16 + u16 e 10) else !zeroFrom e 24)

/-- Dispatch an entry: opcode, the checks of R100, its parameter block where PLEN exceeds 48, then the command itself. -/
def State.takeEntry (s : State) (via : Via) (ns : Nat) (e : List Byte) (blk : Bool) (bad : List Nat) : State :=
  let op := u16 e 0
  let h := entryHdr via ns e bad
  let n := u16 e 10
  match (if (opRow op).isNone then some Sts.badOpcode else if entryReserved e then some Sts.badParam else entryErr op h) with
  | some err => s.answer h err 0 []
  | none =>
    if n ≤ 48 then s.start op h ((e.drop 16).take n)
    else match (if blk then s.readBuf h (u64 e 16) n else none) with
      | some p => s.start op h p
      | none => State.deliver h (s.dataErr h)

/-! ## Fetching (R103, R104, R107) -/

/-- May ring `n` fetch: enabled, not stopped, an entry waiting and a CQ slot free for its reply? -/
def State.mayFetch (s : State) (n : Nat) : Bool :=
  s.isSet Reg.CMD.STATUS.FW_READY && s.isSet (Reg.CMD.RING_CFG.EN n) && !(s.ring n).stopped &&
  s.rd (Reg.CMD.RING_SQ_HEAD.INDEX n) != s.rd (Reg.CMD.RING_SQ_TAIL.INDEX n) &&
  decide (((s.ring n).resv + s.ringLen n - s.rd (Reg.CMD.RING_CQ_HEAD.INDEX n)) % s.ringLen n < s.ringLen n - 1)

/-- ENTRY_FETCH (R97, R100, R103, R104, R107, R115, R116): ring `n` reserves the next CQ slot, whose PHASE turns at each wrap, reads
the entry at SQ_HEAD, done at device time `ns`, and dispatches it. A failed read (`ok` false) stops the ring's fetching; a failed read of a parameter
block (`blk` false) or of a named structure in `bad` is the command's BAD_PARAM. -/
def execEntryFetch (n : Nat) (rx : Option Nat) (blk : Bool) (bad : List Nat) (s : State) : Res :=
  if 4 ≤ n ∨ ¬ s.mayFetch n then .next s
  else match rx with
  | none => .next ((s.setRing n { s.ring n with stopped := true }).ringErr (Reg.CMD.RING_STATUS.FETCH_ERR n))
  | some ns =>
    let r := s.ring n
    let len := s.ringLen n
    let head := s.rd (Reg.CMD.RING_SQ_HEAD.INDEX n)
    let sq := s.ringAddr (Reg.CMD.RING_SQ_BASE_LO.ADDR_LO n) (Reg.CMD.RING_SQ_BASE_HI.ADDR_HI n)
    let e := s.hostMem.readN (sq + 64 * head) 64
    let wrap := r.resv + 1 = len
    let s1 := s.setRing n { r with resv := (r.resv + 1) % len, phase := if wrap then !r.phase else r.phase }
    let s2 := (s1.wr (Reg.CMD.RING_SQ_HEAD.INDEX n) ((head + 1) % len)).bump (Reg.CMD.RING_STATUS.OUTSTANDING n)
    .next (s2.takeEntry (.ring n r.resv r.phase) ns e blk bad)

/-! ## SPI submissions and replies (R108, R109) -/

/-- Replies that stand in the SPI queue or will. -/
def State.spiQueued (s : State) : Nat := s.xp.spiReplies.length + s.xp.replies.countP (fun r => r.via == .spi)

/-- The oldest submission held goes on once a reply place is free. -/
def State.spiPump (s : State) : State :=
  match s.xp.spiSubs with
  | [] => s
  | e :: rest =>
    if s.spiQueued < 16 then ({ s with xp := { s.xp with spiSubs := rest } } : State).takeEntry .spi e.1 e.2 true [] else s

/-- FRAME_ERR or OVERFLOW with its event. -/
def State.spiErr (s : State) (f : Fld) : State := (s.evt f).evt Reg.CMD.EVENT.SPI_ERR

/-- SPI_WRITE_SUB (R108, R109, R115), received at device time `ns`: an unknown instruction byte, a length other than 66 after it, or a CRC mismatch discards the
transaction; a further submission than 16 is discarded; a successful one clears both error bits. -/
def execSpiWriteSub (x : SpiHead) (data : List Byte) (s : State) : Res :=
  if ¬ s.spiOn ∨ x.inst = 1 ∨ x.inst = 3 ∨ x.inst = 4 ∨ x.inst = 5 then .next s
  else if x.inst ≠ 2 ∨ data.length ≠ 66 ∨ crcBytes (data.take 64) ≠ data.drop 64 then .next (s.spiErr Reg.CMD.SPI_STATUS.FRAME_ERR)
  else if 16 ≤ s.xp.spiSubs.length then .next (s.spiErr Reg.CMD.SPI_STATUS.OVERFLOW)
  else
    let s1 := (s.wr Reg.CMD.SPI_STATUS.FRAME_ERR 0).wr Reg.CMD.SPI_STATUS.OVERFLOW 0
    let s2 : State := { s1 with xp := { s1.xp with spiSubs := s1.xp.spiSubs ++ [(x.ns, data.take 64)] } }
    .next (if s1.xp.spiSubs.isEmpty then s2.spiPump else s2)

/-- SPI_READ_REPLY (R108, R109): the oldest reply and its CRC, or 34 bytes of 0xFF; a read of all 34 bytes removes it. -/
def execSpiReadReply (full : Bool) (s : State) : Res :=
  if ¬ s.spiOn then .next s
  else match s.xp.spiReplies with
    | [] => .next (s.emit (.spiOut (List.replicate 34 0xFF)))
    | r :: rest =>
      let s1 := s.emit (.spiOut (r ++ crcBytes r))
      .next (if full then ({ s1 with xp := { s1.xp with spiReplies := rest } } : State).spiPump else s1)

/-! ## Forwarding (R111–R114) -/

/-- Is a command of this transport and SEQ still being carried out? -/
def State.underWay (s : State) (h : Hdr) : Bool :=
  let hit := fun (x : Hdr) => x.via == h.via && x.seq == h.seq
  s.xp.held.any (fun x => hit x.h) || s.xp.twinProv.any (fun x => hit x.h) || s.xp.twinWait.any (fun x => hit x.h) || s.led.props.any (fun x => hit x.h) ||
  s.led.xprops.any (fun x => hit x.h) || s.led.xacts.any (fun x => hit x.h) || s.pwr.meas.any (fun x => hit x.h)

/-- FORWARDED_COMMAND_RECEIVE (R111, R113, R114): a command from another device runs here; a repeat is answered from the record of the
latest 256 of its source, and takes effect at most once. -/
def execForwardedCommandReceive (op : Nat) (h : Hdr) (p : List Byte) (s : State) : Res :=
  match h.via with
  | .mesh src =>
    if ¬ s.isSet Reg.CMD.STATUS.FW_READY ∨ h.target.toNat ≠ s.meshId ∨ s.underWay h then .next s
    else match s.xp.fwdRec.find? (fun r => r.src == src && r.seq == h.seq) with
      | some r => .next (s.emit (.meshReply src h.seq r.status r.effect r.result r.bufs))
      | none => .next (s.start op h p)
  | _ => .next s

/-- Deliver a forwarded command's reply through the transport that carried the command, SOURCE set (R98, R111). -/
def State.answerFrom (s : State) (h : Hdr) (src status eff : Nat) (result : List Byte) : State :=
  { s with xp := { s.xp with replies := s.xp.replies ++ [⟨h.via, h.seq, status, src, eff, fitTo 16 result, h.irq, false⟩] } }

/-- A cross-device activation or release that cannot go through is withdrawn: the contract stays as it is on every device, and the
command is answered (R81). -/
def State.dropXact (s : State) (a : XAct) (status : Nat) : State :=
  let s1 : State := { s with led := { s.led with xacts := s.led.xacts.erase a } }
  let s2 := s1.updContract a.idx (fun c => if a.rel then { c with relTick := none } else { c with actTick := none })
  let id := (s.contract a.idx).id a.idx
  (a.waiting.foldl (fun t d => t.emit (.xdev d 6 id a.tick [])) ((s.contract a.idx).path.foldl (fun t d =>
    if a.waiting.contains d then t else t.emit (.xdev d 6 id a.tick [])) s2)).answer a.h status 0 []

/-- A path device's answer to a forwarded activation or release (R81): with every one accepted for the named tick the change is
scheduled; a refusal is REMOTE_DISAGREES, an acceptance for a later tick REMOTE_UNREACHABLE. -/
def State.xactAnswer (s : State) (a : XAct) (src status eff : Nat) : State :=
  if 2 < status then s.dropXact a Sts.disagrees
  else if a.tick < eff then s.dropXact a Sts.unreachable
  else
    let b := { a with waiting := a.waiting.filter (fun d => d != src) }
    if b.waiting.isEmpty then
      let s1 : State := { s with led := { s.led with xacts := s.led.xacts.erase a } }
      (s1.schedule a.tick (if a.rel then .release a.idx else .activate a.idx)).answer a.h a.status a.tick []
    else { s with led := { s.led with xacts := s.led.xacts.map (fun x => if x = a then b else x) } }

/-- The twin partner's answer to a command passed to it (R120, R309): accepted, this device applies it for the tick `eff` and tells the
partner to do so; where its own state now refuses it, or the partner refused, neither device applies it. -/
def State.twinAnswer (s : State) (w : HeldCmd) (status eff : Nat) : State :=
  let s1 : State := { s with xp := { s.xp with twinWait := s.xp.twinWait.erase w, stamp := (w.h.ns, w.h.rank) } }
  if 2 < status then s1.answer w.h Sts.disagrees 0 []
  else if w.op = 0x0703 then State.deliver w.h (cmdMoltCommit w.h w.p true eff s1)
  else
    let a := bodyOf w.op w.h w.p eff s1
    match a.rep with
    | some (st, t, _) => (State.deliver w.h a).emit (.twinAns w.h.seq (decide (st ≤ 2)) (if st ≤ 2 then t else 0))
    | none => a.st.emit (.twinAns w.h.seq true eff)

/-- The twin partner's word on a command it passed and this device accepted (R120): confirmed, it is applied for the tick `eff`; withdrawn,
it is forgotten. -/
def State.twinConfirm (s : State) (w : HeldCmd) (status eff : Nat) : State :=
  let s1 : State := { s with xp := { s.xp with twinProv := s.xp.twinProv.erase w, stamp := (w.h.ns, w.h.rank) } }
  if 2 < status then s1 else (bodyOf w.op w.h w.p eff s1).st

/-- FORWARDED_REPLY_RECEIVE (R81, R111, R112, R120): an answer from another device to a command forwarded, to one passed to the twin
partner, or to an activation or release of a cross-device contract; or the twin partner's word on a command it passed. One that nothing
waits for came late and is counted. -/
def execForwardedReplyReceive (src : Nat) (seq : Word) (status eff : Nat) (result : List Byte) (bufs : List (Nat × List Byte))
    (s : State) : Res :=
  if ¬ s.isSet Reg.CMD.STATUS.FW_READY then .next s
  else match s.xp.fwdOut.find? (fun f => f.h.target.toNat == src && f.h.seq == seq) with
    | some f =>
      let s1 : State := { s with xp := { s.xp with fwdOut := s.xp.fwdOut.erase f } }
      .next ((bufs.foldl (fun t b => t.writeBuf f.h b.1 b.2) s1).answerFrom f.h src status eff result)
    | none =>
      match (if src = s.twin.partner then s.xp.twinWait.find? (fun w => w.h.seq == seq) else none) with
      | some w => .next (s.twinAnswer w status eff)
      | none =>
       match (if src = s.twin.partner then s.xp.twinProv.find? (fun w => w.h.seq == seq) else none) with
       | some w => .next (s.twinConfirm w status eff)
       | none =>
        match s.led.xacts.find? (fun a => a.h.seq == seq && a.waiting.contains src) with
        | some a => .next (s.xactAnswer a src status eff)
        | none => .next (s.bump Reg.CMD.OVERRUN.FWD_LATE_CNT)

/-- FORWARD_TIMEOUT (R81, R112): no reply within the bound and FWD_TIMEOUT. -/
def execForwardTimeout (dst : Nat) (seq : Word) (s : State) : Res :=
  match s.xp.fwdOut.find? (fun f => f.h.target.toNat == dst && f.h.seq == seq) with
  | some f => .next (({ s with xp := { s.xp with fwdOut := s.xp.fwdOut.erase f } } : State).answer f.h Sts.unreachable 0 [])
  | none =>
    match s.led.xacts.find? (fun a => a.h.seq == seq && a.waiting.contains dst) with
    | some a => .next (s.dropXact a Sts.unreachable)
    | none => .next s

/-! ## Twin commands (R82, R120, R309) -/

/-- TWIN_COMMAND_RECEIVE (R82, R120, R309): the partner's command with its earliest tick `floor`. This device accepts it for the later
of the two earliest ticks and says so, committing nothing until the partner confirms, or refuses it; what a batch decides joins the
batch; a staggered commit compares the staging. -/
def execTwinCommandReceive (op : Nat) (h : Hdr) (p : List Byte) (floor : Nat) (s : State) : Res :=
  let h1 : Hdr := { h with via := .mesh s.twin.partner }
  if ¬ s.isSet Reg.CMD.STATUS.FW_READY ∨ ¬ s.paired ∨ s.coreHeld op h1 then .next s
  else if op = 0x0703 then
    match s.moltSecondary p floor with
    | some t => .next (t.emit (.twinAns h.seq true floor))
    | none => .next (s.emit (.twinAns h.seq false 0))
  else if opFlags op &&& 8 = 0 then .next s
  else
    let a := bodyOf op h1 p floor s
    match a.rep with
    | some (st, eff, _) =>
      if st ≤ 2 then
        .next (({ s with xp := { s.xp with twinProv := s.xp.twinProv ++ [⟨op, h1, p, s.now⟩] } } : State).emit (.twinAns h.seq true eff))
      else .next (s.emit (.twinAns h.seq false 0))
    | none => .next { a.st with led := { a.st.led with
        props := a.st.led.props.map (fun x => if x.h = h1 then { x with partner := true } else x) } }

/-- TWIN_COMMAND_TIMEOUT (R120): no answer for 1 tick; neither device applies the command: the sender withdraws it, and the partner
forgets what no one confirmed. -/
def execTwinCommandTimeout (seq : Word) (s : State) : Res :=
  match s.xp.twinWait.find? (fun w => w.h.seq == seq) with
  | some w => .next ((({ s with xp := { s.xp with twinWait := s.xp.twinWait.erase w } } : State).emit (.twinAns seq false 0)).answer w.h
      Sts.unreachable 0 [])
  | none => .next { s with xp := { s.xp with twinProv := s.xp.twinProv.filter (fun w => w.h.seq != seq) } }

/-! ## Management cores (R96, R542) -/

/-- A restarted core answers the commands it held: those with a journal record get their normal reply, the others INTERNAL_FAULT
(R95, R96). Core 1 holds what is not yet answered in its transport, core 2 proposals, core 3 twin and cross-device exchanges, core 4
clock measurements. A command forwarded and a command accepted for the partner are past their commit point here. -/
def State.coreAnswers (s : State) (core : Nat) : State :=
  let fail := fun (t : State) (h : Hdr) => t.answer h Sts.internalFault 0 []
  match core with
  | 1 => { s with xp := { s.xp with replies := s.xp.replies.map (fun r =>
      if r.hw || r.source != 0 || s.xp.journal.contains (r.via, r.seq) then r
      else { r with status := Sts.internalFault, effect := 0, result := List.replicate 16 0 }) } }
  | 2 =>
    let s1 : State := { s with led := { s.led with props := [], xprops := [] } }
    let s2 := s.led.props.foldl (fun t x => if x.owner = 0 ∧ x.partner then t else t.answerProp x Sts.internalFault []) s1
    s.led.xprops.foldl (fun t x =>
      let id := (t.contract x.idx).id x.idx
      fail (if x.dry then t else x.votes.foldl (fun u v => u.emit (.xdev v.1 4 id t.now [])) (t.dropContract x.idx)) x.h) s2
  | 3 =>
    let s1 : State := { s with xp := { s.xp with twinWait := [] } }
    let s2 := s.xp.twinWait.foldl (fun t w => fail (t.emit (.twinAns w.h.seq false 0)) w.h) s1
    s2.led.xacts.foldl (fun t a => t.dropXact a Sts.internalFault) s2
  | _ => s.pwr.meas.foldl (fun t m => fail t m.h) { s with pwr := { s.pwr with meas := [] } }

/-- CORE_WATCHDOG_EXPIRY (R96, R517, R523): the core restarts alone, its locks released, and answers what it held; commands for it wait
until it runs again. Within 256 ticks of any restart it is a warm reset with a fault record. A halted core's watchdog is frozen
(R542). -/
def execCoreWatchdogExpiry (core : Nat) (s : State) : Res :=
  if core < 1 ∨ 4 < core ∨ ¬ s.isSet Reg.CMD.STATUS.FW_READY ∨ s.coreOff core then .next s
  else if s.xp.restart.any (fun t => decide (s.now ≤ t + 256)) then .next (((s.faultRecord 0x10 core 0 0 false).goSilent 0x10).warmReset)
  else
    let s1 := (((s.bump Reg.CMD.STATUS.RESTARTS).evt Reg.CMD.EVENT.CORE_RESTART).orphan core).coreAnswers core
    .next (({ s1 with xp := { s1.xp with restart := some s1.now, coreDown := setBit s1.xp.coreDown (core - 1) } } : State).showCores)

/-- Held commands of cores that run again start, in order of receipt (R96, R542). -/
def State.runHeld (s : State) : State :=
  let go := s.xp.held.filter (fun x => !s.coreHeld x.op x.h)
  go.foldl (fun t x => t.start x.op x.h x.p) { s with xp := { s.xp with held := s.xp.held.filter (fun x => s.coreHeld x.op x.h) } }

/-- The cores that restarted run again at the boundary, within the 5 ms of R96: they take their interrupts and the commands that waited
(R96, R508; DESIGN CHOICE of the moment, notes/assumptions/98.md). -/
def State.coresBack (s : State) : State :=
  if s.xp.coreDown = 0 then s
  else
    let s1 := ({ s with xp := { s.xp with coreDown := 0 } } : State).showCores
    (s1.flushCores (fun c => !s1.coreOff c)).runHeld

/-- RESUME of the cores in a mask: each runs with its watchdog reloaded, and takes what waited for it (R508, R542). -/
def State.coreRun (s : State) (m mask : Nat) : State :=
  s.access m Reg.DBG.CORE_CTRL (s.needL2 m (
    let keep := fun (x : Nat) => (List.range 4).foldl (fun a k => if bit mask k then clrBit a k else a) x
    let s1 := ({ s with xp := { s.xp with coreHalt := keep s.xp.coreHalt, coreHaltReq := keep s.xp.coreHaltReq } } : State).showCores
    (s1.flushCores (fun c => !s1.coreOff c)).runHeld))

/-- CORE_RESUME (R542). -/
def execCoreResume (m mask : Nat) (s : State) : Res := .next (s.coreRun m mask)

end Sys2Proof.Machine
end

