-- ==== Sys2Proof/Machine/Bus.lean ====
section
/-! DEFINITION. The register bus as its masters see it: what a register reads as, a write of any register, read-clear fields,
BAR2, and the transactions of the debug wire (00_scope.md "Conventions", R2, R5, R14, R15, R207, R288, R526–R537, R569).
Masters: 1–4 the management cores, 5 the host, 6 the debug bus master (R524). -/

namespace Sys2Proof.Machine

/-- The state a meaning leaves. -/
def Res.st (s : State) : Res → State
  | .next t => t
  | _ => s

/-- A word with a field replaced. -/
def put (f : Fld) (x : Nat) (w : Word) : Word := w.putField f.lsb f.w x

/-! ## What a register reads as -/

/-- The highest power usage of a slot, maintenance included, in units of 100 mW rounded up (LEDGER.PWR.USED). -/
def State.powerUsed (s : State) : Nat :=
  let cs := s.chargesOf s.live
  ceilDiv ((stepPoints s.slots cs 11 0).foldl (fun a p => max a (usedAt cs 11 0 p + s.maint s.envNow 11 0 p)) 0) 100

/-- The field spares used in the sixteen banks from `b`, two bits each (R224). -/
def State.spareWord (s : State) (c b : Nat) : Nat := (List.range 16).foldl (fun a j => a + s.sparesUsed c (b + j) % 4 * 4 ^ j) 0

/-- The engines of a cluster that satisfy a property. -/
def engCount (c : Nat) (p : Nat → Bool) : Nat := (List.range 32).countP (fun k => p (32 * c + k))

/-- The registers of the identity, the tick, the ledger, the transports, streams and takes that show what the device holds
elsewhere. -/
def State.viewLow (s : State) (o : Nat) (w : Word) : Word :=
  if o = Reg.CAPS.ID then BitVec.ofNat 32 s.capsId
  else if o = Reg.CAPS.UNITS then BitVec.ofNat 32 s.capsUnits
  else if o = Reg.CAPS.LANES then BitVec.ofNat 32 s.capsLanes
  else if o = Reg.TICK.NUM_LO then BitVec.ofNat 32 s.now
  else if 0x60040 ≤ o ∧ o < 0x60060 then put (Reg.TICK.CAD_CFG.USERS 0) (s.cadUsers ((o - 0x60040) / 4)) w
  else if o = Reg.LEDGER.STATUS then
    put Reg.LEDGER.STATUS.ALG_VER s.ident.algVer (put Reg.LEDGER.STATUS.BATCH (min 64 s.openBatch)
      (put Reg.LEDGER.STATUS.CONTRACTS s.live.length w))
  else if o = Reg.LEDGER.ACTIVE then
    put Reg.LEDGER.ACTIVE.ACTIVE (s.inSt (fun c => c == .active)).length
      (put Reg.LEDGER.ACTIVE.DEGRADED (s.inSt (fun c => c == .starved || c == .held)).length w)
  else if o = Reg.LEDGER.PWR then put Reg.LEDGER.PWR.USED (min s.powerUsed 0xFFF) w
  else if o = Reg.CMD.SPI_STATUS then s.spiStatus
  else if 0x300000 ≤ o ∧ o < 0x300640 ∧ o % 16 = 0 then
    put (Reg.STRM.PORT_STATUS.IN_USE 0) (if (s.liveWhere (fun c => s.usesPort c ((o - 0x300000) / 16))).isEmpty then 0 else 1) w
  else if o = Reg.STRM.FLOW_STATUS then
    put Reg.STRM.FLOW_STATUS.IN_USED (s.flowsUsed false) (put Reg.STRM.FLOW_STATUS.EG_USED (s.flowsUsed true) w)
  else if o = Reg.MOLT.STATUS then put Reg.MOLT.STATUS.CHRY_USED s.chryUsed w
  else if o = Reg.TAKE.STATUS then
    put Reg.TAKE.STATUS.PENDING s.take.pend.length (put Reg.TAKE.STATUS.ARMED s.armed.length
      (put Reg.TAKE.STATUS.SPEC (if s.take.egress.any (fun e => e.2.spec.isSome) then 1 else 0) w))
  else w

/-- The registers of clusters, fabric, DRAM, keys, lanes and power that do so. -/
def State.viewMid (s : State) (o : Nat) (w : Word) : Word :=
  if 0x1000000 ≤ o ∧ o < 0x2000000 then
    let c := cluOf o
    match cluOff o with
    | 0x0000 =>
      put (Reg.CLU.STATUS.PSTATE 0) (if s.dom (5 + c) = 2 then 1 else 0)
        (put (Reg.CLU.STATUS.RUNNING 0) (engCount c (fun e => s.engState e == engRunning))
          (put (Reg.CLU.STATUS.SPEC 0) (engCount c s.inSpec) w))
    | 0x0014 => BitVec.ofNat 32 (s.spareWord c 0)
    | 0x0018 => BitVec.ofNat 32 (s.spareWord c 16)
    | _ => w
  else if 0x881000 ≤ o ∧ o < 0x881400 ∧ o % 16 = 0 then
    put (Reg.FAB.FPORT_CFG.SPEC 0)
      (if s.take.egress.any (fun e => e.2.spec.isSome && s.onFport (e.1 / 16) ((o - 0x881000) / 16)) then 1 else 0) w
  else if 0x890000 ≤ o ∧ o < 0x890380 ∧ o % 16 = 0 then put (Reg.FAB.TILE_STATUS.DIE 0) (if 28 ≤ (o - 0x890000) / 16 then 1 else 0) w
  else if 0x100000 ≤ o ∧ o < 0x200000 then
    let m := (o - 0x100000) / 0x20000
    match (o - 0x100000) % 0x20000 with
    | 0 => put (Reg.MC.STATUS.POLICY 0) (if s.compatPolicy m then 1 else 0)
        (put (Reg.MC.STATUS.SCHED 0) (if s.mcLive m && s.fallback m then 1 else 0)
          (if s.srLeaves m then put (Reg.MC.STATUS.SR_PEND 0) 1 w else w))
    | 4 => if s.ident.profile = 0x56 then put (Reg.MC.CFG.POLICY 0) 1 w else w
    | _ => w
  else if o = Reg.SEC.STATUS then
    put Reg.SEC.STATUS.DBG_LEVEL s.dbgLevel (put Reg.SEC.STATUS.DBG_CAP s.ident.debugCap
      (put Reg.SEC.STATUS.REVOKED s.ident.revoked (put Reg.SEC.STATUS.SIGN_SLOT s.boot.keySlot
        (put Reg.SEC.STATUS.NO_PLAIN (if s.ident.noPlain then 1 else 0)
          (put Reg.SEC.STATUS.DBG_KEY_SET (if s.ident.debugKey = 0 then 0 else 1) w)))))
  else if 0x80060 ≤ o ∧ o < 0x80080 then
    BitVec.ofNat 32 ((List.range 4).foldl (fun a i => a + s.ident.opv.getD i 0 % 256 * 256 ^ i) 0)
  else if 0x200000 ≤ o ∧ o < 0x300000 ∧ o % 0x1000 = 0x10 then BitVec.ofNat 32 (s.laneDyn ((o - 0x200000) / 0x1000)).errs
  else w

/-- The registers of interrupts and debug that do so. -/
def State.viewHigh (s : State) (o : Nat) (w : Word) : Word :=
  if 0x40000 ≤ o ∧ o < 0x40100 then BitVec.ofNat 32 (s.grpLevel ((o - 0x40000) / 4))
  else if o = Reg.DBG.ENG_STAT then
    let e := s.rd Reg.DBG.ENG_CTRL.ENGINE
    if s.engPresent e ∧ s.regsOn (5 + e / 32) then
      put Reg.DBG.ENG_STAT.STATE (s.engState e) (put Reg.DBG.ENG_STAT.PEND (if (s.engine e).haltReq then 1 else 0)
        (put Reg.DBG.ENG_STAT.PC (s.engPc e) w))
    else w
  else if o = Reg.DBG.CORE_CTRL then put Reg.DBG.CORE_CTRL.HALTED s.xp.coreHalt w
  else w

/-- What the register at a byte offset reads as, without any side effect; an absent unit's reads zero (R2). -/
def State.view (s : State) (o : Nat) : Word :=
  if !s.offPresent o then 0
  else if lockOff o then s.lockWord o
  else s.viewHigh o (s.viewMid o (s.viewLow o (s.reg o)))

/-! ## Writes (R14, R569) -/

/-- A field's part of a write of `v`: a value out of its range leaves it (R569); ones clear or set the bits of W1C and W1S fields. -/
def writeFld (v : Nat) (w : Word) (f : FSpec) : Word :=
  let x := v / 2 ^ f.lsb % 2 ^ f.w
  match f.ty with
  | .rw => if f.lo ≤ x ∧ x ≤ f.hi then w.putField f.lsb f.w x else w
  | .w1c => w.putField f.lsb f.w (w.field f.lsb f.w &&& (2 ^ f.w - 1 - x))
  | .w1s => w.putField f.lsb f.w (w.field f.lsb f.w ||| x)
  | .rc | .wo => w

/-- A word after a write of `v` at a byte offset: its writable fields, by their types. -/
def wordAfter (o v : Nat) (w : Word) : Word :=
  match specOf o with
  | some r => r.flds.foldl (writeFld v) w
  | none => w

/-- The write of a register that has no effect but on its own fields. -/
def State.wordWrite (s : State) (o v : Nat) : State := s.setReg o (wordAfter o v (s.reg o))

/-- A write of a ring register at offset `x` of ring `n` (R102–R106). -/
def State.ringWrite (s : State) (n x v : Nat) : State :=
  match x with
  | 0x00 | 0x04 | 0x08 | 0x0C => Res.st s (execRingBaseWrite n (x / 4) v s)
  | 0x10 =>
    let s1 := s.wordWrite (Reg.CMD.RING_CFG n) v
    let s2 := if bit v 1 then Res.st s1 (execRingCancel n s1) else s1
    let s3 := Res.st s2 (execRingLengthWrite n (v / 16 % 16) s2)
    Res.st s3 (if bit v 0 then execRingEnable n s3 else execRingDisable n s3)
  | 0x14 => Res.st s (execSqTailWrite n (v % 2 ^ 12) s)
  | 0x20 => Res.st s (execCqHeadWrite n (v % 2 ^ 12) s)
  | _ => s.wordWrite (0x20000 + 0x40 * n + x) v

/-- A write of TICK.LOCK_CFG or TICK.HOLD_CFG waits for the next boundary (R46). -/
def State.stageTick (s : State) (o v : Nat) : State :=
  if o = Reg.TICK.LOCK_CFG then
    { s with tick := { s.tick with lockCfg := some (wordAfter o v (s.tick.lockCfg.getD (s.reg o))) } }
  else { s with tick := { s.tick with holdCfg := some (wordAfter o v (s.tick.holdCfg.getD (s.reg o))) } }

/-- A write of MC.CFG of controller `m` (R334, R337, R342). -/
def State.mcCfgWrite (s : State) (m v : Nat) : State :=
  let s1 := s.wordWrite (Reg.MC.CFG m) v
  let s2 := Res.st s1 (execMcPolicyWrite m (bit v 0) s1)
  let s3 := if s2.isSet (Reg.MC.CFG.FALLBACK_REQ m) = bit v 1 then s2 else Res.st s2 (execMcFallbackReqWrite m (bit v 1) s2)
  if bit v 3 then Res.st s3 (execMcSrReqWrite m s3) else s3.wr (Reg.MC.CFG.SR_REQ m) 0

/-- A write of MSIX.CTRL of vector `n`: unmasking a pending vector sends it (R508). -/
def State.msixCtrlWrite (s : State) (n v : Nat) : State :=
  let s1 := s.wordWrite (Reg.MSIX.CTRL n) v
  let p := Reg.MSIX.PBA.PEND (n / 32)
  if s.isSet (Reg.MSIX.CTRL.MASKED n) ∧ ¬ s1.isSet (Reg.MSIX.CTRL.MASKED n) ∧ bit (s1.rd p) (n % 32) then
    (s1.wr p (clrBit (s1.rd p) (n % 32))).toHost n
  else s1

/-- A write in a cluster's block: the watchdog (its enable from the next boundary, R218), a DMA queue of an allowed master
(R519), another register. -/
def State.cluWrite (s : State) (m o v : Nat) : State :=
  let b := cluOff o
  if 0x1000 ≤ b ∧ b < 0x1800 ∧ b % 0x40 = 4 then
    let e := 32 * cluOf o + (b - 0x1000) / 0x40
    let s1 := s.updEngine e (fun x => { x with wdogPend := some (BitVec.ofNat 32 (v % 2)) })
    s1.setReg o (put (Reg.ENG.WDOG.EN e) (s.rd (Reg.ENG.WDOG.EN e)) (wordAfter o v (s.reg o)))
  else if 0x2000 ≤ b ∧ b < 0x6000 ∧ b % 0x200 < 0x20 then
    let e := 32 * cluOf o + (b - 0x2000) / 0x200
    if dmaMaster m e then s.dmaWord e (b % 0x200) v else s
  else s.wordWrite o v

/-- A write of a register with effects of its own, outside locks, mailboxes and the debug block; other registers change by their
field types alone. -/
def State.ownWrite (s : State) (m o v : Nat) : State :=
  if 0x20000 ≤ o ∧ o < 0x20100 then s.ringWrite ((o - 0x20000) / 0x40) (o % 0x40) v
  else if o = Reg.TICK.LOCK_CFG ∨ o = Reg.TICK.HOLD_CFG then s.stageTick o v
  else if 0x40200 ≤ o ∧ o < 0x40300 then Res.st s (execIntcRouteWrite ((o - 0x40200) / 4) v s)
  else if 0x40300 ≤ o ∧ o < 0x40400 then (if bit v 2 then s.grpEoi ((o - 0x40300) / 4) else s)
  else if 0x50000 ≤ o ∧ o < 0x50400 ∧ o % 16 = 12 then s.msixCtrlWrite ((o - 0x50000) / 16) v
  else if o = Reg.PWR.CFG then
    let s1 := s.wordWrite o v
    if s1.isSet Reg.PWR.CFG.FORCE_B = bit v 16 then s1 else Res.st s1 (execPwrForceBWrite (bit v 16) s1)
  else if o = Reg.CLK.CFG then
    let s1 := s.wordWrite o v
    (if bit v 2 then s1.wr Reg.CLK.CFG.RETURN_REQ 1 else s1).rcFollows
  else if 0x80300 ≤ o ∧ o < 0x80400 ∧ o % 16 = 0 then
    let s1 := s.wordWrite o v
    if bit v 16 then Res.st s1 (execEyeGateStart ((o - 0x80300) / 16) s1) else s1
  else if o = Reg.BOOT.CTRL then (if bit v 0 then Res.st s (execBootAbortWrite s) else s)
  else if 0x100000 ≤ o ∧ o < 0x200000 ∧ o % 0x20000 = 4 then s.mcCfgWrite ((o - 0x100000) / 0x20000) v
  else if 0x1000000 ≤ o ∧ o < 0x2000000 then s.cluWrite m o v
  else s.wordWrite o v

/-- A write in the debug block (R534–R543): engine and core control, injection and forced locks at L2 alone. -/
def State.dbgWrite (s : State) (m o v : Nat) : State :=
  if o = Reg.DBG.AUTH then
    s.access m o (
      let s0 := s.wr Reg.DBG.AUTH.REQ_LEVEL v
      let s1 := if bit v 2 then s0.wireChallenge (v % 4) else s0
      if bit v 3 then s1.wireSubmit else s1)
  else if o = Reg.DBG.ENG_CTRL then
    let e := v % 256
    s.engCtrl m e (fun t0 =>
      let t1 := if bit v 8 then t0.askHalt e else t0
      let t2 := if bit v 9 then t1.unhalt e else t1
      let t3 := if bit v 10 then t2.step1 e else t2
      if bit v 11 then t3.inject e else t3)
  else if o = Reg.DBG.ENG_STAT then s.dbgPc m (v / 2 ^ 16 % 2 ^ 11)
  else if o = Reg.DBG.CORE_CTRL then
    let s1 := if v % 16 = 0 then s else s.coreAsk m (v % 16)
    if v / 16 % 16 = 0 then s1 else s1.coreRun m (v / 16 % 16)
  else if o = Reg.DBG.LOCK_FORCE then s.lockForce m v
  else if 0xE0020 ≤ o ∧ o < 0xE0030 then s.access m o (s.needL2 m (s.wordWrite o v))
  else s.access m o (s.wordWrite o v)

/-- A write in fabric user space by the host or the debug port (R2, R5, R288): posted to the port's register channel. -/
def State.userWrite (s : State) (m o v : Nat) : State :=
  if 0x4000000 ≤ o ∨ m < 5 ∨ s.nFports ≤ (o - 0x2000000) / 0x80000 then s
  else if s.domOn 3 then s.emit (.fabric 9 (o - 0x2000000) v)
  else s.refuseAccess m o true

/-- A write of a word by a master at a BAR0 byte offset. -/
def State.busWrite (s : State) (m o v : Nat) : State :=
  let x := v % 2 ^ 32
  if m = 0 ∨ 6 < m ∨ o % 4 ≠ 0 then s
  else if 0x2000000 ≤ o then s.userWrite m o x
  else if lockOff o then s.access m o (s.lockWrite m o x)
  else match halfAt o with
    | some h => s.access m o (s.halfWrite h m (o - h.base) x)
    | none => if 0xE0000 ≤ o ∧ o < 0xE1000 then s.dbgWrite m o x else s.access m o (s.ownWrite m o x)

/-- REGISTER_WRITE (R2, R5, R14, R569). -/
def execRegisterWrite (m o v : Nat) (s : State) : Res := .next (s.busWrite m o v)

/-! ## Read-clear fields (R15) -/

/-- The read of a sensor's register starts a new PEAK (R473). -/
def State.peakRead (s : State) (o : Nat) : State :=
  if Reg.THERM.SENSOR 0 ≤ o ∧ o ≤ Reg.THERM.SENSOR 15 then
    { s with pwr := { s.pwr with peaks := clrBit s.pwr.peaks ((o - Reg.THERM.SENSOR 0) / 4) } }
  else s

/-- The read-clear fields of a register are cleared. -/
def State.rcClear (s : State) (o : Nat) : State :=
  match specOf o with
  | some r =>
    if r.flds.any (fun f => f.ty == .rc) then
      (s.setReg o (r.flds.foldl (fun w f => if f.ty = .rc then w.putField f.lsb f.w 0 else w) (s.reg o))).peakRead o
    else s
  | none => s

/-- RC_FIELD_READ (R15): master `m` reads a register with read-clear fields. The debug bus master's read of the row is a peek, which
clears nothing; its destructive reads are DEBUG_READ's (R535, R536). -/
def execRcFieldRead (m o : Nat) (s : State) : Res :=
  if m = 0 ∨ 6 < m ∨ o % 4 ≠ 0 then .next s
  else
    let t := s.emit (.readData m o (s.view o))
    .next (s.accessR m o (if m = 6 then t else t.rcClear o))

/-! ## BAR2 (R2, R5, R207) -/

/-- What a BAR2 address reaches. -/
inductive Bar2 where
  /-- Nothing, or an absent cluster. -/
  | none (absent : Bool)
  /-- A present unit that is powered down. -/
  | off
  /-- Cluster memory at a byte address, with the bytes to the end of it; the LDM of an engine at a byte address. -/
  | cmem (a left : Nat)
  | ldm (e a : Nat)
  deriving DecidableEq, Repr

/-- The map of R207. -/
def State.bar2 (s : State) (a : Nat) : Bar2 :=
  if a < 0x8000000 then
    let c := a / 2 ^ 24
    let x := a % 2 ^ 24
    if 2 ^ 23 ≤ x then .none false
    else if s.nClusters ≤ c then .none true
    else if s.regsOn (5 + c) then .cmem (c * 2 ^ 23 + x) (2 ^ 23 - x) else .off
  else
    let e := (a - 0x8000000) / 2 ^ 16
    if 256 ≤ e then .none false
    else if ¬ s.engPresent e then .none true
    else if s.engOn e then .ldm e (a % 2 ^ 16) else .off

/-- A write of bytes at a BAR2 address; bytes past the end of the memory it names are dropped. -/
def State.bar2Write (s : State) (a : Nat) (b : List Byte) : State :=
  match s.bar2 a with
  | .none _ => s
  | .off => s.abortPosted a
  | .cmem x left => { s with eng := { s.eng with cmem := s.eng.cmem.writeN x (b.take left) } }
  | .ldm e x => s.updEngine e (fun y => { y with ldm := y.ldm.writeN x (b.take (2 ^ 16 - x)) })

/-- HOST_BAR2_WRITE (R207). -/
def execHostBar2Write (a : Nat) (bytes : List Byte) (s : State) : Res := .next (s.bar2Write a bytes)

/-- A word at a BAR2 address. -/
def State.bar2Read (s : State) (a : Nat) : Word :=
  match s.bar2 a with
  | .cmem x _ => BitVec.ofNat 32 (leAt (s.eng.cmem.readN x 4) 0 4)
  | .ldm e x => BitVec.ofNat 32 (leAt ((s.engine e).ldm.readN x 4) 0 4)
  | _ => 0

/-! ## Transactions of the debug wire (R529–R537) -/

/-- CRC-8 of R531 over one more bit: x^8 + x^2 + x + 1, initial value 0. -/
def crc8Bit (c : Nat) (b : Bool) : Nat :=
  let x := c * 2 % 256
  if bit c 7 != b then x ^^^ 7 else x
/-- CRC-8 over the lowest `n` bits of a number, the most significant first. -/
def crc8 (v : Nat) : Nat → Nat → Nat
  | 0, c => c
  | n + 1, c => crc8 v n (crc8Bit c (bit v n))

/-- The 72 bits before a transaction's CRC, and its 80 bits (R530). -/
def frmBody (f : DbgFrame) : Nat := f.hdr.toNat * 2 ^ 64 + f.addr.toNat * 2 ^ 32 + f.data.toNat
def frmBits (f : DbgFrame) : Nat := (frmBody f) * 2 ^ 8 + f.crc.toNat

/-- The header's fields (R530). -/
def frmOp (f : DbgFrame) : Nat := f.hdr.toNat / 64
def frmDestr (f : DbgFrame) : Bool := bit f.hdr.toNat 5
def frmSpace (f : DbgFrame) : Nat := f.hdr.toNat / 8 % 4

/-- BAD_HEADER (R530, R532): reserved OP or SPACE, a misaligned address, bits beyond the space. -/
def frmBad (f : DbgFrame) : Bool :=
  let a := f.addr.toNat
  if (frmOp f) = 2 then a != 0
  else (frmOp f) == 3 || (frmSpace f) == 3 || a % 4 != 0 || ((frmSpace f) == 0 && decide (2 ^ 26 ≤ a)) || ((frmSpace f) == 1 && decide (2 ^ 28 ≤ a))

/-- The DRAM address of a transaction in space 2. -/
def State.dbgAddr (s : State) (f : DbgFrame) : Nat := s.rd Reg.DBG.ADDR_HI.ADDR_HI * 2 ^ 32 + f.addr.toNat

/-- Does the level in force allow the access (R535)? -/
def State.dbgAllowed (s : State) (f : DbgFrame) : Bool :=
  let a := f.addr.toNat
  let lv := s.dbgLevel
  if (frmOp f) = 2 then true
  else if (frmOp f) = 1 then
    lv == 2 || ((frmSpace f) == 0 && !(frmDestr f) && (a == Reg.DBG.ADDR_HI || a == Reg.DBG.AUTH || decide (0xE0200 ≤ a ∧ a < 0xE02C0)))
  else if (frmDestr f) then lv == 2
  else if (frmSpace f) = 0 then decide (a < 0x20000) || decide (0xE0000 ≤ a ∧ a < 0xE1000) || (decide (1 ≤ lv) && decide (a < 0x2000000))
  else if (frmSpace f) = 1 then decide (1 ≤ lv)
  else decide (1 ≤ lv) && !s.keyed (s.dbgAddr f)

/-- BUS_ERR (R2, R5, R532): an absent or powered-down unit, or beyond the installed DRAM. -/
def State.dbgBusErr (s : State) (f : DbgFrame) : Bool :=
  let a := f.addr.toNat
  match (frmSpace f) with
  | 0 => if 0x2000000 ≤ a then decide (s.nFports ≤ (a - 0x2000000) / 0x80000) || !s.domOn 3 else !s.offPresent a || !s.offOn a
  | 1 => match s.bar2 a with
    | .none x => x
    | .off => true
    | _ => false
  | _ => s.dramBad (s.dbgAddr f) 4

/-- A destructive read of a register: with the side effects of a host read (R15, R19, R419, R520, R536). The time within the slot
that TICK.SNAP captures and the answer of fabric logic are free values. -/
def State.fullRead (s : State) (o : Nat) : State × Word :=
  if 0x2000000 ≤ o then ((s.drew).emit (.fabric 8 ((o - 0x2000000) / 0x80000) (o % 0x80000)), BitVec.ofNat 32 s.free)
  else if lockOff o then s.lockRead 6 o
  else if o = Reg.TICK.NUM_LO then (Res.st s (execTickNumLoRead (s.free % 2 ^ 16) s.drew), s.view o)
  else if 0x200000 ≤ o ∧ o < 0x300000 ∧ o % 0x1000 = 0x10 then
    (Res.st s (execLanePrbsErrLoRead ((o - 0x200000) / 0x1000) s), s.view o)
  else (s.rcClear o, s.view o)

/-- The access of a transaction that is allowed and reaches its unit (R530, R535–R537). -/
def State.dbgDo (s : State) (f : DbgFrame) : State × Word :=
  let a := f.addr.toNat
  match (frmOp f), (frmSpace f) with
  | 2, _ => (s.wakeUp, 0)
  | 1, 0 => (s.busWrite 6 a f.data.toNat, 0)
  | 1, 1 => (s.bar2Write a (toLe 4 f.data.toNat), 0)
  | 1, _ => (s.dramWrite (s.dbgAddr f) (toLe 4 f.data.toNat), 0)
  | _, 0 => if (frmDestr f) then s.fullRead a else (s, s.view a)
  | _, 1 => (s, s.bar2Read a)
  | _, _ => (s, BitVec.ofNat 32 (leAt (s.dramRead (s.dbgAddr f) 4) 0 4))

/-- The status and data of a transaction, with what it does (R532, R535). -/
def State.dbgRun (s : State) (f : DbgFrame) : State × Nat × Word :=
  if crc8 (frmBody f) 72 0 ≠ f.crc.toNat then (s, 5, 0)
  else if (frmBad f) then (s, 4, 0)
  else if !s.dbgAllowed f then (s, 1, 0)
  else if (frmOp f) ≠ 2 ∧ s.dbgBusErr f then (s, 2, 0)
  else
    let r := s.dbgDo f
    if f.late then (r.1, 3, 0) else (r.1, 0, r.2)

/-- The response leaves, unless the device finds the wire held low (R532). -/
def State.dbgSend (s : State) (f : DbgFrame) (st : Nat) (data : Word) : State :=
  if f.collide then (s.bump Reg.DBG.STATUS.COLLIDE_CNT).evt Reg.DBG.EVENT.COLLIDE else s.emit (.debugRsp st data)

/-- A transaction in an open session (R529–R533): broken cells discard it; one equal to the latest in all 80 bits is answered from
the kept record. -/
def State.dbgFrame (s : State) (f : DbgFrame) : State :=
  if s.pwr.hold = .off ∨ ¬ s.isSet Reg.DBG.STATUS.SESSION then s
  else if !f.cells then (s.bump Reg.DBG.STATUS.FRAME_CNT).evt Reg.DBG.EVENT.FRAME_ERR
  else
    let fresh := fun (_ : Unit) =>
      let r := s.dbgRun f
      let t : State := { r.1 with dbg := { r.1.dbg with last := some ((frmBits f), r.2.1, r.2.2) } }
      t.dbgSend f r.2.1 r.2.2
    match s.dbg.last with
    | some (b, st, data) => if b = (frmBits f) then s.dbgSend f st data else fresh ()
    | none => fresh ()

/-- DEBUG_READ (R529–R537): a transaction with OP READ, or with the reserved OP. -/
def execDebugRead (f : DbgFrame) (s : State) : Res := .next (if (frmOp f) = 0 ∨ (frmOp f) = 3 then s.dbgFrame f else s)

/-- DEBUG_WRITE (R529–R537). -/
def execDebugWrite (f : DbgFrame) (s : State) : Res := .next (if (frmOp f) = 1 then s.dbgFrame f else s)

/-- DEBUG_WAKE (R485, R530). -/
def execDebugWake (f : DbgFrame) (s : State) : Res := .next (if (frmOp f) = 2 then s.dbgFrame f else s)

end Sys2Proof.Machine
end

