-- ==== Sys2Proof/Machine/Boundary.lean ====
section
/-! DEFINITION. The start of a tick and of a slot (R17), with what happens at every boundary: the parts that have a row of their
own follow as those rows' commands. -/

namespace Sys2Proof.Machine

/-! ## Dolmet links: markers, heartbeats, digests (R427–R429, R434) -/

/-- The links that carry heartbeats and markers: a link in the RECOVERY role does not (R427, R430). -/
def State.upLinks (s : State) : List Nat := (List.range 6).filter (fun k => s.carries k 2)

/-- One slot's heartbeat on a link: slot, low tick number, TWIN_OK, the arrival time of the partner's latest marker; one more slot
passes without the partner's (R427, R429). -/
def State.heartbeat (s : State) (k : Nat) : State :=
  (s.updLink k (fun d => { d with hbMiss := d.hbMiss + 1 })).emit
    (.frame k 2 [s.slot, s.now % 2 ^ 32, if s.twin.ok then 1 else 0, (s.link k).rxAt])

/-- Slot 0's marker on a link, leaving at device time `t1` (R427, R428, R442, R445). -/
def State.marker (s : State) (k t1 : Nat) : State :=
  let a := s.authority
  (s.updLink k (fun d => { d with hbMiss := d.hbMiss + 1, txAt := t1, txPrev := d.txAt })).emit
    (.frame k 1 [0, s.now % 2 ^ 32, if s.twin.ok then 1 else 0, t1, (s.link k).rxAt, s.now, s.mesh.instar, s.mesh.digest, s.lock,
      a.1, a.2])

/-- The DIGEST frame on both twin links, sent in slot 1 of a tick; never under revision 1.1 (R427, R434). -/
def State.sendDigest (s : State) : State :=
  (s.upLinks.filter (fun k => s.isTwinLink k && s.isSet (Reg.DOLMET.LINK_STATUS.REV2 k))).foldl (fun t k => t.emit (.frame k 7 s.digestBody)) s

/-! ## The ledger's part (R73, R81, R83) -/

/-- A TRANSFER's bytes of the tick just ended fall short of XFER_RATE, in MB/s (R73). -/
def State.transferShort (s : State) (i : Nat) : State :=
  let c := s.contract i
  let short := c.moved * rateN s.rate < c.d.xferRate * 10 ^ 6 * rateD s.rate
  s.updContract i (fun c => { c with moved := 0, miss := if short then min (c.miss + 1) 0xFFFFFFFF else c.miss })

/-- Activations and releases of cross-device contracts that a path device has not answered at least one tick before their tick are
withdrawn (R81). -/
def State.xactsLate (s : State) : State :=
  (s.led.xacts.filter (fun a => decide (a.tick ≤ s.now + 1))).foldl (fun t a => t.dropXact a Sts.unreachable) s

/-- LEDGER.HR of the instance that LEDGER.HR_SEL names: the lowest limit minus usage and its slot (R83); 0 where usage is above the limit
(R84; DESIGN CHOICE, notes/assumptions/102.md). -/
def State.headroom (s : State) : State :=
  let res := s.rd Reg.LEDGER.HR_SEL.RES
  let inst := s.rd Reg.LEDGER.HR_SEL.INST
  let cs := s.chargesOf s.live
  let room := fun (p : Nat) => s.limit s.envNow res inst p - (usedAt cs res inst p + s.heldCount res)
  let pts := if countRes res then [0] else stepPoints s.slots cs res inst
  let low := pts.foldl (fun a p => if room p < room a then p else a) 0
  let val := if s.resPresent res inst then room low else 0
  ((s.wr Reg.LEDGER.HR.HEADROOM val).wr Reg.LEDGER.HR_SEL.SLOT low).flag Reg.LEDGER.HR_SEL.COUNT (countRes res)

/-! ## Engines (R213, R218) -/

/-- Engines that run, or whose interrupts stay pending while they are halted (R539). -/
def State.ticking (s : State) : List Nat :=
  (List.range 256).filter (fun e => s.engOn e && (s.engState e == engRunning || s.engState e == engHalted))

/-- The tick interrupt; a t.wait ends (R213, R257). -/
def State.engTick (s : State) (e : Nat) : State := (s.engRaise e 2).updEngine e (fun x => { x with wait := false })

/-- A write of ENG.WDOG.EN takes effect (R218). -/
def State.wdogApply (s : State) : State :=
  (s.eng.eng.filter (fun x => x.2.wdogPend.isSome)).foldl (fun t x =>
    (t.wr (Reg.ENG.WDOG.EN x.1) (x.2.wdogPend.getD 0).toNat).updEngine x.1 (fun y => { y with wdogPend := none })) s

/-! ## Fabric clocks (R277, R279, R284) -/

/-- A fabric port's clock as measured in the tick just ended, in kHz (R284). -/
def State.fportMeasured (s : State) (x : Nat × Nat) : State :=
  let decl := s.rd (Reg.FAB.FPORT_CFG.CLK_KHZ x.1)
  if x.1 < s.nFports ∧ s.isSet (Reg.FAB.FPORT_CFG.EN x.1) then
    let off := decide (decl < 200 * ((x.2 : Int) - decl).natAbs)
    let s1 := (s.wr (Reg.FAB.FPORT_STATUS.MEAS_KHZ x.1) x.2).flag (Reg.FAB.FPORT_STATUS.MISMATCH x.1) off
    if off then s1.evt Reg.FAB.EVENT.CLK_MISMATCH else s1
  else s

/-- A fabric PLL's output as measured, in kHz (R277). -/
def State.fpllMeasured (s : State) (x : Nat × Nat) : State :=
  if x.1 < s.nFplls ∧ s.isSet (Reg.FAB.FPLL_STATUS.EN x.1) then s.wr (Reg.FAB.FPLL_STATUS.FREQ_KHZ x.1) x.2 else s

/-- Video PLLs realign at the TICK strobe (R279). -/
def State.vpllsAlign (s : State) : State :=
  ((List.range s.nVplls).filter (fun k => s.rd (Reg.FAB.VPLL_STATUS.K k) != 0)).foldl (fun t k => t.wr (Reg.FAB.VPLL_STATUS.ALIGNED k) 1) s

/-- The fabric's part of a boundary. -/
def State.fabricBoundary (s : State) (e : Edge) : State :=
  if s.domOn 3 then (e.fplls.foldl State.fpllMeasured (e.fports.foldl State.fportMeasured s)).vpllsAlign else s

/-! ## Mesh and twins (R390, R434, R439, R442, R445) -/

/-- The CRCs of the frames that ended in the tick just over become the digest's (R434). -/
def State.crcBoundary (s : State) : State :=
  let done := s.twin.crcs.filterMap (fun x => x.2.done.map (fun d => (x.1, d.2 % 2 ^ 16, d.1)))
  let rest := SMap.mapAll (fun _ => ({} : OutCrc)) (fun _ o => { o with done := none }) s.twin.crcs
  { s with twin := { s.twin with crcs := rest, sentCrcs := done } }

/-- A muted receiver whose partner was lost carries from this boundary (R439). -/
def State.unmuteDue (s : State) : State :=
  if s.twin.unmute then
    let s1 : State := { s with twin := { s.twin with unmute := false } }
    (s1.setMuted false).setChg true
  else s

/-- An engine's LDM and main-bank registers, as the carrier copies them (R437). -/
def State.engCopyOf (s : State) (e : Nat) : EngCopy :=
  let x := s.engine e
  { e := e, ldm := (List.range 65536).map x.ldm.read, sreg := (List.range 32).map (SMap.get (fun _ => 0) x.sreg),
    vreg := (List.range 32).map (SMap.get (fun _ => 0) x.vreg), acc := (List.range 4).map (SMap.get (fun _ => List.replicate 16 0) x.acc),
    lc0 := x.lc0, lc1 := x.lc1, bexp := x.bexp, sat := x.sat }

/-- The engines of a cluster that run. -/
def State.runningIn (s : State) (c : Nat) : List Nat := ((List.range 32).map (32 * c + ·)).filter (fun e => s.engState e == engRunning)

/-- From tick A on the carrier copies the engines of the next cluster that runs contract stages, between their t.done and the TICK
strobe; a cluster whose engines had not all finished is tried again at the next tick (R437 step 4). -/
def State.sendCopy (s : State) : State :=
  if s.twinState = 1 ∧ s.twin.carrier ∧ s.twin.actTick.any (fun a => decide (a < s.now)) then
    match (List.range s.nClusters).find? (fun c => !s.twin.copied.contains c && !(s.runningIn c).isEmpty) with
    | some c =>
      if (s.runningIn c).all (fun e => decide ((s.engine e).done = some (s.now - 1))) then
        let s1 := s.emit (.engCopy c ((s.runningIn c).map s.engCopyOf))
        { s1 with twin := { s1.twin with copied := sortNat (c :: s1.twin.copied) } }
      else s
    | none => s
  else s

/-- Cluster-memory stall cycles are counted (R223); the counter wraps (DESIGN CHOICE, notes/assumptions/20.md). -/
def State.stalled (s : State) (x : Nat × Nat) : State :=
  if x.1 < s.nClusters ∧ s.regsOn (5 + x.1) then s.wr (Reg.CLU.STALL.STALL_CNT x.1) (s.rd (Reg.CLU.STALL.STALL_CNT x.1) + x.2) else s

/-- The links' and the twin's part of a boundary: the level of TWIN_PEER_OK, tag failures count anew, quarantined links that agree come
back, markers leave. -/
def State.meshBoundary (s0 : State) (e : Edge) : State :=
  let s := if e.peerOk ∧ s0.domOn 1 then s0.wr Reg.TWIN.STATUS.PEER_OK 1 else s0
  if s.domOn 1 then
    let s1 := (List.range 6).foldl (fun t k => (t.updLink k (fun d => { d with tagFails := 0 })).unquarantine k) s
    let s2 := s1.crcBoundary.unmuteDue.updAuth
    s2.upLinks.foldl (fun t k => t.marker k (((e.tx.find? (fun x => x.1 == k)).map (·.2)).getD 0)) s2
  else s

/-! ## The rows (R17) -/

/-- The ledger's and the engines' part of a boundary. -/
def State.ledgerBoundary (s : State) : State :=
  let s1 := (s.liveWhere (fun c => c.d.typ == 5 && (c.st == .active || c.st == .starved || c.st == .held))).foldl State.transferShort s
  let s2 := s1.xactsLate.wdogApply.sendCopy
  s2.ticking.foldl State.engTick s2

/-- TICK_BOUNDARY (R17, R18, R32, R35, R42, R45, R46, R73, R81, R213, R218, R277, R279, R284, R335, R337, R416, R428, R434, R439, R442,
R445, R460, R463). -/
def execTickBoundary (e : Edge) (s : State) : Res :=
  let s1 := (s.tickPart e).tapPart e
  let s2 := e.rxeq.foldl State.adapted (e.prbs.foldl State.prbsCount s1)
  let s3 := (e.stalls.foldl State.stalled (s2.fabricBoundary e)).pwrBoundary
  let s4 := (List.range 8).foldl State.mcBoundary s3
  let s5 := if s.domOn 1 then s4.ledgerBoundary else s4
  let s6 := s5.meshBoundary e
  let s7 := if s6.domOn 3 then s6.xbarSlot.idleOutputs else s6
  .next (if s.domOn 1 then s7.headroom.coresBack.settle else s7)

/-- SLOT_START (R17, R427, R434): the next slot of the tick begins; slot 0 begins with TICK_BOUNDARY. -/
def execSlotStart (s : State) : Res :=
  if s.slot + 1 < s.slots then
    let s0 := (s.wr Reg.TICK.STATUS.SLOT (s.slot + 1)).freeTiles
    let s1 := if s0.domOn 3 then s0.xbarSlot else s0
    if s.domOn 1 then
      let s2 := s1.upLinks.foldl State.heartbeat s1
      .next (if s2.slot = 1 ∧ s2.rd Reg.TWIN.CFG.ROLE ≠ 0 then s2.sendDigest else s2)
    else .next s1
  else .next s

end Sys2Proof.Machine
end

