-- ==== Sys2Proof/Machine/Isa.lean ====
section
/-! DEFINITION. One meaning per slot operation: engine `e` puts it into its bundle, and without `more` issues the bundle
(07_engine_instructions.md). The encoding's fields are its operands. -/

namespace Sys2Proof.Machine

/-- S_NOP (R244): nothing. -/
def execSNop (e : Nat) (more : Bool) (s : State) : Res :=
  .next (s.inS e more {})

/-- S_ADD (R244): three registers. -/
def execSAdd (e : Nat) (more : Bool) (d a b : BitVec 5) (s : State) : Res :=
  .next (s.inS e more { op := 0x01, d := d.toNat, a := a.toNat, b := b.toNat })

/-- S_SUB (R244): three registers. -/
def execSSub (e : Nat) (more : Bool) (d a b : BitVec 5) (s : State) : Res :=
  .next (s.inS e more { op := 0x02, d := d.toNat, a := a.toNat, b := b.toNat })

/-- S_AND (R244): three registers. -/
def execSAnd (e : Nat) (more : Bool) (d a b : BitVec 5) (s : State) : Res :=
  .next (s.inS e more { op := 0x03, d := d.toNat, a := a.toNat, b := b.toNat })

/-- S_OR (R244): three registers. -/
def execSOr (e : Nat) (more : Bool) (d a b : BitVec 5) (s : State) : Res :=
  .next (s.inS e more { op := 0x04, d := d.toNat, a := a.toNat, b := b.toNat })

/-- S_XOR (R244): three registers. -/
def execSXor (e : Nat) (more : Bool) (d a b : BitVec 5) (s : State) : Res :=
  .next (s.inS e more { op := 0x05, d := d.toNat, a := a.toNat, b := b.toNat })

/-- S_SLL (R244): three registers. -/
def execSSll (e : Nat) (more : Bool) (d a b : BitVec 5) (s : State) : Res :=
  .next (s.inS e more { op := 0x06, d := d.toNat, a := a.toNat, b := b.toNat })

/-- S_SRL (R244): three registers. -/
def execSSrl (e : Nat) (more : Bool) (d a b : BitVec 5) (s : State) : Res :=
  .next (s.inS e more { op := 0x07, d := d.toNat, a := a.toNat, b := b.toNat })

/-- S_SRA (R244): three registers. -/
def execSSra (e : Nat) (more : Bool) (d a b : BitVec 5) (s : State) : Res :=
  .next (s.inS e more { op := 0x08, d := d.toNat, a := a.toNat, b := b.toNat })

/-- S_MUL (R244): three registers. -/
def execSMul (e : Nat) (more : Bool) (d a b : BitVec 5) (s : State) : Res :=
  .next (s.inS e more { op := 0x09, d := d.toNat, a := a.toNat, b := b.toNat })

/-- S_MIN (R244): three registers. -/
def execSMin (e : Nat) (more : Bool) (d a b : BitVec 5) (s : State) : Res :=
  .next (s.inS e more { op := 0x0A, d := d.toNat, a := a.toNat, b := b.toNat })

/-- S_MAX (R244): three registers. -/
def execSMax (e : Nat) (more : Bool) (d a b : BitVec 5) (s : State) : Res :=
  .next (s.inS e more { op := 0x0B, d := d.toNat, a := a.toNat, b := b.toNat })

/-- S_SLT (R244): three registers. -/
def execSSlt (e : Nat) (more : Bool) (d a b : BitVec 5) (s : State) : Res :=
  .next (s.inS e more { op := 0x0C, d := d.toNat, a := a.toNat, b := b.toNat })

/-- S_SLTU (R244): three registers. -/
def execSSltu (e : Nat) (more : Bool) (d a b : BitVec 5) (s : State) : Res :=
  .next (s.inS e more { op := 0x0D, d := d.toNat, a := a.toNat, b := b.toNat })

/-- S_ADDI (R244): immediate. -/
def execSAddi (e : Nat) (more : Bool) (d a : BitVec 5) (imm : BitVec 15) (s : State) : Res :=
  .next (s.inS e more { op := 0x10, d := d.toNat, a := a.toNat, n := imm.toNat })

/-- S_ANDI (R244): immediate. -/
def execSAndi (e : Nat) (more : Bool) (d a : BitVec 5) (imm : BitVec 15) (s : State) : Res :=
  .next (s.inS e more { op := 0x11, d := d.toNat, a := a.toNat, n := imm.toNat })

/-- S_ORI (R244): immediate. -/
def execSOri (e : Nat) (more : Bool) (d a : BitVec 5) (imm : BitVec 15) (s : State) : Res :=
  .next (s.inS e more { op := 0x12, d := d.toNat, a := a.toNat, n := imm.toNat })

/-- S_XORI (R244): immediate. -/
def execSXori (e : Nat) (more : Bool) (d a : BitVec 5) (imm : BitVec 15) (s : State) : Res :=
  .next (s.inS e more { op := 0x13, d := d.toNat, a := a.toNat, n := imm.toNat })

/-- S_SLLI (R244): shift by an immediate. -/
def execSSlli (e : Nat) (more : Bool) (d a n : BitVec 5) (s : State) : Res :=
  .next (s.inS e more { op := 0x14, d := d.toNat, a := a.toNat, n := n.toNat })

/-- S_SRLI (R244): shift by an immediate. -/
def execSSrli (e : Nat) (more : Bool) (d a n : BitVec 5) (s : State) : Res :=
  .next (s.inS e more { op := 0x15, d := d.toNat, a := a.toNat, n := n.toNat })

/-- S_SRAI (R244): shift by an immediate. -/
def execSSrai (e : Nat) (more : Bool) (d a n : BitVec 5) (s : State) : Res :=
  .next (s.inS e more { op := 0x16, d := d.toNat, a := a.toNat, n := n.toNat })

/-- S_RSH (R244): shift by an immediate. -/
def execSRsh (e : Nat) (more : Bool) (d a n : BitVec 5) (s : State) : Res :=
  .next (s.inS e more { op := 0x17, d := d.toNat, a := a.toNat, n := n.toNat })

/-- S_LI (R244): load immediate. -/
def execSLi (e : Nat) (more : Bool) (d : BitVec 5) (imm : BitVec 20) (s : State) : Res :=
  .next (s.inS e more { op := 0x18, d := d.toNat, n := imm.toNat })

/-- S_LUI (R244): load immediate. -/
def execSLui (e : Nat) (more : Bool) (d : BitVec 5) (imm : BitVec 20) (s : State) : Res :=
  .next (s.inS e more { op := 0x19, d := d.toNat, n := imm.toNat })

/-- S_BEQ (R244): signed compare and branch. -/
def execSBeq (e : Nat) (more : Bool) (a b : BitVec 5) (t : BitVec 11) (s : State) : Res :=
  .next (s.inS e more { op := 0x20, a := a.toNat, b := b.toNat, n := t.toNat })

/-- S_BNE (R244): signed compare and branch. -/
def execSBne (e : Nat) (more : Bool) (a b : BitVec 5) (t : BitVec 11) (s : State) : Res :=
  .next (s.inS e more { op := 0x21, a := a.toNat, b := b.toNat, n := t.toNat })

/-- S_BLT (R244): signed compare and branch. -/
def execSBlt (e : Nat) (more : Bool) (a b : BitVec 5) (t : BitVec 11) (s : State) : Res :=
  .next (s.inS e more { op := 0x22, a := a.toNat, b := b.toNat, n := t.toNat })

/-- S_BGE (R244): signed compare and branch. -/
def execSBge (e : Nat) (more : Bool) (a b : BitVec 5) (t : BitVec 11) (s : State) : Res :=
  .next (s.inS e more { op := 0x23, a := a.toNat, b := b.toNat, n := t.toNat })

/-- S_J (R244): jump. -/
def execSJ (e : Nat) (more : Bool) (t : BitVec 11) (s : State) : Res :=
  .next (s.inS e more { op := 0x24, n := t.toNat })

/-- S_JAL (R244): jump and link. -/
def execSJal (e : Nat) (more : Bool) (d : BitVec 5) (t : BitVec 11) (s : State) : Res :=
  .next (s.inS e more { op := 0x25, d := d.toNat, n := t.toNat })

/-- S_JR (R244): jump to a register. -/
def execSJr (e : Nat) (more : Bool) (a : BitVec 5) (s : State) : Res :=
  .next (s.inS e more { op := 0x26, a := a.toNat })

/-- S_LOOP (R244): hardware loop, count from a register. -/
def execSLoop (e : Nat) (more : Bool) (c : BitVec 1) (a : BitVec 5) (last : BitVec 11) (s : State) : Res :=
  .next (s.inS e more { op := 0x28, m := c.toNat, a := a.toNat, n := last.toNat })

/-- S_LOOPI (R244): hardware loop, immediate count. -/
def execSLoopi (e : Nat) (more : Bool) (c : BitVec 1) (count : BitVec 12) (last : BitVec 11) (s : State) : Res :=
  .next (s.inS e more { op := 0x29, m := c.toNat, a := count.toNat, n := last.toNat })

/-- S_ATOM (R244): atomic group of n + 1 bundles. -/
def execSAtom (e : Nat) (more : Bool) (n : BitVec 3) (s : State) : Res :=
  .next (s.inS e more { op := 0x2A, n := n.toNat })

/-- S_MFC (R244): read a control register. -/
def execSMfc (e : Nat) (more : Bool) (d cr : BitVec 5) (s : State) : Res :=
  .next (s.inS e more { op := 0x30, d := d.toNat, a := cr.toNat })

/-- S_MTC (R244): write a control register. -/
def execSMtc (e : Nat) (more : Bool) (cr a : BitVec 5) (s : State) : Res :=
  .next (s.inS e more { op := 0x31, d := cr.toNat, a := a.toNat })

/-- S_IE (R244): enable interrupts. -/
def execSIe (e : Nat) (more : Bool) (mask : BitVec 4) (s : State) : Res :=
  .next (s.inS e more { op := 0x32, n := mask.toNat })

/-- S_ID (R244): disable interrupts. -/
def execSId (e : Nat) (more : Bool) (mask : BitVec 4) (s : State) : Res :=
  .next (s.inS e more { op := 0x33, n := mask.toNat })

/-- RETI (R244): return from a handler. -/
def execReti (e : Nat) (more : Bool) (s : State) : Res :=
  .next (s.inS e more { op := 0x34 })

/-- S_BXCLR (R244): BEXP to 63. -/
def execSBxclr (e : Nat) (more : Bool) (s : State) : Res :=
  .next (s.inS e more { op := 0x38 })

/-- S_SCALE (R244): BEXP less k. -/
def execSScale (e : Nat) (more : Bool) (d : BitVec 5) (k : BitVec 4) (s : State) : Res :=
  .next (s.inS e more { op := 0x39, d := d.toNat, n := k.toNat })

/-- S_SATCLR (R244): SAT to 0. -/
def execSSatclr (e : Nat) (more : Bool) (s : State) : Res :=
  .next (s.inS e more { op := 0x3A })

/-- T_DONE (R244): tick work complete. -/
def execTDone (e : Nat) (more : Bool) (s : State) : Res :=
  .next (s.inS e more { op := 0x40 })

/-- T_WAIT (R244): wait for the tick or an interrupt. -/
def execTWait (e : Nat) (more : Bool) (s : State) : Res :=
  .next (s.inS e more { op := 0x41 })

/-- T_NOW (R244): slot and tick. -/
def execTNow (e : Nat) (more : Bool) (d : BitVec 5) (s : State) : Res :=
  .next (s.inS e more { op := 0x42, d := d.toNat })

/-- L_NOP (R248): nothing. -/
def execLNop (e : Nat) (more : Bool) (s : State) : Res :=
  .next (s.inL e more {})

/-- L_LD (R248): load 32 bytes. -/
def execLLd (e : Nat) (more : Bool) (d a : BitVec 5) (off : BitVec 15) (s : State) : Res :=
  .next (s.inL e more { op := 0x01, d := d.toNat, a := a.toNat, n := off.toNat })

/-- L_LDP (R248): load 32 bytes, post-increment. -/
def execLLdp (e : Nat) (more : Bool) (d a : BitVec 5) (off : BitVec 15) (s : State) : Res :=
  .next (s.inL e more { op := 0x02, d := d.toNat, a := a.toNat, n := off.toNat })

/-- L_LDS (R248): load 4 bytes. -/
def execLLds (e : Nat) (more : Bool) (d a : BitVec 5) (off : BitVec 15) (s : State) : Res :=
  .next (s.inL e more { op := 0x04, d := d.toNat, a := a.toNat, n := off.toNat })

/-- L_ST (R248): store 32 bytes. -/
def execLSt (e : Nat) (more : Bool) (d a : BitVec 5) (off : BitVec 15) (s : State) : Res :=
  .next (s.inL e more { op := 0x05, d := d.toNat, a := a.toNat, n := off.toNat })

/-- L_STP (R248): store 32 bytes, post-increment. -/
def execLStp (e : Nat) (more : Bool) (d a : BitVec 5) (off : BitVec 15) (s : State) : Res :=
  .next (s.inL e more { op := 0x06, d := d.toNat, a := a.toNat, n := off.toNat })

/-- L_STS (R248): store 4 bytes. -/
def execLSts (e : Nat) (more : Bool) (d a : BitVec 5) (off : BitVec 15) (s : State) : Res :=
  .next (s.inL e more { op := 0x07, d := d.toNat, a := a.toNat, n := off.toNat })

/-- L_LD2 (R248): load two LDM words. -/
def execLLd2 (e : Nat) (more : Bool) (d d2 a b : BitVec 5) (inc : BitVec 2) (s : State) : Res :=
  .next (s.inL e more { op := 0x03, d := d.toNat, m := d2.toNat, a := a.toNat, b := b.toNat, n := inc.toNat })

/-- V_NOP (R250): nothing. -/
def execVNop (e : Nat) (more : Bool) (s : State) : Res :=
  .next (s.inV e more {})

/-- V_ADD (R250): sum. -/
def execVAdd (e : Nat) (more : Bool) (m : BitVec 2) (d a b : BitVec 5) (sat bx : Bool) (s : State) : Res :=
  .next (s.inV e more { op := 0x01, m := m.toNat, d := d.toNat, a := a.toNat, b := b.toNat, sat := sat, bx := bx })

/-- V_SUB (R250): difference. -/
def execVSub (e : Nat) (more : Bool) (m : BitVec 2) (d a b : BitVec 5) (sat bx : Bool) (s : State) : Res :=
  .next (s.inV e more { op := 0x02, m := m.toNat, d := d.toNat, a := a.toNat, b := b.toNat, sat := sat, bx := bx })

/-- V_MUL (R250): product shifted. -/
def execVMul (e : Nat) (more : Bool) (m : BitVec 2) (d a b n : BitVec 5) (sat rnd bx : Bool) (s : State) : Res :=
  .next (s.inV e more { op := 0x03, m := m.toNat, d := d.toNat, a := a.toNat, b := b.toNat, n := n.toNat, sat := sat, rnd := rnd, bx := bx })

/-- V_MIN (R250): signed minimum. -/
def execVMin (e : Nat) (more : Bool) (m : BitVec 2) (d a b : BitVec 5) (bx : Bool) (s : State) : Res :=
  .next (s.inV e more { op := 0x04, m := m.toNat, d := d.toNat, a := a.toNat, b := b.toNat, bx := bx })

/-- V_MAX (R250): signed maximum. -/
def execVMax (e : Nat) (more : Bool) (m : BitVec 2) (d a b : BitVec 5) (bx : Bool) (s : State) : Res :=
  .next (s.inV e more { op := 0x05, m := m.toNat, d := d.toNat, a := a.toNat, b := b.toNat, bx := bx })

/-- V_ABS (R250): absolute value. -/
def execVAbs (e : Nat) (more : Bool) (m : BitVec 2) (d a : BitVec 5) (sat bx : Bool) (s : State) : Res :=
  .next (s.inV e more { op := 0x06, m := m.toNat, d := d.toNat, a := a.toNat, sat := sat, bx := bx })

/-- V_AND (R250): and. -/
def execVAnd (e : Nat) (more : Bool) (m : BitVec 2) (d a b : BitVec 5) (s : State) : Res :=
  .next (s.inV e more { op := 0x07, m := m.toNat, d := d.toNat, a := a.toNat, b := b.toNat })

/-- V_OR (R250): or. -/
def execVOr (e : Nat) (more : Bool) (m : BitVec 2) (d a b : BitVec 5) (s : State) : Res :=
  .next (s.inV e more { op := 0x08, m := m.toNat, d := d.toNat, a := a.toNat, b := b.toNat })

/-- V_XOR (R250): exclusive or. -/
def execVXor (e : Nat) (more : Bool) (m : BitVec 2) (d a b : BitVec 5) (s : State) : Res :=
  .next (s.inV e more { op := 0x09, m := m.toNat, d := d.toNat, a := a.toNat, b := b.toNat })

/-- V_SRA (R250): arithmetic shift right. -/
def execVSra (e : Nat) (more : Bool) (m : BitVec 2) (d a n : BitVec 5) (rnd bx : Bool) (s : State) : Res :=
  .next (s.inV e more { op := 0x0A, m := m.toNat, d := d.toNat, a := a.toNat, n := n.toNat, rnd := rnd, bx := bx })

/-- V_SRL (R250): logical shift right. -/
def execVSrl (e : Nat) (more : Bool) (m : BitVec 2) (d a n : BitVec 5) (s : State) : Res :=
  .next (s.inV e more { op := 0x0B, m := m.toNat, d := d.toNat, a := a.toNat, n := n.toNat })

/-- V_SLA (R250): saturating shift left. -/
def execVSla (e : Nat) (more : Bool) (m : BitVec 2) (d a n : BitVec 5) (bx : Bool) (s : State) : Res :=
  .next (s.inV e more { op := 0x0C, m := m.toNat, d := d.toNat, a := a.toNat, n := n.toNat, bx := bx })

/-- V_SLAR (R250): saturating shift left by a scalar. -/
def execVSlar (e : Nat) (more : Bool) (m : BitVec 2) (d a b : BitVec 5) (bx : Bool) (s : State) : Res :=
  .next (s.inV e more { op := 0x0D, m := m.toNat, d := d.toNat, a := a.toNat, b := b.toNat, bx := bx })

/-- V_CAT (R250): lanes of the double vector. -/
def execVCat (e : Nat) (more : Bool) (m : BitVec 2) (d a b n : BitVec 5) (s : State) : Res :=
  .next (s.inV e more { op := 0x0E, m := m.toNat, d := d.toNat, a := a.toNat, b := b.toNat, n := n.toNat })

/-- V_BCAST (R250): broadcast a scalar. -/
def execVBcast (e : Nat) (more : Bool) (m : BitVec 2) (d a : BitVec 5) (s : State) : Res :=
  .next (s.inV e more { op := 0x0F, m := m.toNat, d := d.toNat, a := a.toNat })

/-- V_CMPGT (R250): compare. -/
def execVCmpgt (e : Nat) (more : Bool) (m : BitVec 2) (d a b : BitVec 5) (s : State) : Res :=
  .next (s.inV e more { op := 0x10, m := m.toNat, d := d.toNat, a := a.toNat, b := b.toNat })

/-- V_SEL (R250): select by the destination. -/
def execVSel (e : Nat) (more : Bool) (m : BitVec 2) (d a b : BitVec 5) (s : State) : Res :=
  .next (s.inV e more { op := 0x11, m := m.toNat, d := d.toNat, a := a.toNat, b := b.toNat })

/-- V_MOV (R250): copy. -/
def execVMov (e : Nat) (more : Bool) (m : BitVec 2) (d a : BitVec 5) (s : State) : Res :=
  .next (s.inV e more { op := 0x12, m := m.toNat, d := d.toNat, a := a.toNat })

/-- V_PACK (R250): narrow. -/
def execVPack (e : Nat) (more : Bool) (m : BitVec 2) (d a b : BitVec 5) (bx : Bool) (s : State) : Res :=
  .next (s.inV e more { op := 0x13, m := m.toNat, d := d.toNat, a := a.toNat, b := b.toNat, bx := bx })

/-- V_UNPK (R250): widen. -/
def execVUnpk (e : Nat) (more : Bool) (m : BitVec 2) (d a n : BitVec 5) (s : State) : Res :=
  .next (s.inV e more { op := 0x14, m := m.toNat, d := d.toNat, a := a.toNat, n := n.toNat })

/-- V_EVEN (R250): even lanes. -/
def execVEven (e : Nat) (more : Bool) (m : BitVec 2) (d a b : BitVec 5) (s : State) : Res :=
  .next (s.inV e more { op := 0x15, m := m.toNat, d := d.toNat, a := a.toNat, b := b.toNat })

/-- V_ODD (R250): odd lanes. -/
def execVOdd (e : Nat) (more : Bool) (m : BitVec 2) (d a b : BitVec 5) (s : State) : Res :=
  .next (s.inV e more { op := 0x16, m := m.toNat, d := d.toNat, a := a.toNat, b := b.toNat })

/-- V_CLIPU (R250): clip to n bits. -/
def execVClipu (e : Nat) (more : Bool) (m : BitVec 2) (d a n : BitVec 5) (s : State) : Res :=
  .next (s.inV e more { op := 0x17, m := m.toNat, d := d.toNat, a := a.toNat, n := n.toNat })

/-- M_NOP (R251): nothing. -/
def execMNop (e : Nat) (more : Bool) (s : State) : Res :=
  .next (s.inM e more {})

/-- M_MAC (R251): multiply and add. -/
def execMMac (e : Nat) (more : Bool) (ad : BitVec 2) (a b : BitVec 5) (pair bx : Bool) (s : State) : Res :=
  .next (s.inM e more { op := 0x01, d := ad.toNat, a := a.toNat, b := b.toNat, sat := pair, bx := bx })

/-- M_MSU (R251): multiply and subtract. -/
def execMMsu (e : Nat) (more : Bool) (ad : BitVec 2) (a b : BitVec 5) (pair bx : Bool) (s : State) : Res :=
  .next (s.inM e more { op := 0x02, d := ad.toNat, a := a.toNat, b := b.toNat, sat := pair, bx := bx })

/-- M_MUL (R251): multiply. -/
def execMMul (e : Nat) (more : Bool) (ad : BitVec 2) (a b : BitVec 5) (pair bx : Bool) (s : State) : Res :=
  .next (s.inM e more { op := 0x03, d := ad.toNat, a := a.toNat, b := b.toNat, sat := pair, bx := bx })

/-- M_MACL (R251): multiply by one lane and add. -/
def execMMacl (e : Nat) (more : Bool) (ad : BitVec 2) (a b : BitVec 5) (j : BitVec 4) (pair bx : Bool) (s : State) : Res :=
  .next (s.inM e more { op := 0x04, d := ad.toNat, a := a.toNat, b := b.toNat, n := j.toNat, sat := pair, bx := bx })

/-- M_MULL (R251): multiply by one lane. -/
def execMMull (e : Nat) (more : Bool) (ad : BitVec 2) (a b : BitVec 5) (j : BitVec 4) (pair bx : Bool) (s : State) : Res :=
  .next (s.inM e more { op := 0x05, d := ad.toNat, a := a.toNat, b := b.toNat, n := j.toNat, sat := pair, bx := bx })

/-- M_CLR (R251): clear an accumulator. -/
def execMClr (e : Nat) (more : Bool) (ad : BitVec 2) (s : State) : Res :=
  .next (s.inM e more { op := 0x06, d := ad.toNat })

/-- M_EXT (R251): extract. -/
def execMExt (e : Nat) (more : Bool) (d : BitVec 5) (ac : BitVec 2) (n : BitVec 6) (bx : Bool) (s : State) : Res :=
  .next (s.inM e more { op := 0x07, d := d.toNat, a := ac.toNat, n := n.toNat, bx := bx })

/-- M_EXTR (R251): extract by a scalar. -/
def execMExtr (e : Nat) (more : Bool) (d : BitVec 5) (ac : BitVec 2) (b : BitVec 5) (bx : Bool) (s : State) : Res :=
  .next (s.inM e more { op := 0x08, d := d.toNat, a := ac.toNat, b := b.toNat, bx := bx })

/-- M_ACC (R251): add accumulators. -/
def execMAcc (e : Nat) (more : Bool) (ad ac : BitVec 2) (bx : Bool) (s : State) : Res :=
  .next (s.inM e more { op := 0x09, d := ad.toNat, a := ac.toNat, bx := bx })

/-- M_SAVE (R251): save part of an accumulator. -/
def execMSave (e : Nat) (more : Bool) (d : BitVec 5) (ac p : BitVec 2) (s : State) : Res :=
  .next (s.inM e more { op := 0x0A, d := d.toNat, a := ac.toNat, m := p.toNat })

/-- M_REST (R251): restore part of an accumulator. -/
def execMRest (e : Nat) (more : Bool) (ac : BitVec 2) (d : BitVec 5) (p : BitVec 2) (s : State) : Res :=
  .next (s.inM e more { op := 0x0B, d := ac.toNat, a := d.toNat, m := p.toNat })

end Sys2Proof.Machine
end

