-- ==== Sys2Proof/Machine/Output.lean ====
section
/-! DEFINITION. Output units as they leave (R71–R76, R136, R142, R151, R156, R157, R161, R171, R181, R185, R434): their
due times, what counts as late, substitute content, and what goes on the wire. -/

namespace Sys2Proof.Machine

/-! ## Due times and misses (R71–R74) -/

/-- The input reference time of a unit in ns: the stamp of the latest input unit it depends on that arrived, else its place in the
output raster (R73). -/
def unitRef (u : UnitTx) : Nat :=
  match u.deps.filterMap (fun d => d.2) with
  | [] => u.place
  | t :: l => l.foldl max t

/-- Does the unit leave after its due time (R73)? A ROUTE's and a CONVERT's is the reference time and the bound, a SYNC's and a
COMPOSE's its place in the raster; so is that of a unit for which no input arrived. -/
def State.unitLate (s : State) (c : Contract) (u : UnitTx) : Bool :=
  if c.d.typ = 3 ∨ c.d.typ = 4 ∨ u.deps.all (fun d => d.2.isNone) then decide (u.place < u.at_)
  else
    let n := rateN s.rate * s.slots
    decide (unitRef u * n + c.bound * rateD s.rate * 1000000000 < u.at_ * n)

/-- Does its input reference time fall before the boundary of activation, so that it is no output unit of the contract (R71)? -/
def State.unitEarly (s : State) (c : Contract) (u : UnitTx) : Bool := decide ((unitRef u * rateN s.rate : Int) < c.since)

/-- Does a unit depend on a lost source for which no backup carries (R76, R158)? -/
def Contract.onLost (c : Contract) (u : UnitTx) : Bool :=
  u.deps.any (fun d => c.lost.contains d.1 && !(c.d.subst == 2 && c.onBackup.contains d.1))

/-- Does a unit follow from input that did not conform (R72, R74)? -/
def Contract.offConf (c : Contract) (u : UnitTx) : Bool :=
  u.deps.any (fun d => d.2.any (fun t => c.nonconf.contains (d.1, t)))

/-- Is a late unit of the contract counted (R36, R74, R76)? -/
def State.countsLate (s : State) (c : Contract) (u : UnitTx) : Bool :=
  !c.offConf u && s.tick.stepped != some s.now &&
  (match c.st with
   | .active => true
   | .starved => !(c.d.subst == 3 && c.onLost u)
   | .held => c.holds.any (fun x => x.1.counts)
   | _ => false)

/-! ## Substitute content (R55, R75, R156, R157, R161) -/

def State.holdBufOf (s : State) (k : Nat) : HoldBuf := SMap.get (fun _ => ({} : HoldBuf)) s.strm.holdBuf k
def State.setHoldBuf (s : State) (k : Nat) (h : HoldBuf) : State :=
  { s with strm := { s.strm with holdBuf := SMap.set (fun _ => ({} : HoldBuf)) s.strm.holdBuf k h } }

/-- Packets of the 48-sample fade (R140, R156). -/
def fadePackets (fmt : Nat) : Nat := if fmtPtime fmt = 0 then 1 else 8

/-- The line of the held frame; black where no frame was ever complete (R156, DESIGN CHOICE, notes/assumptions/109.md). -/
def HoldBuf.lineOf (h : HoldBuf) (fmt line : Nat) : List Byte :=
  if h.frame.isEmpty then Config.blackLine fmt line else SMap.get (fun _ => Config.blackLine fmt line) h.frame line

/-- What a contract's policy puts in the place of a unit, of which `got` arrived (R156): none where nothing is sent. -/
def substContent (pol : Nat) (e : EndPt) (h : HoldBuf) (line : Nat) (got : List Byte) : Option (List Byte) :=
  let some' := fun (b : List Byte) => if b.isEmpty then none else some b
  if pol = 3 then (if got.isEmpty && e.kind == 1 then some (Config.blackLine e.format line) else some' got)
  else if fmtAudio e.format then
    some (if h.gone < fadePackets e.format then Config.fade e.format (SMap.get (fun _ => []) h.frame 0) h.gone
      else Config.silence e.format)
  else if fmtCarriage e.format = 7 then
    (if pol = 1 then none else some' (Config.timecode (SMap.get (fun _ => []) h.frame 0) (h.gone + 1)))
  else some (if pol = 1 then Config.blackLine e.format line else h.lineOf e.format line)

/-- An output's hold buffer after a unit: real content of a frame whose every line was real becomes the held frame (R157); for what is
no line the latest content is kept. -/
def HoldBuf.after (h : HoldBuf) (e : EndPt) (u : UnitTx) (sub : Bool) : HoldBuf :=
  let video := !(fmtAudio e.format || fmtCarriage e.format == 7)
  if sub then { h with cur := [], whole := u.last, gone := h.gone + 1 }
  else if !video then { h with frame := SMap.set (fun _ => []) h.frame 0 u.payload, gone := 0 }
  else
    let cur := SMap.set (fun _ => []) h.cur u.line u.payload
    if u.last then { frame := if h.whole then cur else h.frame, cur := [], whole := true, gone := 0 }
    else { h with cur := cur, gone := 0 }

/-- Does the unit carry substitute content: the contract or the egress is held, its place on SDI has passed, or its source is lost and
the input missing, or missing since (R55, R75, R156, R157, R185)? -/
def State.substituted (s : State) (i dst : Nat) (u : UnitTx) (h : HoldBuf) (late : Bool) : Bool :=
  let c := s.contract i
  let gap := u.deps.any (fun d => c.lost.contains d.1 && d.2.isNone) || h.gone != 0
  c.st == .held || (match s.roleOf i dst with | some r => s.egressHeld r.1 | none => false) ||
  (late && (c.d.dsts.getD dst {}).kind == 1) || (c.st == .starved && c.onLost u && (c.d.subst == 3 || gap))

/-! ## On the wire (R136, R142, R151) -/

/-- Tick, slot and nanoseconds of a device time in ns (R17, R151). -/
def State.stampOf (s : State) (ns : Nat) : Nat × Nat × Nat :=
  let len : Int := rateD s.rate * 1000000000
  let off : Int := (ns * rateN s.rate : Int) - s.tick.edge
  let r := (off % len).toNat
  let slot := r * s.slots / (rateD s.rate * 1000000000)
  (((s.now : Int) + off / len).toNat, slot, r / rateN s.rate - slotStartNs s.rate s.slots slot)

/-- The line-packets of an output unit that the egress consumes, as their readers see them (R151). -/
def State.unitPkts (s : State) (i dst fmt : Nat) (u : UnitTx) (sub : Bool) (data : List Byte) : List Emit :=
  let t := s.stampOf (unitRef u)
  (segments fmt data.length).map (fun g => .linePkt (LinePkt.bytes
    { len := g.1, seg := g.2.1, first := g.2.2.1, data := (data.drop g.2.2.2).take g.1, tick := t.1, slot := t.2.1, ns := t.2.2,
      line := if fmtAudio fmt then 0 else u.line, ctx := i + 4096 * dst, flags := lflags u.first u.last u.second sub false }))

/-- Active lines of a raster before a line (R142). -/
def activeBefore (r line : Nat) : Nat := (rasterFields r).foldl (fun a f => a + (min (f.2 + 1) line - f.1)) 0

/-- Nominal departure in ns of packet `j` of the `n` of a line: over the active lines, or for type NL over the whole frame (R142), from
the default TROFFSET (R140). -/
def paceNs (f : Flow) (u : UnitTx) (j n : Nat) : Nat :=
  let r := fmtRaster f.format
  let per := rateD (fmtRate f.format) * 1000000000
  let rn := rateN (fmtRate f.format)
  if !fmtHasRaster f.format then u.place
  else if f.sender = 1 then
    u.frame + Config.trOffset f.format + (activeBefore r u.line * n + j) * per / (rn * (rasterHeight r * n))
  else match rasterGeom r with
    | some (_, tot, a, _) => u.frame + Config.trOffset f.format + ((u.line - a) * n + j) * per / (rn * (tot * n))
    | none => u.place

/-- The RTP timestamp of a unit whose essence the device originates: the media clock at the frame's start, 90 kHz, or 48 kHz for sound
(R20, R142; the clocks of ST 2110-10, PRESUMED, notes/assumptions/108.md). -/
def rtpStamp (fmt : Nat) (u : UnitTx) : Nat :=
  (if fmtAudio fmt then u.frameNo * (if fmtPtime fmt = 0 then 48 else 6)
   else u.frameNo * rateD (fmtRate fmt) * 90000 / rateN (fmtRate fmt)) % 2 ^ 32

/-- Does a ROUTE keep its source's RTP timestamps and sequence numbers (R142)? -/
def keepsRtp (c : Contract) (f : Flow) (u : UnitTx) : Option (Nat × Nat) :=
  if c.d.typ = 1 ∧ ¬ f.restamp then u.rtp else none

/-- Does a port send nothing: a transmitter idle without its PLL (R405), or its transmit SA exhausted and none in its place (R389)? -/
def State.portStopped (s : State) (p : Nat) : Bool :=
  (portLanes p (s.port p).kind).any (fun l => (s.laneDyn l).idle) || s.sec.sas.any (fun a => a.tx && a.port == p && a.used && a.dead)

/-- Does an output send nothing: its SDI port, or the ports of all its flow's legs? -/
def State.txStopped (s : State) (e : EndPt) : Bool :=
  if e.kind = 1 then s.portStopped e.index
  else if e.kind = 2 then !(s.flow (1024 + e.index)).legList.isEmpty && (s.flow (1024 + e.index)).legList.all (fun l => s.portStopped l.port)
  else false

/-- The packets of a unit on an egress flow's legs (R142). The sequence starts from the ID and the activation tick of the
contract that owns the egress. -/
def State.sendRtp (s : State) (i dst : Nat) (u : UnitTx) (data : List Byte) : State :=
  let c := s.contract i
  let e := c.d.dsts.getD dst {}
  let f := s.flow (1024 + e.index)
  let own := match s.roleOf i dst with | some r => r.1 / 16 | none => i
  let id := (s.contract own).id own
  let prev := SMap.get (fun _ => (0, 0)) s.strm.rtp e.index
  let kept := keepsRtp c f u
  let n := if kept.isSome ∨ ¬ fmtHasRaster f.format ∨ fmtCarriage f.format = 7 then 1 else fmtPackets f.format f.block
  let size := max 1 (ceilDiv data.length n)
  let base := if prev.1 = id then prev.2 else Config.initSeq id (s.contract own).actAt
  let hdr := fun (j : Nat) => match kept with | some k => k | none => (rtpStamp f.format u, base + j)
  let pkts := (f.legList.filter (fun l => !s.portStopped l.port)).flatMap (fun l => (List.range n).map (fun j =>
    Emit.rtp l.port (paceNs f u j n) (hdr j).1 ((hdr j).2 % 2 ^ 32) f.ssrc f.pt ((data.drop (j * size)).take size)))
  let next := match kept with | some k => k.2 + 1 | none => base + n
  { s with out := s.out ++ pkts,
           strm := { s.strm with rtp := SMap.set (fun _ => (0, 0)) s.strm.rtp e.index (id, next) } }

/-- Is the contract's output withheld: muted in a twin, or ON_AIR out of tick (R433, R444)? -/
def State.withheld (s : State) (c : Contract) : Bool :=
  s.isSet Reg.TWIN.STATUS.MUTED || c.muted || (s.mesh.withheld && c.d.cls == 0)

/-- A unit's content leaves: a muted output sends no IP packets, an SDI output keeps transmitting (R433). -/
def State.sendUnit (s : State) (i dst : Nat) (u : UnitTx) (sub : Bool) (data : List Byte) : State :=
  let c := s.contract i
  let e := c.d.dsts.getD dst {}
  let s1 : State := { s with out := s.out ++ s.unitPkts i dst e.format u sub data }
  if e.kind = 1 then s1.emit (.sdiLine e.index u.line data u.anc (Config.payloadId e.format) (Config.lineCrc data))
  else if e.kind = 2 ∧ ¬ s.withheld c then s1.sendRtp i dst u data
  else s1

/-- A unit of an output enters the digest's sums: `last` ends its frame (R434). -/
def State.crcUnit (s : State) (key : Nat) (payload : List Byte) (last : Bool) : State :=
  let o := SMap.get (fun _ => ({} : OutCrc)) s.twin.crcs key
  let start := if o.cur.isEmpty then s.now else o.start
  let bytes := o.cur ++ payload
  let o1 : OutCrc := if last then
      ⟨[], 0, match o.done with | some d => some (Config.crc32 d.1 bytes, d.2) | none => some (Config.crc32 0 bytes, start)⟩
    else { o with cur := bytes, start := start }
  { s with twin := { s.twin with crcs := SMap.set (fun _ => ({} : OutCrc)) s.twin.crcs key o1 } }

/-- The same for a destination entry: outputs are the egress flows and the SDI ports (R434). -/
def State.crcOut (s : State) (e : EndPt) (data : List Byte) (last : Bool) : State :=
  if e.kind = 1 then s.crcUnit (0x400 + e.index) data last
  else if e.kind = 2 then s.crcUnit e.index data last else s

/-- A frame of a running transition has left its egress (R185). -/
def State.frameSent (s : State) (i dst : Nat) (last : Bool) : State :=
  match s.roleOf i dst with
  | some (k, _) => if last then s.updEgress k (fun e => { e with running := e.running - 1 }) else s
  | none => s

/-- A unit of content or substitute content goes out: counted, into the digest, on the wire unless nothing can be sent there (R75, R156,
R389, R405, R434). -/
def State.putUnit (s : State) (i dst : Nat) (u : UnitTx) (late sub : Bool) (content : Option (List Byte)) : State :=
  let c := s.contract i
  let e := c.d.dsts.getD dst {}
  let s1 := (s.updContract i (fun c => { c with sent := c.sent + 1 })).frameSent i dst u.last
  let s2 := match content with
    | some data => if s.txStopped e then s1.crcOut e data u.last else (s1.crcOut e data u.last).sendUnit i dst u sub data
    | none => s1
  if s.withheld c || s.txStopped e then s2 else s2.emit (.unit i dst u.num (if sub then 2 else if late then 1 else 0))

/-- A unit of destination entry `dst` departs. A late one counts a miss and is sent as soon as it is ready, but on SDI the substitute
content goes in its place; one due while its output can send nothing is late (R389, R405); what depends on a lost source, and what a held contract sends,
is substitute content; the units of the chain that holds the PRESET role for their frame end at the egress point (R171, R181). A
TRANSFER's bytes count against its rate (R73). -/
def State.unitSend (s : State) (i dst : Nat) (u : UnitTx) : Res :=
  let c := s.contract i
  let e := c.d.dsts.getD dst {}
  if !c.runs then .next s
  else if c.d.typ = 5 then .next (s.updContract i (fun c => { c with moved := c.moved + u.payload.length }))
  else if s.unitEarly c u then .next s
  else
    let off := s.isPresetAt i dst (u.frame * rateN s.rate)
    let late := s.unitLate c u || (!off && s.txStopped e)
    let h := s.holdBufOf (egKey i dst)
    let sub := s.substituted i dst u h late
    let got := if late && e.kind == 1 then [] else u.payload
    let content := if sub then substContent c.d.subst e h u.line got else some u.payload
    let s1 := (if late && s.countsLate c u then s.countMiss i dst else s).setHoldBuf (egKey i dst) (h.after e u sub)
    if off then .next s1 else .next (s1.putUnit i dst u late sub content)

/-- OUTPUT_UNIT_SEND (R71–R76). -/
def execOutputUnitSend (i dst num at_ : Nat) (last : Bool) (payload : List Byte) (b : UnitBody) (s : State) : Res :=
  s.unitSend i dst { toUnitBody := b, num := num, at_ := at_, last := last, payload := payload }

end Sys2Proof.Machine
end

