-- ==== Sys2Proof/Machine/Dispatch.lean ====
section
/-! DEFINITION. The dispatch of a command to its meaning: one arm per constructor of `Instr`. -/

namespace Sys2Proof.Machine

def exec (i : Instr) (s : State) : Host.Outcome State Fault Refusal :=
  match i with
  | .devQuery h p => Sys2Proof.Machine.execDevQuery h p s
  | .devCaps h p => Sys2Proof.Machine.execDevCaps h p s
  | .devReset h p => Sys2Proof.Machine.execDevReset h p s
  | .faultRead h p => Sys2Proof.Machine.execFaultRead h p s
  | .faultClear h p => Sys2Proof.Machine.execFaultClear h p s
  | .modeSet h p => Sys2Proof.Machine.execModeSet h p s
  | .modeGet h p => Sys2Proof.Machine.execModeGet h p s
  | .postureSet h p => Sys2Proof.Machine.execPostureSet h p s
  | .domainPower h p => Sys2Proof.Machine.execDomainPower h p s
  | .oppointSet h p => Sys2Proof.Machine.execOppointSet h p s
  | .supplyStatus h p => Sys2Proof.Machine.execSupplyStatus h p s
  | .clockMeasure h p => Sys2Proof.Machine.execClockMeasure h p s
  | .clockStatus h p => Sys2Proof.Machine.execClockStatus h p s
  | .contractPropose h p => Sys2Proof.Machine.execContractPropose h p s
  | .contractActivate h p => Sys2Proof.Machine.execContractActivate h p s
  | .contractRelease h p => Sys2Proof.Machine.execContractRelease h p s
  | .contractQuery h p => Sys2Proof.Machine.execContractQuery h p s
  | .ledgerSnapshot h p => Sys2Proof.Machine.execLedgerSnapshot h p s
  | .descriptorRegister h p => Sys2Proof.Machine.execDescriptorRegister h p s
  | .flowAdd h p => Sys2Proof.Machine.execFlowAdd h p s
  | .flowRemove h p => Sys2Proof.Machine.execFlowRemove h p s
  | .portConfig h p => Sys2Proof.Machine.execPortConfig h p s
  | .substPolicy h p => Sys2Proof.Machine.execSubstPolicy h p s
  | .refSelect h p => Sys2Proof.Machine.execRefSelect h p s
  | .tickStatus h p => Sys2Proof.Machine.execTickStatus h p s
  | .take h p => Sys2Proof.Machine.execTake h p s
  | .presetArm h p => Sys2Proof.Machine.execPresetArm h p s
  | .presetDisarm h p => Sys2Proof.Machine.execPresetDisarm h p s
  | .gpiBind h p => Sys2Proof.Machine.execGpiBind h p s
  | .tallySet h p => Sys2Proof.Machine.execTallySet h p s
  | .takeAbort h p => Sys2Proof.Machine.execTakeAbort h p s
  | .engineLoad h p => Sys2Proof.Machine.execEngineLoad h p s
  | .engineStart h p => Sys2Proof.Machine.execEngineStart h p s
  | .engineStop h p => Sys2Proof.Machine.execEngineStop h p s
  | .engineStatus h p => Sys2Proof.Machine.execEngineStatus h p s
  | .imageStage h p => Sys2Proof.Machine.execImageStage h p s
  | .moltPlan h p => Sys2Proof.Machine.execMoltPlan h p s
  | .moltCommit h p => Sys2Proof.Machine.execMoltCommit h p s
  | .scrubStatus h p => Sys2Proof.Machine.execScrubStatus h p s
  | .protectMapSet h p => Sys2Proof.Machine.execProtectMapSet h p s
  | .eccStatus h p => Sys2Proof.Machine.execEccStatus h p s
  | .bucketConfig h p => Sys2Proof.Machine.execBucketConfig h p s
  | .keyLoad h p => Sys2Proof.Machine.execKeyLoad h p s
  | .keyRetire h p => Sys2Proof.Machine.execKeyRetire h p s
  | .debugAuthChallenge h p => Sys2Proof.Machine.execDebugAuthChallenge h p s
  | .debugAuthResponse h p => Sys2Proof.Machine.execDebugAuthResponse h p s
  | .macsecSa h p => Sys2Proof.Machine.execMacsecSa h p s
  | .laneConfig h p => Sys2Proof.Machine.execLaneConfig h p s
  | .laneState h p => Sys2Proof.Machine.execLaneState h p s
  | .prbsStart h p => Sys2Proof.Machine.execPrbsStart h p s
  | .prbsRead h p => Sys2Proof.Machine.execPrbsRead h p s
  | .marginScan h p => Sys2Proof.Machine.execMarginScan h p s
  | .twinPair h p => Sys2Proof.Machine.execTwinPair h p s
  | .twinStatus h p => Sys2Proof.Machine.execTwinStatus h p s
  | .meshRouteSet h p => Sys2Proof.Machine.execMeshRouteSet h p s
  | .meshStatus h p => Sys2Proof.Machine.execMeshStatus h p s
  | .instarSet h p => Sys2Proof.Machine.execInstarSet h p s
  | .bistRun h p => Sys2Proof.Machine.execBistRun h p s
  | .bistResult h p => Sys2Proof.Machine.execBistResult h p s
  | .repairFuse h p => Sys2Proof.Machine.execRepairFuse h p s
  | .bootRecord h p => Sys2Proof.Machine.execBootRecord h p s
  | .bootConfirm h p => Sys2Proof.Machine.execBootConfirm h p s
  | .imageWrite h p => Sys2Proof.Machine.execImageWrite h p s
  | .slotSelect h p => Sys2Proof.Machine.execSlotSelect h p s
  | .sqTailWrite n v => Sys2Proof.Machine.execSqTailWrite n v s
  | .cqHeadWrite n v => Sys2Proof.Machine.execCqHeadWrite n v s
  | .entryFetch n rx blk bad => Sys2Proof.Machine.execEntryFetch n rx blk bad s
  | .replyWrite i1 late => Sys2Proof.Machine.execReplyWrite i1 late s
  | .ringEnable n => Sys2Proof.Machine.execRingEnable n s
  | .ringDisable n => Sys2Proof.Machine.execRingDisable n s
  | .ringIdle n => Sys2Proof.Machine.execRingIdle n s
  | .ringLengthWrite n v => Sys2Proof.Machine.execRingLengthWrite n v s
  | .ringLengthApply n => Sys2Proof.Machine.execRingLengthApply n s
  | .ringCancel n => Sys2Proof.Machine.execRingCancel n s
  | .ringBaseWrite n r v => Sys2Proof.Machine.execRingBaseWrite n r v s
  | .spiReadStatus => Sys2Proof.Machine.execSpiReadStatus s
  | .spiWriteSub x data => Sys2Proof.Machine.execSpiWriteSub x data s
  | .spiReadReply full => Sys2Proof.Machine.execSpiReadReply full s
  | .spiWriteBuf off data => Sys2Proof.Machine.execSpiWriteBuf off data s
  | .spiReadBuf off len => Sys2Proof.Machine.execSpiReadBuf off len s
  | .forwardedCommandReceive op h p => Sys2Proof.Machine.execForwardedCommandReceive op h p s
  | .forwardedReplyReceive src seq status eff result bufs => Sys2Proof.Machine.execForwardedReplyReceive src seq status eff result bufs s
  | .forwardTimeout dst seq => Sys2Proof.Machine.execForwardTimeout dst seq s
  | .frameForward k ty dst f => Sys2Proof.Machine.execFrameForward k ty dst f s
  | .twinCommandReceive op h p floor => Sys2Proof.Machine.execTwinCommandReceive op h p floor s
  | .twinCommandTimeout seq => Sys2Proof.Machine.execTwinCommandTimeout seq s
  | .coreWatchdogExpiry core => Sys2Proof.Machine.execCoreWatchdogExpiry core s
  | .tickBoundary e => Sys2Proof.Machine.execTickBoundary e s
  | .slotStart => Sys2Proof.Machine.execSlotStart s
  | .tickNumLoRead ns => Sys2Proof.Machine.execTickNumLoRead ns s
  | .ptpSyncReceive port m => Sys2Proof.Machine.execPtpSyncReceive port m s
  | .ptpAnnounceReceive port domain m => Sys2Proof.Machine.execPtpAnnounceReceive port domain m s
  | .ptpReferenceLost at_ => Sys2Proof.Machine.execPtpReferenceLost at_ s
  | .analogReferenceLost i1 => Sys2Proof.Machine.execAnalogReferenceLost i1 s
  | .dolmetReferenceLost k => Sys2Proof.Machine.execDolmetReferenceLost k s
  | .analogSyncAppear i1 fmt frate => Sys2Proof.Machine.execAnalogSyncAppear i1 fmt frate s
  | .referenceOutOfRange src at_ => Sys2Proof.Machine.execReferenceOutOfRange src at_ s
  | .acquisitionCountMet => Sys2Proof.Machine.execAcquisitionCountMet s
  | .revertToEntry a e => Sys2Proof.Machine.execRevertToEntry a e s
  | .holdoverLimitExpiry => Sys2Proof.Machine.execHoldoverLimitExpiry s
  | .refSelectApply => Sys2Proof.Machine.execRefSelectApply s
  | .stepApply => Sys2Proof.Machine.execStepApply s
  | .admissionBatch votes => Sys2Proof.Machine.execAdmissionBatch votes s
  | .xdevProposalReceive owner id n dry desc => Sys2Proof.Machine.execXdevProposalReceive owner id n dry desc s
  | .xdevVoteReceive src id yes => Sys2Proof.Machine.execXdevVoteReceive src id yes s
  | .xdevDecision => Sys2Proof.Machine.execXdevDecision s
  | .xdevCommitReceive owner id => Sys2Proof.Machine.execXdevCommitReceive owner id s
  | .xdevAbortReceive owner id => Sys2Proof.Machine.execXdevAbortReceive owner id s
  | .xdevOwnerQuery => Sys2Proof.Machine.execXdevOwnerQuery s
  | .xdevQueryReceive src id => Sys2Proof.Machine.execXdevQueryReceive src id s
  | .xdevQueryTimeout => Sys2Proof.Machine.execXdevQueryTimeout s
  | .contractActivation => Sys2Proof.Machine.execContractActivation s
  | .actLimitExpiry => Sys2Proof.Machine.execActLimitExpiry s
  | .contractReleaseApply => Sys2Proof.Machine.execContractReleaseApply s
  | .releasingComplete i1 => Sys2Proof.Machine.execReleasingComplete i1 s
  | .holdEnd => Sys2Proof.Machine.execHoldEnd s
  | .outputUnitSend i1 dst num at_ last payload u => Sys2Proof.Machine.execOutputUnitSend i1 dst num at_ last payload u s
  | .postureApply => Sys2Proof.Machine.execPostureApply s
  | .sdiSignalDetectDrop port => Sys2Proof.Machine.execSdiSignalDetectDrop port s
  | .sdiTrsTimeout port => Sys2Proof.Machine.execSdiTrsTimeout port s
  | .flowLossTimeout i1 => Sys2Proof.Machine.execFlowLossTimeout i1 s
  | .legLossTimeout i1 leg => Sys2Proof.Machine.execLegLossTimeout i1 leg s
  | .sdiLineReceive port x => Sys2Proof.Machine.execSdiLineReceive port x s
  | .ipPacketReceive port i1 x => Sys2Proof.Machine.execIpPacketReceive port i1 x s
  | .sdiInputLock port rate fmt pid => Sys2Proof.Machine.execSdiInputLock port rate fmt pid s
  | .sourceResume i1 k => Sys2Proof.Machine.execSourceResume i1 k s
  | .backupSwitch => Sys2Proof.Machine.execBackupSwitch s
  | .moduleInsert q => Sys2Proof.Machine.execModuleInsert q s
  | .moduleRemove q => Sys2Proof.Machine.execModuleRemove q s
  | .moduleInitDone q read answers r => Sys2Proof.Machine.execModuleInitDone q read answers r s
  | .igmpQueryReceive port => Sys2Proof.Machine.execIgmpQueryReceive port s
  | .arpRequestReceive port kind ip => Sys2Proof.Machine.execArpRequestReceive port kind ip s
  | .xbarParityFault e => Sys2Proof.Machine.execXbarParityFault e s
  | .linePacketTransfer src dst sched x => Sys2Proof.Machine.execLinePacketTransfer src dst sched x s
  | .portConfigApply => Sys2Proof.Machine.execPortConfigApply s
  | .flowAddApply => Sys2Proof.Machine.execFlowAddApply s
  | .flowRemoveApply => Sys2Proof.Machine.execFlowRemoveApply s
  | .substPolicyApply => Sys2Proof.Machine.execSubstPolicyApply s
  | .runaheadStart => Sys2Proof.Machine.execRunaheadStart s
  | .takeCutoff => Sys2Proof.Machine.execTakeCutoff s
  | .takeLanding => Sys2Proof.Machine.execTakeLanding s
  | .gpiEdgeConfirm g tick slot rise => Sys2Proof.Machine.execGpiEdgeConfirm g tick slot rise s
  | .twinTakeReceive id dst tick trk abort => Sys2Proof.Machine.execTwinTakeReceive id dst tick trk abort s
  | .twinTakeAnswerReceive id dst tick abort accept => Sys2Proof.Machine.execTwinTakeAnswerReceive id dst tick abort accept s
  | .twinTakeAnswerTimeout id dst tick abort => Sys2Proof.Machine.execTwinTakeAnswerTimeout id dst tick abort s
  | .twinTakeConfirmReceive id dst tick abort => Sys2Proof.Machine.execTwinTakeConfirmReceive id dst tick abort s
  | .twinTakeWithdrawReceive id dst tick abort => Sys2Proof.Machine.execTwinTakeWithdrawReceive id dst tick abort s
  | .presetArmApply => Sys2Proof.Machine.execPresetArmApply s
  | .presetDisarmApply => Sys2Proof.Machine.execPresetDisarmApply s
  | .tallySetApply => Sys2Proof.Machine.execTallySetApply s
  | .gpiBindApply => Sys2Proof.Machine.execGpiBindApply s
  | .sNop e more => Sys2Proof.Machine.execSNop e more s
  | .sAdd e more d a b => Sys2Proof.Machine.execSAdd e more d a b s
  | .sSub e more d a b => Sys2Proof.Machine.execSSub e more d a b s
  | .sAnd e more d a b => Sys2Proof.Machine.execSAnd e more d a b s
  | .sOr e more d a b => Sys2Proof.Machine.execSOr e more d a b s
  | .sXor e more d a b => Sys2Proof.Machine.execSXor e more d a b s
  | .sSll e more d a b => Sys2Proof.Machine.execSSll e more d a b s
  | .sSrl e more d a b => Sys2Proof.Machine.execSSrl e more d a b s
  | .sSra e more d a b => Sys2Proof.Machine.execSSra e more d a b s
  | .sMul e more d a b => Sys2Proof.Machine.execSMul e more d a b s
  | .sMin e more d a b => Sys2Proof.Machine.execSMin e more d a b s
  | .sMax e more d a b => Sys2Proof.Machine.execSMax e more d a b s
  | .sSlt e more d a b => Sys2Proof.Machine.execSSlt e more d a b s
  | .sSltu e more d a b => Sys2Proof.Machine.execSSltu e more d a b s
  | .sAddi e more d a imm => Sys2Proof.Machine.execSAddi e more d a imm s
  | .sAndi e more d a imm => Sys2Proof.Machine.execSAndi e more d a imm s
  | .sOri e more d a imm => Sys2Proof.Machine.execSOri e more d a imm s
  | .sXori e more d a imm => Sys2Proof.Machine.execSXori e more d a imm s
  | .sSlli e more d a n => Sys2Proof.Machine.execSSlli e more d a n s
  | .sSrli e more d a n => Sys2Proof.Machine.execSSrli e more d a n s
  | .sSrai e more d a n => Sys2Proof.Machine.execSSrai e more d a n s
  | .sRsh e more d a n => Sys2Proof.Machine.execSRsh e more d a n s
  | .sLi e more d imm => Sys2Proof.Machine.execSLi e more d imm s
  | .sLui e more d imm => Sys2Proof.Machine.execSLui e more d imm s
  | .sBeq e more a b t => Sys2Proof.Machine.execSBeq e more a b t s
  | .sBne e more a b t => Sys2Proof.Machine.execSBne e more a b t s
  | .sBlt e more a b t => Sys2Proof.Machine.execSBlt e more a b t s
  | .sBge e more a b t => Sys2Proof.Machine.execSBge e more a b t s
  | .sJ e more t => Sys2Proof.Machine.execSJ e more t s
  | .sJal e more d t => Sys2Proof.Machine.execSJal e more d t s
  | .sJr e more a => Sys2Proof.Machine.execSJr e more a s
  | .sLoop e more c a last => Sys2Proof.Machine.execSLoop e more c a last s
  | .sLoopi e more c count last => Sys2Proof.Machine.execSLoopi e more c count last s
  | .sAtom e more n => Sys2Proof.Machine.execSAtom e more n s
  | .sMfc e more d cr => Sys2Proof.Machine.execSMfc e more d cr s
  | .sMtc e more cr a => Sys2Proof.Machine.execSMtc e more cr a s
  | .sIe e more mask => Sys2Proof.Machine.execSIe e more mask s
  | .sId e more mask => Sys2Proof.Machine.execSId e more mask s
  | .reti e more => Sys2Proof.Machine.execReti e more s
  | .sBxclr e more => Sys2Proof.Machine.execSBxclr e more s
  | .sScale e more d k => Sys2Proof.Machine.execSScale e more d k s
  | .sSatclr e more => Sys2Proof.Machine.execSSatclr e more s
  | .tDone e more => Sys2Proof.Machine.execTDone e more s
  | .tWait e more => Sys2Proof.Machine.execTWait e more s
  | .tNow e more d => Sys2Proof.Machine.execTNow e more d s
  | .lNop e more => Sys2Proof.Machine.execLNop e more s
  | .lLd e more d a off => Sys2Proof.Machine.execLLd e more d a off s
  | .lLdp e more d a off => Sys2Proof.Machine.execLLdp e more d a off s
  | .lLd2 e more d d2 a b inc => Sys2Proof.Machine.execLLd2 e more d d2 a b inc s
  | .lLds e more d a off => Sys2Proof.Machine.execLLds e more d a off s
  | .lSt e more d a off => Sys2Proof.Machine.execLSt e more d a off s
  | .lStp e more d a off => Sys2Proof.Machine.execLStp e more d a off s
  | .lSts e more d a off => Sys2Proof.Machine.execLSts e more d a off s
  | .vNop e more => Sys2Proof.Machine.execVNop e more s
  | .vAdd e more m d a b sat bx => Sys2Proof.Machine.execVAdd e more m d a b sat bx s
  | .vSub e more m d a b sat bx => Sys2Proof.Machine.execVSub e more m d a b sat bx s
  | .vMul e more m d a b n sat rnd bx => Sys2Proof.Machine.execVMul e more m d a b n sat rnd bx s
  | .vMin e more m d a b bx => Sys2Proof.Machine.execVMin e more m d a b bx s
  | .vMax e more m d a b bx => Sys2Proof.Machine.execVMax e more m d a b bx s
  | .vAbs e more m d a sat bx => Sys2Proof.Machine.execVAbs e more m d a sat bx s
  | .vAnd e more m d a b => Sys2Proof.Machine.execVAnd e more m d a b s
  | .vOr e more m d a b => Sys2Proof.Machine.execVOr e more m d a b s
  | .vXor e more m d a b => Sys2Proof.Machine.execVXor e more m d a b s
  | .vSra e more m d a n rnd bx => Sys2Proof.Machine.execVSra e more m d a n rnd bx s
  | .vSrl e more m d a n => Sys2Proof.Machine.execVSrl e more m d a n s
  | .vSla e more m d a n bx => Sys2Proof.Machine.execVSla e more m d a n bx s
  | .vSlar e more m d a b bx => Sys2Proof.Machine.execVSlar e more m d a b bx s
  | .vCat e more m d a b n => Sys2Proof.Machine.execVCat e more m d a b n s
  | .vBcast e more m d a => Sys2Proof.Machine.execVBcast e more m d a s
  | .vCmpgt e more m d a b => Sys2Proof.Machine.execVCmpgt e more m d a b s
  | .vSel e more m d a b => Sys2Proof.Machine.execVSel e more m d a b s
  | .vMov e more m d a => Sys2Proof.Machine.execVMov e more m d a s
  | .vPack e more m d a b bx => Sys2Proof.Machine.execVPack e more m d a b bx s
  | .vUnpk e more m d a n => Sys2Proof.Machine.execVUnpk e more m d a n s
  | .vEven e more m d a b => Sys2Proof.Machine.execVEven e more m d a b s
  | .vOdd e more m d a b => Sys2Proof.Machine.execVOdd e more m d a b s
  | .vClipu e more m d a n => Sys2Proof.Machine.execVClipu e more m d a n s
  | .mNop e more => Sys2Proof.Machine.execMNop e more s
  | .mMac e more ad a b pair bx => Sys2Proof.Machine.execMMac e more ad a b pair bx s
  | .mMsu e more ad a b pair bx => Sys2Proof.Machine.execMMsu e more ad a b pair bx s
  | .mMul e more ad a b pair bx => Sys2Proof.Machine.execMMul e more ad a b pair bx s
  | .mMacl e more ad a b j pair bx => Sys2Proof.Machine.execMMacl e more ad a b j pair bx s
  | .mMull e more ad a b j pair bx => Sys2Proof.Machine.execMMull e more ad a b j pair bx s
  | .mClr e more ad => Sys2Proof.Machine.execMClr e more ad s
  | .mExt e more d ac n bx => Sys2Proof.Machine.execMExt e more d ac n bx s
  | .mExtr e more d ac b bx => Sys2Proof.Machine.execMExtr e more d ac b bx s
  | .mAcc e more ad ac bx => Sys2Proof.Machine.execMAcc e more ad ac bx s
  | .mSave e more d ac p => Sys2Proof.Machine.execMSave e more d ac p s
  | .mRest e more ac d p => Sys2Proof.Machine.execMRest e more ac d p s
  | .interruptEntry e => Sys2Proof.Machine.execInterruptEntry e s
  | .engineCheckpoint e => Sys2Proof.Machine.execEngineCheckpoint e s
  | .engineCommit e => Sys2Proof.Machine.execEngineCommit e s
  | .engineRollback e => Sys2Proof.Machine.execEngineRollback e s
  | .engineWatchdogDeadline e => Sys2Proof.Machine.execEngineWatchdogDeadline e s
  | .marchGroup c fail => Sys2Proof.Machine.execMarchGroup c fail s
  | .dmaGo m e v => Sys2Proof.Machine.execDmaGo m e v s
  | .dmaDescriptorDone e => Sys2Proof.Machine.execDmaDescriptorDone e s
  | .engineStartApply => Sys2Proof.Machine.execEngineStartApply s
  | .engineStopApply => Sys2Proof.Machine.execEngineStopApply s
  | .fpllUnlock k => Sys2Proof.Machine.execFpllUnlock k s
  | .fpllRelock k => Sys2Proof.Machine.execFpllRelock k s
  | .vpllUnlock k => Sys2Proof.Machine.execVpllUnlock k s
  | .fportMemoryRequest r => Sys2Proof.Machine.execFportMemoryRequest r s
  | .fportRegisterRead n a answer => Sys2Proof.Machine.execFportRegisterRead n a answer s
  | .fportRegisterTimeout n a => Sys2Proof.Machine.execFportRegisterTimeout n a s
  | .stagingEnd => Sys2Proof.Machine.execStagingEnd s
  | .moltStageCheck ok => Sys2Proof.Machine.execMoltStageCheck ok s
  | .moltStageSwap => Sys2Proof.Machine.execMoltStageSwap s
  | .staggerHandover => Sys2Proof.Machine.execStaggerHandover s
  | .staggerMatchComplete => Sys2Proof.Machine.execStaggerMatchComplete s
  | .scrubFrameRead t f err => Sys2Proof.Machine.execScrubFrameRead t f err s
  | .scrubReloadSwap => Sys2Proof.Machine.execScrubReloadSwap s
  | .dramRequestArrival r => Sys2Proof.Machine.execDramRequestArrival r s
  | .dramCommandCycle m sub now allowed => Sys2Proof.Machine.execDramCommandCycle m sub now allowed s
  | .dramRequestComplete m id line now => Sys2Proof.Machine.execDramRequestComplete m id line now s
  | .urgencyStep m now => Sys2Proof.Machine.execUrgencyStep m now s
  | .agePromotion m now => Sys2Proof.Machine.execAgePromotion m now s
  | .refreshInterval m => Sys2Proof.Machine.execRefreshInterval m s
  | .mr4Read m hot above => Sys2Proof.Machine.execMr4Read m hot above s
  | .spdTemperatureRead m t0 t1 above fail => Sys2Proof.Machine.execSpdTemperatureRead m t0 t1 above fail s
  | .retrainPause m sub => Sys2Proof.Machine.execRetrainPause m sub s
  | .retrainPauseEnd m sub dur ok => Sys2Proof.Machine.execRetrainPauseEnd m sub dur ok s
  | .mcSrReqWrite m => Sys2Proof.Machine.execMcSrReqWrite m s
  | .srIdleTimeout m => Sys2Proof.Machine.execSrIdleTimeout m s
  | .srEntryComplete m => Sys2Proof.Machine.execSrEntryComplete m s
  | .srExitComplete m now => Sys2Proof.Machine.execSrExitComplete m now s
  | .mcFallbackReqWrite m v => Sys2Proof.Machine.execMcFallbackReqWrite m v s
  | .mcPolicyWrite m v => Sys2Proof.Machine.execMcPolicyWrite m v s
  | .schedParityFault m => Sys2Proof.Machine.execSchedParityFault m s
  | .schedRebuildDone m => Sys2Proof.Machine.execSchedRebuildDone m s
  | .dramInitDone l => Sys2Proof.Machine.execDramInitDone l s
  | .eccCorrection b n addr => Sys2Proof.Machine.execEccCorrection b n addr s
  | .bucketLeak b => Sys2Proof.Machine.execBucketLeak b s
  | .uncorrectableError errs => Sys2Proof.Machine.execUncorrectableError errs s
  | .patrolLineRead m fix => Sys2Proof.Machine.execPatrolLineRead m fix s
  | .regionInitComplete r => Sys2Proof.Machine.execRegionInitComplete r s
  | .counterCacheMiss line ok => Sys2Proof.Machine.execCounterCacheMiss line ok s
  | .counterCacheEvict level idx => Sys2Proof.Machine.execCounterCacheEvict level idx s
  | .integrityHalt ch detail addr => Sys2Proof.Machine.execIntegrityHalt ch detail addr s
  | .macsecFrameReceive f => Sys2Proof.Machine.execMacsecFrameReceive f s
  | .macsecFrameSend port => Sys2Proof.Machine.execMacsecFrameSend port s
  | .macsecSaSwitch => Sys2Proof.Machine.execMacsecSaSwitch s
  | .linkKeySwitch k => Sys2Proof.Machine.execLinkKeySwitch k s
  | .debugLockoutExpiry => Sys2Proof.Machine.execDebugLockoutExpiry s
  | .signalDetectAssert l => Sys2Proof.Machine.execSignalDetectAssert l s
  | .signalDetectDeassert l => Sys2Proof.Machine.execSignalDetectDeassert l s
  | .blockLockLoss l => Sys2Proof.Machine.execBlockLockLoss l s
  | .highBer l => Sys2Proof.Machine.execHighBer l s
  | .quadPllUnlock q pll => Sys2Proof.Machine.execQuadPllUnlock q pll s
  | .quadPllRelock q pll => Sys2Proof.Machine.execQuadPllRelock q pll s
  | .linkBringupComplete u => Sys2Proof.Machine.execLinkBringupComplete u s
  | .negotiationFail l reason => Sys2Proof.Machine.execNegotiationFail l reason s
  | .negotiationRetry l => Sys2Proof.Machine.execNegotiationRetry l s
  | .laneQualificationEnd k pass => Sys2Proof.Machine.execLaneQualificationEnd k pass s
  | .pstateSequenceDone l => Sys2Proof.Machine.execPstateSequenceDone l s
  | .prbsSyncLoss l => Sys2Proof.Machine.execPrbsSyncLoss l s
  | .prbsCounterFull l errs => Sys2Proof.Machine.execPrbsCounterFull l errs s
  | .marginScanDone l counts => Sys2Proof.Machine.execMarginScanDone l counts s
  | .lanePrbsErrLoRead l => Sys2Proof.Machine.execLanePrbsErrLoRead l s
  | .dolmetFrameReceive k f => Sys2Proof.Machine.execDolmetFrameReceive k f s
  | .linkTagFailLimit k => Sys2Proof.Machine.execLinkTagFailLimit k s
  | .heartbeatReceive k => Sys2Proof.Machine.execHeartbeatReceive k s
  | .heartbeatTimeout k => Sys2Proof.Machine.execHeartbeatTimeout k s
  | .tickMarkerReceive k m => Sys2Proof.Machine.execTickMarkerReceive k m s
  | .capabilityExchange k c => Sys2Proof.Machine.execCapabilityExchange k c s
  | .digestReceive d => Sys2Proof.Machine.execDigestReceive d s
  | .stateTransferReceive x => Sys2Proof.Machine.execStateTransferReceive x s
  | .rejoinActivation => Sys2Proof.Machine.execRejoinActivation s
  | .rejoinEngineCopy c l => Sys2Proof.Machine.execRejoinEngineCopy c l s
  | .rejoinMatchComplete => Sys2Proof.Machine.execRejoinMatchComplete s
  | .rejoinSlow => Sys2Proof.Machine.execRejoinSlow s
  | .twinPeerOkFall => Sys2Proof.Machine.execTwinPeerOkFall s
  | .faultMessageReceive => Sys2Proof.Machine.execFaultMessageReceive s
  | .linksLost => Sys2Proof.Machine.execLinksLost s
  | .mailboxFrameReceive f => Sys2Proof.Machine.execMailboxFrameReceive f s
  | .bootFrameReceive off data last => Sys2Proof.Machine.execBootFrameReceive off data last s
  | .instarSetApply => Sys2Proof.Machine.execInstarSetApply s
  | .vinInputFault b => Sys2Proof.Machine.execVinInputFault b s
  | .vinReturnQualified b => Sys2Proof.Machine.execVinReturnQualified b s
  | .vauxInputFault b => Sys2Proof.Machine.execVauxInputFault b s
  | .pwrForceBWrite v => Sys2Proof.Machine.execPwrForceBWrite v s
  | .supplyFault cause mc => Sys2Proof.Machine.execSupplyFault cause mc s
  | .supplyRecovery => Sys2Proof.Machine.execSupplyRecovery s
  | .vioFault => Sys2Proof.Machine.execVioFault s
  | .vauxLoss => Sys2Proof.Machine.execVauxLoss s
  | .domainSequenceStart => Sys2Proof.Machine.execDomainSequenceStart s
  | .domainSequenceDone => Sys2Proof.Machine.execDomainSequenceDone s
  | .oppointRaiseStart => Sys2Proof.Machine.execOppointRaiseStart s
  | .oppointSwitch => Sys2Proof.Machine.execOppointSwitch s
  | .oppointVoltageReached c mv => Sys2Proof.Machine.execOppointVoltageReached c mv s
  | .clockLossRcRunning cause forced => Sys2Proof.Machine.execClockLossRcRunning cause forced s
  | .clockLossRcStopped cause => Sys2Proof.Machine.execClockLossRcStopped cause s
  | .clockGapResume gap forced => Sys2Proof.Machine.execClockGapResume gap forced s
  | .mclkReturn forced => Sys2Proof.Machine.execMclkReturn forced s
  | .clkReturnReqWrite => Sys2Proof.Machine.execClkReturnReqWrite s
  | .eyeGateStart k => Sys2Proof.Machine.execEyeGateStart k s
  | .eyeGateEnd k count => Sys2Proof.Machine.execEyeGateEnd k count s
  | .sensorSample l vin => Sys2Proof.Machine.execSensorSample l vin s
  | .thermalTrip sensor => Sys2Proof.Machine.execThermalTrip sensor s
  | .thermalRecovery => Sys2Proof.Machine.execThermalRecovery s
  | .modeChange => Sys2Proof.Machine.execModeChange s
  | .diapWakePin => Sys2Proof.Machine.execDiapWakePin s
  | .wakeTickExpiry => Sys2Proof.Machine.execWakeTickExpiry s
  | .diapauseWake => Sys2Proof.Machine.execDiapauseWake s
  | .roostEntryOnLock => Sys2Proof.Machine.execRoostEntryOnLock s
  | .coldStart bootSrc mclkSel oscDly => Sys2Proof.Machine.execColdStart bootSrc mclkSel oscDly s
  | .warmReset => Sys2Proof.Machine.execWarmReset s
  | .eclosionStart e => Sys2Proof.Machine.execEclosionStart e s
  | .eclosionAttemptFail code => Sys2Proof.Machine.execEclosionAttemptFail code s
  | .eclosionWatchdogExpiry => Sys2Proof.Machine.execEclosionWatchdogExpiry s
  | .bootAbortWrite => Sys2Proof.Machine.execBootAbortWrite s
  | .pciePerstAssert => Sys2Proof.Machine.execPciePerstAssert s
  | .pcieFlr => Sys2Proof.Machine.execPcieFlr s
  | .interruptSourceRise n high => Sys2Proof.Machine.execInterruptSourceRise n high s
  | .holdoffExpiry g => Sys2Proof.Machine.execHoldoffExpiry g s
  | .msixSend => Sys2Proof.Machine.execMsixSend s
  | .intcEoiWrite g => Sys2Proof.Machine.execIntcEoiWrite g s
  | .intcRouteWrite g v => Sys2Proof.Machine.execIntcRouteWrite g v s
  | .engineIntcEoi e => Sys2Proof.Machine.execEngineIntcEoi e s
  | .mailboxMsgWrite m o v => Sys2Proof.Machine.execMailboxMsgWrite m o v s
  | .mailboxBellWrite m o v => Sys2Proof.Machine.execMailboxBellWrite m o v s
  | .mailboxAckWrite m o v => Sys2Proof.Machine.execMailboxAckWrite m o v s
  | .mailboxAckTimeout o => Sys2Proof.Machine.execMailboxAckTimeout o s
  | .mailboxClaimTimeout o => Sys2Proof.Machine.execMailboxClaimTimeout o s
  | .lockRead m o => Sys2Proof.Machine.execLockRead m o s
  | .lockWrite m o v => Sys2Proof.Machine.execLockWrite m o v s
  | .debugWireReset => Sys2Proof.Machine.execDebugWireReset s
  | .debugWireRelease => Sys2Proof.Machine.execDebugWireRelease s
  | .debugWakePulse us u => Sys2Proof.Machine.execDebugWakePulse us u s
  | .debugRead f => Sys2Proof.Machine.execDebugRead f s
  | .debugWrite f => Sys2Proof.Machine.execDebugWrite f s
  | .debugWake f => Sys2Proof.Machine.execDebugWake f s
  | .dbgAuthChallengeWrite m level => Sys2Proof.Machine.execDbgAuthChallengeWrite m level s
  | .dbgAuthSubmit m => Sys2Proof.Machine.execDbgAuthSubmit m s
  | .engineHaltRequest m e => Sys2Proof.Machine.execEngineHaltRequest m e s
  | .engineHaltTaken e => Sys2Proof.Machine.execEngineHaltTaken e s
  | .engineStep m e => Sys2Proof.Machine.execEngineStep m e s
  | .engineInject m e => Sys2Proof.Machine.execEngineInject m e s
  | .engineResume m e => Sys2Proof.Machine.execEngineResume m e s
  | .dbgPcWrite m v => Sys2Proof.Machine.execDbgPcWrite m v s
  | .coreHalt m mask => Sys2Proof.Machine.execCoreHalt m mask s
  | .coreHaltTaken k => Sys2Proof.Machine.execCoreHaltTaken k s
  | .coreResume m mask => Sys2Proof.Machine.execCoreResume m mask s
  | .lockForce m v => Sys2Proof.Machine.execLockForce m v s
  | .bistComplete sig fails => Sys2Proof.Machine.execBistComplete sig fails s
  | .rcFieldRead m o => Sys2Proof.Machine.execRcFieldRead m o s
  | .registerWrite m o v => Sys2Proof.Machine.execRegisterWrite m o v s
  | .ptpFollowUpReceive port m origin => Sys2Proof.Machine.execPtpFollowUpReceive port m origin s
  | .ptpDelayRespReceive port m rx => Sys2Proof.Machine.execPtpDelayRespReceive port m rx s
  | .cdrLockLoss l => Sys2Proof.Machine.execCdrLockLoss l s
  | .fecLockLoss p => Sys2Proof.Machine.execFecLockLoss p s
  | .vauxReturnQualified b => Sys2Proof.Machine.execVauxReturnQualified b s
  | .hostLinkDown => Sys2Proof.Machine.execHostLinkDown s
  | .modLosSample los => Sys2Proof.Machine.execModLosSample los s
  | .hostBar2Write a bytes => Sys2Proof.Machine.execHostBar2Write a bytes s

end Sys2Proof.Machine
end

