-- ==== Sys2Proof/Safety.lean ====
section
/-! DEFINITION. The terms claims are stated in: what a safe run is, the canonical form of every map and memory of the
state, frames, and when the block runs a command's own body. -/

namespace Sys2Proof.Machine

/-! ## Safe runs -/

/-- The command runs on the state to a next state: no fault, no refusal. -/
def Completes (i : Instr) (s : State) : Prop := ∃ t, exec i s = .next t

/-- `n` steps from a state, none of which stops. -/
def StepsTo : Nat → State → State → Prop
  | 0, s, t => s = t
  | n + 1, s, t => ∃ u, step s = .next u ∧ StepsTo n u t

/-! ## Frames -/

/-- `t` differs from `s` at most in the registers at the listed byte offsets. -/
def OnlyRegs (offs : List Nat) (s t : State) : Prop :=
  (∀ o, o ∉ offs → t.reg o = s.reg o) ∧ { t with regs := s.regs } = s

/-- `t` differs from `s` at most in what has left the device and in what still leaves it as replies. -/
def OnlyAnswers (s t : State) : Prop :=
  { t with out := s.out, xp := { t.xp with replies := s.xp.replies, fwdRec := s.xp.fwdRec, bufs := s.xp.bufs } } = s

/-! ## When an engine issues a bundle of one operation (R200, R236, R246) -/

/-- Engine `e` may issue a bundle and nothing is under way in it: no operation waits for others of its bundle, no result is
in flight, no delay bundle or atomic group is open, and no running loop ends at the bundle at its PC. -/
def State.clear (s : State) (e : Nat) : Bool :=
  let x := s.engine e
  s.mayIssue e && x.openB == {} && x.fly.isEmpty && x.br.isNone && x.atom == 0 &&
  !((x.ls (!s.inHandler e)).head?).any (fun l => l.last == s.engPc e)

/-- A scalar register of the bank that engine `e` uses: the shadow bank in a handler (R214). -/
def State.sreg (s : State) (e : Nat) (r : BitVec 5) : Word := (s.engine e).s_ (!s.inHandler e) r.toNat

/-- A vector register of engine `e`. -/
def State.vreg (s : State) (e : Nat) (r : BitVec 5) : BitVec 256 := (s.engine e).vec_ r.toNat

/-- An accumulator of engine `e`. -/
def State.acc (s : State) (e : Nat) (r : BitVec 2) : List Int := (s.engine e).accum r.toNat

/-- The state with engine `e` at its next bundle. -/
def State.nextPc (s : State) (e : Nat) : State := s.wr (Reg.ENG.STATUS.PC e) (s.engPc e + 1)

/-- Engine `e` is left as `y` by a bundle, but for the bookkeeping of the model: the bundle put together is spent, and stores
to cluster memory are one bundle older. Everything outside the engines is as in `u`; the other engines, the DMA queues and the
cluster memories are as in `s`. -/
def Passes (e : Nat) (y : Eng) (s u t : State) : Prop :=
  t.engine e = { y with
    openB := {}, fresh := y.fresh && s.inHandler e,
    recent := (y.recent.map (fun r => (r.1 + 1, r.2))).filter (fun r => decide (r.1 < 8)) } ∧
  (∀ k, k ≠ e → t.engine k = s.engine k) ∧ t.eng.dmaq = s.eng.dmaq ∧ t.eng.cmem = s.eng.cmem ∧ { t with eng := u.eng } = u

/-! ## Canonical form -/

/-- Is the register file canonical: offsets strictly rising, no register listed at its reset value? -/
def State.regsWf (s : State) : Bool := SMap.wf resetWord s.regs

/-- Are the byte memories canonical: host memory as seen, the SPI buffer, the boot flash, the cluster memories, device DRAM,
and each engine's program and local memory? -/
def State.memWf (s : State) : Bool :=
  Memory.wf s.hostMem && Memory.wf s.xp.spiBuf && Memory.wf s.boot.flash && Memory.wf s.eng.cmem && Memory.wf s.dram.mem &&
  s.eng.eng.all (fun e => Memory.wf e.2.prog && Memory.wf e.2.ldm)

/-! ## When a command's own body runs (R100, R112, R119, R120, R123, R433, R542) -/

/-- The opcode, header and parameters of a command row, one that arrives as an entry of a ring, the SPI target, a link or the twin link (R97,
R99); the other rows are register accesses, events and engine operations. -/
def rowCommand : Instr → Option (Nat × Hdr × List Byte)
  | .devQuery h p => some (0x0101, h, p)
  | .devCaps h p => some (0x0102, h, p)
  | .devReset h p => some (0x0103, h, p)
  | .faultRead h p => some (0x0104, h, p)
  | .faultClear h p => some (0x0105, h, p)
  | .modeSet h p => some (0x0201, h, p)
  | .modeGet h p => some (0x0202, h, p)
  | .postureSet h p => some (0x0203, h, p)
  | .domainPower h p => some (0x0204, h, p)
  | .oppointSet h p => some (0x0205, h, p)
  | .supplyStatus h p => some (0x0206, h, p)
  | .clockMeasure h p => some (0x0207, h, p)
  | .clockStatus h p => some (0x0208, h, p)
  | .contractPropose h p => some (0x0301, h, p)
  | .contractActivate h p => some (0x0302, h, p)
  | .contractRelease h p => some (0x0303, h, p)
  | .contractQuery h p => some (0x0304, h, p)
  | .ledgerSnapshot h p => some (0x0305, h, p)
  | .descriptorRegister h p => some (0x0306, h, p)
  | .flowAdd h p => some (0x0401, h, p)
  | .flowRemove h p => some (0x0402, h, p)
  | .portConfig h p => some (0x0403, h, p)
  | .substPolicy h p => some (0x0404, h, p)
  | .refSelect h p => some (0x0405, h, p)
  | .tickStatus h p => some (0x0406, h, p)
  | .take h p => some (0x0501, h, p)
  | .presetArm h p => some (0x0502, h, p)
  | .presetDisarm h p => some (0x0503, h, p)
  | .gpiBind h p => some (0x0504, h, p)
  | .tallySet h p => some (0x0505, h, p)
  | .takeAbort h p => some (0x0506, h, p)
  | .engineLoad h p => some (0x0601, h, p)
  | .engineStart h p => some (0x0602, h, p)
  | .engineStop h p => some (0x0603, h, p)
  | .engineStatus h p => some (0x0604, h, p)
  | .imageStage h p => some (0x0701, h, p)
  | .moltPlan h p => some (0x0702, h, p)
  | .moltCommit h p => some (0x0703, h, p)
  | .scrubStatus h p => some (0x0704, h, p)
  | .protectMapSet h p => some (0x0801, h, p)
  | .eccStatus h p => some (0x0802, h, p)
  | .bucketConfig h p => some (0x0803, h, p)
  | .keyLoad h p => some (0x0901, h, p)
  | .keyRetire h p => some (0x0902, h, p)
  | .debugAuthChallenge h p => some (0x0903, h, p)
  | .debugAuthResponse h p => some (0x0904, h, p)
  | .macsecSa h p => some (0x0905, h, p)
  | .laneConfig h p => some (0x0A01, h, p)
  | .laneState h p => some (0x0A02, h, p)
  | .prbsStart h p => some (0x0A03, h, p)
  | .prbsRead h p => some (0x0A04, h, p)
  | .marginScan h p => some (0x0A05, h, p)
  | .twinPair h p => some (0x0B01, h, p)
  | .twinStatus h p => some (0x0B02, h, p)
  | .meshRouteSet h p => some (0x0B03, h, p)
  | .meshStatus h p => some (0x0B04, h, p)
  | .instarSet h p => some (0x0B05, h, p)
  | .bistRun h p => some (0x0C01, h, p)
  | .bistResult h p => some (0x0C02, h, p)
  | .repairFuse h p => some (0x0C03, h, p)
  | .bootRecord h p => some (0x0E01, h, p)
  | .bootConfirm h p => some (0x0E02, h, p)
  | .imageWrite h p => some (0x0E03, h, p)
  | .slotSelect h p => some (0x0E04, h, p)
  | _ => none

/-- The transports run, the entry checks pass, the command is for this device, the mode accepts the opcode, its management
core runs, the device is UNPAIRED and the command does not ask for twin operation: the command's own chapter decides. -/
def State.takes (s : State) (op : Nat) (h : Hdr) : Bool :=
  s.isSet Reg.CMD.STATUS.FW_READY && (entryErr op h).isNone &&
  (h.target == 0 || decide (h.target.toNat = s.meshId)) && (!s.limited || cocoonOp op) && !s.coreHeld op h &&
  decide (s.twinState = 0) && !h.twinApply

/-- The state without the accepted work whose tick of effect has come. -/
def State.undue (s : State) : State := { s with due := s.due.filter (fun d => !decide (d.eff ≤ s.now)) }

end Sys2Proof.Machine
end

