-- ==== Sys2Proof/WellFormed.lean ====
section
/-! DEFINITION. Which commands an agent can form: the ranges of the operands that name a unit, a register or a transport
(00_scope.md "Conventions", R97, R102, R126, R198, R502, R524). Meanings are total, so an ill-formed command changes nothing that the
spec gives the device; the check says what the words of a row can spell. -/

namespace Sys2Proof

/-- A mesh ID: 1–16,384 (R97, R126). -/
def meshWf (d : Nat) : Bool := decide (1 ≤ d ∧ d ≤ 16384)

/-- A transport: ring 0–3 with a CQ slot below the longest ring, SPI, or the mesh (R97, R102). -/
def viaWf : Via → Bool
  | .ring n slot _ => decide (n < 4) && decide (slot < 4096)
  | .spi => true
  | .mesh src => meshWf src

/-- A submission header (R97). -/
def hdrWf (h : Hdr) : Bool := viaWf h.via

/-- A parameter block: PLEN is 16 bits (R97). -/
def paramsWf (p : List Byte) : Bool := decide (p.length ≤ 65535)

/-- A master of the register bus with a row for its accesses: the management cores, the host, the debug port (R524). -/
def masterWf (m : Nat) : Bool := decide (1 ≤ m ∧ m ≤ 6)

/-- Any master of R524: those, the twin partner, the engines, the cluster DMAs, the fabric ports. -/
def anyMaster (m : Nat) : Bool := decide (1 ≤ m ∧ m ≤ 7) || decide (16 ≤ m ∧ m < 352)

/-- A BAR0 byte offset of a register. -/
def offWf (o : Nat) : Bool := decide (o < 2 ^ 26) && o % 4 == 0

/-- A register's value. -/
def wordWf (v : Nat) : Bool := decide (v < 2 ^ 32)

/-- A lane: NL00–NL95, and PL00–PL15 as 128 upward. -/
def laneWf (l : Nat) : Bool := decide (l < 96) || decide (128 ≤ l ∧ l < 144)

/-- A quad: NQ00–NQ23, and PQ0–PQ3 as 32 upward. -/
def quadWf (q : Nat) : Bool := decide (q < 24) || decide (32 ≤ q ∧ q < 36)

/-- Is a command one that its row's operands can spell? -/
def Instr.wf : Instr → Bool
  | .devQuery h p => hdrWf h && paramsWf p
  | .devCaps h p => hdrWf h && paramsWf p
  | .devReset h p => hdrWf h && paramsWf p
  | .faultRead h p => hdrWf h && paramsWf p
  | .faultClear h p => hdrWf h && paramsWf p
  | .modeSet h p => hdrWf h && paramsWf p
  | .modeGet h p => hdrWf h && paramsWf p
  | .postureSet h p => hdrWf h && paramsWf p
  | .domainPower h p => hdrWf h && paramsWf p
  | .oppointSet h p => hdrWf h && paramsWf p
  | .supplyStatus h p => hdrWf h && paramsWf p
  | .clockMeasure h p => hdrWf h && paramsWf p
  | .clockStatus h p => hdrWf h && paramsWf p
  | .contractPropose h p => hdrWf h && paramsWf p
  | .contractActivate h p => hdrWf h && paramsWf p
  | .contractRelease h p => hdrWf h && paramsWf p
  | .contractQuery h p => hdrWf h && paramsWf p
  | .ledgerSnapshot h p => hdrWf h && paramsWf p
  | .descriptorRegister h p => hdrWf h && paramsWf p
  | .flowAdd h p => hdrWf h && paramsWf p
  | .flowRemove h p => hdrWf h && paramsWf p
  | .portConfig h p => hdrWf h && paramsWf p
  | .substPolicy h p => hdrWf h && paramsWf p
  | .refSelect h p => hdrWf h && paramsWf p
  | .tickStatus h p => hdrWf h && paramsWf p
  | .take h p => hdrWf h && paramsWf p
  | .presetArm h p => hdrWf h && paramsWf p
  | .presetDisarm h p => hdrWf h && paramsWf p
  | .gpiBind h p => hdrWf h && paramsWf p
  | .tallySet h p => hdrWf h && paramsWf p
  | .takeAbort h p => hdrWf h && paramsWf p
  | .engineLoad h p => hdrWf h && paramsWf p
  | .engineStart h p => hdrWf h && paramsWf p
  | .engineStop h p => hdrWf h && paramsWf p
  | .engineStatus h p => hdrWf h && paramsWf p
  | .imageStage h p => hdrWf h && paramsWf p
  | .moltPlan h p => hdrWf h && paramsWf p
  | .moltCommit h p => hdrWf h && paramsWf p
  | .scrubStatus h p => hdrWf h && paramsWf p
  | .protectMapSet h p => hdrWf h && paramsWf p
  | .eccStatus h p => hdrWf h && paramsWf p
  | .bucketConfig h p => hdrWf h && paramsWf p
  | .keyLoad h p => hdrWf h && paramsWf p
  | .keyRetire h p => hdrWf h && paramsWf p
  | .debugAuthChallenge h p => hdrWf h && paramsWf p
  | .debugAuthResponse h p => hdrWf h && paramsWf p
  | .macsecSa h p => hdrWf h && paramsWf p
  | .laneConfig h p => hdrWf h && paramsWf p
  | .laneState h p => hdrWf h && paramsWf p
  | .prbsStart h p => hdrWf h && paramsWf p
  | .prbsRead h p => hdrWf h && paramsWf p
  | .marginScan h p => hdrWf h && paramsWf p
  | .twinPair h p => hdrWf h && paramsWf p
  | .twinStatus h p => hdrWf h && paramsWf p
  | .meshRouteSet h p => hdrWf h && paramsWf p
  | .meshStatus h p => hdrWf h && paramsWf p
  | .instarSet h p => hdrWf h && paramsWf p
  | .bistRun h p => hdrWf h && paramsWf p
  | .bistResult h p => hdrWf h && paramsWf p
  | .repairFuse h p => hdrWf h && paramsWf p
  | .bootRecord h p => hdrWf h && paramsWf p
  | .bootConfirm h p => hdrWf h && paramsWf p
  | .imageWrite h p => hdrWf h && paramsWf p
  | .slotSelect h p => hdrWf h && paramsWf p
  | .sqTailWrite n v => decide (n < 4) && wordWf v
  | .cqHeadWrite n v => decide (n < 4) && wordWf v
  | .entryFetch n _ _ _ => decide (n < 4)
  | .replyWrite _ _ => true
  | .ringEnable n => decide (n < 4)
  | .ringDisable n => decide (n < 4)
  | .ringIdle n => decide (n < 4)
  | .ringLengthWrite n v => decide (n < 4) && wordWf v
  | .ringLengthApply n => decide (n < 4)
  | .ringCancel n => decide (n < 4)
  | .ringBaseWrite n r v => decide (n < 4) && decide (r < 4) && wordWf v
  | .spiReadStatus => true
  | .spiWriteSub _ _ => true
  | .spiReadReply _ => true
  | .spiWriteBuf _ _ => true
  | .spiReadBuf _ _ => true
  | .forwardedCommandReceive _ h p => hdrWf h && paramsWf p
  | .forwardedReplyReceive src _ _ _ _ _ => meshWf src
  | .forwardTimeout dst _ => meshWf dst
  | .frameForward k _ _ _ => decide (k < 6)
  | .twinCommandReceive _ h p _ => hdrWf h && paramsWf p
  | .twinCommandTimeout _ => true
  | .coreWatchdogExpiry core => decide (1 ≤ core ∧ core ≤ 4)
  | .tickBoundary _ => true
  | .slotStart => true
  | .tickNumLoRead _ => true
  | .ptpSyncReceive port _ => decide (port < 100)
  | .ptpAnnounceReceive port _ _ => decide (port < 100)
  | .ptpReferenceLost x => decide (x.index < 100)
  | .analogReferenceLost i => decide (i < 2)
  | .dolmetReferenceLost k => decide (k < 6)
  | .analogSyncAppear i _ _ => decide (i < 2)
  | .referenceOutOfRange _ _ => true
  | .acquisitionCountMet => true
  | .revertToEntry _ _ => true
  | .holdoverLimitExpiry => true
  | .refSelectApply => true
  | .stepApply => true
  | .admissionBatch _ => true
  | .xdevProposalReceive owner _ _ _ _ => meshWf owner
  | .xdevVoteReceive src _ _ => meshWf src
  | .xdevDecision => true
  | .xdevCommitReceive owner _ => meshWf owner
  | .xdevAbortReceive owner _ => meshWf owner
  | .xdevOwnerQuery => true
  | .xdevQueryReceive src _ => meshWf src
  | .xdevQueryTimeout => true
  | .contractActivation => true
  | .actLimitExpiry => true
  | .contractReleaseApply => true
  | .releasingComplete i => decide (i < 4096)
  | .holdEnd => true
  | .outputUnitSend i dst _ _ _ _ _ => decide (i < 4096) && decide (dst < 16)
  | .postureApply => true
  | .sdiSignalDetectDrop port => decide (port < 100)
  | .sdiTrsTimeout port => decide (port < 100)
  | .flowLossTimeout i => decide (i < 1024)
  | .legLossTimeout i leg => decide (i < 1024) && decide (leg < 2)
  | .sdiLineReceive port _ => decide (port < 100)
  | .ipPacketReceive port _ _ => decide (port < 100)
  | .sdiInputLock port _ _ _ => decide (port < 100)
  | .sourceResume i _ => decide (i < 4096)
  | .backupSwitch => true
  | .moduleInsert q => decide (q < 24)
  | .moduleRemove q => decide (q < 24)
  | .moduleInitDone q _ _ _ => decide (q < 24)
  | .igmpQueryReceive port => decide (port < 100)
  | .arpRequestReceive port _ _ => decide (port < 100)
  | .xbarParityFault e => decide (e < 192)
  | .linePacketTransfer src dst _ _ => decide (src < 192) && decide (dst < 192)
  | .portConfigApply => true
  | .flowAddApply => true
  | .flowRemoveApply => true
  | .substPolicyApply => true
  | .runaheadStart => true
  | .takeCutoff => true
  | .takeLanding => true
  | .gpiEdgeConfirm g _ _ _ => decide (g < 32)
  | .twinTakeReceive _ dst _ _ _ => decide (dst < 16)
  | .twinTakeAnswerReceive _ dst _ _ _ => decide (dst < 16)
  | .twinTakeAnswerTimeout _ dst _ _ => decide (dst < 16)
  | .twinTakeConfirmReceive _ dst _ _ => decide (dst < 16)
  | .twinTakeWithdrawReceive _ dst _ _ => decide (dst < 16)
  | .presetArmApply => true
  | .presetDisarmApply => true
  | .tallySetApply => true
  | .gpiBindApply => true
  | .sNop e _ => decide (e < 256)
  | .sAdd e _ _ _ _ => decide (e < 256)
  | .sSub e _ _ _ _ => decide (e < 256)
  | .sAnd e _ _ _ _ => decide (e < 256)
  | .sOr e _ _ _ _ => decide (e < 256)
  | .sXor e _ _ _ _ => decide (e < 256)
  | .sSll e _ _ _ _ => decide (e < 256)
  | .sSrl e _ _ _ _ => decide (e < 256)
  | .sSra e _ _ _ _ => decide (e < 256)
  | .sMul e _ _ _ _ => decide (e < 256)
  | .sMin e _ _ _ _ => decide (e < 256)
  | .sMax e _ _ _ _ => decide (e < 256)
  | .sSlt e _ _ _ _ => decide (e < 256)
  | .sSltu e _ _ _ _ => decide (e < 256)
  | .sAddi e _ _ _ _ => decide (e < 256)
  | .sAndi e _ _ _ _ => decide (e < 256)
  | .sOri e _ _ _ _ => decide (e < 256)
  | .sXori e _ _ _ _ => decide (e < 256)
  | .sSlli e _ _ _ _ => decide (e < 256)
  | .sSrli e _ _ _ _ => decide (e < 256)
  | .sSrai e _ _ _ _ => decide (e < 256)
  | .sRsh e _ _ _ _ => decide (e < 256)
  | .sLi e _ _ _ => decide (e < 256)
  | .sLui e _ _ _ => decide (e < 256)
  | .sBeq e _ _ _ _ => decide (e < 256)
  | .sBne e _ _ _ _ => decide (e < 256)
  | .sBlt e _ _ _ _ => decide (e < 256)
  | .sBge e _ _ _ _ => decide (e < 256)
  | .sJ e _ _ => decide (e < 256)
  | .sJal e _ _ _ => decide (e < 256)
  | .sJr e _ _ => decide (e < 256)
  | .sLoop e _ _ _ _ => decide (e < 256)
  | .sLoopi e _ _ _ _ => decide (e < 256)
  | .sAtom e _ _ => decide (e < 256)
  | .sMfc e _ _ _ => decide (e < 256)
  | .sMtc e _ _ _ => decide (e < 256)
  | .sIe e _ _ => decide (e < 256)
  | .sId e _ _ => decide (e < 256)
  | .reti e _ => decide (e < 256)
  | .sBxclr e _ => decide (e < 256)
  | .sScale e _ _ _ => decide (e < 256)
  | .sSatclr e _ => decide (e < 256)
  | .tDone e _ => decide (e < 256)
  | .tWait e _ => decide (e < 256)
  | .tNow e _ _ => decide (e < 256)
  | .lNop e _ => decide (e < 256)
  | .lLd e _ _ _ _ => decide (e < 256)
  | .lLdp e _ _ _ _ => decide (e < 256)
  | .lLd2 e _ _ _ _ _ _ => decide (e < 256)
  | .lLds e _ _ _ _ => decide (e < 256)
  | .lSt e _ _ _ _ => decide (e < 256)
  | .lStp e _ _ _ _ => decide (e < 256)
  | .lSts e _ _ _ _ => decide (e < 256)
  | .vNop e _ => decide (e < 256)
  | .vAdd e _ _ _ _ _ _ _ => decide (e < 256)
  | .vSub e _ _ _ _ _ _ _ => decide (e < 256)
  | .vMul e _ _ _ _ _ _ _ _ _ => decide (e < 256)
  | .vMin e _ _ _ _ _ _ => decide (e < 256)
  | .vMax e _ _ _ _ _ _ => decide (e < 256)
  | .vAbs e _ _ _ _ _ _ => decide (e < 256)
  | .vAnd e _ _ _ _ _ => decide (e < 256)
  | .vOr e _ _ _ _ _ => decide (e < 256)
  | .vXor e _ _ _ _ _ => decide (e < 256)
  | .vSra e _ _ _ _ _ _ _ => decide (e < 256)
  | .vSrl e _ _ _ _ _ => decide (e < 256)
  | .vSla e _ _ _ _ _ _ => decide (e < 256)
  | .vSlar e _ _ _ _ _ _ => decide (e < 256)
  | .vCat e _ _ _ _ _ _ => decide (e < 256)
  | .vBcast e _ _ _ _ => decide (e < 256)
  | .vCmpgt e _ _ _ _ _ => decide (e < 256)
  | .vSel e _ _ _ _ _ => decide (e < 256)
  | .vMov e _ _ _ _ => decide (e < 256)
  | .vPack e _ _ _ _ _ _ => decide (e < 256)
  | .vUnpk e _ _ _ _ _ => decide (e < 256)
  | .vEven e _ _ _ _ _ => decide (e < 256)
  | .vOdd e _ _ _ _ _ => decide (e < 256)
  | .vClipu e _ _ _ _ _ => decide (e < 256)
  | .mNop e _ => decide (e < 256)
  | .mMac e _ _ _ _ _ _ => decide (e < 256)
  | .mMsu e _ _ _ _ _ _ => decide (e < 256)
  | .mMul e _ _ _ _ _ _ => decide (e < 256)
  | .mMacl e _ _ _ _ _ _ _ => decide (e < 256)
  | .mMull e _ _ _ _ _ _ _ => decide (e < 256)
  | .mClr e _ _ => decide (e < 256)
  | .mExt e _ _ _ _ _ => decide (e < 256)
  | .mExtr e _ _ _ _ _ => decide (e < 256)
  | .mAcc e _ _ _ _ => decide (e < 256)
  | .mSave e _ _ _ _ => decide (e < 256)
  | .mRest e _ _ _ _ => decide (e < 256)
  | .interruptEntry e => decide (e < 256)
  | .engineCheckpoint e => decide (e < 256)
  | .engineCommit e => decide (e < 256)
  | .engineRollback e => decide (e < 256)
  | .engineWatchdogDeadline e => decide (e < 256)
  | .marchGroup c _ => decide (c < 8)
  | .dmaGo m e v => anyMaster m && decide (e < 256) && wordWf v
  | .dmaDescriptorDone e => decide (e < 256)
  | .engineStartApply => true
  | .engineStopApply => true
  | .fpllUnlock k => decide (k < 16)
  | .fpllRelock k => decide (k < 16)
  | .vpllUnlock k => decide (k < 4)
  | .fportMemoryRequest _ => true
  | .fportRegisterRead n _ _ => decide (n < 64)
  | .fportRegisterTimeout n _ => decide (n < 64)
  | .stagingEnd => true
  | .moltStageCheck _ => true
  | .moltStageSwap => true
  | .staggerHandover => true
  | .staggerMatchComplete => true
  | .scrubFrameRead t _ _ => decide (t < 56)
  | .scrubReloadSwap => true
  | .dramRequestArrival _ => true
  | .dramCommandCycle m _ _ _ => decide (m < 8)
  | .dramRequestComplete m _ _ _ => decide (m < 8)
  | .urgencyStep m _ => decide (m < 8)
  | .agePromotion m _ => decide (m < 8)
  | .refreshInterval m => decide (m < 8)
  | .mr4Read m _ _ => decide (m < 8)
  | .spdTemperatureRead m _ _ _ _ => decide (m < 8)
  | .retrainPause m _ => decide (m < 8)
  | .retrainPauseEnd m _ _ _ => decide (m < 8)
  | .mcSrReqWrite m => decide (m < 8)
  | .srIdleTimeout m => decide (m < 8)
  | .srEntryComplete m => decide (m < 8)
  | .srExitComplete m _ => decide (m < 8)
  | .mcFallbackReqWrite m _ => decide (m < 8)
  | .mcPolicyWrite m _ => decide (m < 8)
  | .schedParityFault m => decide (m < 8)
  | .schedRebuildDone m => decide (m < 8)
  | .dramInitDone _ => true
  | .eccCorrection _ _ _ => true
  | .bucketLeak b => decide (b < 94)
  | .uncorrectableError _ => true
  | .patrolLineRead m _ => decide (m < 8)
  | .regionInitComplete r => decide (r < 64)
  | .counterCacheMiss _ _ => true
  | .counterCacheEvict _ _ => true
  | .integrityHalt _ _ _ => true
  | .macsecFrameReceive _ => true
  | .macsecFrameSend port => decide (port < 100)
  | .macsecSaSwitch => true
  | .linkKeySwitch k => decide (k < 6)
  | .debugLockoutExpiry => true
  | .signalDetectAssert l => laneWf l
  | .signalDetectDeassert l => laneWf l
  | .blockLockLoss l => laneWf l
  | .highBer l => laneWf l
  | .quadPllUnlock q _ => quadWf q
  | .quadPllRelock q _ => quadWf q
  | .linkBringupComplete u => laneWf u.lane
  | .negotiationFail l _ => laneWf l
  | .negotiationRetry l => laneWf l
  | .laneQualificationEnd k _ => decide (k < 6)
  | .pstateSequenceDone l => laneWf l
  | .prbsSyncLoss l => laneWf l
  | .prbsCounterFull l _ => laneWf l
  | .marginScanDone l _ => laneWf l
  | .lanePrbsErrLoRead l => laneWf l
  | .dolmetFrameReceive k _ => decide (k < 6)
  | .linkTagFailLimit k => decide (k < 6)
  | .heartbeatReceive k => decide (k < 6)
  | .heartbeatTimeout k => decide (k < 6)
  | .tickMarkerReceive k _ => decide (k < 6)
  | .capabilityExchange k _ => decide (k < 6)
  | .digestReceive _ => true
  | .stateTransferReceive _ => true
  | .rejoinActivation => true
  | .rejoinEngineCopy c _ => decide (c < 8)
  | .rejoinMatchComplete => true
  | .rejoinSlow => true
  | .twinPeerOkFall => true
  | .faultMessageReceive => true
  | .linksLost => true
  | .mailboxFrameReceive _ => true
  | .bootFrameReceive _ _ _ => true
  | .instarSetApply => true
  | .vinInputFault _ => true
  | .vinReturnQualified _ => true
  | .vauxInputFault _ => true
  | .pwrForceBWrite _ => true
  | .supplyFault _ _ => true
  | .supplyRecovery => true
  | .vioFault => true
  | .vauxLoss => true
  | .domainSequenceStart => true
  | .domainSequenceDone => true
  | .oppointRaiseStart => true
  | .oppointSwitch => true
  | .oppointVoltageReached c _ => decide (c < 8)
  | .clockLossRcRunning _ _ => true
  | .clockLossRcStopped _ => true
  | .clockGapResume _ _ => true
  | .mclkReturn _ => true
  | .clkReturnReqWrite => true
  | .eyeGateStart k => decide (k < 16)
  | .eyeGateEnd k _ => decide (k < 16)
  | .sensorSample _ _ => true
  | .thermalTrip sensor => decide (sensor < 16)
  | .thermalRecovery => true
  | .modeChange => true
  | .diapWakePin => true
  | .wakeTickExpiry => true
  | .diapauseWake => true
  | .roostEntryOnLock => true
  | .coldStart _ _ _ => true
  | .warmReset => true
  | .eclosionStart _ => true
  | .eclosionAttemptFail _ => true
  | .eclosionWatchdogExpiry => true
  | .bootAbortWrite => true
  | .pciePerstAssert => true
  | .pcieFlr => true
  | .interruptSourceRise n _ => decide (n < 2048)
  | .holdoffExpiry g => decide (g < 64)
  | .msixSend => true
  | .intcEoiWrite g => decide (g < 64)
  | .intcRouteWrite g v => decide (g < 64) && wordWf v
  | .engineIntcEoi e => decide (e < 256)
  | .mailboxMsgWrite m o v => anyMaster m && offWf o && wordWf v
  | .mailboxBellWrite m o v => anyMaster m && offWf o && wordWf v
  | .mailboxAckWrite m o v => anyMaster m && offWf o && wordWf v
  | .mailboxAckTimeout o => offWf o
  | .mailboxClaimTimeout o => offWf o
  | .lockRead m o => anyMaster m && offWf o
  | .lockWrite m o v => anyMaster m && offWf o && wordWf v
  | .debugWireReset => true
  | .debugWireRelease => true
  | .debugWakePulse _ _ => true
  | .debugRead _ => true
  | .debugWrite _ => true
  | .debugWake _ => true
  | .dbgAuthChallengeWrite m _ => masterWf m
  | .dbgAuthSubmit m => masterWf m
  | .engineHaltRequest m e => masterWf m && decide (e < 256)
  | .engineHaltTaken e => decide (e < 256)
  | .engineStep m e => masterWf m && decide (e < 256)
  | .engineInject m e => masterWf m && decide (e < 256)
  | .engineResume m e => masterWf m && decide (e < 256)
  | .dbgPcWrite m v => masterWf m && wordWf v
  | .coreHalt m _ => masterWf m
  | .coreHaltTaken k => decide (1 ≤ k ∧ k ≤ 4)
  | .coreResume m _ => masterWf m
  | .lockForce m v => masterWf m && wordWf v
  | .bistComplete _ _ => true
  | .rcFieldRead m o => masterWf m && offWf o
  | .registerWrite m o v => masterWf m && offWf o && wordWf v
  | .ptpFollowUpReceive port _ _ => decide (port < 100)
  | .ptpDelayRespReceive port _ _ => decide (port < 100)
  | .cdrLockLoss l => laneWf l
  | .fecLockLoss p => decide (p < 100)
  | .vauxReturnQualified _ => true
  | .hostLinkDown => true
  | .modLosSample _ => true
  | .hostBar2Write a _ => decide (a < 2 ^ 28)

end Sys2Proof
end

