-- ==== Sys2Proof/Certificates/Slice0/Obligations.lean ====
section
/-! DEFINITION. The statements for the provers. A clause about a command that arrives with header `h` is about `t = s.stamped h`: the state with the
time and the transport of the command’s receipt, by which the work it schedules keeps its place; `s.takes op h` says that the entry passes the
common checks there, is for this device, may run in its mode, and is neither held nor subject to a twin. -/

open Sys2Proof Sys2Proof.Machine

/-- A step runs the command at the front of the queue with the queue’s rest; on an empty queue only the fabric’s tiles go on (00_scope.md). -/
def Obligations.CommandAtFront : Prop :=
  (∀ (c : Instr) (q : List Instr) (s : State),
    step { s with pending := c :: q } = exec c { s with pending := q }) ∧
  -- On an empty queue (a choice of the model)
  (∀ (s : State),
    s.pending = [] →
    step s = .next s.fabricInstant ∧ (s.cells = [] → step s = .next s))

/-- The registers read the reset values the register tables give, and the block is in Eclosion, step 1, with nothing waiting (01_tick_and_reference.md, Registers, 02_ledger.md, Registers, 03_commands.md, Registers, 06_quinner_engines.md, Registers, 10_dram.md, Registers, 11_integrity.md, Registers, 13_lanes.md, Registers, 14_twin_and_mesh.md, Registers, 15_power_and_clocks.md, Registers, 16_modes_and_start.md, Registers, 17_interrupts_mailboxes.md, Delivery, 17_interrupts_mailboxes.md, Interrupt controller registers). -/
def Obligations.ResetValues : Prop :=
  (    (∀ p ∈ [(Reg.TICK.STATUS.RATE, 8), (Reg.TICK.LOCK_CFG.LOCK_WINDOW, 20), (Reg.TICK.LOCK_CFG.LOCK_COUNT, 16), 
             (Reg.TICK.LOCK_CFG.SLEW_PPM, 10), (Reg.TICK.HOLD_CFG.HOLDOVER_LIMIT, 3600), (Reg.TICK.HOLD_CFG.LOSS_TICKS, 2), 
             (Reg.LEDGER.PWR.CAP, 2250), (Reg.LEDGER.HR_SEL.RES, 4), (Reg.CMD.FWD_CFG.FWD_TIMEOUT, 4), 
             (Reg.CMD.SPI_STATUS.SUB_FREE, 16), (Reg.TAKE.STATUS.RUNAHEAD, 1), (Reg.TAKE.STATUS.CUTOFF, 8), 
             (Reg.MOLT.STATUS.CHRY_USED, 1), (Reg.INTEG.PATROL.PASS_H, 24), (Reg.SEC.STATUS.KID_LOADED, 1), 
             (Reg.TWIN.CFG.REJOIN_LIMIT, 600), (Reg.MESH.STATUS.AUTH_DIST, 255), (Reg.PWR.CFG.RETURN_MS, 100), 
             (Reg.PWR.DOM0.STATES, 3), (Reg.CLK.STATUS.SRC, 1), (Reg.CLK.STATUS.RC_RUN, 1), (Reg.MODE.STATUS.MODE, 1), 
             (Reg.MODE.STATUS.ECL_STEP, 1), (Reg.MBX.CFG.HOST_TMO_US, 10000), (Reg.THERM.CFG.WARN_C, 95), 
             (Reg.CLK.CFG.AUTO_RETURN, 1), (Reg.CLK.CFG.GOOD_MS, 100), (Reg.DBG.LOCK_FORCE.CLUSTER, 15)], State.reset.rd p.1 = p.2)) ∧
  (∀ (n : Nat),
    n < 8 →
    State.reset.rd (Reg.CLU.STATUS.OP n) = 3 ∧ State.reset.rd (Reg.MC.CFG.SR_IDLE_US n) = 1000 ∧ State.reset.rd (Reg.MC.AGE.AGE_LIMIT n) = 2000 ∧ State.reset.rd (Reg.CLU.MBX_CFG.TMO_US n) = 1000 ∧ State.reset.rd (Reg.PWR.CLU.OP n) = 3 ∧ State.reset.rd (Reg.PWR.CLU.TARGET n) = 3) ∧
  (∀ (n : Nat),
    n < 4 →
    State.reset.rd (Reg.CMD.RING_CFG.LOG2_LEN n) = 4 ∧ State.reset.rd (Reg.CMD.RING_STATUS.IDLE n) = 1) ∧
  (∀ (n : Nat),
    n < 16 →
    State.reset.rd (Reg.CLK.EYE_CFG.REF n) = 1 ∧ State.reset.rd (Reg.CLK.EYE_GATE.GATE n) = 1) ∧
  (∀ (n : Nat),
    n < 64 →
    State.reset.rd (Reg.INTC.MASK.MASK n) = 4294967295 ∧ State.reset.rd (Reg.MSIX.CTRL.MASKED n) = 1) ∧
  (∀ (n : Nat),
    n < 94 →
    State.reset.rd (Reg.INTEG.BKT_CFG.THRESHOLD n) = 32 ∧ State.reset.rd (Reg.INTEG.BKT_CFG.LEAK_MS n) = 100) ∧
  (∀ (n : Nat),
    n < 144 →
    State.reset.rd (Reg.LANE.STATUS.PSTATE n) = 2 ∧ State.reset.rd (Reg.LANE.CFG.TX_AMP n) = 80 ∧ State.reset.rd (Reg.LANE.TXFIR.PRE1 n) = 248 ∧ State.reset.rd (Reg.LANE.TXFIR.MAIN n) = 48 ∧ State.reset.rd (Reg.LANE.TXFIR.POST1 n) = 248) ∧
  (∀ (n : Nat),
    n < 256 →
    State.reset.rd (Reg.ENG.WDOG.MARGIN n) = 8 ∧ State.reset.rd (Reg.DMA.CTX.CTX n) = 65535 ∧ State.reset.rd (Reg.DMA.STAT.FREE n) = 8) ∧
  (∀ (n : Nat),
    1 ≤ n ∧ n < 8 →
    State.reset.rd (Reg.TICK.CAD_CFG.RATE 0) = 8 ∧ State.reset.rd (Reg.TICK.CAD_CFG.EN 0) = 1 ∧ State.reset.rd (Reg.TICK.CAD_CFG.MAX_PER_TICK 0) = 1 ∧ State.reset.rd (Reg.TICK.CAD_CFG.EN n) = 0) ∧
  (    State.reset.mode = 1 ∧ State.reset.lock = 0 ∧ State.reset.pending = [] ∧ State.reset.due = [] ∧ State.reset.led.contracts = []) ∧
  -- An offset that no table gives a reset value
  (∀ (o : Nat),
    resetTable.any (fun r => r.has o) = false →
    State.reset.reg o = 0)

/-- Every command, access and event ends in a next state (00_scope.md, 03_commands.md, 06_quinner_engines.md, 95_what_each_step_holds.md). -/
def Obligations.EveryCommandCompletes : Prop :=
  (∀ (i : Instr) (s : State),
    Completes i s)

/-- What every command meets before its own checks: entry checks, forwarding, the limited modes, held cores, twin states (03_commands.md, Submission entries and replies, 03_commands.md, Forwarding over the mesh, 03_commands.md, Status codes, 14_twin_and_mesh.md, Twins, 16_modes_and_start.md, Attempts, slots and confirmation, 18_debug_and_test.md, Halting engines and cores). -/
def Obligations.CommandGate : Prop :=
  -- The firmware is not ready
  (∀ (i : Instr) (op : Nat) (h : Hdr) (p : List Byte) (s : State),
    rowCommand i = some (op, h, p) →
    s.isSet Reg.CMD.STATUS.FW_READY = false →
    exec i s = .next (s.stamped h)) ∧
  -- The entry fails its checks
  (∀ (i : Instr) (op : Nat) (h : Hdr) (p : List Byte) (x : Nat) (s : State),
    rowCommand i = some (op, h, p) →
    s.isSet Reg.CMD.STATUS.FW_READY = true →
    entryErr op h = some x →
    exec i s = .next ((s.stamped h).answer h x 0 [])) ∧
  -- For another device: without a link on a route; with one; with HW_PATH no such entry passes its checks
  (∀ (i : Instr) (op : Nat) (h : Hdr) (p : List Byte) (s : State),
    rowCommand i = some (op, h, p) →
    s.isSet Reg.CMD.STATUS.FW_READY = true →
    entryErr op h = none →
    h.target ≠ 0 →
    h.target.toNat ≠ s.meshId →
    s.linkTo h.target.toNat = none →
    h.hwPath = false →
    exec i s = .next ((s.stamped h).answer h Sts.unreachable 0 [])) ∧
  (∀ (i : Instr) (op : Nat) (h : Hdr) (p : List Byte) (k : Nat) (s : State),
    rowCommand i = some (op, h, p) →
    s.isSet Reg.CMD.STATUS.FW_READY = true →
    entryErr op h = none →
    h.target ≠ 0 →
    h.target.toNat ≠ s.meshId →
    s.linkTo h.target.toNat = some k →
    h.hwPath = false →
    (s.limited = true → cocoonOp op = true) →
    exec i s = .next (let t := s.stamped h; State.emit { t with xp := { t.xp with fwdOut := t.xp.fwdOut ++ [⟨h, op, t.now⟩] } } (.meshCmd h.target.toNat op h p))) ∧
  -- In the limited modes no other opcode is forwarded
  (∀ (i : Instr) (op : Nat) (h : Hdr) (p : List Byte) (k : Nat) (s : State),
    rowCommand i = some (op, h, p) →
    s.isSet Reg.CMD.STATUS.FW_READY = true →
    entryErr op h = none →
    h.target ≠ 0 →
    h.target.toNat ≠ s.meshId →
    s.linkTo h.target.toNat = some k →
    h.hwPath = false →
    s.limited = true →
    cocoonOp op = false →
    exec i s = .next ((s.stamped h).answer h Sts.modeRefused 0 [])) ∧
  (∀ (op : Nat) (h : Hdr),
    h.hwPath = true →
    h.target ≠ 0 →
    entryErr op h = some Sts.badParam ∨ entryErr op h = some Sts.badOpcode) ∧
  -- The limited modes
  (∀ (i : Instr) (op : Nat) (h : Hdr) (p : List Byte) (s : State),
    rowCommand i = some (op, h, p) →
    s.isSet Reg.CMD.STATUS.FW_READY = true →
    entryErr op h = none →
    h.target = 0 ∨ h.target.toNat = s.meshId →
    s.limited = true →
    cocoonOp op = false →
    exec i s = .next ((s.stamped h).answer h Sts.modeRefused 0 [])) ∧
  -- A held core
  (∀ (i : Instr) (op : Nat) (h : Hdr) (p : List Byte) (s : State),
    rowCommand i = some (op, h, p) →
    s.isSet Reg.CMD.STATUS.FW_READY = true →
    entryErr op h = none →
    h.target = 0 ∨ h.target.toNat = s.meshId →
    s.limited = false →
    s.coreHeld op h = true →
    exec i s = .next (let t := s.stamped h; { t with xp := { t.xp with held := t.xp.held ++ [⟨op, h, p, t.now⟩] } })) ∧
  -- While the twin synchronises
  (∀ (i : Instr) (op : Nat) (h : Hdr) (p : List Byte) (s : State),
    rowCommand i = some (op, h, p) →
    s.isSet Reg.CMD.STATUS.FW_READY = true →
    entryErr op h = none →
    h.target = 0 ∨ h.target.toNat = s.meshId →
    s.limited = false →
    s.coreHeld op h = false →
    s.twinState = 1 →
    opFlags op &&& 8 ≠ 0 →
    (op = 0x0301 → h.dryRun = false) →
    exec i s = .next ((s.stamped h).answer h Sts.busy 0 []))

/-- No command touches the queue of waiting commands: n steps take exactly its first n commands, in order (00_scope.md, 03_commands.md). -/
def Obligations.QueueOrder : Prop :=
  (∀ (i : Instr) (s t : State),
    exec i s = .next t →
    t.pending = s.pending) ∧
  (∀ (n : Nat) (s t : State),
    StepsTo n s t →
    t.pending = s.pending.drop n)

/-- Registers and memories keep one canonical form, which reset has: equal contents are equal data (00_scope.md, Family and variants, 00_scope.md, Conventions, 03_commands.md, SPI target, 06_quinner_engines.md, Local data memory). -/
def Obligations.CanonicalForms : Prop :=
  (    State.reset.regsWf = true ∧ State.reset.memWf = true) ∧
  (∀ (f : Fld) (v o : Nat) (w : Word) (s : State),
    s.regsWf = true →
    (s.wr f v).regsWf = true ∧ (s.setReg o w).regsWf = true) ∧
  (∀ (m : Memory) (a j : Nat) (b : List Byte),
    Memory.wf m = true →
    Memory.wf (m.writeN a b) = true ∧ (m.writeN a b).readN a b.length = b ∧ (j < a ∨ a + b.length ≤ j → (m.writeN a b).read j = m.read j)) ∧
  (∀ (a : Nat) (b : List Byte) (s : State),
    s.memWf = true →
    (∃ t : State, exec (.hostBar2Write a b) s = .next t ∧ t.memWf = true) ∧ (∃ t : State, exec (.spiWriteBuf a b) s = .next t ∧ t.memWf = true)) ∧
  (∀ (a : Nat) (b : List Byte) (s : State),
    Memory.wf s.dram.mem = true →
    Memory.wf (s.dramWrite a b).dram.mem = true)

/-- Host writes of a ring’s indices, enable, length and base registers, ring by ring (03_commands.md, PCIe rings, 00_scope.md, Family and variants, 03_commands.md, Registers). -/
def Obligations.RingRegisterWrites : Prop :=
  -- SQ_TAIL_WRITE, in range, out of range, and with PD01 off
  (∀ (n v : Nat) (s : State),
    n < 4 →
    s.domOn 1 = true →
    v < s.ringLen n →
    exec (.sqTailWrite n v) s = .next (s.wr (Reg.CMD.RING_SQ_TAIL.INDEX n) v)) ∧
  (∀ (n v : Nat) (s : State),
    n < 4 →
    s.domOn 1 = true →
    s.ringLen n ≤ v →
    exec (.sqTailWrite n v) s = .next ((s.evt (Reg.CMD.RING_STATUS.DOORBELL_ERR n)).evt Reg.CMD.EVENT.RING_ERR)) ∧
  (∀ (n v : Nat) (s : State),
    n < 4 →
    s.domOn 1 = false →
    exec (.sqTailWrite n v) s = .next (s.abortPosted (Reg.CMD.RING_SQ_TAIL n)) ∧ (s.abortPosted (Reg.CMD.RING_SQ_TAIL n)).regs = s.regs ∧ (s.abortPosted (Reg.CMD.RING_SQ_TAIL n)).out = s.out ++ [.pcieError s.intc.aerFatal (Reg.CMD.RING_SQ_TAIL n)]) ∧
  -- CQ_HEAD_WRITE
  (∀ (n v : Nat) (s : State),
    n < 4 →
    s.domOn 1 = true →
    v < s.ringLen n →
    exec (.cqHeadWrite n v) s = .next (s.wr (Reg.CMD.RING_CQ_HEAD.INDEX n) v)) ∧
  (∀ (n v : Nat) (s : State),
    n < 4 →
    s.domOn 1 = true →
    s.ringLen n ≤ v →
    exec (.cqHeadWrite n v) s = .next ((s.evt (Reg.CMD.RING_STATUS.DOORBELL_ERR n)).evt Reg.CMD.EVENT.RING_ERR)) ∧
  -- RING_ENABLE on an IDLE ring, and on one that is not
  (∀ (n : Nat) (s : State),
    n < 4 →
    s.domOn 1 = true →
    s.isSet (Reg.CMD.RING_CFG.EN n) = false →
    s.isSet (Reg.CMD.RING_STATUS.IDLE n) = true →
    exec (.ringEnable n) s = .next (((s.zeroRing n).wr (Reg.CMD.RING_CFG.EN n) 1).wr (Reg.CMD.RING_STATUS.IDLE n) 0)) ∧
  (∀ (n : Nat) (s : State),
    n < 4 →
    s.domOn 1 = true →
    s.isSet (Reg.CMD.RING_CFG.EN n) = false →
    s.isSet (Reg.CMD.RING_STATUS.IDLE n) = false →
    exec (.ringEnable n) s = .next ((s.evt (Reg.CMD.RING_STATUS.CFG_ERR n)).evt Reg.CMD.EVENT.RING_ERR)) ∧
  -- RING_DISABLE
  (∀ (n : Nat) (s : State),
    n < 4 →
    s.domOn 1 = true →
    exec (.ringDisable n) s = .next (s.wr (Reg.CMD.RING_CFG.EN n) 0)) ∧
  -- RING_LENGTH_WRITE while enabled and while not; RING_CANCEL
  (∀ (n v : Nat) (s : State),
    n < 4 →
    s.domOn 1 = true →
    4 ≤ v →
    v ≤ 12 →
    s.isSet (Reg.CMD.RING_CFG.EN n) = true →
    exec (.ringLengthWrite n v) s = .next (if v = s.rd (Reg.CMD.RING_CFG.LOG2_LEN n) then s else (s.wr (Reg.CMD.RING_STATUS.PEND_LOG2 n) v).wr (Reg.CMD.RING_STATUS.RING_PEND n) 1)) ∧
  (∀ (n v : Nat) (s : State),
    n < 4 →
    s.domOn 1 = true →
    4 ≤ v →
    v ≤ 12 →
    s.isSet (Reg.CMD.RING_CFG.EN n) = false →
    exec (.ringLengthWrite n v) s = .next (if v = s.rd (Reg.CMD.RING_CFG.LOG2_LEN n) then s else s.wr (Reg.CMD.RING_CFG.LOG2_LEN n) v)) ∧
  (∀ (n : Nat) (s : State),
    n < 4 →
    s.domOn 1 = true →
    exec (.ringCancel n) s = .next (s.wr (Reg.CMD.RING_STATUS.RING_PEND n) 0)) ∧
  -- RING_BASE_WRITE: base register r of SQ low, SQ high, CQ low, CQ high
  (∀ (n r v : Nat) (s : State),
    n < 4 →
    r < 4 →
    s.domOn 1 = true →
    s.isSet (Reg.CMD.RING_CFG.EN n) = false →
    exec (.ringBaseWrite n r v) s = .next (s.wr (ringBase n r) (v / 2 ^ (ringBase n r).lsb))) ∧
  (∀ (n r v : Nat) (s : State),
    n < 4 →
    r < 4 →
    s.domOn 1 = true →
    s.isSet (Reg.CMD.RING_CFG.EN n) = true →
    exec (.ringBaseWrite n r v) s = .next ((s.evt (Reg.CMD.RING_STATUS.CFG_ERR n)).evt Reg.CMD.EVENT.RING_ERR))

/-- Fetching an entry, writing a reply, and the ring rows that wait for an empty ring (03_commands.md, Submission entries and replies, 03_commands.md, PCIe rings, 03_commands.md, Order, timing and replies). -/
def Obligations.EntriesAndReplies : Prop :=
  -- RING_IDLE
  (∀ (n : Nat) (s : State),
    n < 4 →
    s.domOn 1 = true →
    s.isSet (Reg.CMD.RING_CFG.EN n) = false →
    s.rd (Reg.CMD.RING_STATUS.OUTSTANDING n) = 0 →
    exec (.ringIdle n) s = .next (s.wr (Reg.CMD.RING_STATUS.IDLE n) 1)) ∧
  -- RING_LENGTH_APPLY
  (∀ (n : Nat) (s : State),
    n < 4 →
    s.isSet (Reg.CMD.RING_STATUS.RING_PEND n) = true →
    exec (.ringLengthApply n) s = .next (if s.ringEmpty n then
      ((s.wr (Reg.CMD.RING_CFG.LOG2_LEN n) (s.rd (Reg.CMD.RING_STATUS.PEND_LOG2 n))).wr (Reg.CMD.RING_STATUS.RING_PEND n) 0).zeroRing n else s)) ∧
  -- ENTRY_FETCH, and a fetch whose read fails
  (∀ (n ns : Nat) (blk : Bool) (bad : List Nat) (s : State),
    n < 4 →
    s.mayFetch n = true →
    exec (.entryFetch n (some ns) blk bad) s = .next (
      let r := s.ring n
      let head := s.rd (Reg.CMD.RING_SQ_HEAD.INDEX n)
      let sq := s.ringAddr (Reg.CMD.RING_SQ_BASE_LO.ADDR_LO n) (Reg.CMD.RING_SQ_BASE_HI.ADDR_HI n)
      let taken := s.setRing n { r with
        resv := (r.resv + 1) % s.ringLen n, phase := if r.resv + 1 = s.ringLen n then !r.phase else r.phase }
      ((taken.wr (Reg.CMD.RING_SQ_HEAD.INDEX n) ((head + 1) % s.ringLen n)).bump (Reg.CMD.RING_STATUS.OUTSTANDING n)).takeEntry
        (.ring n r.resv r.phase) ns (s.hostMem.readN (sq + 64 * head) 64) blk bad)) ∧
  (∀ (n ns : Nat) (blk : Bool) (bad : List Nat) (s : State),
    n < 4 →
    s.mayFetch n = true →
    exec (.entryFetch n none blk bad) s = .next
      (((s.setRing n { s.ring n with stopped := true }).evt (Reg.CMD.RING_STATUS.FETCH_ERR n)).evt Reg.CMD.EVENT.RING_ERR)) ∧
  -- REPLY_WRITE of a ring reply, with no CQ_TAIL write-back
  (∀ (i n slot : Nat) (phase : Bool) (r : Reply) (s : State),
    n < 4 →
    s.isSet Reg.CMD.STATUS.FW_READY = true →
    s.coreOff 1 = false →
    s.xp.replies[i]? = some r →
    r.via = .ring n slot phase →
    s.rd (Reg.CMD.RING_STATUS.OUTSTANDING n) ≠ 0 →
    s.isSet (Reg.CMD.RING_CFG.WB_EN n) = false →
    ∃ t, exec (.replyWrite i false) s = .next t ∧
      t.hostMem = s.hostMem.writeN
        (s.ringAddr (Reg.CMD.RING_CQ_BASE_LO.ADDR_LO n) (Reg.CMD.RING_CQ_BASE_HI.ADDR_HI n) + 32 * slot) (r.bytes phase) ∧
      t.rd (Reg.CMD.RING_STATUS.OUTSTANDING n) = s.rd (Reg.CMD.RING_STATUS.OUTSTANDING n) - 1 ∧
      t.xp.replies = s.xp.replies.eraseIdx i ∧ t.xp.fwdOut = s.xp.fwdOut ∧ t.led = s.led ∧ t.eng = s.eng ∧ t.due = s.due) ∧
  -- REPLY_WRITE past its bound
  (∀ (i : Nat) (s : State),
    i < s.xp.replies.length →
    s.isSet Reg.CMD.STATUS.FW_READY = true →
    s.coreOff 1 = false →
    exec (.replyWrite i true) s = .next (((s.replyWrite i).bump Reg.CMD.OVERRUN.OVERRUN_CNT).evt Reg.CMD.EVENT.OVERRUN))

/-- The SPI target: status, submissions with their CRC, replies with theirs, and the 64 KiB buffer (03_commands.md, SPI target). -/
def Obligations.SpiTarget : Prop :=
  (∀ (s : State),
    s.spiOn = true →
    exec .spiReadStatus s = .next (s.emit (.spiOut (toLe 4 s.spiStatus.toNat)))) ∧
  (∀ (ns : Nat) (data : List Byte) (s : State),
    s.spiOn = true →
    data.length = 66 →
    crcBytes (data.take 64) = data.drop 64 →
    0 < s.xp.spiSubs.length →
    s.xp.spiSubs.length < 16 →
    exec (.spiWriteSub ⟨2, ns⟩ data) s = .next
      (let s1 := (s.wr Reg.CMD.SPI_STATUS.FRAME_ERR 0).wr Reg.CMD.SPI_STATUS.OVERFLOW 0
       { s1 with xp := { s1.xp with spiSubs := s.xp.spiSubs ++ [(ns, data.take 64)] } })) ∧
  (∀ (ns : Nat) (data : List Byte) (s : State),
    s.spiOn = true →
    data.length = 66 →
    crcBytes (data.take 64) = data.drop 64 →
    s.xp.spiSubs = [] →
    s.spiQueued < 16 →
    exec (.spiWriteSub ⟨2, ns⟩ data) s = .next
      (((s.wr Reg.CMD.SPI_STATUS.FRAME_ERR 0).wr Reg.CMD.SPI_STATUS.OVERFLOW 0).takeEntry .spi ns (data.take 64) true [])) ∧
  (∀ (ns : Nat) (data : List Byte) (s : State),
    s.spiOn = true →
    data.length ≠ 66 ∨ crcBytes (data.take 64) ≠ data.drop 64 →
    exec (.spiWriteSub ⟨2, ns⟩ data) s = .next ((s.evt Reg.CMD.SPI_STATUS.FRAME_ERR).evt Reg.CMD.EVENT.SPI_ERR)) ∧
  (∀ (ns : Nat) (data : List Byte) (s : State),
    s.spiOn = true →
    data.length = 66 →
    crcBytes (data.take 64) = data.drop 64 →
    16 ≤ s.xp.spiSubs.length →
    exec (.spiWriteSub ⟨2, ns⟩ data) s = .next ((s.evt Reg.CMD.SPI_STATUS.OVERFLOW).evt Reg.CMD.EVENT.SPI_ERR)) ∧
  (∀ (s : State),
    s.spiOn = true →
    s.xp.spiReplies = [] →
    exec (.spiReadReply true) s = .next (s.emit (.spiOut (List.replicate 34 0xFF)))) ∧
  (∀ (full : Bool) (r : List Byte) (rest : List (List Byte)) (s : State),
    s.spiOn = true →
    s.xp.spiReplies = r :: rest →
    s.xp.spiSubs = [] →
    exec (.spiReadReply full) s = .next
      (let s1 := s.emit (.spiOut (r ++ crcBytes r))
       { s1 with xp := { s1.xp with spiReplies := if full then rest else s.xp.spiReplies } })) ∧
  (∀ (off : Nat) (data : List Byte) (s : State),
    s.spiOn = true →
    off + data.length ≤ 0x10000 →
    exec (.spiWriteBuf off data) s = .next { s with xp := { s.xp with spiBuf := s.xp.spiBuf.writeN off data } }) ∧
  (∀ (off len : Nat) (s : State),
    s.spiOn = true →
    exec (.spiReadBuf off len) s = .next (s.emit (.spiOut ((List.range len).map (fun i => s.xp.spiBuf.read ((off + i) % 0x10000))))))

/-- Forwarded and twin commands, their timeouts, forwarded frames, and core watchdogs (02_ledger.md, Contracts across devices, 03_commands.md, The Cormo controller, 03_commands.md, Forwarding over the mesh, 03_commands.md, Order, timing and replies, 14_twin_and_mesh.md, Frames, 17_interrupts_mailboxes.md, Locks). -/
def Obligations.ForwardingAndCores : Prop :=
  (∀ (op src : Nat) (h : Hdr) (p : List Byte) (s : State),
    h.via = .mesh src →
    s.isSet Reg.CMD.STATUS.FW_READY = true →
    h.target.toNat = s.meshId →
    s.underWay h = false →
    s.xp.fwdRec.find? (fun r => r.src == src && r.seq == h.seq) = none →
    exec (.forwardedCommandReceive op h p) s = .next (s.start op h p)) ∧
  (∀ (op src : Nat) (h : Hdr) (p : List Byte) (r : FwdRecord) (s : State),
    h.via = .mesh src →
    s.isSet Reg.CMD.STATUS.FW_READY = true →
    h.target.toNat = s.meshId →
    s.underWay h = false →
    s.xp.fwdRec.find? (fun r => r.src == src && r.seq == h.seq) = some r →
    exec (.forwardedCommandReceive op h p) s = .next (s.emit (.meshReply src h.seq r.status r.effect r.result r.bufs))) ∧
  (∀ (src status eff : Nat) (seq : Word) (result : List Byte) (bufs : List (Nat × List Byte)) (f : Forwarded) (s : State),
    s.isSet Reg.CMD.STATUS.FW_READY = true →
    s.xp.fwdOut.find? (fun f => f.h.target.toNat == src && f.h.seq == seq) = some f →
    exec (.forwardedReplyReceive src seq status eff result bufs) s = .next
      (let s1 := bufs.foldl (fun t b => t.writeBuf f.h b.1 b.2) { s with xp := { s.xp with fwdOut := s.xp.fwdOut.erase f } }
       { s1 with xp := { s1.xp with
          replies := s1.xp.replies ++ [⟨f.h.via, f.h.seq, status, src, eff, fitTo 16 result, f.h.irq, false⟩] } })) ∧
  (∀ (dst : Nat) (seq : Word) (f : Forwarded) (s : State),
    s.xp.fwdOut.find? (fun f => f.h.target.toNat == dst && f.h.seq == seq) = some f →
    exec (.forwardTimeout dst seq) s = .next
      (({ s with xp := { s.xp with fwdOut := s.xp.fwdOut.erase f } } : State).answer f.h Sts.unreachable 0 [])) ∧
  (∀ (k ty dst : Nat) (f : DFrame) (s : State),
    s.carries k ty = true →
    dst ≠ 0 →
    dst ≠ s.meshId →
    exec (.frameForward k ty dst f) s = .next (s.forwardFrame k ty dst f)) ∧
  (∀ (k ty dst : Nat) (f : DFrame) (r : Route) (s : State),
    3 ≤ ty ∧ ty ≤ 6 →
    0 < f.hops →
    s.route dst = some r →
    s.linkUp r.link = true →
    (s.rd (Reg.DOLMET.LINK_STATUS.ROLE r.link) ≠ 4 → (ty ≠ 6 ∨ s.linkState r.link = 3) →
        s.forwardFrame k ty dst f = s.emit (.frame r.link ty ([f.src, dst, f.hops - 1, f.cid] ++ f.data.map (·.toNat)))) ∧
      (s.rd (Reg.DOLMET.LINK_STATUS.ROLE r.link) = 4 → 5 ≤ ty → s.forwardFrame k ty dst f = s) ∧
      s.forwardFrame k ty dst { f with hops := 0 } = s.bump (Reg.DOLMET.LINK_CNT.HOP_DROP_CNT k)) ∧
  -- TWIN_COMMAND_RECEIVE of an opcode but MOLT_COMMIT that this device decides at once: accepted (nothing is committed), refused
  (∀ (op floor st eff : Nat) (h : Hdr) (p r : List Byte) (s : State),
    s.isSet Reg.CMD.STATUS.FW_READY = true →
    s.paired = true →
    s.coreHeld op { h with via := .mesh s.twin.partner } = false →
    op ≠ 0x0703 →
    opFlags op &&& 8 ≠ 0 →
    (bodyOf op { h with via := .mesh s.twin.partner } p floor s).rep = some (st, eff, r) →
    exec (.twinCommandReceive op h p floor) s = .next (if st ≤ 2 then
        ({ s with xp := { s.xp with twinProv := s.xp.twinProv ++ [⟨op, { h with via := .mesh s.twin.partner }, p, s.now⟩] } } : State).emit
          (.twinAns h.seq true eff)
      else s.emit (.twinAns h.seq false 0))) ∧
  -- Of one whose body answers with the batch: the proposal it made is marked the partner’s
  (∀ (op floor : Nat) (h : Hdr) (p : List Byte) (a : State) (s : State),
    s.isSet Reg.CMD.STATUS.FW_READY = true →
    s.paired = true →
    s.coreHeld op { h with via := .mesh s.twin.partner } = false →
    op ≠ 0x0703 →
    opFlags op &&& 8 ≠ 0 →
    (bodyOf op { h with via := .mesh s.twin.partner } p floor s).rep = none →
    a = (bodyOf op { h with via := .mesh s.twin.partner } p floor s).st →
    exec (.twinCommandReceive op h p floor) s = .next { a with led := { a.led with
      props := a.led.props.map (fun x => if x.h = { h with via := .mesh s.twin.partner } then { x with partner := true } else x) } }) ∧
  -- TWIN_COMMAND_TIMEOUT at the sender; at the partner, which forgets what no one confirmed
  (∀ (seq : Word) (w : HeldCmd) (s : State),
    s.xp.twinWait.find? (fun w => w.h.seq == seq) = some w →
    exec (.twinCommandTimeout seq) s = .next
      ((({ s with xp := { s.xp with twinWait := s.xp.twinWait.erase w } } : State).emit (.twinAns seq false 0)).answer w.h Sts.unreachable 0 [])) ∧
  (∀ (seq : Word) (s : State),
    s.xp.twinWait.find? (fun w => w.h.seq == seq) = none →
    exec (.twinCommandTimeout seq) s = .next { s with xp := { s.xp with twinProv := s.xp.twinProv.filter (fun w => w.h.seq != seq) } }) ∧
  -- CORE_WATCHDOG_EXPIRY: the core restarts alone; a second restart within 256 ticks is a warm reset with fault 0x10
  (∀ (core : Nat) (s : State),
    1 ≤ core →
    core ≤ 4 →
    s.isSet Reg.CMD.STATUS.FW_READY = true →
    s.coreOff core = false →
    s.xp.restart.any (fun t => decide (s.now ≤ t + 256)) = false →
    exec (.coreWatchdogExpiry core) s = .next
      (let s1 := (((s.bump Reg.CMD.STATUS.RESTARTS).evt Reg.CMD.EVENT.CORE_RESTART).orphan core).coreAnswers core
       ({ s1 with xp := { s1.xp with restart := some s1.now, coreDown := setBit s1.xp.coreDown (core - 1) } } : State).showCores)) ∧
  (∀ (core t : Nat) (s : State),
    1 ≤ core →
    core ≤ 4 →
    s.isSet Reg.CMD.STATUS.FW_READY = true →
    s.coreOff core = false →
    s.xp.restart = some t →
    s.now ≤ t + 256 →
    exec (.coreWatchdogExpiry core) s = .next (((s.faultRecord 0x10 core 0 0 false).goSilent 0x10).warmReset))

/-- What reference events do to the source they name and to the reading of the tick number (01_tick_and_reference.md, The tick number, 01_tick_and_reference.md, Reference sources, 01_tick_and_reference.md, Changing reference). -/
def Obligations.ReferenceSources : Prop :=
  -- TICK_NUM_LO_READ
  (∀ (ns : Nat) (s : State),
    exec (.tickNumLoRead ns) s = .next
      ((((s.wr Reg.TICK.NUM_LO.NUM_LO s.now).wr Reg.TICK.NUM_HI.NUM_HI (s.now / 2 ^ 32)).wr Reg.TICK.SNAP.SLOT s.slot).wr
        Reg.TICK.SNAP.NS (min ns 65535))) ∧
  -- PTP_SYNC_RECEIVE, one-step and two-step
  (∀ (port : Nat) (m : PtpMsg) (s t : State),
    s.ptpOn port m.domain = true →
    (s.ref 1 m.domain port).master = some m.sender →
    -7 ≤ m.logInt →
    m.logInt ≤ -1 →
    t = (s.emit (.portMsg port 4 m.seq)).ranged 1 m.domain port { s.ref 1 m.domain port with
      logSync := m.logInt, delayReq := some (m.seq, m.rx), rxNs := m.rx, waitFollow := if m.twoStep then some m.seq else none } m.ppb →
    exec (.ptpSyncReceive port m) s = .next (if m.twoStep then t else
      (t.setRef 1 m.domain port { t.ref 1 m.domain port with
        alive := true, waitFollow := none, originNs := m.origin, rxNs := m.rx,
        offset := (m.rx : Int) - m.origin - (t.ref 1 m.domain port).pathNs }).refAvailable)) ∧
  -- PTP_FOLLOW_UP_RECEIVE and PTP_DELAY_RESP_RECEIVE
  (∀ (port dom sender seq origin : Nat) (s : State),
    (s.ref 1 dom port).master = some sender →
    (s.ref 1 dom port).waitFollow = some seq →
    exec (.ptpFollowUpReceive port ⟨dom, sender, seq⟩ origin) s = .next
      ((s.setRef 1 dom port { s.ref 1 dom port with
        alive := true, waitFollow := none, originNs := origin, rxNs := (s.ref 1 dom port).rxNs,
        offset := ((s.ref 1 dom port).rxNs : Int) - origin - (s.ref 1 dom port).pathNs }).refAvailable)) ∧
  (∀ (port dom sender seq rx tx : Nat) (s : State),
    (s.ref 1 dom port).master = some sender →
    (s.ref 1 dom port).delayReq = some (seq, tx) →
    exec (.ptpDelayRespReceive port ⟨dom, sender, seq⟩ rx) s = .next (s.setRef 1 dom port { s.ref 1 dom port with
        delayReq := none,
        pathNs := (((((s.ref 1 dom port).rxNs : Int) - (s.ref 1 dom port).originNs) + ((rx : Int) - tx)) / 2).toNat })) ∧
  -- PTP_ANNOUNCE_RECEIVE
  (∀ (port dom sender rx : Nat) (logInt : Int) (q : List Nat) (r : RefState) (s : State),
    s.ptpOn port dom = true →
    -3 ≤ logInt →
    logInt ≤ 1 →
    r = { s.ref 1 dom port with masters := SMap.insert sender q (s.ref 1 dom port).masters, master := bestMaster (SMap.insert sender q (s.ref 1 dom port).masters) } →
    exec (.ptpAnnounceReceive port dom ⟨sender, rx, logInt, q⟩) s = .next
      (let r1 : RefState := if r.master = some sender then { r with logAnn := logInt, annRx := rx } else r
       s.setRef 1 dom port (if r.master = (s.ref 1 dom port).master then r1 else { r1 with waitFollow := none, delayReq := none }))) ∧
  -- PTP_REFERENCE_LOST, DOLMET_REFERENCE_LOST, ANALOG_REFERENCE_LOST
  (∀ (port dom : Nat) (s : State),
    (s.ref 1 dom port).alive = true →
    s.ptpSilent (s.ref 1 dom port) = true →
    exec (.ptpReferenceLost ⟨dom, port⟩) s = .next ((s.setRef 1 dom port { s.ref 1 dom port with
        alive := false, master := none, masters := [], waitFollow := none, validRun := 0 }).sourceGone 1 dom port)) ∧
  (∀ (k : Nat) (s : State),
    (s.ref 4 0 k).alive = true →
    s.lossTicks ≤ (s.ref 4 0 k).miss ∨ s.linkUp k = false →
    exec (.dolmetReferenceLost k) s = .next
      ((s.setRef 4 0 k { s.ref 4 0 k with alive := false, fresh := false, miss := 0, validRun := 0 }).sourceGone 4 0 k)) ∧
  (∀ (i : Nat) (s : State),
    i < 2 →
    s.isSet (Reg.TICK.REF_STATUS.PRESENT i) = true →
    s.lossTicks ≤ (s.ref (2 + i) 0 0).miss →
    exec (.analogReferenceLost i) s = .next
      (((((s.wr (Reg.TICK.REF_STATUS.PRESENT i) 0).wr (Reg.TICK.REF_STATUS.FMT i) 0).bump (Reg.TICK.REF_STATUS.LOSS_CNT i)).setRef
        (2 + i) 0 0 {}).sourceGone (2 + i) 0 0)) ∧
  -- ANALOG_SYNC_APPEAR
  (∀ (i fmt frate : Nat) (s : State),
    i < 2 →
    exec (.analogSyncAppear i fmt frate) s = .next
      (let s1 := ((s.wr (Reg.TICK.REF_STATUS.PRESENT i) 1).wr (Reg.TICK.REF_STATUS.FMT i) fmt).wr (Reg.TICK.REF_STATUS.FRATE i) frate
       let s2 := s1.setRef (2 + i) 0 0 { s1.ref (2 + i) 0 0 with alive := true, inRange := true, miss := 0, anchor := none }
       if s2.isActive (2 + i) 0 0 ∧ ¬ compatible s2.rate frate then s2.loseActive else s2.refAvailable)) ∧
  -- REFERENCE_OUT_OF_RANGE
  (∀ (src dom index : Nat) (s : State),
    1 ≤ src →
    src ≤ 4 →
    exec (.referenceOutOfRange src ⟨dom, index⟩) s = .next (((s.setRef src dom index { s.ref src dom index with inRange := false, validRun := 0 }).evt
        Reg.TICK.EVENT.OUT_OF_RANGE).sourceGone src dom index))

/-- The slot and the tick advance, and the lock state, the active entry, a selection and a step change as their events say (01_tick_and_reference.md, Rates and slots, 01_tick_and_reference.md, The tick number, 01_tick_and_reference.md, Reference sources, 01_tick_and_reference.md, Lock states, holdover and slewing, 01_tick_and_reference.md, Changing reference, 01_tick_and_reference.md, Registers, 06_quinner_engines.md, Interrupts and exceptions). -/
def Obligations.TickAndLock : Prop :=
  -- SLOT_START
  (∀ (s : State),
    s.slot + 1 < s.slots →
    exec .slotStart s = .next
      (let s0 := (s.wr Reg.TICK.STATUS.SLOT (s.slot + 1)).freeTiles
       let s1 := if s0.domOn 3 then s0.xbarSlot else s0
       if s.domOn 1 then
         let s2 := s1.upLinks.foldl State.heartbeat s1
         if s2.slot = 1 ∧ s2.rd Reg.TWIN.CFG.ROLE ≠ 0 then s2.sendDigest else s2
       else s1)) ∧
  -- ACQUISITION_COUNT_MET
  (∀ (s : State),
    s.lock = 1 ∨ s.lock = 3 →
    s.activeEntry.isSome = true →
    s.rd Reg.TICK.LOCK_CFG.LOCK_COUNT ≤ s.tick.run →
    s.isSet Reg.TICK.STATUS.STEP_PEND = false →
    exec .acquisitionCountMet s = .next ((s.setLock 2).evt Reg.TICK.EVENT.LOCKED)) ∧
  -- REVERT_TO_ENTRY
  (∀ (e a : Nat) (s : State),
    s.tick.sel.revert = true →
    s.activeEntry = some a →
    e < a →
    s.entryValid (s.entry e) = true →
    s.rd Reg.TICK.LOCK_CFG.LOCK_COUNT ≤ (s.refOf (s.entry e)).validRun →
    exec (.revertToEntry a e) s = .next ((if s.lock = 2 ∧ s.window < (s.phaseOf (s.entry e)).natAbs then s.enterHoldover else s).switchTo e)) ∧
  -- HOLDOVER_LIMIT_EXPIRY
  (∀ (t : Int) (s : State),
    s.lock = 3 →
    s.rd Reg.TICK.HOLD_CFG.HOLDOVER_LIMIT ≠ 0 →
    s.tick.holding = some t →
    t + s.rd Reg.TICK.HOLD_CFG.HOLDOVER_LIMIT * 1000000000 ≤ s.edgeNs →
    exec .holdoverLimitExpiry s = .next ((s.setLock 0).evt Reg.TICK.EVENT.HOLDOVER_EXPIRED)) ∧
  -- REF_SELECT_APPLY
  (∀ (eff : Nat) (sel : RefSel) (s : State),
    s.tick.pend = some (eff, sel) →
    eff ≤ s.now →
    exec .refSelectApply s = .next (s.install sel)) ∧
  -- STEP_APPLY: in Flight with permission; outside Flight at the boundary after the one that found it
  (∀ (t : Nat) (s : State),
    s.tick.stepFrom = some t →
    (s.mode = 4 ∧ s.tick.sel.stepOk = true) ∨ (s.mode ≠ 4 ∧ t < s.now) →
    exec .stepApply s = .next
      (let s1 := if s.tick.stepNum ≠ 0 then (s.setNum ((s.now : Int) + s.tick.stepNum).toNat).wr Reg.TICK.STATUS.TIME_VALID 1 else s
       let s2 := (s1.wr Reg.TICK.STATUS.STEP_PEND 0).wr Reg.TICK.STATUS.SLEWING 0
       let s3 := State.noStep { s2 with tick := { s2.tick with edge := s2.tick.edge - s2.tick.stepNs * rateN s.rate, corr := 0 } }
       (if s3.mode = 4 then s3.holdForStep else s3).setStarts.evt Reg.TICK.EVENT.STEP_DONE)) ∧
  -- The number and the slot that the tick’s own part begins with
  (∀ (s : State),
    s.advance.now = (s.now + 1) % 2 ^ 64 ∧ s.advance.slot = 0) ∧
  -- The active entry is lost
  (∀ (s : State),
    s.loseActive = match s.bestEntry with
      | some i => (if s.lock = 2 then s.enterHoldover else s).switchTo i
      | none => if s.rd Reg.CLK.STATUS.SRC = 1 ∨ s.lock = 1 then (s.setLock 0).noEntry
          else if s.lock = 2 then s.enterHoldover.noEntry else s.noEntry) ∧
  -- What the boundary has brought about when, with the management domain on, the cores that restarted come back
  (∀ (e : Edge) (s : State),
    ∃ u : State, exec (.tickBoundary e) s = .next (if s.domOn 1 then u.coresBack.settle else u) ∧ u.now = (s.now + 1) % 2 ^ 64 ∧ u.slot = 0 ∧
      u.tick.lockCfg = none ∧ u.tick.holdCfg = none ∧
      u.reg Reg.TICK.LOCK_CFG = s.tick.lockCfg.getD (s.reg Reg.TICK.LOCK_CFG) ∧ u.reg Reg.TICK.HOLD_CFG = s.tick.holdCfg.getD (s.reg Reg.TICK.HOLD_CFG) ∧
      (∀ k, k < 256 → s.domOn 1 = true → s.engOn k = true → s.engState k = engRunning → (u.engine k).wait = false)) ∧
  -- With no core that restarted
  (∀ (s : State),
    s.xp.coreDown = 0 →
    s.coresBack = s ∧ s.settle.now = s.now ∧ s.settle.slot = s.slot) ∧
  -- Where the edge lies against the active entry: one period after the last one, at the frequency last measured and less the slew
  (∀ (s : State),
    s.advance.tick.edge = s.tick.edge + rateD s.rate * (1000000000 - s.tick.freq) - s.tick.corr * rateN s.rate)

/-- The contract commands, on a device that takes them: what each schedules, stores and answers (02_ledger.md, Admission, 02_ledger.md, Activation and delivery, 02_ledger.md, Commands, 03_commands.md, Order, timing and replies). -/
def Obligations.ContractCommands : Prop :=
  (∀ (h : Hdr) (p d : List Byte) (s t : State),
    s.takes 0x0301 h = true →
    t = s.stamped h →
    t.openBatch < 64 →
    t.readBuf h (u64 p 0) (min (u32 p 8) 1825) = some d →
    exec (.contractPropose h p) s = .next (t.addProp {
        h := h, desc := d, dry := h.dryRun, twin := h.twinApply, rcvd := t.now
        bad := !zeroFrom p 12 || h.spiBad (u64 p 0) (u32 p 8) })) ∧
  (∀ (h : Hdr) (p : List Byte) (s t : State),
    s.takes 0x0301 h = true →
    t = s.stamped h →
    64 ≤ t.openBatch →
    exec (.contractPropose h p) s = .next (t.answer h Sts.busy 0 [])) ∧
  (∀ (h : Hdr) (p : List Byte) (i first eff : Nat) (s t : State),
    s.takes 0x0302 h = true →
    t = s.stamped h →
    t.namedContract h (u32 p 0) = some i →
    t.mode = 4 →
    zeroFrom p 12 = true →
    (t.contract i).st = .admitted →
    (t.contract i).actTick = none →
    (t.contract i).d.preset = false →
    (t.contract i).d.actLimit = 0 →
    (t.contract i).path = [] →
    first = max (max ((t.contract i).admitTick + 2) (t.contract i).earliest) (max (t.now + 1) 0) →
    eff = (if u64 p 4 = 0 then first else u64 p 4) →
    first ≤ eff →
    exec (.contractActivate h p) s = .next
      ((((t.updContract i (fun c => { c with actTick := some eff })).schedule eff (.activate i)).showSwap).answer h Sts.ok eff [])) ∧
  (∀ (h : Hdr) (p : List Byte) (i : Nat) (s t : State),
    s.takes 0x0302 h = true →
    t = s.stamped h →
    t.namedContract h (u32 p 0) = some i →
    t.mode = 4 →
    u64 p 4 ≠ 0 →
    u64 p 4 < t.now + 1 →
    exec (.contractActivate h p) s = .next (t.answer h Sts.badParam 0 [])) ∧
  (∀ (h : Hdr) (p : List Byte) (i : Nat) (s t : State),
    s.takes 0x0303 h = true →
    t = s.stamped h →
    t.namedContract h (u32 p 0) = some i →
    zeroFrom p 12 = true →
    (t.contract i).st ≠ .releasing →
    (t.contract i).st ≠ .released →
    (t.contract i).relTick = none →
    (t.contract i).d.preset = false →
    (t.contract i).path = [] →
    exec (.contractRelease h p) s = .next
      (let eff := effTick (u64 p 4) (t.now + 1)
       (((t.updContract i (fun c => { c with relTick := some eff.1 })).schedule eff.1 (.release i)).showSwap).answer h eff.2 eff.1 [])) ∧
  (∀ (h : Hdr) (p : List Byte) (i : Nat) (s t : State),
    s.takes 0x0304 h = true →
    t = s.stamped h →
    t.namedContract h (u32 p 0) = some i →
    zeroFrom p 4 = true →
    exec (.contractQuery h p) s = .next (t.answer h Sts.ok (t.contract i).changeTick (t.contract i).record)) ∧
  (∀ (h : Hdr) (p : List Byte) (s t : State),
    s.takes 0x0305 h = true →
    t = s.stamped h →
    u8 p 12 = 0xFF →
    u8 p 14 ≤ 1 →
    zeroFrom p 15 = true →
    h.spiBad (u64 p 0) (u32 p 8) = false →
    (t.snapshot (u8 p 12) (u8 p 13) (bit (u8 p 14) 0)).length ≤ u32 p 8 →
    exec (.ledgerSnapshot h p) s = .next
      (let b := t.snapshot (u8 p 12) (u8 p 13) (bit (u8 p 14) 0)
       (t.writeBuf h (u64 p 0) b).answer h Sts.ok t.now (toLe 4 b.length))) ∧
  (∀ (h : Hdr) (p b : List Byte) (s t : State),
    s.takes 0x0306 h = true →
    t = s.stamped h →
    t.readBuf h (u64 p 0) (min (u32 p 8) 8225) = some b →
    t.led.props = [] →
    1 ≤ u16 p 12 →
    u16 p 12 ≤ 256 →
    zeroFrom p 14 = true →
    h.spiBad (u64 p 0) (u32 p 8) = false →
    t.costBad b = false →
    t.liveWhere (fun c => c.d.stages.any (fun g => g.kind != 3 && g.desc == u16 p 12)) = [] →
    exec (.descriptorRegister h p) s = .next
      (({ t with led := { t.led with costs := SMap.set (fun _ => ({} : CostDesc)) t.led.costs (u16 p 12) (parseCost b) } } : State).answer h
        Sts.ok 0 (toLe 2 (u16 p 12))))

/-- A batch admits or refuses what the checks say; cross-device proposals, votes, decisions, commits, aborts and queries (02_ledger.md, Contracts, 02_ledger.md, Admission, 02_ledger.md, Contracts across devices, 02_ledger.md, Commands, 14_twin_and_mesh.md, The mesh). -/
def Obligations.AdmissionAndVotes : Prop :=
  -- ADMISSION_BATCH of one local proposal, and what an admission enters
  (∀ (votes : List TwinVote) (x : Proposal) (s0 s : State),
    s.led.props = [x] →
    x.rcvd < s.now →
    s0 = { s with led := { s.led with props := [] } } →
    x.subst = none →
    x.twin = false →
    x.dry = false →
    x.owner = 0 →
    x.partner = false →
    x.part.xdev = false →
    s0.freeIndex.isSome = true →
    s.led.xprops = [] →
    exec (.admissionBatch votes) s = .next (
      let i := s0.freeIndex.getD 0
      (match s0.judge x with
        | .yes bound ch => (s0.newContract i (nextGen (s0.contract i).gen) x bound ch false).answer x.h Sts.ok s.now
            (okBytes (nextGen (s0.contract i).gen * 4096 + i) bound (s.now + 2))
        | .no st r => s0.answer x.h st s.now r).evt Reg.LEDGER.EVENT.BATCH_DONE)) ∧
  (∀ (s : State) (i gen bound : Nat) (x : Proposal) (ch : List Charge),
    ((s.newContract i gen x bound ch false).contract i).st = .admitted ∧ ((s.newContract i gen x bound ch false).contract i).charges = ch ∧
      ((s.newContract i gen x bound ch false).contract i).bound = bound ∧ ((s.newContract i gen x bound ch false).contract i).gen = gen ∧
      (∀ j, j ≠ i → (s.newContract i gen x bound ch false).contract j = s.contract j)) ∧
  -- XDEV_PROPOSAL_RECEIVE and XDEV_VOTE_RECEIVE
  (∀ (owner id n : Nat) (dry : Bool) (desc : List Byte) (s : State),
    exec (.xdevProposalReceive owner id n dry desc) s = .next (if 64 ≤ s.openBatch then s.emit (.xdev owner 2 id s.now [])
      else { s with led := { s.led with props := s.led.props ++
        [{ h := ⟨.mesh owner, 0, 0, 0, [], 0⟩, desc := desc, dry := dry, rcvd := min s.now n, owner := owner, ownerId := id }] } })) ∧
  (∀ (src id : Nat) (yes : Bool) (x : XProp) (s : State),
    s.led.xprops = [x] →
    (s.contract x.idx).id x.idx = id →
    exec (.xdevVoteReceive src id yes) s = .next { s with led := { s.led with
        xprops := [{ x with votes := x.votes.map (fun v => if v.1 = src ∧ v.2.isNone then (src, some yes) else v) }] } }) ∧
  -- XDEV_DECISION of one proposal that is not a dry run
  (∀ (x : XProp) (s : State),
    s.led.xprops = [x] →
    x.batch + 2 ≤ s.now →
    x.dry = false →
    (∀ v ∈ x.votes, v.2 = some true) →
    exec .xdevDecision s = .next
      (let id := (s.contract x.idx).id x.idx
       let s1 := ({ s with led := { s.led with xprops := [] } } : State).updContract x.idx (fun c => { c with
          prov := false, st := .admitted, admitTick := s.now, changeTick := s.now, earliest := x.batch + 4 })
       ((x.votes.foldl (fun w v => w.emit (.xdev v.1 3 id s.now [])) s1).answer x.h Sts.ok s.now (okBytes id x.bound (x.batch + 4))).evt
        Reg.LEDGER.EVENT.BATCH_DONE)) ∧
  (∀ (x : XProp) (dev : Nat) (v : Option Bool) (s : State),
    s.led.xprops = [x] →
    x.batch + 2 ≤ s.now →
    x.dry = false →
    x.votes.find? (fun v => v.2 != some true) = some (dev, v) →
    exec .xdevDecision s = .next
      (let id := (s.contract x.idx).id x.idx
       let s1 := ({ s with led := { s.led with xprops := [] } } : State).dropContract x.idx
       (((x.votes.foldl (fun w v => w.emit (.xdev v.1 4 id s.now [])) s1).evt Reg.LEDGER.EVENT.XDEV_ABORT).answer x.h
        (if v = some false then Sts.disagrees else Sts.unreachable) s.now (failBytes 0 0 0xFFFF 0 dev)).evt Reg.LEDGER.EVENT.BATCH_DONE)) ∧
  -- XDEV_COMMIT_RECEIVE and XDEV_ABORT_RECEIVE
  (∀ (owner id i : Nat) (s : State),
    s.ownedBy owner id = some i →
    (s.contract i).prov = true →
    exec (.xdevCommitReceive owner id) s = .next
      (let s1 := s.updContract i (fun c => { c with prov := false, st := .admitted, admitTick := s.now, changeTick := s.now })
       { s1 with led := { s1.led with asking := SMap.erase i s1.led.asking } })) ∧
  (∀ (owner id i : Nat) (s : State),
    s.ownedBy owner id = some i →
    (s.contract i).prov = true →
    exec (.xdevAbortReceive owner id) s = .next
      (let s1 := (s.dropContract i).evt Reg.LEDGER.EVENT.XDEV_ABORT
       { s1 with led := { s1.led with asking := SMap.erase i s1.led.asking } })) ∧
  -- XDEV_OWNER_QUERY, XDEV_QUERY_RECEIVE and XDEV_QUERY_TIMEOUT
  (∀ (i : Nat) (c : Contract) (s : State),
    s.provFor = [(i, c)] →
    c.provTick + 2 < s.now →
    SMap.get (fun _ => 0) s.led.asking i = 0 →
    exec .xdevOwnerQuery s = .next
      ((({ s with led := { s.led with asking := SMap.insert i s.now s.led.asking } } : State).evt Reg.LEDGER.EVENT.XDEV_ABORT).emit
        (.xdev c.owner 5 c.ownerId s.now []))) ∧
  (∀ (src id i : Nat) (s : State),
    s.findContract id = some i →
    (s.contract i).prov = false →
    exec (.xdevQueryReceive src id) s = .next (s.emit (.xdev src (if (s.contract i).st = .released then 4 else 3) id s.now []))) ∧
  (∀ (src id : Nat) (s : State),
    s.findContract id = none →
    exec (.xdevQueryReceive src id) s = .next (s.emit (.xdev src 4 id s.now []))) ∧
  (∀ (i a : Nat) (c : Contract) (s : State),
    s.provFor = [(i, c)] →
    SMap.get (fun _ => 0) s.led.asking i = a →
    a ≠ 0 →
    a + 16 ≤ s.now →
    exec .xdevQueryTimeout s = .next
      (let u1 := ((s.dropContract i).evt Reg.LEDGER.EVENT.XDEV_ABORT).evt Reg.MESH.EVENT.XDEV_ABORT
       { u1 with led := { u1.led with asking := SMap.erase i u1.led.asking, dropped := u1.led.dropped ++ [(c.owner, c.ownerId)] } }))

/-- Activation, release, limits, holds and postures change a contract as R54 and R55 say, at their tick (02_ledger.md, Contracts, 02_ledger.md, Postures, 02_ledger.md, Activation and delivery, 03_commands.md, Order, timing and replies). -/
def Obligations.ContractLife : Prop :=
  -- CONTRACT_ACTIVATION of one activation due, and nothing else
  (∀ (eff i : Nat) (st : Nat × Nat) (s : State),
    s.dueNow = [⟨eff, .activate i, st⟩] →
    exec .contractActivation s = .next (s.undue.activate i).settle) ∧
  (∀ (i : Nat) (s : State),
    (s.contract i).st = .admitted →
    s.lostNow (s.contract i).d = [] →
    s.activate i = ((s.updContract i (fun c => { c with
        st := .active, changeTick := s.now, actTick := none, lost := [], since := s.tick.edge, actAt := s.now })).startStages i).dropHeld i) ∧
  (∀ (i k : Nat) (l : List Nat) (s : State),
    (s.contract i).st = .admitted →
    s.lostNow (s.contract i).d = k :: l →
    s.activate i = (((s.updContract i (fun c => { c with
        st := .active, changeTick := s.now, actTick := none, lost := k :: l, since := s.tick.edge, actAt := s.now })).startStages i).dropHeld i).enterStarved i) ∧
  -- CONTRACT_RELEASE_APPLY of one release due, and nothing else
  (∀ (eff i : Nat) (st : Nat × Nat) (s : State),
    s.dueNow = [⟨eff, .release i, st⟩] →
    exec .contractReleaseApply s = .next (s.undue.applyRelease i).settle) ∧
  -- The end of an ACTIVE contract; of a STARVED or HELD one, which it leaves
  (∀ (i : Nat) (s : State),
    (s.contract i).st = .active →
    s.endContract i = s.updContract i (fun c => { c with st := .releasing, changeTick := s.now, relTick := none, holds := [] })) ∧
  (∀ (i : Nat) (s : State),
    (s.contract i).st = .starved ∨ (s.contract i).st = .held →
    s.endContract i = (s.updContract i (fun c => { c with st := .releasing, changeTick := s.now, relTick := none, holds := [] })).evt
      Reg.LEDGER.EVENT.RESUMED) ∧
  -- ACT_LIMIT_EXPIRY of the one ADMITTED contract
  (∀ (i t : Nat) (s : State),
    s.inSt (fun c => c == .admitted) = [i] →
    (s.contract i).expiry = some t →
    t ≤ s.now →
    (s.contract i).actTick = none →
    exec .actLimitExpiry s = .next ((s.releaseContract i).evt Reg.LEDGER.EVENT.ACT_EXPIRED).settle) ∧
  -- RELEASING_COMPLETE
  (∀ (i : Nat) (s : State),
    (s.contract i).st = .releasing →
    exec (.releasingComplete i) s = .next (s.releaseContract i).settle) ∧
  -- HOLD_END of the one HELD contract, with every cause over
  (∀ (i : Nat) (s : State),
    s.inSt (fun c => c == .held) = [i] →
    (s.contract i).st = .held →
    (s.contract i).holds ≠ [] →
    (∀ x ∈ (s.contract i).holds, x.2.any (fun t => decide (t ≤ s.now)) = true) →
    exec .holdEnd s = .next
      (let s1 := s.updContract i (fun c => { c with holds := [] })
       ((if (s.contract i).lost = [] then s1.setCSt i .active else s1.enterStarved i).evt Reg.LEDGER.EVENT.RESUMED).settle)) ∧
  -- POSTURE_APPLY of one change due, and nothing else
  (∀ (eff p c : Nat) (m : List Nat) (st : Nat × Nat) (s : State),
    s.dueNow = [⟨eff, .posture p c m, st⟩] →
    exec .postureApply s = .next (s.undue.setPosture p c m).settle) ∧
  -- POSTURE_SET
  (∀ (h : Hdr) (p : List Byte) (m : List Nat) (s t : State),
    s.takes 0x0203 h = true →
    t = s.stamped h →
    t.posturePending = false →
    u8 p 0 ≤ 1 →
    u8 p 1 = 0 →
    u16 p 2 = 0 →
    u32 p 4 = 0 →
    zeroFrom p 16 = true →
    t.markFor ⟨u8 p 0, t.led.capMw, t.opLow⟩ [] [] = some m →
    exec (.postureSet h p) s = .next
      (let eff := effTick (u64 p 8) (t.now + 2)
       (((t.wr Reg.LEDGER.STATUS.POST_PEND 1).schedule eff.1 (.posture (u8 p 0) t.led.capMw m)).answer h eff.2 eff.1
        ([BitVec.ofNat 8 (u8 p 0), 0, 0, 0] ++ toLe 4 m.length))))

/-- An output unit leaves in time, late, or as substitute content, and a miss is counted (02_ledger.md, Activation and delivery, 05_takes.md, Switchable egresses and presets). -/
def Obligations.OutputUnits : Prop :=
  -- A unit in its time: what it sends
  (∀ (i dst : Nat) (u : UnitTx) (sub : Bool) (h : HoldBuf) (s s1 : State),
    (s.contract i).runs = true →
    (s.contract i).d.typ ≠ 5 →
    s.unitEarly (s.contract i) u = false →
    s.unitLate (s.contract i) u = false →
    s.txStopped ((s.contract i).d.dsts.getD dst {}) = false →
    h = s.holdBufOf (egKey i dst) →
    sub = s.substituted i dst u h false →
    s1 = s.setHoldBuf (egKey i dst) (h.after ((s.contract i).d.dsts.getD dst {}) u sub) →
    s.isPresetAt i dst (u.frame * rateN s.rate) = false →
    exec (.outputUnitSend i dst u.num u.at_ u.last u.payload u.toUnitBody) s = .next (s1.putUnit i dst u false sub
      (if sub then substContent (s.contract i).d.subst ((s.contract i).d.dsts.getD dst {}) h u.line u.payload else some u.payload))) ∧
  -- A late unit: the miss it counts, and what it sends
  (∀ (i dst : Nat) (u : UnitTx) (sub : Bool) (h : HoldBuf) (s s1 : State),
    (s.contract i).runs = true →
    (s.contract i).d.typ ≠ 5 →
    s.unitEarly (s.contract i) u = false →
    s.unitLate (s.contract i) u = true ∨ s.txStopped ((s.contract i).d.dsts.getD dst {}) = true →
    h = s.holdBufOf (egKey i dst) →
    sub = s.substituted i dst u h true →
    s1 = (if s.countsLate (s.contract i) u then s.countMiss i dst else s).setHoldBuf (egKey i dst) (h.after ((s.contract i).d.dsts.getD dst {}) u sub) →
    s.isPresetAt i dst (u.frame * rateN s.rate) = false →
    exec (.outputUnitSend i dst u.num u.at_ u.last u.payload u.toUnitBody) s = .next (s1.putUnit i dst u true sub
      (if sub then substContent (s.contract i).d.subst ((s.contract i).d.dsts.getD dst {}) h u.line
          (if ((s.contract i).d.dsts.getD dst {}).kind = 1 then [] else u.payload)
        else some u.payload))) ∧
  -- A unit of the chain in the PRESET role
  (∀ (i dst : Nat) (u : UnitTx) (sub late : Bool) (h : HoldBuf) (s s1 : State),
    (s.contract i).runs = true →
    (s.contract i).d.typ ≠ 5 →
    s.unitEarly (s.contract i) u = false →
    s.unitLate (s.contract i) u = late →
    h = s.holdBufOf (egKey i dst) →
    sub = s.substituted i dst u h late →
    s1 = (if late && s.countsLate (s.contract i) u then s.countMiss i dst else s).setHoldBuf (egKey i dst) (h.after ((s.contract i).d.dsts.getD dst {}) u sub) →
    s.isPresetAt i dst (u.frame * rateN s.rate) = true →
    exec (.outputUnitSend i dst u.num u.at_ u.last u.payload u.toUnitBody) s = .next s1) ∧
  -- A unit whose reference lies before the contract’s activation
  (∀ (i dst : Nat) (u : UnitTx) (s : State),
    (s.contract i).runs = true →
    (s.contract i).d.typ ≠ 5 →
    s.unitEarly (s.contract i) u = true →
    exec (.outputUnitSend i dst u.num u.at_ u.last u.payload u.toUnitBody) s = .next s) ∧
  -- A TRANSFER’s unit
  (∀ (i dst : Nat) (u : UnitTx) (s : State),
    (s.contract i).runs = true →
    (s.contract i).d.typ = 5 →
    exec (.outputUnitSend i dst u.num u.at_ u.last u.payload u.toUnitBody) s = .next (s.updContract i (fun c => { c with moved := c.moved + u.payload.length }))) ∧
  -- What a unit sent leaves: the wire, and the report of the unit where it is not withheld
  (∀ (i dst : Nat) (u : UnitTx) (late sub : Bool) (s : State),
    s.withheld (s.contract i) = false →
    s.txStopped ((s.contract i).d.dsts.getD dst {}) = false →
    ∃ t, s.putUnit i dst u late sub none = t ∧ t.out = s.out ++ [.unit i dst u.num (if sub then 2 else if late then 1 else 0)] ∧ t.regs = s.regs) ∧
  -- What a counted miss records
  (∀ (i dst : Nat) (s : State),
    i < 4096 →
    dst < 16 →
    (s.countMiss i dst).rd Reg.LEDGER.MISS.DEADLINE_MISS = min (s.rd Reg.LEDGER.MISS.DEADLINE_MISS + 1) 0xFFFFFFFF ∧
      (s.countMiss i dst).rd Reg.LEDGER.MISS_LAST.INDEX = i ∧ (s.countMiss i dst).rd Reg.LEDGER.MISS_LAST.DST = dst ∧
      (s.countMiss i dst).rd Reg.LEDGER.EVENT.DEADLINE_MISS = 1 ∧
      ((s.countMiss i dst).contract i).miss = min ((s.contract i).miss + 1) 0xFFFFFFFF)

/-- Port, flow, substitution and reference commands: what each schedules and answers, on a device that takes them (01_tick_and_reference.md, Changing reference, 01_tick_and_reference.md, Commands, 03_commands.md, Order, timing and replies, 04_streams.md, Stream engines and flow tables, 04_streams.md, Commands). -/
def Obligations.StreamCommands : Prop :=
  -- PORT_CONFIG
  (∀ (h : Hdr) (p : List Byte) (s t : State),
    s.takes 0x0403 h = true →
    t = s.stamped h →
    t.portPresent (u16 p 0) = true →
    t.domOn 3 = true →
    (portLanes (u16 p 0) (parsePort p).kind).all (fun l => t.domOn (laneDom l)) = true →
    kindOk (u16 p 0) (parsePort p).kind = true →
    portRateBad (parsePort p) = false →
    u8 p 3 ≤ 31 →
    (parsePort p).idle ≤ 1 →
    u16 p 6 = 0 →
    u8 p 15 = 0 →
    zeroFrom p 32 = true →
    t.portHeld (u16 p 0) (parsePort p) = false →
    t.liveWhere (fun k => t.usesPort k (u16 p 0)) = [] →
    exec (.portConfig h p) s = .next ((t.schedule (t.now + 1) (.port (u16 p 0) (parsePort p))).answer h Sts.ok (t.now + 1) [])) ∧
  -- FLOW_ADD of an ingress and of an egress flow
  (∀ (h : Hdr) (p b : List Byte) (eg : Bool) (i : Nat) (s t : State),
    s.takes 0x0401 h = true →
    t = s.stamped h →
    t.readBuf h (u64 p 0) (min (u32 p 8) 128) = some b →
    (u8 b 0 == 1) = eg →
    (parseFlow b).legList.all (fun l => t.portPresent l.port && t.portOn l.port) = true →
    u32 p 8 = 128 →
    zeroFrom p 12 = true →
    h.spiBad (u64 p 0) 128 = false →
    t.flowBad b = false →
    t.freeFlow (if eg then 1024 else 0) = some i →
    t.heldCount (if eg then 8 else 7) + 1 ≤ t.limit t.envNow (if eg then 8 else 7) 0 0 →
    exec (.flowAdd h p) s = .next
      (let s1 := (t.setFlow i (parseFlow b)).schedule (t.now + 1) (.flowAdd i)
       (if eg then s1 else s1.joinMsgs (parseFlow b) 0 none).answer h
        Sts.ok (t.now + 1) (toLe 2 (i % 1024) ++ [BitVec.ofNat 8 (if t.ident.variant = 3 then 0 else streamEngine (parseFlow b).legA.port)]))) ∧
  -- FLOW_REMOVE
  (∀ (h : Hdr) (p : List Byte) (i : Nat) (s t : State),
    s.takes 0x0402 h = true →
    t = s.stamped h →
    u8 p 0 ≤ 1 →
    u8 p 1 = 0 →
    u16 p 2 < 1024 →
    zeroFrom p 4 = true →
    i = (if u8 p 0 = 1 then 1024 else 0) + u16 p 2 →
    (t.flow i).used = true →
    (t.flow i).removing = false →
    (∀ q ∈ (t.flow i).ports, t.portOn q = true) →
    t.liveWhere (fun c => (if u8 p 0 == 1 then c.d.dsts else c.d.srcs).any (fun e => t.isLocal e.dev && e.kind == 2 && e.index == u16 p 2)) = [] →
    exec (.flowRemove h p) s = .next
      (((t.setFlow i { t.flow i with removing := true }).schedule (t.now + 1) (.flowRemove i)).answer h Sts.ok (t.now + 1) [])) ∧
  -- SUBST_POLICY
  (∀ (h : Hdr) (p : List Byte) (i : Nat) (s t : State),
    s.takes 0x0404 h = true →
    t = s.stamped h →
    t.namedContract h (u32 p 0) = some i →
    u8 p 4 ≤ 3 →
    (u8 p 4 = 2 → (t.contract i).d.srcs.any (fun e => e.backup) = true) →
    u8 p 5 ≤ 1 →
    u16 p 6 = 0 →
    zeroFrom p 16 = true →
    (t.contract i).st ≠ .releasing →
    (t.contract i).st ≠ .released →
    exec (.substPolicy h p) s = .next
      (if (t.contract i).addsHold (u8 p 4) then
        t.addProp { h := h, desc := [], rcvd := t.now, subst := some (i, u8 p 4, u8 p 5), substTick := u64 p 8 }
       else
        (let eff := effTick (u64 p 8) (t.now + 1)
         (t.schedule eff.1 (.subst i (u8 p 4) (u8 p 5 == 1))).answer h eff.2 eff.1 [BitVec.ofNat 8 (u8 p 4)]))) ∧
  -- REF_SELECT
  (∀ (h : Hdr) (p : List Byte) (s t : State),
    s.takes 0x0405 h = true →
    t = s.stamped h →
    t.isSet Reg.TICK.STATUS.SEL_PEND = false →
    (parseRefSel p).entries.any t.entryAbsent = false →
    (parseRefSel p).entries.any t.entryOff = false →
    refSelBad t p (parseRefSel p) = false →
    t.cadenceInUse (parseRefSel p) = false →
    (parseRefSel p).rate = t.rate ∨ t.live = [] →
    (parseRefSel p).setTick = false ∨ t.mode ≠ 4 ∨ (parseRefSel p).stepOk = true →
    exec (.refSelect h p) s = .next
      (let eff := t.now + (if t.slot + 1 < t.slots then 1 else 2)
       let s0 := t.wr Reg.TICK.STATUS.SEL_PEND 1
       ({ s0 with tick := { s0.tick with pend := some (eff, parseRefSel p) } } : State).answer h Sts.ok eff
        ([BitVec.ofNat 8 t.lock, BitVec.ofNat 8 ((t.activeEntry).getD 0xFF), 0, 0] ++ toLe 4 (t.rd Reg.TICK.PHASE_ERR.ERR)))) ∧
  -- TICK_STATUS
  (∀ (h : Hdr) (s t : State),
    s.takes 0x0406 h = true →
    t = s.stamped h →
    exec (.tickStatus h []) s = .next (t.answer h Sts.ok 0 (toLe 8 t.now ++ toLe 2 t.slot ++
        [BitVec.ofNat 8 t.lock, BitVec.ofNat 8 (t.rd Reg.TICK.STATUS.SRC)] ++ toLe 4 (t.rd Reg.TICK.PHASE_ERR.ERR)))) ∧
  -- PORT_CONFIG_APPLY, FLOW_ADD_APPLY, FLOW_REMOVE_APPLY and SUBST_POLICY_APPLY of one change due, and nothing else
  (∀ (eff p : Nat) (c : PortCfg) (st : Nat × Nat) (s : State),
    s.dueNow = [⟨eff, .port p c, st⟩] →
    exec .portConfigApply s = .next (s.undue.applyPort p c)) ∧
  (∀ (eff i : Nat) (st : Nat × Nat) (s : State),
    s.dueNow = [⟨eff, .flowAdd i, st⟩] →
    exec .flowAddApply s = .next ((s.undue.setFlow i { s.flow i with valid := (s.flow i).used }).setDyn i {}).settle) ∧
  (∀ (eff i : Nat) (st : Nat × Nat) (s : State),
    s.dueNow = [⟨eff, .flowRemove i, st⟩] →
    exec .flowRemoveApply s = .next
      (let s1 := (s.undue.setFlow i {}).setDyn i {}
       if i < 1024 then s1.joinMsgs (s.flow i) 1 none else s1).settle) ∧
  (∀ (eff i pol : Nat) (nr : Bool) (st : Nat × Nat) (s : State),
    s.dueNow = [⟨eff, .subst i pol nr, st⟩] →
    exec .substPolicyApply s = .next (s.undue.applySubst i pol nr).settle) ∧
  -- What a change of policy leaves
  (∀ (i pol : Nat) (nr : Bool) (s : State),
    (s.contract i).st ≠ .released →
    ∃ t, s.applySubst i pol nr = t ∧ (t.contract i).d.subst = pol ∧ (t.contract i).charges = s.redemand i pol ∧
      t.strm.noRevert = (if nr then sortNat (i :: s.strm.noRevert) else s.strm.noRevert.filter (· != i)) ∧ t.regs = s.regs)

/-- Loss and return of SDI inputs and IP flows, lines and packets received, and backups (02_ledger.md, Contracts, 04_streams.md, SDI, 04_streams.md, Ethernet and IP, 04_streams.md, Source loss and substitution). -/
def Obligations.SourceLossAndReturn : Prop :=
  -- SDI_SIGNAL_DETECT_DROP, SDI_TRS_TIMEOUT
  (∀ (port p : Nat) (s : State),
    p = s.sdiPort port →
    s.sdiIn p = true →
    s.isSet (Reg.STRM.PORT_STATUS.SIG_DET p) = true →
    exec (.sdiSignalDetectDrop port) s = .next (((s.wr (Reg.STRM.PORT_STATUS.SIG_DET p) 0).portEvt p Reg.STRM.PORT_EVENT.SIG_LOST).portDown p)) ∧
  (∀ (port p : Nat) (s : State),
    p = s.sdiPort port →
    s.sdiIn p = true →
    s.isSet (Reg.STRM.PORT_STATUS.LOCKED p) = true →
    exec (.sdiTrsTimeout port) s = .next (s.portDown p)) ∧
  -- SDI_LINE_RECEIVE: a line in the locked format without ancillary packets; a line of another rate
  (∀ (port p : Nat) (x : SdiLine) (s : State),
    p = s.sdiPort port →
    s.sdiIn p = true →
    s.isSet (Reg.STRM.PORT_STATUS.LOCKED p) = true →
    x.rate = s.rd (Reg.STRM.PORT_STATUS.RATE p) →
    x.pid = some (s.rd (Reg.STRM.PORT_PID.FORMAT p)) →
    x.anc = [] →
    exec (.sdiLineReceive port x) s = .next
      (let s1 := if x.crcOk then s else (s.bump (Reg.STRM.PORT_ERR.CRC_CNT p)).portEvt p Reg.STRM.PORT_EVENT.CRC_ERR
       let s2 := if x.trsOk && x.numOk then s1 else (s1.bump (Reg.STRM.PORT_ERR.LINE_CNT p)).portEvt p Reg.STRM.PORT_EVENT.LINE_ERR
       let bad := !(x.crcOk && x.trsOk && x.numOk)
       let s3 := if bad then s2.noteNonconf (s2.onPort p) (s2.stampNs x.slot x.ns) else s2
       s3.passOn (s3.onPort p) (s.rd (Reg.STRM.PORT_PID.FORMAT p)) x.data
        { src := 160 + p / 4, line := x.line, slot := x.slot, ns := x.ns, flags := lflags x.first x.last x.second false bad })) ∧
  (∀ (port p : Nat) (x : SdiLine) (s : State),
    p = s.sdiPort port →
    s.sdiIn p = true →
    s.isSet (Reg.STRM.PORT_STATUS.LOCKED p) = true →
    x.rate ≠ s.rd (Reg.STRM.PORT_STATUS.RATE p) →
    exec (.sdiLineReceive port x) s = .next (s.portDown p)) ∧
  -- SDI_INPUT_LOCK where no contract uses the port
  (∀ (port p rate fmt : Nat) (pid : Bool) (s s3 : State),
    p = s.sdiPort port →
    s.sdiIn p = true →
    s.portOn p = true →
    1 ≤ rate →
    rate ≤ 9 →
    (s.port p).kind = 1 ∨ 8 ≤ rate →
    (s.port p).auto = true ∨ rate = (s.port p).txRate →
    s3 = (portLanes p (s.port p).kind).foldl (fun t l => (t.wr (Reg.LANE.STATUS.CDR_LOCK l) 1).setLinkUp l true)
      ((((((s.wr (Reg.STRM.PORT_STATUS.LOCKED p) 1).wr (Reg.STRM.PORT_STATUS.SIG_DET p) 1).wr (Reg.STRM.PORT_STATUS.RATE p) rate).flag
        (Reg.STRM.PORT_STATUS.PID_VALID p) pid).wr (Reg.STRM.PORT_PID.FORMAT p) fmt).portEvt p Reg.STRM.PORT_EVENT.LOCK) →
    s3.sourcesWhere (s3.onPort p) = [] →
    exec (.sdiInputLock port rate fmt pid) s = .next s3) ∧
  -- FLOW_LOSS_TIMEOUT, LEG_LOSS_TIMEOUT of one leg of two
  (∀ (i : Nat) (s : State),
    i < 1024 →
    (s.flow i).used = true →
    (s.flow i).valid = true →
    (s.flowDyn i).lost = false →
    exec (.flowLossTimeout i) s = .next ((s.setDyn i { s.flowDyn i with lostLegs := 2 ^ (s.flow i).legs - 1 }).flowLost i)) ∧
  (∀ (i leg : Nat) (s : State),
    i < 1024 →
    (s.flow i).used = true →
    (s.flow i).valid = true →
    (s.flow i).legs = 2 →
    leg < 2 →
    (s.flowDyn i).lostLegs = 0 →
    exec (.legLossTimeout i leg) s = .next
      (((s.setDyn i { s.flowDyn i with lostLegs := 2 ^ leg }).evt Reg.STRM.EVENT.LEG_LOST).wr Reg.STRM.FLOW_EVT.INDEX i)) ∧
  -- IP_PACKET_RECEIVE, inside a frame: the first copy of a video packet; a second copy of one on a flow of two legs
  (∀ (port i : Nat) (x : IpPkt) (s : State),
    i < 1024 →
    ipAccepted x (s.flow i) (if x.leg = 0 then (s.flow i).legA else (s.flow i).legB) = true →
    (s.flow i).used = true →
    (s.flow i).valid = true →
    x.leg < (s.flow i).legs →
    (if x.leg = 0 then (s.flow i).legA else (s.flow i).legB).port = port →
    s.portOn port = true →
    bit (s.flowDyn i).lostLegs x.leg = false →
    x.nonconf = false →
    (s.flowDyn i).seen.find? (fun e => e.1 == x.seq) = none →
    fmtAudio (s.flow i).format = false →
    x.last = false →
    exec (.ipPacketReceive port i x) s = .next
      (let d := s.flowDyn i
       let s1 := s.setDyn i { d with
        seen := if (s.flow i).legs = 2 then d.seen.filter (fun e => decide (x.us ≤ e.2 + 1000000)) ++ [(x.seq, x.us)] else []
        runs := (List.range 2).map (fun k => if k = x.leg then (d.runs.getD x.leg {}).next x else d.runs.getD k {}) }
       let eng := if s.ident.variant = 3 then 0 else streamEngine (s.flow i).legA.port
       s1.passOn (s1.onFlow i) (s.flow i).format x.data
        { src := 128 + 16 * eng + Config.xbarPick (128 + 16 * eng) i % 16, line := x.line, slot := x.slot, ns := x.ns
          flags := lflags x.first false x.second false false })) ∧
  (∀ (port i us : Nat) (x : IpPkt) (s : State),
    i < 1024 →
    ipAccepted x (s.flow i) (if x.leg = 0 then (s.flow i).legA else (s.flow i).legB) = true →
    (s.flow i).used = true →
    (s.flow i).valid = true →
    (s.flow i).legs = 2 →
    x.leg < 2 →
    (if x.leg = 0 then (s.flow i).legA else (s.flow i).legB).port = port →
    s.portOn port = true →
    bit (s.flowDyn i).lostLegs x.leg = false →
    x.nonconf = false →
    (s.flowDyn i).seen.find? (fun e => e.1 == x.seq) = some (x.seq, us) →
    fmtAudio (s.flow i).format = false →
    x.last = false →
    exec (.ipPacketReceive port i x) s = .next
      (let d := s.flowDyn i
       let s1 := s.setDyn i { d with
        runs := (List.range 2).map (fun k => if k = x.leg then (d.runs.getD x.leg {}).next x else d.runs.getD k {}) }
       if us + (s.flow i).skewUs < x.us then (s1.bump Reg.STRM.FLOW_EVT.LATE_CNT).wr Reg.STRM.FLOW_EVT.INDEX i else s1)) ∧
  -- SOURCE_RESUME, BACKUP_SWITCH of the one STARVED contract
  (∀ (i k : Nat) (s : State),
    s.strm.back.any (fun b => b.1 == i && b.2.1 == k && decide (b.2.2 < s.now)) = true →
    s.strm.noRevert = [] →
    exec (.sourceResume i k) s = .next
      (({ s with strm := { s.strm with back := s.strm.back.filter (fun b => !(b.1 == i && b.2.1 == k)) } } : State).regainSource i k)) ∧
  (∀ (i : Nat) (s : State),
    s.inSt (fun c => c == .starved) = [i] →
    (s.contract i).d.subst = 2 →
    exec .backupSwitch s = .next (s.updContract i (fun c => { c with onBackup := c.onBackup ++ (s.contract i).lost.filter (fun k =>
        ((s.contract i).d.srcs.getD (k + 1) {}).backup && !s.endLost ((s.contract i).d.srcs.getD (k + 1) {}) &&
        !(s.contract i).onBackup.contains k && decide ((s.contract i).changeTick < s.now)) }))) ∧
  -- What losing and regaining a source does to the contract
  (∀ (i k : Nat) (s : State),
    (s.contract i).st = .active →
    (s.contract i).lost = [] →
    ((s.loseSource i k).contract i).st = .starved ∧ ((s.loseSource i k).contract i).lost = [k] ∧
      (s.loseSource i k).rd Reg.LEDGER.EVENT.STARVED = 1) ∧
  (∀ (i k : Nat) (s : State),
    (s.contract i).st = .starved →
    (s.contract i).lost = [k] →
    ((s.regainSource i k).contract i).st = .active ∧ ((s.regainSource i k).contract i).lost = [] ∧
      (s.regainSource i k).rd Reg.LEDGER.EVENT.RESUMED = 1)

/-- Modules, port messages, locks lost, and packets over the crossbar (04_streams.md, Ethernet and IP, 04_streams.md, The stream crossbar, 04_streams.md, Modules and hot-patching, 13_lanes.md, Signal detect and hot-plug). -/
def Obligations.PortsAndCrossbar : Prop :=
  -- MODULE_INSERT, MODULE_REMOVE, MODULE_INIT_DONE, MOD_LOS_SAMPLE
  (∀ (q : Nat) (s : State),
    q < 24 →
    s.domOn 3 = true →
    exec (.moduleInsert q) s = .next
      (((s.wr (Reg.STRM.MOD_STATUS.PRESENT q) 1).wr (Reg.STRM.MOD_STATUS.STATE q) 1).evt (Reg.STRM.MOD_STATUS.MOD_INSERT q))) ∧
  (∀ (q : Nat) (s s1 : State),
    q < 24 →
    s.isSet (Reg.STRM.MOD_STATUS.PRESENT q) = true →
    s1 = (((s.wr (Reg.STRM.MOD_STATUS.PRESENT q) 0).wr (Reg.STRM.MOD_STATUS.TYPE q) 0).wr (Reg.STRM.MOD_STATUS.STATE q) 0).evt
      (Reg.STRM.MOD_STATUS.MOD_REMOVE q) →
    s1.quadPorts q = [] →
    exec (.moduleRemove q) s = .next s1) ∧
  (∀ (q p : Nat) (s s1 : State),
    q < 24 →
    s.isSet (Reg.STRM.MOD_STATUS.PRESENT q) = true →
    s1 = (((s.wr (Reg.STRM.MOD_STATUS.PRESENT q) 0).wr (Reg.STRM.MOD_STATUS.TYPE q) 0).wr (Reg.STRM.MOD_STATUS.STATE q) 0).evt
      (Reg.STRM.MOD_STATUS.MOD_REMOVE q) →
    s1.quadPorts q = [p] →
    exec (.moduleRemove q) s = .next
      ((((portLanes p (s1.port p).kind).foldl (fun u l => ((u.setLinkUp l false).wr (Reg.LANE.STATUS.NEG_STATE l) 0).askPstate l 1) s1).portEvt
        p Reg.STRM.PORT_EVENT.SIG_LOST).portDown p)) ∧
  (∀ (q : Nat) (answers : Bool) (r : ModRead) (s : State),
    q < 24 →
    s.rd (Reg.STRM.MOD_STATUS.STATE q) = 1 ∨ s.rd (Reg.STRM.MOD_STATUS.STATE q) = 2 →
    exec (.moduleInitDone q false answers r) s = .next (s.wr (Reg.STRM.MOD_STATUS.STATE q) 2)) ∧
  (∀ (q : Nat) (r : ModRead) (s : State),
    q < 24 →
    s.rd (Reg.STRM.MOD_STATUS.STATE q) = 1 ∨ s.rd (Reg.STRM.MOD_STATUS.STATE q) = 2 →
    exec (.moduleInitDone q true false r) s = .next ((s.wr (Reg.STRM.MOD_STATUS.STATE q) 5).evt (Reg.STRM.MOD_STATUS.I2C_FAULT q))) ∧
  -- Of a module that supports every configured port of the quad; of one that does not
  (∀ (q : Nat) (r : ModRead) (s s1 : State),
    q < 24 →
    s.rd (Reg.STRM.MOD_STATUS.STATE q) = 1 ∨ s.rd (Reg.STRM.MOD_STATUS.STATE q) = 2 →
    s1 = s.wr (Reg.STRM.MOD_STATUS.TYPE q) r.ty →
    (∀ p ∈ s1.quadPorts q, r.bad.contains p = false) →
    exec (.moduleInitDone q true true r) s = .next
      ((((s1.quadPorts q).flatMap (fun p => portLanes p (s1.port p).kind)).foldl
        (fun t l => (t.askPstate l 0).wr (Reg.LANE.STATUS.NEG_STATE l) 2) s1).wr (Reg.STRM.MOD_STATUS.STATE q) 3)) ∧
  (∀ (q : Nat) (r : ModRead) (s s1 : State),
    q < 24 →
    s.rd (Reg.STRM.MOD_STATUS.STATE q) = 1 ∨ s.rd (Reg.STRM.MOD_STATUS.STATE q) = 2 →
    s1 = s.wr (Reg.STRM.MOD_STATUS.TYPE q) r.ty →
    (∃ p ∈ s1.quadPorts q, r.bad.contains p = true) →
    exec (.moduleInitDone q true true r) s = .next
      (let bad := (s1.quadPorts q).filter (fun p => r.bad.contains p)
       let good := (s1.quadPorts q).filter (fun p => !r.bad.contains p)
       let s2 := (good.flatMap (fun p => portLanes p (s1.port p).kind)).foldl (fun t l => (t.askPstate l 0).wr (Reg.LANE.STATUS.NEG_STATE l) 2) s1
       let s3 := (s2.wr (Reg.STRM.MOD_STATUS.STATE q) 4).evt (Reg.STRM.MOD_STATUS.MOD_MISMATCH q)
       (bad.flatMap (fun p => portLanes p (s1.port p).kind)).foldl (fun t l => ((t.setLinkUp l false).askPstate l 1).negFail l 5)
        (bad.foldl State.portDown s3))) ∧
  (∀ (los : Nat) (s : State),
    ∃ t, exec (.modLosSample los) s = .next t ∧ ∀ q, q < 24 → t.isSet (Reg.STRM.MOD_STATUS.LOS q) = bit los q) ∧
  -- IGMP_QUERY_RECEIVE and ARP_REQUEST_RECEIVE
  (∀ (port : Nat) (s : State),
    s.ethPort port = true →
    exec (.igmpQueryReceive port) s = .next ((s.strm.flows.filter (fun e =>
        decide (e.1 < 1024) && e.2.used && e.2.ports.contains port)).foldl (fun t e => t.joinMsgs e.2 2 (some port)) s)) ∧
  (∀ (port kind ip : Nat) (s : State),
    s.ethPort port = true →
    ip = (s.port port).ip →
    exec (.arpRequestReceive port kind ip) s = .next (s.emit (.portMsg port 3 kind))) ∧
  -- LINE_PACKET_TRANSFER of a scheduled packet; of a best-effort one with capacity spare and no lower source endpoint waiting
  (∀ (src dst : Nat) (room : Bool) (k : LinePkt) (s : State),
    s.strm.xbar.find? (fun k => k.src == src && k.dst == dst && (k.ctx != 0xFFFF) == true) = some k →
    exec (.linePacketTransfer src dst true { room := room }) s = .next (s.arrive k room)) ∧
  (∀ (src dst : Nat) (room : Bool) (k : LinePkt) (s : State),
    s.strm.xbar.find? (fun k => k.src == src && k.dst == dst && (k.ctx != 0xFFFF) == false) = some k →
    s.spare k = true →
    s.strm.xbar.any (fun k => k.ctx == 0xFFFF && k.dst == dst && decide (k.src < src)) = false →
    room = true ∨ 64 ≤ dst →
    exec (.linePacketTransfer src dst false { room := room }) s = .next (s.arrive k true)) ∧
  -- A line-packet that fabric logic offers and the crossbar carries at once, its egress not speculating
  (∀ (src dst : Nat) (sched room : Bool) (p : PortPkt) (k : LinePkt) (s : State),
    src < s.nFports →
    s.domOn 3 = true →
    s.xbarPresent dst = true →
    p.data ≠ [] ∧ p.data.length ≤ 16368 →
    p.ctx < 0xFFFF →
    s.onFport p.ctx src = true →
    (s.egress (egKey (p.ctx % 4096) (p.ctx / 4096 % 16))).spec = none →
    s.strm.xbar = [] →
    k = { src := src, dst := dst, len := p.data.length, line := p.line, tick := p.tick, slot := p.slot, ns := p.ns, ctx := p.ctx, seg := p.seg, flags := p.flags, first := p.first, data := p.data, ready := s.absSlot } →
    exec (.linePacketTransfer src dst true { room := room, offer := some p }) s = .next (({ s with strm := { s.strm with xbar := [k] } } : State).arrive k room)) ∧
  -- What arrives: at its endpoint, with room or at one that is no fabric port; without room a fabric port drops it, a miss
  (∀ (k : LinePkt) (room : Bool) (s : State),
    64 ≤ k.dst ∨ room = true →
    s.arrive k room = { s with strm := { s.strm with
      xbar := s.strm.xbar.erase k
      used := SMap.upd (fun _ => 0) (SMap.upd (fun _ => 0) s.strm.used k.src (· + (k.len + 16))) (192 + k.dst) (· + (k.len + 16))
      arrived := SMap.upd (fun _ => []) s.strm.arrived k.dst (fun l => l ++ [k]) } }) ∧
  (∀ (k : LinePkt) (s : State),
    k.dst < 64 →
    s.arrive k false = ((({ s with strm := { s.strm with
      xbar := s.strm.xbar.erase k
      used := SMap.upd (fun _ => 0) (SMap.upd (fun _ => 0) s.strm.used k.src (· + (k.len + 16))) (192 + k.dst) (· + (k.len + 16)) } } :
        State).bump (Reg.FAB.FPORT_CNT.DROP_CNT k.dst)).evt Reg.FAB.EVENT.PORT_DROP).countMiss (k.ctx % 4096) (k.ctx / 4096)) ∧
  -- XBAR_PARITY_FAULT
  (∀ (e : Nat) (s : State),
    exec (.xbarParityFault e) s = .next
      (let s1 := (s.bump Reg.XBAR.STATUS.PARITY_CNT).evt Reg.STRM.EVENT.XBAR_PARITY
       s1.holdAll (s1.liveWhere (fun c => c.charges.any (fun x => x.res == 6 && x.inst == e))) .parity (some (s.now + 1)))) ∧
  -- CDR_LOCK_LOSS and FEC_LOCK_LOSS
  (∀ (l : Nat) (s : State),
    s.isSet (Reg.LANE.STATUS.CDR_LOCK l) = true →
    exec (.cdrLockLoss l) s = .next ((s.wr (Reg.LANE.STATUS.CDR_LOCK l) 0).lockLost l)) ∧
  (∀ (p : Nat) (s : State),
    s.ethPort p = true →
    (s.port p).fec = true ∨ (s.port p).kind = 6 →
    exec (.fecLockLoss p) s = .next ((portLanes p (s.port p).kind).foldl (fun t l => t.lockLost l) s))

/-- TAKE, TAKE_ABORT, the preset commands, GPI_BIND and TALLY_SET: what each makes pending and answers (03_commands.md, Order, timing and replies, 05_takes.md, Switchable egresses and presets, 05_takes.md, Run-ahead and cutoff, 05_takes.md, Speculation, commit and rollback, 05_takes.md, GPI and tally, 05_takes.md, Commands). -/
def Obligations.TakesAndPresets : Prop :=
  -- TAKE
  (∀ (h : Hdr) (p : List Byte) (i : Nat) (s t : State),
    s.takes 0x0501 h = true →
    t = s.stamped h →
    t.mode = 4 →
    t.findContract (u32 p 0) = some i →
    t.takeBad (some i) (u8 p 4) (u8 p 5) (u8 p 6) (u16 p 8) (u64 p 12) = false →
    u8 p 7 = 0 →
    u16 p 10 = 0 →
    zeroFrom p 20 = true →
    t.takeOff i (u8 p 4) (t.makeTake i (u8 p 4) (u8 p 5) (u8 p 6) (u16 p 8) (u64 p 12) 0 0).tick = false →
    exec (.take h p) s = .next
      (let x := t.makeTake i (u8 p 4) (u8 p 5) (u8 p 6) (u16 p 8) (u64 p 12) 0 0
       ((t.placeTake x).noteLate x.late).answer h (if x.late then Sts.later else Sts.ok) x.tick (t.takeBytes x))) ∧
  -- TAKE_ABORT
  (∀ (h : Hdr) (p : List Byte) (i : Nat) (x : PTake) (s t : State),
    s.takes 0x0506 h = true →
    t = s.stamped h →
    t.mode = 4 →
    t.findContract (u32 p 0) = some i →
    (t.contract i).d.switchable = true →
    u8 p 4 < (t.contract i).d.dsts.length →
    zeroAt p 5 3 = true →
    zeroFrom p 16 = true →
    t.abortTarget i (u8 p 4) (u64 p 8) false = some x →
    exec (.takeAbort h p) s = .next ((t.abortTake x).answer h Sts.ok x.tick [])) ∧
  -- PRESET_ARM
  (∀ (h : Hdr) (p : List Byte) (i j ws : Nat) (e f : EndPt) (s t : State),
    s.takes 0x0502 h = true →
    t = s.stamped h →
    t.mode = 4 →
    (t.findContract (u32 p 0)).filter (fun i => (t.contract i).d.preset) = some i →
    t.findContract (t.contract i).d.parent = some j →
    e = (t.contract i).d.dsts.getD 0 {} →
    f = (t.contract j).d.dsts.getD (u8 p 4) {} →
    8 ≤ u16 p 10 →
    u16 p 10 ≤ 256 →
    ws = t.wSlots e.format (u16 p 10) →
    16 ≤ ws →
    ws ≤ 1024 →
    fmtHasRaster e.format = true →
    u8 p 5 ≤ 2 →
    u8 p 5 = 2 ∨ u8 p 6 = 0 →
    (u8 p 5 = 0 ∧ u16 p 8 = 0) ∨ (u8 p 5 ≠ 0 ∧ 1 ≤ u16 p 8 ∧ u16 p 8 ≤ 999) →
    u8 p 7 = 0 →
    zeroFrom p 20 = true →
    u8 p 4 < (t.contract j).d.dsts.length →
    f = e →
    u64 p 12 = 0 →
    (t.contract i).expiry = none →
    (t.contract i).st = .admitted →
    (t.contract i).actTick = none →
    (t.egress (egKey j (u8 p 4))).preset = 0 →
    t.armDue (egKey j (u8 p 4)) = false →
    (t.contract j).st ≠ .releasing →
    (t.contract j).st ≠ .released →
    t.armCount < 256 →
    exec (.presetArm h p) s = .next
      (let eff := max (max ((t.contract i).admitTick + 2) (t.contract i).earliest) (t.now + 1)
       ((t.updContract i (fun c => { c with actTick := some eff })).schedule eff
          (.arm i (egKey j (u8 p 4)) (u8 p 5) (u8 p 6) (u16 p 8) (u16 p 10) ws)).answer h Sts.ok eff (toLe 2 ws))) ∧
  -- PRESET_DISARM
  (∀ (h : Hdr) (p : List Byte) (i : Nat) (s t : State),
    s.takes 0x0503 h = true →
    t = s.stamped h →
    t.mode = 4 →
    (t.findContract (u32 p 0)).filter (fun i => (t.contract i).d.preset) = some i →
    zeroFrom p 12 = true →
    (t.roleOf i 0).isSome = true →
    t.presetBusy i = false →
    (t.contract i).relTick = none →
    (t.contract i).st ≠ .releasing →
    exec (.presetDisarm h p) s = .next
      (let eff := effTick (u64 p 4) (t.now + 1)
       ((t.updContract i (fun c => { c with relTick := some eff.1 })).schedule eff.1 (.disarm i)).answer h eff.2 eff.1 [])) ∧
  -- GPI_BIND
  (∀ (h : Hdr) (p : List Byte) (b : GpiBind) (s t : State),
    s.takes 0x0504 h = true →
    t = s.stamped h →
    u8 p 0 ≤ 31 →
    u8 p 1 ≤ 3 →
    u8 p 2 ≤ 20 →
    u8 p 3 = 0 →
    u8 p 11 = 0 →
    zeroFrom p 14 = true →
    transBad (u8 p 9) (u8 p 10) (u16 p 12) = false →
    b = ⟨u8 p 1, u8 p 2, false, u32 p 4, u8 p 8, u8 p 9, u8 p 10, u16 p 12⟩ →
    exec (.gpiBind h p) s = .next ((t.schedule (t.now + 1) (.gpiBind (u8 p 0) b)).answer h Sts.ok (t.now + 1) [])) ∧
  -- TALLY_SET
  (∀ (h : Hdr) (p : List Byte) (s t : State),
    s.takes 0x0505 h = true →
    t = s.stamped h →
    u8 p 0 ≤ 31 →
    u8 p 1 ≤ 3 →
    u8 p 2 ≤ 1 →
    u8 p 3 = 0 →
    zeroAt p 9 7 = true →
    zeroFrom p 24 = true →
    (u8 p 1 ≤ 1 ∧ u32 p 4 = 0) ∨ (2 ≤ u8 p 1 ∧ (t.findContract (u32 p 4)).isSome = true) →
    exec (.tallySet h p) s = .next
      (let eff := effTick (u64 p 16) (t.now + 1)
       (t.schedule eff.1 (.tally (u8 p 0) ⟨u8 p 1, u8 p 2, u32 p 4, u8 p 8⟩)).answer h eff.2 eff.1 [])) ∧
  -- PRESET_ARM_APPLY of one arming, PRESET_DISARM_APPLY of one disarming, with nothing else due
  (∀ (eff i k tr pat dur w ws : Nat) (st : Nat × Nat) (s s1 : State),
    s.dueNow = [⟨eff, .arm i k tr pat dur w ws, st⟩] →
    (s.contract i).st = .admitted →
    (s.contract (k / 16)).st ≠ .releasing →
    (s.contract (k / 16)).st ≠ .released →
    s1 = (s.undue.activate i).updEgress k (fun e => { e with
        program := k / 16 + 1, preset := i + 1, trans := tr, pattern := pat, dur := dur, w := w, wSlots := ws, spec := none }) →
    exec .presetArmApply s = .next ((s1.updContract i (fun c => { c with charges := s1.redemand i c.d.subst })).updTallies).settle) ∧
  (∀ (eff i k : Nat) (role : Bool) (st : Nat × Nat) (s : State),
    s.dueNow = [⟨eff, .disarm i, st⟩] →
    s.roleOf i 0 = some (k, role) →
    exec .presetDisarmApply s = .next (((s.undue.rollback k).applyRelease i).updTallies).settle) ∧
  -- GPI_BIND_APPLY of one binding, TALLY_SET_APPLY of one setting, with nothing else due
  (∀ (eff g : Nat) (b : GpiBind) (st : Nat × Nat) (s : State),
    s.dueNow = [⟨eff, .gpiBind g b, st⟩] →
    ∃ t, exec .gpiBindApply s = .next t ∧ SMap.get (fun _ => ({} : GpiBind)) t.take.binds g = (if b.edge = 0 then {} else b) ∧
      (∀ k, k ≠ g → SMap.get (fun _ => ({} : GpiBind)) t.take.binds k = SMap.get (fun _ => ({} : GpiBind)) s.take.binds k) ∧
      t = { s.undue with take := t.take }) ∧
  (∀ (eff g : Nat) (b : Tally) (st : Nat × Nat) (s : State),
    s.dueNow = [⟨eff, .tally g b, st⟩] →
    exec .tallySetApply s = .next (({ s.undue with take := { s.take with tally := SMap.insert g b s.take.tally } } : State).updTallies))

/-- Run-ahead, cutoff, landing, rollback, GPI edges and twin takes (05_takes.md, Run-ahead and cutoff, 05_takes.md, Speculation, commit and rollback, 05_takes.md, Takes on a twin, 05_takes.md, GPI and tally). -/
def Obligations.RunAheadAndLanding : Prop :=
  -- RUNAHEAD_START with one armed egress, not speculating, no engine of its chain halted
  (∀ (k : Nat) (t : PTake) (s : State),
    s.armed = [k] →
    s.slot + (s.egress k).wSlots = s.slots →
    (s.egress k).spec = none →
    (s.downEngines k).any (fun x => s.engState x == engHalted) = false →
    (s.runAhead || s.take.pend.any (fun x => egKey x.idx x.dst == k && x.ahead)) = true →
    s.nextTake k = some t →
    exec .runaheadStart s = .next (if t.plain then s else s.speculate k (s.now + 1) (transKey t.trans t.pattern t.dur))) ∧
  (∀ (k : Nat) (s : State),
    s.armed = [k] →
    s.slot + (s.egress k).wSlots = s.slots →
    (s.egress k).spec = none →
    (s.downEngines k).any (fun x => s.engState x == engHalted) = false →
    (s.runAhead || s.take.pend.any (fun x => egKey x.idx x.dst == k && x.ahead)) = true →
    s.nextTake k = none →
    exec .runaheadStart s = .next (s.speculate k (s.now + 1) (transKey (s.egress k).trans (s.egress k).pattern (s.egress k).dur))) ∧
  -- TAKE_CUTOFF with one egress
  (∀ (k : Nat) (t : PTake) (s : State),
    s.take.egress.map (·.1) = [k] →
    s.nextTake k = some t →
    s.slots ≤ s.slot + t.cutoff →
    t.prov = false →
    t.wait = false →
    exec .takeCutoff s = .next (s.setTakes (updWhere (· == t) (fun x => { x with final := true, plain := x.plain || (s.egress k).spec.isNone })
        s.take.pend))) ∧
  (∀ (k tr : Nat) (s : State),
    s.take.egress.map (·.1) = [k] →
    s.nextTake k = none →
    s.slots ≤ s.slot + s.cutoff →
    (s.egress k).spec = some (s.now + 1, tr) →
    exec .takeCutoff s = .next (s.rollback k)) ∧
  -- TAKE_LANDING of one take: it lands where its contract is not released at this boundary and a preset is armed, and is cancelled otherwise
  (∀ (t : PTake) (s : State),
    s.take.pend.filter (fun t => decide (t.tick ≤ s.now) && !t.prov && !t.wait) = [t] →
    exec .takeLanding s = .next (if s.releasedNow t.idx || (s.egress (egKey t.idx t.dst)).preset == 0 then
        ((s.setTakes (s.take.pend.erase t)).evt Reg.TAKE.EVENT.ABORTED).rollback (egKey t.idx t.dst)
      else s.land t).updTallies) ∧
  -- What landing and rolling back do, on an egress whose chain has no engine downstream
  (∀ (t : PTake) (s : State),
    s.downEngines (egKey t.idx t.dst) = [] →
    ((s.land t).egress (egKey t.idx t.dst)).program = (s.egress (egKey t.idx t.dst)).preset ∧
      ((s.land t).egress (egKey t.idx t.dst)).preset = (s.egress (egKey t.idx t.dst)).program ∧
      ((s.land t).egress (egKey t.idx t.dst)).running = t.dur ∧ (s.land t).take.pend = s.take.pend.erase t ∧
      (s.land t).rd Reg.TAKE.EVENT.LANDED = 1 ∧
      (s.land t).rd Reg.TAKE.COUNT.LANDED_CNT = (s.rd Reg.TAKE.COUNT.LANDED_CNT + 1) % 2 ^ Reg.TAKE.COUNT.LANDED_CNT.w ∧
      (s.land t).rd Reg.TAKE.LAST.INDEX = t.idx % 2 ^ Reg.TAKE.LAST.INDEX.w ∧ (s.land t).rd Reg.TAKE.LAST.DST = t.dst % 2 ^ Reg.TAKE.LAST.DST.w ∧
      (s.land t).rd Reg.TAKE.LAST.TICK = s.now % 2 ^ Reg.TAKE.LAST.TICK.w) ∧
  (∀ (k : Nat) (w : Nat × Nat) (s : State),
    (s.egress k).spec = some w →
    s.downEngines k = [] →
    s.rollback k = (((((s.updEgress k (fun e => { e with spec := none })).strobe 3 k).dropSpec k).evt
      Reg.TAKE.EVENT.ROLLED_BACK).bump Reg.TAKE.COUNT.ROLLBACK_CNT)) ∧
  -- GPI_EDGE_CONFIRM: an edge without a binding; a bound edge
  (∀ (g tick slot : Nat) (rise : Bool) (s : State),
    g < 32 →
    bit (SMap.get (fun _ => ({} : GpiBind)) s.take.binds g).edge (if rise then 0 else 1) = false →
    exec (.gpiEdgeConfirm g tick slot rise) s = .next
      ((((((s.wr Reg.GPI.LEVEL.LEVEL (if rise then setBit (s.rd Reg.GPI.LEVEL.LEVEL) g else clrBit (s.rd Reg.GPI.LEVEL.LEVEL) g)).evtBit
        Reg.GPI.EDGE.EDGE g).wr (Reg.GPI.STAMP.SLOT g) slot).wr (Reg.GPI.STAMP.TICK g) tick).flag (Reg.GPI.STAMP.RISE g) rise).evt
        Reg.TAKE.EVENT.GPI_EDGE)) ∧
  (∀ (g tick slot i : Nat) (rise : Bool) (b : GpiBind) (s s2 : State),
    g < 32 →
    b = SMap.get (fun _ => ({} : GpiBind)) s.take.binds g →
    bit b.edge (if rise then 0 else 1) = true →
    b.twin = false →
    s.mode = 4 →
    s.findContract b.id = some i →
    s.takeBad (some i) b.dst b.trans b.pattern b.dur 0 = false →
    s2 = ((((((s.wr Reg.GPI.LEVEL.LEVEL (if rise then setBit (s.rd Reg.GPI.LEVEL.LEVEL) g else clrBit (s.rd Reg.GPI.LEVEL.LEVEL) g)).evtBit
        Reg.GPI.EDGE.EDGE g).wr (Reg.GPI.STAMP.SLOT g) slot).wr (Reg.GPI.STAMP.TICK g) tick).flag (Reg.GPI.STAMP.RISE g) rise).evt
        Reg.TAKE.EVENT.GPI_EDGE) →
    s2.takeOff i b.dst (s2.makeTake i b.dst b.trans b.pattern b.dur 0 0 0).tick = false →
    exec (.gpiEdgeConfirm g tick slot rise) s = .next
      (let t := s2.makeTake i b.dst b.trans b.pattern b.dur 0 0 0
       ((s2.evt Reg.TAKE.EVENT.GPI_TAKE).placeTake t).noteLate t.late)) ∧
  -- TWIN_TAKE_RECEIVE: accepted provisionally, or refused
  (∀ (id dst tick trans i : Nat) (s : State),
    s.findContract id = some i →
    s.mode = 4 →
    (s.contract i).d.switchable = true →
    dst < (s.contract i).d.dsts.length →
    s.takeOff i dst tick = false →
    s.meets (egKey i dst) trans s.cutoff s.runAhead tick = true →
    s.room (egKey i dst) tick = true →
    exec (.twinTakeReceive id dst tick trans false) s = .next ((s.setTakes (s.take.pend ++ [{ idx := i, dst := dst, trans := trans % 256, pattern := trans / 256 % 256, dur := trans / 65536, tick := tick, ahead := s.runAhead, cutoff := s.cutoff, prov := true }])).emit
        (.twinTake 1 id dst tick false 0))) ∧
  (∀ (id dst tick trans : Nat) (abort : Bool) (s : State),
    s.findContract id = none →
    exec (.twinTakeReceive id dst tick trans abort) s = .next (s.emit (.twinTake 2 id dst tick abort 0))) ∧
  -- TWIN_TAKE_ANSWER_RECEIVE and TWIN_TAKE_ANSWER_TIMEOUT for a waiting take
  (∀ (id dst tick : Nat) (t : PTake) (h : Hdr) (s : State),
    s.twinTarget id dst tick (fun t => t.wait) = some t →
    t.hdr = some h →
    exec (.twinTakeAnswerReceive id dst tick false true) s = .next
      (((((s.setTakes (s.take.pend.erase t)).placeTake { t with wait := false, hdr := none }).noteLate t.late).emit
        (.twinTake 3 id dst tick false 0)).answer h (if t.late then Sts.later else Sts.ok) tick (s.takeBytes t)) ∧
    exec (.twinTakeAnswerReceive id dst tick false false) s = .next
      (((s.setTakes (s.take.pend.erase t)).evt Reg.TAKE.EVENT.TWIN_REFUSED).answer h Sts.disagrees 0 []) ∧
    exec (.twinTakeAnswerTimeout id dst tick false) s = .next
      ((((s.setTakes (s.take.pend.erase t)).evt Reg.TAKE.EVENT.TWIN_REFUSED).emit (.twinTake 4 id dst tick false 0)).answer h
        Sts.unreachable 0 [])) ∧
  -- TWIN_TAKE_CONFIRM_RECEIVE and TWIN_TAKE_WITHDRAW_RECEIVE for a provisional take
  (∀ (id dst tick : Nat) (t : PTake) (s : State),
    s.twinTarget id dst tick (fun t => t.prov) = some t →
    (s.egress (egKey t.idx t.dst)).spec = none →
    exec (.twinTakeConfirmReceive id dst tick false) s = .next ((s.setTakes (s.take.pend.erase t)).placeTake { t with prov := false }) ∧
    exec (.twinTakeWithdrawReceive id dst tick false) s = .next (s.setTakes (s.take.pend.erase t)))

/-- Every scalar arithmetic, shift, compare and immediate operation writes the value its row gives (06_quinner_engines.md, Pipeline, 07_engine_instructions.md, Bundles and slot words, 07_engine_instructions.md, When results become visible, 07_engine_instructions.md, S slot, 07_engine_instructions.md, Arithmetic). -/
def Obligations.EngineScalarResults : Prop :=
  -- Three registers
  (∀ (e : Nat) (d a b : BitVec 5) (s : State),
    s.clear e = true →
    ∀ p ∈ ([(Instr.sAdd e false d a b, (s.sreg e a) + (s.sreg e b)),
        (Instr.sSub e false d a b, (s.sreg e a) - (s.sreg e b)),
        (Instr.sAnd e false d a b, (s.sreg e a) &&& (s.sreg e b)),
        (Instr.sOr e false d a b, (s.sreg e a) ||| (s.sreg e b)),
        (Instr.sXor e false d a b, (s.sreg e a) ^^^ (s.sreg e b)),
        (Instr.sSll e false d a b, (s.sreg e a) <<< ((s.sreg e b).toNat % 32)),
        (Instr.sSrl e false d a b, (s.sreg e a) >>> ((s.sreg e b).toNat % 32)),
        (Instr.sSra e false d a b, (s.sreg e a).sshiftRight ((s.sreg e b).toNat % 32)),
        (Instr.sMul e false d a b, (s.sreg e a) * (s.sreg e b)),
        (Instr.sMin e false d a b, if (s.sreg e a).slt (s.sreg e b) then (s.sreg e a) else (s.sreg e b)),
        (Instr.sMax e false d a b, if (s.sreg e a).slt (s.sreg e b) then (s.sreg e b) else (s.sreg e a)),
        (Instr.sSlt e false d a b, if (s.sreg e a).slt (s.sreg e b) then 1 else 0),
        (Instr.sSltu e false d a b, if (s.sreg e a).ult (s.sreg e b) then 1 else 0)] : List (Instr × Word)),
      ∃ t, exec p.1 s = .next t ∧
        Passes e ((s.engine e).land (.sreg (!s.inHandler e) d.toNat p.2)) s (s.nextPc e) t) ∧
  -- Immediates
  (∀ (e : Nat) (d a n : BitVec 5) (imm : BitVec 15) (lit : BitVec 20) (s : State),
    s.clear e = true →
    ∀ p ∈ ([(Instr.sAddi e false d a imm, (s.sreg e a) + imm.signExtend 32),
        (Instr.sAndi e false d a imm, (s.sreg e a) &&& imm.zeroExtend 32),
        (Instr.sOri e false d a imm, (s.sreg e a) ||| imm.zeroExtend 32),
        (Instr.sXori e false d a imm, (s.sreg e a) ^^^ imm.zeroExtend 32),
        (Instr.sSlli e false d a n, (s.sreg e a) <<< n.toNat),
        (Instr.sSrli e false d a n, (s.sreg e a) >>> n.toNat),
        (Instr.sSrai e false d a n, (s.sreg e a).sshiftRight n.toNat),
        (Instr.sLi e false d lit, lit.signExtend 32),
        (Instr.sLui e false d lit, lit.zeroExtend 32 <<< 12)] : List (Instr × Word)),
      ∃ t, exec p.1 s = .next t ∧
        Passes e ((s.engine e).land (.sreg (!s.inHandler e) d.toNat p.2)) s (s.nextPc e) t) ∧
  -- s.rsh by 1 to 31
  (∀ (e : Nat) (d a n : BitVec 5) (s : State),
    s.clear e = true →
    n ≠ 0 →
    ∃ t, exec (.sRsh e false d a n) s = .next t ∧ Passes e ((s.engine e).land (.sreg (!s.inHandler e) d.toNat
      (BitVec.ofInt 32 (((s.sreg e a).toInt + 2 ^ (n.toNat - 1)) / 2 ^ n.toNat)))) s (s.nextPc e) t) ∧
  -- What a write of a scalar register does
  (∀ (x : Eng) (main : Bool) (d r : Nat) (v : Word),
    (x.land (.sreg main d v)).s_ main r = (if r = d then v else x.s_ main r) ∧
      (∀ k, (x.land (.sreg main d v)).s_ (!main) k = x.s_ (!main) k) ∧
      (∀ k, (x.land (.sreg main d v)).vec_ k = x.vec_ k ∧ (x.land (.sreg main d v)).accum k = x.accum k) ∧
      (x.land (.sreg main d v)).ldm = x.ldm ∧ (x.land (.sreg main d v)).sat = x.sat ∧ (x.land (.sreg main d v)).bexp = x.bexp)

/-- Branches, jumps, hardware loops and atomic groups, issued by an engine with nothing under way (06_quinner_engines.md, Pipeline, 07_engine_instructions.md, S slot, 07_engine_instructions.md, L slot). -/
def Obligations.EngineControlFlow : Prop :=
  -- s.beq, s.bne, s.blt, s.bge
  (∀ (e : Nat) (a b : BitVec 5) (t : BitVec 11) (s : State),
    s.clear e = true →
    t.toNat < (s.engine e).nb →
    ∀ p ∈ ([(Instr.sBeq e false a b t, (s.sreg e a) == (s.sreg e b)),
        (Instr.sBne e false a b t, (s.sreg e a) != (s.sreg e b)),
        (Instr.sBlt e false a b t, (s.sreg e a).slt (s.sreg e b)),
        (Instr.sBge e false a b t, (s.sreg e b).sle (s.sreg e a))] : List (Instr × Bool)),
      ∃ u, exec p.1 s = .next u ∧
        Passes e { s.engine e with br := some (2, if p.2 then some t.toNat else none) } s (s.nextPc e) u) ∧
  -- s.j, s.jr
  (∀ (e : Nat) (t : BitVec 11) (s : State),
    s.clear e = true →
    t.toNat < (s.engine e).nb →
    ∃ u, exec (.sJ e false t) s = .next u ∧ Passes e { s.engine e with br := some (2, some t.toNat) } s (s.nextPc e) u) ∧
  (∀ (e : Nat) (a : BitVec 5) (s : State),
    s.clear e = true →
    (s.sreg e a).toNat % 2 ^ 11 < (s.engine e).nb →
    ∃ u, exec (.sJr e false a) s = .next u ∧
      Passes e { s.engine e with br := some (2, some ((s.sreg e a).toNat % 2 ^ 11)) } s (s.nextPc e) u) ∧
  -- s.jal
  (∀ (e : Nat) (d : BitVec 5) (t : BitVec 11) (s : State),
    s.clear e = true →
    t.toNat < (s.engine e).nb →
    ∃ u, exec (.sJal e false d t) s = .next u ∧
      Passes e (({ s.engine e with br := some (2, some t.toNat) } : Eng).land (.sreg (!s.inHandler e) d.toNat
        (BitVec.ofNat 32 ((s.engPc e + 3) % 2 ^ 11)))) s (s.nextPc e) u) ∧
  -- s.loop and s.loopi with passes to run
  (∀ (e : Nat) (c : BitVec 1) (a : BitVec 5) (last : BitVec 11) (s : State),
    s.clear e = true →
    (s.engine e).ls (!s.inHandler e) = [] →
    s.engPc e < last.toNat →
    last.toNat < (s.engine e).nb →
    (s.sreg e a).toNat % 2 ^ 16 ≠ 0 →
    ∃ u, exec (.sLoop e false c a last) s = .next u ∧ Passes e (((s.engine e).land (.lc (!s.inHandler e) c.toNat
      ((s.sreg e a).toNat % 2 ^ 16))).setLs (!s.inHandler e) [⟨c.toNat, s.engPc e + 1, last.toNat⟩]) s (s.nextPc e) u) ∧
  (∀ (e : Nat) (c : BitVec 1) (count : BitVec 12) (last : BitVec 11) (s : State),
    s.clear e = true →
    (s.engine e).ls (!s.inHandler e) = [] →
    s.engPc e < last.toNat →
    last.toNat < (s.engine e).nb →
    count ≠ 0 →
    ∃ u, exec (.sLoopi e false c count last) s = .next u ∧ Passes e (((s.engine e).land (.lc (!s.inHandler e) c.toNat
      count.toNat)).setLs (!s.inHandler e) [⟨c.toNat, s.engPc e + 1, last.toNat⟩]) s (s.nextPc e) u) ∧
  -- A count of 0
  (∀ (x : Eng) (main : Bool) (pc i last : Nat),
    x.br = none →
    x.atom = 0 →
    x.ls main = [] →
    x.advance main pc (.loop i 0 last) = (x.land (.lc main i 0), last + 1, true)) ∧
  -- s.atom
  (∀ (e : Nat) (n : BitVec 3) (s : State),
    s.clear e = true →
    ∃ u, exec (.sAtom e false n) s = .next u ∧ Passes e { s.engine e with atom := n.toNat + 1 } s (s.nextPc e) u) ∧
  -- The second delay bundle, and the end of a pass
  (∀ (x : Eng) (main : Bool) (pc t : Nat),
    x.br = some (1, some t) →
    x.atom = 0 →
    x.ls main = [] →
    x.advance main pc .plain = ({ x with br := none }, t, false)) ∧
  (∀ (x : Eng) (main : Bool) (pc : Nat) (rest : List HwLoop) (l : HwLoop),
    x.br = none →
    x.atom = 0 →
    x.ls main = l :: rest →
    l.last = pc →
    x.advance main pc .plain = (if x.lc_ main l.lc ≤ 1 then ((x.land (.lc main l.lc 0)).setLs main rest, pc + 1, false)
      else (x.land (.lc main l.lc (x.lc_ main l.lc - 1)), l.first, false)))

/-- Control registers, interrupt enables, reti, exponent and saturation operations, the tick operations and the NOPs (06_quinner_engines.md, Interrupts and exceptions, 06_quinner_engines.md, Tick watchdog, 07_engine_instructions.md, Bundles and slot words, 07_engine_instructions.md, S slot, 07_engine_instructions.md, Arithmetic, 07_engine_instructions.md, Interrupt, tick and speculation instructions). -/
def Obligations.EngineControlOperations : Prop :=
  -- s.mfc
  (∀ (e : Nat) (d cr : BitVec 5) (v : Word) (s : State),
    s.clear e = true →
    (cr.toNat, v) ∈ ([(0, BitVec.ofNat 32 (s.engine e).epc),
        (1, BitVec.ofNat 32 (s.rd (Reg.ENG.FAULT.CAUSE e))),
        (2, BitVec.ofNat 32 (s.engine e).tcst),
        (3, BitVec.ofNat 32 (s.engine e).bexp),
        (4, if (s.engine e).sat then 1 else 0),
        (5, BitVec.ofNat 32 (s.rd (Reg.ENG.STATUS.IE e))),
        (6, BitVec.ofNat 32 (s.rd (Reg.ENG.STATUS.SPEC e) + 2 * s.rd (Reg.ENG.STATUS.SPEC_EN e) + 4 * s.rd (Reg.ENG.STATUS.HANDLER e))),
        (7, BitVec.ofNat 32 e),
        (8, BitVec.ofNat 32 ((s.engine e).lc_ (!s.inHandler e) 0)),
        (9, BitVec.ofNat 32 ((s.engine e).lc_ (!s.inHandler e) 1)),
        (10, s.reg (Reg.ENG.FAULT_ADDR e))] : List (Nat × Word)) →
    ∃ t, exec (.sMfc e false d cr) s = .next t ∧
      Passes e ((s.engine e).land (.sreg (!s.inHandler e) d.toNat v)) s (s.nextPc e) t) ∧
  -- s.mtc
  (∀ (e : Nat) (cr a : BitVec 5) (l : Landing) (s : State),
    s.clear e = true →
    (cr.toNat, l) ∈ ([(0, .epc ((s.sreg e a).toNat % 2 ^ 11)),
        (3, .bexpSet ((s.sreg e a).toNat % 2 ^ 6)),
        (4, .satSet ((s.sreg e a).getLsbD 0)),
        (8, .lc (!s.inHandler e) 0 ((s.sreg e a).toNat % 2 ^ 16)),
        (9, .lc (!s.inHandler e) 1 ((s.sreg e a).toNat % 2 ^ 16))] : List (Nat × Landing)) →
    ∃ t, exec (.sMtc e false cr a) s = .next t ∧ Passes e ((s.engine e).land l) s (s.nextPc e) t) ∧
  -- Writes of IE
  (∀ (e : Nat) (a : BitVec 5) (mask : BitVec 4) (s : State),
    s.clear e = true →
    s.inSpec e = false →
    (∃ t, exec (.sMtc e false 5 a) s = .next t ∧
        Passes e (s.engine e) s ((s.nextPc e).wr (Reg.ENG.STATUS.IE e) ((s.sreg e a).toNat % 16)) t) ∧
      (∃ t, exec (.sIe e false mask) s = .next t ∧
        Passes e (s.engine e) s ((s.nextPc e).wr (Reg.ENG.STATUS.IE e) (s.rd (Reg.ENG.STATUS.IE e) ||| mask.toNat)) t) ∧
      (∃ t, exec (.sId e false mask) s = .next t ∧
        Passes e (s.engine e) s ((s.nextPc e).wr (Reg.ENG.STATUS.IE e) (s.rd (Reg.ENG.STATUS.IE e) &&& (15 - mask.toNat))) t)) ∧
  -- They raise SPEC_ACCESS in SPEC state
  (∀ (e : Nat) (o : SlotOp) (s : State),
    s.inSpec e = true →
    o.op = 0x32 ∨ o.op = 0x33 ∨ (o.op = 0x31 ∧ o.d = 5) →
    s.sSlot e o = ([], .spec)) ∧
  -- reti
  (∀ (e : Nat) (s : State),
    s.clear e = true →
    s.inHandler e = true →
    ∃ t, exec (.reti e false) s = .next t ∧ t.inHandler e = false ∧ t.engPc e = (s.engine e).epc % 2 ^ 11 ∧
      (t.engine e).fresh = true ∧ (t.engine e).sloops = [] ∧ (t.engine e).br = none ∧ (t.engine e).sreg = (s.engine e).sreg ∧
      (t.engine e).loops = (s.engine e).loops) ∧
  (∀ (e : Nat) (s : State),
    s.inHandler e = false →
    s.sIllegal e { op := 0x34 } = true) ∧
  -- s.bxclr, s.satclr, s.scale, t.now
  (∀ (e : Nat) (d : BitVec 5) (k : BitVec 4) (s : State),
    s.clear e = true →
    (∃ t, exec (.sBxclr e false) s = .next t ∧ Passes e { s.engine e with bexp := 63 } s (s.nextPc e) t) ∧
      (∃ t, exec (.sSatclr e false) s = .next t ∧ Passes e { s.engine e with sat := false } s (s.nextPc e) t) ∧
      (∃ t, exec (.sScale e false d k) s = .next t ∧ Passes e ((s.engine e).land (.sreg (!s.inHandler e) d.toNat
        (BitVec.ofNat 32 ((s.engine e).bexp - k.toNat)))) s (s.nextPc e) t) ∧
      (∃ t, exec (.tNow e false d) s = .next t ∧ Passes e ((s.engine e).land (.sreg (!s.inHandler e) d.toNat
        (BitVec.ofNat 32 (s.slot % 2 ^ 11 + s.now % 2 ^ 16 * 2 ^ 16)))) s (s.nextPc e) t)) ∧
  -- t.done, t.wait
  (∀ (e : Nat) (s : State),
    s.clear e = true →
    (∃ t, exec (.tDone e false) s = .next t ∧ Passes e { s.engine e with done := some (s.doneTick e) } s (s.nextPc e) t) ∧
      (∃ t, exec (.tWait e false) s = .next t ∧ Passes e { s.engine e with wait := true } s (s.nextPc e) t)) ∧
  -- The NOPs
  (∀ (e : Nat) (s : State),
    s.clear e = true →
    ∀ i ∈ [Instr.sNop e false, .lNop e false, .vNop e false, .mNop e false], ∃ t, exec i s = .next t ∧ Passes e (s.engine e) s (s.nextPc e) t)

/-- Loads and stores of an engine: their addresses, what they read and write, latency and post-increment (06_quinner_engines.md, Local data memory, 06_quinner_engines.md, Speculative area and checkpoints, 06_quinner_engines.md, Tick watchdog, 07_engine_instructions.md, When results become visible, 07_engine_instructions.md, L slot). -/
def Obligations.EngineLoadsAndStores : Prop :=
  -- l.ld, l.ldp
  (∀ (e A : Nat) (d a : BitVec 5) (off : BitVec 15) (bs : List Byte) (s : State),
    s.clear e = true →
    A = (s.sreg e a + off.signExtend 32).toNat →
    s.engRead e A 32 = (s, .inl bs) →
    ∃ t, exec (.lLd e false d a off) s = .next t ∧
      Passes e { s.engine e with fly := [(s.ldLat e A - 1, .vreg d.toNat (bytesVec bs))] } s (s.nextPc e) t) ∧
  (∀ (e A : Nat) (d a : BitVec 5) (off : BitVec 15) (bs : List Byte) (s : State),
    s.clear e = true →
    A = (s.sreg e a).toNat →
    s.engRead e A 32 = (s, .inl bs) →
    ∃ t, exec (.lLdp e false d a off) s = .next t ∧
      Passes e (({ s.engine e with fly := [(s.ldLat e A - 1, .vreg d.toNat (bytesVec bs))] } : Eng).land
        (.sreg (!s.inHandler e) a.toNat (s.sreg e a + off.signExtend 32))) s (s.nextPc e) t) ∧
  -- l.lds from LDM, cluster memory and the window
  (∀ (e A : Nat) (d a : BitVec 5) (off : BitVec 15) (bs : List Byte) (s : State),
    s.clear e = true →
    A = (s.sreg e a + off.signExtend 32).toNat →
    s.engMap e A ≠ 1 →
    s.engRead e A 4 = (s, .inl bs) →
    ∃ t, exec (.lLds e false d a off) s = .next t ∧ Passes e { s.engine e with
      fly := [(s.ldLat e A - 1, .sreg (!s.inHandler e) d.toNat (BitVec.ofNat 32 (leAt bs 0 4)))] } s (s.nextPc e) t) ∧
  (∀ (e A : Nat) (d a : BitVec 5) (off : BitVec 15) (v : Word) (s s0 : State),
    s.clear e = true →
    A = (s.sreg e a + off.signExtend 32).toNat →
    s.engMap e A = 1 →
    s0 = s.updEngine e (fun x => { x with openB := {} }) →
    s0.winRead e (A - 0x20000) = (s0, .inl v) →
    ∃ t, exec (.lLds e false d a off) s = .next t ∧
      Passes e { s.engine e with fly := [(7, .sreg (!s.inHandler e) d.toNat v)] } s (s.nextPc e) t) ∧
  -- l.ld2
  (∀ (e : Nat) (d d2 a b : BitVec 5) (inc : BitVec 2) (s : State),
    s.clear e = true →
    d ≠ d2 →
    s.engMap e (s.sreg e a).toNat = 0 →
    s.engMap e (s.sreg e b).toNat = 0 →
    (s.sreg e a).toNat % 32 = 0 →
    (s.sreg e b).toNat % 32 = 0 →
    ∃ t, exec (.lLd2 e false d d2 a b inc) s = .next t ∧
      Passes e (((if inc.getLsbD 0 then [Landing.sreg (!s.inHandler e) a.toNat (s.sreg e a + 32)] else []) ++
          (if inc.getLsbD 1 then [Landing.sreg (!s.inHandler e) b.toNat (s.sreg e b + 32)] else [])).foldl Eng.land
        { s.engine e with fly := [(2, .vreg d.toNat (bytesVec ((s.engine e).ldm.readN (s.ldmAddr e (s.sreg e a).toNat false) 32))),
          (2, .vreg d2.toNat (bytesVec ((s.engine e).ldm.readN (s.ldmAddr e (s.sreg e b).toNat false) 32)))] }) s (s.nextPc e) t) ∧
  -- l.st, l.stp, l.sts outside the window
  (∀ (e A : Nat) (d a : BitVec 5) (off : BitVec 15) (s w : State),
    s.clear e = true →
    A = (s.sreg e a + off.signExtend 32).toNat →
    s.engWrite e A (toLe 32 (s.vreg e d).toNat) = .inl w →
    ∃ t, exec (.lSt e false d a off) s = .next t ∧ Passes e (w.engine e) w (w.nextPc e) t) ∧
  (∀ (e A : Nat) (d a : BitVec 5) (off : BitVec 15) (s w : State),
    s.clear e = true →
    A = (s.sreg e a).toNat →
    s.engWrite e A (toLe 32 (s.vreg e d).toNat) = .inl w →
    ∃ t, exec (.lStp e false d a off) s = .next t ∧
      Passes e ((w.engine e).land (.sreg (!s.inHandler e) a.toNat (s.sreg e a + off.signExtend 32))) w (w.nextPc e) t) ∧
  (∀ (e A : Nat) (d a : BitVec 5) (off : BitVec 15) (s w : State),
    s.clear e = true →
    A = (s.sreg e a + off.signExtend 32).toNat →
    s.engMap e A ≠ 1 →
    s.engWrite e A (toLe 4 (s.sreg e d).toNat) = .inl w →
    ∃ t, exec (.lSts e false d a off) s = .next t ∧ Passes e (w.engine e) w (w.nextPc e) t) ∧
  -- What an access reads
  (∀ (e a n : Nat) (s : State),
    (s.engMap e a = 0 → a % n = 0 → s.engRead e a n = (s, .inl ((s.engine e).ldm.readN (s.ldmAddr e a false) n))) ∧
      (s.engMap e a = 2 → a % n = 0 → (∀ r ∈ (s.engine e).recent, r.2 ≠ a / 32) →
        s.engRead e a n = (s, .inl (s.eng.cmem.readN (e / 32 * 2 ^ 23 + a % 2 ^ 23) n))) ∧
      (s.engMap e a = 0 ∨ s.engMap e a = 2 → a % n ≠ 0 → s.engRead e a n = (s, .inr 3)) ∧
      (s.engMap e a = 1 ∨ s.engMap e a = 3 → s.engRead e a n = (s, .inr 2))) ∧
  -- What an access writes
  (∀ (e a : Nat) (b : List Byte) (s : State),
    (s.engMap e a = 0 → a % b.length = 0 → s.inSpec e = false →
        s.engWrite e a b = .inl (s.updEngine e (fun x => { x with ldm := x.ldm.writeN (s.ldmAddr e a true) b }))) ∧
      (s.engMap e a = 0 → a % b.length = 0 → s.inSpec e = true → ¬ (0x8000 ≤ a ∧ a < 0xC000) → s.engWrite e a b = .inr 4) ∧
      (s.engMap e a = 2 → a % b.length = 0 → s.inSpec e = false → ∃ w, s.engWrite e a b = .inl w ∧
        w.eng.cmem = s.eng.cmem.writeN (e / 32 * 2 ^ 23 + a % 2 ^ 23) b ∧ w.regs = s.regs ∧ (w.engine e).ldm = (s.engine e).ldm) ∧
      (s.engMap e a = 2 → a % b.length = 0 → s.inSpec e = true → s.engWrite e a b = .inr 4) ∧
      (s.engMap e a = 0 ∨ s.engMap e a = 2 → a % b.length ≠ 0 → s.engWrite e a b = .inr 3) ∧
      (s.engMap e a = 1 ∨ s.engMap e a = 3 → s.engWrite e a b = .inr 2))

/-- Every vector operation puts the lanes its row gives in flight, to land after the next bundle (07_engine_instructions.md, Bundles and slot words, 07_engine_instructions.md, When results become visible, 07_engine_instructions.md, V slot, 07_engine_instructions.md, Arithmetic). -/
def Obligations.EngineVectorResults : Prop :=
  -- Without a condition on a count
  (∀ (e : Nat) (m : BitVec 2) (d a b n : BitVec 5) (sat rnd bx : Bool) (s : State),
    s.clear e = true →
    m ≠ 3 →
    ∀ p ∈ ([(Instr.vAdd e false m d a b sat bx, bx, ⟨laneW m.toNat, List.zipWith (· + ·) (lanes (laneW m.toNat) (s.vreg e a)) (lanes (laneW m.toNat) (s.vreg e b)), sat⟩),
        (Instr.vSub e false m d a b sat bx, bx, ⟨laneW m.toNat, List.zipWith (· - ·) (lanes (laneW m.toNat) (s.vreg e a)) (lanes (laneW m.toNat) (s.vreg e b)), sat⟩),
        (Instr.vMul e false m d a b n sat rnd bx, bx, ⟨laneW m.toNat, List.zipWith (fun (p q : Int) => if rnd then roundShr (p * q) n.toNat else (p * q) / 2 ^ n.toNat) (lanes (laneW m.toNat) (s.vreg e a)) (lanes (laneW m.toNat) (s.vreg e b)), sat⟩),
        (Instr.vMin e false m d a b bx, bx, ⟨laneW m.toNat, List.zipWith min (lanes (laneW m.toNat) (s.vreg e a)) (lanes (laneW m.toNat) (s.vreg e b)), false⟩),
        (Instr.vMax e false m d a b bx, bx, ⟨laneW m.toNat, List.zipWith max (lanes (laneW m.toNat) (s.vreg e a)) (lanes (laneW m.toNat) (s.vreg e b)), false⟩),
        (Instr.vAbs e false m d a sat bx, bx, ⟨laneW m.toNat, (lanes (laneW m.toNat) (s.vreg e a)).map (fun p => (p.natAbs : Int)), sat⟩),
        (Instr.vAnd e false m d a b, false, ⟨laneW m.toNat, lanes (laneW m.toNat) (s.vreg e a &&& s.vreg e b), false⟩),
        (Instr.vOr e false m d a b, false, ⟨laneW m.toNat, lanes (laneW m.toNat) (s.vreg e a ||| s.vreg e b), false⟩),
        (Instr.vXor e false m d a b, false, ⟨laneW m.toNat, lanes (laneW m.toNat) (s.vreg e a ^^^ s.vreg e b), false⟩),
        (Instr.vSlar e false m d a b bx, bx, ⟨laneW m.toNat, (lanes (laneW m.toNat) (s.vreg e a)).map (fun p => p * 2 ^ min ((s.sreg e b).toNat % 64) (laneW m.toNat)), true⟩),
        (Instr.vBcast e false m d a, false, ⟨laneW m.toNat, List.replicate (256 / laneW m.toNat) (signed (laneW m.toNat) (s.sreg e a).toNat), false⟩),
        (Instr.vCmpgt e false m d a b, false, ⟨laneW m.toNat, List.zipWith (fun (p q : Int) => if q < p then -1 else 0) (lanes (laneW m.toNat) (s.vreg e a)) (lanes (laneW m.toNat) (s.vreg e b)), false⟩),
        (Instr.vSel e false m d a b, false, ⟨laneW m.toNat, List.zipWith (fun (c : Int) (y : Int × Int) => if c ≠ 0 then y.1 else y.2) (lanes (laneW m.toNat) (s.vreg e d)) ((lanes (laneW m.toNat) (s.vreg e a)).zip (lanes (laneW m.toNat) (s.vreg e b))), false⟩),
        (Instr.vMov e false m d a, false, ⟨laneW m.toNat, (lanes (laneW m.toNat) (s.vreg e a)), false⟩),
        (Instr.vEven e false m d a b, false, ⟨laneW m.toNat, (List.range (256 / laneW m.toNat)).map (fun i => ((lanes (laneW m.toNat) (s.vreg e a)) ++ (lanes (laneW m.toNat) (s.vreg e b))).getD (2 * i) 0), false⟩),
        (Instr.vOdd e false m d a b, false, ⟨laneW m.toNat, (List.range (256 / laneW m.toNat)).map (fun i => ((lanes (laneW m.toNat) (s.vreg e a)) ++ (lanes (laneW m.toNat) (s.vreg e b))).getD (2 * i + 1) 0), false⟩)] : List (Instr × Bool × VRes)),
      ∃ t, exec p.1 s = .next t ∧ Passes e { s.engine e with fly := vLand 1 d.toNat p.2.1 p.2.2 } s (s.nextPc e) t) ∧
  -- Shifts by an immediate
  (∀ (e : Nat) (m : BitVec 2) (d a n : BitVec 5) (rnd bx : Bool) (s : State),
    s.clear e = true →
    m ≠ 3 →
    n.toNat < laneW m.toNat →
    ∀ p ∈ ([(Instr.vSra e false m d a n rnd bx, bx, ⟨laneW m.toNat, (lanes (laneW m.toNat) (s.vreg e a)).map (fun p => if rnd then roundShr p n.toNat else p / 2 ^ n.toNat), false⟩),
        (Instr.vSrl e false m d a n, false, ⟨laneW m.toNat, (lanes (laneW m.toNat) (s.vreg e a)).map (fun p => ((unsigned (laneW m.toNat) p / 2 ^ n.toNat : Nat) : Int)), false⟩),
        (Instr.vSla e false m d a n bx, bx, ⟨laneW m.toNat, (lanes (laneW m.toNat) (s.vreg e a)).map (fun p => p * 2 ^ n.toNat), true⟩)] : List (Instr × Bool × VRes)),
      ∃ t, exec p.1 s = .next t ∧ Passes e { s.engine e with fly := vLand 1 d.toNat p.2.1 p.2.2 } s (s.nextPc e) t) ∧
  -- v.cat, v.clipu, v.pack, v.unpk
  (∀ (e : Nat) (m : BitVec 2) (d a b n : BitVec 5) (s : State),
    s.clear e = true →
    m ≠ 3 →
    n.toNat < 256 / laneW m.toNat →
    ∃ t, exec (.vCat e false m d a b n) s = .next t ∧ Passes e { s.engine e with fly := vLand 1 d.toNat false ⟨laneW m.toNat, (((lanes (laneW m.toNat) (s.vreg e a)) ++ (lanes (laneW m.toNat) (s.vreg e b))).drop n.toNat).take (256 / laneW m.toNat), false⟩ } s (s.nextPc e) t) ∧
  (∀ (e : Nat) (m : BitVec 2) (d a n : BitVec 5) (s : State),
    s.clear e = true →
    m ≠ 3 →
    1 ≤ n.toNat →
    n.toNat < laneW m.toNat →
    ∃ t, exec (.vClipu e false m d a n) s = .next t ∧ Passes e { s.engine e with fly := vLand 1 d.toNat false ⟨laneW m.toNat, (lanes (laneW m.toNat) (s.vreg e a)).map (fun p => min (max p 0) (2 ^ n.toNat - 1)), false⟩ } s (s.nextPc e) t) ∧
  (∀ (e : Nat) (m : BitVec 2) (d a b n : BitVec 5) (bx : Bool) (s : State),
    s.clear e = true →
    m ≠ 3 →
    m ≠ 1 →
    n.toNat ≤ 1 →
    (∃ t, exec (.vPack e false m d a b bx) s = .next t ∧ Passes e { s.engine e with fly := vLand 1 d.toNat bx ⟨laneW m.toNat, lanes (2 * laneW m.toNat) (s.vreg e a) ++ lanes (2 * laneW m.toNat) (s.vreg e b), true⟩ } s (s.nextPc e) t) ∧
      (∃ t, exec (.vUnpk e false m d a n) s = .next t ∧ Passes e { s.engine e with fly := vLand 1 d.toNat false ⟨laneW m.toNat, ((lanes (laneW m.toNat / 2) (s.vreg e a)).drop (n.toNat * (256 / laneW m.toNat))).take (256 / laneW m.toNat), false⟩ } s (s.nextPc e) t)) ∧
  -- A result that lands
  (∀ (e d : Nat) (bx : Bool) (r : VRes) (s : State),
    (s.engine e).fly = vLand 1 d bx r →
    ((s.engCycle e).engine e).vec_ d = packLanes r.w r.done ∧
      (∀ k, k ≠ d → ((s.engCycle e).engine e).vec_ k = (s.engine e).vec_ k) ∧ ((s.engCycle e).engine e).fly = [] ∧
      ((s.engCycle e).engine e).sat = ((s.engine e).sat || (r.sat && r.done != r.l)) ∧
      ((s.engCycle e).engine e).bexp = (if bx then min (s.engine e).bexp (rsbMin r.w r.done) else (s.engine e).bexp))

/-- Every multiply-accumulate operation puts the result its row gives in flight, to land after three more bundles (07_engine_instructions.md, Bundles and slot words, 07_engine_instructions.md, When results become visible, 07_engine_instructions.md, M slot, 07_engine_instructions.md, Arithmetic). -/
def Obligations.EngineMacResults : Prop :=
  -- Accumulating
  (∀ (e : Nat) (ad ac : BitVec 2) (a b : BitVec 5) (j : BitVec 4) (pair bx : Bool) (s : State),
    s.clear e = true →
    ∀ p ∈ ([(Instr.mMac e false ad a b pair bx, .accAdd ad.toNat (List.zipWith (mProd pair) (lanes 16 (s.vreg e a)) (lanes 16 (s.vreg e b))) bx),
        (Instr.mMsu e false ad a b pair bx, .accAdd ad.toNat ((List.zipWith (mProd pair) (lanes 16 (s.vreg e a)) (lanes 16 (s.vreg e b))).map (fun x => -x)) bx),
        (Instr.mMul e false ad a b pair bx, .accSet ad.toNat (List.zipWith (mProd pair) (lanes 16 (s.vreg e a)) (lanes 16 (s.vreg e b))) bx),
        (Instr.mMacl e false ad a b j pair bx, .accAdd ad.toNat ((lanes 16 (s.vreg e a)).map (fun x => mProd pair x ((lanes 16 (s.vreg e b)).getD j.toNat 0))) bx),
        (Instr.mMull e false ad a b j pair bx, .accSet ad.toNat ((lanes 16 (s.vreg e a)).map (fun x => mProd pair x ((lanes 16 (s.vreg e b)).getD j.toNat 0))) bx),
        (Instr.mClr e false ad, .accSet ad.toNat (List.replicate 16 0) false),
        (Instr.mAcc e false ad ac bx, .accAdd ad.toNat (s.acc e ac) bx)] : List (Instr × Landing)),
      ∃ t, exec p.1 s = .next t ∧ Passes e { s.engine e with fly := [(3, p.2)] } s (s.nextPc e) t) ∧
  -- m.ext, m.extr
  (∀ (e : Nat) (d b : BitVec 5) (ac : BitVec 2) (n : BitVec 6) (bx : Bool) (s : State),
    s.clear e = true →
    n.toNat ≤ 47 →
    (∃ t, exec (.mExt e false d ac n bx) s = .next t ∧ Passes e { s.engine e with
        fly := vLand 3 d.toNat bx ⟨16, (s.acc e ac).map (fun x => roundShr x n.toNat), true⟩ } s (s.nextPc e) t) ∧
      (∃ t, exec (.mExtr e false d ac b bx) s = .next t ∧ Passes e { s.engine e with
        fly := vLand 3 d.toNat bx ⟨16, (s.acc e ac).map (fun x => roundShr x (min ((s.sreg e b).toNat % 64) 47)), true⟩ } s (s.nextPc e) t)) ∧
  -- m.save, m.rest
  (∀ (e : Nat) (d : BitVec 5) (ac q : BitVec 2) (s : State),
    s.clear e = true →
    q ≠ 3 →
    (∃ t, exec (.mSave e false d ac q) s = .next t ∧ Passes e { s.engine e with
        fly := vLand 3 d.toNat false ⟨16, (s.acc e ac).map (fun x => signed 16 (unsigned 48 x / 2 ^ (16 * q.toNat))), false⟩ } s (s.nextPc e) t) ∧
      (∃ t, exec (.mRest e false ac d q) s = .next t ∧ Passes e { s.engine e with
        fly := [(3, .accPart ac.toNat q.toNat (s.vreg e d))] } s (s.nextPc e) t)) ∧
  -- An accumulator written
  (∀ (x : Eng) (r : Nat) (l : List Int) (bx : Bool),
    (x.land (.accSet r l bx)).accum r = l.map (fun v => max (-(2 ^ 47)) (min (2 ^ 47 - 1) v)) ∧
      (x.land (.accAdd r l bx)).accum r =
        (List.zipWith (· + ·) (x.accum r) l).map (fun v => max (-(2 ^ 47)) (min (2 ^ 47 - 1) v)) ∧
      (∀ k, k ≠ r → (x.land (.accSet r l bx)).accum k = x.accum k ∧ (x.land (.accAdd r l bx)).accum k = x.accum k) ∧
      (x.land (.accSet r l bx)).sat = (x.sat || l.any (fun v => v != max (-(2 ^ 47)) (min (2 ^ 47 - 1) v))) ∧
      (x.land (.accSet r l bx)).bexp = (if bx then min x.bexp (rsbMin 48 ((x.land (.accSet r l bx)).accum r)) else x.bexp) ∧
      (∀ k, (x.land (.accSet r l bx)).vec_ k = x.vec_ k))

/-- ENGINE_LOAD, ENGINE_START, ENGINE_STOP and ENGINE_STATUS: what each does and answers, and their effects at the tick (03_commands.md, Order, timing and replies, 06_quinner_engines.md, Cluster power, 06_quinner_engines.md, Commands). -/
def Obligations.EngineCommands : Prop :=
  -- ENGINE_LOAD
  (∀ (h : Hdr) (p b : List Byte) (s t : State),
    s.takes 0x0601 h = true →
    t = s.stamped h →
    t.readBuf h (u64 p 0) (min (u32 p 8) 131072) = some b →
    t.rangeAbsent (engRange (u16 p 12) (u8 p 14)) = false →
    t.rangeOff (engRange (u16 p 12) (u8 p 14)) = false →
    u8 p 15 = 0 →
    zeroFrom p 18 = true →
    badRange (u16 p 12) (u8 p 14) = false →
    h.spiBad (u64 p 0) (u32 p 8) = false →
    u32 p 8 = b.length →
    blobBad b = false →
    u16 p 16 = 0 ∨ t.costKnown (u16 p 16) = true →
    (∀ e ∈ engRange (u16 p 12) (u8 p 14), t.engState e ≠ engRunning ∧ t.engState e ≠ engHalted ∧ t.engContract e = none) →
    exec (.engineLoad h p) s = .next (((engRange (u16 p 12) (u8 p 14)).foldl (fun t e => t.engLoad e (u16 p 16) b) t).answer h Sts.ok 0
      (toLe 2 (u16 b 6)))) ∧
  -- ENGINE_START
  (∀ (h : Hdr) (p : List Byte) (s u : State),
    s.takes 0x0602 h = true →
    u = s.stamped h →
    u.rangeAbsent (engRange (u16 p 0) (u8 p 2)) = false →
    u.rangeOff (engRange (u16 p 0) (u8 p 2)) = false →
    badRange (u16 p 0) (u8 p 2) = false →
    u8 p 3 ≤ 1 →
    1 ≤ u32 p 4 →
    u32 p 4 ≤ 255 →
    zeroFrom p 16 = true →
    (∀ e ∈ engRange (u16 p 0) (u8 p 2), (u.engState e = engLoaded ∨ u.engState e = engStopped) ∧ u.engContract e = none) →
    exec (.engineStart h p) s = .next
      (let eff := effTick (u64 p 8) (u.now + 1)
       ((engRange (u16 p 0) (u8 p 2)).foldl (fun t e => t.schedule eff.1 (.engStart e (u8 p 3 + u32 p 4 * 256))) u).answer h eff.2 eff.1 [])) ∧
  -- ENGINE_STOP
  (∀ (h : Hdr) (p : List Byte) (s u : State),
    s.takes 0x0603 h = true →
    u = s.stamped h →
    u.rangeAbsent (engRange (u16 p 0) (u8 p 2)) = false →
    u.rangeOff (engRange (u16 p 0) (u8 p 2)) = false →
    badRange (u16 p 0) (u8 p 2) = false →
    zeroAt p 3 5 = true →
    zeroFrom p 16 = true →
    (∀ e ∈ engRange (u16 p 0) (u8 p 2), u.engContract e = none) →
    exec (.engineStop h p) s = .next
      (let eff := effTick (u64 p 8) (u.now + 1)
       ((engRange (u16 p 0) (u8 p 2)).foldl (fun t e => t.schedule eff.1 (.engStop e)) u).answer h eff.2 eff.1 [])) ∧
  -- ENGINE_STATUS
  (∀ (h : Hdr) (p : List Byte) (s t : State),
    s.takes 0x0604 h = true →
    t = s.stamped h →
    u16 p 0 < 256 →
    t.engPresent (u16 p 0) = true →
    2 ≤ t.dom (5 + u16 p 0 / 32) →
    zeroFrom p 2 = true →
    exec (.engineStatus h p) s = .next (let e := u16 p 0
      let b := fun (c : Bool) (i : Nat) => if c then 2 ^ i else 0
      t.answer h Sts.ok 0 ([BitVec.ofNat 8 (t.engState e), BitVec.ofNat 8 (b (t.inSpec e) 0 + b (t.inHandler e) 1 +
        b (t.isSet (Reg.ENG.STATUS.SPEC_EN e)) 2 + b (t.isSet (Reg.ENG.WDOG.EN e)) 3)] ++ toLe 2 (t.engPc e) ++
        [BitVec.ofNat 8 (t.rd (Reg.ENG.FAULT.CAUSE e)), 0] ++ toLe 2 (t.engine e).desc ++ toLe 2 (t.rd (Reg.ENG.COUNT.WDOG_CNT e)) ++
        toLe 2 ((t.engContract e).getD 0xFFFF)))) ∧
  -- ENGINE_START_APPLY and ENGINE_STOP_APPLY of one, with nothing else due
  (∀ (eff e w : Nat) (st : Nat × Nat) (s : State),
    s.dueNow = [⟨eff, .engStart e w, st⟩] →
    exec .engineStartApply s = .next (s.undue.engStart e w)) ∧
  (∀ (eff e : Nat) (st : Nat × Nat) (s : State),
    s.dueNow = [⟨eff, .engStop e, st⟩] →
    exec .engineStopApply s = .next (if s.engState e = engRunning ∧ (s.engine e).atom ≠ 0 then
      { s.undue with due := s.undue.due ++ [⟨eff, .engStop e, st⟩] } else s.undue.engStopNow e)) ∧
  -- Starting
  (∀ (e w : Nat) (s : State),
    s.engState e = engLoaded ∨ s.engState e = engStopped →
    s.engOn e = true →
    w < 2 ^ 32 →
    (s.engStart e w).engState e = engRunning ∧ (s.engStart e w).engPc e = (s.engine e).entry % 2 ^ 11 ∧
      (s.engStart e w).inHandler e = false ∧ (s.engStart e w).reg (Reg.ENG.WDOG e) = BitVec.ofNat 32 w ∧
      ((s.engStart e w).engine e).fly = [] ∧ ((s.engStart e w).engine e).pend = 0 ∧ ((s.engStart e w).engine e).loops = []) ∧
  -- Loading
  (∀ (e desc : Nat) (b : List Byte) (s : State),
    blobBad b = false →
    (s.engLoad e desc b).engState e = engLoaded ∧ (s.engLoad e desc b).engPc e = u16 b 8 % 2 ^ 11 ∧
      ((s.engLoad e desc b).engine e).nb = u16 b 6 ∧ ((s.engLoad e desc b).engine e).entry = u16 b 8 ∧
      ((s.engLoad e desc b).engine e).vec = u16 b 10 ∧ ((s.engLoad e desc b).engine e).desc = desc ∧
      ((s.engLoad e desc b).engine e).prog = Memory.writeN [] 0 ((b.drop 32).take (16 * u16 b 6)) ∧
      ((s.engLoad e desc b).engine e).ldm = (s.engine e).ldm.writeN 0 ((b.drop (32 + 16 * u16 b 6)).take (u32 b 12)))

/-- INTERRUPT_ENTRY, ENGINE_CHECKPOINT, ENGINE_COMMIT, ENGINE_ROLLBACK, ENGINE_WATCHDOG_DEADLINE and MARCH_GROUP: what each does (05_takes.md, Speculation, commit and rollback, 06_quinner_engines.md, Speculative area and checkpoints, 06_quinner_engines.md, Interrupts and exceptions, 06_quinner_engines.md, Tick watchdog, 06_quinner_engines.md, Cluster memory, 07_engine_instructions.md, Interrupt, tick and speculation instructions). -/
def Obligations.EngineEvents : Prop :=
  -- INTERRUPT_ENTRY
  (∀ (e v : Nat) (s : State),
    s.engEvent e = some v →
    s.engState e = engRunning →
    (s.engine e).free = true →
    s.engOn e = true →
    (s.engine e).fly = [] →
    ∃ t, exec (.interruptEntry e) s = .next t ∧ t.engPc e = ((s.engine e).vec + 4 * v) % 2 ^ 11 ∧ t.inHandler e = true ∧
      (t.engine e).epc = s.engPc e ∧ (t.engine e).wait = false ∧ (v = 0 → (t.engine e).exc = none) ∧
      (v ≠ 0 → (t.engine e).pend = clrBit (s.engine e).pend (v - 1))) ∧
  -- ENGINE_CHECKPOINT
  (∀ (e : Nat) (s : State),
    (s.engine e).ask = true →
    s.engState e = engRunning →
    (s.engine e).free = true →
    s.inHandler e = false →
    s.engOn e = true →
    ∃ t, exec (.engineCheckpoint e) s = .next t ∧ t.inSpec e = true ∧ (t.engine e).writ = [] ∧ (t.engine e).ask = false ∧
      (t.engine e).chk = some ((s.engDrain e).checkpoint e)) ∧
  -- ENGINE_COMMIT
  (∀ (e : Nat) (s : State),
    s.inSpec e = true →
    ∃ t, exec (.engineCommit e) s = .next t ∧ t.inSpec e = false ∧ (t.engine e).chk = none ∧ (t.engine e).writ = [] ∧
      (t.engine e).tcst = 1 ∧ bit (t.engine e).pend 1 = true ∧
      (t.engine e).sel = (s.engine e).writ.foldl (fun l w => if l.contains w then l.filter (· != w) else sortNat (w :: l)) (s.engine e).sel ∧
      (t.engine e).sreg = (s.engine e).sreg ∧ (t.engine e).ldm = (s.engine e).ldm ∧
      t.dmaQueue e = (s.dmaQueue e).map (fun d => { d with spec := false })) ∧
  (∀ (e : Nat) (s : State),
    s.inSpec e = false →
    exec (.engineCommit e) s = .next (s.updEngine e (fun x => { x with ask := false }))) ∧
  -- ENGINE_ROLLBACK
  (∀ (e : Nat) (c : Checkpoint) (s : State),
    (s.engine e).chk = some c →
    (s.engine e).rollback = true →
    s.inSpec e = true →
    s.inHandler e = false →
    (s.engine e).atom = 0 →
    ∃ t, exec (.engineRollback e) s = .next t ∧ t.inSpec e = false ∧ t.engPc e = c.pc % 2 ^ 11 ∧ (t.engine e).sreg = c.s ∧
      (t.engine e).vreg = c.v ∧ (t.engine e).acc = c.a ∧ (t.engine e).bexp = c.bexp ∧ (t.engine e).sat = c.sat ∧
      (t.engine e).writ = [] ∧ (t.engine e).fly = [] ∧ (t.engine e).tcst = 2 ∧ (t.engine e).sel = (s.engine e).sel ∧
      t.dmaQueue e = (s.dmaQueue e).filter (fun d => !d.spec)) ∧
  -- ENGINE_WATCHDOG_DEADLINE
  (∀ (e : Nat) (s : State),
    s.engState e = engRunning →
    s.isSet (Reg.ENG.WDOG.EN e) = true →
    s.engOn e = true →
    s.slot = s.rd (Reg.ENG.WDOG.MARGIN e) →
    exec (.engineWatchdogDeadline e) s = .next
      (if (s.engine e).done.any (fun d => decide (s.now ≤ d + 1)) then s.setEngine e { s.engine e with missed := 0 }
       else
        (let s1 := (((s.bump (Reg.ENG.COUNT.WDOG_CNT e)).engCause e 5 (s.engPc e) 0).engRaise e 0).updEngine e
          (fun y => { y with missed := y.missed + 1 })
         if s.inHandler e ∨ 1 ≤ (s.engine e).missed then s1.setEngState e engFaulted else s1))) ∧
  -- MARCH_GROUP
  (∀ (c : Nat) (s : State),
    c < s.nClusters →
    s.dom (5 + c) = 3 ∨ s.dom (5 + c) = 2 →
    exec (.marchGroup c none) s = .next
      (let s1 := s.wr (Reg.CLU.MARCH.GROUP c) ((s.rd (Reg.CLU.MARCH.GROUP c) + 1) % 32768)
       if s.rd (Reg.CLU.MARCH.GROUP c) = 32767 then s1.bump (Reg.CLU.MARCH.PASS_CNT c) else s1) ∧
    ∀ b r k, ∃ t, exec (.marchGroup c (some (b, r, k))) s = .next t ∧ t.isSet (Reg.CLU.EVENT.MARCH_FAIL c) = true)

/-- How operations make a bundle, what an ILLEGAL bundle is, exceptions, and ENGINE_STEP and ENGINE_INJECT (06_quinner_engines.md, Pipeline, 06_quinner_engines.md, Tick watchdog, 07_engine_instructions.md, Bundles and slot words, 07_engine_instructions.md, S slot, 07_engine_instructions.md, V slot, 07_engine_instructions.md, Interrupt, tick and speculation instructions, 18_debug_and_test.md, Halting engines and cores). -/
def Obligations.EngineBundles : Prop :=
  -- Joining and issuing
  (∀ (e : Nat) (o : SlotOp) (s : State),
    s.mayIssue e = true →
    s.inS e true o = s.updEngine e (fun x => { x with openB := { (s.engine e).openB with s := o } }) ∧
      s.inL e true o = s.updEngine e (fun x => { x with openB := { (s.engine e).openB with l := o } }) ∧
      s.inV e true o = s.updEngine e (fun x => { x with openB := { (s.engine e).openB with v := o } }) ∧
      s.inM e true o = s.updEngine e (fun x => { x with openB := { (s.engine e).openB with m := o } }) ∧
      s.inS e false o = s.issue e { (s.engine e).openB with s := o } ∧ s.inL e false o = s.issue e { (s.engine e).openB with l := o } ∧
      s.inV e false o = s.issue e { (s.engine e).openB with v := o } ∧ s.inM e false o = s.issue e { (s.engine e).openB with m := o }) ∧
  (∀ (e : Nat) (more : Bool) (o : SlotOp) (s : State),
    s.mayIssue e = false →
    s.inS e more o = s ∧ s.inL e more o = s ∧ s.inV e more o = s ∧ s.inM e more o = s) ∧
  -- What is ILLEGAL
  (∀ (e : Nat) (o p : SlotOp) (s : State),
    (o.op ≠ 0 → o.m = 3 → vIllegal o = true) ∧ (o.op = 0x0B → laneW o.m ≤ o.n → vIllegal o = true) ∧
      (o.op = 0x07 → 47 < o.n → mIllegal o = true) ∧
      (1 ≤ o.op → o.op ≤ 0x19 → p.op = 0x04 → o.d = p.d → clash { s := o, l := p } = true) ∧
      (o.op = 0x24 → (s.engine e).nb ≤ o.n → s.sIllegal e o = true) ∧
      (o.op = 0x2A → (s.engine e).atom ≠ 0 → s.placeIllegal e o = true)) ∧
  -- An exception outside and inside a handler
  (∀ (e c pc a : Nat) (s : State),
    s.inHandler e = false →
    a < 2 ^ 32 →
    (s.engExc e c pc a).rd (Reg.ENG.FAULT.CAUSE e) = c % 2 ^ (Reg.ENG.FAULT.CAUSE e).w ∧
      (s.engExc e c pc a).rd (Reg.ENG.FAULT.PC e) = pc % 2 ^ (Reg.ENG.FAULT.PC e).w ∧
      (s.engExc e c pc a).isSet (Reg.ENG.FAULT.PEND e) = true ∧ ((s.engExc e c pc a).engine e).exc = some c ∧
      (s.engExc e c pc a).reg (Reg.ENG.FAULT_ADDR e) = BitVec.ofNat 32 a) ∧
  (∀ (e c pc a : Nat) (s : State),
    s.inHandler e = true →
    (s.engExc e c pc a).engState e = engFaulted ∧
      (s.engExc e c pc a).rd (Reg.ENG.FAULT.CAUSE e) = 7) ∧
  -- ENGINE_STEP and ENGINE_INJECT
  (∀ (m e : Nat) (s : State),
    e < 256 →
    s.engPresent e = true →
    s.engOn e = true →
    s.engState e = engHalted →
    (∃ t, exec (.engineStep m e) s = .next t ∧ t = s.engCtrl m e (fun t => t.step1 e)) ∧
      (∃ t, exec (.engineInject m e) s = .next t ∧ t = s.engCtrl m e (fun t => t.inject e)) ∧
      s.step1 e = (let t := ((s.issueNext e).stepMore e 32).engDrain e
        if t.engState e = engHalted then t
        else (t.updEngine e (fun x => { x with prior := t.engState e })).wr (Reg.ENG.STATUS.STATE e) engHalted)) ∧
  (∀ (e : Nat) (s : State),
    s.engPresent e = true →
    s.engOn e = true →
    s.engState e = engHalted →
    decodeBundle (s.reg (Reg.DBG.INJ 0)) (s.reg (Reg.DBG.INJ 1)) (s.reg (Reg.DBG.INJ 2)) (s.reg (Reg.DBG.INJ 3)) = none →
    s.inject e = (s.wr Reg.DBG.ENG_STAT.INJ_CAUSE 1).evt Reg.DBG.EVENT.INJ_DONE)

/-- IMAGE_STAGE, STAGING_END, MOLT_PLAN, MOLT_COMMIT, MOLT_STAGE_CHECK, MOLT_STAGE_SWAP, STAGGER_HANDOVER and STAGGER_MATCH_COMPLETE: what each does (09_molt_and_scrub.md, Staging and planning, 09_molt_and_scrub.md, The swap, 09_molt_and_scrub.md, Molts on a twin, 09_molt_and_scrub.md, Commands). -/
def Obligations.StagingAndMolt : Prop :=
  -- IMAGE_STAGE
  (∀ (h : Hdr) (p : List Byte) (s t : State),
    s.takes 0x0701 h = true →
    t = s.stamped h →
    u64 p 0 = 0 →
    t.staging ≠ 1 →
    u8 p 23 ≤ 1 →
    zeroFrom p 24 = true →
    t.isSet Reg.MOLT.STATUS.COMMIT_PEND = false →
    exec (.imageStage h p) s = .next (t.clearStaging.answer h Sts.ok 0 [])) ∧
  (∀ (h : Hdr) (p : List Byte) (a len mask r : Nat) (s u : State),
    s.takes 0x0701 h = true →
    u = s.stamped h →
    a = u64 p 0 →
    len = u64 p 8 →
    mask = leAt p 16 7 →
    a ≠ 0 →
    u.staging ≠ 1 →
    u.domOn 4 = true →
    (∀ t ∈ maskTiles mask, t < u.nTiles → u.domOn (13 + t / 4) = true) →
    u.regionAt a = some r →
    u.isSet (Reg.PMAP.REG_LO.CODE r) = true →
    u.rd (Reg.PMAP.REG_LO.STATE r) = 2 →
    a + len ≤ (u.rd (Reg.PMAP.REG_LO.BASE r) + u.rd (Reg.PMAP.REG_HI.SIZE r)) * 2 ^ 24 →
    a + len ≤ u.storeBase →
    mask < 2 ^ u.nTiles →
    (∀ t ∈ maskTiles mask, (imgTable (u.dramImage a)).any (fun x => x.typ == 1 && x.arg == t) = true) →
    (bit (u8 p 23) 0 = true → (imgTable (u.dramImage a)).any (fun x => x.typ == 1 && x.arg == 0xFF) = true) →
    u8 p 23 ≤ 1 →
    zeroFrom p 24 = true →
    u.isSet Reg.MOLT.STATUS.COMMIT_PEND = false →
    exec (.imageStage h p) s = .next (match u.imgCheck (u.dramImage a) len with
      | some c => (u.wr Reg.MOLT.STATUS.FAIL_CODE c).answer h Sts.imageInvalid 0 []
      | none =>
        (let s1 := ((((u.clearStaging.wr Reg.MOLT.STATUS.STAGING 1).wr Reg.MOLT.STAGED_LO.TILES_LO (mask % 2 ^ 32)).wr
          Reg.MOLT.STAGED_HI.TILES_HI (mask / 2 ^ 32)).flag Reg.MOLT.STAGED_HI.GLOBALS (bit (u8 p 23) 0)).wr Reg.MOLT.STAGED_INSTAR.INSTAR
            (imgInstar (u.dramImage a))
         ({ s1 with molt := { s1.molt with addr := a, len := len, digest := imgDigest (u.dramImage a) } } : State).answer h Sts.ok 0
          (toLe 4 (imgInstar (u.dramImage a)))))) ∧
  -- STAGING_END
  (∀ (s : State),
    s.staging = 1 →
    exec .stagingEnd s = .next (match sectsCheck (s.dramImage s.molt.addr) (s.stagedSects (s.dramImage s.molt.addr)) with
      | some c => ((s.clearStaging.wr Reg.MOLT.STATUS.STAGING 3).wr Reg.MOLT.STATUS.FAIL_CODE c).evt Reg.MOLT.EVENT.STAGE_FAIL
      | none =>
        (let s1 := ((s.stagedSects (s.dramImage s.molt.addr)).filter (fun x => decide (x.arg < 56))).foldl
          (fun t x => t.dramWrite (t.stagedAt x.arg) (frameData (sectBytes (s.dramImage s.molt.addr) x))) s
         ((((({ s1 with molt := { s1.molt with stages := s1.planStages, planOf := none, staged := imgMasks (s.dramImage s.molt.addr) } } : State).wr Reg.MOLT.STATUS.STAGING 2).wr
          Reg.MOLT.STATUS.N_STAGES s1.planStages.length).loadStage 1).evt Reg.MOLT.EVENT.STAGE_DONE)))) ∧
  -- MOLT_PLAN where the result fits its buffer or not
  (∀ (h : Hdr) (p b : List Byte) (s t : State),
    s.takes 0x0702 h = true →
    t = s.stamped h →
    u8 p 12 = 0 →
    zeroFrom p 13 = true →
    h.spiBad (u64 p 0) (u32 p 8) = false →
    t.staging = 2 →
    t.onAirHeld = [] →
    b = [BitVec.ofNat 8 t.molt.stages.length, 0] ++ toLe 2 (t.heldBy t.molt.stages).length ++ toLe 12 0 ++
      t.molt.stages.flatMap (fun m => toLe 7 m ++ [if m = 0 then 1 else 0] ++ toLe 8 0) ++
      (t.heldBy t.molt.stages).flatMap (fun x => toLe 4 ((t.contract x.1).id x.1) ++ [BitVec.ofNat 8 (t.contract x.1).d.cls,
        BitVec.ofNat 8 x.2.1, BitVec.ofNat 8 x.2.2] ++ toLe 9 0) →
    exec (.moltPlan h p) s = .next
      ((if u32 p 8 < b.length then t.planNow.1 else t.planNow.1.writeBuf h (u64 p 0) b).answer h Sts.ok 0
        ([BitVec.ofNat 8 t.molt.stages.length, 0] ++ toLe 2 (t.heldBy t.molt.stages).length ++ toLe 2 0 ++ toLe 2 0 ++
          toLe 4 t.planNow.2 ++ toLe 4 b.length))) ∧
  -- MOLT_COMMIT without STAGGER
  (∀ (h : Hdr) (p : List Byte) (s t : State),
    s.takes 0x0703 h = true →
    t = s.stamped h →
    t.mode = 3 ∨ t.mode = 4 →
    u8 p 4 = 0 →
    u8 p 5 ≤ 64 →
    zeroAt p 6 2 = true →
    zeroFrom p 16 = true →
    t.staging = 2 →
    t.isSet Reg.MOLT.STATUS.COMMIT_PEND = false →
    t.molt.planOf = some (u32 p 0, t.tableSig) →
    t.onAirHeld = [] →
    exec (.moltCommit h p) s = .next (let eff := effTick (u64 p 8) (t.now + 2)
      ((({ t with molt := { t.molt with tick := eff.1, late := 0, bound := 0, held := [] } } : State).wr Reg.MOLT.STATUS.COMMIT_PEND 1).wr
        Reg.MOLT.STATUS.NEXT 1 |>.wr Reg.MOLT.STATUS.STAGGER 0).answer h eff.2 eff.1 [])) ∧
  -- MOLT_STAGE_CHECK: passed; failed; failed a fifth time
  (∀ (s : State),
    s.ownStages = true →
    s.now + 1 = s.molt.tick →
    exec (.moltStageCheck true) s = .next s ∧
      (s.molt.late ≠ 4 → exec (.moltStageCheck false) s = .next
        ((((({ s with molt := { s.molt with tick := s.molt.tick + 1, late := s.molt.late + 1 } } : State).loadStage
          (s.rd Reg.MOLT.STATUS.NEXT)).evt Reg.MOLT.EVENT.MOLT_LATE).bump Reg.MOLT.COUNT.LATE_CNT))) ∧
      (s.molt.late = 4 → ∃ t, exec (.moltStageCheck false) s = .next t ∧ t.isSet Reg.MOLT.STATUS.COMMIT_PEND = false ∧
        t.rd Reg.MOLT.STATUS.NEXT = 0 ∧ t.isSet Reg.MOLT.EVENT.MOLT_ABORTED = true ∧
        t.molt.stages = s.molt.stages.drop (s.rd Reg.MOLT.STATUS.NEXT - 1))) ∧
  -- MOLT_STAGE_SWAP of a stage that touches no contract
  (∀ (s : State),
    s.ownStages = true →
    s.molt.tick = s.now →
    s.rd Reg.MOLT.STATUS.STAGGER = 0 →
    s.heldBy s.molt.stages = [] →
    exec .moltStageSwap s = .next
      (let k := s.rd Reg.MOLT.STATUS.NEXT
       let s2 := if s.nextStage = 0 then s.bootGlobals s.molt.digest
         else ((maskTiles s.nextStage).foldl (fun t x => t.swapTile x) s).swapPorts s.nextStage
       let s4 := (({ s2 with molt := { s2.molt with tick := s.now + 1, late := 0 } } : State).evt Reg.MOLT.EVENT.STAGE_APPLIED).bump
        Reg.MOLT.COUNT.STAGE_CNT
       if k < s.molt.stages.length then (s4.wr Reg.MOLT.STATUS.NEXT (k + 1)).loadStage (k + 1)
       else
        (let s5 := ((s4.wr Reg.MOLT.INSTAR.INSTAR (s4.rd Reg.MOLT.STAGED_INSTAR.INSTAR)).wr Reg.MOLT.STATUS.NEXT 0).wr
          Reg.MOLT.STATUS.COMMIT_PEND 0
         (({ s5 with boot := { s5.boot with imgDigest := s5.molt.digest } } : State).clearStaging).evt Reg.MOLT.EVENT.MOLT_DONE))) ∧
  -- STAGGER_HANDOVER on the SECONDARY, STAGGER_MATCH_COMPLETE on both devices
  (∀ (s : State),
    s.now = s.molt.bound →
    s.rd Reg.MOLT.STATUS.STAGGER ≠ 0 →
    s.rd Reg.TWIN.CFG.ROLE ≠ 1 →
    exec .staggerHandover s = .next ((s.moltUnmute.wr Reg.TWIN.STATUS.CHG_SEL 1).wr Reg.MOLT.STATUS.STAGGER 2)) ∧
  (∀ (s : State),
    s.now = s.molt.bound →
    s.rd Reg.MOLT.STATUS.STAGGER ≠ 0 →
    s.rd Reg.TWIN.CFG.ROLE = 1 →
    s.heldBy s.molt.stages = [] →
    exec .staggerHandover s = .next (((s.setChg false).wr Reg.MOLT.STATUS.MUTED 1).wr Reg.MOLT.STATUS.STAGGER 1)) ∧
  (∀ (s : State),
    2 ≤ s.rd Reg.MOLT.STATUS.STAGGER →
    s.isSet Reg.MOLT.STATUS.COMMIT_PEND = false →
    exec .staggerMatchComplete s = .next (if s.rd Reg.TWIN.CFG.ROLE = 1 then
        ((s.moltUnmute.setChg true).wr Reg.MOLT.STATUS.STAGGER 0).evt Reg.MOLT.EVENT.MOLT_DONE
      else ((s.wr Reg.TWIN.STATUS.CHG_SEL 0).wr Reg.MOLT.STATUS.STAGGER 0).evt Reg.MOLT.EVENT.MOLT_DONE))

/-- SCRUB_FRAME_READ, SCRUB_RELOAD_SWAP and SCRUB_STATUS: what each does (09_molt_and_scrub.md, Scrubbing, 09_molt_and_scrub.md, Commands). -/
def Obligations.Scrubbing : Prop :=
  -- SCRUB_FRAME_READ
  (∀ (t f : Nat) (s : State),
    t < s.nTiles →
    f < 18688 →
    s.domOn (13 + t / 4) = true →
    s.scrubMasked t f = false →
    s.passEnd t f = false →
    exec (.scrubFrameRead t f 0) s = .next s ∧
      exec (.scrubFrameRead t f 1) s = .next (((((((s.wr Reg.SCRUB.LAST.TILE t).wr Reg.SCRUB.LAST.FRAME f).wr Reg.SCRUB.LAST.MULTI 0).bump
        (Reg.SCRUB.TILE.CORR_CNT t)).corrected (38 + t) 1 f).evt Reg.MOLT.EVENT.SCRUB_CORRECTED)) ∧
      exec (.scrubFrameRead t f 2) s = .next ((((s.wr Reg.SCRUB.LAST.TILE t).wr Reg.SCRUB.LAST.FRAME f).wr Reg.SCRUB.LAST.MULTI 1).tileReload t)) ∧
  (∀ (t err : Nat) (s : State),
    t < s.nTiles →
    s.domOn (13 + t / 4) = true →
    t = (s.molt.conf.filter (fun x => s.domOn (13 + x / 4))).foldl min t →
    err = 0 ∨ s.scrubMasked t 18687 = true →
    exec (.scrubFrameRead t 18687 err) s = .next (s.bump Reg.SCRUB.LAST.PASS_CNT)) ∧
  -- A frame that the tile’s mask marks, an absent tile, and a tile that is off are passed over
  (∀ (t f err : Nat) (s : State),
    s.nTiles ≤ t ∨ 18688 ≤ f ∨ s.domOn (13 + t / 4) = false ∨ (s.scrubMasked t f = true ∧ s.passEnd t f = false) →
    exec (.scrubFrameRead t f err) s = .next s) ∧
  -- A reload begins, early and late in the tick
  (∀ (t : Nat) (s : State),
    s.ownStages = false →
    s.pwr.seqs = [] →
    s.molt.reloads = [] →
    s.liveWhere (fun c => bit (s.contractTiles c) t) = [] →
    (∀ m < s.nMcs, s.mcState m ≠ 3) →
    s.tileReload t = (let late := decide (s.slots - 64 ≤ s.slot)
      let s1 := ({ s with twin := { s.twin with eccTick := s.now } } : State).wr (Reg.SCRUB.TILE.RELOAD_PEND t) 1
      let s2 : State := { s1 with molt := { s1.molt with reloads := [⟨t, if late then s.now + 2 else s.now + 1⟩] } }
      if late then s2.evt Reg.MOLT.EVENT.RELOAD_LATE else s2)) ∧
  -- SCRUB_RELOAD_SWAP
  (∀ (t k : Nat) (s : State),
    s.molt.reloads = [⟨t, k⟩] →
    k ≤ s.now →
    exec .scrubReloadSwap s = .next (((({ s with molt := { s.molt with reloads := [] } } : State).bump (Reg.SCRUB.TILE.RELOAD_CNT t)).wr
      (Reg.SCRUB.TILE.RELOAD_PEND t) 0).evt Reg.MOLT.EVENT.SCRUB_RELOAD |>.holdTile t true)) ∧
  -- A tile that slot 1 frees, after a scrub reload and after a stage: flip-flops or new configuration, then the first pulse it sees
  (∀ (t : Nat) (s : State),
    s.molt.frozen = [(t, true)] ∨ s.molt.frozen = [(t, false)] →
    s.freeTiles = (let u := { s with molt := { s.molt with frozen := [] } }
      let v := if s.molt.frozen = [(t, true)] then u.resetFlops t else u.initTile t
      { v with cells := SMap.mapAll (fun _ => ({} : TileSt)) (fun k c =>
        if k = t then { c with seen := s.absSlot - 1, pulses := [], tapQ := [] } else c) v.cells })) ∧
  -- SCRUB_STATUS
  (∀ (h : Hdr) (p : List Byte) (t corr rel : Nat) (s u : State),
    s.takes 0x0704 h = true →
    u = s.stamped h →
    t = u8 p 0 →
    t < u.nTiles ∧ u.domOn (13 + t / 4) = true ∧ corr = u.rd (Reg.SCRUB.TILE.CORR_CNT t) ∧ rel = u.rd (Reg.SCRUB.TILE.RELOAD_CNT t) ∨ t = 0xFF ∧ corr = (List.range u.nTiles).foldl (fun a k => a + u.rd (Reg.SCRUB.TILE.CORR_CNT k)) 0 ∧ rel = (List.range u.nTiles).foldl (fun a k => a + u.rd (Reg.SCRUB.TILE.RELOAD_CNT k)) 0 →
    zeroFrom p 1 = true →
    exec (.scrubStatus h p) s = .next (u.answer h Sts.ok 0 (toLe 4 corr ++ toLe 2 rel ++ toLe 2 (u.rd Reg.SCRUB.LAST.PASS_CNT) ++
      toLe 1 (u.rd Reg.SCRUB.LAST.TILE) ++ toLe 1 (u.rd Reg.SCRUB.LAST.MULTI) ++ toLe 2 (u.rd Reg.SCRUB.LAST.FRAME))))

/-- What the fabric PLL, video PLL, fabric port and DMA rows do, and what the cells, memories and slices of a tile do (08_fabric.md, Logic cells and carry, 08_fabric.md, Leaf memories, 08_fabric.md, Frame blocks and line buffers, 08_fabric.md, Arithmetic slices, 08_fabric.md, Clocks and PLLs, 08_fabric.md, Fabric ports, 17_interrupts_mailboxes.md, Mailboxes, 17_interrupts_mailboxes.md, Cluster window and DMA queues). -/
def Obligations.FabricAndDma : Prop :=
  -- FPLL_UNLOCK, FPLL_RELOCK, VPLL_UNLOCK
  (∀ (k : Nat) (s : State),
    k < s.nFplls →
    s.domOn 3 = true →
    s.isSet (Reg.FAB.FPLL_STATUS.EN k) = true →
    exec (.fpllUnlock k) s = .next (((s.wr (Reg.FAB.FPLL_STATUS.LOCKED k) 0).wr (Reg.FAB.FPLL_STATUS.HOLDOVER k) 1).evt Reg.FAB.EVENT.FPLL_UNLOCK) ∧
      exec (.fpllRelock k) s = .next ((s.wr (Reg.FAB.FPLL_STATUS.LOCKED k) 1).wr (Reg.FAB.FPLL_STATUS.HOLDOVER k) 0)) ∧
  (∀ (k : Nat) (s : State),
    k < s.nVplls →
    s.domOn 3 = true →
    s.rd (Reg.FAB.VPLL_STATUS.K k) ≠ 0 →
    exec (.vpllUnlock k) s = .next ((s.wr (Reg.FAB.VPLL_STATUS.ALIGNED k) 0).evt Reg.FAB.EVENT.VPLL_UNLOCK)) ∧
  -- FPORT_MEMORY_REQUEST: a CTX without a stage on the port
  (∀ (r : FportReq) (s : State),
    r.n < s.nFports →
    s.domOn 3 = true →
    r.len % 64 = 0 ∧ 64 ≤ r.len ∧ r.len ≤ 4096 →
    r.ctx ≠ 0xFFFF →
    s.onFport r.ctx r.n = false →
    exec (.fportMemoryRequest r) s = .next (if r.write then (s.bump (Reg.FAB.FPORT_CNT.BAD_CTX_CNT r.n)).evt Reg.FAB.EVENT.BAD_CTX
      else ((s.bump (Reg.FAB.FPORT_CNT.BAD_CTX_CNT r.n)).evt Reg.FAB.EVENT.BAD_CTX).emit (.dram r.n 9 (8 + r.n / 8) r.id))) ∧
  -- To DRAM, outside speculation
  (∀ (r : FportReq) (s : State),
    r.n < s.nFports →
    s.domOn 3 = true →
    r.len % 64 = 0 ∧ 64 ≤ r.len ∧ r.len ≤ 4096 →
    r.ctx = 0xFFFF ∨ s.onFport r.ctx r.n = true →
    r.addr / 2 ^ 16 < 0xFFFFFFFFFFFF →
    r.ctx = 0xFFFF ∨ r.write = false ∨ (s.egress (egKey (r.ctx % 4096) (r.ctx / 4096 % 16))).spec = none →
    exec (.fportMemoryRequest r) s = .next (s.dramArrive
      { port := 8 + r.n / 8, id := r.id, addr := r.addr, len := r.len, write := r.write,
        data := fitTo r.len r.data, ctx := r.ctx, keep := r.keep, ns := r.ns, src := r.n + 1 })) ∧
  -- A speculative write into a provisional buffer, and outside both
  (∀ (r : FportReq) (k : Nat) (s : State),
    r.n < s.nFports →
    s.domOn 3 = true →
    r.len % 64 = 0 ∧ 64 ≤ r.len ∧ r.len ≤ 4096 →
    s.onFport r.ctx r.n = true →
    r.ctx ≠ 0xFFFF →
    r.addr / 2 ^ 16 < 0xFFFFFFFFFFFF →
    k = egKey (r.ctx % 4096) (r.ctx / 4096 % 16) →
    (s.egress k).spec.isSome = true →
    r.write = true →
    exec (.fportMemoryRequest r) s = .next (match s.provAddr k r.addr r.len with
      | some a => s.dramArrive (fportDram r a)
      | none => ((s.bump (Reg.FAB.FPORT_CNT.SPEC_FAULT_CNT r.n)).evt Reg.FAB.EVENT.SPEC_FAULT).specFault k)) ∧
  -- A read of a lock
  (∀ (r : FportReq) (s : State),
    r.n < s.nFports →
    s.domOn 3 = true →
    r.len % 64 = 0 ∧ 64 ≤ r.len ∧ r.len ≤ 4096 →
    r.ctx = 0xFFFF →
    0xFFFFFFFFFFFF ≤ r.addr / 2 ^ 16 →
    r.write = false →
    lockOff (0x30000 + r.addr % 2 ^ 16) = true →
    r.addr % 4 = 0 →
    s.offPresent (0x30000 + r.addr % 2 ^ 16) = true →
    s.offOn (0x30000 + r.addr % 2 ^ 16) = true →
    exec (.fportMemoryRequest r) s = .next ((s.lockRead (288 + r.n) (0x30000 + r.addr % 2 ^ 16)).1.emit
      (.readData (288 + r.n) (0x30000 + r.addr % 2 ^ 16) (s.lockRead (288 + r.n) (0x30000 + r.addr % 2 ^ 16)).2))) ∧
  -- FPORT_REGISTER_READ answered and not answered in time, FPORT_REGISTER_TIMEOUT
  (∀ (n a : Nat) (v : Word) (s : State),
    n < s.nFports →
    s.domOn 3 = true →
    a < 0x80000 →
    exec (.fportRegisterRead n a (some v)) s = .next ((s.emit (.fabric 8 n a)).emit (.readData 5 (0x2000000 + 0x80000 * n + a) v)) ∧
      exec (.fportRegisterRead n a none) s =
        .next { s.emit (.fabric 8 n a) with strm := { s.strm with fabReads := s.strm.fabReads ++ [(n, a)] } }) ∧
  (∀ (n a : Nat) (s : State),
    s.strm.fabReads.contains (n, a) = true →
    s.domOn 3 = true →
    exec (.fportRegisterTimeout n a) s = .next
      (((({ s with strm := { s.strm with fabReads := s.strm.fabReads.erase (n, a) } } : State).emit (.hostAbort (fportWin n + a))).bump
        (Reg.FAB.FPORT_REG.REG_TIMEOUT_CNT n)).evt Reg.FAB.EVENT.REG_TIMEOUT)) ∧
  -- DMA_GO by a master that may, with a place free and without
  (∀ (m e v : Nat) (s : State),
    e < 256 →
    dmaMaster m e = true →
    s.offPresent (Reg.DMA.CTX e) = true →
    s.offOn (Reg.DMA.CTX e) = true →
    exec (.dmaGo m e v) s = .next (if s.rd (Reg.DMA.STAT.FREE e) = 0 then (s.wr (Reg.DMA.CTX.CTX e) v).wr (Reg.DMA.STAT.ERR e) 1
      else ((s.wr (Reg.DMA.CTX.CTX e) v).setDmaQueue e (s.dmaQueue e ++
          [⟨s.rd (Reg.DMA.SRC_HI.ADDR e) * 2 ^ 32 + s.rd (Reg.DMA.SRC_LO.ADDR e),
            if s.inSpec e = true ∧ m = 16 + e then (s.dmaProv e).getD (s.rd (Reg.DMA.DST_HI.ADDR e) * 2 ^ 32 + s.rd (Reg.DMA.DST_LO.ADDR e))
              else s.rd (Reg.DMA.DST_HI.ADDR e) * 2 ^ 32 + s.rd (Reg.DMA.DST_LO.ADDR e), s.rd (Reg.DMA.LEN.LEN e), v % 2 ^ 16, s.inSpec e && m == 16 + e⟩])).wr
        (Reg.DMA.STAT.FREE e) (s.rd (Reg.DMA.STAT.FREE e) - 1))) ∧
  -- DMA_DESCRIPTOR_DONE: done where both ends can be reached, else failed
  (∀ (e : Nat) (d : DmaDesc) (rest : List DmaDesc) (s s1 : State),
    s.dmaQueue e = d :: rest →
    s1 = (s.setDmaQueue e rest).wr (Reg.DMA.STAT.FREE e) (s.rd (Reg.DMA.STAT.FREE e) + 1) →
    exec (.dmaDescriptorDone e) s = .next (match (if d.bad then none else (s1.dmaRead d.src d.len).bind (s1.dmaWrite e d.dst d.ctx)) with
      | some t => if d.spec then t.bump (Reg.DMA.STAT.DONE_CNT e)
          else (t.bump (Reg.DMA.STAT.DONE_CNT e)).updEngine e (fun x => { x with chk := x.chk.map (fun c => { c with done := c.done + 1 }) })
      | none => if d.spec then s1.dmaErr e
          else (s1.dmaErr e).updEngine e (fun x => { x with chk := x.chk.map (fun c => { c with err := true }) })) ∧
    s1.dmaErr e = (((s1.wr (Reg.DMA.STAT.ERR e) 1).evt (Reg.CLU.EVENT.DMA_ERR (e / 32))).engCause e 6 (s1.engPc e) 0).engRaise e 0) ∧
  -- A cell of a carry chain: the sum of its operands and the carry, and the carry on (model’s choice of the cell, log entry 111)
  (∀ (e : Nets) (c : Bool) (a b o : Nat),
    carryCell (e, c) (a, b, o) = (setNet e o (Bool.xor (Bool.xor (net e a) (net e b)) c), (net e a && net e b) || (c && (net e a || net e b)))) ∧
  -- A flip-flop: an asynchronous set or reset; a synchronous one and the clock enable, at an edge
  (∀ (c : FlipFlop) (n : Nat) (async v : Bool) (e : Nets) (edges : Nat),
    c.sr = some (n, async, v) →
    flopNext c e edges = if net e n && async then v else if bit edges c.clk then (if net e n then v else if c.ce.all (fun k => net e k) then net e c.d else net e c.q) else net e c.q) ∧
  (∀ (c : FlipFlop) (e : Nets) (edges : Nat),
    c.sr = none →
    flopNext c e edges = if bit edges c.clk && c.ce.all (fun k => net e k) then net e c.d else net e c.q) ∧
  -- A leaf memory whose ports write the same word in one instant: port A’s data stands and the collision shows; port B’s read of a word that port A writes gives the old data
  (∀ (t : TileSt) (m coll : Nat) (a b : LeafPort) (e : Nets) (edges : Nat),
    a.shape = 0 →
    b.shape = 0 →
    portWrites a e edges = true →
    portWord a e = portWord b e →
    portWrites b e edges = true →
    bit edges a.clk = true →
    t.leafWord m (portWord a e) < 2 ^ 40 →
    (leafStep t t m a b coll e edges).leafWord m (portWord a e) = bus e a.din % 2 ^ 40 ∧ net (leafStep t t m a b coll e edges).nets coll = true) ∧
  (∀ (t : TileSt) (m : Nat) (b : LeafPort) (e : Nets) (edges : Nat) (ns : Nets),
    portOn b e edges = true →
    portWrites b e edges = false →
    portShow b t m e edges ns = setBus ns b.dout (portOld b t m e)) ∧
  -- A frame block in line mode reads the word written d lines earlier, at d = k the oldest
  (∀ (c : FrameCfg) (t : TileSt) (m d junk : Nat) (e : Nets),
    1 ≤ c.line ∧ c.line ≤ 8192 →
    d = bus e c.delay →
    1 ≤ d ∧ d ≤ 8192 / c.line →
    c.rclk = c.wclk →
    frameRead c t m e junk = t.frameWord m ((SMap.get (fun _ => 0) t.pos m + 8192 / c.line * c.line - d * c.line) % (8192 / c.line * c.line))) ∧
  -- A slice’s stages: pre-adder, multiplier, accumulator, round, saturation, and the block exponent
  (∀ (c : SliceCfg) (x y : SliceSt) (e : Nets),
    (sliceStep c x y e).p = satTo 24 (match c.pre with | 0 => x.a + x.d | 1 => x.a - x.d | _ => x.a) ∧ (sliceStep c x y e).m1 = x.p * x.b1 ∧
      (sliceStep c x y e).acc = satTo 56 (match bus e c.acc with | 0 => x.m2 | 1 => x.acc + x.m2 | _ => x.m2 + y.acc) ∧
      (sliceStep c x y e).r = satTo c.w (roundShr x.acc c.n) ∧
      (net e c.satClr = false → x.sat = true → (sliceStep c x y e).sat = true) ∧ (roundShr x.acc c.n ≠ satTo c.w (roundShr x.acc c.n) → (sliceStep c x y e).sat = true) ∧
      (c.below = none → net e c.bxClr = true → (sliceStep c x y e).bx = 63) ∧ (c.below = none → net e c.bxClr = false → (sliceStep c x y e).bx = min x.bx (min x.rs 63)) ∧
      (x.v5 = true → (sliceStep c x y e).rs = rsb c.w x.r)) ∧
  -- What a tile counts in an instant
  (∀ (edges junk : Nat) (s u : State) (x : Nat × TileSt),
    x.1 < 56 →
    (s.tileInstant edges junk u x).rd (Reg.FAB.TILE_STATUS.LEAF_COLL_CNT x.1) =
      (u.rd (Reg.FAB.TILE_STATUS.LEAF_COLL_CNT x.1) + tileColls x.2 (s.tileNets x.2 junk) edges) % 2 ^ 16)

/-- DRAM_REQUEST_ARRIVAL, URGENCY_STEP, AGE_PROMOTION, DRAM_COMMAND_CYCLE and DRAM_REQUEST_COMPLETE: what each does (10_dram.md, Address mapping, 10_dram.md, Ports, classes and targets, 10_dram.md, Scheduling, 10_dram.md, Page policy). -/
def Obligations.DramRequests : Prop :=
  -- DRAM_REQUEST_ARRIVAL: one line of an open controller; an access error
  (∀ (r : DramReq) (m : Nat) (s : State),
    s.dramBad r.addr r.len = false →
    r.addr % 64 + r.len ≤ 64 →
    r.len ≠ 0 →
    m = s.chanOf r.addr →
    s.mcState m ≠ 3 →
    (∀ y ∈ (s.mcd m).queue, ¬ (y.ns = r.ns ∧ r.port < y.port)) →
    exec (.dramRequestArrival r) s = .next ((s.updMcd m (fun x =>
      { x with queue := x.queue ++ [{ port := r.port, id := r.id, line := r.addr / 64, off := r.addr % 64, len := r.len, write := r.write, data := r.data.take r.len, cls := s.classOf r.ctx r.maint, keep := r.keep && !(r.port == 20 || r.port == 22 || r.port == 23), ns := r.ns, src := r.src }] })).wr
        (Reg.MC.STATUS.SR_PEND m) 0)) ∧
  (∀ (r : DramReq) (s : State),
    s.dramBad r.addr r.len = true →
    r.len ≠ 0 →
    exec (.dramRequestArrival r) s = .next (s.emit (.dram (s.chanOf r.addr) 9 r.port r.id))) ∧
  -- URGENCY_STEP: the urgency of a request by its time, and what the step leaves
  (∀ (tgt t : Nat),
    urgencyAt tgt t = (if 10 * t < 5 * tgt then 0 else if 10 * t < 15 * tgt / 2 then 1 else if 10 * t < 9 * tgt then 2 else 3)) ∧
  (∀ (m now : Nat) (s : State),
    s.mcLive m = true →
    s.mcState m = 2 →
    ∃ t, exec (.urgencyStep m now) s = .next t ∧
      (t.mcd m).queue = (s.mcd m).queue.map (fun x => { x with urg := max x.urg (urgencyAt (s.target x.port) (now - x.ns)) }) ∧
      (∀ p, (s.mcd m).queue.all (fun x => decide (x.urg ≤ 3)) = true →
        s.rd (Reg.MC.PORT_TGT.URG_MAX p) ≤ t.rd (Reg.MC.PORT_TGT.URG_MAX p))) ∧
  -- AGE_PROMOTION
  (∀ (m now : Nat) (s : State),
    s.mcLive m = true →
    s.mcState m = 2 →
    s.fallback m = false →
    exec (.agePromotion m now) s = .next ((s.promote m 0 now).promote m 1 now)) ∧
  -- A promotion: the oldest waiting request past AGE_LIMIT, where none was promoted within AGE_LIMIT
  (∀ (m now : Nat) (x : DLine) (s : State),
    (s.mcd m).queue = [x] →
    x.prom = false →
    x.issued = false →
    s.subOf (x.line * 64) = 0 →
    x.ns + s.rd (Reg.MC.AGE.AGE_LIMIT m) < now →
    (s.mcd m).promA = none →
    s.promote m 0 now = (s.setMcd m { s.mcd m with queue := [{ x with prom := true }], promA := some now }).bump (Reg.MC.CNT.PROMOTE_CNT m)) ∧
  -- DRAM_COMMAND_CYCLE: the command for the request that the scheduler in force chooses
  (∀ (m sub now : Nat) (allowed : List (Nat × Nat)) (s : State),
    s.mcLive m = true →
    s.mcState m = 2 →
    (s.mcd m).pause ≠ some sub →
    exec (.dramCommandCycle m sub now allowed) s = .next (match (if s.fallback m then
        s.rotate (if sub = 0 then (s.mcd m).rotA else (s.mcd m).rotB) (s.ready m sub allowed)
        else pickBy DLine.before (s.ready m sub allowed)) with
      | some x => s.dramIssue m x
      | none => s)) ∧
  -- The main scheduler’s order
  (∀ (a b : DLine),
    (a.before b = true ↔ (a.prom = true ∧ b.prom = false) ∨ (a.prom = b.prom ∧ (b.cls < a.cls ∨ (a.cls = b.cls ∧
      (b.urg < a.urg ∨ (a.urg = b.urg ∧ (a.ns < b.ns ∨ (a.ns = b.ns ∧ a.port < b.port))))))))) ∧
  -- The chosen request is one of them, and no other is ahead of it
  (∀ (l : List DLine) (x : DLine),
    pickBy DLine.before l = some x →
    x ∈ l ∧ ∀ y ∈ l, y.before x = false) ∧
  -- The commands of R336: activate, precharge, column command
  (∀ (m : Nat) (x : DLine) (s : State),
    (s.mcd m).rows = [] →
    s.dramIssue m x = (s.setMcd m { s.mcd m with rows := [(s.subOf (x.line * 64) + 2 * s.bankOf (x.line * 64), s.rowOf (x.line * 64))] }).emit
      (.dram m 1 (s.subOf (x.line * 64) + 2 * s.bankOf (x.line * 64)) (s.rowOf (x.line * 64)))) ∧
  (∀ (m row : Nat) (x : DLine) (s : State),
    (s.mcd m).rows = [(s.subOf (x.line * 64) + 2 * s.bankOf (x.line * 64), row)] →
    row ≠ s.rowOf (x.line * 64) →
    s.dramIssue m x = (s.setMcd m { s.mcd m with rows := [] }).emit (.dram m 0 (s.subOf (x.line * 64) + 2 * s.bankOf (x.line * 64)) row)) ∧
  (∀ (m : Nat) (x : DLine) (s : State),
    (s.mcd m).rows = [(s.subOf (x.line * 64) + 2 * s.bankOf (x.line * 64), s.rowOf (x.line * 64))] →
    (s.mcd m).queue = [x] →
    s.subOf (x.line * 64) = 0 →
    s.dramIssue m x = (let close := s.fallback m || (!s.compatPolicy m && !x.keep)
      (s.setMcd m { s.mcd m with queue := [{ x with issued := true }], rows := (if close then [] else (s.mcd m).rows), rotA := s.bankOf (x.line * 64) }).emit
        (.dram m (if x.write = false then 2 else if x.len = 64 then 3 else 4) x.line (if close then 1 else 0)))) ∧
  -- DRAM_REQUEST_COMPLETE
  (∀ (m id line now : Nat) (x : DLine) (s : State),
    (s.mcd m).queue = [x] →
    x.id = id →
    x.line = line →
    x.issued = true →
    x.mute = false →
    exec (.dramRequestComplete m id line now) s = .next (let s1 := s.setMcd m { s.mcd m with queue := [] }
      let s2 := if x.cls = 2 ∧ s.target x.port < now - x.ns then (s1.bump (Reg.MC.CNT.LATE_CNT m)).evt (Reg.MC.EVENT.LATE m) else s1
      if x.write then s2.dramWrite (line * 64 + x.off) x.data
      else s2.emit (.dramData x.port id line (s2.dramRead (line * 64 + x.off) x.len)))) ∧
  -- A request of a fabric port whose logic was swapped completes without its response
  (∀ (m id line now : Nat) (x : DLine) (s : State),
    (s.mcd m).queue = [x] →
    x.id = id →
    x.line = line →
    x.issued = true →
    x.mute = true →
    x.write = false →
    x.cls ≠ 2 →
    exec (.dramRequestComplete m id line now) s = .next (s.setMcd m { s.mcd m with queue := [] }))

/-- REFRESH_INTERVAL, MR4_READ, SPD_TEMPERATURE_READ, RETRAIN_PAUSE and its end, self-refresh, and the choice of scheduler and policy: what each does (10_dram.md, Channels and DIMMs, 10_dram.md, Scheduling, 10_dram.md, Page policy, 10_dram.md, Refresh and retraining, 10_dram.md, Self-refresh). -/
def Obligations.DramMaintenance : Prop :=
  -- REFRESH_INTERVAL in and outside a pause
  (∀ (m : Nat) (s : State),
    s.mcLive m = true →
    s.mcState m = 2 →
    exec (.refreshInterval m) s = .next (if (s.mcd m).pause.isSome then
        (s.flag (Reg.MC.STATUS.REF2X m) (s.mcd m).hot).setMcd m { s.mcd m with refDue := (s.mcd m).refDue + 1 }
      else ((s.flag (Reg.MC.STATUS.REF2X m) (s.mcd m).hot).setMcd m { s.mcd m with refBank := ((s.mcd m).refBank + 1) % 4, rows := (s.mcd m).rows.filter (fun r => r.1 / 2 % 4 != (s.mcd m).refBank) }).emit
        (.dram m 5 (s.mcd m).refBank 0))) ∧
  -- MR4_READ: a hot rank; all ranks normal
  (∀ (m : Nat) (hot : List Bool) (hi : Bool) (s : State),
    s.mcLive m = true →
    s.mcState m = 2 →
    (hot.any (fun b => b) = true → exec (.mr4Read m hot hi) s = .next
        (let s1 := (s.setMcd m { s.mcd m with hot := true, cool := 0 }).flag (Reg.MC.TEMP.HOT m) true
         let s2 := if (s.mcd m).hot then s1 else s1.evt (Reg.MC.EVENT.REF_RATE m)
         if hi then s2.evt (Reg.MC.EVENT.DRAM_HOT m) else s2)) ∧
      (hot.any (fun b => b) = false → exec (.mr4Read m hot hi) s = .next
        (let stay := (s.mcd m).hot && decide ((s.mcd m).cool + 1 < 16)
         let s1 := (s.setMcd m { s.mcd m with hot := stay, cool := min ((s.mcd m).cool + 1) 16 }).flag (Reg.MC.TEMP.HOT m) false
         let s2 := if stay = (s.mcd m).hot then s1 else s1.evt (Reg.MC.EVENT.REF_RATE m)
         if hi then s2.evt (Reg.MC.EVENT.DRAM_HOT m) else s2))) ∧
  -- SPD_TEMPERATURE_READ
  (∀ (m t0 t1 : Nat) (hi : Bool) (s : State),
    m < s.nMcs →
    s.domOn 4 = true →
    exec (.spdTemperatureRead m t0 t1 hi true) s = .next (s.evt (Reg.MC.EVENT.SPD_FAULT m)) ∧
      exec (.spdTemperatureRead m t0 t1 hi false) s = .next
        (let s1 := (s.wr (Reg.MC.TEMP.TEMP0 m) t0).wr (Reg.MC.TEMP.TEMP1 m) (if s.rd (Reg.MC.STATUS.DIMMS m) = 2 then t1 else 0)
         if hi then s1.evt (Reg.MC.EVENT.DRAM_HOT m) else s1)) ∧
  -- RETRAIN_PAUSE, RETRAIN_PAUSE_END
  (∀ (m sub : Nat) (s : State),
    s.mcLive m = true →
    s.mcState m = 2 →
    sub < 2 →
    s.slot = 1024 →
    s.now % 64 = 2 * m + sub →
    (s.mcd m).pause = none →
    exec (.retrainPause m sub) s = .next ((s.setMcd m { s.mcd m with pause := some sub }).wr (Reg.MC.STATUS.TRAINING m) 1)) ∧
  (∀ (m sub dur : Nat) (ok : Bool) (s : State),
    (s.mcd m).pause = some sub →
    (s.mcd m).refDue = 0 →
    exec (.retrainPauseEnd m sub dur ok) s = .next
      (let s2 := ((s.setMcd m { s.mcd m with pause := none }).wr (Reg.MC.STATUS.TRAINING m) 0).wr (Reg.MC.TRAIN.PAUSE_MAX m)
        (min 255 (max (s.rd (Reg.MC.TRAIN.PAUSE_MAX m)) dur))
       let s3 := s2.flag (if sub = 0 then Reg.MC.TRAIN.A_OK m else Reg.MC.TRAIN.B_OK m) ok
       if ok then s3 else (s3.bump (if sub = 0 then Reg.MC.TRAIN.A_FAIL_CNT m else Reg.MC.TRAIN.B_FAIL_CNT m)).evt
        (Reg.MC.EVENT.TRAIN_FAIL m))) ∧
  -- MC_SR_REQ_WRITE, SR_IDLE_TIMEOUT
  (∀ (m : Nat) (s : State),
    m < s.nMcs →
    s.domOn 4 = true →
    s.mcState m = 2 →
    exec (.mcSrReqWrite m) s = .next (if s.dramDemand then s.wr (Reg.MC.CFG.SR_REQ m) 1
      else (s.wr (Reg.MC.CFG.SR_REQ m) 1).wr (Reg.MC.STATUS.SR_PEND m) 1)) ∧
  (∀ (m : Nat) (s : State),
    s.mcLive m = true →
    s.mcState m = 2 →
    s.isSet (Reg.MC.CFG.SR_AUTO m) = true →
    (s.mcd m).queue = [] →
    s.dramDemand = false →
    exec (.srIdleTimeout m) s = .next (s.wr (Reg.MC.STATUS.SR_PEND m) 1)) ∧
  -- SR_ENTRY_COMPLETE, SR_EXIT_COMPLETE
  (∀ (m : Nat) (s : State),
    s.mcLive m = true →
    s.mcState m = 2 →
    s.isSet (Reg.MC.STATUS.SR_PEND m) = true →
    (s.mcd m).queue = [] →
    s.dramDemand = false →
    exec (.srEntryComplete m) s = .next
      ((((((s.setMcd m { s.mcd m with rows := [], pause := none, refDue := 0 }).wr (Reg.MC.STATUS.STATE m) 3).wr
        (Reg.MC.STATUS.SR_PEND m) 0).wr (Reg.MC.STATUS.TRAINING m) 0).evt (Reg.MC.EVENT.SR_ENTER m)).emit (.dram m 6 0 0))) ∧
  (∀ (m now : Nat) (s : State),
    s.mcLive m = true →
    s.mcState m = 3 →
    s.isSet (Reg.MC.STATUS.SR_PEND m) = true ∨ s.dramDemand = true →
    exec (.srExitComplete m now) s = .next
      ((((((s.setMcd m { s.mcd m with queue := (s.mcd m).queue.map (fun x => { x with ns := now, urg := 0 }) }).wr (Reg.MC.STATUS.STATE m) 2).wr
        (Reg.MC.STATUS.SR_PEND m) 0).wr (Reg.MC.CFG.SR_REQ m) 0).evt (Reg.MC.EVENT.SR_EXIT m)).emit (.dram m 7 0 0))) ∧
  -- MC_FALLBACK_REQ_WRITE in Flight and elsewhere, MC_POLICY_WRITE
  (∀ (m : Nat) (v : Bool) (s : State),
    m < s.nMcs →
    s.domOn 4 = true →
    exec (.mcFallbackReqWrite m v) s = .next (if s.mode = 4 then s.evt (Reg.MC.EVENT.CFG_ERR m)
      else (s.flag (Reg.MC.CFG.FALLBACK_REQ m) v).flag (Reg.MC.STATUS.SCHED m) ((s.flag (Reg.MC.CFG.FALLBACK_REQ m) v).fallback m)) ∧
      exec (.mcPolicyWrite m v) s = .next (if s.ident.profile = 0x56 then s else s.flag (Reg.MC.CFG.POLICY m) v)) ∧
  -- SCHED_PARITY_FAULT, SCHED_REBUILD_DONE, and the boundary that follows
  (∀ (m : Nat) (s : State),
    s.mcLive m = true →
    exec (.schedParityFault m) s = .next ((((s.setMcd m { s.mcd m with parity := true, rebuilt := false }).wr (Reg.MC.STATUS.SCHED m) 1).evt
        (Reg.MC.EVENT.SCHED_PARITY m)).eccEvent)) ∧
  (∀ (m : Nat) (s : State),
    (s.mcd m).parity = true →
    exec (.schedRebuildDone m) s = .next (s.setMcd m { s.mcd m with rebuilt := true }))

/-- FAULT_READ, FAULT_CLEAR, ECC_STATUS, BUCKET_CONFIG, ECC_CORRECTION, BUCKET_LEAK, UNCORRECTABLE_ERROR and PATROL_LINE_READ: what each does (11_integrity.md, Patrol scrub, 11_integrity.md, On-chip memories, 11_integrity.md, Leaky buckets, 11_integrity.md, Uncorrectable errors, 11_integrity.md, Commands). -/
def Obligations.FaultsAndBuckets : Prop :=
  -- FAULT_READ
  (∀ (h : Hdr) (p : List Byte) (s t : State),
    s.takes 0x0104 h = true →
    t = s.stamped h →
    zeroFrom p 12 = true →
    h.spiBad (u64 p 0) (u32 p 8) = false →
    32 * t.integ.recs.length ≤ u32 p 8 →
    exec (.faultRead h p) s = .next ((t.writeBuf h (u64 p 0) (t.integ.recs.flatMap FaultRec.bytes)).answer h Sts.ok 0
      ([BitVec.ofNat 8 t.integ.recs.length, 0] ++ toLe 2 (t.rd Reg.FAULT.STATUS.TOTAL)))) ∧
  -- FAULT_CLEAR
  (∀ (h : Hdr) (p : List Byte) (s u : State),
    s.takes 0x0105 h = true →
    u = s.stamped h →
    u8 p 0 ≤ 3 →
    zeroFrom p 1 = true →
    exec (.faultClear h p) s = .next (let s1 := (u.setReg Reg.LEDGER.MISS 0).setReg Reg.LEDGER.MISS_LAST 0
      let s2 : State := if bit (u8 p 0) 0 then { s1.setReg Reg.FAULT.STATUS 0 with integ := { s1.integ with recs := [] } } else s1
      (if bit (u8 p 0) 1 then (List.range 94).foldl (fun t b => t.setReg (Reg.INTEG.BKT_LVL b) 0) s2 else s2).answer h Sts.ok 0 [])) ∧
  -- ECC_STATUS of a leaky bucket; of management SRAM
  (∀ (h : Hdr) (p : List Byte) (b : Nat) (s t : State),
    s.takes 0x0802 h = true →
    t = s.stamped h →
    b = u8 p 0 →
    b < 94 →
    (t.bucketUnit b).1 = true →
    t.bucketPowered b = true →
    zeroFrom p 1 = true →
    exec (.eccStatus h p) s = .next (t.answer h Sts.ok 0 (toLe 4 (t.rd (Reg.INTEG.BKT_CNT.CORR_CNT b)) ++
      toLe 2 (t.rd (Reg.INTEG.BKT_LVL.LEVEL b)) ++ toLe 2 (t.rd (Reg.INTEG.BKT_CFG.THRESHOLD b)) ++
      toLe 8 (SMap.get (fun _ => 0) t.integ.last b)))) ∧
  (∀ (h : Hdr) (p : List Byte) (s t : State),
    s.takes 0x0802 h = true →
    t = s.stamped h →
    u8 p 0 = 254 →
    t.domOn 1 = true →
    zeroFrom p 1 = true →
    exec (.eccStatus h p) s = .next (t.answer h Sts.ok 0 (toLe 4 (t.rd Reg.INTEG.SRAM_CNT.MGMT) ++ toLe 4 0 ++
      toLe 8 (SMap.get (fun _ => 0) t.integ.last 254)))) ∧
  -- BUCKET_CONFIG of one bucket
  (∀ (h : Hdr) (p : List Byte) (b : Nat) (s t : State),
    s.takes 0x0803 h = true →
    t = s.stamped h →
    b = u8 p 0 →
    b < 94 →
    (t.bucketUnit b).1 = true →
    u8 p 1 ≤ 1 →
    zeroFrom p 6 = true →
    exec (.bucketConfig h p) s = .next ((t.setBucket b (bit (u8 p 1) 0) (u16 p 2) (u16 p 4)).answer h Sts.ok 0 [])) ∧
  -- What it sets
  (∀ (b thr leak : Nat) (s : State),
    0 < thr →
    thr < 65536 →
    0 < leak →
    leak < 65536 →
    b < 94 →
    (s.setBucket b false thr leak).rd (Reg.INTEG.BKT_CFG.THRESHOLD b) = thr ∧ (s.setBucket b false thr leak).rd (Reg.INTEG.BKT_CFG.LEAK_MS b) = leak ∧
      (s.setBucket b false thr leak).isSet (Reg.INTEG.BKT_LVL.OVER b) =
        (s.isSet (Reg.INTEG.BKT_LVL.OVER b) || decide (thr ≤ s.rd (Reg.INTEG.BKT_LVL.LEVEL b))) ∧
      (s.setBucket b true thr leak).rd (Reg.INTEG.BKT_LVL.LEVEL b) = 0 ∧
      (s.setBucket b true thr leak).isSet (Reg.INTEG.BKT_LVL.OVER b) = s.isSet (Reg.INTEG.BKT_LVL.OVER b)) ∧
  -- ECC_CORRECTION
  (∀ (b n addr : Nat) (s : State),
    b < 94 →
    (s.bucketUnit b).1 = true →
    (s.mcd b).queue = [] →
    exec (.eccCorrection b n addr) s = .next (if b < 8 then (s.corrected b n addr).emit (.dram b 8 (addr / 64) 0) else s.corrected b n addr)) ∧
  -- A bucket’s level, count, OVER, and the stamp
  (∀ (b n addr : Nat) (s : State),
    b < 94 →
    n ≤ 255 →
    (s.corrected b n addr).rd (Reg.INTEG.BKT_CNT.CORR_CNT b) = (s.rd (Reg.INTEG.BKT_CNT.CORR_CNT b) + n) % 2 ^ 32 ∧
      (s.corrected b n addr).twin.eccTick = s.now ∧
      (s.rd (Reg.INTEG.BKT_LVL.LEVEL b) < s.rd (Reg.INTEG.BKT_CFG.THRESHOLD b) →
        s.rd (Reg.INTEG.BKT_CFG.THRESHOLD b) ≤ s.rd (Reg.INTEG.BKT_LVL.LEVEL b) + n →
        s.rd (Reg.INTEG.BKT_LVL.LEVEL b) + n < 65536 →
        (s.corrected b n addr).isSet (Reg.INTEG.BKT_LVL.OVER b) = true ∧
        (s.corrected b n addr).rd (Reg.INTEG.BKT_LVL.LEVEL b) = s.rd (Reg.INTEG.BKT_LVL.LEVEL b) + n)) ∧
  (∀ (n addr : Nat) (s : State),
    (s.corrected 254 n addr).rd Reg.INTEG.SRAM_CNT.MGMT = (s.rd Reg.INTEG.SRAM_CNT.MGMT + n) % 65536 ∧
      (s.corrected 255 n addr).rd Reg.INTEG.SRAM_CNT.CCACHE = (s.rd Reg.INTEG.SRAM_CNT.CCACHE + n) % 65536) ∧
  -- BUCKET_LEAK
  (∀ (b : Nat) (s : State),
    b < 94 →
    (s.bucketUnit b).1 = true →
    exec (.bucketLeak b) s = .next (s.wr (Reg.INTEG.BKT_LVL.LEVEL b) (s.rd (Reg.INTEG.BKT_LVL.LEVEL b) - 1))) ∧
  -- UNCORRECTABLE_ERROR: the one recorded is of the lowest cause, then the lowest instance
  (∀ (errs : List (Nat × Nat × Nat × Nat)) (e : Nat × Nat × Nat × Nat) (s : State),
    worst ((errs.filter (fun x => decide (1 ≤ x.1 ∧ x.1 ≤ 7))).map errOf) = some e →
    exec (.uncorrectableError errs) s = .next
      ((((s.faultRecord e.1 e.2.1 e.2.2.1 e.2.2.2 (decide (1 < (errs.filter (fun x => decide (1 ≤ x.1 ∧ x.1 ≤ 7))).length))).goSilent e.1).countIfUnconfirmed
        0x0D).warmReset) ∧
      (∃ y ∈ errs, e = errOf y) ∧ 1 ≤ e.1 ∧ e.1 ≤ 7 ∧ ((e.1 = 6 ∨ e.1 = 7) → e.2.1 = 0xFFFF) ∧
      ∀ x ∈ errs, 1 ≤ x.1 → x.1 ≤ 7 → e.1 < x.1 ∨ (e.1 = x.1 ∧ e.2.1 ≤ (errOf x).2.1)) ∧
  -- PATROL_LINE_READ
  (∀ (m a : Nat) (fix : Bool) (s : State),
    s.mcLive m = true →
    s.mcState m = 2 →
    s.patrolNext m (s.mcd m).patrol = some a →
    exec (.patrolLineRead m fix) s = .next (let s1 := if fix then (s.corrected m 1 a).writeBack m (a / 64) else s
      let s2 := s1.updMcd m (fun d => { d with patrol := a + 64 })
      if (s2.patrolNext m (a + 64)).isSome then s2
      else ((s2.updMcd m (fun d => { d with patrol := 0 })).evt Reg.INTEG.EVENT.PATROL_DONE).bump Reg.INTEG.PATROL.PASS_CNT))

/-- PROTECT_MAP_SET and REGION_INIT_COMPLETE: what they do, and accesses to a region in INIT (11_integrity.md, The protection map, 11_integrity.md, Registers, 11_integrity.md, Commands). -/
def Obligations.ProtectionMap : Prop :=
  -- PROTECT_MAP_SET
  (∀ (h : Hdr) (p : List Byte) (r kid base size : Nat) (en strong integ : Bool) (s t : State),
    s.takes 0x0801 h = true →
    t = s.stamped h →
    r = u8 p 0 ∧ kid = u8 p 2 ∧ base = u64 p 8 ∧ size = u64 p 16 →
    en = bit (u8 p 1) 0 ∧ strong = bit (u8 p 1) 1 ∧ integ = bit (u8 p 1) 2 →
    t.hasIme = true ∨ (integ = false ∧ kid = 0) →
    t.domOn 4 = true →
    r ≤ 62 →
    u8 p 1 ≤ 7 →
    kid ≤ 15 →
    zeroAt p 3 5 = true →
    zeroFrom p 24 = true →
    (en = false ∨ (base % 2 ^ 24 = 0 ∧ size % 2 ^ 24 = 0 ∧ size ≠ 0 ∧ base + size ≤ t.dramSize ∧ (∀ q, q < 64 → q ≠ r → t.inRegion q base size = false) ∧ t.demandIn base (base + size) = false)) →
    en = false ∨ ((integ = false ∨ strong = false) ∧ (kid = 0 ∨ integ = true) ∧ (r ≠ 62 ∨ (strong = true ∧ kid = 0 ∧ integ = false))) →
    t.rd (Reg.PMAP.REG_LO.STATE r) ≠ 1 →
    t.isSet (Reg.PMAP.REG_LO.EN r) = false ∨ t.demandIn (t.rd (Reg.PMAP.REG_LO.BASE r) * 2 ^ 24) (t.rd (Reg.PMAP.REG_LO.BASE r) * 2 ^ 24 + t.rd (Reg.PMAP.REG_HI.SIZE r) * 2 ^ 24) = false →
    en = false ∨ kid = 0 ∨ (t.isSet (Reg.PMAP.REG_LO.EN 62) = true ∧ (t.sec.keys.any (fun k => k.1 == kid)) = true ∧ ceilDiv (ceilDiv ((if t.isSet (Reg.PMAP.REG_LO.EN r) && t.rd (Reg.PMAP.REG_LO.KID r) != 0 then t.keyedBytes - t.rd (Reg.PMAP.REG_HI.SIZE r) * 2 ^ 24 else t.keyedBytes) + size) 7) (2 ^ 24) ≤ t.rd (Reg.PMAP.REG_HI.SIZE 62)) →
    r ≠ 62 ∨ t.keyedBytes = 0 →
    exec (.protectMapSet h p) s = .next ((t.setRegion r en strong integ kid base size (if en then 1 else 0)).answer h Sts.ok 0 [])) ∧
  -- The fields it leaves
  (∀ (r kid base size st : Nat) (en strong integ : Bool) (s : State),
    r < 64 →
    kid < 16 →
    base / 2 ^ 24 < 2 ^ 18 →
    size / 2 ^ 24 < 2 ^ 18 →
    st < 4 →
    ∃ t, s.setRegion r en strong integ kid base size st = t ∧ t.isSet (Reg.PMAP.REG_LO.EN r) = en ∧ t.isSet (Reg.PMAP.REG_LO.CODE r) = strong ∧
      t.isSet (Reg.PMAP.REG_LO.INTEG r) = integ ∧ t.rd (Reg.PMAP.REG_LO.KID r) = kid ∧ t.rd (Reg.PMAP.REG_LO.BASE r) = base / 2 ^ 24 ∧
      t.rd (Reg.PMAP.REG_HI.SIZE r) = size / 2 ^ 24 ∧ t.rd (Reg.PMAP.REG_LO.STATE r) = st) ∧
  -- An access to a region in INIT
  (∀ (r a n : Nat) (s : State),
    r < 64 →
    s.rd (Reg.PMAP.REG_LO.STATE r) = 1 →
    s.inRegion r a n = true →
    s.dramBad a n = true) ∧
  -- REGION_INIT_COMPLETE
  (∀ (r lo hi : Nat) (s : State),
    r < 64 →
    s.rd (Reg.PMAP.REG_LO.STATE r) = 1 →
    lo = s.rd (Reg.PMAP.REG_LO.BASE r) * 2 ^ 24 →
    hi = lo + s.rd (Reg.PMAP.REG_HI.SIZE r) * 2 ^ 24 →
    ∃ t, exec (.regionInitComplete r) s = .next t ∧ t.rd (Reg.PMAP.REG_LO.STATE r) = 2 ∧ t.isSet Reg.INTEG.EVENT.MAP_DONE = true ∧
      (∀ a, lo ≤ a → a < hi → Memory.read t.dram.mem a = 0) ∧ (∀ a, (a < lo ∨ hi ≤ a) → Memory.read t.dram.mem a = Memory.read s.dram.mem a))

/-- KEY_LOAD, LINK_KEY_SWITCH, KEY_RETIRE, COUNTER_CACHE_MISS, COUNTER_CACHE_EVICT and INTEGRITY_HALT: what each does (12_security.md, Inline memory encryption, 12_security.md, Integrity halt, 12_security.md, Key IDs and their life cycle, 12_security.md, Link encryption, 12_security.md, Commands). -/
def Obligations.KeysAndCounters : Prop :=
  -- KEY_LOAD of a memory key, in plaintext or wrapped
  (∀ (h : Hdr) (p : List Byte) (kid key : Nat) (s t : State),
    s.takes 0x0901 h = true →
    t = s.stamped h →
    u8 p 0 = 1 →
    kid = u8 p 1 →
    1 ≤ kid ∧ kid ≤ 15 →
    u8 p 2 ≤ 1 →
    u8 p 3 = 0 →
    zeroFrom p 48 = true →
    keyOf (bit (u8 p 2) 0) ((fitTo 48 p).drop 8) = some key →
    t.hasIme = true →
    t.domOn 2 = true →
    u8 p 2 = 1 ∨ t.ident.noPlain = false →
    t.sec.keys.any (fun k => k.1 == kid) = false →
    exec (.keyLoad h p) s = .next ((t.loadKey kid key).answer h Sts.ok 0 [])) ∧
  -- Of a generated one
  (∀ (h : Hdr) (p : List Byte) (kid : Nat) (s t : State),
    s.takes 0x0901 h = true →
    t = s.stamped h →
    u8 p 0 = 1 →
    kid = u8 p 1 →
    1 ≤ kid ∧ kid ≤ 15 →
    u8 p 2 = 2 →
    u8 p 3 = 0 →
    zeroFrom p 8 = true →
    zeroFrom p 48 = true →
    t.hasIme = true →
    t.domOn 2 = true →
    t.sec.keys.any (fun k => k.1 == kid) = false →
    exec (.keyLoad h p) s = .next (((t.loadKey kid t.free).drew).answer h Sts.ok 0 [])) ∧
  -- Of a link key, and LINK_KEY_SWITCH
  (∀ (h : Hdr) (p : List Byte) (k key : Nat) (s t : State),
    s.takes 0x0901 h = true →
    t = s.stamped h →
    u8 p 0 = 2 →
    k = u8 p 1 →
    k ≤ 5 →
    u8 p 2 ≤ 1 →
    u8 p 3 = 0 →
    zeroFrom p 48 = true →
    keyOf (bit (u8 p 2) 0) ((fitTo 48 p).drop 8) = some key →
    t.domOn 2 = true →
    u8 p 2 = 1 ∨ t.ident.noPlain = false →
    (t.link k).filled = false →
    (t.link k).switch = none →
    exec (.keyLoad h p) s = .next ((t.updLink k (fun d => { d.fill d.freePhase key with switch := some (t.tickLo (u32 p 4), d.freePhase) })).answer h Sts.ok
      (t.tickLo (u32 p 4)) [])) ∧
  (∀ (k t ph : Nat) (s : State),
    (s.link k).switch = some (t, ph) →
    t ≤ s.now →
    exec (.linkKeySwitch k) s = .next (s.updLink k (fun d => { d with phase := ph, txCnt := 0, switch := none }))) ∧
  -- KEY_RETIRE
  (∀ (h : Hdr) (p : List Byte) (k : Nat) (s t : State),
    s.takes 0x0902 h = true →
    t = s.stamped h →
    k = u8 p 0 →
    1 ≤ k ∧ k ≤ 15 →
    zeroFrom p 1 = true →
    t.hasIme = true →
    t.domOn 2 = true →
    t.sec.keys.any (fun x => x.1 == k) = true →
    (∀ r, r < 64 → t.isSet (Reg.PMAP.REG_LO.EN r) = true → t.rd (Reg.PMAP.REG_LO.KID r) ≠ k) →
    exec (.keyRetire h p) s = .next ((t.dropKey k).answer h Sts.ok 0 [])) ∧
  -- A retired key ID may be loaded again, a loaded one may not
  (∀ (kid key : Nat) (s : State),
    kid ≤ 15 →
    (s.loadKey kid key).sec.keys.any (fun k => k.1 == kid) = true ∧ (s.dropKey kid).sec.keys.any (fun k => k.1 == kid) = false ∧
      bit ((s.loadKey kid key).rd Reg.SEC.STATUS.KID_LOADED) kid = true ∧ bit ((s.dropKey kid).rd Reg.SEC.STATUS.KID_LOADED) kid = false) ∧
  -- COUNTER_CACHE_MISS
  (∀ (line : Nat) (s : State),
    s.hasIme = true →
    s.keyed (line * 64) = true →
    s.resident 0 (line / 8) = false →
    exec (.counterCacheMiss line true) s = .next (s.touchCounter line false) ∧
      exec (.counterCacheMiss line false) s = .next (s.integrityHalt (s.chanOf (line * 64)) 2 (line * 64))) ∧
  -- COUNTER_CACHE_EVICT
  (∀ (level idx : Nat) (dirty : Bool) (s : State),
    s.dram.cache = [((level, idx), dirty), ((level + 1, idx / 8), false)] →
    exec (.counterCacheEvict level idx) s = .next (let s1 : State := { s with dram := { s.dram with cache := [((level + 1, idx / 8), dirty)] } }
      if dirty then s1.emit (.dram 0 11 level idx) else s1)) ∧
  -- INTEGRITY_HALT; a write whose counter is at its limit
  (∀ (ch detail addr : Nat) (s : State),
    s.hasIme = true →
    1 ≤ detail ∧ detail ≤ 3 →
    s.pwr.hold = .none →
    exec (.integrityHalt ch detail addr) s = .next (s.integrityHalt ch detail addr)) ∧
  (∀ (l : Nat) (b : Byte) (s : State),
    s.keyed (l * 64) = true →
    SMap.get (fun _ => 0) s.dram.ctrs l = 2 ^ 64 - 1 →
    s.dramWrite (l * 64) [b] = s.integrityHalt (s.chanOf (l * 64)) 3 (l * 64))

/-- MACsec SAs and the frames under them; debug challenges, responses and the lockout (12_security.md, MACsec, 12_security.md, Commands, 12_security.md, Debug authorisation). -/
def Obligations.MacsecAndDebugLevels : Prop :=
  -- MACSEC_SA: a receive or transmit SA is installed
  (∀ (h : Hdr) (p d : List Byte) (key : Nat) (a : Sa) (s t : State),
    s.takes 0x0905 h = true →
    t = s.stamped h →
    t.readBuf h (u64 p 0) 96 = some d →
    u32 p 8 = 96 →
    zeroFrom p 12 = true →
    u16 d 0 < 100 →
    t.portPresent (u16 d 0) = true →
    t.ethPort (u16 d 0) = true →
    t.domOn 2 = true →
    t.domOn 3 = true →
    u8 d 2 ≤ 1 →
    u8 d 3 ≤ 3 →
    u8 d 4 ≤ 3 →
    u8 d 2 = 0 ∨ u8 d 4 = 0 →
    u8 d 5 ≤ 1 →
    u8 d 6 ≤ 7 →
    bit (u8 d 6) 0 = false →
    u8 d 7 = 0 →
    zeroAt d 92 4 = true →
    keyOf (bit (u8 d 6) 1) ((d.drop 40).take 40) = some key →
    h.spiBad (u64 p 0) 96 = false →
    a = parseSa d key (effTick (u64 d 80) (t.now + 1)).1 →
    (t.sec.sas.filter (fun x => !(x.sameChan a && x.an == a.an))).countP (fun x => x.sameChan a) < 2 →
    exec (.macsecSa h p) s = .next (let s1 := t.setSas (t.sec.sas.filter (fun x => !(x.sameChan a && x.an == a.an)) ++ [a])
      if u8 d 2 = 1 then s1.answer h (effTick (u64 d 80) (t.now + 1)).2 (effTick (u64 d 80) (t.now + 1)).1 [] else s1.answer h Sts.ok 0 [])) ∧
  -- It is deleted, where it is not the transmit SA in use
  (∀ (h : Hdr) (p d : List Byte) (a : Sa) (s t : State),
    s.takes 0x0905 h = true →
    t = s.stamped h →
    t.readBuf h (u64 p 0) 96 = some d →
    u32 p 8 = 96 →
    zeroFrom p 12 = true →
    u16 d 0 < 100 →
    t.portPresent (u16 d 0) = true →
    t.ethPort (u16 d 0) = true →
    t.domOn 2 = true →
    t.domOn 3 = true →
    u8 d 2 ≤ 1 →
    u8 d 3 ≤ 3 →
    u8 d 4 ≤ 3 →
    u8 d 2 = 0 ∨ u8 d 4 = 0 →
    u8 d 5 ≤ 1 →
    u8 d 6 ≤ 7 →
    bit (u8 d 6) 0 = true →
    u8 d 7 = 0 →
    zeroAt d 92 4 = true →
    h.spiBad (u64 p 0) 96 = false →
    a = parseSa d ((keyOf (bit (u8 d 6) 1) ((d.drop 40).take 40)).getD 0) (effTick (u64 d 80) (t.now + 1)).1 →
    t.sec.sas.any (fun x => x.sameChan a && x.an == a.an && x.tx && x.used) = false →
    exec (.macsecSa h p) s = .next ((t.setSas (t.sec.sas.filter (fun x => !(x.sameChan a && x.an == a.an)))).answer h Sts.ok 0 [])) ∧
  -- MACSEC_FRAME_RECEIVE
  (∀ (f : MsFrame) (s : State),
    s.ethPort f.port = true →
    f.tagged = false →
    exec (.macsecFrameReceive f) s = .next (if (s.port f.port).macsec then s.macsecFail else s)) ∧
  (∀ (f : MsFrame) (s : State),
    s.ethPort f.port = true →
    f.tagged = true →
    (∀ a ∈ s.sec.sas, a.port = f.port → a.tx = false → a.sci = f.sci → a.an ≠ f.an) →
    exec (.macsecFrameReceive f) s = .next s.macsecFail) ∧
  (∀ (f : MsFrame) (a : Sa) (s : State),
    s.ethPort f.port = true →
    f.tagged = true →
    s.sec.sas.find? (fun x => x.port == f.port && !x.tx && x.sci == f.sci && x.an == f.an) = some a →
    exec (.macsecFrameReceive f) s = .next (if f.icvOk = false ∨ f.pn < a.low ∨ (a.replay = true ∧ f.pn + a.window < a.pn) then s.macsecFail
      else s.setSas (updWhere (fun x => x.port == f.port && !x.tx && x.sci == f.sci && x.an == f.an)
        (fun x => { x with pn := max x.pn (f.pn + 1) }) s.sec.sas))) ∧
  -- MACSEC_FRAME_SEND, and the events its PN raises
  (∀ (port : Nat) (a : Sa) (s : State),
    s.sec.sas.find? (fun x => x.port == port && x.tx && x.used) = some a →
    a.dead = false →
    a.pn ≤ a.last →
    exec (.macsecFrameSend port) s = .next
      (let s1 := s.setSas (updWhere (fun x => x.port == port && x.tx && x.used) (fun x => { x with pn := x.pn + 1 }) s.sec.sas)
       if a.pn + 1 = a.near ∨ a.pn = a.last then s1.pnEvents port else s1)) ∧
  (∀ (port : Nat) (a : Sa) (s : State),
    s.sec.sas.find? (fun x => x.port == port && x.tx && x.used) = some a →
    s.pnEvents port = (let s1 := if a.near ≤ a.pn then s.evt Reg.SEC.EVENT.PN_NEAR else s
      if a.last < a.pn then (s1.setSas (updWhere (fun x => x.port == port && x.tx && x.used) (fun x => { x with dead := true }) s.sec.sas)).evt
        Reg.SEC.EVENT.PN_EXHAUSTED else s1)) ∧
  -- MACSEC_SA_SWITCH
  (∀ (a : Sa) (s : State),
    s.sec.sas = [a] →
    a.tx = true →
    a.used = false →
    a.dead = false →
    a.tick ≤ s.now →
    exec .macsecSaSwitch s = .next ((s.setSas [{ a with used := true }]).pnEvents a.port)) ∧
  (∀ (a b : Sa) (s : State),
    s.sec.sas = [a, b] →
    a.tx = true ∧ b.tx = true →
    a.used = true ∧ b.used = false →
    b.dead = false →
    b.tick ≤ s.now →
    a.port = b.port →
    a.an ≠ b.an →
    exec .macsecSaSwitch s = .next ((s.setSas [{ a with used := false, dead := true }, { b with used := true }]).pnEvents b.port)) ∧
  (∀ (s : State),
    (∀ a ∈ s.sec.sas, a.tx = true → a.used = true ∨ a.dead = true ∨ s.now < a.tick) →
    exec .macsecSaSwitch s = .next s) ∧
  -- DEBUG_AUTH_CHALLENGE of level 0 and of a higher one
  (∀ (h : Hdr) (p : List Byte) (s t : State),
    s.takes 0x0903 h = true →
    t = s.stamped h →
    u8 p 0 = 0 →
    zeroAt p 1 7 = true →
    zeroFrom p 20 = true →
    t.rd Reg.SEC.DBG_LOCK.LOCK_S = 0 →
    exec (.debugAuthChallenge h p) s = .next
      (State.answer { t.setLevel 0 with sec := { (t.setLevel 0).sec with chal := none } } h Sts.ok 0
        ([BitVec.ofNat 8 (t.setLevel 0).dbgLevel, BitVec.ofNat 8 (t.setLevel 0).ident.debugCap, 0, 0] ++ toLe 4 0))) ∧
  (∀ (h : Hdr) (p : List Byte) (l : Nat) (s t : State),
    s.takes 0x0903 h = true →
    t = s.stamped h →
    l = u8 p 0 →
    1 ≤ l ∧ l ≤ 2 ∧ l ≤ t.ident.debugCap →
    zeroAt p 1 7 = true →
    zeroFrom p 20 = true →
    t.rd Reg.SEC.DBG_LOCK.LOCK_S = 0 →
    48 ≤ u32 p 16 →
    h.spiBad (u64 p 8) (u32 p 16) = false →
    t.ident.debugKey ≠ 0 →
    exec (.debugAuthChallenge h p) s = .next (let b := toLe 32 t.free ++ toLe 8 t.ident.serial ++ [BitVec.ofNat 8 l] ++ List.replicate 7 0
      let s1 : State := { t.drew with sec := { t.drew.sec with chal := some ⟨b, l, t.now⟩ } }
      ((s1.writeBuf h (u64 p 8) b).answer h Sts.ok 0 ([BitVec.ofNat 8 t.dbgLevel, BitVec.ofNat 8 t.ident.debugCap, 0, 0] ++ toLe 4 0)))) ∧
  -- DEBUG_AUTH_RESPONSE
  (∀ (h : Hdr) (p b : List Byte) (c : Chal) (s u : State),
    s.takes 0x0904 h = true →
    u = s.stamped h →
    u.readBuf h (u64 p 0) 192 = some b →
    u32 p 8 = 192 →
    zeroFrom p 12 = true →
    h.spiBad (u64 p 0) 192 = false →
    u.sec.chal = some c →
    u.chalLive = true →
    exec (.debugAuthResponse h p) s = .next (if Config.sha384 (b.take 96) = u.ident.debugKey ∧ Config.ecdsaVerify (b.take 96) (Config.sha384 c.block) (b.drop 96) = true then
        (let t := (State.wr { u with sec := { u.sec with chal := none } } Reg.SEC.DBG_LOCK.FAIL_RUN 0).setLevel c.level
         t.answer h Sts.ok 0 [BitVec.ofNat 8 t.dbgLevel])
      else
        (let f := min 255 (u.rd Reg.SEC.DBG_LOCK.FAIL_RUN + 1)
         ((((State.wr { u with sec := { u.sec with chal := none } } Reg.SEC.DBG_LOCK.FAIL_RUN f).wr Reg.SEC.DBG_LOCK.LOCK_S
          (min 1024 (2 ^ (f - 1)))).evt Reg.SEC.EVENT.AUTH_FAIL)).answer h Sts.authFailed 0 []))) ∧
  -- What a grant and a failure leave; the lockout and its expiry
  (∀ (l : Nat) (s : State),
    l ≤ 2 →
    s.dbgLevel ≠ l →
    (s.setLevel l).dbgLevel = l ∧ (s.setLevel l).isSet Reg.SEC.EVENT.LEVEL_CHANGE = true) ∧
  (∀ (h : Hdr) (p : List Byte) (s t : State),
    s.takes 0x0903 h = true →
    t = s.stamped h →
    t.rd Reg.SEC.DBG_LOCK.LOCK_S ≠ 0 →
    exec (.debugAuthChallenge h p) s = .next (t.answer h Sts.busy 0 [])) ∧
  (∀ (s : State),
    exec .debugLockoutExpiry s = .next (s.wr Reg.SEC.DBG_LOCK.LOCK_S 0))

/-- LANE_CONFIG, LANE_STATE, PRBS_START, PRBS_READ and MARGIN_SCAN: what each does and answers (13_lanes.md, Lanes, quads and owners, 13_lanes.md, Rates and line codings, 13_lanes.md, Equalisation, 13_lanes.md, Power states, 13_lanes.md, Test: PRBS, loopback and margin, 13_lanes.md, Commands). -/
def Obligations.LaneCommands : Prop :=
  -- LANE_CONFIG of lanes of one quad, every refusal of R421 ruled out
  (∀ (h : Hdr) (p : List Byte) (ls : List Nat) (func k ps f : Nat) (extra : Bool) (s t : State),
    s.takes 0x0A01 h = true →
    t = s.stamped h →
    lanesOf (u16 p 0) (u8 p 2) = some ls →
    func = u8 p 3 ∧ k = u8 p 4 ∧ ps = u8 p 5 ∧ f = u8 p 6 →
    extra = (func == 2 && (t.link k).lanes.any (fun l => !ls.contains l)) →
    ps = 0xFF ∨ ps ≤ 2 ∧ ls.any (fun l => (t.laneDyn l).queued.isSome) = false →
    ls.any t.laneAbsent = false →
    ls.any t.laneOff = false →
    func ≤ 2 →
    func ≠ 2 ∨ k ≤ 5 ∧ linkGroupOk ls = true ∧ t.thirdBase ls 3 = false →
    f ≤ 63 ∧ f / 16 ≠ 3 →
    u8 p 7 = 0 ∨ (40 ≤ u8 p 7 ∧ u8 p 7 ≤ 120) →
    bit f 3 = false ∨ firOk p = true →
    zeroFrom p 12 = true →
    ls.any (fun l => t.laneFunc l == funcPcie || (func != 0 && t.laneFunc l == funcPort)) = false →
    ((ls.filter (fun l => t.laneFunc l == funcLink && (func == 1 || (func == 2 && t.rd (Reg.LANE.STATUS.LINK l) != k)))).map (fun l => t.rd (Reg.LANE.STATUS.LINK l))).any t.linkHeld = false →
    (extra && (t.linkHeld k || (t.link k).lanes.any t.laneInUse)) = false →
    f / 16 = 0 ∨ ls.any (fun l => t.laneNeg l || t.rd (Reg.LANE.STATUS.PSTATE l) != 0) = false →
    ((ps == 1 || ps == 2 || f / 16 != 0) && ls.any t.laneInUse) = false →
    ls.any (fun l => t.laneInUse l && t.laneFunc l == funcLink && (func == 1 || (func == 2 && t.rd (Reg.LANE.STATUS.LINK l) != k))) = false →
    exec (.laneConfig h p) s = .next (let s1 := if extra then (t.link k).lanes.foldl (fun x l => if ls.contains l then x else
           ((x.dropLink l).wr (Reg.LANE.STATUS.FUNC l) 0).setBase l 0) t else t
      (ls.foldl (State.laneSet p) s1).answer h (if ps != 0xFF && ls.any (fun l => (t.laneDyn l).target.isSome) then Sts.deferred else Sts.ok) 0 [])) ∧
  -- What it leaves where it names the lane free, and where it sets the power state
  (∀ (p : List Byte) (l : Nat) (s : State),
    u8 p 3 = 1 →
    u8 p 5 = 0xFF →
    u8 p 7 = 0 →
    bit (u8 p 6) 3 = false →
    s.laneFunc l = 0 →
    l < 144 →
    (State.laneSet p s l).laneFunc l = 0 ∧ (State.laneSet p s l).rd (Reg.LANE.STATUS.RATE l) = 0 ∧ ((State.laneSet p s l).laneDyn l).base = 0) ∧
  -- A power state asked for while none runs, while one runs, and where the lane is there already
  (∀ (l q : Nat) (s : State),
    q ≤ 2 →
    (s.laneDyn l).target = none →
    s.askPstate l q = (if s.rd (Reg.LANE.STATUS.PSTATE l) = q then s.evt (Reg.LANE.EVENT.PSTATE_DONE l)
      else (s.updLane l (fun d => { d with target := some q })).wr (Reg.LANE.STATUS.PSTATE l) 3)) ∧
  (∀ (l q : Nat) (s : State),
    (s.laneDyn l).target.isSome = true →
    s.askPstate l q = (s.updLane l (fun d => { d with queued := some q })).wr (Reg.LANE.STATUS.PEND l) 1) ∧
  -- LANE_STATE
  (∀ (h : Hdr) (p : List Byte) (l : Nat) (s t : State),
    s.takes 0x0A02 h = true →
    t = s.stamped h →
    laneOf (u16 p 0) = some l →
    zeroFrom p 2 = true →
    t.laneAbsent l = false →
    t.laneOff l = false →
    exec (.laneState h p) s = .next (t.answer h Sts.ok 0 ([BitVec.ofNat 8 (t.rd (Reg.LANE.STATUS.PSTATE l)), BitVec.ofNat 8 (t.rd (Reg.LANE.STATUS.FUNC l)),
      BitVec.ofNat 8 ((t.reg (Reg.LANE.STATUS l)).field 16 8), BitVec.ofNat 8 ((t.reg (Reg.LANE.STATUS l)).field 4 8),
      BitVec.ofNat 8 (t.rd (Reg.LANE.STATUS.NEG_STATE l)), BitVec.ofNat 8 (t.rd (Reg.LANE.STATUS.NEG_FAIL l))] ++
      toLe 4 (t.reg (Reg.LANE.TXFIR l)).toNat ++ [BitVec.ofNat 8 (t.rd (Reg.LANE.RXEQ.CTLE l)), BitVec.ofNat 8 (t.rd (Reg.LANE.RXEQ.DFE1 l)),
      BitVec.ofNat 8 (t.rd (Reg.LANE.RXEQ.EYE l))]))) ∧
  -- An absent lane, a lane without power
  (∀ (h : Hdr) (p : List Byte) (l : Nat) (s t : State),
    s.takes 0x0A02 h = true →
    t = s.stamped h →
    laneOf (u16 p 0) = some l →
    t.laneAbsent l = true ∨ t.laneOff l = true →
    exec (.laneState h p) s = .next (t.answer h (if t.laneAbsent l then Sts.unitAbsent else Sts.domainOff) 0 [])) ∧
  -- PRBS_START on lanes of one quad, every refusal of R423 ruled out
  (∀ (h : Hdr) (p : List Byte) (l : Nat) (ls : List Nat) (s t : State),
    s.takes 0x0A03 h = true →
    t = s.stamped h →
    laneOf (u16 p 0) = some l →
    lanesOf (u16 p 0) (u8 p 2) = some ls →
    u8 p 3 ≤ 6 →
    u8 p 4 ≤ 3 →
    prbsRateOk l (u8 p 5) (u32 p 8) = true →
    u16 p 6 = 0 →
    zeroFrom p 12 = true →
    ls.any t.laneAbsent = false →
    ls.any t.laneOff = false →
    ls.any (fun l => t.laneFunc l == funcPcie) = false →
    u8 p 3 = 0 ∨ ls.any (fun l => t.laneNeg l || t.rd (Reg.LANE.STATUS.PSTATE l) != 0) = false →
    (u8 p 3 != 0 && bit (u8 p 4) 0 && u8 p 5 != 0 && t.thirdBase ls (rateBase (u8 p 5) (u32 p 8))) = false →
    u8 p 3 = 0 ∨ ls.any t.laneInUse = false →
    exec (.prbsStart h p) s = .next ((ls.foldl (fun x l => if u8 p 3 = 0 then x.prbsOff l (u8 p 4)
      else x.prbsOn l (u8 p 3) (u8 p 4) (u8 p 5) (u32 p 8)) t).answer h Sts.ok 0 [])) ∧
  -- What a start leaves: the pattern with its counters at zero
  (∀ (l pat dir kbps : Nat) (s : State),
    s.laneFunc l = 0 →
    1 ≤ dir ∧ dir ≤ 3 →
    l < 144 →
    ((s.prbsOn l pat dir 0 kbps).laneDyn l).pattern = pat ∧ ((s.prbsOn l pat dir 0 kbps).laneDyn l).gen = bit dir 0 ∧
      ((s.prbsOn l pat dir 0 kbps).laneDyn l).chk = bit dir 1 ∧ ((s.prbsOn l pat dir 0 kbps).laneDyn l).errs = 0 ∧
      ((s.prbsOn l pat dir 0 kbps).laneDyn l).bits = 0 ∧ (s.prbsOn l pat dir 0 kbps).isSet (Reg.LANE.STATUS.PRBS_ON l) = true) ∧
  -- PRBS_READ
  (∀ (h : Hdr) (p : List Byte) (l : Nat) (s t : State),
    s.takes 0x0A04 h = true →
    t = s.stamped h →
    laneOf (u16 p 0) = some l →
    zeroFrom p 2 = true →
    t.laneAbsent l = false →
    t.laneOff l = false →
    exec (.prbsRead h p) s = .next (t.answer h Sts.ok 0 (toLe 6 (t.laneDyn l).errs ++ toLe 6 (t.laneDyn l).bits ++
      [BitVec.ofNat 8 ((if (t.laneDyn l).sync then 1 else 0) + (if (t.laneDyn l).full then 2 else 0) + (if (t.laneDyn l).lost then 4 else 0)),
        BitVec.ofNat 8 (t.laneDyn l).pattern]))) ∧
  -- MARGIN_SCAN with room for the result, and without
  (∀ (h : Hdr) (p : List Byte) (l need : Nat) (s t : State),
    s.takes 0x0A05 h = true →
    t = s.stamped h →
    laneOf (u16 p 0) = some l →
    1 ≤ u8 p 2 ∧ u8 p 2 ≤ 32 ∧ 1 ≤ u8 p 3 ∧ u8 p 3 ≤ 32 ∧ 20 ≤ u8 p 4 ∧ u8 p 4 ≤ 40 →
    zeroAt p 5 3 = true →
    zeroFrom p 20 = true →
    h.spiBad (u64 p 8) (u32 p 16) = false →
    t.laneAbsent l = false →
    t.laneOff l = false →
    t.laneFunc l ≠ 3 →
    t.rd (Reg.LANE.STATUS.PSTATE l) = 0 →
    t.isSet (Reg.LANE.STATUS.SCAN l) = false →
    need = 16 + 4 * ((if l < 128 then 1 else 3) * (2 * u8 p 2 + 1) * (2 * u8 p 3 + 1)) →
    exec (.marginScan h p) s = .next (if u32 p 16 < need then t.answer h Sts.badParam 0 (toLe 4 need)
      else ((t.wr (Reg.LANE.STATUS.SCAN l) 1).updLane l (fun d => { d with scan := some ⟨u8 p 2, u8 p 3, u8 p 4, u64 p 8, h⟩ })).answer h Sts.ok 0
        (toLe 4 need)))

/-- Lane events: signal detect, lock and PLL losses, bring-up, negotiation, power-state sequences, pattern counters and scans: what each does (13_lanes.md, Rates and line codings, 13_lanes.md, Bringing links up, 13_lanes.md, Signal detect and hot-plug, 13_lanes.md, Power states, 13_lanes.md, Test: PRBS, loopback and margin, 13_lanes.md, Registers, 13_lanes.md, Commands). -/
def Obligations.LaneEvents : Prop :=
  -- SIGNAL_DETECT_ASSERT and SIGNAL_DETECT_DEASSERT of a lane without an owner and of an SDI or Ethernet port
  (∀ (l : Nat) (s : State),
    s.laneAbsent l = false →
    s.laneOff l = false →
    s.laneFunc l = 0 →
    exec (.signalDetectAssert l) s = .next (s.wr (Reg.LANE.STATUS.SIG_DET l) 1) ∧
      exec (.signalDetectDeassert l) s = .next (if s.isSet (Reg.LANE.STATUS.SIG_DET l) then
        (s.wr (Reg.LANE.STATUS.SIG_DET l) 0).evt (Reg.LANE.EVENT.SIG_LOST l) else s)) ∧
  (∀ (l p : Nat) (s : State),
    s.laneAbsent l = false →
    s.laneOff l = false →
    s.laneFunc l = 1 →
    s.lanePort l = some p →
    exec (.signalDetectAssert l) s = .next (((s.wr (Reg.LANE.STATUS.SIG_DET l) 1).wr (Reg.STRM.PORT_STATUS.SIG_DET p) 1).portEvt p Reg.STRM.PORT_EVENT.SIG_FOUND)) ∧
  -- BLOCK_LOCK_LOSS, HIGH_BER
  (∀ (l : Nat) (s : State),
    s.isSet (Reg.LANE.STATUS.BLOCK_LOCK l) = true →
    s.laneFunc l = 2 →
    l < 144 →
    exec (.blockLockLoss l) s = .next (((s.wr (Reg.LANE.STATUS.BLOCK_LOCK l) 0).evt (Reg.LANE.EVENT.LOCK_LOST l)).laneDown l) ∧
      exec (.highBer l) s = .next ((s.evt (Reg.LANE.EVENT.LOCK_LOST l)).laneDown l)) ∧
  -- QUAD_PLL_UNLOCK, QUAD_PLL_RELOCK
  (∀ (q pll l : Nat) (s : State),
    s.pllLanes q pll = [l] →
    exec (.quadPllUnlock q pll) s = .next
      ((((s.wr (Reg.LANE.STATUS.PLL_LOCK l) 0).evt (Reg.LANE.EVENT.PLL_UNLOCK l)).updLane l (fun d => { d with idle := true })).emit (.quadIdle q true)) ∧
      ((s.laneDyn l).idle = true → exec (.quadPllRelock q pll) s = .next
        ((((s.wr (Reg.LANE.STATUS.PLL_LOCK l) 1).updLane l (fun d => { d with idle := false })).laneDown l).emit (.quadIdle q false)))) ∧
  -- LINK_BRINGUP_COMPLETE of a Dolmet link’s lane in DOWN, and of an Ethernet port on one lane without flows
  (∀ (u : BringUp) (l k : Nat) (s : State),
    u.lane = l →
    s.laneOff l = false →
    s.rd (Reg.LANE.STATUS.PSTATE l) = 0 →
    s.laneFunc l = 2 →
    k = s.rd (Reg.LANE.STATUS.LINK l) →
    s.linkState k = 0 →
    exec (.linkBringupComplete u) s = .next (((s.wr (Reg.LANE.STATUS.CDR_LOCK l) 1).wr (Reg.LANE.STATUS.BLOCK_LOCK l) 1).wr (Reg.DOLMET.LINK_STATUS.STATE k) 1)) ∧
  (∀ (u : BringUp) (l p w : Nat) (s : State),
    u.lane = l →
    u.fir = [(l, w)] →
    firWordOk w = true →
    s.laneOff l = false →
    s.rd (Reg.LANE.STATUS.PSTATE l) = 0 →
    s.laneFunc l = 1 →
    s.lanePort l = some p →
    s.ethPort p = true →
    portLanes p (s.port p).kind = [l] →
    s.strm.flows = [] →
    exec (.linkBringupComplete u) s = .next
      (((((((((((s.setReg (Reg.LANE.TXFIR l) (BitVec.ofNat 32 w)).wr (Reg.LANE.STATUS.NEG_STATE l) 5).wr (Reg.LANE.STATUS.CDR_LOCK l) 1).wr (Reg.LANE.STATUS.BLOCK_LOCK l) 1).setLinkUp l true).updLane l
        (fun d => { d with failed := false })).wr (Reg.STRM.PORT_STATUS.LOCKED p) 1).wr (Reg.STRM.PORT_STATUS.SIG_DET p) 1).portEvt p
        Reg.STRM.PORT_EVENT.SIG_FOUND).portEvt p Reg.STRM.PORT_EVENT.LOCK))) ∧
  -- NEGOTIATION_FAIL, NEGOTIATION_RETRY of a lane of a port
  (∀ (l p r : Nat) (s : State),
    s.laneFunc l = 1 →
    s.lanePort l = some p →
    portLanes p (s.port p).kind = [l] →
    1 ≤ r ∧ r ≤ 7 →
    exec (.negotiationFail l r) s = .next (s.negFail l r) ∧
      (s.rd (Reg.LANE.STATUS.NEG_STATE l) = 6 → exec (.negotiationRetry l) s = .next (s.startNeg l))) ∧
  -- NEGOTIATION_RETRY of a Dolmet link that is down after a failure
  (∀ (l k : Nat) (s : State),
    s.laneFunc l = 2 →
    k = s.rd (Reg.LANE.STATUS.LINK l) →
    s.linkState k = 0 →
    2 ≤ s.rd (Reg.DOLMET.LINK_STATUS.DOWN_REASON k) →
    (s.link k).lanes = [l] →
    exec (.negotiationRetry l) s = .next ((s.startNeg l).wr (Reg.DOLMET.LINK_STATUS.STATE k) 1)) ∧
  -- A receiver’s settings at a boundary
  (∀ (l c d e : Nat) (s : State),
    s.laneAbsent l = false →
    s.laneOff l = false →
    s.rd (Reg.LANE.STATUS.PSTATE l) = 0 →
    c < 32 →
    d < 256 →
    e < 256 →
    (s.adapted (l, c, d, e)).rd (Reg.LANE.RXEQ.EYE l) = e ∧
      (l < 128 → s.isSet (Reg.LANE.CFG.EQ_FREEZE l) = false → (s.adapted (l, c, d, e)).rd (Reg.LANE.RXEQ.CTLE l) = c ∧ (s.adapted (l, c, d, e)).rd (Reg.LANE.RXEQ.DFE1 l) = d) ∧
      (128 ≤ l ∨ s.isSet (Reg.LANE.CFG.EQ_FREEZE l) = true → (s.adapted (l, c, d, e)).rd (Reg.LANE.RXEQ.CTLE l) = s.rd (Reg.LANE.RXEQ.CTLE l) ∧
        (s.adapted (l, c, d, e)).rd (Reg.LANE.RXEQ.DFE1 l) = s.rd (Reg.LANE.RXEQ.DFE1 l))) ∧
  -- What a failure leaves
  (∀ (l r : Nat) (s : State),
    r ≤ 7 →
    (s.laneDyn l).failed = false →
    l < 144 →
    (s.negFail l r).rd (Reg.LANE.STATUS.NEG_STATE l) = 6 ∧ (s.negFail l r).rd (Reg.LANE.STATUS.NEG_FAIL l) = r ∧
      (s.negFail l r).isSet (Reg.LANE.EVENT.NEG_FAIL l) = true) ∧
  -- PSTATE_SEQUENCE_DONE
  (∀ (l t : Nat) (s : State),
    (s.laneDyn l).target = some t →
    t < 2 →
    (s.laneDyn l).base = 0 →
    (s.laneDyn l).queued = none →
    exec (.pstateSequenceDone l) s = .next ((((s.wr (Reg.LANE.STATUS.PSTATE l) t).updLane l (fun x => { x with target := none })).wr
      (Reg.LANE.STATUS.PEND l) 0).evt (Reg.LANE.EVENT.PSTATE_DONE l))) ∧
  -- PRBS_SYNC_LOSS, PRBS_COUNTER_FULL
  (∀ (l errs : Nat) (s : State),
    (s.laneDyn l).chk = true →
    exec (.prbsSyncLoss l) s = .next ((s.updLane l (fun d => { d with sync := false, lost := true })).evt (Reg.LANE.EVENT.PRBS_LOST l)) ∧
      exec (.prbsCounterFull l errs) s = .next (s.updLane l (fun d => { d with full := true, bits := 2 ^ 48 - 1, errs := min errs (2 ^ 48 - 1) }))) ∧
  -- LANE_PRBS_ERR_LO_READ
  (∀ (l : Nat) (s : State),
    s.laneAbsent l = false →
    s.laneOff l = false →
    exec (.lanePrbsErrLoRead l) s = .next ((((s.wr (Reg.LANE.PRBS_ERR_LO.COUNT_LO l) (s.laneDyn l).errs).wr (Reg.LANE.PRBS_ERR_HI.COUNT_HI l)
      ((s.laneDyn l).errs / 2 ^ 32)).wr (Reg.LANE.PRBS_BITS_LO.COUNT_LO l) (s.laneDyn l).bits).wr (Reg.LANE.PRBS_BITS_HI.COUNT_HI l) ((s.laneDyn l).bits / 2 ^ 32))) ∧
  -- MARGIN_SCAN_DONE
  (∀ (l : Nat) (counts : List Nat) (c : Scan) (s : State),
    (s.laneDyn l).scan = some c →
    exec (.marginScanDone l counts) s = .next
      ((((s.writeBuf c.h c.addr ([BitVec.ofNat 8 c.hw, BitVec.ofNat 8 c.vw, BitVec.ofNat 8 c.dwell, if l < 128 then 1 else 3,
          BitVec.ofNat 8 (s.rd (Reg.LANE.STATUS.RATE l))] ++ List.replicate 11 0 ++
        (List.range (scanPoints l c.hw c.vw)).flatMap (fun i => toLe 4 (min (counts.getD i 0) 0xFFFFFFFF)))).updLane l
        (fun d => { d with scan := none })).wr (Reg.LANE.STATUS.SCAN l) 0).evt (Reg.LANE.EVENT.SCAN_DONE l)))

/-- What the rows of a Dolmet link do: capability exchange, qualification, frames, tag failures, heartbeats and tick markers (12_security.md, Link encryption, 14_twin_and_mesh.md, Frames, 14_twin_and_mesh.md, Bringing a link up, 14_twin_and_mesh.md, Links in the ledger, 14_twin_and_mesh.md, The mesh). -/
def Obligations.DolmetLinks : Prop :=
  -- CAPABILITY_EXCHANGE: no common revision; encryption without a key; settled on an unencrypted mesh link
  (∀ (k : Nat) (c : Caps) (s : State),
    k < 6 →
    s.linkState k < 2 →
    (s.link k).lanes ≠ [] →
    c.revs = 0 →
    c.reset = false →
    exec (.capabilityExchange k c) s = .next (((((s.updLink k (fun d =>
      { d with role := c.role, pStep := c.step, pProfile := c.profile, pBusy := c.busy })).wr (Reg.DOLMET.LINK_STATUS.PARTNER k) c.id).wr
        (Reg.DOLMET.LINK_STATUS.ROLE k) (s.claim k))).linkDown k 2)) ∧
  (∀ (k : Nat) (c : Caps) (s : State),
    k < 6 →
    s.linkState k < 2 →
    (s.link k).lanes ≠ [] →
    c.revs = 3 →
    c.reset = false →
    c.enc = true →
    c.key = false →
    exec (.capabilityExchange k c) s = .next (((((s.updLink k (fun d =>
      { d with role := c.role, pStep := c.step, pProfile := c.profile, pBusy := c.busy })).wr (Reg.DOLMET.LINK_STATUS.PARTNER k) c.id).wr
        (Reg.DOLMET.LINK_STATUS.ROLE k) (s.claim k))).linkDown k 4)) ∧
  (∀ (k l r : Nat) (c : Caps) (s : State),
    k < 6 →
    s.linkState k < 2 →
    (s.link k).lanes = [l] →
    c.revs = 3 →
    c.reset = false →
    c.enc = false →
    (s.linkPol k).enc = false →
    s.isTwinLink k = false →
    s.ident.profile ≠ 0x56 →
    l < 144 →
    s.claim k = 1 →
    c.role = 1 →
    bestRate c.rates (min (s.linkPol k).rate 2) = some r →
    ∃ t : State, exec (.capabilityExchange k c) s = .next t ∧ t.linkState k = 2 ∧ (t.link k).cand = r ∧ (t.link k).agree = true) ∧
  -- LANE_QUALIFICATION_END: a pass; a fail that leaves a lower rate; the last fail
  (∀ (k : Nat) (s : State),
    k < 6 →
    s.linkState k = 2 →
    (s.link k).lanes = [] →
    0 < (s.link k).cand →
    exec (.laneQualificationEnd k true) s = .next
        (((((s.wr (Reg.DOLMET.LINK_STATUS.STATE k) 3).wr (Reg.DOLMET.LINK_STATUS.RATE k) (s.link k).cand).wr
          (Reg.DOLMET.LINK_STATUS.DOWN_REASON k) 0).evt (Reg.DOLMET.LINK_EVENT.LINK_UP k)).linkBack k) ∧
      exec (.laneQualificationEnd k false) s = .next (s.updLink k (fun d => { d with cand := d.cand - 1 }))) ∧
  (∀ (k : Nat) (s : State),
    k < 6 →
    s.linkState k = 2 →
    (s.link k).lanes = [] →
    (s.link k).cand = 0 →
    exec (.laneQualificationEnd k false) s = .next (s.linkDown k 5)) ∧
  -- DOLMET_FRAME_RECEIVE: a bad CRC; a bad tag; a frame for another device; a line-packet
  (∀ (k : Nat) (f : DFrame) (s : State),
    k < 6 →
    s.linkUp k = true →
    f.crcOk = false →
    exec (.dolmetFrameReceive k f) s = .next (s.bump (Reg.DOLMET.LINK_CNT.CRC_CNT k))) ∧
  (∀ (k : Nat) (f : DFrame) (s : State),
    k < 6 →
    s.linkUp k = true →
    f.crcOk = true →
    s.isSet (Reg.DOLMET.LINK_STATUS.ENC k) = true →
    f.tagOk = false →
    exec (.dolmetFrameReceive k f) s = .next (((s.bump Reg.SEC.CNT.LINK_FAIL_CNT).evt Reg.SEC.EVENT.LINK_AUTH).updLink k
      (fun d => { d with tagFails := d.tagFails + 1 }))) ∧
  (∀ (k : Nat) (f : DFrame) (s : State),
    k < 6 →
    s.linkUp k = true →
    f.crcOk = true →
    s.isSet (Reg.DOLMET.LINK_STATUS.ENC k) = false →
    s.carries k f.ty = true →
    f.dst ≠ 0 →
    f.dst ≠ s.meshId →
    exec (.dolmetFrameReceive k f) s = .next (s.forwardFrame k f.ty f.dst f)) ∧
  (∀ (k : Nat) (f : DFrame) (s : State),
    k < 6 →
    s.linkUp k = true →
    f.crcOk = true →
    s.isSet (Reg.DOLMET.LINK_STATUS.ENC k) = false →
    s.rd (Reg.DOLMET.LINK_STATUS.ROLE k) = 4 →
    f.ty ≠ 3 ∧ f.ty ≠ 4 ∧ f.ty ≠ 9 →
    exec (.dolmetFrameReceive k f) s = .next s) ∧
  (∀ (k : Nat) (f : DFrame) (s : State),
    k < 6 →
    s.linkUp k = true →
    f.crcOk = true →
    s.isSet (Reg.DOLMET.LINK_STATUS.ENC k) = false →
    f.dst = 0 ∨ f.dst = s.meshId →
    f.ty = 6 →
    s.linkState k = 3 →
    s.rd (Reg.DOLMET.LINK_STATUS.ROLE k) ≠ 4 →
    exec (.dolmetFrameReceive k f) s = .next (s.linkPacket k f)) ∧
  -- LINK_TAG_FAIL_LIMIT; HEARTBEAT_RECEIVE; HEARTBEAT_TIMEOUT of a link that is no twin link
  (∀ (k : Nat) (s : State),
    k < 6 →
    s.linkUp k = true →
    16 ≤ (s.link k).tagFails →
    exec (.linkTagFailLimit k) s = .next (s.linkDown k 7) ∧
      exec (.heartbeatReceive k) s = .next (s.updLink k (fun d => { d with hbMiss := 0 }))) ∧
  (∀ (k : Nat) (s : State),
    k < 6 →
    s.linkUp k = true →
    3 ≤ (s.link k).hbMiss →
    exec (.heartbeatTimeout k) s = .next (let s1 := s.linkDown k 8
      if s1.isTwinLink k && !s1.linkUp (s1.rd Reg.TWIN.CFG.LINK_A) && !s1.linkUp (s1.rd Reg.TWIN.CFG.LINK_B) && !s1.isSet Reg.TWIN.STATUS.PEER_OK
      then s1.partnerLost else s1)) ∧
  -- A link that was DOWN or in negotiation goes down with its reason
  (∀ (k r : Nat) (s : State),
    k < 6 →
    r < 16 →
    s.linkUp k = false →
    (s.link k).lanes = [] →
    s.linkDown k r = ((s.wr (Reg.DOLMET.LINK_STATUS.STATE k) 0).wr (Reg.DOLMET.LINK_STATUS.DOWN_REASON k) r).updLink k (fun d => { d with hbMiss := 0, tagFails := 0 })) ∧
  -- TICK_MARKER_RECEIVE of the same tick number, INSTAR and digest; of another INSTAR
  (∀ (k : Nat) (m : Marker) (s : State),
    k < 6 →
    s.linkUp k = true →
    m.num = s.now →
    m.instar = s.mesh.instar →
    m.digest = s.mesh.digest →
    s.isTwinLink k = false →
    s.isSet Reg.MESH.STATUS.OUT_OF_TICK = false →
    m.t4 = 0 →
    ∃ t : State, exec (.tickMarkerReceive k m) s = .next t ∧ (t.link k).agree = true ∧ (t.link k).hbMiss = 0 ∧ (t.link k).authDist = m.authDist ∧
      (t.link k).instar = m.instar) ∧
  (∀ (k : Nat) (m : Marker) (s : State),
    k < 6 →
    s.linkUp k = true →
    m.num = s.now →
    m.instar ≠ s.mesh.instar →
    s.isTwinLink k = false →
    s.molting = false →
    s.due = [] →
    s.mesh.setAt ≠ some s.now →
    m.t4 = 0 →
    s.linkState k = 3 →
    (∃ u : State, exec (.tickMarkerReceive k m) s =
        .next ((((u.updLink k (fun d => { d with agree := false })).evt Reg.MESH.EVENT.INSTAR_MISMATCH).quarantine k).updAuth) ∧ u.linkState k = 3) ∧
      s.quarantine k = State.loseList ((s.wr (Reg.DOLMET.LINK_STATUS.STATE k) 4).evt (Reg.DOLMET.LINK_EVENT.QUARANTINE k))
        (State.overLink ((s.wr (Reg.DOLMET.LINK_STATUS.STATE k) 4).evt (Reg.DOLMET.LINK_EVENT.QUARANTINE k)) k))

/-- TWIN_PAIR, TWIN_STATUS, DIGEST_RECEIVE, STATE_TRANSFER_RECEIVE, the rejoin rows, and the loss of the partner: what each does (14_twin_and_mesh.md, Twins, 14_twin_and_mesh.md, Failover, 14_twin_and_mesh.md, Commands). -/
def Obligations.Twins : Prop :=
  -- TWIN_PAIR with a role, every refusal of R447 ruled out
  (∀ (h : Hdr) (p : List Byte) (role a b : Nat) (busy : Bool) (s t : State),
    s.takes 0x0B01 h = true →
    t = s.stamped h →
    role = u8 p 0 →
    role = 1 ∨ role = 2 →
    a = u8 p 1 →
    b = u8 p 2 →
    a < 6 →
    b < 6 →
    a ≠ b →
    u8 p 3 ≤ 3 →
    zeroFrom p 8 = true →
    1 ≤ u16 p 4 ∧ u16 p 4 ≤ 16384 →
    t.twinLinkOff a = false →
    t.twinLinkOff b = false →
    t.twinLinkBad a = false →
    t.twinLinkBad b = false →
    busy = !(t.liveWhere (fun _ => true)).isEmpty →
    busy = false ∨ ((t.link a).pBusy = false ∧ (t.link b).pBusy = false) →
    (∀ k ∈ [a, b], t.linkUp k = true → (t.link k).pProfile = t.ident.profile ∧ ((t.link k).pStep = t.ident.stepping ∨ t.ident.profile ≠ 0)) →
    exec (.twinPair h p) s = .next (let pb := (t.link a).pBusy || (t.link b).pBusy
      let carrier := busy || (!pb && role == 1)
      let s1 := ((((t.wr Reg.TWIN.CFG.ROLE role).wr Reg.TWIN.CFG.LINK_A a).wr Reg.TWIN.CFG.LINK_B b).flag Reg.TWIN.CFG.AUTO_REJOIN
        (bit (u8 p 3) 0)).wr Reg.TWIN.CFG.REJOIN_LIMIT (if u16 p 6 = 0 then 600 else u16 p 6)
      let s2 : State := { s1 with twin := { s1.twin with
        partner := u16 p 4, encReq := bit (u8 p 3) 1, carrier := carrier, since := t.now, moved := false, copied := [],
        slow := false, actTick := none } }
      let s3 := (((s2.setTwin 1).setMuted (!carrier)).setChg carrier).wr Reg.TWIN.STATUS.MATCH_RUN 0
      ((s3.relink a).relink b).answer h Sts.ok 0 [])) ∧
  -- TWIN_PAIR with role 0 on a device that carries nothing as a twin
  (∀ (h : Hdr) (p : List Byte) (s t : State),
    s.takes 0x0B01 h = true →
    t = s.stamped h →
    u8 p 0 = 0 →
    u8 p 3 ≤ 3 →
    zeroFrom p 8 = true →
    (t.paired && t.live.any (fun i => match (t.contract i).st with | .active | .starved | .held | .releasing => true | _ => false)) = false →
    exec (.twinPair h p) s = .next (let s1 := (((t.setTwin 0).setMuted false).setChg false).setReg Reg.TWIN.CFG (resetWord Reg.TWIN.CFG)
      let s2 := (s1.relink (t.rd Reg.TWIN.CFG.LINK_A)).relink (t.rd Reg.TWIN.CFG.LINK_B)
      State.answer { s2 with twin := { s2.twin with partner := 0, encReq := false, carrier := false, actTick := none } } h Sts.ok 0 [])) ∧
  -- What it leaves on an idle device whose links are down
  (∀ (h : Hdr) (p : List Byte) (role a b : Nat) (s u : State),
    s.takes 0x0B01 h = true →
    u = s.stamped h →
    role = u8 p 0 →
    role = 1 ∨ role = 2 →
    a = u8 p 1 →
    b = u8 p 2 →
    a < 6 →
    b < 6 →
    a ≠ b →
    u8 p 3 ≤ 3 →
    zeroFrom p 8 = true →
    1 ≤ u16 p 4 ∧ u16 p 4 ≤ 16384 →
    u.twinLinkOff a = false →
    u.twinLinkOff b = false →
    u.twinLinkBad a = false →
    u.twinLinkBad b = false →
    u.live = [] →
    u.linkUp a = false →
    u.linkUp b = false →
    (u.link a).pBusy = false →
    (u.link b).pBusy = false →
    ∃ t : State, exec (.twinPair h p) s = .next (t.answer h Sts.ok 0 []) ∧ t.twinState = 1 ∧ t.rd Reg.TWIN.CFG.ROLE = role ∧ t.rd Reg.TWIN.CFG.LINK_A = a ∧
      t.rd Reg.TWIN.CFG.LINK_B = b ∧ t.twin.partner = u16 p 4 ∧ t.isSet Reg.TWIN.STATUS.MUTED = decide (role = 2) ∧
      t.isSet Reg.TWIN.STATUS.CHG_SEL = decide (role = 1)) ∧
  (∀ (h : Hdr) (p : List Byte) (s u : State),
    s.takes 0x0B01 h = true →
    u = s.stamped h →
    u8 p 0 = 0 →
    u8 p 3 ≤ 3 →
    zeroFrom p 8 = true →
    u.linkUp (u.rd Reg.TWIN.CFG.LINK_A) = false →
    u.linkUp (u.rd Reg.TWIN.CFG.LINK_B) = false →
    ∃ t : State, exec (.twinPair h p) s = .next (t.answer h Sts.ok 0 []) ∧ t.twinState = 0 ∧ t.reg Reg.TWIN.CFG = resetWord Reg.TWIN.CFG ∧
      t.isSet Reg.TWIN.STATUS.MUTED = false ∧ t.twin.partner = 0) ∧
  -- TWIN_STATUS
  (∀ (h : Hdr) (p : List Byte) (s t : State),
    s.takes 0x0B02 h = true →
    t = s.stamped h →
    noParams p = false →
    exec (.twinStatus h p) s = .next (t.answer h Sts.ok 0 ([BitVec.ofNat 8 t.twinState, BitVec.ofNat 8 (t.rd Reg.TWIN.CFG.ROLE),
      BitVec.ofNat 8 (t.rd Reg.TWIN.STATUS.MATCH_RUN), BitVec.ofNat 8 ((if t.isSet Reg.TWIN.STATUS.MUTED then 1 else 0) +
        (if t.isSet Reg.TWIN.STATUS.PEER_OK then 2 else 0) +
        (if t.rd Reg.TWIN.CFG.ROLE != 0 && t.linkUp (t.rd Reg.TWIN.CFG.LINK_A) then 4 else 0) +
        (if t.rd Reg.TWIN.CFG.ROLE != 0 && t.linkUp (t.rd Reg.TWIN.CFG.LINK_B) then 8 else 0))] ++
      toLe 4 (t.rd Reg.TWIN.STATUS.DIV_CNT) ++ toLe 8 t.twin.lastDiv))) ∧
  -- A withdrawal
  (∀ (s : State),
    s.withdraw.twinState = 1 ∧ s.withdraw.isSet Reg.TWIN.STATUS.MUTED = true ∧ s.withdraw.isSet Reg.TWIN.EVENT.DIVERGED = true ∧
      s.withdraw.isSet Reg.TWIN.STATUS.CHG_SEL = false ∧ s.withdraw.rd Reg.TWIN.STATUS.MATCH_RUN = 0 ∧ s.withdraw.twin.carrier = false ∧
      s.withdraw.twin.lastDiv = s.now) ∧
  -- DIGEST_RECEIVE: paired, the image differs outside a molt; paired, an output differs and neither device had an ECC event
  (∀ (d : Digest) (s : State),
    s.rd Reg.TWIN.CFG.ROLE = 2 →
    d.tick + 1 = s.now →
    s.twinState = 3 →
    d.image ≠ s.digest.image →
    d.molt = false →
    s.molting = false →
    ∃ u : State, exec (.digestReceive d) s = .next u.withdraw ∧ u.isSet Reg.TWIN.EVENT.INSTAR_MISMATCH = true) ∧
  -- The digest that DIGEST_RECEIVE compares with
  (∀ (s : State),
    s.digest = ⟨s.now - 1, s.rd Reg.MOLT.INSTAR.INSTAR, s.twinState, s.isSet Reg.TWIN.STATUS.MUTED, s.molting, s.twin.eccTick, s.boot.imgDigest, s.tableDigest, s.twin.sentCrcs⟩) ∧
  -- While a receiver matches, a digest with the same image and INSTAR
  (∀ (d : Digest) (s : State),
    s.rd Reg.TWIN.CFG.ROLE ≠ 0 →
    d.tick + 1 = s.now →
    s.twinState = 2 →
    d.image = s.digest.image →
    d.instar = s.digest.instar →
    s.rd Reg.MOLT.STATUS.STAGGER = 0 →
    ∃ t : State, exec (.digestReceive d) s = .next t ∧ t.twin.mismatch = false ∧ t.rd Reg.TWIN.STATUS.MATCH_RUN =
      (if (crcDiffer (s.compared s.twin.sentCrcs) d.crcs).isNone && (crcDiffer d.crcs s.twin.sentCrcs).isNone then min 8 (s.rd Reg.TWIN.STATUS.MATCH_RUN + 1) else 0)) ∧
  -- The partner is SYNCING with the same image and INSTAR: a device ALONE carries on, the carrier sends its state
  (∀ (d : Digest) (s : State),
    s.rd Reg.TWIN.CFG.ROLE ≠ 0 →
    d.tick + 1 = s.now →
    s.twinState = 4 →
    d.st = 1 →
    d.image = s.digest.image →
    d.instar = s.digest.instar →
    ∃ u : State, exec (.digestReceive d) s = .next u.carryOn ∧ u.carryOn.twinState = 1 ∧ u.carryOn.twin.carrier = true ∧ u.carryOn.twin.actTick = none) ∧
  (∀ (d : Digest) (s : State),
    s.rd Reg.TWIN.CFG.ROLE ≠ 0 →
    d.tick + 1 = s.now →
    s.twinState = 1 →
    s.twin.carrier = true →
    s.twin.actTick = none →
    d.st = 1 →
    d.image = s.digest.image →
    d.instar = s.digest.instar →
    s.linkUp (s.rd Reg.TWIN.CFG.LINK_A) = true →
    s.linkUp (s.rd Reg.TWIN.CFG.LINK_B) = true →
    ∃ t : State, exec (.digestReceive d) s = .next t ∧ t.twin.actTick = some (s.now + 2) ∧ t.twinState = 1 ∧
      t.out = s.out ++ [.state (s.led.contracts.filter (fun x => x.2.st != .released)) s.strm.ports s.strm.flows s.take s.strm.noRevert (s.now + 2)]) ∧
  -- STATE_TRANSFER_RECEIVE names the activation tick, REJOIN_ACTIVATION
  (∀ (a : Nat) (s : State),
    s.twinState = 1 →
    s.twin.carrier = false →
    s.mode = 3 ∨ s.mode = 4 →
    s.twin.mismatch = false →
    s.linkUp (s.rd Reg.TWIN.CFG.LINK_A) = true →
    s.linkUp (s.rd Reg.TWIN.CFG.LINK_B) = true →
    ∃ t : State, exec (.stateTransferReceive { act := some a }) s = .next t ∧ t.twin.actTick = some a ∧ t.twin.moved = true ∧ t.led.contracts = s.led.contracts) ∧
  (∀ (a : Nat) (s : State),
    s.twin.actTick = some a →
    s.twinState = 1 →
    s.twin.carrier = false →
    a ≤ s.now →
    s.led.contracts = [] →
    s.mode = 4 →
    ∃ t : State, exec .rejoinActivation s = .next t ∧ t.mode = 4 ∧ t.twinState = 2 ∧ t.isSet Reg.TWIN.STATUS.MUTED = true ∧ t.rd Reg.TWIN.STATUS.MATCH_RUN = 0 ∧
      t.twin.actTick = none) ∧
  -- REJOIN_ENGINE_COPY; REJOIN_MATCH_COMPLETE; REJOIN_SLOW
  (∀ (c : Nat) (s : State),
    s.twinState = 2 →
    s.twin.copied = [] →
    exec (.rejoinEngineCopy c []) s = .next { s with twin := { s.twin with copied := [c] } }) ∧
  (∀ (s : State),
    8 ≤ s.rd Reg.TWIN.STATUS.MATCH_RUN →
    s.twinState = 2 →
    s.rd Reg.TWIN.CFG.ROLE = 1 →
    ∃ t : State, exec .rejoinMatchComplete s = .next t ∧ t.twinState = 3 ∧ t.isSet Reg.TWIN.STATUS.MUTED = false ∧ t.isSet Reg.TWIN.EVENT.REJOINED = true ∧
      t.isSet Reg.TWIN.STATUS.CHG_SEL = true ∧ t.twin.carrier = true) ∧
  (∀ (s : State),
    s.twinState = 1 →
    s.twin.slow = false →
    s.twin.since + s.rd Reg.TWIN.CFG.REJOIN_LIMIT < s.now →
    exec .rejoinSlow s = .next { s.evt Reg.TWIN.EVENT.REJOIN_SLOW with twin := { s.twin with slow := true } }) ∧
  -- TWIN_PEER_OK_FALL, FAULT_MESSAGE_RECEIVE, LINKS_LOST
  (∀ (s : State),
    s.rd Reg.TWIN.CFG.ROLE ≠ 0 →
    exec .twinPeerOkFall s = .next ((s.wr Reg.TWIN.STATUS.PEER_OK 0).partnerLost) ∧
      exec .faultMessageReceive s = .next (((s.linkDown (s.rd Reg.TWIN.CFG.LINK_A) 9).linkDown (s.rd Reg.TWIN.CFG.LINK_B) 9).partnerLost)) ∧
  (∀ (s : State),
    s.rd Reg.TWIN.CFG.ROLE ≠ 0 →
    s.twinState = 3 →
    s.isSet Reg.TWIN.STATUS.PEER_OK = true →
    s.linkUp (s.rd Reg.TWIN.CFG.LINK_A) = false →
    s.linkUp (s.rd Reg.TWIN.CFG.LINK_B) = false →
    s.isSet Reg.TWIN.STATUS.MUTED = false →
    exec .linksLost s = .next (if s.rd Reg.TWIN.CFG.ROLE = 2 then (s.evt Reg.TWIN.EVENT.LINKS_LOST).withdraw
      else (State.setChg { (s.evt Reg.TWIN.EVENT.LINKS_LOST).setTwin 4 with twin := { s.twin with carrier := true } } true))) ∧
  -- The partner lost
  (∀ (s : State),
    s.twinState = 3 →
    s.isSet Reg.TWIN.STATUS.MUTED = false →
    s.rd Reg.MOLT.STATUS.STAGGER = 0 →
    s.partnerLost.twinState = 4 ∧ s.partnerLost.isSet Reg.TWIN.EVENT.PARTNER_LOST = true ∧ s.partnerLost.twin.carrier = true ∧ s.partnerLost.isSet Reg.TWIN.STATUS.CHG_SEL = (s.rd Reg.TWIN.CFG.ROLE == 1))

/-- MESH_ROUTE_SET, MESH_STATUS, INSTAR_SET and INSTAR_SET_APPLY: what each does and answers (14_twin_and_mesh.md, The mesh, 14_twin_and_mesh.md, Registers, 14_twin_and_mesh.md, Commands). -/
def Obligations.MeshAndRoutes : Prop :=
  -- MESH_ROUTE_SET: mesh ID, add, policy
  (∀ (h : Hdr) (p : List Byte) (s t : State),
    s.takes 0x0B03 h = true →
    t = s.stamped h →
    u8 p 0 = 0 →
    zeroFrom p 12 = true →
    1 ≤ u16 p 2 ∧ u16 p 2 ≤ 16384 →
    u16 p 2 = t.meshId ∨ t.liveWhere (fun c => c.d.xdev || c.owner != 0) = [] →
    exec (.meshRouteSet h p) s = .next ((t.wr Reg.MESH.STATUS.MESH_ID (u16 p 2)).answer h Sts.ok 0 [])) ∧
  (∀ (h : Hdr) (p : List Byte) (s t : State),
    s.takes 0x0B03 h = true →
    t = s.stamped h →
    u8 p 0 = 1 →
    u8 p 1 ≤ 5 →
    zeroFrom p 12 = true →
    1 ≤ u16 p 4 ∧ u16 p 4 ≤ u16 p 6 ∧ u16 p 6 ≤ 16384 →
    t.mesh.routes.length < 256 →
    exec (.meshRouteSet h p) s = .next ((State.wr { t with mesh := { t.mesh with routes := t.mesh.routes ++ [⟨u16 p 4, u16 p 6, u8 p 1, u8 p 8⟩] } }
      Reg.MESH.ROUTES.COUNT (t.mesh.routes.length + 1)).answer h Sts.ok 0 [])) ∧
  (∀ (h : Hdr) (p : List Byte) (s t : State),
    s.takes 0x0B03 h = true →
    t = s.stamped h →
    u8 p 0 = 2 →
    zeroFrom p 12 = true →
    1 ≤ u16 p 4 ∧ u16 p 4 ≤ u16 p 6 ∧ u16 p 6 ≤ 16384 →
    t.mesh.routes.any (fun r => r.lo == u16 p 4 && r.hi == u16 p 6) = true →
    exec (.meshRouteSet h p) s = .next (let l := t.mesh.routes.filter (fun r => !(r.lo == u16 p 4 && r.hi == u16 p 6))
      (State.wr { t with mesh := { t.mesh with routes := l } } Reg.MESH.ROUTES.COUNT l.length).answer h Sts.ok 0 [])) ∧
  (∀ (h : Hdr) (p : List Byte) (s t : State),
    s.takes 0x0B03 h = true →
    t = s.stamped h →
    u8 p 0 = 4 →
    zeroFrom p 12 = true →
    u16 p 2 ≤ 16384 →
    exec (.meshRouteSet h p) s = .next ((State.updAuth { t with mesh := { t.mesh with master := u16 p 2 } }).answer h Sts.ok 0 [])) ∧
  (∀ (h : Hdr) (p : List Byte) (s t : State),
    s.takes 0x0B03 h = true →
    t = s.stamped h →
    u8 p 0 = 3 →
    u8 p 1 ≤ 5 →
    u8 p 9 < 12 →
    zeroFrom p 12 = true →
    exec (.meshRouteSet h p) s = .next (State.answer { t with mesh := { t.mesh with pol := SMap.insert (u8 p 1) ⟨bit (u8 p 9) 0, bit (u8 p 9) 1, u8 p 9 / 4 % 4, signed 16 (u16 p 10) * 10⟩ t.mesh.pol } } h Sts.ok 0 [])) ∧
  -- MESH_STATUS
  (∀ (h : Hdr) (p : List Byte) (s t : State),
    s.takes 0x0B04 h = true →
    t = s.stamped h →
    noParams p = false →
    exec (.meshStatus h p) s = .next (t.answer h Sts.ok 0 (toLe 2 t.meshId ++ [BitVec.ofNat 8 (t.rd Reg.MESH.STATUS.AUTH_DIST),
      BitVec.ofNat 8 ((if t.isSet Reg.MESH.STATUS.OUT_OF_TICK then 1 else 0) +
        (List.range 6).foldl (fun a k => a + if t.linkUp k then 2 ^ (k + 1) else 0) 0 +
        (if (List.range 6).any (fun k => t.linkState k == 4) then 128 else 0))] ++
      toLe 4 t.mesh.instar ++ toLe 2 t.mesh.authId ++ toLe 2 t.mesh.routes.length))) ∧
  -- INSTAR_SET while none is due, and INSTAR_SET_APPLY of it
  (∀ (h : Hdr) (p : List Byte) (s t : State),
    s.takes 0x0B05 h = true →
    t = s.stamped h →
    u32 p 4 = 0 →
    zeroFrom p 64 = true →
    t.due.any (fun d => match d.act with | .instar _ _ => true | _ => false) = false →
    exec (.instarSet h p) s = .next (let eff := effTick (u64 p 8) (t.now + 2)
      (t.schedule eff.1 (.instar (u32 p 0) (leAt p 16 48))).answer h eff.2 eff.1 [])) ∧
  (∀ (eff i g : Nat) (st : Nat × Nat) (s : State),
    s.dueNow = [⟨eff, .instar i g, st⟩] →
    exec .instarSetApply s = .next { s.undue with mesh := { s.mesh with instar := i, digest := g, setAt := some s.now } })

/-- VIN_INPUT_FAULT, VIN_RETURN_QUALIFIED, the VAUX rows, PWR_FORCE_B_WRITE, SUPPLY_FAULT, SUPPLY_RECOVERY, VIO_FAULT, VAUX_LOSS and SUPPLY_STATUS: what each does (15_power_and_clocks.md, Supply inputs and the power path, 15_power_and_clocks.md, Registers, 15_power_and_clocks.md, Commands). -/
def Obligations.Supplies : Prop :=
  -- VIN_INPUT_FAULT
  (∀ (s : State),
    exec (.vinInputFault false) s = .next (((s.wr Reg.PWR.SUPPLY.A_OK 0).evt Reg.PWR.EVENT.A_LOST).pathTo true) ∧
      exec (.vinInputFault true) s = .next (let s1 := (s.wr Reg.PWR.SUPPLY.B_OK 0).evt Reg.PWR.EVENT.B_LOST
        if s1.isSet Reg.PWR.SUPPLY.A_OK ∧ s1.isSet Reg.PWR.CFG.FORCE_B then s1.pathTo false else s1)) ∧
  -- VIN_RETURN_QUALIFIED of A, of B
  (∀ (s : State),
    exec (.vinReturnQualified false) s = .next (let s1 := s.wr Reg.PWR.SUPPLY.A_OK 1
        if s1.isSet Reg.PWR.SUPPLY.B_OK = true ∧ ¬ s1.isSet Reg.PWR.CFG.FORCE_B = true then s1.pathTo false else s1) ∧
      exec (.vinReturnQualified true) s = .next (let s1 := s.wr Reg.PWR.SUPPLY.B_OK 1
        if s1.isSet Reg.PWR.CFG.FORCE_B = true then s1.pathTo true else s1)) ∧
  -- The path
  (∀ (b : Bool) (s : State),
    s.isSet Reg.PWR.SUPPLY.SEL ≠ b →
    (s.pathTo b).isSet Reg.PWR.SUPPLY.SEL = b ∧ (s.pathTo b).isSet (if b then Reg.PWR.EVENT.PATH_SWITCH else Reg.PWR.EVENT.PATH_RETURN) = true) ∧
  -- VAUX_INPUT_FAULT, VAUX_RETURN_QUALIFIED
  (∀ (s : State),
    exec (.vauxInputFault false) s = .next (((s.evt Reg.PWR.EVENT.AUX_LOST).wr Reg.PWR.SUPPLY.AUX_A_OK 0).auxTo true) ∧
      exec (.vauxInputFault true) s = .next ((s.evt Reg.PWR.EVENT.AUX_LOST).wr Reg.PWR.SUPPLY.AUX_B_OK 0) ∧
      exec (.vauxReturnQualified true) s = .next (s.wr Reg.PWR.SUPPLY.AUX_B_OK 1) ∧
      exec (.vauxReturnQualified false) s = .next (let s1 := s.wr Reg.PWR.SUPPLY.AUX_A_OK 1
        if s1.isSet Reg.PWR.SUPPLY.AUX_B_OK then s1.auxTo false else s1)) ∧
  -- PWR_FORCE_B_WRITE
  (∀ (s : State),
    exec (.pwrForceBWrite true) s = .next (let s1 := s.wr Reg.PWR.CFG.FORCE_B 1
        if s1.isSet Reg.PWR.SUPPLY.B_OK then s1.pathTo true else s1) ∧
      exec (.pwrForceBWrite false) s = .next (let s1 := s.wr Reg.PWR.CFG.FORCE_B 0
        if s1.isSet Reg.PWR.SUPPLY.A_OK then s1.pathTo false else s1)) ∧
  -- SUPPLY_FAULT of each cause; during Eclosion the attempt has failed
  (∀ (mc : Nat) (s : State),
    (let f := fun (t : State) (c : Nat) => (if t.mode = 1 then t.countFail 6 else t).supplyStop c mc .supply;
      exec (.supplyFault 1 mc) s = .next (f s 1) ∧ exec (.supplyFault 2 mc) s = .next (f (s.wr Reg.PWR.SUPPLY.VLANE_OK 0) 2) ∧
      exec (.supplyFault 3 mc) s = .next (f (s.wr Reg.PWR.SUPPLY.VLANE_HV_OK 0) 3) ∧
      (mc < s.nMcs → exec (.supplyFault 4 mc) s = .next (f (s.wr Reg.PWR.SUPPLY.VDDQ_OK (clrBit (s.rd Reg.PWR.SUPPLY.VDDQ_OK) mc)) 4)))) ∧
  -- What a supply fault records and leaves
  (∀ (cause mc : Nat) (h : Hold) (s : State),
    1 ≤ cause ∧ cause ≤ 5 →
    mc < 16 →
    s.supplyStop cause mc h = (((((s.wr Reg.PWR.LAST_FAULT.CAUSE cause).wr Reg.PWR.LAST_FAULT.MC (if cause = 4 then mc else 0)).wr
      Reg.PWR.LAST_FAULT.TICK_LO s.now).wr Reg.FAULT.STATUS.FAULT_N 1).goSilent cause).holdReset h ∧
      (s.supplyStop cause mc h).pwr.hold = h) ∧
  -- SUPPLY_RECOVERY, VIO_FAULT
  (∀ (s : State),
    s.pwr.hold = .supply →
    exec .supplyRecovery s = .next { ((s.wr Reg.PWR.SUPPLY.VLANE_OK 1).wr Reg.PWR.SUPPLY.VLANE_HV_OK 1).wr Reg.PWR.SUPPLY.VDDQ_OK (2 ^ s.nMcs - 1) with
        pwr := { s.pwr with hold := .none } } ∧
      exec .vioFault s = .next ((s.wr Reg.PWR.SUPPLY.VIO_OK 0).evt Reg.PWR.EVENT.VIO_FAULT)) ∧
  -- VAUX_LOSS
  (∀ (s : State),
    exec .vauxLoss s = .next { pending := s.pending, ident := s.ident, hostMem := s.hostMem, out := s.out, freed := s.freed, boot := { flash := s.boot.flash }, pwr := { hold := .off } }) ∧
  -- SUPPLY_STATUS
  (∀ (h : Hdr) (p : List Byte) (va vb ia ib : Nat) (s t : State),
    s.takes 0x0206 h = true →
    t = s.stamped h →
    noParams p = false →
    va = t.rd Reg.PWR.VIN.VIN_A →
    vb = t.rd Reg.PWR.VIN.VIN_B →
    ia = t.rd Reg.PWR.IIN.IIN_A →
    ib = t.rd Reg.PWR.IIN.IIN_B →
    exec (.supplyStatus h p) s = .next (t.answer h Sts.ok 0 (toLe 2 va ++ toLe 2 vb ++ toLe 2 ia ++ toLe 2 ib ++
      [BitVec.ofNat 8 (t.rd Reg.PWR.SUPPLY.SEL), BitVec.ofNat 8 (t.reg Reg.PWR.SUPPLY).toNat, BitVec.ofNat 8 (t.rd Reg.THERM.STATUS.MAX),
        BitVec.ofNat 8 (t.rd Reg.THERM.STATUS.MAX_SENSOR + 16 * t.rd Reg.THERM.STATUS.ALARM + 32 * t.rd Reg.THERM.STATUS.DEGRADED)] ++
      toLe 2 ((va * ia + vb * ib) / 1000))))

/-- DOMAIN_POWER, DOMAIN_SEQUENCE_START, DOMAIN_SEQUENCE_DONE, OPPOINT_SET, OPPOINT_RAISE_START, OPPOINT_SWITCH and OPPOINT_VOLTAGE_REACHED: what each does (15_power_and_clocks.md, Power domains, 15_power_and_clocks.md, Operating points, 15_power_and_clocks.md, Commands). -/
def Obligations.DomainsAndPoints : Prop :=
  -- DOMAIN_POWER of a domain in the named state
  (∀ (h : Hdr) (p : List Byte) (d : Nat) (s t : State),
    s.takes 0x0204 h = true →
    t = s.stamped h →
    d = u8 p 0 →
    2 ≤ d ∧ d ≤ 29 →
    domOffers d (u8 p 1) = true →
    zeroAt p 2 6 = true →
    zeroFrom p 16 = true →
    t.domPresent d = true →
    t.pwr.seqs = [] →
    t.dom d = u8 p 1 →
    exec (.domainPower h p) s = .next (t.answer h Sts.ok (effTick (u64 p 8) (t.now + 1)).1 [0])) ∧
  -- DOMAIN_POWER of a domain that is to change, every refusal of R458 to R460 and R477 ruled out
  (∀ (h : Hdr) (p : List Byte) (d st : Nat) (eff : Nat × Nat) (bef : List Nat) (s t : State),
    s.takes 0x0204 h = true →
    t = s.stamped h →
    d = u8 p 0 ∧ st = u8 p 1 →
    2 ≤ d ∧ d ≤ 29 →
    domOffers d st = true →
    zeroAt p 2 6 = true →
    zeroFrom p 16 = true →
    t.domPresent d = true →
    t.pwr.seqs.any (fun q => !q.running && q.dom == d) = false →
    t.domFinal d ≠ st →
    eff = effTick (u64 p 8) (t.now + 1) →
    bef = t.domAfter eff.1 →
    st < 2 ∨ (domNeeds d).any (fun n => stAt bef n != 3) = false →
    t.behindOk eff.1 (setAt bef d st) = true →
    stAt bef d ≠ 3 ∨ st = 3 ∨ ((List.range 30).any (fun x => (domNeeds x).contains d && decide (2 ≤ stAt bef x)) = false ∧ t.domHeldBad d = false ∧ t.domBreaks d = false) →
    st ≤ stAt bef d ∨ (State.raiseFits { t with pwr := { t.pwr with seqs := t.pwr.seqs ++ [{ dom := d, st := st, tick := eff.1, running := true }] } }) = true →
    exec (.domainPower h p) s = .next
      ((State.showSeqs { t with pwr := { t.pwr with seqs := insertSeq { dom := d, st := st, tick := eff.1 } t.pwr.seqs } }).answer h
        (if eff.2 = Sts.ok ∧ t.pwr.seqs.any (fun q => q.running && q.dom == d) = true then Sts.deferred else eff.2) eff.1
        [BitVec.ofNat 8 (t.pwr.seqs.countP (fun q => q.running || decide (q.tick ≤ eff.1)))])) ∧
  -- A sequence is queued behind those of its own tick and of earlier ones
  (∀ (q : DomSeq) (a b : List DomSeq),
    (∀ x ∈ a, x.running = true ∨ x.tick ≤ q.tick) →
    (∀ x ∈ b, x.running = false ∧ q.tick < x.tick) →
    insertSeq q (a ++ b) = a ++ q :: b) ∧
  -- DOMAIN_SEQUENCE_START, DOMAIN_SEQUENCE_DONE
  (∀ (q : DomSeq) (qs : List DomSeq) (s s1 : State),
    s.pwr.seqs = q :: qs →
    q.running = false →
    q.tick ≤ s.now →
    s1 = { s with pwr := { s.pwr with seqs := { q with running := true } :: qs } } →
    exec .domainSequenceStart s = .next ((State.fabState (if s.domOn q.dom = true ∧ q.st ≠ 3 then (s1.domOrphans q.dom).domQuiet q.dom else s1) q.dom 3).showSeqs)) ∧
  (∀ (q : DomSeq) (qs : List DomSeq) (s : State),
    s.pwr.seqs = q :: qs →
    q.running = true →
    s.dom q.dom ≠ 3 ∨ q.st = 3 ∨ s.domIdle q.dom = true →
    q.st ≤ 3 →
    exec .domainSequenceDone s = .next ((State.showSeqs { s.domArrive q.dom q.st with
      pwr := { (s.domArrive q.dom q.st).pwr with seqs := qs, ending := (if q.st < s.dom q.dom then (s.domArrive q.dom q.st).pwr.ending ++ [q.dom] else (s.domArrive q.dom q.st).pwr.ending) } }).evt
        Reg.PWR.EVENT.DOMAIN_DONE)) ∧
  (∀ (q : DomSeq) (qs : List DomSeq) (s : State),
    s.pwr.seqs = q :: qs →
    s.dom q.dom = 3 →
    q.st < 3 →
    s.domIdle q.dom = false →
    exec .domainSequenceDone s = .next s) ∧
  -- The state a domain arrives in, where it loses nothing
  (∀ (d st : Nat) (s : State),
    s.dom d ≤ st →
    st ≤ 3 →
    d < 30 →
    d ≠ 4 →
    s.domPresent d = true →
    (s.domArrive d st).dom d = st) ∧
  -- OPPOINT_SET of one cluster or of all that are ON, every refusal of R478 ruled out
  (∀ (h : Hdr) (p : List Byte) (c pt : Nat) (cs : List Nat) (s t : State),
    s.takes 0x0205 h = true →
    t = s.stamped h →
    c = u8 p 0 ∧ pt = u8 p 1 →
    cs = (if c = 0xFF then t.clustersOn else [c]) →
    c = 0xFF ∨ (c < 8 ∧ c < t.nClusters ∧ t.domOn (5 + c) = true) →
    pt ≤ 3 →
    zeroAt p 2 6 = true →
    zeroFrom p 16 = true →
    pt ≤ 1 ∨ (t.posture ≠ 2 ∧ t.coolPending = false) →
    cs.any (fun k => t.isSet (Reg.PWR.CLU.PEND k)) = false →
    cs.any (fun k => decide (pt < t.rd (Reg.PWR.CLU.OP k))) = false ∨ t.fits { t.envNow with op := fun k => if cs.contains k then min (t.envNow.op k) pt else t.envNow.op k } ((t.chargesOf t.live).filter (fun x => x.res != 11)) = true →
    cs.any (fun k => decide (t.rd (Reg.PWR.CLU.OP k) < pt)) = false ∨ (t.isSet Reg.LEDGER.STATUS.THERM_BLOCK = false ∧ t.maintPower { t.envNow with op := fun k => if cs.contains k then max (t.envNow.op k) pt else t.envNow.op k } ≤ t.envNow.cap ∧ t.fits { t.envNow with op := fun k => if cs.contains k then max (t.envNow.op k) pt else t.envNow.op k } ((t.chargesOf t.live).filter (fun x => x.res == 11)) = true) →
    exec (.oppointSet h p) s = .next (let eff := effTick (u64 p 8) (t.now + 2)
      let s1 := cs.foldl (fun x k => ((x.wr (Reg.PWR.CLU.TARGET k) pt).wr (Reg.PWR.CLU.PEND k) 1).wr (Reg.CLU.STATUS.OP_PEND k) 1) t
      State.answer { s1 with pwr := { s1.pwr with ops := s1.pwr.ops ++ cs.map (fun k => (k, eff.1)) } } h eff.2 eff.1 [])) ∧
  -- OPPOINT_RAISE_START, OPPOINT_SWITCH, OPPOINT_VOLTAGE_REACHED
  (∀ (c t : Nat) (s : State),
    s.pwr.ops = [(c, t)] →
    s.now + 1 = t →
    s.rd (Reg.PWR.CLU.OP c) < s.rd (Reg.PWR.CLU.TARGET c) →
    exec .oppointRaiseStart s = .next (s.wr (Reg.PWR.CLU.SLEWING c) 1)) ∧
  (∀ (c t : Nat) (s : State),
    s.pwr.ops = [(c, t)] →
    t ≤ s.now →
    exec .oppointSwitch s = .next (State.opApply { s with pwr := { s.pwr with ops := [] } } c)) ∧
  -- A raise applied, a lowering applied
  (∀ (c : Nat) (s : State),
    c < 8 →
    (s.rd (Reg.PWR.CLU.OP c) ≤ s.rd (Reg.PWR.CLU.TARGET c) → s.opApply c =
        (((((s.opSwitch c (s.rd (Reg.PWR.CLU.TARGET c))).wr (Reg.PWR.CLU.PEND c) 0).wr (Reg.CLU.STATUS.OP_PEND c) 0)).wr (Reg.PWR.CLU.SLEWING c) 0).evt
          Reg.PWR.EVENT.OP_DONE) ∧
      (s.rd (Reg.PWR.CLU.TARGET c) < s.rd (Reg.PWR.CLU.OP c) → (s.opApply c).isSet (Reg.PWR.CLU.SLEWING c) = true)) ∧
  (∀ (c mv : Nat) (s : State),
    c < s.nClusters →
    s.isSet (Reg.PWR.CLU.SLEWING c) = true →
    exec (.oppointVoltageReached c mv) s = .next (let s1 := (s.wr (Reg.PWR.CLU.SLEWING c) 0).wr (Reg.PWR.CLU.VOLT c) mv
      if s.pwr.fall.any (fun x => x.1 == c) then s1.evt Reg.PWR.EVENT.OP_DONE else s1))

/-- The losses of MCLK and the return to it, Eyespot gates, measurements and status, and the sensors, thermal trip and recovery: what each row does (15_power_and_clocks.md, Clocks, 15_power_and_clocks.md, Eyespot counters, 15_power_and_clocks.md, Temperature, 15_power_and_clocks.md, Commands). -/
def Obligations.ClocksAndTemperature : Prop :=
  -- CLOCK_LOSS_RC_RUNNING, CLOCK_LOSS_RC_STOPPED
  (∀ (cause : Nat) (forced : Bool) (s : State),
    s.rd Reg.CLK.STATUS.SRC = 0 →
    s.isSet Reg.CLK.STATUS.RC_RUN = true →
    exec (.clockLossRcRunning cause forced) s =
      .next ((((s.wr Reg.CLK.LOSS.CAUSE cause).wr Reg.CLK.LOSS.NOT_READY 0).wr Reg.CLK.LOSS.GAP 0).runOnRc forced)) ∧
  (∀ (cause : Nat) (s : State),
    s.rd Reg.CLK.STATUS.SRC = 0 →
    s.isSet Reg.CLK.STATUS.RC_RUN = false →
    exec (.clockLossRcStopped cause) s = .next (((((s.wr Reg.CLK.STATUS.SRC 2).wr Reg.CLK.STATUS.MCLK_GOOD 0).wr Reg.CLK.STATUS.RC_RUN 1).wr
      Reg.CLK.LOSS.CAUSE cause).dropTwinOk.emit .txIdle)) ∧
  -- CLOCK_GAP_RESUME
  (∀ (gap : Nat) (forced : Bool) (s : State),
    s.rd Reg.CLK.STATUS.SRC = 2 →
    exec (.clockGapResume gap forced) s =
      .next ((((s.wr Reg.CLK.STATUS.RC_READY 1).wr Reg.CLK.LOSS.NOT_READY 1).wr Reg.CLK.LOSS.GAP (min gap 0xFFFF)).runOnRc forced)) ∧
  -- MCLK_RETURN with no port or link lane, CLK_RETURN_REQ_WRITE
  (∀ (s s1 : State),
    s.rd Reg.CLK.STATUS.SRC = 1 →
    s.isSet Reg.CLK.CFG.AUTO_RETURN = true ∨ s.isSet Reg.CLK.CFG.RETURN_REQ = true →
    s1 = (((s.wr Reg.CLK.STATUS.SRC 0).wr Reg.CLK.STATUS.MCLK_GOOD 1).wr Reg.CLK.CFG.RETURN_REQ 0).evt Reg.CLK.EVENT.CLOCK_RETURN →
    s1.mclkLanes = [] →
    exec (.mclkReturn false) s = .next (State.refAvailable (State.rcFollows { s1 with twin := { s1.twin with ok := decide (3 ≤ s1.mode) } })) ∧
      exec .clkReturnReqWrite s = .next (s.wr Reg.CLK.CFG.RETURN_REQ 1)) ∧
  -- EYE_GATE_START, EYE_GATE_END
  (∀ (k : Nat) (s : State),
    k < 16 →
    s.domOn 1 = true →
    s.isSet (Reg.CLK.EYE_CFG.BUSY k) = false →
    exec (.eyeGateStart k) s = .next ((s.wr (Reg.CLK.EYE_CFG.BUSY k) 1).wr (Reg.CLK.EYE_CFG.OVF k) 0)) ∧
  (∀ (k count : Nat) (s s1 : State),
    k < 16 →
    s.isSet (Reg.CLK.EYE_CFG.BUSY k) = true →
    s1 = (((s.wr (Reg.CLK.EYE_CFG.BUSY k) 0).flag (Reg.CLK.EYE_CFG.OVF k) (decide (0xFFFFFFFF < count))).wr (Reg.CLK.EYE_COUNT.COUNT k) (min count 0xFFFFFFFF)).evt Reg.CLK.EVENT.EYE_DONE →
    (s.pwr.meas = [] → exec (.eyeGateEnd k count) s = .next s1) ∧
      ∀ h, s.pwr.meas = [⟨k, h⟩] → exec (.eyeGateEnd k count) s = .next (State.answer { s1 with pwr := { s1.pwr with meas := [] } } h Sts.ok 0
        (toLe 4 (min count 0xFFFFFFFF) ++ [BitVec.ofNat 8 k, if 0xFFFFFFFF < count then 1 else 0]))) ∧
  -- CLOCK_MEASURE with the counter named, or the first one free
  (∀ (h : Hdr) (p : List Byte) (k : Nat) (s t : State),
    s.takes 0x0207 h = true →
    t = s.stamped h →
    k = (if u8 p 2 = 0xFF then ((List.range 16).filter (fun i => !t.isSet (Reg.CLK.EYE_CFG.BUSY i))).getD 0 16 else u8 p 2) →
    k < 16 →
    t.isSet (Reg.CLK.EYE_CFG.BUSY k) = false →
    (t.clockSrc (u8 p 0)).any (fun x => x.1 && t.domOn x.2) = true →
    (t.clockSrc (u8 p 1)).any (fun x => x.1 && t.domOn x.2) = true →
    u8 p 0 ≠ 0x7F →
    u8 p 3 = 0 →
    u32 p 4 ≠ 0 →
    t.gateLong (u8 p 1) (u32 p 4) = false →
    zeroFrom p 8 = true →
    exec (.clockMeasure h p) s = .next
      (let s1 := ((((t.wr (Reg.CLK.EYE_CFG.TARGET k) (u8 p 0)).wr (Reg.CLK.EYE_CFG.REF k) (u8 p 1)).wr (Reg.CLK.EYE_GATE.GATE k) (u32 p 4)).wr
         (Reg.CLK.EYE_CFG.BUSY k) 1).wr (Reg.CLK.EYE_CFG.OVF k) 0
       { s1 with pwr := { s1.pwr with meas := s1.pwr.meas ++ [⟨k, h⟩] } })) ∧
  -- CLOCK_STATUS, its offset a measured value while LOCKED and 0 otherwise
  (∀ (h : Hdr) (p : List Byte) (s t : State),
    s.takes 0x0208 h = true →
    t = s.stamped h →
    noParams p = false →
    exec (.clockStatus h p) s = .next ((if t.lock = 2 then t.drew else t).answer h Sts.ok 0 ([BitVec.ofNat 8 (t.rd Reg.CLK.STATUS.SRC),
      BitVec.ofNat 8 (t.rd Reg.CLK.STATUS.MCLK_GOOD + 2 * t.rd Reg.CLK.STATUS.RC_RUN + 4 * t.rd Reg.CLK.STATUS.RC_READY + 8 * t.rd Reg.CLK.EVENT.FORCED),
      BitVec.ofNat 8 (t.rd Reg.CLK.LOSS.CAUSE + 128 * t.rd Reg.CLK.LOSS.NOT_READY), 0] ++ toLe 2 (t.rd Reg.CLK.LOSS.GAP) ++ toLe 2 0 ++
        toLe 4 (if t.lock = 2 then t.free else 0)))) ∧
  -- SENSOR_SAMPLE; one sensor
  (∀ (l : List (Option Int)) (s : State),
    exec (.sensorSample l []) s = .next (State.thermal (((List.range 16).filter s.sensorPresent).foldl (fun t i => t.sensor i (l.getD i none)) s)) ∧
      ∀ va vb ia ib, exec (.sensorSample l [va, vb, ia, ib]) s = .next (State.thermal
        ((((((((List.range 16).filter s.sensorPresent).foldl (fun t i => t.sensor i (l.getD i none)) s).wr Reg.PWR.VIN.VIN_A va).wr Reg.PWR.VIN.VIN_B vb).wr
          Reg.PWR.IIN.IIN_A ia).wr Reg.PWR.IIN.IIN_B ib)))) ∧
  (∀ (i : Nat) (x : Int) (s : State),
    i < 16 →
    -40 ≤ x ∧ x ≤ 125 →
    signed 8 ((s.sensor i (some x)).rd (Reg.THERM.SENSOR.TEMP i)) = x ∧ (s.sensor i (some x)).isSet (Reg.THERM.SENSOR.VALID i) = true ∧
      signed 8 ((s.sensor i (some x)).rd (Reg.THERM.SENSOR.PEAK i)) = (if bit s.pwr.peaks i then max (signed 8 (s.rd (Reg.THERM.SENSOR.PEAK i))) x else x) ∧
      bit (s.sensor i (some x)).pwr.peaks i = true ∧
      SMap.get (fun _ => 0) (s.sensor i (some x)).pwr.hot i = (if 120 ≤ x then SMap.get (fun _ => 0) s.pwr.hot i + 1 else 0) ∧
      (s.sensor i none).isSet (Reg.THERM.SENSOR.VALID i) = false) ∧
  -- The alarm starts at 105 °C, or with two sensors failed, and blocks activation
  (∀ (s : State),
    (∃ i < 16, s.sensorPresent i = true ∧ s.isSet (Reg.THERM.SENSOR.VALID i) = true ∧ 105 ≤ signed 8 (s.rd (Reg.THERM.SENSOR.TEMP i))) →
    s.thermal.isSet Reg.THERM.STATUS.ALARM = true ∧ s.thermal.isSet Reg.LEDGER.STATUS.THERM_BLOCK = true ∧ (s.isSet Reg.THERM.STATUS.ALARM = false → s.thermal.isSet Reg.PWR.EVENT.THERM_ALARM = true)) ∧
  -- THERMAL_TRIP, THERMAL_RECOVERY
  (∀ (sensor : Nat) (s : State),
    s.sensorPresent sensor = true →
    2 ≤ SMap.get (fun _ => 0) s.pwr.hot sensor →
    s.pwr.hold ≠ .thermal →
    exec (.thermalTrip sensor) s = .next (((s.faultRecord 0x21 sensor 0 0 false).countIfUnconfirmed 0x0F).supplyStop 5 0 .thermal)) ∧
  (∀ (s : State),
    s.pwr.hold = .thermal →
    (∀ i < 16, s.sensorPresent i = true → s.isSet (Reg.THERM.SENSOR.VALID i) = true ∧ signed 8 (s.rd (Reg.THERM.SENSOR.TEMP i)) < 95) →
    exec .thermalRecovery s = .next { s with pwr := { s.pwr with hold := .none } }) ∧
  (∀ (i : Nat) (s : State),
    s.sensorPresent i = true →
    s.isSet (Reg.THERM.SENSOR.VALID i) = true →
    95 ≤ signed 8 (s.rd (Reg.THERM.SENSOR.TEMP i)) →
    exec .thermalRecovery s = .next s)

/-- DEV_QUERY, DEV_CAPS, MODE_SET, MODE_GET, MODE_CHANGE, DIAP_WAKE_PIN, WAKE_TICK_EXPIRY and DIAPAUSE_WAKE: what each does (00_scope.md, Family and variants, 03_commands.md, DEV_QUERY and DEV_CAPS, 16_modes_and_start.md, Modes and transitions, 16_modes_and_start.md, Diapause, 16_modes_and_start.md, Commands). -/
def Obligations.QueriesAndModes : Prop :=
  -- DEV_QUERY, DEV_CAPS
  (∀ (h : Hdr) (p : List Byte) (s t : State),
    s.takes 0x0101 h = true →
    t = s.stamped h →
    noParams p = false →
    exec (.devQuery h p) s = .next (t.answer h Sts.ok 0 ([BitVec.ofNat 8 t.mode, BitVec.ofNat 8 t.lock, BitVec.ofNat 8 t.posture,
      BitVec.ofNat 8 (t.rd Reg.CMD.STATUS.FW_READY + 2 * t.rd Reg.CMD.STATUS.CORE_UP + (if t.paired then 32 else 0) +
        64 * t.rd Reg.FAULT.STATUS.FAULT_N + 128 * t.rd Reg.THERM.STATUS.ALARM)] ++ toLe 2 t.live.length ++ toLe 2 (t.inSt (fun c => c == .active)).length ++
      toLe 4 (t.rd Reg.LEDGER.MISS.DEADLINE_MISS) ++ toLe 4 t.now))) ∧
  (∀ (h : Hdr) (p : List Byte) (s t : State),
    s.takes 0x0102 h = true →
    t = s.stamped h →
    noParams p = false →
    exec (.devCaps h p) s = .next (t.answer h Sts.ok 0 (toLe 4 t.capsId ++ toLe 4 t.capsUnits ++ toLe 4 t.capsLanes ++ toLe 2 t.meshId ++
      [BitVec.ofNat 8 (t.rd Reg.CMD.STATUS.PATCH_LEVEL), if t.ident.profile = 0x56 then 0x11 else 0x20]))) ∧
  -- MODE_SET: another mode, the present mode, while one is pending, not in the table
  (∀ (h : Hdr) (p : List Byte) (m eff : Nat) (s t : State),
    s.takes 0x0201 h = true →
    t = s.stamped h →
    m = u8 p 0 →
    m = 0 ∨ (3 ≤ m ∧ m ≤ 5) →
    t.boot.pend = none →
    m ≠ t.mode →
    t.modeAllowed m = true →
    t.modeFree m = true →
    zeroAt p 1 7 = true →
    zeroFrom p 16 = true →
    u64 p 8 = 0 ∨ (m = 0 ∧ t.now < u64 p 8) →
    eff = t.now + (if t.slot + 1 < t.slots then 1 else 2) →
    exec (.modeSet h p) s = .next (State.answer { (t.wr Reg.MODE.STATUS.PEND 1).wr Reg.MODE.STATUS.TARGET m with
      boot := { t.boot with pend := some (eff, m), wakeTick := u64 p 8 } } h Sts.ok eff [])) ∧
  -- A change pending; a mode that may not be entered now; the present mode
  (∀ (h : Hdr) (p : List Byte) (s t : State),
    s.takes 0x0201 h = true →
    t = s.stamped h →
    t.boot.pend.isSome = true →
    exec (.modeSet h p) s = .next (t.answer h Sts.busy 0 [])) ∧
  (∀ (h : Hdr) (p : List Byte) (m : Nat) (s t : State),
    s.takes 0x0201 h = true →
    t = s.stamped h →
    m = u8 p 0 →
    m = 0 ∨ (3 ≤ m ∧ m ≤ 5) →
    t.boot.pend = none →
    m ≠ t.mode →
    t.modeAllowed m = false →
    exec (.modeSet h p) s = .next (t.answer h Sts.modeRefused 0 [])) ∧
  (∀ (h : Hdr) (p : List Byte) (m : Nat) (s t : State),
    s.takes 0x0201 h = true →
    t = s.stamped h →
    m = u8 p 0 →
    3 ≤ m ∧ m ≤ 5 →
    t.boot.pend = none →
    m = t.mode →
    zeroFrom p 1 = true →
    exec (.modeSet h p) s = .next (t.answer h Sts.ok 0 [])) ∧
  -- MODE_GET
  (∀ (h : Hdr) (p : List Byte) (s t : State),
    s.takes 0x0202 h = true →
    t = s.stamped h →
    noParams p = false →
    exec (.modeGet h p) s = .next (t.answer h Sts.ok 0 ([BitVec.ofNat 8 t.mode, BitVec.ofNat 8 (t.boot.pend.elim 0xFF Prod.snd),
      BitVec.ofNat 8 (t.rd Reg.MODE.STATUS.ECL_STEP), BitVec.ofNat 8 (t.rd Reg.MODE.STATUS.CONFIRMED + 2 * t.rd Reg.MODE.STATUS.WAIT_IMAGE)] ++
      toLe 8 t.boot.changed))) ∧
  -- The transitions that are allowed while LOCKED: Roost and Flight, Roost and Molt, Roost to Diapause
  (∀ (s : State) (m : Nat),
    s.lock = 2 →
    s.modeAllowed m = true ↔ (s.mode, m) ∈ [(3, 4), (4, 3), (3, 5), (5, 3), (3, 0)]) ∧
  -- MODE_CHANGE to Roost, Flight or Molt, and where a condition fails
  (∀ (t m : Nat) (s s1 : State),
    s.boot.pend = some (t, m) →
    t ≤ s.now →
    s1 = { (s.wr Reg.MODE.STATUS.PEND 0).wr Reg.MODE.STATUS.TARGET 0 with boot := { s.boot with pend := none } } →
    (m ≠ 0 → s.modeAllowed m = true → s.modeFree m = true → exec .modeChange s = .next (s1.setMode m).rcFollows) ∧
      (s.modeAllowed 0 = true → s.modeFree 0 = true → m = 0 → exec .modeChange s = .next (s1.enterDiapause.setMode 0).rcFollows) ∧
      (s.modeAllowed m = false ∨ s.modeFree m = false → exec .modeChange s = .next (s1.evt Reg.MODE.EVENT.MODE_FAIL))) ∧
  -- DIAP_WAKE_PIN, WAKE_TICK_EXPIRY in Diapause
  (∀ (s : State),
    s.mode = 0 →
    exec .diapWakePin s = .next { s with boot := { s.boot with wake := true } } ∧
      (s.boot.wakeTick ≠ 0 → s.boot.wakeTick ≤ s.now → exec .wakeTickExpiry s = .next { s with boot := { s.boot with wakeTick := 0, wake := true } })) ∧
  -- DIAPAUSE_WAKE: every domain back to the state it held, and the mode it leads to
  (∀ (s : State),
    s.mode = 0 →
    s.boot.wake = true →
    ∃ u : State, exec .diapauseWake s = .next (if u.lock = 2 then u.enterRoost else ((u.setMode 1).wr Reg.MODE.STATUS.ECL_STEP 12).refAvailable) ∧
      u.isSet Reg.MODE.EVENT.WAKE = true ∧ u.boot.wake = false ∧ u.boot.wakeTick = 0)

/-- Cold start, Eclosion and its ends, confirmation, resets and the boot record: what each row does (10_dram.md, Start-up, shut-down and reset, 11_integrity.md, Uncorrectable errors, 11_integrity.md, What survives a warm reset, 16_modes_and_start.md, Eclosion, 16_modes_and_start.md, Attempts, slots and confirmation, 16_modes_and_start.md, Cocoon, 16_modes_and_start.md, Registers, 16_modes_and_start.md, Commands). -/
def Obligations.StartUp : Prop :=
  -- COLD_START
  (∀ (b m o : Nat) (s : State),
    s.pwr.hold = .off →
    b < 4 →
    m < 2 →
    o < 8 →
    ∃ t : State, exec (.coldStart b m o) s = .next t ∧ t.pwr.hold = .none ∧ t.straps = ⟨b, m, o⟩ ∧ t.rd Reg.MODE.STATUS.BOOT_SRC = b ∧
      t.isSet Reg.PWR.SUPPLY.A_OK = true ∧ t.isSet Reg.PWR.SUPPLY.VIO_OK = true) ∧
  -- ECLOSION_START: fuses; MCLK; ROM; and steps 1 to 6 with a delivered image
  (∀ (e : EclEnv) (s s1 s2 : State),
    s.mode = 1 →
    s.rd Reg.MODE.STATUS.ECL_STEP = 1 →
    s.pwr.hold = .none →
    s.attempts ≠ 3 →
    s1 = (s.wr Reg.CLK.STATUS.RC_RUN 1).wr Reg.CLK.STATUS.RC_READY 1 →
    s2 = (s1.flag Reg.CLK.STATUS.MCLK_GOOD e.mclkOk).wr Reg.CLK.STATUS.SRC (if e.mclkOk then 0 else 1) →
    (e.fuseOk = false → exec (.eclosionStart e) s = .next (s1.attemptFail 0x08)) ∧
      (e.fuseOk = true → e.mclkOk = false → exec (.eclosionStart e) s = .next (s2.attemptFail 0x07)) ∧
      (e.fuseOk = true → e.mclkOk = true → e.romOk = false →
        exec (.eclosionStart e) s = .next (((s2.setDom 1 3).wr Reg.MODE.STATUS.ECL_STEP 4).attemptFail 0x04)) ∧
      (e.fuseOk = true → e.mclkOk = true → e.romOk = true → s.straps.bootSrc = 1 → exec (.eclosionStart e) s = .next
        (((((((((s2.setDom 1 3).wr Reg.MODE.STATUS.ECL_STEP 4).wr Reg.CMD.STATUS.CORE_UP 0xF).wr Reg.MODE.STATUS.ECL_STEP 5).fwReady).setDom 4 3).startMcs
          false).wr Reg.MODE.STATUS.ECL_STEP 6)))) ∧
  -- A failed attempt
  (∀ (code : Nat) (s : State),
    code < 32 →
    s.boot.logged = false →
    s.boot.firstBad = false →
    s.attempts ≤ 3 →
    (s.countFail code).attempts = min 3 (s.attempts + 1) ∧ (s.countFail code).rd Reg.BOOT.RECORD.REASON1 = code ∧
      (s.countFail code).rd Reg.BOOT.RECORD.REASON2 = s.rd Reg.BOOT.RECORD.REASON1 ∧ (s.countFail code).isSet Reg.MODE.EVENT.ATTEMPT_FAIL = true ∧
      s.attemptFail code = (if 2 ≤ s.attempts ∧ s.mode = 1 ∧ s.rd Reg.MODE.STATUS.ECL_STEP ≤ 8 then (s.countFail code).enterCocoon (code = 9) else (s.countFail code).warmReset)) ∧
  -- DRAM_INIT_DONE: a channel fails; all are good with a source other than flash
  (∀ (l : List DimmCh) (m c : Nat) (s : State),
    s.domOn 4 = true →
    s.mcState 0 = 1 →
    s.mode = 1 →
    s.rd Reg.MODE.STATUS.ECL_STEP = 6 →
    (List.range s.nMcs).find? (fun m => (dimmFail (dimmOf l m) (dimmOf l 0)).isSome) = some m →
    dimmFail (dimmOf l m) (dimmOf l 0) = some c →
    0 < s.nMcs →
    exec (.dramInitDone l) s = .next (((s.wr (Reg.MC.STATUS.FAIL_CODE m) c).evt (Reg.MC.EVENT.TRAIN_FAIL m)).attemptFail 0x09)) ∧
  (∀ (l : List DimmCh) (s : State),
    s.domOn 4 = true →
    s.mcState 0 = 1 →
    s.mode = 1 →
    s.rd Reg.MODE.STATUS.ECL_STEP = 6 →
    (List.range s.nMcs).find? (fun m => (dimmFail (dimmOf l m) (dimmOf l 0)).isSome) = none →
    0 < s.nMcs →
    s.straps.bootSrc = 1 →
    exec (.dramInitDone l) s = .next (((((List.range s.nMcs).foldl (fun t m => t.mcReady (dimmOf l m) m
      ((List.range s.nMcs).foldl (fun v m => min v (dimmTop (dimmOf l m))) 3)) s).linesReady.wr Reg.MODE.STATUS.ECL_STEP 7).wr Reg.MODE.STATUS.WAIT_IMAGE 1))) ∧
  -- ROOST_ENTRY_ON_LOCK of a start that is recorded already
  (∀ (s : State),
    s.mode = 1 →
    s.rd Reg.MODE.STATUS.ECL_STEP = 12 →
    s.lock = 2 →
    s.boot.logged = true →
    exec .roostEntryOnLock s = .next s.enterRoost.autoRejoin ∧ s.enterRoost.autoRejoin.mode = 3 ∧ s.enterRoost.autoRejoin.rd Reg.MODE.STATUS.ECL_STEP = 0 ∧
      (s.isSet Reg.TWIN.CFG.AUTO_REJOIN = false → s.enterRoost.autoRejoin = s.enterRoost) ∧
      (s.isSet Reg.TWIN.CFG.AUTO_REJOIN = true → s.rd Reg.TWIN.CFG.ROLE ≠ 0 → s.twinState = 0 →
        s.enterRoost.autoRejoin.twinState = 1 ∧ s.enterRoost.autoRejoin.isSet Reg.TWIN.STATUS.MUTED = true ∧ s.enterRoost.autoRejoin.twin.carrier = false)) ∧
  -- ECLOSION_WATCHDOG_EXPIRY, ECLOSION_ATTEMPT_FAIL
  (∀ (code : Nat) (s : State),
    s.mode = 1 →
    4 ≤ s.rd Reg.MODE.STATUS.ECL_STEP →
    s.rd Reg.MODE.STATUS.ECL_STEP ≤ 6 →
    s.pwr.hold = .none →
    1 ≤ code ∧ code ≤ 16 →
    exec .eclosionWatchdogExpiry s = .next (s.attemptFail 5) ∧ exec (.eclosionAttemptFail code) s = .next (s.attemptFail code)) ∧
  -- BOOT_CONFIRM; what it leaves
  (∀ (h : Hdr) (p : List Byte) (s t : State),
    s.takes 0x0E02 h = true →
    t = s.stamped h →
    t.mode = 3 ∨ t.mode = 4 →
    noParams p = false →
    t.isSet Reg.MODE.STATUS.CONFIRMED = false →
    exec (.bootConfirm h p) s = .next (t.confirm.answer h Sts.ok 0 [])) ∧
  (∀ (s : State),
    s.sec.policy = [] →
    s.rd Reg.MODE.STATUS.RUN_SLOT = 2 →
    s.confirm.attempts = 0 ∧ s.confirm.isSet Reg.MODE.STATUS.CONFIRMED = true ∧ s.confirm.isSet Reg.MODE.EVENT.CONFIRMED = true) ∧
  -- BOOT_ABORT_WRITE
  (∀ (s : State),
    s.isSet Reg.MODE.STATUS.CONFIRMED = false →
    s.mode ≠ 2 →
    s.pwr.hold = .none →
    exec .bootAbortWrite s = .next (s.attemptFail 0x10)) ∧
  -- DEV_RESET, in Flight with contracts only with FORCE, and WARM_RESET
  (∀ (h : Hdr) (p : List Byte) (s t : State),
    s.takes 0x0103 h = true →
    t = s.stamped h →
    u8 p 0 ≤ 7 →
    zeroFrom p 1 = true →
    t.mode ≠ 4 ∨ bit (u8 p 0) 2 = true ∨ t.inSt (fun c => c == .active || c == .starved || c == .held) = [] →
    exec (.devReset h p) s = .next (let s1 := if t.mode = 2 ∨ bit (u8 p 0) 1 = true then t.wr Reg.MODE.STATUS.ATTEMPTS 0 else t
      let s2 := if bit (u8 p 0) 0 then s1.countIfUnconfirmed 0x10 else s1
      State.answer { s2 with boot := { s2.boot with resetDue := true, resetForce := bit (u8 p 0) 2 } } h Sts.ok 0 [])) ∧
  (∀ (s : State),
    s.pwr.hold = .none →
    exec .warmReset s = .next (if s.boot.resetForce then (s.goSilent 0).warmReset else s.warmReset)) ∧
  -- PCIE_PERST_ASSERT, PCIE_FLR, HOST_LINK_DOWN
  (∀ (s : State),
    exec .pciePerstAssert s = .next s.hostLinkDown.msixReset ∧ exec .pcieFlr s = .next (s.orphan 5).msixReset ∧ exec .hostLinkDown s = .next { s.orphan 5 with intc := { (s.orphan 5).intc with link := 0 } }) ∧
  -- BOOT_RECORD
  (∀ (h : Hdr) (p : List Byte) (s t : State),
    s.takes 0x0E01 h = true →
    t = s.stamped h →
    noParams p = false →
    exec (.bootRecord h p) s = .next (t.answer h Sts.ok 0 ([BitVec.ofNat 8 t.attempts, BitVec.ofNat 8 t.straps.bootSrc,
      BitVec.ofNat 8 (if t.mode = 2 then 0xFF else t.rd Reg.MODE.STATUS.RUN_SLOT), BitVec.ofNat 8 (t.rd Reg.MODE.STATUS.CONFIRMED + 2 * t.rd Reg.BOOT.FLASH.COPY_USED + (if t.mode = 2 then 4 else 0)),
      BitVec.ofNat 8 (t.rd Reg.BOOT.RECORD.REASON1), BitVec.ofNat 8 (t.rd Reg.BOOT.RECORD.REASON2), BitVec.ofNat 8 (t.rd Reg.BOOT.RECORD.REASON3),
      BitVec.ofNat 8 (t.rd Reg.BOOT.RECORD.SLOT1 + 4 * t.rd Reg.BOOT.RECORD.SLOT2 + 16 * t.rd Reg.BOOT.RECORD.SLOT3)] ++ toLe 8 t.boot.start)))

/-- BOOT_FRAME_RECEIVE, IMAGE_WRITE and SLOT_SELECT: what each does (16_modes_and_start.md, Attempts, slots and confirmation, 16_modes_and_start.md, Commands). -/
def Obligations.BootImages : Prop :=
  -- BOOT_FRAME_RECEIVE
  (∀ (off : Nat) (data : List Byte) (last : Bool) (s : State),
    s.isSet Reg.MODE.STATUS.WAIT_IMAGE = true →
    s.straps.bootSrc = 2 →
    off + data.length ≤ 2 ^ 29 →
    exec (.bootFrameReceive off data last) s = .next (s.bootBlock off data last)) ∧
  (∀ (off : Nat) (data : List Byte) (last : Bool) (s : State),
    s.isSet Reg.MODE.STATUS.WAIT_IMAGE = false →
    exec (.bootFrameReceive off data last) s = .next s) ∧
  -- IMAGE_WRITE into the boot buffer; into a flash slot
  (∀ (h : Hdr) (p b : List Byte) (s t : State),
    s.takes 0x0E03 h = true →
    t = s.stamped h →
    u8 p 0 = 3 →
    u8 p 1 ≤ 3 →
    zeroAt p 2 6 = true →
    zeroFrom p 28 = true →
    u64 p 8 % 64 = 0 →
    u32 p 24 % 64 = 0 ∨ bit (u8 p 1) 0 = true →
    1 ≤ u32 p 24 ∧ u32 p 24 ≤ 1048576 →
    h.spiBad (u64 p 16) (u32 p 24) = false →
    u64 p 8 + u32 p 24 ≤ 2 ^ 29 →
    t.isSet Reg.MODE.STATUS.WAIT_IMAGE = true →
    t.readBuf h (u64 p 16) (u32 p 24) = some b →
    exec (.imageWrite h p) s = .next ((t.bootBlock (u64 p 8) b (bit (u8 p 1) 0)).answer h Sts.ok 0 [])) ∧
  (∀ (h : Hdr) (p b : List Byte) (slot size : Nat) (s t : State),
    s.takes 0x0E03 h = true →
    t = s.stamped h →
    slot = u8 p 0 →
    slot ≤ 1 →
    u8 p 1 ≤ 3 →
    zeroAt p 2 6 = true →
    zeroFrom p 28 = true →
    u64 p 8 % 64 = 0 →
    u32 p 24 % 64 = 0 ∨ bit (u8 p 1) 0 = true →
    1 ≤ u32 p 24 ∧ u32 p 24 ≤ 1048576 →
    h.spiBad (u64 p 16) (u32 p 24) = false →
    t.isSet Reg.BOOT.FLASH.BUSY = false →
    t.rd Reg.MODE.STATUS.RUN_SLOT ≠ slot ∨ (t.mode ≠ 1 ∧ t.mode ≤ 2) →
    t.flashNow.map (fun x => x.2.2) = some size →
    u64 p 8 + u32 p 24 ≤ size * 65536 →
    t.readBuf h (u64 p 16) (u32 p 24) = some b →
    exec (.imageWrite h p) s = .next (let base := 65536 + slot * (size * 65536)
      let s2 := t.flashBlock base (u64 p 8) b
      match (if u8 p 1 = 3 then s2.bootCheck (fun o n => s2.boot.flash.readN (base + o) n) (size * 65536) else none) with
      | some c => t.answer h Sts.imageInvalid 0 [BitVec.ofNat 8 c]
      | none => s2.answer h Sts.ok 0 [])) ∧
  -- SLOT_SELECT
  (∀ (h : Hdr) (p : List Byte) (s t : State),
    s.takes 0x0E04 h = true →
    t = s.stamped h →
    u8 p 0 ≤ 1 →
    zeroFrom p 1 = true →
    t.isSet Reg.BOOT.FLASH.BUSY = false →
    t.flashNow.isSome = true →
    exec (.slotSelect h p) s = .next (((t.setPreferred (u8 p 0)).wr Reg.MODE.STATUS.ATTEMPTS 0).answer h Sts.ok 0 []))

/-- Interrupt sources, hold-off, delivery to the host, cores and engines, end of service, and route writes (17_interrupts_mailboxes.md, Interrupt sources, 17_interrupts_mailboxes.md, Delivery, 17_interrupts_mailboxes.md, Interrupt controller registers). -/
def Obligations.Interrupts : Prop :=
  -- INTERRUPT_SOURCE_RISE of a source that registers drive
  (∀ (n g : Nat) (b : Bool) (s : State),
    n < 2048 →
    s.userSrc n = false →
    g = n / 32 →
    s.rd (Reg.INTC.STATE.STATE g) = 0 →
    s.grpView g ≠ 0 →
    exec (.interruptSourceRise n b) s = .next (if s.rd (Reg.INTC.ROUTE.HOLDOFF_US g) = 0 then s.deliverGroup g
      else (s.wr (Reg.INTC.STATE.STATE g) 1).wr (Reg.INTC.STATE.REMAIN_US g) (s.rd (Reg.INTC.ROUTE.HOLDOFF_US g)))) ∧
  -- INTERRUPT_SOURCE_RISE of a fabric user source: it takes the level given
  (∀ (n : Nat) (b : Bool) (s : State),
    n < 2048 →
    s.userSrc n = true →
    exec (.interruptSourceRise n b) s = .next (State.grpRise { s with intc := { s.intc with
      lines := if b then s.intc.lines.filter (fun x => x != n) ++ [n] else s.intc.lines.filter (fun x => x != n) } } (n / 32))) ∧
  -- What a source does to a group that is not IDLE, or whose output is low
  (∀ (g : Nat) (s : State),
    s.rd (Reg.INTC.STATE.STATE g) ≠ 0 ∨ s.grpView g = 0 →
    s.grpRise g = s) ∧
  -- HOLDOFF_EXPIRY
  (∀ (g : Nat) (s : State),
    g < 64 →
    s.rd (Reg.INTC.STATE.STATE g) = 1 →
    exec (.holdoffExpiry g) s = .next (if s.grpView g = 0 then (s.wr (Reg.INTC.STATE.STATE g) 0).wr (Reg.INTC.STATE.REMAIN_US g) 0 else s.deliverGroup g)) ∧
  -- A delivery by the KIND of the route; an old TARGET outside its range takes nothing (log 122)
  (∀ (g : Nat) (s : State),
    g < 64 →
    ∃ t : State, t = (s.wr (Reg.INTC.STATE.STATE g) 2).wr (Reg.INTC.STATE.REMAIN_US g) 0 ∧ s.deliverGroup g =
      (if !targetOk (t.rd (Reg.INTC.ROUTE.KIND g)) (t.rd (Reg.INTC.ROUTE.TARGET g)) then t else match t.rd (Reg.INTC.ROUTE.KIND g) with
      | 1 => (t.bump (Reg.INTC.STATE.DELIV_CNT g)).toHost (t.rd (Reg.INTC.ROUTE.TARGET g))
      | 2 => (t.bump (Reg.INTC.STATE.DELIV_CNT g)).toCore (t.rd (Reg.INTC.ROUTE.TARGET g))
      | 3 => (t.bump (Reg.INTC.STATE.DELIV_CNT g)).toEngine (t.rd (Reg.INTC.ROUTE.TARGET g))
      | _ => t)) ∧
  -- A message to the host: the link up and the vector not masked, masked; the link down, in L2
  (∀ (v : Nat) (s : State),
    (s.intc.link = 1 → s.isSet (Reg.MSIX.CTRL.MASKED v) = false →
        s.toHost v = s.emit (.msix v (s.rd (Reg.MSIX.ADDR_HI.ADDR v) * 2 ^ 32 + s.rd (Reg.MSIX.ADDR_LO.ADDR v)) (s.rd (Reg.MSIX.DATA.DATA v)))) ∧
      (s.intc.link = 2 → s.toHost v = ({ s with intc := { s.intc with link := 1 } } : State).sendVector v) ∧
      (s.intc.link = 1 → s.isSet (Reg.MSIX.CTRL.MASKED v) = true → s.toHost v = s.evtBit (Reg.MSIX.PBA.PEND (v / 32)) (v % 32)) ∧
      (s.intc.link = 0 ∨ s.intc.link = 3 → (s.toHost v).intc.msiWait = s.intc.msiWait ++ [v] ∧ (s.intc.link = 3 → (s.toHost v).intc.wakeN = true))) ∧
  -- A message to a management core, and to an engine
  (∀ (c e : Nat) (s : State),
    1 ≤ c ∧ c ≤ 4 →
    (bit s.xp.coreHalt (c - 1) = true → s.toCore c = { s with intc := { s.intc with coreWait := s.intc.coreWait ++ [c] } }) ∧
      (bit s.xp.coreHalt (c - 1) = false → bit (s.rd Reg.CMD.STATUS.CORE_UP) (c - 1) = true → s.toCore c = s.emit (.coreIrq c)) ∧
      (s.toEngine e = if s.domOn (5 + e / 32) then s.addBells (c2eHalf e) (2 ^ 30) else s)) ∧
  -- MSIX_SEND with no message waiting, and with two
  (∀ (s : State),
    s.intc.link ≠ 0 →
    s.intc.msiWait = [] →
    exec .msixSend s = .next { s with intc := { s.intc with link := 1, wakeN := false, msiWait := [] } }) ∧
  (∀ (v w : Nat) (s : State),
    s.intc.link ≠ 0 →
    s.intc.msiWait = [v, w] →
    exec .msixSend s = .next ((State.sendVector { s with intc := { s.intc with link := 1, wakeN := false, msiWait := [] } } v).sendVector w)) ∧
  -- INTC_EOI_WRITE, ENGINE_INTC_EOI
  (∀ (g e : Nat) (s : State),
    g < 64 →
    s.rd (Reg.INTC.STATE.STATE g) = 2 →
    e < 256 →
    s.domOn (5 + e / 32) = true →
    s.grpOf e = some g →
    exec (.intcEoiWrite g) s = .next ((s.wr (Reg.INTC.STATE.STATE g) 0).grpRise g) ∧
      exec (.engineIntcEoi e) s = .next ((s.wr (Reg.INTC.STATE.STATE g) 0).grpRise g)) ∧
  -- INTC_ROUTE_WRITE to the host or a core; to an engine that another group names
  (∀ (g v : Nat) (s : State),
    g < 64 →
    v % 4 ≠ 3 →
    v < 2 ^ 32 →
    exec (.intcRouteWrite g v) s = .next (let s1 := (s.wr (Reg.INTC.ROUTE.KIND g) (v % 4)).wr (Reg.INTC.ROUTE.HOLDOFF_US g) (v / 2 ^ 16)
      if targetOk (v % 4) (v / 256 % 256) then s1.wr (Reg.INTC.ROUTE.TARGET g) (v / 256 % 256) else s1.evt Reg.INTC.EVENT.ROUTE_ERR)) ∧
  (∀ (g x v : Nat) (s : State),
    g < 64 →
    x < 64 →
    x ≠ g →
    v % 4 = 3 →
    s.rd (Reg.INTC.ROUTE.KIND x) = 3 →
    s.rd (Reg.INTC.ROUTE.TARGET x) = v / 256 % 256 →
    exec (.intcRouteWrite g v) s = .next (s.evt Reg.INTC.EVENT.ROUTE_ERR))

/-- Mailbox messages, doorbells, acknowledgements and timeouts, remote mailboxes, and locks (17_interrupts_mailboxes.md, Mailboxes, 17_interrupts_mailboxes.md, Locks). -/
def Obligations.MailboxesAndLocks : Prop :=
  -- MAILBOX_MSG_WRITE by the sender of a free half; by another master
  (∀ (m o v : Nat) (h : HalfAt) (s : State),
    s.offPresent o = true →
    s.offOn o = true →
    halfAt o = some h →
    o - h.base < 0x40 →
    o % 4 = 0 →
    exec (.mailboxMsgWrite m o v) s = .next (if h.sender m = false ∨ s.claimedBy h m = true then s.bump h.reject
      else if s.isSet h.pending then s.wr h.sendErr 1
      else (if (h.kind = .c2e ∨ h.kind = .e2e) ∧ o - h.base < 4 ∧ s.isSet h.busy = false then (s.wr h.busy 1).wr h.owner m else s).setReg
        (h.base + 4 * ((o - h.base) / 4)) (BitVec.ofNat 32 v))) ∧
  -- MAILBOX_BELL_WRITE by the sender; by the receiver; by neither
  (∀ (m o v : Nat) (h : HalfAt) (s : State),
    s.offPresent o = true →
    s.offOn o = true →
    halfAt o = some h →
    o = h.base + 0x40 →
    o % 4 = 0 →
    s.receiver h m = false →
    h.sender m = true →
    s.claimedBy h m = false →
    ∃ b, b = v % 2 ^ (if h.kind = .c2e then 29 else 30) ∧ exec (.mailboxBellWrite m o v) s = .next (if b = 0 then s
      else if s.isSet h.pending then s.addBells h b else (s.addBells h b).startMsg h)) ∧
  (∀ (m o v : Nat) (h : HalfAt) (s : State),
    s.offPresent o = true →
    s.offOn o = true →
    halfAt o = some h →
    o = h.base + 0x40 →
    o % 4 = 0 →
    s.receiver h m = true →
    exec (.mailboxBellWrite m o v) s = .next (s.wr h.bell (s.rd h.bell &&& (2 ^ 32 - 1 - v % 2 ^ 32)))) ∧
  (∀ (m o v : Nat) (h : HalfAt) (s : State),
    s.offPresent o = true →
    s.offOn o = true →
    halfAt o = some h →
    o = h.base + 0x40 →
    o % 4 = 0 →
    s.receiver h m = false →
    h.sender m = false ∨ s.claimedBy h m = true →
    exec (.mailboxBellWrite m o v) s = .next (s.bump h.reject)) ∧
  -- MAILBOX_ACK_WRITE by any master but the receiver; of nothing, or with a code the device keeps for itself
  (∀ (m o v : Nat) (h : HalfAt) (s : State),
    s.offPresent o = true →
    s.offOn o = true →
    halfAt o = some h →
    o = h.base + 0x48 →
    o % 4 = 0 →
    (s.receiver h m = false → exec (.mailboxAckWrite m o v) s = .next (s.bump h.reject)) ∧
      (s.receiver h m = true → s.isSet h.pending = false ∨ 0xFFFD ≤ v % 2 ^ 16 → exec (.mailboxAckWrite m o v) s = .next s)) ∧
  -- MAILBOX_ACK_WRITE with VALID by the receiver of a local half
  (∀ (m o code : Nat) (h : HalfAt) (s : State),
    s.offPresent o = true →
    s.offOn o = true →
    halfAt o = some h →
    o = h.base + 0x48 →
    o % 4 = 0 →
    s.receiver h m = true →
    s.isSet h.pending = true →
    code < 0xFFFD →
    h.kind ≠ .recv →
    exec (.mailboxAckWrite m o (2 ^ 31 + code)) s = .next (s.ackHalf h code false)) ∧
  -- The acknowledgement of a remote message goes back over the link of the route
  (∀ (m o code k : Nat) (h : HalfAt) (s : State),
    s.offPresent o = true →
    s.offOn o = true →
    halfAt o = some h →
    o = h.base + 0x48 →
    o % 4 = 0 →
    s.receiver h m = true →
    s.isSet h.pending = true →
    code < 0xFFFD →
    h.kind = .recv →
    s.linkTo (s.rd h.meshId) = some k →
    exec (.mailboxAckWrite m o (2 ^ 31 + code)) s = .next ((s.ackHalf h code false).mailFrame k (s.rd h.meshId) (s.rd h.mailbox) h.i 1 code [])) ∧
  -- What an acknowledgement by the device leaves in a host half
  (∀ (code : Nat) (s : State),
    code < 2 ^ 16 →
    s.isSet (HalfAt.cross ⟨.h2c, 0x30000, 0⟩) = false →
    ∃ t : State, s.ackHalf ⟨.h2c, 0x30000, 0⟩ code true = t ∧ (t.reg 0x30048).toNat = 2 ^ 31 + code ∧ t.isSet (HalfAt.pending ⟨.h2c, 0x30000, 0⟩) = false ∧
      t.isSet (HalfAt.acked ⟨.h2c, 0x30000, 0⟩) = true ∧ t.isSet (HalfAt.timeout ⟨.h2c, 0x30000, 0⟩) = true ∧ t.isSet (HalfAt.busy ⟨.h2c, 0x30000, 0⟩) = false) ∧
  -- MAILBOX_ACK_TIMEOUT, MAILBOX_CLAIM_TIMEOUT
  (∀ (o : Nat) (h : HalfAt) (s : State),
    s.offPresent o = true →
    s.offOn o = true →
    halfAt o = some h →
    h.kind ≠ .recv →
    (s.isSet h.pending = true → exec (.mailboxAckTimeout o) s = .next (s.ackHalf h 0xFFFF true)) ∧
      (s.isSet h.busy = true → s.isSet h.pending = false → exec (.mailboxClaimTimeout o) s = .next ((s.wr h.busy 0).wr h.owner 0))) ∧
  -- MAILBOX_FRAME_RECEIVE: an acknowledgement; a message
  (∀ (f : MailFrame) (s : State),
    f.m < 16 →
    s.domOn 1 = true →
    f.ack = true →
    s.isSet (HalfAt.pending ⟨.send, 0x31000 + 0x100 * f.m, f.m⟩) = true →
    s.rd (HalfAt.meshId ⟨.send, 0x31000 + 0x100 * f.m, f.m⟩) = f.src →
    exec (.mailboxFrameReceive f) s = .next (s.ackHalf ⟨.send, 0x31000 + 0x100 * f.m, f.m⟩ f.x false)) ∧
  (∀ (f : MailFrame) (h : HalfAt) (s : State),
    f.m < 16 →
    s.domOn 1 = true →
    f.ack = false →
    h = ⟨.recv, 0x31080 + 0x100 * f.m, f.m⟩ →
    s.isSet h.pending = false →
    exec (.mailboxFrameReceive f) s = .next ((((((List.range 16).foldl (fun t i => t.setReg (h.base + 4 * i) (BitVec.ofNat 32 (f.words.getD i 0))) s).wr h.meshId
      f.src).wr h.mailbox f.from_).addBells h (f.x % 2 ^ 30)).startMsg h)) ∧
  -- LOCK_READ by a master; by a debugger
  (∀ (m o : Nat) (s : State),
    s.offPresent o = true →
    s.offOn o = true →
    lockOff o = true →
    o % 4 = 0 →
    m ≠ 0 →
    m ≠ 6 →
    lockReach m o = true →
    exec (.lockRead m o) s = .next (if (s.reg o).field 0 9 = 0 then (s.setReg o (BitVec.ofNat 32 m)).emit (.readData m o 0)
      else s.emit (.readData m o (s.lockWord o)))) ∧
  (∀ (o : Nat) (s : State),
    s.offPresent o = true →
    s.offOn o = true →
    lockOff o = true →
    o % 4 = 0 →
    exec (.lockRead 6 o) s = .next (s.emit (.readData 6 o (s.lockWord o)))) ∧
  -- LOCK_WRITE
  (∀ (m o v : Nat) (s : State),
    s.offPresent o = true →
    s.offOn o = true →
    lockOff o = true →
    o % 4 = 0 →
    m ≠ 0 →
    lockReach m o = true →
    exec (.lockWrite m o v) s = .next (if (s.reg o).field 0 9 = m ∧ v % 512 = 0 then s.setReg o 0
      else (s.wr ⟨lockStatus o, 0, 9⟩ m).bump ⟨lockStatus o, 16, 8⟩))

/-- The debug wire, the authorisation registers, halts of engines and cores, and forced device locks (12_security.md, Debug authorisation, 18_debug_and_test.md, The debug wire, 18_debug_and_test.md, Levels and access, 18_debug_and_test.md, Halting engines and cores). -/
def Obligations.HaltsAndForcedLocks : Prop :=
  -- DEBUG_WIRE_RESET, DEBUG_WIRE_RELEASE
  (∀ (s : State),
    s.pwr.hold = .none →
    exec .debugWireReset s = .next (((s.goSilent 0).evt Reg.DBG.EVENT.WIRE_RESET).holdReset .wire)) ∧
  (∀ (s : State),
    s.pwr.hold = .wire →
    exec .debugWireRelease s = .next { s with pwr := { s.pwr with hold := .none } }) ∧
  -- DEBUG_WAKE_PULSE of 100 to 800 µs, with a unit of 40 ns to 10 µs, and with another
  (∀ (us u : Nat) (s : State),
    s.pwr.hold ≠ .off →
    100 ≤ us ∧ us ≤ 800 →
    exec (.debugWakePulse us u) s = .next (if 4 ≤ u ∧ u ≤ 1000 then ((s.wr Reg.DBG.STATUS.SESSION 1).wr Reg.DBG.STATUS.UNIT u).evt Reg.DBG.EVENT.SESSION_OPEN
      else (s.wr Reg.DBG.STATUS.SESSION 0).wr Reg.DBG.STATUS.UNIT 0)) ∧
  -- DBG_AUTH_CHALLENGE_WRITE: within a lockout; level 0; a level not granted; a challenge
  (∀ (m l : Nat) (s : State),
    l < 4 →
    s.offPresent Reg.DBG.AUTH = true →
    s.offOn Reg.DBG.AUTH = true →
    exec (.dbgAuthChallengeWrite m l) s = .next (let s0 := s.wr Reg.DBG.AUTH.REQ_LEVEL l
      if s.rd Reg.SEC.DBG_LOCK.LOCK_S ≠ 0 then s0.wr Reg.DBG.AUTH.STATE 5
      else if l = 0 then State.wr { s0.setLevel 0 with sec := { (s0.setLevel 0).sec with chal := none } } Reg.DBG.AUTH.STATE 0
      else if s.ident.debugCap < l ∨ 2 < l ∨ s.ident.debugKey = 0 then s0.wr Reg.DBG.AUTH.STATE 4
      else ((List.range 12).foldl (fun t i => t.setReg (Reg.DBG.CHAL i)
        (BitVec.ofNat 32 (u32 (toLe 32 s.free ++ toLe 8 s.ident.serial ++ [BitVec.ofNat 8 l] ++ List.replicate 7 0) (4 * i)))) (s0.challenge l)).wr Reg.DBG.AUTH.STATE 1)) ∧
  -- DBG_AUTH_SUBMIT: without a live challenge; with one, whose response is RESP’s words
  (∀ (m : Nat) (s : State),
    s.offPresent Reg.DBG.AUTH = true →
    s.offOn Reg.DBG.AUTH = true →
    s.chalLive = false →
    exec (.dbgAuthSubmit m) s = .next (s.wr Reg.DBG.AUTH.STATE 4)) ∧
  (∀ (m : Nat) (c : Chal) (b : List Byte) (s : State),
    s.offPresent Reg.DBG.AUTH = true →
    s.offOn Reg.DBG.AUTH = true →
    s.chalLive = true →
    s.sec.chal = some c →
    b = (List.range 48).flatMap (fun i => toLe 4 (s.reg (Reg.DBG.RESP i)).toNat) →
    exec (.dbgAuthSubmit m) s = .next (if Config.sha384 (b.take 96) = s.ident.debugKey ∧ Config.ecdsaVerify (b.take 96) (Config.sha384 c.block) (b.drop 96) = true then
        ((State.wr { s with sec := { s.sec with chal := none } } Reg.SEC.DBG_LOCK.FAIL_RUN 0).setLevel c.level).wr Reg.DBG.AUTH.STATE 3
      else (let f := min 255 (s.rd Reg.SEC.DBG_LOCK.FAIL_RUN + 1)
        (((State.wr { s with sec := { s.sec with chal := none } } Reg.SEC.DBG_LOCK.FAIL_RUN f).wr Reg.SEC.DBG_LOCK.LOCK_S
          (min 1024 (2 ^ (f - 1)))).evt Reg.SEC.EVENT.AUTH_FAIL).wr Reg.DBG.AUTH.STATE 4))) ∧
  -- ENGINE_HALT_REQUEST at level 2, and below it by another master than the wire
  (∀ (m e : Nat) (s : State),
    e < 256 →
    s.offPresent Reg.DBG.ENG_CTRL = true →
    s.offOn Reg.DBG.ENG_CTRL = true →
    s.dbgLevel = 2 →
    s.engPresent e = true →
    s.engOn e = true →
    s.engState e = engRunning →
    exec (.engineHaltRequest m e) s = .next ((s.wr Reg.DBG.ENG_CTRL.ENGINE e).updEngine e (fun x => { x with haltReq := true }))) ∧
  (∀ (m e : Nat) (s : State),
    e < 256 →
    m ≠ 6 →
    s.offPresent Reg.DBG.ENG_CTRL = true →
    s.offOn Reg.DBG.ENG_CTRL = true →
    s.dbgLevel ≠ 2 →
    exec (.engineHaltRequest m e) s = .next (s.evt Reg.DBG.EVENT.AUTH_VIOL) ∧ exec (.engineResume m e) s = .next (s.evt Reg.DBG.EVENT.AUTH_VIOL)) ∧
  -- ENGINE_HALT_TAKEN of an engine that was asked to halt
  (∀ (e : Nat) (s : State),
    (s.engine e).haltReq = true →
    s.engOn e = true →
    (s.engine e).free = true →
    s.inSpec e = false →
    e < 256 →
    ∃ t : State, exec (.engineHaltTaken e) s = .next t ∧ t.engState e = engHalted ∧ (t.engine e).haltReq = false ∧ (t.engine e).prior = s.engState e ∧
      t.isSet Reg.DBG.EVENT.HALTED = true) ∧
  -- ENGINE_RESUME of a halted engine; the PC of one
  (∀ (m e : Nat) (s : State),
    e < 256 →
    s.offPresent Reg.DBG.ENG_CTRL = true →
    s.offOn Reg.DBG.ENG_CTRL = true →
    s.dbgLevel = 2 →
    s.engPresent e = true →
    s.engOn e = true →
    s.engState e = engHalted →
    (s.engine e).prior < 8 →
    ∃ t : State, exec (.engineResume m e) s = .next t ∧ t.engState e = (s.engine e).prior ∧ (t.engine e).done = some s.now ∧ (t.engine e).missed = 0) ∧
  (∀ (m e v : Nat) (s : State),
    s.rd Reg.DBG.ENG_CTRL.ENGINE = e →
    s.offPresent Reg.DBG.ENG_STAT = true →
    s.offOn Reg.DBG.ENG_STAT = true →
    s.dbgLevel = 2 →
    s.engPresent e = true →
    s.engOn e = true →
    s.engState e = engHalted →
    exec (.dbgPcWrite m v) s = .next (s.wr (Reg.ENG.STATUS.PC e) v)) ∧
  -- CORE_HALT, CORE_HALT_TAKEN, CORE_RESUME
  (∀ (m mask : Nat) (s : State),
    s.offPresent Reg.DBG.CORE_CTRL = true →
    s.offOn Reg.DBG.CORE_CTRL = true →
    s.dbgLevel = 2 →
    mask < 16 →
    exec (.coreHalt m mask) s = .next { s with xp := { s.xp with coreHaltReq := s.xp.coreHaltReq ||| mask } }) ∧
  (∀ (k : Nat) (s : State),
    1 ≤ k ∧ k ≤ 4 →
    bit s.xp.coreHaltReq (k - 1) = true →
    exec (.coreHaltTaken k) s = .next (State.showCores { s with xp := { s.xp with coreHaltReq := clrBit s.xp.coreHaltReq (k - 1), coreHalt := setBit s.xp.coreHalt (k - 1) } })) ∧
  -- CORE_RESUME: the cores of the mask run, and take the interrupts and commands that waited for them
  (∀ (m mask : Nat) (s : State),
    s.offPresent Reg.DBG.CORE_CTRL = true →
    s.offOn Reg.DBG.CORE_CTRL = true →
    s.dbgLevel = 2 →
    ∃ t : State, t = State.showCores { s with xp := { s.xp with
        coreHalt := (List.range 4).foldl (fun a k => if bit mask k then clrBit a k else a) s.xp.coreHalt,
        coreHaltReq := (List.range 4).foldl (fun a k => if bit mask k then clrBit a k else a) s.xp.coreHaltReq } } ∧
      exec (.coreResume m mask) s = .next (t.flushCores (fun c => !t.coreOff c)).runHeld) ∧
  -- A resume of every core, with no reply, no interrupt and no command waiting
  (∀ (m : Nat) (s : State),
    s.offPresent Reg.DBG.CORE_CTRL = true →
    s.offOn Reg.DBG.CORE_CTRL = true →
    s.dbgLevel = 2 →
    s.xp.coreHalt < 16 →
    s.xp.coreHaltReq < 16 →
    s.xp.replies = [] →
    s.intc.coreWait = [] →
    s.xp.held = [] →
    ∃ t : State, exec (.coreResume m 15) s = .next t ∧ t.xp.coreHalt = 0 ∧ t.xp.coreHaltReq = 0) ∧
  -- LOCK_FORCE of a device lock that is held
  (∀ (m n : Nat) (s : State),
    s.offPresent Reg.DBG.LOCK_FORCE = true →
    s.offOn Reg.DBG.LOCK_FORCE = true →
    s.dbgLevel = 2 →
    n < 64 →
    s.offPresent (Reg.LK n) = true →
    s.offOn (Reg.LK n) = true →
    (s.reg (Reg.LK n)).field 0 9 ≠ 0 →
    ∃ t : State, exec (.lockForce m (n + 0xF00)) s = .next t ∧ t.reg (Reg.LK n) = 0 ∧ t.isSet Reg.DBG.EVENT.LOCK_FORCED = true ∧
      t.rd (lockOrphans (Reg.LK n)) = (s.rd (lockOrphans (Reg.LK n)) + 1) % 2 ^ (lockOrphans (Reg.LK n)).w)

/-- Self-test runs and results, and the repair of columns (18_debug_and_test.md, Self-test, 18_debug_and_test.md, Column repair, 18_debug_and_test.md, Commands). -/
def Obligations.SelfTestAndRepair : Prop :=
  -- BIST_RUN
  (∀ (h : Hdr) (p : List Byte) (d k : Nat) (s t : State),
    s.takes 0x0C01 h = true →
    t = s.stamped h →
    d = u8 p 0 →
    k = u8 p 1 →
    2 ≤ d ∧ d ≤ 29 →
    k ≤ 2 →
    zeroFrom p 2 = true →
    t.dbg.run = none →
    t.mode = 5 ∨ t.mode = 2 →
    t.domPresent d = true →
    (List.range 30).any (fun x => (domNeeds x).contains d && t.dom x != 0) = false →
    exec (.bistRun h p) s = .next ((if t.dom d = 0 then t else t.domArrive d 0).bistStart d (if k = 1 then 1 else 0) (k == 2) |>.answer h Sts.ok 0 [])) ∧
  -- Its refusals: a run under way, another mode, a domain that needs it
  (∀ (h : Hdr) (p : List Byte) (s t : State),
    s.takes 0x0C01 h = true →
    t = s.stamped h →
    t.dbg.run.isSome = true →
    exec (.bistRun h p) s = .next (t.answer h Sts.busy 0 [])) ∧
  (∀ (h : Hdr) (p : List Byte) (s t : State),
    s.takes 0x0C01 h = true →
    t = s.stamped h →
    t.dbg.run = none →
    t.mode ≠ 5 ∧ t.mode ≠ 2 →
    exec (.bistRun h p) s = .next (t.answer h Sts.modeRefused 0 [])) ∧
  (∀ (h : Hdr) (p : List Byte) (d : Nat) (s t : State),
    s.takes 0x0C01 h = true →
    t = s.stamped h →
    d = u8 p 0 →
    2 ≤ d ∧ d ≤ 29 →
    u8 p 1 ≤ 2 →
    zeroFrom p 2 = true →
    t.dbg.run = none →
    t.mode = 5 ∨ t.mode = 2 →
    t.domPresent d = true →
    (List.range 30).any (fun x => (domNeeds x).contains d && t.dom x != 0) = true →
    exec (.bistRun h p) s = .next (t.answer h Sts.badState 0 [])) ∧
  -- What a start shows
  (∀ (d k : Nat) (both : Bool) (s : State),
    d < 32 →
    k < 2 →
    (s.bistStart d k both).dbg.run = some (d, k, both) ∧ (s.bistStart d k both).rd Reg.BIST.STATUS.BUSY = 1 ∧ (s.bistStart d k both).rd Reg.BIST.STATUS.DOMAIN = d ∧
      (s.bistStart d k both).rd Reg.BIST.STATUS.KIND = k ∧ (s.bistStart d k both).rd Reg.BIST.STATUS.RESULT = 0) ∧
  -- BIST_COMPLETE of a logic test that memory test is to follow, and of the last kind
  (∀ (sig d : Nat) (fails : List (Nat × Nat)) (s : State),
    sig < 2 ^ 64 →
    s.dbg.run = some (d, 0, true) →
    ∃ t : State, exec (.bistComplete sig fails) s = .next t ∧ t.dbg.run = some (d, 1, false) ∧ t.isSet Reg.BIST.EVENT.BIST_DONE = true ∧
      (Config.bistSig s.ident.variant s.ident.stepping d 0 ≠ sig → t.isSet Reg.BIST.EVENT.BIST_FAIL = true)) ∧
  (∀ (sig d k : Nat) (fails : List (Nat × Nat)) (s : State),
    sig < 2 ^ 64 →
    s.dbg.run = some (d, k, false) →
    k < 2 →
    ∃ t : State, exec (.bistComplete sig fails) s = .next t ∧ t.dbg.run = none ∧ t.rd Reg.BIST.STATUS.BUSY = 0 ∧
      (Config.bistSig s.ident.variant s.ident.stepping d k = sig → t.rd Reg.BIST.STATUS.RESULT = 1 ∧ SMap.get (fun _ => (0, 0)) t.dbg.results (2 * d + k) = (2, sig)) ∧
      (Config.bistSig s.ident.variant s.ident.stepping d k ≠ sig → t.rd Reg.BIST.STATUS.RESULT = 2 ∧ SMap.get (fun _ => (0, 0)) t.dbg.results (2 * d + k) = (3, sig)) ∧
      t.rd Reg.BIST.SIG_LO.SIG = sig % 2 ^ 32 ∧ t.rd Reg.BIST.SIG_HI.SIG = sig / 2 ^ 32) ∧
  -- BIST_RESULT with or without a buffer for the candidates’ records
  (∀ (h : Hdr) (p : List Byte) (d k : Nat) (s t : State),
    s.takes 0x0C02 h = true →
    t = s.stamped h →
    d = u8 p 0 →
    k = u8 p 1 →
    2 ≤ d ∧ d ≤ 29 →
    k ≤ 1 →
    zeroAt p 2 6 = true →
    zeroFrom p 20 = true →
    u64 p 8 = 0 ∨ (8 * (t.candsOf d).length ≤ u32 p 16 ∧ h.spiBad (u64 p 8) (u32 p 16) = false) →
    t.domPresent d = true →
    exec (.bistResult h p) s = .next ((if u64 p 8 = 0 then t else t.writeBuf h (u64 p 8) ((t.candsOf d).flatMap t.candRec)).answer h Sts.ok 0
      (let r := if t.dbg.run.any (fun x => x.1 == d && x.2.1 == k) then (1, 0) else SMap.get (fun _ => (0, 0)) t.dbg.results (2 * d + k)
      [BitVec.ofNat 8 r.1, BitVec.ofNat 8 (t.candsOf d).length, if decide (5 ≤ d ∧ d ≤ 12) && t.dbg.ovf.contains (d - 5) then 1 else 0, 0] ++ toLe 8 r.2))) ∧
  -- REPAIR_FUSE
  (∀ (h : Hdr) (p : List Byte) (c b k : Nat) (x : Cand) (s u : State),
    s.takes 0x0C03 h = true →
    u = s.stamped h →
    c = u8 p 0 →
    b = u8 p 1 →
    k = u8 p 2 →
    c < 8 ∧ b < 32 →
    zeroFrom p 3 = true →
    u.dbgLevel = 2 →
    u.mode = 5 →
    c < u.nClusters →
    u.regsOn (5 + c) = true →
    x ∈ u.dbg.cands →
    x.cluster = c ∧ x.bank = b ∧ x.col = k →
    u.isSet Reg.LEDGER.STATUS.THERM_BLOCK = false →
    u.sparesUsed c b < 2 →
    ∃ t : State, exec (.repairFuse h p) s = .next (t.answer h Sts.ok 0 [BitVec.ofNat 8 (u.free % 2), BitVec.ofNat 8 (u.sparesUsed c b + 1)]) ∧ t.sparesUsed c b = u.sparesUsed c b + 1 ∧
      t.dbg.cands = u.dbg.cands.filter (fun x => !(x.cluster == c && x.bank == b && x.col == k)) ∧ t.isSet Reg.BIST.EVENT.REPAIR_DONE = true ∧ (u.sparesUsed c b = 1 → t.isSet (Reg.CLU.EVENT.SPARE_LOW c) = true)) ∧
  -- REPAIR_FUSE of a column that is no candidate, and of a bank whose spares are used
  (∀ (h : Hdr) (p : List Byte) (c b k : Nat) (s t : State),
    s.takes 0x0C03 h = true →
    t = s.stamped h →
    c = u8 p 0 →
    b = u8 p 1 →
    k = u8 p 2 →
    c < 8 ∧ b < 32 →
    zeroFrom p 3 = true →
    t.dbgLevel = 2 →
    t.mode = 5 →
    c < t.nClusters →
    t.regsOn (5 + c) = true →
    t.dbg.cands.any (fun x => x.cluster == c && x.bank == b && x.col == k) = false ∨ t.sparesUsed c b = 2 →
    exec (.repairFuse h p) s = .next (t.answer h (if t.dbg.cands.any (fun x => x.cluster == c && x.bank == b && x.col == k) = false ∨
        t.isSet Reg.LEDGER.STATUS.THERM_BLOCK = true then Sts.badState else Sts.noCapacity) 0 [])) ∧
  -- REPAIR_FUSE below level 2
  (∀ (h : Hdr) (p : List Byte) (s t : State),
    s.takes 0x0C03 h = true →
    t = s.stamped h →
    t.dbgLevel ≠ 2 →
    exec (.repairFuse h p) s = .next (t.answer h Sts.authRequired 0 []))

/-- Register writes by field type, read-clear fields, and host writes to cluster memory and local memory (00_scope.md, Family and variants, 00_scope.md, Conventions, 06_quinner_engines.md, Local data memory). -/
def Obligations.BusAccesses : Prop :=
  -- REGISTER_WRITE in the blocks of controllers, lanes, links, fabric and power above 0x100000, but for MC.CFG
  (∀ (m o v : Nat) (s : State),
    1 ≤ m ∧ m ≤ 6 →
    o % 4 = 0 →
    0x100000 ≤ o ∧ o < 0x1000000 →
    (o < 0x200000 → o % 0x20000 ≠ 4) →
    v < 2 ^ 32 →
    s.offPresent o = true →
    exec (.registerWrite m o v) s = .next (if s.offOn o = true then s.setReg o (wordAfter o v (s.reg o)) else s.refuseAccess m o true)) ∧
  (∀ (m o v : Nat) (s : State),
    o % 4 = 0 →
    o < 0x2000000 →
    s.offPresent o = false →
    exec (.registerWrite m o v) s = .next s) ∧
  -- What a master gets whose access a unit that is off refuses: the host’s write and its read, a core
  (∀ (m o : Nat) (s : State),
    1 ≤ m ∧ m ≤ 4 →
    s.refuseAccess 5 o true = s.abortPosted o ∧ s.refuseAccess 5 o false = s.emit (.hostAbort o) ∧ s.refuseAccess m o true = s.emit (.busFault m o) ∧ s.refuseAccess 6 o true = s) ∧
  -- A field by its type (R14, R569)
  (∀ (v : Nat) (w : Word) (f : FSpec),
    1 ≤ f.w →
    f.lsb + f.w ≤ 32 →
    (f.ty = .rw → f.lo ≤ v / 2 ^ f.lsb % 2 ^ f.w → v / 2 ^ f.lsb % 2 ^ f.w ≤ f.hi → (writeFld v w f).field f.lsb f.w = v / 2 ^ f.lsb % 2 ^ f.w) ∧
      (f.ty = .rw → (v / 2 ^ f.lsb % 2 ^ f.w < f.lo ∨ f.hi < v / 2 ^ f.lsb % 2 ^ f.w) → writeFld v w f = w) ∧
      (∀ k, k < f.w → f.ty = .w1c → bit ((writeFld v w f).field f.lsb f.w) k = (bit (w.field f.lsb f.w) k && !bit v (f.lsb + k))) ∧
      (∀ k, k < f.w → f.ty = .w1s → bit ((writeFld v w f).field f.lsb f.w) k = (bit (w.field f.lsb f.w) k || bit v (f.lsb + k))) ∧
      (f.ty = .rc ∨ f.ty = .wo → writeFld v w f = w)) ∧
  -- RC_FIELD_READ of a register: a debugger’s read clears nothing; of a unit that is off
  (∀ (m o : Nat) (s : State),
    1 ≤ m ∧ m ≤ 6 →
    o % 4 = 0 →
    s.offPresent o = true →
    exec (.rcFieldRead m o) s = .next (if s.offOn o = false then s.refuseAccess m o false
      else if m = 6 then s.emit (.readData m o (s.view o)) else (s.emit (.readData m o (s.view o))).rcClear o)) ∧
  -- What the read leaves of a port target register: its read-clear field alone is 0; and of any register with such fields
  (∀ (n : Nat) (s : State),
    n < 24 →
    s.rcClear (Reg.MC.PORT_TGT n) = s.setReg (Reg.MC.PORT_TGT n) ((s.reg (Reg.MC.PORT_TGT n)).putField 16 2 0)) ∧
  (∀ (o : Nat) (r : RegSpec) (f : FSpec) (s : State),
    specOf o = some r →
    f ∈ r.flds →
    f.ty = .rc →
    f.lsb + f.w ≤ 32 →
    ((s.rcClear o).reg o).field f.lsb f.w = 0) ∧
  -- HOST_BAR2_WRITE to the memory of a cluster; to an engine’s local memory; elsewhere
  (∀ (c x : Nat) (b : List Byte) (s : State),
    c < s.nClusters →
    c < 8 →
    x + b.length ≤ 2 ^ 23 →
    s.regsOn (5 + c) = true →
    b ≠ [] →
    ∃ t : State, exec (.hostBar2Write (c * 2 ^ 24 + x) b) s = .next t ∧ t = { s with eng := { s.eng with cmem := s.eng.cmem.writeN (c * 2 ^ 23 + x) b } } ∧
      (∀ i, i < b.length → t.eng.cmem.read (c * 2 ^ 23 + x + i) = b.getD i 0) ∧ (∀ a, a < c * 2 ^ 23 + x ∨ c * 2 ^ 23 + x + b.length ≤ a → t.eng.cmem.read a = s.eng.cmem.read a)) ∧
  (∀ (e x : Nat) (b : List Byte) (s : State),
    s.engPresent e = true →
    e < 256 →
    x < 2 ^ 16 →
    x + b.length ≤ 2 ^ 16 →
    s.engOn e = true →
    exec (.hostBar2Write (0x8000000 + e * 2 ^ 16 + x) b) s = .next (s.updEngine e (fun y => { y with ldm := y.ldm.writeN x b }))) ∧
  (∀ (c x : Nat) (b : List Byte) (s : State),
    x < 2 ^ 24 →
    c < 8 →
    2 ^ 23 ≤ x ∨ s.nClusters ≤ c →
    exec (.hostBar2Write (c * 2 ^ 24 + x) b) s = .next s)

/-- Transactions of the debug wire: reads, writes, wakes, checks, levels, repeats (18_debug_and_test.md, The debug wire, 18_debug_and_test.md, Levels and access). -/
def Obligations.DebugWire : Prop :=
  -- DEBUG_READ of a register that every level may read, without side effects
  (∀ (f : DbgFrame) (s : State),
    s.pwr.hold ≠ .off →
    s.isSet Reg.DBG.STATUS.SESSION = true →
    f.cells = true →
    s.dbg.last = none →
    crc8 (frmBody f) 72 0 = f.crc.toNat →
    f.late = false →
    f.collide = false →
    frmOp f = 0 →
    frmSpace f = 0 →
    frmDestr f = false →
    f.addr.toNat % 4 = 0 →
    f.addr.toNat < 0x20000 →
    s.offPresent f.addr.toNat = true →
    s.offOn f.addr.toNat = true →
    exec (.debugRead f) s = .next (State.emit { s with dbg := { (s).dbg with last := some (frmBits f, 0, (s.view f.addr.toNat)) } } (.debugRsp 0 (s.view f.addr.toNat)))) ∧
  -- DEBUG_WRITE of a register at level 2
  (∀ (f : DbgFrame) (s : State),
    s.pwr.hold ≠ .off →
    s.isSet Reg.DBG.STATUS.SESSION = true →
    f.cells = true →
    s.dbg.last = none →
    crc8 (frmBody f) 72 0 = f.crc.toNat →
    f.late = false →
    f.collide = false →
    frmOp f = 1 →
    frmSpace f = 0 →
    s.dbgLevel = 2 →
    f.addr.toNat % 4 = 0 →
    f.addr.toNat < 0x2000000 →
    s.offPresent f.addr.toNat = true →
    s.offOn f.addr.toNat = true →
    exec (.debugWrite f) s = .next (State.emit { (s.busWrite 6 f.addr.toNat f.data.toNat) with dbg := { ((s.busWrite 6 f.addr.toNat f.data.toNat)).dbg with last := some (frmBits f, 0, 0) } } (.debugRsp 0 0))) ∧
  -- DEBUG_WAKE
  (∀ (f : DbgFrame) (s : State),
    s.pwr.hold ≠ .off →
    s.isSet Reg.DBG.STATUS.SESSION = true →
    f.cells = true →
    s.dbg.last = none →
    crc8 (frmBody f) 72 0 = f.crc.toNat →
    f.late = false →
    f.collide = false →
    frmOp f = 2 →
    f.addr = 0 →
    exec (.debugWake f) s = .next (State.emit { s.wakeUp with dbg := { (s.wakeUp).dbg with last := some (frmBits f, 0, 0) } } (.debugRsp 0 0))) ∧
  -- A write that level 0 does not allow
  (∀ (f : DbgFrame) (s : State),
    s.pwr.hold ≠ .off →
    s.isSet Reg.DBG.STATUS.SESSION = true →
    f.cells = true →
    s.dbg.last = none →
    crc8 (frmBody f) 72 0 = f.crc.toNat →
    f.late = false →
    f.collide = false →
    frmOp f = 1 →
    frmSpace f = 0 →
    s.dbgLevel = 0 →
    f.addr.toNat % 4 = 0 →
    f.addr.toNat < 0xE0000 →
    exec (.debugWrite f) s = .next (State.emit { s with dbg := { (s).dbg with last := some (frmBits f, 1, 0) } } (.debugRsp 1 0))) ∧
  -- A bad CRC; a reserved operation
  (∀ (f : DbgFrame) (s : State),
    s.pwr.hold ≠ .off →
    s.isSet Reg.DBG.STATUS.SESSION = true →
    f.cells = true →
    s.dbg.last = none →
    f.collide = false →
    frmOp f = 0 →
    crc8 (frmBody f) 72 0 ≠ f.crc.toNat →
    exec (.debugRead f) s = .next (State.emit { s with dbg := { (s).dbg with last := some (frmBits f, 5, 0) } } (.debugRsp 5 0))) ∧
  (∀ (f : DbgFrame) (s : State),
    s.pwr.hold ≠ .off →
    s.isSet Reg.DBG.STATUS.SESSION = true →
    f.cells = true →
    s.dbg.last = none →
    crc8 (frmBody f) 72 0 = f.crc.toNat →
    f.late = false →
    f.collide = false →
    frmOp f = 3 →
    exec (.debugRead f) s = .next (State.emit { s with dbg := { (s).dbg with last := some (frmBits f, 4, 0) } } (.debugRsp 4 0))) ∧
  -- A repeat; a broken cell; a session that is not open
  (∀ (f : DbgFrame) (st : Nat) (d : Word) (s : State),
    s.pwr.hold ≠ .off →
    s.isSet Reg.DBG.STATUS.SESSION = true →
    f.cells = true →
    f.collide = false →
    frmOp f = 1 →
    s.dbg.last = some (frmBits f, st, d) →
    exec (.debugWrite f) s = .next (s.emit (.debugRsp st d))) ∧
  (∀ (f : DbgFrame) (s : State),
    s.pwr.hold ≠ .off →
    s.isSet Reg.DBG.STATUS.SESSION = true →
    f.cells = false →
    frmOp f = 1 →
    exec (.debugWrite f) s = .next ((s.bump Reg.DBG.STATUS.FRAME_CNT).evt Reg.DBG.EVENT.FRAME_ERR)) ∧
  (∀ (f : DbgFrame) (s : State),
    s.isSet Reg.DBG.STATUS.SESSION = false →
    exec (.debugWrite f) s = .next s ∧ exec (.debugRead f) s = .next s ∧ exec (.debugWake f) s = .next s)

/-- A debug transaction equal to the latest in all 80 bits is answered from the kept record, without repeating the access (R533). -/
def Obligations.DebugRepeat : Prop :=
  -- The latest transaction is the one kept, with the response it got
  (∀ (f : DbgFrame) (s : State),
    s.pwr.hold ≠ .off →
    s.isSet Reg.DBG.STATUS.SESSION = true →
    f.cells = true →
    s.dbg.last.map (·.1) ≠ some (frmBits f) →
    ∃ (t : State) (st : Nat) (d : Word), (frmOp f = 0 ∨ frmOp f = 3 → exec (.debugRead f) s = .next t) ∧ (frmOp f = 1 → exec (.debugWrite f) s = .next t) ∧
      (frmOp f = 2 → exec (.debugWake f) s = .next t) ∧ (s.dbgRun f).2 = (st, d) ∧ t.dbg.last = some (frmBits f, st, d) ∧
      (f.collide = false → t.out = (s.dbgRun f).1.out ++ [.debugRsp st d])) ∧
  -- Sent again in all 80 bits, it is answered alike and nothing else changes
  (∀ (f : DbgFrame) (st : Nat) (d : Word) (s : State),
    s.pwr.hold ≠ .off →
    s.isSet Reg.DBG.STATUS.SESSION = true →
    f.cells = true →
    f.collide = false →
    s.dbg.last = some (frmBits f, st, d) →
    ((frmOp f = 0 ∨ frmOp f = 3) → exec (.debugRead f) s = .next (s.emit (.debugRsp st d))) ∧ (frmOp f = 1 → exec (.debugWrite f) s = .next (s.emit (.debugRsp st d))) ∧
      (frmOp f = 2 → exec (.debugWake f) s = .next (s.emit (.debugRsp st d))))

/-- Every lock is free or held by one master: reads of free and held locks, releases, violations, and who reaches which lock (R520). -/
def Obligations.LockRules : Prop :=
  -- A lock’s offset is that of one of the 256, or of one of the 32 of one of eight clusters
  (∀ (o : Nat),
    o % 4 = 0 →
    lockOff o = true ↔ (∃ n < 256, o = Reg.LK n) ∨ (∃ c < 8, ∃ n < 32, o = Reg.CLU.LK c n)) ∧
  -- A read of a free lock
  (∀ (m o : Nat) (s : State),
    s.offPresent o = true →
    s.offOn o = true →
    lockOff o = true →
    o % 4 = 0 →
    m ≠ 0 →
    m < 512 →
    m ≠ 6 →
    lockReach m o = true →
    (s.reg o).field 0 9 = 0 →
    ∃ t : State, exec (.lockRead m o) s = .next (t.emit (.readData m o 0)) ∧ t = s.setReg o (BitVec.ofNat 32 m) ∧ (t.reg o).field 0 9 = m) ∧
  -- A read of a held lock, its holder’s included
  (∀ (m o : Nat) (s : State),
    s.offPresent o = true →
    s.offOn o = true →
    lockOff o = true →
    o % 4 = 0 →
    m ≠ 0 →
    m < 512 →
    (s.reg o).field 0 9 ≠ 0 →
    ∃ w : Word, exec (.lockRead m o) s = .next (s.emit (.readData m o w)) ∧ w.toNat % 2 ^ 31 = (s.reg o).field 0 9 ∧ (w.toNat / 2 ^ 31 = 1 ↔ s.holderHalted ((s.reg o).field 0 9) = true)) ∧
  -- The holder writes 0
  (∀ (m o : Nat) (s : State),
    s.offPresent o = true →
    s.offOn o = true →
    lockOff o = true →
    o % 4 = 0 →
    m ≠ 0 →
    m < 512 →
    lockReach m o = true →
    (s.reg o).field 0 9 = m →
    exec (.lockWrite m o 0) s = .next (s.setReg o 0)) ∧
  -- Any other write
  (∀ (m o v : Nat) (s : State),
    s.offPresent o = true →
    s.offOn o = true →
    lockOff o = true →
    o % 4 = 0 →
    m ≠ 0 →
    m < 512 →
    (s.reg o).field 0 9 ≠ m ∨ v % 512 ≠ 0 →
    ∃ t : State, exec (.lockWrite m o v) s = .next t ∧ t = (s.wr ⟨lockStatus o, 0, 9⟩ m).bump ⟨lockStatus o, 16, 8⟩ ∧ (∀ k, lockOff k = true → t.reg k = s.reg k) ∧
      t.rd ⟨lockStatus o, 0, 9⟩ = m ∧ t.rd ⟨lockStatus o, 16, 8⟩ = (s.rd ⟨lockStatus o, 16, 8⟩ + 1) % 256) ∧
  -- Who reaches which lock: engine e is master 16 + e
  (∀ (e m n c : Nat),
    e < 256 →
    n < 256 →
    c < 8 →
    1 ≤ m →
    m < 16 ∨ 272 ≤ m →
    lockReach (16 + e) (Reg.LK n) = false ∧ (n < 32 → (lockReach (16 + e) (Reg.CLU.LK c n) = true ↔ c = e / 32)) ∧ lockReach m (Reg.LK n) = true)

/-- Every rounding shift rounds half up, exactly; s.rsh, v.sra.r, v.mul.r, m.ext and m.extr round, the others truncate (R252). -/
def Obligations.Rounding : Prop :=
  -- The value, for every integer and every amount
  (∀ (x k : Int) (n : Nat),
    1 ≤ n →
    roundShr x n = (x + 2 ^ (n - 1)) >>> n ∧ 2 ^ (n + 1) * roundShr x n ≤ 2 * x + 2 ^ n ∧ 2 * x + 2 ^ n < 2 ^ (n + 1) * (roundShr x n + 1) ∧
      roundShr (k * 2 ^ n + 2 ^ (n - 1)) n = k + 1) ∧
  (∀ (x : Int),
    roundShr x 0 = x) ∧
  -- The rule’s table: rounded and truncated
  (    (roundShr 5 1 = 3 ∧ (5 : Int) / 2 ^ 1 = 2) ∧ (roundShr (-5) 1 = -2 ∧ (-5 : Int) / 2 ^ 1 = -3) ∧ (roundShr (-11) 2 = -3 ∧ (-11 : Int) / 2 ^ 2 = -3) ∧
      (roundShr (-14) 2 = -3 ∧ (-14 : Int) / 2 ^ 2 = -4) ∧ (roundShr 8599552 14 = 525 ∧ (8599552 : Int) / 2 ^ 14 = 524)) ∧
  -- s.rsh and s.sra
  (∀ (e : Nat) (d a n b : BitVec 5) (s : State),
    s.clear e = true →
    n ≠ 0 →
    (∃ t, exec (.sRsh e false d a n) s = .next t ∧
        Passes e ((s.engine e).land (.sreg (!s.inHandler e) d.toNat (BitVec.ofInt 32 (roundShr (s.sreg e a).toInt n.toNat)))) s (s.nextPc e) t) ∧
      (∃ t, exec (.sSra e false d a b) s = .next t ∧
        Passes e ((s.engine e).land (.sreg (!s.inHandler e) d.toNat (BitVec.ofInt 32 ((s.sreg e a).toInt / 2 ^ ((s.sreg e b).toNat % 32))))) s (s.nextPc e) t)) ∧
  -- v.sra and v.mul
  (∀ (e : Nat) (m : BitVec 2) (d a b n : BitVec 5) (sat rnd bx : Bool) (s : State),
    s.clear e = true →
    m ≠ 3 →
    n.toNat < laneW m.toNat →
    (∃ t, exec (.vSra e false m d a n rnd bx) s = .next t ∧ Passes e { s.engine e with fly := vLand 1 d.toNat bx ⟨laneW m.toNat,
        (lanes (laneW m.toNat) (s.vreg e a)).map (fun x => if rnd then roundShr x n.toNat else x / 2 ^ n.toNat), false⟩ } s (s.nextPc e) t) ∧
      (∃ t, exec (.vMul e false m d a b n sat rnd bx) s = .next t ∧ Passes e { s.engine e with fly := vLand 1 d.toNat bx ⟨laneW m.toNat,
        List.zipWith (fun (x y : Int) => if rnd then roundShr (x * y) n.toNat else (x * y) / 2 ^ n.toNat) (lanes (laneW m.toNat) (s.vreg e a))
          (lanes (laneW m.toNat) (s.vreg e b)), sat⟩ } s (s.nextPc e) t)) ∧
  -- m.ext, m.extr
  (∀ (e : Nat) (d b : BitVec 5) (ac : BitVec 2) (n : BitVec 6) (bx : Bool) (s : State),
    s.clear e = true →
    n.toNat ≤ 47 →
    (∃ t, exec (.mExt e false d ac n bx) s = .next t ∧ Passes e { s.engine e with
        fly := vLand 3 d.toNat bx ⟨16, (s.acc e ac).map (fun x => roundShr x n.toNat), true⟩ } s (s.nextPc e) t) ∧
      (∃ t, exec (.mExtr e false d ac b bx) s = .next t ∧ Passes e { s.engine e with
        fly := vLand 3 d.toNat bx ⟨16, (s.acc e ac).map (fun x => roundShr x (min ((s.sreg e b).toNat % 64) 47)), true⟩ } s (s.nextPc e) t))

/-- Commands applied at one boundary go in order of tick of effect, then of receipt; none is dropped, and those of later ticks wait (03_commands.md, Order, timing and replies). -/
def Obligations.DueOrder : Prop :=
  (∀ (l : List Due),
    (sortDue l).Perm l ∧ (sortDue l).Pairwise (fun a b => b.before a = false) ∧ (∀ x : Nat × Nat × Nat, (sortDue l).filter (fun d => d.eff == x.1 && d.stamp == x.2) = l.filter (fun d => d.eff == x.1 && d.stamp == x.2))) ∧
  -- The order: tick of effect, then time of receipt, then transport
  (∀ (a b : Due),
    b.before a = true ↔ b.eff < a.eff ∨ (b.eff = a.eff ∧ (b.stamp.1 < a.stamp.1 ∨ (b.stamp.1 = a.stamp.1 ∧ b.stamp.2 < a.stamp.2)))) ∧
  (∀ (d : Due) (s : State),
    d ∈ s.dueNow ↔ (d ∈ s.due ∧ d.eff ≤ s.now)) ∧
  -- What goes with one kind
  (∀ (k : Act → Bool) (l : List Due),
    ∃ r, l = uptoLast k l ++ r ∧ r.any (fun d => k d.act) = false ∧ (l.any (fun d => k d.act) = true → ∃ d, (uptoLast k l).getLast? = some d ∧ k d.act = true) ∧ (l.any (fun d => k d.act) = false → uptoLast k l = [])) ∧
  -- Applying it: what goes with the kind is applied in order, the rest of what is due and what is not waits
  (∀ (k : Act → Bool) (s : State),
    s.dueNow.any (fun d => k d.act) = true →
    ∃ t : State, t = (uptoLast k s.dueNow).foldl State.applyOne { s with due := s.due.filter (fun d => !decide (d.eff ≤ s.now)) ++ s.dueNow.drop (uptoLast k s.dueNow).length } ∧
      s.applyDue k = if (uptoLast k s.dueNow).any (fun d => d.act.ledgered) then t.settle else t) ∧
  (∀ (k : Act → Bool) (s : State),
    s.dueNow.any (fun d => k d.act) = false →
    s.applyDue k = s) ∧
  (∀ (t e : Nat),
    (effTick t e).1 = (if t = 0 then e else max t e) ∧ ((effTick t e).2 = Sts.later ↔ t ≠ 0 ∧ t < e) ∧ ((effTick t e).2 = Sts.ok ↔ t = 0 ∨ e ≤ t))
end

