-- ==== Sys2Proof/Laws/Command.lean ====
section
/-! SUPPORT. Laws of the command gate and of answers. -/

namespace Sys2Proof.Machine

/-! Noting a command's receipt changes nothing that a command reads. -/

@[simp] theorem State.stamped_pending (s : State) (h : Hdr) : (s.stamped h).pending = s.pending := rfl
@[simp] theorem State.stamped_regs (s : State) (h : Hdr) : (s.stamped h).regs = s.regs := rfl
@[simp] theorem State.stamped_ident (s : State) (h : Hdr) : (s.stamped h).ident = s.ident := rfl
@[simp] theorem State.stamped_straps (s : State) (h : Hdr) : (s.stamped h).straps = s.straps := rfl
@[simp] theorem State.stamped_hostMem (s : State) (h : Hdr) : (s.stamped h).hostMem = s.hostMem := rfl
@[simp] theorem State.stamped_tick (s : State) (h : Hdr) : (s.stamped h).tick = s.tick := rfl
@[simp] theorem State.stamped_led (s : State) (h : Hdr) : (s.stamped h).led = s.led := rfl
@[simp] theorem State.stamped_strm (s : State) (h : Hdr) : (s.stamped h).strm = s.strm := rfl
@[simp] theorem State.stamped_lane (s : State) (h : Hdr) : (s.stamped h).lane = s.lane := rfl
@[simp] theorem State.stamped_take (s : State) (h : Hdr) : (s.stamped h).take = s.take := rfl
@[simp] theorem State.stamped_eng (s : State) (h : Hdr) : (s.stamped h).eng = s.eng := rfl
@[simp] theorem State.stamped_mesh (s : State) (h : Hdr) : (s.stamped h).mesh = s.mesh := rfl
@[simp] theorem State.stamped_twin (s : State) (h : Hdr) : (s.stamped h).twin = s.twin := rfl
@[simp] theorem State.stamped_boot (s : State) (h : Hdr) : (s.stamped h).boot = s.boot := rfl
@[simp] theorem State.stamped_dram (s : State) (h : Hdr) : (s.stamped h).dram = s.dram := rfl
@[simp] theorem State.stamped_integ (s : State) (h : Hdr) : (s.stamped h).integ = s.integ := rfl
@[simp] theorem State.stamped_sec (s : State) (h : Hdr) : (s.stamped h).sec = s.sec := rfl
@[simp] theorem State.stamped_pwr (s : State) (h : Hdr) : (s.stamped h).pwr = s.pwr := rfl
@[simp] theorem State.stamped_molt (s : State) (h : Hdr) : (s.stamped h).molt = s.molt := rfl
@[simp] theorem State.stamped_cells (s : State) (h : Hdr) : (s.stamped h).cells = s.cells := rfl
@[simp] theorem State.stamped_intc (s : State) (h : Hdr) : (s.stamped h).intc = s.intc := rfl
@[simp] theorem State.stamped_dbg (s : State) (h : Hdr) : (s.stamped h).dbg = s.dbg := rfl
@[simp] theorem State.stamped_due (s : State) (h : Hdr) : (s.stamped h).due = s.due := rfl
@[simp] theorem State.stamped_out (s : State) (h : Hdr) : (s.stamped h).out = s.out := rfl
@[simp] theorem State.stamped_freed (s : State) (h : Hdr) : (s.stamped h).freed = s.freed := rfl
@[simp] theorem State.stamped_reg (s : State) (h : Hdr) (o : Nat) : (s.stamped h).reg o = s.reg o := rfl
@[simp] theorem State.stamped_rd (s : State) (h : Hdr) (f : Fld) : (s.stamped h).rd f = s.rd f := rfl

/-- Where the block takes a command, its own body decides, on the state that has noted its receipt, and its answer is delivered. -/
theorem command_of_takes {op : Nat} {h : Hdr} {s : State} (p : List Byte) (body : Nat → State → Ans)
    (ht : s.takes op h = true) : command op h p body s = State.deliver h (body 0 (s.stamped h)) := by
  simp only [State.takes, Bool.and_eq_true, Bool.or_eq_true, Bool.not_eq_true', beq_iff_eq, decide_eq_true_eq,
    Option.isNone_iff_eq_none] at ht
  obtain ⟨⟨⟨⟨⟨⟨hf, he⟩, htg⟩, hl⟩, hc⟩, hu⟩, ha⟩ := ht
  have hp : s.paired = false := by simp [State.paired, hu]
  have hte : s.twinErr op h = none := by simp [State.twinErr, hp]
  have h1 : ¬ (h.target.toNat ≠ 0 ∧ h.target.toNat ≠ s.meshId) := by
    rcases htg with h0 | h0
    · simp [h0]
    · simp [h0]
  have h2 : ¬ (s.limited = true ∧ ¬ cocoonOp op = true) := by
    rcases hl with h0 | h0 <;> simp [h0]
  have hf' : (s.stamped h).isSet Reg.CMD.STATUS.FW_READY = true := hf
  have h1' : ¬ (h.target.toNat ≠ 0 ∧ h.target.toNat ≠ (s.stamped h).meshId) := h1
  have h2' : ¬ ((s.stamped h).limited = true ∧ ¬ cocoonOp op = true) := h2
  have hc' : (s.stamped h).coreHeld op h = false := hc
  have hu' : (s.stamped h).twinState = 0 := hu
  have hte' : (s.stamped h).twinErr op h = none := hte
  simp only [command]
  rw [if_neg (by simp [hf']), he]
  simp only [if_neg h1', if_neg h2']
  rw [if_neg (by simp [hc']), if_neg (by simp [hu'])]
  simp only [hte']
  simp [State.twinFinish, ha]

/-- A body with an answer at hand is delivered as that answer. -/
@[simp] theorem State.deliver_say (h : Hdr) (s : State) (st eff : Nat) (r : List Byte) :
    State.deliver h (Ans.say s st eff r) = s.answer h st eff r := rfl

@[simp] theorem State.deliver_err (h : Hdr) (s : State) (st : Nat) : State.deliver h (Ans.err s st) = s.answer h st 0 [] := rfl

@[simp] theorem State.deliver_ok (h : Hdr) (s : State) : State.deliver h (Ans.ok s) = s.answer h Sts.ok 0 [] := rfl

@[simp] theorem State.deliver_wait (h : Hdr) (s : State) : State.deliver h (Ans.wait s) = s := rfl

/-- With every refusal's condition false the command goes on. -/
theorem Ans.check_pass (s : State) (l : List (Bool × Nat)) (go : Ans) (h : ∀ c ∈ l, c.1 = false) : Ans.check s l go = go := by
  have : firstErr l = none := by
    induction l with
    | nil => rfl
    | cons c t ih =>
      obtain ⟨b, e⟩ := c
      have hb : b = false := h (b, e) (by simp)
      simp only [firstErr, hb]
      exact ih (fun c hc => h c (by simp [hc]))
  simp [Ans.check, this]

/-- Every command row runs the one command gate with its own body. -/
theorem exec_row {i : Instr} {op : Nat} {h : Hdr} {p : List Byte} (hr : rowCommand i = some (op, h, p)) (s : State) :
    ∃ body, exec i s = .next (command op h p body s) := by
  cases i <;> cases hr <;> exact ⟨_, rfl⟩

end Sys2Proof.Machine
end

