-- ==== Sys2Proof/Laws/Maps.lean ====
section
/-! SUPPORT. Laws of sparse maps and byte memories: reading back a write, leaving other keys alone, keeping the canonical
form. -/

namespace Sys2Proof.Machine

variable {α : Type}

theorem SMap.get_erase_same (d : Nat → α) (m : SMap α) (k : Nat) : SMap.get d (SMap.erase k m) k = d k := by
  induction m with
  | nil => rfl
  | cons e m ih =>
    obtain ⟨k', v'⟩ := e
    by_cases h : k' = k <;> simp [SMap.erase, SMap.get, h, ih]

theorem SMap.get_erase_other (d : Nat → α) (m : SMap α) {k j : Nat} (h : j ≠ k) :
    SMap.get d (SMap.erase k m) j = SMap.get d m j := by
  induction m with
  | nil => rfl
  | cons e m ih =>
    obtain ⟨k', v'⟩ := e
    by_cases hk : k' = k
    · simp [SMap.erase, SMap.get, hk, ih, Ne.symm h]
    · simp [SMap.erase, SMap.get, hk, ih]

theorem SMap.get_insert_same (d : Nat → α) (m : SMap α) (k : Nat) (v : α) : SMap.get d (SMap.insert k v m) k = v := by
  induction m with
  | nil => simp [SMap.insert, SMap.get]
  | cons e m ih =>
    obtain ⟨k', v'⟩ := e
    by_cases h1 : k < k'
    · simp [SMap.insert, SMap.get, h1]
    · by_cases h2 : k = k'
      · simp [SMap.insert, SMap.get, h2]
      · simp [SMap.insert, SMap.get, h1, h2, ih, Ne.symm h2]

theorem SMap.get_insert_other (d : Nat → α) (m : SMap α) {k j : Nat} (v : α) (h : j ≠ k) :
    SMap.get d (SMap.insert k v m) j = SMap.get d m j := by
  induction m with
  | nil => simp [SMap.insert, SMap.get, Ne.symm h]
  | cons e m ih =>
    obtain ⟨k', v'⟩ := e
    by_cases h1 : k < k'
    · simp [SMap.insert, SMap.get, h1, Ne.symm h]
    · by_cases h2 : k = k'
      · subst h2; simp [SMap.insert, SMap.get, Ne.symm h]
      · simp [SMap.insert, SMap.get, h1, h2, ih]

variable [DecidableEq α]

/-- A write reads back. -/
@[simp] theorem SMap.get_set_same (d : Nat → α) (m : SMap α) (k : Nat) (v : α) : SMap.get d (SMap.set d m k v) k = v := by
  by_cases h : v = d k
  · rw [SMap.set, if_pos h, SMap.get_erase_same, h]
  · rw [SMap.set, if_neg h, SMap.get_insert_same]

/-- A write leaves every other key alone. -/
theorem SMap.get_set_other (d : Nat → α) (m : SMap α) {k j : Nat} (v : α) (h : j ≠ k) :
    SMap.get d (SMap.set d m k v) j = SMap.get d m j := by
  by_cases hv : v = d k
  · rw [SMap.set, if_pos hv, SMap.get_erase_other d m h]
  · rw [SMap.set, if_neg hv, SMap.get_insert_other d m v h]

/-! ## The canonical form -/

/-- Every key of a map is above a bound. -/
def SMap.above (b : Nat) (m : SMap α) : Prop := ∀ e ∈ m, b < e.1

omit [DecidableEq α] in
theorem SMap.above_erase {b k : Nat} {m : SMap α} (h : SMap.above b m) : SMap.above b (SMap.erase k m) := by
  induction m with
  | nil => simpa [SMap.erase]
  | cons e m ih =>
    obtain ⟨k', v'⟩ := e
    have h1 : b < k' := h (k', v') (by simp)
    have h2 : SMap.above b m := fun e he => h e (by simp [he])
    by_cases hk : k' = k
    · simpa [SMap.erase, hk] using ih h2
    · intro e he
      simp only [SMap.erase, if_neg hk, List.mem_cons] at he
      rcases he with rfl | he
      · exact h1
      · exact ih h2 e he

omit [DecidableEq α] in
theorem SMap.above_insert {b k : Nat} {v : α} {m : SMap α} (h : SMap.above b m) (hb : b < k) :
    SMap.above b (SMap.insert k v m) := by
  induction m with
  | nil => intro e he; simp only [SMap.insert, List.mem_singleton] at he; simpa [he] using hb
  | cons e m ih =>
    obtain ⟨k', v'⟩ := e
    have h1 : b < k' := h (k', v') (by simp)
    have h2 : SMap.above b m := fun e he => h e (by simp [he])
    intro x hx
    simp only [SMap.insert] at hx
    split at hx
    · simp only [List.mem_cons] at hx
      rcases hx with rfl | rfl | hx
      · exact hb
      · exact h1
      · exact h2 x hx
    · split at hx
      · simp only [List.mem_cons] at hx
        rcases hx with rfl | hx
        · exact hb
        · exact h2 x hx
      · simp only [List.mem_cons] at hx
        rcases hx with rfl | hx
        · exact h1
        · exact ih h2 x hx

/-- The canonical form of a map with a first entry, spelled out. -/
theorem SMap.wf_cons (d : Nat → α) (k : Nat) (v : α) (m : SMap α) :
    SMap.wf d ((k, v) :: m) = true ↔ v ≠ d k ∧ SMap.above k m ∧ SMap.wf d m = true := by
  induction m generalizing k v with
  | nil => simp [SMap.wf, SMap.above]
  | cons e m ih =>
    obtain ⟨k', v'⟩ := e
    simp only [SMap.wf, Bool.and_eq_true, Bool.not_eq_true', decide_eq_false_iff_not, decide_eq_true_eq, and_assoc]
    constructor
    · rintro ⟨h1, h2, h3⟩
      refine ⟨h1, ?_, h3⟩
      have h4 := ((ih k' v').1 h3).2.1
      intro e he
      simp only [List.mem_cons] at he
      rcases he with rfl | he
      · exact h2
      · exact Nat.lt_trans h2 (h4 e he)
    · rintro ⟨h1, h2, h3⟩
      exact ⟨h1, h2 (k', v') (by simp), h3⟩

theorem SMap.wf_erase (d : Nat → α) {m : SMap α} (k : Nat) (h : SMap.wf d m = true) : SMap.wf d (SMap.erase k m) = true := by
  induction m with
  | nil => rfl
  | cons e m ih =>
    obtain ⟨k', v'⟩ := e
    obtain ⟨h1, h2, h3⟩ := (SMap.wf_cons d k' v' m).1 h
    by_cases hk : k' = k
    · simpa [SMap.erase, hk] using ih h3
    · simp only [SMap.erase, if_neg hk]
      exact (SMap.wf_cons d k' v' _).2 ⟨h1, SMap.above_erase h2, ih h3⟩

theorem SMap.wf_insert (d : Nat → α) {m : SMap α} {k : Nat} {v : α} (h : SMap.wf d m = true) (hv : v ≠ d k) :
    SMap.wf d (SMap.insert k v m) = true := by
  induction m with
  | nil => simp [SMap.insert, SMap.wf, hv]
  | cons e m ih =>
    obtain ⟨k', v'⟩ := e
    obtain ⟨h1, h2, h3⟩ := (SMap.wf_cons d k' v' m).1 h
    simp only [SMap.insert]
    split
    · next hlt =>
      refine (SMap.wf_cons d k v _).2 ⟨hv, ?_, h⟩
      intro e he
      simp only [List.mem_cons] at he
      rcases he with rfl | he
      · exact hlt
      · exact Nat.lt_trans hlt (h2 e he)
    · split
      · next heq => subst heq; exact (SMap.wf_cons d k v _).2 ⟨hv, h2, h3⟩
      · next hlt hne =>
        have hk : k' < k := by omega
        exact (SMap.wf_cons d k' v' _).2 ⟨h1, SMap.above_insert h2 hk, ih h3⟩

/-- A write keeps the canonical form. -/
theorem SMap.wf_set (d : Nat → α) {m : SMap α} (k : Nat) (v : α) (h : SMap.wf d m = true) : SMap.wf d (SMap.set d m k v) = true := by
  by_cases hv : v = d k
  · simpa [SMap.set, if_pos hv] using SMap.wf_erase d k h
  · simpa [SMap.set, if_neg hv] using SMap.wf_insert d h hv

theorem SMap.wf_upd (d : Nat → α) {m : SMap α} (k : Nat) (f : α → α) (h : SMap.wf d m = true) :
    SMap.wf d (SMap.upd d m k f) = true := SMap.wf_set d k _ h

theorem SMap.wf_filter (d : Nat → α) {m : SMap α} (p : Nat × α → Bool) (h : SMap.wf d m = true) :
    SMap.wf d (m.filter p) = true := by
  induction m with
  | nil => rfl
  | cons e m ih =>
    obtain ⟨k', v'⟩ := e
    obtain ⟨h1, h2, h3⟩ := (SMap.wf_cons d k' v' m).1 h
    simp only [List.filter_cons]
    split
    · exact (SMap.wf_cons d k' v' _).2 ⟨h1, fun e he => h2 e (List.mem_filter.1 he).1, ih h3⟩
    · exact ih h3

theorem SMap.wf_keep (d : Nat → α) {m : SMap α} (p : Nat → Bool) (h : SMap.wf d m = true) : SMap.wf d (SMap.keep p m) = true :=
  SMap.wf_filter d _ h

theorem SMap.wf_mapAll (d : Nat → α) (f : Nat → α → α) {m : SMap α} (h : SMap.wf d m = true) :
    SMap.wf d (SMap.mapAll d f m) = true := by
  induction m with
  | nil => rfl
  | cons e m ih =>
    obtain ⟨k', v'⟩ := e
    obtain ⟨_, h2, h3⟩ := (SMap.wf_cons d k' v' m).1 h
    have ih' := ih h3
    simp only [SMap.mapAll, List.map_cons, List.filter_cons] at ih' ⊢
    split
    · next hne =>
      refine (SMap.wf_cons d k' _ _).2 ⟨by simpa using hne, ?_, ih'⟩
      intro e he
      obtain ⟨x, hx, rfl⟩ := List.mem_map.1 (List.mem_filter.1 he).1
      exact h2 x hx
    · exact ih'

/-! ## Byte memories -/

/-- A byte written reads back. -/
@[simp] theorem Memory.read_write_same (m : Memory) (a : Nat) (b : Byte) : (Memory.write m a b).read a = b :=
  SMap.get_set_same _ _ _ _

/-- A byte write leaves every other byte alone. -/
theorem Memory.read_write_other (m : Memory) {a j : Nat} (b : Byte) (h : j ≠ a) : (Memory.write m a b).read j = m.read j :=
  SMap.get_set_other _ _ _ h

theorem Memory.wf_write {m : Memory} (a : Nat) (b : Byte) (h : m.wf = true) : (Memory.write m a b).wf = true :=
  SMap.wf_set _ _ _ h

/-- A write of bytes leaves every byte outside them alone. -/
theorem Memory.read_writeN_other (m : Memory) (a : Nat) (l : List Byte) {j : Nat} (h : j < a ∨ a + l.length ≤ j) :
    (Memory.writeN m a l).read j = m.read j := by
  induction l generalizing m a with
  | nil => rfl
  | cons b bs ih =>
    simp only [List.length_cons] at h
    rw [Memory.writeN, ih _ _ (by omega), Memory.read_write_other _ _ (by omega)]

/-- A write of bytes reads back, byte by byte. -/
theorem Memory.read_writeN (m : Memory) (a : Nat) (l : List Byte) {i : Nat} (h : i < l.length) :
    (Memory.writeN m a l).read (a + i) = l[i] := by
  induction l generalizing m a i with
  | nil => simp at h
  | cons b bs ih =>
    cases i with
    | zero => rw [Memory.writeN, Memory.read_writeN_other _ _ _ (by omega)]; simp
    | succ i =>
      simp only [List.length_cons] at h
      have := ih (Memory.write m a b) (a + 1) (i := i) (by omega)
      rw [Memory.writeN, show a + (i + 1) = a + 1 + i by omega, this]
      simp

/-- A write of bytes keeps the canonical form. -/
theorem Memory.wf_writeN {m : Memory} (a : Nat) (l : List Byte) (h : m.wf = true) : (Memory.writeN m a l).wf = true := by
  induction l generalizing m a with
  | nil => exact h
  | cons b bs ih => exact ih _ (Memory.wf_write a b h)

end Sys2Proof.Machine
end

