-- ==== Sys2Proof/Laws/Fields.lean ====
section
/-! SUPPORT. Laws of register fields: a field written reads back cut to its width; a write leaves other registers, and the other
fields of its register, alone. -/

namespace Sys2Proof

/-- The part of a replaced word up to the top of the field lies below it. -/
theorem Word.putField_low (a x l n : Nat) : a % 2 ^ l + x % 2 ^ n * 2 ^ l < 2 ^ (l + n) := by
  have hl : a % 2 ^ l < 2 ^ l := Nat.mod_lt _ (Nat.two_pow_pos l)
  have hx : x % 2 ^ n < 2 ^ n := Nat.mod_lt _ (Nat.two_pow_pos n)
  rw [Nat.pow_add]
  calc
    a % 2 ^ l + x % 2 ^ n * 2 ^ l < 2 ^ l + x % 2 ^ n * 2 ^ l := Nat.add_lt_add_right hl _
    _ = (1 + x % 2 ^ n) * 2 ^ l := by ring
    _ ≤ 2 ^ n * 2 ^ l := Nat.mul_le_mul_right _ (by omega)
    _ = 2 ^ l * 2 ^ n := Nat.mul_comm _ _

/-- A word with a field replaced, as a number. -/
theorem Word.putField_toNat (w : Word) {l n : Nat} (x : Nat) (h : l + n ≤ 32) :
    (w.putField l n x).toNat = w.toNat % 2 ^ l + x % 2 ^ n * 2 ^ l + w.toNat / 2 ^ (l + n) * 2 ^ (l + n) := by
  have hw := w.isLt
  have h32 : (2 : Nat) ^ 32 = 2 ^ (l + n) * 2 ^ (32 - (l + n)) := by rw [← Nat.pow_add]; congr 1; omega
  have hq : w.toNat / 2 ^ (l + n) < 2 ^ (32 - (l + n)) := by
    rw [Nat.div_lt_iff_lt_mul (Nat.two_pow_pos _), Nat.mul_comm, ← h32]; exact hw
  unfold Word.putField
  rw [Nat.mul_comm (2 ^ l), Nat.mul_comm (2 ^ (l + n)), BitVec.toNat_ofNat, Nat.mod_eq_of_lt]
  rw [h32]
  calc
    _ < 2 ^ (l + n) + w.toNat / 2 ^ (l + n) * 2 ^ (l + n) := Nat.add_lt_add_right (Word.putField_low _ _ _ _) _
    _ = (1 + w.toNat / 2 ^ (l + n)) * 2 ^ (l + n) := by ring
    _ ≤ 2 ^ (32 - (l + n)) * 2 ^ (l + n) := Nat.mul_le_mul_right _ (by omega)
    _ = _ := Nat.mul_comm _ _

/-- A field replaced reads as the lowest bits of what was put. -/
theorem Word.field_putField_same (w : Word) {l n : Nat} (x : Nat) (h : l + n ≤ 32) :
    (w.putField l n x).field l n = x % 2 ^ n := by
  have hl : w.toNat % 2 ^ l < 2 ^ l := Nat.mod_lt _ (Nat.two_pow_pos l)
  unfold Word.field
  rw [Word.putField_toNat w x h]
  have : w.toNat % 2 ^ l + x % 2 ^ n * 2 ^ l + w.toNat / 2 ^ (l + n) * 2 ^ (l + n) =
      w.toNat % 2 ^ l + 2 ^ l * (x % 2 ^ n + 2 ^ n * (w.toNat / 2 ^ (l + n))) := by
    rw [Nat.pow_add]; ring
  rw [this, Nat.add_mul_div_left _ _ (Nat.two_pow_pos l), Nat.div_eq_of_lt hl, Nat.zero_add, Nat.add_mul_mod_self_left, Nat.mod_mod]

/-- Another field of the word, below the one replaced, keeps its value. -/
theorem Word.field_putField_below (w : Word) {l n l' n' : Nat} (x : Nat) (h : l + n ≤ 32) (hd : l' + n' ≤ l) :
    (w.putField l n x).field l' n' = w.field l' n' := by
  unfold Word.field
  rw [Word.putField_toNat w x h]
  have hs : ∀ a b : Nat, (a % 2 ^ l + b * 2 ^ l) / 2 ^ l' % 2 ^ n' = a / 2 ^ l' % 2 ^ n' := by
    intro a b
    have e : (2 : Nat) ^ l = 2 ^ l' * (2 ^ n' * 2 ^ (l - l' - n')) := by
      rw [← Nat.pow_add, ← Nat.pow_add]; congr 1; omega
    have hmod : a % 2 ^ l / 2 ^ l' = a / 2 ^ l' % (2 ^ n' * 2 ^ (l - l' - n')) := by
      rw [e, Nat.mod_mul_right_div_self]
    have : a % 2 ^ l + b * 2 ^ l = a % 2 ^ l + 2 ^ l' * (b * (2 ^ n' * 2 ^ (l - l' - n'))) := by
      have e2 : b * 2 ^ l = 2 ^ l' * (b * (2 ^ n' * 2 ^ (l - l' - n'))) := by
        calc b * 2 ^ l = b * (2 ^ l' * (2 ^ n' * 2 ^ (l - l' - n'))) := by rw [← e]
          _ = _ := by ring
      rw [e2]
    rw [this, Nat.add_mul_div_left _ _ (Nat.two_pow_pos l'), hmod,
      show b * (2 ^ n' * 2 ^ (l - l' - n')) = 2 ^ n' * (b * 2 ^ (l - l' - n')) by ring, Nat.add_mul_mod_self_left,
      Nat.mod_mul_right_mod]
  have : w.toNat % 2 ^ l + x % 2 ^ n * 2 ^ l + w.toNat / 2 ^ (l + n) * 2 ^ (l + n) =
      w.toNat % 2 ^ l + (x % 2 ^ n + w.toNat / 2 ^ (l + n) * 2 ^ n) * 2 ^ l := by
    rw [Nat.pow_add]; ring
  rw [this, hs]

/-- Another field of the word, above the one replaced, keeps its value. -/
theorem Word.field_putField_above (w : Word) {l n l' n' : Nat} (x : Nat) (h : l + n ≤ 32) (hd : l + n ≤ l') :
    (w.putField l n x).field l' n' = w.field l' n' := by
  have h1 := Word.putField_low w.toNat x l n
  unfold Word.field
  rw [Word.putField_toNat w x h]
  have e2 : (2 : Nat) ^ l' = 2 ^ (l + n) * 2 ^ (l' - (l + n)) := by rw [← Nat.pow_add]; congr 1; omega
  rw [e2, ← Nat.div_div_eq_div_mul, ← Nat.div_div_eq_div_mul, Nat.add_mul_div_right _ _ (Nat.two_pow_pos _),
    Nat.div_eq_of_lt h1, Nat.zero_add]

end Sys2Proof

namespace Sys2Proof.Machine

/-- A register put reads back. -/
@[simp] theorem State.reg_setReg_same (s : State) (o : Nat) (v : Word) : (s.setReg o v).reg o = v := by
  simp [State.reg, State.setReg]

/-- Another register keeps its value. -/
theorem State.reg_setReg_other (s : State) {o o' : Nat} (v : Word) (h : o' ≠ o) : (s.setReg o v).reg o' = s.reg o' := by
  simp only [State.reg, State.setReg]
  exact SMap.get_set_other _ _ _ h

/-- A field of a register fits the word. -/
def fits32 (f : Fld) : Bool := decide (f.lsb + f.w ≤ 32)

/-- A field written reads as the lowest bits of what was written. -/
theorem State.rd_wr_same (s : State) (f : Fld) (v : Nat) (h : fits32 f = true) : (s.wr f v).rd f = v % 2 ^ f.w := by
  simp only [State.rd, State.wr, State.reg_setReg_same]
  exact Word.field_putField_same _ _ (by simpa [fits32] using h)

/-- A field of another register keeps its value. -/
theorem State.rd_wr_other (s : State) {f g : Fld} (v : Nat) (h : g.off ≠ f.off) : (s.wr f v).rd g = s.rd g := by
  simp only [State.rd, State.wr, State.reg_setReg_other _ _ h]

/-- Another field of the same register keeps its value. -/
theorem State.rd_wr_apart (s : State) {f g : Fld} (v : Nat) (h : fits32 f = true) (hd : g.lsb + g.w ≤ f.lsb ∨ f.lsb + f.w ≤ g.lsb) :
    (s.wr f v).rd g = s.rd g := by
  have h32 : f.lsb + f.w ≤ 32 := by simpa [fits32] using h
  by_cases ho : g.off = f.off
  · simp only [State.rd, State.wr, ho, State.reg_setReg_same]
    rcases hd with hd | hd
    · exact Word.field_putField_below _ _ h32 hd
    · exact Word.field_putField_above _ _ h32 hd
  · exact State.rd_wr_other s v ho

/-- A write of a field leaves every other register alone. -/
theorem State.reg_wr_other (s : State) (f : Fld) (v : Nat) {o : Nat} (h : o ≠ f.off) : (s.wr f v).reg o = s.reg o :=
  State.reg_setReg_other s _ h

/-- A register put keeps the register file's canonical form. -/
theorem State.regs_wf_setReg (s : State) (o : Nat) (v : Word) (h : SMap.wf resetWord s.regs = true) :
    SMap.wf resetWord (s.setReg o v).regs = true := SMap.wf_set _ _ _ h

end Sys2Proof.Machine
end

