-- ==== Sys2Proof/Laws/State.lean ====
section
/-! SUPPORT. What each named update of the state leaves alone: one lemma per field, true by unfolding the update. -/

namespace Sys2Proof.Machine

variable (s : State)

/-! ## `setReg` changes `regs` alone. -/

@[simp] theorem State.setReg_pending (o : Nat) (v : Word) : (s.setReg o v).pending = s.pending := by cases s; rfl
@[simp] theorem State.setReg_ident (o : Nat) (v : Word) : (s.setReg o v).ident = s.ident := by cases s; rfl
@[simp] theorem State.setReg_straps (o : Nat) (v : Word) : (s.setReg o v).straps = s.straps := by cases s; rfl
@[simp] theorem State.setReg_hostMem (o : Nat) (v : Word) : (s.setReg o v).hostMem = s.hostMem := by cases s; rfl
@[simp] theorem State.setReg_tick (o : Nat) (v : Word) : (s.setReg o v).tick = s.tick := by cases s; rfl
@[simp] theorem State.setReg_led (o : Nat) (v : Word) : (s.setReg o v).led = s.led := by cases s; rfl
@[simp] theorem State.setReg_strm (o : Nat) (v : Word) : (s.setReg o v).strm = s.strm := by cases s; rfl
@[simp] theorem State.setReg_lane (o : Nat) (v : Word) : (s.setReg o v).lane = s.lane := by cases s; rfl
@[simp] theorem State.setReg_take (o : Nat) (v : Word) : (s.setReg o v).take = s.take := by cases s; rfl
@[simp] theorem State.setReg_eng (o : Nat) (v : Word) : (s.setReg o v).eng = s.eng := by cases s; rfl
@[simp] theorem State.setReg_mesh (o : Nat) (v : Word) : (s.setReg o v).mesh = s.mesh := by cases s; rfl
@[simp] theorem State.setReg_twin (o : Nat) (v : Word) : (s.setReg o v).twin = s.twin := by cases s; rfl
@[simp] theorem State.setReg_xp (o : Nat) (v : Word) : (s.setReg o v).xp = s.xp := by cases s; rfl
@[simp] theorem State.setReg_boot (o : Nat) (v : Word) : (s.setReg o v).boot = s.boot := by cases s; rfl
@[simp] theorem State.setReg_dram (o : Nat) (v : Word) : (s.setReg o v).dram = s.dram := by cases s; rfl
@[simp] theorem State.setReg_integ (o : Nat) (v : Word) : (s.setReg o v).integ = s.integ := by cases s; rfl
@[simp] theorem State.setReg_sec (o : Nat) (v : Word) : (s.setReg o v).sec = s.sec := by cases s; rfl
@[simp] theorem State.setReg_pwr (o : Nat) (v : Word) : (s.setReg o v).pwr = s.pwr := by cases s; rfl
@[simp] theorem State.setReg_molt (o : Nat) (v : Word) : (s.setReg o v).molt = s.molt := by cases s; rfl
@[simp] theorem State.setReg_cells (o : Nat) (v : Word) : (s.setReg o v).cells = s.cells := by cases s; rfl
@[simp] theorem State.setReg_intc (o : Nat) (v : Word) : (s.setReg o v).intc = s.intc := by cases s; rfl
@[simp] theorem State.setReg_dbg (o : Nat) (v : Word) : (s.setReg o v).dbg = s.dbg := by cases s; rfl
@[simp] theorem State.setReg_due (o : Nat) (v : Word) : (s.setReg o v).due = s.due := by cases s; rfl
@[simp] theorem State.setReg_out (o : Nat) (v : Word) : (s.setReg o v).out = s.out := by cases s; rfl
@[simp] theorem State.setReg_freed (o : Nat) (v : Word) : (s.setReg o v).freed = s.freed := by cases s; rfl

/-! ## `wr` changes `regs` alone. -/

@[simp] theorem State.wr_pending (f : Fld) (v : Nat) : (s.wr f v).pending = s.pending := by cases s; rfl
@[simp] theorem State.wr_ident (f : Fld) (v : Nat) : (s.wr f v).ident = s.ident := by cases s; rfl
@[simp] theorem State.wr_straps (f : Fld) (v : Nat) : (s.wr f v).straps = s.straps := by cases s; rfl
@[simp] theorem State.wr_hostMem (f : Fld) (v : Nat) : (s.wr f v).hostMem = s.hostMem := by cases s; rfl
@[simp] theorem State.wr_tick (f : Fld) (v : Nat) : (s.wr f v).tick = s.tick := by cases s; rfl
@[simp] theorem State.wr_led (f : Fld) (v : Nat) : (s.wr f v).led = s.led := by cases s; rfl
@[simp] theorem State.wr_strm (f : Fld) (v : Nat) : (s.wr f v).strm = s.strm := by cases s; rfl
@[simp] theorem State.wr_lane (f : Fld) (v : Nat) : (s.wr f v).lane = s.lane := by cases s; rfl
@[simp] theorem State.wr_take (f : Fld) (v : Nat) : (s.wr f v).take = s.take := by cases s; rfl
@[simp] theorem State.wr_eng (f : Fld) (v : Nat) : (s.wr f v).eng = s.eng := by cases s; rfl
@[simp] theorem State.wr_mesh (f : Fld) (v : Nat) : (s.wr f v).mesh = s.mesh := by cases s; rfl
@[simp] theorem State.wr_twin (f : Fld) (v : Nat) : (s.wr f v).twin = s.twin := by cases s; rfl
@[simp] theorem State.wr_xp (f : Fld) (v : Nat) : (s.wr f v).xp = s.xp := by cases s; rfl
@[simp] theorem State.wr_boot (f : Fld) (v : Nat) : (s.wr f v).boot = s.boot := by cases s; rfl
@[simp] theorem State.wr_dram (f : Fld) (v : Nat) : (s.wr f v).dram = s.dram := by cases s; rfl
@[simp] theorem State.wr_integ (f : Fld) (v : Nat) : (s.wr f v).integ = s.integ := by cases s; rfl
@[simp] theorem State.wr_sec (f : Fld) (v : Nat) : (s.wr f v).sec = s.sec := by cases s; rfl
@[simp] theorem State.wr_pwr (f : Fld) (v : Nat) : (s.wr f v).pwr = s.pwr := by cases s; rfl
@[simp] theorem State.wr_molt (f : Fld) (v : Nat) : (s.wr f v).molt = s.molt := by cases s; rfl
@[simp] theorem State.wr_cells (f : Fld) (v : Nat) : (s.wr f v).cells = s.cells := by cases s; rfl
@[simp] theorem State.wr_intc (f : Fld) (v : Nat) : (s.wr f v).intc = s.intc := by cases s; rfl
@[simp] theorem State.wr_dbg (f : Fld) (v : Nat) : (s.wr f v).dbg = s.dbg := by cases s; rfl
@[simp] theorem State.wr_due (f : Fld) (v : Nat) : (s.wr f v).due = s.due := by cases s; rfl
@[simp] theorem State.wr_out (f : Fld) (v : Nat) : (s.wr f v).out = s.out := by cases s; rfl
@[simp] theorem State.wr_freed (f : Fld) (v : Nat) : (s.wr f v).freed = s.freed := by cases s; rfl

/-! ## `evt` changes `regs` alone. -/

@[simp] theorem State.evt_pending (f : Fld) : (s.evt f).pending = s.pending := by cases s; rfl
@[simp] theorem State.evt_ident (f : Fld) : (s.evt f).ident = s.ident := by cases s; rfl
@[simp] theorem State.evt_straps (f : Fld) : (s.evt f).straps = s.straps := by cases s; rfl
@[simp] theorem State.evt_hostMem (f : Fld) : (s.evt f).hostMem = s.hostMem := by cases s; rfl
@[simp] theorem State.evt_tick (f : Fld) : (s.evt f).tick = s.tick := by cases s; rfl
@[simp] theorem State.evt_led (f : Fld) : (s.evt f).led = s.led := by cases s; rfl
@[simp] theorem State.evt_strm (f : Fld) : (s.evt f).strm = s.strm := by cases s; rfl
@[simp] theorem State.evt_lane (f : Fld) : (s.evt f).lane = s.lane := by cases s; rfl
@[simp] theorem State.evt_take (f : Fld) : (s.evt f).take = s.take := by cases s; rfl
@[simp] theorem State.evt_eng (f : Fld) : (s.evt f).eng = s.eng := by cases s; rfl
@[simp] theorem State.evt_mesh (f : Fld) : (s.evt f).mesh = s.mesh := by cases s; rfl
@[simp] theorem State.evt_twin (f : Fld) : (s.evt f).twin = s.twin := by cases s; rfl
@[simp] theorem State.evt_xp (f : Fld) : (s.evt f).xp = s.xp := by cases s; rfl
@[simp] theorem State.evt_boot (f : Fld) : (s.evt f).boot = s.boot := by cases s; rfl
@[simp] theorem State.evt_dram (f : Fld) : (s.evt f).dram = s.dram := by cases s; rfl
@[simp] theorem State.evt_integ (f : Fld) : (s.evt f).integ = s.integ := by cases s; rfl
@[simp] theorem State.evt_sec (f : Fld) : (s.evt f).sec = s.sec := by cases s; rfl
@[simp] theorem State.evt_pwr (f : Fld) : (s.evt f).pwr = s.pwr := by cases s; rfl
@[simp] theorem State.evt_molt (f : Fld) : (s.evt f).molt = s.molt := by cases s; rfl
@[simp] theorem State.evt_cells (f : Fld) : (s.evt f).cells = s.cells := by cases s; rfl
@[simp] theorem State.evt_intc (f : Fld) : (s.evt f).intc = s.intc := by cases s; rfl
@[simp] theorem State.evt_dbg (f : Fld) : (s.evt f).dbg = s.dbg := by cases s; rfl
@[simp] theorem State.evt_due (f : Fld) : (s.evt f).due = s.due := by cases s; rfl
@[simp] theorem State.evt_out (f : Fld) : (s.evt f).out = s.out := by cases s; rfl
@[simp] theorem State.evt_freed (f : Fld) : (s.evt f).freed = s.freed := by cases s; rfl

/-! ## `evtBit` changes `regs` alone. -/

@[simp] theorem State.evtBit_pending (f : Fld) (i : Nat) : (s.evtBit f i).pending = s.pending := by cases s; rfl
@[simp] theorem State.evtBit_ident (f : Fld) (i : Nat) : (s.evtBit f i).ident = s.ident := by cases s; rfl
@[simp] theorem State.evtBit_straps (f : Fld) (i : Nat) : (s.evtBit f i).straps = s.straps := by cases s; rfl
@[simp] theorem State.evtBit_hostMem (f : Fld) (i : Nat) : (s.evtBit f i).hostMem = s.hostMem := by cases s; rfl
@[simp] theorem State.evtBit_tick (f : Fld) (i : Nat) : (s.evtBit f i).tick = s.tick := by cases s; rfl
@[simp] theorem State.evtBit_led (f : Fld) (i : Nat) : (s.evtBit f i).led = s.led := by cases s; rfl
@[simp] theorem State.evtBit_strm (f : Fld) (i : Nat) : (s.evtBit f i).strm = s.strm := by cases s; rfl
@[simp] theorem State.evtBit_lane (f : Fld) (i : Nat) : (s.evtBit f i).lane = s.lane := by cases s; rfl
@[simp] theorem State.evtBit_take (f : Fld) (i : Nat) : (s.evtBit f i).take = s.take := by cases s; rfl
@[simp] theorem State.evtBit_eng (f : Fld) (i : Nat) : (s.evtBit f i).eng = s.eng := by cases s; rfl
@[simp] theorem State.evtBit_mesh (f : Fld) (i : Nat) : (s.evtBit f i).mesh = s.mesh := by cases s; rfl
@[simp] theorem State.evtBit_twin (f : Fld) (i : Nat) : (s.evtBit f i).twin = s.twin := by cases s; rfl
@[simp] theorem State.evtBit_xp (f : Fld) (i : Nat) : (s.evtBit f i).xp = s.xp := by cases s; rfl
@[simp] theorem State.evtBit_boot (f : Fld) (i : Nat) : (s.evtBit f i).boot = s.boot := by cases s; rfl
@[simp] theorem State.evtBit_dram (f : Fld) (i : Nat) : (s.evtBit f i).dram = s.dram := by cases s; rfl
@[simp] theorem State.evtBit_integ (f : Fld) (i : Nat) : (s.evtBit f i).integ = s.integ := by cases s; rfl
@[simp] theorem State.evtBit_sec (f : Fld) (i : Nat) : (s.evtBit f i).sec = s.sec := by cases s; rfl
@[simp] theorem State.evtBit_pwr (f : Fld) (i : Nat) : (s.evtBit f i).pwr = s.pwr := by cases s; rfl
@[simp] theorem State.evtBit_molt (f : Fld) (i : Nat) : (s.evtBit f i).molt = s.molt := by cases s; rfl
@[simp] theorem State.evtBit_cells (f : Fld) (i : Nat) : (s.evtBit f i).cells = s.cells := by cases s; rfl
@[simp] theorem State.evtBit_intc (f : Fld) (i : Nat) : (s.evtBit f i).intc = s.intc := by cases s; rfl
@[simp] theorem State.evtBit_dbg (f : Fld) (i : Nat) : (s.evtBit f i).dbg = s.dbg := by cases s; rfl
@[simp] theorem State.evtBit_due (f : Fld) (i : Nat) : (s.evtBit f i).due = s.due := by cases s; rfl
@[simp] theorem State.evtBit_out (f : Fld) (i : Nat) : (s.evtBit f i).out = s.out := by cases s; rfl
@[simp] theorem State.evtBit_freed (f : Fld) (i : Nat) : (s.evtBit f i).freed = s.freed := by cases s; rfl

/-! ## `bump` changes `regs` alone. -/

@[simp] theorem State.bump_pending (f : Fld) : (s.bump f).pending = s.pending := by cases s; rfl
@[simp] theorem State.bump_ident (f : Fld) : (s.bump f).ident = s.ident := by cases s; rfl
@[simp] theorem State.bump_straps (f : Fld) : (s.bump f).straps = s.straps := by cases s; rfl
@[simp] theorem State.bump_hostMem (f : Fld) : (s.bump f).hostMem = s.hostMem := by cases s; rfl
@[simp] theorem State.bump_tick (f : Fld) : (s.bump f).tick = s.tick := by cases s; rfl
@[simp] theorem State.bump_led (f : Fld) : (s.bump f).led = s.led := by cases s; rfl
@[simp] theorem State.bump_strm (f : Fld) : (s.bump f).strm = s.strm := by cases s; rfl
@[simp] theorem State.bump_lane (f : Fld) : (s.bump f).lane = s.lane := by cases s; rfl
@[simp] theorem State.bump_take (f : Fld) : (s.bump f).take = s.take := by cases s; rfl
@[simp] theorem State.bump_eng (f : Fld) : (s.bump f).eng = s.eng := by cases s; rfl
@[simp] theorem State.bump_mesh (f : Fld) : (s.bump f).mesh = s.mesh := by cases s; rfl
@[simp] theorem State.bump_twin (f : Fld) : (s.bump f).twin = s.twin := by cases s; rfl
@[simp] theorem State.bump_xp (f : Fld) : (s.bump f).xp = s.xp := by cases s; rfl
@[simp] theorem State.bump_boot (f : Fld) : (s.bump f).boot = s.boot := by cases s; rfl
@[simp] theorem State.bump_dram (f : Fld) : (s.bump f).dram = s.dram := by cases s; rfl
@[simp] theorem State.bump_integ (f : Fld) : (s.bump f).integ = s.integ := by cases s; rfl
@[simp] theorem State.bump_sec (f : Fld) : (s.bump f).sec = s.sec := by cases s; rfl
@[simp] theorem State.bump_pwr (f : Fld) : (s.bump f).pwr = s.pwr := by cases s; rfl
@[simp] theorem State.bump_molt (f : Fld) : (s.bump f).molt = s.molt := by cases s; rfl
@[simp] theorem State.bump_cells (f : Fld) : (s.bump f).cells = s.cells := by cases s; rfl
@[simp] theorem State.bump_intc (f : Fld) : (s.bump f).intc = s.intc := by cases s; rfl
@[simp] theorem State.bump_dbg (f : Fld) : (s.bump f).dbg = s.dbg := by cases s; rfl
@[simp] theorem State.bump_due (f : Fld) : (s.bump f).due = s.due := by cases s; rfl
@[simp] theorem State.bump_out (f : Fld) : (s.bump f).out = s.out := by cases s; rfl
@[simp] theorem State.bump_freed (f : Fld) : (s.bump f).freed = s.freed := by cases s; rfl

/-! ## `bumpSat` changes `regs` alone. -/

@[simp] theorem State.bumpSat_pending (f : Fld) (n : Nat) : (s.bumpSat f n).pending = s.pending := by cases s; rfl
@[simp] theorem State.bumpSat_ident (f : Fld) (n : Nat) : (s.bumpSat f n).ident = s.ident := by cases s; rfl
@[simp] theorem State.bumpSat_straps (f : Fld) (n : Nat) : (s.bumpSat f n).straps = s.straps := by cases s; rfl
@[simp] theorem State.bumpSat_hostMem (f : Fld) (n : Nat) : (s.bumpSat f n).hostMem = s.hostMem := by cases s; rfl
@[simp] theorem State.bumpSat_tick (f : Fld) (n : Nat) : (s.bumpSat f n).tick = s.tick := by cases s; rfl
@[simp] theorem State.bumpSat_led (f : Fld) (n : Nat) : (s.bumpSat f n).led = s.led := by cases s; rfl
@[simp] theorem State.bumpSat_strm (f : Fld) (n : Nat) : (s.bumpSat f n).strm = s.strm := by cases s; rfl
@[simp] theorem State.bumpSat_lane (f : Fld) (n : Nat) : (s.bumpSat f n).lane = s.lane := by cases s; rfl
@[simp] theorem State.bumpSat_take (f : Fld) (n : Nat) : (s.bumpSat f n).take = s.take := by cases s; rfl
@[simp] theorem State.bumpSat_eng (f : Fld) (n : Nat) : (s.bumpSat f n).eng = s.eng := by cases s; rfl
@[simp] theorem State.bumpSat_mesh (f : Fld) (n : Nat) : (s.bumpSat f n).mesh = s.mesh := by cases s; rfl
@[simp] theorem State.bumpSat_twin (f : Fld) (n : Nat) : (s.bumpSat f n).twin = s.twin := by cases s; rfl
@[simp] theorem State.bumpSat_xp (f : Fld) (n : Nat) : (s.bumpSat f n).xp = s.xp := by cases s; rfl
@[simp] theorem State.bumpSat_boot (f : Fld) (n : Nat) : (s.bumpSat f n).boot = s.boot := by cases s; rfl
@[simp] theorem State.bumpSat_dram (f : Fld) (n : Nat) : (s.bumpSat f n).dram = s.dram := by cases s; rfl
@[simp] theorem State.bumpSat_integ (f : Fld) (n : Nat) : (s.bumpSat f n).integ = s.integ := by cases s; rfl
@[simp] theorem State.bumpSat_sec (f : Fld) (n : Nat) : (s.bumpSat f n).sec = s.sec := by cases s; rfl
@[simp] theorem State.bumpSat_pwr (f : Fld) (n : Nat) : (s.bumpSat f n).pwr = s.pwr := by cases s; rfl
@[simp] theorem State.bumpSat_molt (f : Fld) (n : Nat) : (s.bumpSat f n).molt = s.molt := by cases s; rfl
@[simp] theorem State.bumpSat_cells (f : Fld) (n : Nat) : (s.bumpSat f n).cells = s.cells := by cases s; rfl
@[simp] theorem State.bumpSat_intc (f : Fld) (n : Nat) : (s.bumpSat f n).intc = s.intc := by cases s; rfl
@[simp] theorem State.bumpSat_dbg (f : Fld) (n : Nat) : (s.bumpSat f n).dbg = s.dbg := by cases s; rfl
@[simp] theorem State.bumpSat_due (f : Fld) (n : Nat) : (s.bumpSat f n).due = s.due := by cases s; rfl
@[simp] theorem State.bumpSat_out (f : Fld) (n : Nat) : (s.bumpSat f n).out = s.out := by cases s; rfl
@[simp] theorem State.bumpSat_freed (f : Fld) (n : Nat) : (s.bumpSat f n).freed = s.freed := by cases s; rfl

/-! ## `flag` changes `regs` alone. -/

@[simp] theorem State.flag_pending (f : Fld) (b : Bool) : (s.flag f b).pending = s.pending := by cases s; rfl
@[simp] theorem State.flag_ident (f : Fld) (b : Bool) : (s.flag f b).ident = s.ident := by cases s; rfl
@[simp] theorem State.flag_straps (f : Fld) (b : Bool) : (s.flag f b).straps = s.straps := by cases s; rfl
@[simp] theorem State.flag_hostMem (f : Fld) (b : Bool) : (s.flag f b).hostMem = s.hostMem := by cases s; rfl
@[simp] theorem State.flag_tick (f : Fld) (b : Bool) : (s.flag f b).tick = s.tick := by cases s; rfl
@[simp] theorem State.flag_led (f : Fld) (b : Bool) : (s.flag f b).led = s.led := by cases s; rfl
@[simp] theorem State.flag_strm (f : Fld) (b : Bool) : (s.flag f b).strm = s.strm := by cases s; rfl
@[simp] theorem State.flag_lane (f : Fld) (b : Bool) : (s.flag f b).lane = s.lane := by cases s; rfl
@[simp] theorem State.flag_take (f : Fld) (b : Bool) : (s.flag f b).take = s.take := by cases s; rfl
@[simp] theorem State.flag_eng (f : Fld) (b : Bool) : (s.flag f b).eng = s.eng := by cases s; rfl
@[simp] theorem State.flag_mesh (f : Fld) (b : Bool) : (s.flag f b).mesh = s.mesh := by cases s; rfl
@[simp] theorem State.flag_twin (f : Fld) (b : Bool) : (s.flag f b).twin = s.twin := by cases s; rfl
@[simp] theorem State.flag_xp (f : Fld) (b : Bool) : (s.flag f b).xp = s.xp := by cases s; rfl
@[simp] theorem State.flag_boot (f : Fld) (b : Bool) : (s.flag f b).boot = s.boot := by cases s; rfl
@[simp] theorem State.flag_dram (f : Fld) (b : Bool) : (s.flag f b).dram = s.dram := by cases s; rfl
@[simp] theorem State.flag_integ (f : Fld) (b : Bool) : (s.flag f b).integ = s.integ := by cases s; rfl
@[simp] theorem State.flag_sec (f : Fld) (b : Bool) : (s.flag f b).sec = s.sec := by cases s; rfl
@[simp] theorem State.flag_pwr (f : Fld) (b : Bool) : (s.flag f b).pwr = s.pwr := by cases s; rfl
@[simp] theorem State.flag_molt (f : Fld) (b : Bool) : (s.flag f b).molt = s.molt := by cases s; rfl
@[simp] theorem State.flag_cells (f : Fld) (b : Bool) : (s.flag f b).cells = s.cells := by cases s; rfl
@[simp] theorem State.flag_intc (f : Fld) (b : Bool) : (s.flag f b).intc = s.intc := by cases s; rfl
@[simp] theorem State.flag_dbg (f : Fld) (b : Bool) : (s.flag f b).dbg = s.dbg := by cases s; rfl
@[simp] theorem State.flag_due (f : Fld) (b : Bool) : (s.flag f b).due = s.due := by cases s; rfl
@[simp] theorem State.flag_out (f : Fld) (b : Bool) : (s.flag f b).out = s.out := by cases s; rfl
@[simp] theorem State.flag_freed (f : Fld) (b : Bool) : (s.flag f b).freed = s.freed := by cases s; rfl

/-! ## `emit` changes `out` alone. -/

@[simp] theorem State.emit_pending (e : Emit) : (s.emit e).pending = s.pending := by cases s; rfl
@[simp] theorem State.emit_regs (e : Emit) : (s.emit e).regs = s.regs := by cases s; rfl
@[simp] theorem State.emit_ident (e : Emit) : (s.emit e).ident = s.ident := by cases s; rfl
@[simp] theorem State.emit_straps (e : Emit) : (s.emit e).straps = s.straps := by cases s; rfl
@[simp] theorem State.emit_hostMem (e : Emit) : (s.emit e).hostMem = s.hostMem := by cases s; rfl
@[simp] theorem State.emit_tick (e : Emit) : (s.emit e).tick = s.tick := by cases s; rfl
@[simp] theorem State.emit_led (e : Emit) : (s.emit e).led = s.led := by cases s; rfl
@[simp] theorem State.emit_strm (e : Emit) : (s.emit e).strm = s.strm := by cases s; rfl
@[simp] theorem State.emit_lane (e : Emit) : (s.emit e).lane = s.lane := by cases s; rfl
@[simp] theorem State.emit_take (e : Emit) : (s.emit e).take = s.take := by cases s; rfl
@[simp] theorem State.emit_eng (e : Emit) : (s.emit e).eng = s.eng := by cases s; rfl
@[simp] theorem State.emit_mesh (e : Emit) : (s.emit e).mesh = s.mesh := by cases s; rfl
@[simp] theorem State.emit_twin (e : Emit) : (s.emit e).twin = s.twin := by cases s; rfl
@[simp] theorem State.emit_xp (e : Emit) : (s.emit e).xp = s.xp := by cases s; rfl
@[simp] theorem State.emit_boot (e : Emit) : (s.emit e).boot = s.boot := by cases s; rfl
@[simp] theorem State.emit_dram (e : Emit) : (s.emit e).dram = s.dram := by cases s; rfl
@[simp] theorem State.emit_integ (e : Emit) : (s.emit e).integ = s.integ := by cases s; rfl
@[simp] theorem State.emit_sec (e : Emit) : (s.emit e).sec = s.sec := by cases s; rfl
@[simp] theorem State.emit_pwr (e : Emit) : (s.emit e).pwr = s.pwr := by cases s; rfl
@[simp] theorem State.emit_molt (e : Emit) : (s.emit e).molt = s.molt := by cases s; rfl
@[simp] theorem State.emit_cells (e : Emit) : (s.emit e).cells = s.cells := by cases s; rfl
@[simp] theorem State.emit_intc (e : Emit) : (s.emit e).intc = s.intc := by cases s; rfl
@[simp] theorem State.emit_dbg (e : Emit) : (s.emit e).dbg = s.dbg := by cases s; rfl
@[simp] theorem State.emit_due (e : Emit) : (s.emit e).due = s.due := by cases s; rfl
@[simp] theorem State.emit_freed (e : Emit) : (s.emit e).freed = s.freed := by cases s; rfl

/-! ## `drew` changes `freed` alone. -/

@[simp] theorem State.drew_pending : (s.drew).pending = s.pending := by cases s; rfl
@[simp] theorem State.drew_regs : (s.drew).regs = s.regs := by cases s; rfl
@[simp] theorem State.drew_ident : (s.drew).ident = s.ident := by cases s; rfl
@[simp] theorem State.drew_straps : (s.drew).straps = s.straps := by cases s; rfl
@[simp] theorem State.drew_hostMem : (s.drew).hostMem = s.hostMem := by cases s; rfl
@[simp] theorem State.drew_tick : (s.drew).tick = s.tick := by cases s; rfl
@[simp] theorem State.drew_led : (s.drew).led = s.led := by cases s; rfl
@[simp] theorem State.drew_strm : (s.drew).strm = s.strm := by cases s; rfl
@[simp] theorem State.drew_lane : (s.drew).lane = s.lane := by cases s; rfl
@[simp] theorem State.drew_take : (s.drew).take = s.take := by cases s; rfl
@[simp] theorem State.drew_eng : (s.drew).eng = s.eng := by cases s; rfl
@[simp] theorem State.drew_mesh : (s.drew).mesh = s.mesh := by cases s; rfl
@[simp] theorem State.drew_twin : (s.drew).twin = s.twin := by cases s; rfl
@[simp] theorem State.drew_xp : (s.drew).xp = s.xp := by cases s; rfl
@[simp] theorem State.drew_boot : (s.drew).boot = s.boot := by cases s; rfl
@[simp] theorem State.drew_dram : (s.drew).dram = s.dram := by cases s; rfl
@[simp] theorem State.drew_integ : (s.drew).integ = s.integ := by cases s; rfl
@[simp] theorem State.drew_sec : (s.drew).sec = s.sec := by cases s; rfl
@[simp] theorem State.drew_pwr : (s.drew).pwr = s.pwr := by cases s; rfl
@[simp] theorem State.drew_molt : (s.drew).molt = s.molt := by cases s; rfl
@[simp] theorem State.drew_cells : (s.drew).cells = s.cells := by cases s; rfl
@[simp] theorem State.drew_intc : (s.drew).intc = s.intc := by cases s; rfl
@[simp] theorem State.drew_dbg : (s.drew).dbg = s.dbg := by cases s; rfl
@[simp] theorem State.drew_due : (s.drew).due = s.due := by cases s; rfl
@[simp] theorem State.drew_out : (s.drew).out = s.out := by cases s; rfl

/-! ## `schedule` changes `due` alone. -/

@[simp] theorem State.schedule_pending (eff : Nat) (a : Act) : (s.schedule eff a).pending = s.pending := by cases s; rfl
@[simp] theorem State.schedule_regs (eff : Nat) (a : Act) : (s.schedule eff a).regs = s.regs := by cases s; rfl
@[simp] theorem State.schedule_ident (eff : Nat) (a : Act) : (s.schedule eff a).ident = s.ident := by cases s; rfl
@[simp] theorem State.schedule_straps (eff : Nat) (a : Act) : (s.schedule eff a).straps = s.straps := by cases s; rfl
@[simp] theorem State.schedule_hostMem (eff : Nat) (a : Act) : (s.schedule eff a).hostMem = s.hostMem := by cases s; rfl
@[simp] theorem State.schedule_tick (eff : Nat) (a : Act) : (s.schedule eff a).tick = s.tick := by cases s; rfl
@[simp] theorem State.schedule_led (eff : Nat) (a : Act) : (s.schedule eff a).led = s.led := by cases s; rfl
@[simp] theorem State.schedule_strm (eff : Nat) (a : Act) : (s.schedule eff a).strm = s.strm := by cases s; rfl
@[simp] theorem State.schedule_lane (eff : Nat) (a : Act) : (s.schedule eff a).lane = s.lane := by cases s; rfl
@[simp] theorem State.schedule_take (eff : Nat) (a : Act) : (s.schedule eff a).take = s.take := by cases s; rfl
@[simp] theorem State.schedule_eng (eff : Nat) (a : Act) : (s.schedule eff a).eng = s.eng := by cases s; rfl
@[simp] theorem State.schedule_mesh (eff : Nat) (a : Act) : (s.schedule eff a).mesh = s.mesh := by cases s; rfl
@[simp] theorem State.schedule_twin (eff : Nat) (a : Act) : (s.schedule eff a).twin = s.twin := by cases s; rfl
@[simp] theorem State.schedule_xp (eff : Nat) (a : Act) : (s.schedule eff a).xp = s.xp := by cases s; rfl
@[simp] theorem State.schedule_boot (eff : Nat) (a : Act) : (s.schedule eff a).boot = s.boot := by cases s; rfl
@[simp] theorem State.schedule_dram (eff : Nat) (a : Act) : (s.schedule eff a).dram = s.dram := by cases s; rfl
@[simp] theorem State.schedule_integ (eff : Nat) (a : Act) : (s.schedule eff a).integ = s.integ := by cases s; rfl
@[simp] theorem State.schedule_sec (eff : Nat) (a : Act) : (s.schedule eff a).sec = s.sec := by cases s; rfl
@[simp] theorem State.schedule_pwr (eff : Nat) (a : Act) : (s.schedule eff a).pwr = s.pwr := by cases s; rfl
@[simp] theorem State.schedule_molt (eff : Nat) (a : Act) : (s.schedule eff a).molt = s.molt := by cases s; rfl
@[simp] theorem State.schedule_cells (eff : Nat) (a : Act) : (s.schedule eff a).cells = s.cells := by cases s; rfl
@[simp] theorem State.schedule_intc (eff : Nat) (a : Act) : (s.schedule eff a).intc = s.intc := by cases s; rfl
@[simp] theorem State.schedule_dbg (eff : Nat) (a : Act) : (s.schedule eff a).dbg = s.dbg := by cases s; rfl
@[simp] theorem State.schedule_out (eff : Nat) (a : Act) : (s.schedule eff a).out = s.out := by cases s; rfl
@[simp] theorem State.schedule_freed (eff : Nat) (a : Act) : (s.schedule eff a).freed = s.freed := by cases s; rfl

/-! ## `setContract` changes `led` alone. -/

@[simp] theorem State.setContract_pending (i : Nat) (c : Contract) : (s.setContract i c).pending = s.pending := by cases s; rfl
@[simp] theorem State.setContract_regs (i : Nat) (c : Contract) : (s.setContract i c).regs = s.regs := by cases s; rfl
@[simp] theorem State.setContract_ident (i : Nat) (c : Contract) : (s.setContract i c).ident = s.ident := by cases s; rfl
@[simp] theorem State.setContract_straps (i : Nat) (c : Contract) : (s.setContract i c).straps = s.straps := by cases s; rfl
@[simp] theorem State.setContract_hostMem (i : Nat) (c : Contract) : (s.setContract i c).hostMem = s.hostMem := by cases s; rfl
@[simp] theorem State.setContract_tick (i : Nat) (c : Contract) : (s.setContract i c).tick = s.tick := by cases s; rfl
@[simp] theorem State.setContract_strm (i : Nat) (c : Contract) : (s.setContract i c).strm = s.strm := by cases s; rfl
@[simp] theorem State.setContract_lane (i : Nat) (c : Contract) : (s.setContract i c).lane = s.lane := by cases s; rfl
@[simp] theorem State.setContract_take (i : Nat) (c : Contract) : (s.setContract i c).take = s.take := by cases s; rfl
@[simp] theorem State.setContract_eng (i : Nat) (c : Contract) : (s.setContract i c).eng = s.eng := by cases s; rfl
@[simp] theorem State.setContract_mesh (i : Nat) (c : Contract) : (s.setContract i c).mesh = s.mesh := by cases s; rfl
@[simp] theorem State.setContract_twin (i : Nat) (c : Contract) : (s.setContract i c).twin = s.twin := by cases s; rfl
@[simp] theorem State.setContract_xp (i : Nat) (c : Contract) : (s.setContract i c).xp = s.xp := by cases s; rfl
@[simp] theorem State.setContract_boot (i : Nat) (c : Contract) : (s.setContract i c).boot = s.boot := by cases s; rfl
@[simp] theorem State.setContract_dram (i : Nat) (c : Contract) : (s.setContract i c).dram = s.dram := by cases s; rfl
@[simp] theorem State.setContract_integ (i : Nat) (c : Contract) : (s.setContract i c).integ = s.integ := by cases s; rfl
@[simp] theorem State.setContract_sec (i : Nat) (c : Contract) : (s.setContract i c).sec = s.sec := by cases s; rfl
@[simp] theorem State.setContract_pwr (i : Nat) (c : Contract) : (s.setContract i c).pwr = s.pwr := by cases s; rfl
@[simp] theorem State.setContract_molt (i : Nat) (c : Contract) : (s.setContract i c).molt = s.molt := by cases s; rfl
@[simp] theorem State.setContract_cells (i : Nat) (c : Contract) : (s.setContract i c).cells = s.cells := by cases s; rfl
@[simp] theorem State.setContract_intc (i : Nat) (c : Contract) : (s.setContract i c).intc = s.intc := by cases s; rfl
@[simp] theorem State.setContract_dbg (i : Nat) (c : Contract) : (s.setContract i c).dbg = s.dbg := by cases s; rfl
@[simp] theorem State.setContract_due (i : Nat) (c : Contract) : (s.setContract i c).due = s.due := by cases s; rfl
@[simp] theorem State.setContract_out (i : Nat) (c : Contract) : (s.setContract i c).out = s.out := by cases s; rfl
@[simp] theorem State.setContract_freed (i : Nat) (c : Contract) : (s.setContract i c).freed = s.freed := by cases s; rfl

/-! ## `updContract` changes `led` alone. -/

@[simp] theorem State.updContract_pending (i : Nat) (f : Contract → Contract) : (s.updContract i f).pending = s.pending := by cases s; rfl
@[simp] theorem State.updContract_regs (i : Nat) (f : Contract → Contract) : (s.updContract i f).regs = s.regs := by cases s; rfl
@[simp] theorem State.updContract_ident (i : Nat) (f : Contract → Contract) : (s.updContract i f).ident = s.ident := by cases s; rfl
@[simp] theorem State.updContract_straps (i : Nat) (f : Contract → Contract) : (s.updContract i f).straps = s.straps := by cases s; rfl
@[simp] theorem State.updContract_hostMem (i : Nat) (f : Contract → Contract) : (s.updContract i f).hostMem = s.hostMem := by cases s; rfl
@[simp] theorem State.updContract_tick (i : Nat) (f : Contract → Contract) : (s.updContract i f).tick = s.tick := by cases s; rfl
@[simp] theorem State.updContract_strm (i : Nat) (f : Contract → Contract) : (s.updContract i f).strm = s.strm := by cases s; rfl
@[simp] theorem State.updContract_lane (i : Nat) (f : Contract → Contract) : (s.updContract i f).lane = s.lane := by cases s; rfl
@[simp] theorem State.updContract_take (i : Nat) (f : Contract → Contract) : (s.updContract i f).take = s.take := by cases s; rfl
@[simp] theorem State.updContract_eng (i : Nat) (f : Contract → Contract) : (s.updContract i f).eng = s.eng := by cases s; rfl
@[simp] theorem State.updContract_mesh (i : Nat) (f : Contract → Contract) : (s.updContract i f).mesh = s.mesh := by cases s; rfl
@[simp] theorem State.updContract_twin (i : Nat) (f : Contract → Contract) : (s.updContract i f).twin = s.twin := by cases s; rfl
@[simp] theorem State.updContract_xp (i : Nat) (f : Contract → Contract) : (s.updContract i f).xp = s.xp := by cases s; rfl
@[simp] theorem State.updContract_boot (i : Nat) (f : Contract → Contract) : (s.updContract i f).boot = s.boot := by cases s; rfl
@[simp] theorem State.updContract_dram (i : Nat) (f : Contract → Contract) : (s.updContract i f).dram = s.dram := by cases s; rfl
@[simp] theorem State.updContract_integ (i : Nat) (f : Contract → Contract) : (s.updContract i f).integ = s.integ := by cases s; rfl
@[simp] theorem State.updContract_sec (i : Nat) (f : Contract → Contract) : (s.updContract i f).sec = s.sec := by cases s; rfl
@[simp] theorem State.updContract_pwr (i : Nat) (f : Contract → Contract) : (s.updContract i f).pwr = s.pwr := by cases s; rfl
@[simp] theorem State.updContract_molt (i : Nat) (f : Contract → Contract) : (s.updContract i f).molt = s.molt := by cases s; rfl
@[simp] theorem State.updContract_cells (i : Nat) (f : Contract → Contract) : (s.updContract i f).cells = s.cells := by cases s; rfl
@[simp] theorem State.updContract_intc (i : Nat) (f : Contract → Contract) : (s.updContract i f).intc = s.intc := by cases s; rfl
@[simp] theorem State.updContract_dbg (i : Nat) (f : Contract → Contract) : (s.updContract i f).dbg = s.dbg := by cases s; rfl
@[simp] theorem State.updContract_due (i : Nat) (f : Contract → Contract) : (s.updContract i f).due = s.due := by cases s; rfl
@[simp] theorem State.updContract_out (i : Nat) (f : Contract → Contract) : (s.updContract i f).out = s.out := by cases s; rfl
@[simp] theorem State.updContract_freed (i : Nat) (f : Contract → Contract) : (s.updContract i f).freed = s.freed := by cases s; rfl

/-! ## `setCSt` changes `led` alone. -/

@[simp] theorem State.setCSt_pending (i : Nat) (st : CSt) : (s.setCSt i st).pending = s.pending := by cases s; rfl
@[simp] theorem State.setCSt_regs (i : Nat) (st : CSt) : (s.setCSt i st).regs = s.regs := by cases s; rfl
@[simp] theorem State.setCSt_ident (i : Nat) (st : CSt) : (s.setCSt i st).ident = s.ident := by cases s; rfl
@[simp] theorem State.setCSt_straps (i : Nat) (st : CSt) : (s.setCSt i st).straps = s.straps := by cases s; rfl
@[simp] theorem State.setCSt_hostMem (i : Nat) (st : CSt) : (s.setCSt i st).hostMem = s.hostMem := by cases s; rfl
@[simp] theorem State.setCSt_tick (i : Nat) (st : CSt) : (s.setCSt i st).tick = s.tick := by cases s; rfl
@[simp] theorem State.setCSt_strm (i : Nat) (st : CSt) : (s.setCSt i st).strm = s.strm := by cases s; rfl
@[simp] theorem State.setCSt_lane (i : Nat) (st : CSt) : (s.setCSt i st).lane = s.lane := by cases s; rfl
@[simp] theorem State.setCSt_take (i : Nat) (st : CSt) : (s.setCSt i st).take = s.take := by cases s; rfl
@[simp] theorem State.setCSt_eng (i : Nat) (st : CSt) : (s.setCSt i st).eng = s.eng := by cases s; rfl
@[simp] theorem State.setCSt_mesh (i : Nat) (st : CSt) : (s.setCSt i st).mesh = s.mesh := by cases s; rfl
@[simp] theorem State.setCSt_twin (i : Nat) (st : CSt) : (s.setCSt i st).twin = s.twin := by cases s; rfl
@[simp] theorem State.setCSt_xp (i : Nat) (st : CSt) : (s.setCSt i st).xp = s.xp := by cases s; rfl
@[simp] theorem State.setCSt_boot (i : Nat) (st : CSt) : (s.setCSt i st).boot = s.boot := by cases s; rfl
@[simp] theorem State.setCSt_dram (i : Nat) (st : CSt) : (s.setCSt i st).dram = s.dram := by cases s; rfl
@[simp] theorem State.setCSt_integ (i : Nat) (st : CSt) : (s.setCSt i st).integ = s.integ := by cases s; rfl
@[simp] theorem State.setCSt_sec (i : Nat) (st : CSt) : (s.setCSt i st).sec = s.sec := by cases s; rfl
@[simp] theorem State.setCSt_pwr (i : Nat) (st : CSt) : (s.setCSt i st).pwr = s.pwr := by cases s; rfl
@[simp] theorem State.setCSt_molt (i : Nat) (st : CSt) : (s.setCSt i st).molt = s.molt := by cases s; rfl
@[simp] theorem State.setCSt_cells (i : Nat) (st : CSt) : (s.setCSt i st).cells = s.cells := by cases s; rfl
@[simp] theorem State.setCSt_intc (i : Nat) (st : CSt) : (s.setCSt i st).intc = s.intc := by cases s; rfl
@[simp] theorem State.setCSt_dbg (i : Nat) (st : CSt) : (s.setCSt i st).dbg = s.dbg := by cases s; rfl
@[simp] theorem State.setCSt_due (i : Nat) (st : CSt) : (s.setCSt i st).due = s.due := by cases s; rfl
@[simp] theorem State.setCSt_out (i : Nat) (st : CSt) : (s.setCSt i st).out = s.out := by cases s; rfl
@[simp] theorem State.setCSt_freed (i : Nat) (st : CSt) : (s.setCSt i st).freed = s.freed := by cases s; rfl

/-! ## `setEngine` changes `eng` alone. -/

@[simp] theorem State.setEngine_pending (e : Nat) (x : Eng) : (s.setEngine e x).pending = s.pending := by cases s; rfl
@[simp] theorem State.setEngine_regs (e : Nat) (x : Eng) : (s.setEngine e x).regs = s.regs := by cases s; rfl
@[simp] theorem State.setEngine_ident (e : Nat) (x : Eng) : (s.setEngine e x).ident = s.ident := by cases s; rfl
@[simp] theorem State.setEngine_straps (e : Nat) (x : Eng) : (s.setEngine e x).straps = s.straps := by cases s; rfl
@[simp] theorem State.setEngine_hostMem (e : Nat) (x : Eng) : (s.setEngine e x).hostMem = s.hostMem := by cases s; rfl
@[simp] theorem State.setEngine_tick (e : Nat) (x : Eng) : (s.setEngine e x).tick = s.tick := by cases s; rfl
@[simp] theorem State.setEngine_led (e : Nat) (x : Eng) : (s.setEngine e x).led = s.led := by cases s; rfl
@[simp] theorem State.setEngine_strm (e : Nat) (x : Eng) : (s.setEngine e x).strm = s.strm := by cases s; rfl
@[simp] theorem State.setEngine_lane (e : Nat) (x : Eng) : (s.setEngine e x).lane = s.lane := by cases s; rfl
@[simp] theorem State.setEngine_take (e : Nat) (x : Eng) : (s.setEngine e x).take = s.take := by cases s; rfl
@[simp] theorem State.setEngine_mesh (e : Nat) (x : Eng) : (s.setEngine e x).mesh = s.mesh := by cases s; rfl
@[simp] theorem State.setEngine_twin (e : Nat) (x : Eng) : (s.setEngine e x).twin = s.twin := by cases s; rfl
@[simp] theorem State.setEngine_xp (e : Nat) (x : Eng) : (s.setEngine e x).xp = s.xp := by cases s; rfl
@[simp] theorem State.setEngine_boot (e : Nat) (x : Eng) : (s.setEngine e x).boot = s.boot := by cases s; rfl
@[simp] theorem State.setEngine_dram (e : Nat) (x : Eng) : (s.setEngine e x).dram = s.dram := by cases s; rfl
@[simp] theorem State.setEngine_integ (e : Nat) (x : Eng) : (s.setEngine e x).integ = s.integ := by cases s; rfl
@[simp] theorem State.setEngine_sec (e : Nat) (x : Eng) : (s.setEngine e x).sec = s.sec := by cases s; rfl
@[simp] theorem State.setEngine_pwr (e : Nat) (x : Eng) : (s.setEngine e x).pwr = s.pwr := by cases s; rfl
@[simp] theorem State.setEngine_molt (e : Nat) (x : Eng) : (s.setEngine e x).molt = s.molt := by cases s; rfl
@[simp] theorem State.setEngine_cells (e : Nat) (x : Eng) : (s.setEngine e x).cells = s.cells := by cases s; rfl
@[simp] theorem State.setEngine_intc (e : Nat) (x : Eng) : (s.setEngine e x).intc = s.intc := by cases s; rfl
@[simp] theorem State.setEngine_dbg (e : Nat) (x : Eng) : (s.setEngine e x).dbg = s.dbg := by cases s; rfl
@[simp] theorem State.setEngine_due (e : Nat) (x : Eng) : (s.setEngine e x).due = s.due := by cases s; rfl
@[simp] theorem State.setEngine_out (e : Nat) (x : Eng) : (s.setEngine e x).out = s.out := by cases s; rfl
@[simp] theorem State.setEngine_freed (e : Nat) (x : Eng) : (s.setEngine e x).freed = s.freed := by cases s; rfl

/-! ## `updEngine` changes `eng` alone. -/

@[simp] theorem State.updEngine_pending (e : Nat) (f : Eng → Eng) : (s.updEngine e f).pending = s.pending := by cases s; rfl
@[simp] theorem State.updEngine_regs (e : Nat) (f : Eng → Eng) : (s.updEngine e f).regs = s.regs := by cases s; rfl
@[simp] theorem State.updEngine_ident (e : Nat) (f : Eng → Eng) : (s.updEngine e f).ident = s.ident := by cases s; rfl
@[simp] theorem State.updEngine_straps (e : Nat) (f : Eng → Eng) : (s.updEngine e f).straps = s.straps := by cases s; rfl
@[simp] theorem State.updEngine_hostMem (e : Nat) (f : Eng → Eng) : (s.updEngine e f).hostMem = s.hostMem := by cases s; rfl
@[simp] theorem State.updEngine_tick (e : Nat) (f : Eng → Eng) : (s.updEngine e f).tick = s.tick := by cases s; rfl
@[simp] theorem State.updEngine_led (e : Nat) (f : Eng → Eng) : (s.updEngine e f).led = s.led := by cases s; rfl
@[simp] theorem State.updEngine_strm (e : Nat) (f : Eng → Eng) : (s.updEngine e f).strm = s.strm := by cases s; rfl
@[simp] theorem State.updEngine_lane (e : Nat) (f : Eng → Eng) : (s.updEngine e f).lane = s.lane := by cases s; rfl
@[simp] theorem State.updEngine_take (e : Nat) (f : Eng → Eng) : (s.updEngine e f).take = s.take := by cases s; rfl
@[simp] theorem State.updEngine_mesh (e : Nat) (f : Eng → Eng) : (s.updEngine e f).mesh = s.mesh := by cases s; rfl
@[simp] theorem State.updEngine_twin (e : Nat) (f : Eng → Eng) : (s.updEngine e f).twin = s.twin := by cases s; rfl
@[simp] theorem State.updEngine_xp (e : Nat) (f : Eng → Eng) : (s.updEngine e f).xp = s.xp := by cases s; rfl
@[simp] theorem State.updEngine_boot (e : Nat) (f : Eng → Eng) : (s.updEngine e f).boot = s.boot := by cases s; rfl
@[simp] theorem State.updEngine_dram (e : Nat) (f : Eng → Eng) : (s.updEngine e f).dram = s.dram := by cases s; rfl
@[simp] theorem State.updEngine_integ (e : Nat) (f : Eng → Eng) : (s.updEngine e f).integ = s.integ := by cases s; rfl
@[simp] theorem State.updEngine_sec (e : Nat) (f : Eng → Eng) : (s.updEngine e f).sec = s.sec := by cases s; rfl
@[simp] theorem State.updEngine_pwr (e : Nat) (f : Eng → Eng) : (s.updEngine e f).pwr = s.pwr := by cases s; rfl
@[simp] theorem State.updEngine_molt (e : Nat) (f : Eng → Eng) : (s.updEngine e f).molt = s.molt := by cases s; rfl
@[simp] theorem State.updEngine_cells (e : Nat) (f : Eng → Eng) : (s.updEngine e f).cells = s.cells := by cases s; rfl
@[simp] theorem State.updEngine_intc (e : Nat) (f : Eng → Eng) : (s.updEngine e f).intc = s.intc := by cases s; rfl
@[simp] theorem State.updEngine_dbg (e : Nat) (f : Eng → Eng) : (s.updEngine e f).dbg = s.dbg := by cases s; rfl
@[simp] theorem State.updEngine_due (e : Nat) (f : Eng → Eng) : (s.updEngine e f).due = s.due := by cases s; rfl
@[simp] theorem State.updEngine_out (e : Nat) (f : Eng → Eng) : (s.updEngine e f).out = s.out := by cases s; rfl
@[simp] theorem State.updEngine_freed (e : Nat) (f : Eng → Eng) : (s.updEngine e f).freed = s.freed := by cases s; rfl

/-! ## `updLane` changes `lane` alone. -/

@[simp] theorem State.updLane_pending (l : Nat) (f : LaneDyn → LaneDyn) : (s.updLane l f).pending = s.pending := by cases s; rfl
@[simp] theorem State.updLane_regs (l : Nat) (f : LaneDyn → LaneDyn) : (s.updLane l f).regs = s.regs := by cases s; rfl
@[simp] theorem State.updLane_ident (l : Nat) (f : LaneDyn → LaneDyn) : (s.updLane l f).ident = s.ident := by cases s; rfl
@[simp] theorem State.updLane_straps (l : Nat) (f : LaneDyn → LaneDyn) : (s.updLane l f).straps = s.straps := by cases s; rfl
@[simp] theorem State.updLane_hostMem (l : Nat) (f : LaneDyn → LaneDyn) : (s.updLane l f).hostMem = s.hostMem := by cases s; rfl
@[simp] theorem State.updLane_tick (l : Nat) (f : LaneDyn → LaneDyn) : (s.updLane l f).tick = s.tick := by cases s; rfl
@[simp] theorem State.updLane_led (l : Nat) (f : LaneDyn → LaneDyn) : (s.updLane l f).led = s.led := by cases s; rfl
@[simp] theorem State.updLane_strm (l : Nat) (f : LaneDyn → LaneDyn) : (s.updLane l f).strm = s.strm := by cases s; rfl
@[simp] theorem State.updLane_take (l : Nat) (f : LaneDyn → LaneDyn) : (s.updLane l f).take = s.take := by cases s; rfl
@[simp] theorem State.updLane_eng (l : Nat) (f : LaneDyn → LaneDyn) : (s.updLane l f).eng = s.eng := by cases s; rfl
@[simp] theorem State.updLane_mesh (l : Nat) (f : LaneDyn → LaneDyn) : (s.updLane l f).mesh = s.mesh := by cases s; rfl
@[simp] theorem State.updLane_twin (l : Nat) (f : LaneDyn → LaneDyn) : (s.updLane l f).twin = s.twin := by cases s; rfl
@[simp] theorem State.updLane_xp (l : Nat) (f : LaneDyn → LaneDyn) : (s.updLane l f).xp = s.xp := by cases s; rfl
@[simp] theorem State.updLane_boot (l : Nat) (f : LaneDyn → LaneDyn) : (s.updLane l f).boot = s.boot := by cases s; rfl
@[simp] theorem State.updLane_dram (l : Nat) (f : LaneDyn → LaneDyn) : (s.updLane l f).dram = s.dram := by cases s; rfl
@[simp] theorem State.updLane_integ (l : Nat) (f : LaneDyn → LaneDyn) : (s.updLane l f).integ = s.integ := by cases s; rfl
@[simp] theorem State.updLane_sec (l : Nat) (f : LaneDyn → LaneDyn) : (s.updLane l f).sec = s.sec := by cases s; rfl
@[simp] theorem State.updLane_pwr (l : Nat) (f : LaneDyn → LaneDyn) : (s.updLane l f).pwr = s.pwr := by cases s; rfl
@[simp] theorem State.updLane_molt (l : Nat) (f : LaneDyn → LaneDyn) : (s.updLane l f).molt = s.molt := by cases s; rfl
@[simp] theorem State.updLane_cells (l : Nat) (f : LaneDyn → LaneDyn) : (s.updLane l f).cells = s.cells := by cases s; rfl
@[simp] theorem State.updLane_intc (l : Nat) (f : LaneDyn → LaneDyn) : (s.updLane l f).intc = s.intc := by cases s; rfl
@[simp] theorem State.updLane_dbg (l : Nat) (f : LaneDyn → LaneDyn) : (s.updLane l f).dbg = s.dbg := by cases s; rfl
@[simp] theorem State.updLane_due (l : Nat) (f : LaneDyn → LaneDyn) : (s.updLane l f).due = s.due := by cases s; rfl
@[simp] theorem State.updLane_out (l : Nat) (f : LaneDyn → LaneDyn) : (s.updLane l f).out = s.out := by cases s; rfl
@[simp] theorem State.updLane_freed (l : Nat) (f : LaneDyn → LaneDyn) : (s.updLane l f).freed = s.freed := by cases s; rfl

/-! ## `updLink` changes `mesh` alone. -/

@[simp] theorem State.updLink_pending (k : Nat) (f : LinkDyn → LinkDyn) : (s.updLink k f).pending = s.pending := by cases s; rfl
@[simp] theorem State.updLink_regs (k : Nat) (f : LinkDyn → LinkDyn) : (s.updLink k f).regs = s.regs := by cases s; rfl
@[simp] theorem State.updLink_ident (k : Nat) (f : LinkDyn → LinkDyn) : (s.updLink k f).ident = s.ident := by cases s; rfl
@[simp] theorem State.updLink_straps (k : Nat) (f : LinkDyn → LinkDyn) : (s.updLink k f).straps = s.straps := by cases s; rfl
@[simp] theorem State.updLink_hostMem (k : Nat) (f : LinkDyn → LinkDyn) : (s.updLink k f).hostMem = s.hostMem := by cases s; rfl
@[simp] theorem State.updLink_tick (k : Nat) (f : LinkDyn → LinkDyn) : (s.updLink k f).tick = s.tick := by cases s; rfl
@[simp] theorem State.updLink_led (k : Nat) (f : LinkDyn → LinkDyn) : (s.updLink k f).led = s.led := by cases s; rfl
@[simp] theorem State.updLink_strm (k : Nat) (f : LinkDyn → LinkDyn) : (s.updLink k f).strm = s.strm := by cases s; rfl
@[simp] theorem State.updLink_lane (k : Nat) (f : LinkDyn → LinkDyn) : (s.updLink k f).lane = s.lane := by cases s; rfl
@[simp] theorem State.updLink_take (k : Nat) (f : LinkDyn → LinkDyn) : (s.updLink k f).take = s.take := by cases s; rfl
@[simp] theorem State.updLink_eng (k : Nat) (f : LinkDyn → LinkDyn) : (s.updLink k f).eng = s.eng := by cases s; rfl
@[simp] theorem State.updLink_twin (k : Nat) (f : LinkDyn → LinkDyn) : (s.updLink k f).twin = s.twin := by cases s; rfl
@[simp] theorem State.updLink_xp (k : Nat) (f : LinkDyn → LinkDyn) : (s.updLink k f).xp = s.xp := by cases s; rfl
@[simp] theorem State.updLink_boot (k : Nat) (f : LinkDyn → LinkDyn) : (s.updLink k f).boot = s.boot := by cases s; rfl
@[simp] theorem State.updLink_dram (k : Nat) (f : LinkDyn → LinkDyn) : (s.updLink k f).dram = s.dram := by cases s; rfl
@[simp] theorem State.updLink_integ (k : Nat) (f : LinkDyn → LinkDyn) : (s.updLink k f).integ = s.integ := by cases s; rfl
@[simp] theorem State.updLink_sec (k : Nat) (f : LinkDyn → LinkDyn) : (s.updLink k f).sec = s.sec := by cases s; rfl
@[simp] theorem State.updLink_pwr (k : Nat) (f : LinkDyn → LinkDyn) : (s.updLink k f).pwr = s.pwr := by cases s; rfl
@[simp] theorem State.updLink_molt (k : Nat) (f : LinkDyn → LinkDyn) : (s.updLink k f).molt = s.molt := by cases s; rfl
@[simp] theorem State.updLink_cells (k : Nat) (f : LinkDyn → LinkDyn) : (s.updLink k f).cells = s.cells := by cases s; rfl
@[simp] theorem State.updLink_intc (k : Nat) (f : LinkDyn → LinkDyn) : (s.updLink k f).intc = s.intc := by cases s; rfl
@[simp] theorem State.updLink_dbg (k : Nat) (f : LinkDyn → LinkDyn) : (s.updLink k f).dbg = s.dbg := by cases s; rfl
@[simp] theorem State.updLink_due (k : Nat) (f : LinkDyn → LinkDyn) : (s.updLink k f).due = s.due := by cases s; rfl
@[simp] theorem State.updLink_out (k : Nat) (f : LinkDyn → LinkDyn) : (s.updLink k f).out = s.out := by cases s; rfl
@[simp] theorem State.updLink_freed (k : Nat) (f : LinkDyn → LinkDyn) : (s.updLink k f).freed = s.freed := by cases s; rfl

/-! ## `setEgress` changes `take` alone. -/

@[simp] theorem State.setEgress_pending (k : Nat) (e : Egress) : (s.setEgress k e).pending = s.pending := by cases s; rfl
@[simp] theorem State.setEgress_regs (k : Nat) (e : Egress) : (s.setEgress k e).regs = s.regs := by cases s; rfl
@[simp] theorem State.setEgress_ident (k : Nat) (e : Egress) : (s.setEgress k e).ident = s.ident := by cases s; rfl
@[simp] theorem State.setEgress_straps (k : Nat) (e : Egress) : (s.setEgress k e).straps = s.straps := by cases s; rfl
@[simp] theorem State.setEgress_hostMem (k : Nat) (e : Egress) : (s.setEgress k e).hostMem = s.hostMem := by cases s; rfl
@[simp] theorem State.setEgress_tick (k : Nat) (e : Egress) : (s.setEgress k e).tick = s.tick := by cases s; rfl
@[simp] theorem State.setEgress_led (k : Nat) (e : Egress) : (s.setEgress k e).led = s.led := by cases s; rfl
@[simp] theorem State.setEgress_strm (k : Nat) (e : Egress) : (s.setEgress k e).strm = s.strm := by cases s; rfl
@[simp] theorem State.setEgress_lane (k : Nat) (e : Egress) : (s.setEgress k e).lane = s.lane := by cases s; rfl
@[simp] theorem State.setEgress_eng (k : Nat) (e : Egress) : (s.setEgress k e).eng = s.eng := by cases s; rfl
@[simp] theorem State.setEgress_mesh (k : Nat) (e : Egress) : (s.setEgress k e).mesh = s.mesh := by cases s; rfl
@[simp] theorem State.setEgress_twin (k : Nat) (e : Egress) : (s.setEgress k e).twin = s.twin := by cases s; rfl
@[simp] theorem State.setEgress_xp (k : Nat) (e : Egress) : (s.setEgress k e).xp = s.xp := by cases s; rfl
@[simp] theorem State.setEgress_boot (k : Nat) (e : Egress) : (s.setEgress k e).boot = s.boot := by cases s; rfl
@[simp] theorem State.setEgress_dram (k : Nat) (e : Egress) : (s.setEgress k e).dram = s.dram := by cases s; rfl
@[simp] theorem State.setEgress_integ (k : Nat) (e : Egress) : (s.setEgress k e).integ = s.integ := by cases s; rfl
@[simp] theorem State.setEgress_sec (k : Nat) (e : Egress) : (s.setEgress k e).sec = s.sec := by cases s; rfl
@[simp] theorem State.setEgress_pwr (k : Nat) (e : Egress) : (s.setEgress k e).pwr = s.pwr := by cases s; rfl
@[simp] theorem State.setEgress_molt (k : Nat) (e : Egress) : (s.setEgress k e).molt = s.molt := by cases s; rfl
@[simp] theorem State.setEgress_cells (k : Nat) (e : Egress) : (s.setEgress k e).cells = s.cells := by cases s; rfl
@[simp] theorem State.setEgress_intc (k : Nat) (e : Egress) : (s.setEgress k e).intc = s.intc := by cases s; rfl
@[simp] theorem State.setEgress_dbg (k : Nat) (e : Egress) : (s.setEgress k e).dbg = s.dbg := by cases s; rfl
@[simp] theorem State.setEgress_due (k : Nat) (e : Egress) : (s.setEgress k e).due = s.due := by cases s; rfl
@[simp] theorem State.setEgress_out (k : Nat) (e : Egress) : (s.setEgress k e).out = s.out := by cases s; rfl
@[simp] theorem State.setEgress_freed (k : Nat) (e : Egress) : (s.setEgress k e).freed = s.freed := by cases s; rfl

/-! ## `updEgress` changes `take` alone. -/

@[simp] theorem State.updEgress_pending (k : Nat) (f : Egress → Egress) : (s.updEgress k f).pending = s.pending := by cases s; rfl
@[simp] theorem State.updEgress_regs (k : Nat) (f : Egress → Egress) : (s.updEgress k f).regs = s.regs := by cases s; rfl
@[simp] theorem State.updEgress_ident (k : Nat) (f : Egress → Egress) : (s.updEgress k f).ident = s.ident := by cases s; rfl
@[simp] theorem State.updEgress_straps (k : Nat) (f : Egress → Egress) : (s.updEgress k f).straps = s.straps := by cases s; rfl
@[simp] theorem State.updEgress_hostMem (k : Nat) (f : Egress → Egress) : (s.updEgress k f).hostMem = s.hostMem := by cases s; rfl
@[simp] theorem State.updEgress_tick (k : Nat) (f : Egress → Egress) : (s.updEgress k f).tick = s.tick := by cases s; rfl
@[simp] theorem State.updEgress_led (k : Nat) (f : Egress → Egress) : (s.updEgress k f).led = s.led := by cases s; rfl
@[simp] theorem State.updEgress_strm (k : Nat) (f : Egress → Egress) : (s.updEgress k f).strm = s.strm := by cases s; rfl
@[simp] theorem State.updEgress_lane (k : Nat) (f : Egress → Egress) : (s.updEgress k f).lane = s.lane := by cases s; rfl
@[simp] theorem State.updEgress_eng (k : Nat) (f : Egress → Egress) : (s.updEgress k f).eng = s.eng := by cases s; rfl
@[simp] theorem State.updEgress_mesh (k : Nat) (f : Egress → Egress) : (s.updEgress k f).mesh = s.mesh := by cases s; rfl
@[simp] theorem State.updEgress_twin (k : Nat) (f : Egress → Egress) : (s.updEgress k f).twin = s.twin := by cases s; rfl
@[simp] theorem State.updEgress_xp (k : Nat) (f : Egress → Egress) : (s.updEgress k f).xp = s.xp := by cases s; rfl
@[simp] theorem State.updEgress_boot (k : Nat) (f : Egress → Egress) : (s.updEgress k f).boot = s.boot := by cases s; rfl
@[simp] theorem State.updEgress_dram (k : Nat) (f : Egress → Egress) : (s.updEgress k f).dram = s.dram := by cases s; rfl
@[simp] theorem State.updEgress_integ (k : Nat) (f : Egress → Egress) : (s.updEgress k f).integ = s.integ := by cases s; rfl
@[simp] theorem State.updEgress_sec (k : Nat) (f : Egress → Egress) : (s.updEgress k f).sec = s.sec := by cases s; rfl
@[simp] theorem State.updEgress_pwr (k : Nat) (f : Egress → Egress) : (s.updEgress k f).pwr = s.pwr := by cases s; rfl
@[simp] theorem State.updEgress_molt (k : Nat) (f : Egress → Egress) : (s.updEgress k f).molt = s.molt := by cases s; rfl
@[simp] theorem State.updEgress_cells (k : Nat) (f : Egress → Egress) : (s.updEgress k f).cells = s.cells := by cases s; rfl
@[simp] theorem State.updEgress_intc (k : Nat) (f : Egress → Egress) : (s.updEgress k f).intc = s.intc := by cases s; rfl
@[simp] theorem State.updEgress_dbg (k : Nat) (f : Egress → Egress) : (s.updEgress k f).dbg = s.dbg := by cases s; rfl
@[simp] theorem State.updEgress_due (k : Nat) (f : Egress → Egress) : (s.updEgress k f).due = s.due := by cases s; rfl
@[simp] theorem State.updEgress_out (k : Nat) (f : Egress → Egress) : (s.updEgress k f).out = s.out := by cases s; rfl
@[simp] theorem State.updEgress_freed (k : Nat) (f : Egress → Egress) : (s.updEgress k f).freed = s.freed := by cases s; rfl

/-! ## `setTakes` changes `take` alone. -/

@[simp] theorem State.setTakes_pending (l : List PTake) : (s.setTakes l).pending = s.pending := by cases s; rfl
@[simp] theorem State.setTakes_regs (l : List PTake) : (s.setTakes l).regs = s.regs := by cases s; rfl
@[simp] theorem State.setTakes_ident (l : List PTake) : (s.setTakes l).ident = s.ident := by cases s; rfl
@[simp] theorem State.setTakes_straps (l : List PTake) : (s.setTakes l).straps = s.straps := by cases s; rfl
@[simp] theorem State.setTakes_hostMem (l : List PTake) : (s.setTakes l).hostMem = s.hostMem := by cases s; rfl
@[simp] theorem State.setTakes_tick (l : List PTake) : (s.setTakes l).tick = s.tick := by cases s; rfl
@[simp] theorem State.setTakes_led (l : List PTake) : (s.setTakes l).led = s.led := by cases s; rfl
@[simp] theorem State.setTakes_strm (l : List PTake) : (s.setTakes l).strm = s.strm := by cases s; rfl
@[simp] theorem State.setTakes_lane (l : List PTake) : (s.setTakes l).lane = s.lane := by cases s; rfl
@[simp] theorem State.setTakes_eng (l : List PTake) : (s.setTakes l).eng = s.eng := by cases s; rfl
@[simp] theorem State.setTakes_mesh (l : List PTake) : (s.setTakes l).mesh = s.mesh := by cases s; rfl
@[simp] theorem State.setTakes_twin (l : List PTake) : (s.setTakes l).twin = s.twin := by cases s; rfl
@[simp] theorem State.setTakes_xp (l : List PTake) : (s.setTakes l).xp = s.xp := by cases s; rfl
@[simp] theorem State.setTakes_boot (l : List PTake) : (s.setTakes l).boot = s.boot := by cases s; rfl
@[simp] theorem State.setTakes_dram (l : List PTake) : (s.setTakes l).dram = s.dram := by cases s; rfl
@[simp] theorem State.setTakes_integ (l : List PTake) : (s.setTakes l).integ = s.integ := by cases s; rfl
@[simp] theorem State.setTakes_sec (l : List PTake) : (s.setTakes l).sec = s.sec := by cases s; rfl
@[simp] theorem State.setTakes_pwr (l : List PTake) : (s.setTakes l).pwr = s.pwr := by cases s; rfl
@[simp] theorem State.setTakes_molt (l : List PTake) : (s.setTakes l).molt = s.molt := by cases s; rfl
@[simp] theorem State.setTakes_cells (l : List PTake) : (s.setTakes l).cells = s.cells := by cases s; rfl
@[simp] theorem State.setTakes_intc (l : List PTake) : (s.setTakes l).intc = s.intc := by cases s; rfl
@[simp] theorem State.setTakes_dbg (l : List PTake) : (s.setTakes l).dbg = s.dbg := by cases s; rfl
@[simp] theorem State.setTakes_due (l : List PTake) : (s.setTakes l).due = s.due := by cases s; rfl
@[simp] theorem State.setTakes_out (l : List PTake) : (s.setTakes l).out = s.out := by cases s; rfl
@[simp] theorem State.setTakes_freed (l : List PTake) : (s.setTakes l).freed = s.freed := by cases s; rfl

/-! ## `setMcd` changes `dram` alone. -/

@[simp] theorem State.setMcd_pending (m : Nat) (x : McDyn) : (s.setMcd m x).pending = s.pending := by cases s; rfl
@[simp] theorem State.setMcd_regs (m : Nat) (x : McDyn) : (s.setMcd m x).regs = s.regs := by cases s; rfl
@[simp] theorem State.setMcd_ident (m : Nat) (x : McDyn) : (s.setMcd m x).ident = s.ident := by cases s; rfl
@[simp] theorem State.setMcd_straps (m : Nat) (x : McDyn) : (s.setMcd m x).straps = s.straps := by cases s; rfl
@[simp] theorem State.setMcd_hostMem (m : Nat) (x : McDyn) : (s.setMcd m x).hostMem = s.hostMem := by cases s; rfl
@[simp] theorem State.setMcd_tick (m : Nat) (x : McDyn) : (s.setMcd m x).tick = s.tick := by cases s; rfl
@[simp] theorem State.setMcd_led (m : Nat) (x : McDyn) : (s.setMcd m x).led = s.led := by cases s; rfl
@[simp] theorem State.setMcd_strm (m : Nat) (x : McDyn) : (s.setMcd m x).strm = s.strm := by cases s; rfl
@[simp] theorem State.setMcd_lane (m : Nat) (x : McDyn) : (s.setMcd m x).lane = s.lane := by cases s; rfl
@[simp] theorem State.setMcd_take (m : Nat) (x : McDyn) : (s.setMcd m x).take = s.take := by cases s; rfl
@[simp] theorem State.setMcd_eng (m : Nat) (x : McDyn) : (s.setMcd m x).eng = s.eng := by cases s; rfl
@[simp] theorem State.setMcd_mesh (m : Nat) (x : McDyn) : (s.setMcd m x).mesh = s.mesh := by cases s; rfl
@[simp] theorem State.setMcd_twin (m : Nat) (x : McDyn) : (s.setMcd m x).twin = s.twin := by cases s; rfl
@[simp] theorem State.setMcd_xp (m : Nat) (x : McDyn) : (s.setMcd m x).xp = s.xp := by cases s; rfl
@[simp] theorem State.setMcd_boot (m : Nat) (x : McDyn) : (s.setMcd m x).boot = s.boot := by cases s; rfl
@[simp] theorem State.setMcd_integ (m : Nat) (x : McDyn) : (s.setMcd m x).integ = s.integ := by cases s; rfl
@[simp] theorem State.setMcd_sec (m : Nat) (x : McDyn) : (s.setMcd m x).sec = s.sec := by cases s; rfl
@[simp] theorem State.setMcd_pwr (m : Nat) (x : McDyn) : (s.setMcd m x).pwr = s.pwr := by cases s; rfl
@[simp] theorem State.setMcd_molt (m : Nat) (x : McDyn) : (s.setMcd m x).molt = s.molt := by cases s; rfl
@[simp] theorem State.setMcd_cells (m : Nat) (x : McDyn) : (s.setMcd m x).cells = s.cells := by cases s; rfl
@[simp] theorem State.setMcd_intc (m : Nat) (x : McDyn) : (s.setMcd m x).intc = s.intc := by cases s; rfl
@[simp] theorem State.setMcd_dbg (m : Nat) (x : McDyn) : (s.setMcd m x).dbg = s.dbg := by cases s; rfl
@[simp] theorem State.setMcd_due (m : Nat) (x : McDyn) : (s.setMcd m x).due = s.due := by cases s; rfl
@[simp] theorem State.setMcd_out (m : Nat) (x : McDyn) : (s.setMcd m x).out = s.out := by cases s; rfl
@[simp] theorem State.setMcd_freed (m : Nat) (x : McDyn) : (s.setMcd m x).freed = s.freed := by cases s; rfl

/-! ## `updMcd` changes `dram` alone. -/

@[simp] theorem State.updMcd_pending (m : Nat) (f : McDyn → McDyn) : (s.updMcd m f).pending = s.pending := by cases s; rfl
@[simp] theorem State.updMcd_regs (m : Nat) (f : McDyn → McDyn) : (s.updMcd m f).regs = s.regs := by cases s; rfl
@[simp] theorem State.updMcd_ident (m : Nat) (f : McDyn → McDyn) : (s.updMcd m f).ident = s.ident := by cases s; rfl
@[simp] theorem State.updMcd_straps (m : Nat) (f : McDyn → McDyn) : (s.updMcd m f).straps = s.straps := by cases s; rfl
@[simp] theorem State.updMcd_hostMem (m : Nat) (f : McDyn → McDyn) : (s.updMcd m f).hostMem = s.hostMem := by cases s; rfl
@[simp] theorem State.updMcd_tick (m : Nat) (f : McDyn → McDyn) : (s.updMcd m f).tick = s.tick := by cases s; rfl
@[simp] theorem State.updMcd_led (m : Nat) (f : McDyn → McDyn) : (s.updMcd m f).led = s.led := by cases s; rfl
@[simp] theorem State.updMcd_strm (m : Nat) (f : McDyn → McDyn) : (s.updMcd m f).strm = s.strm := by cases s; rfl
@[simp] theorem State.updMcd_lane (m : Nat) (f : McDyn → McDyn) : (s.updMcd m f).lane = s.lane := by cases s; rfl
@[simp] theorem State.updMcd_take (m : Nat) (f : McDyn → McDyn) : (s.updMcd m f).take = s.take := by cases s; rfl
@[simp] theorem State.updMcd_eng (m : Nat) (f : McDyn → McDyn) : (s.updMcd m f).eng = s.eng := by cases s; rfl
@[simp] theorem State.updMcd_mesh (m : Nat) (f : McDyn → McDyn) : (s.updMcd m f).mesh = s.mesh := by cases s; rfl
@[simp] theorem State.updMcd_twin (m : Nat) (f : McDyn → McDyn) : (s.updMcd m f).twin = s.twin := by cases s; rfl
@[simp] theorem State.updMcd_xp (m : Nat) (f : McDyn → McDyn) : (s.updMcd m f).xp = s.xp := by cases s; rfl
@[simp] theorem State.updMcd_boot (m : Nat) (f : McDyn → McDyn) : (s.updMcd m f).boot = s.boot := by cases s; rfl
@[simp] theorem State.updMcd_integ (m : Nat) (f : McDyn → McDyn) : (s.updMcd m f).integ = s.integ := by cases s; rfl
@[simp] theorem State.updMcd_sec (m : Nat) (f : McDyn → McDyn) : (s.updMcd m f).sec = s.sec := by cases s; rfl
@[simp] theorem State.updMcd_pwr (m : Nat) (f : McDyn → McDyn) : (s.updMcd m f).pwr = s.pwr := by cases s; rfl
@[simp] theorem State.updMcd_molt (m : Nat) (f : McDyn → McDyn) : (s.updMcd m f).molt = s.molt := by cases s; rfl
@[simp] theorem State.updMcd_cells (m : Nat) (f : McDyn → McDyn) : (s.updMcd m f).cells = s.cells := by cases s; rfl
@[simp] theorem State.updMcd_intc (m : Nat) (f : McDyn → McDyn) : (s.updMcd m f).intc = s.intc := by cases s; rfl
@[simp] theorem State.updMcd_dbg (m : Nat) (f : McDyn → McDyn) : (s.updMcd m f).dbg = s.dbg := by cases s; rfl
@[simp] theorem State.updMcd_due (m : Nat) (f : McDyn → McDyn) : (s.updMcd m f).due = s.due := by cases s; rfl
@[simp] theorem State.updMcd_out (m : Nat) (f : McDyn → McDyn) : (s.updMcd m f).out = s.out := by cases s; rfl
@[simp] theorem State.updMcd_freed (m : Nat) (f : McDyn → McDyn) : (s.updMcd m f).freed = s.freed := by cases s; rfl

/-! ## `setRing` changes `xp` alone. -/

@[simp] theorem State.setRing_pending (n : Nat) (r : Ring) : (s.setRing n r).pending = s.pending := by cases s; rfl
@[simp] theorem State.setRing_regs (n : Nat) (r : Ring) : (s.setRing n r).regs = s.regs := by cases s; rfl
@[simp] theorem State.setRing_ident (n : Nat) (r : Ring) : (s.setRing n r).ident = s.ident := by cases s; rfl
@[simp] theorem State.setRing_straps (n : Nat) (r : Ring) : (s.setRing n r).straps = s.straps := by cases s; rfl
@[simp] theorem State.setRing_hostMem (n : Nat) (r : Ring) : (s.setRing n r).hostMem = s.hostMem := by cases s; rfl
@[simp] theorem State.setRing_tick (n : Nat) (r : Ring) : (s.setRing n r).tick = s.tick := by cases s; rfl
@[simp] theorem State.setRing_led (n : Nat) (r : Ring) : (s.setRing n r).led = s.led := by cases s; rfl
@[simp] theorem State.setRing_strm (n : Nat) (r : Ring) : (s.setRing n r).strm = s.strm := by cases s; rfl
@[simp] theorem State.setRing_lane (n : Nat) (r : Ring) : (s.setRing n r).lane = s.lane := by cases s; rfl
@[simp] theorem State.setRing_take (n : Nat) (r : Ring) : (s.setRing n r).take = s.take := by cases s; rfl
@[simp] theorem State.setRing_eng (n : Nat) (r : Ring) : (s.setRing n r).eng = s.eng := by cases s; rfl
@[simp] theorem State.setRing_mesh (n : Nat) (r : Ring) : (s.setRing n r).mesh = s.mesh := by cases s; rfl
@[simp] theorem State.setRing_twin (n : Nat) (r : Ring) : (s.setRing n r).twin = s.twin := by cases s; rfl
@[simp] theorem State.setRing_boot (n : Nat) (r : Ring) : (s.setRing n r).boot = s.boot := by cases s; rfl
@[simp] theorem State.setRing_dram (n : Nat) (r : Ring) : (s.setRing n r).dram = s.dram := by cases s; rfl
@[simp] theorem State.setRing_integ (n : Nat) (r : Ring) : (s.setRing n r).integ = s.integ := by cases s; rfl
@[simp] theorem State.setRing_sec (n : Nat) (r : Ring) : (s.setRing n r).sec = s.sec := by cases s; rfl
@[simp] theorem State.setRing_pwr (n : Nat) (r : Ring) : (s.setRing n r).pwr = s.pwr := by cases s; rfl
@[simp] theorem State.setRing_molt (n : Nat) (r : Ring) : (s.setRing n r).molt = s.molt := by cases s; rfl
@[simp] theorem State.setRing_cells (n : Nat) (r : Ring) : (s.setRing n r).cells = s.cells := by cases s; rfl
@[simp] theorem State.setRing_intc (n : Nat) (r : Ring) : (s.setRing n r).intc = s.intc := by cases s; rfl
@[simp] theorem State.setRing_dbg (n : Nat) (r : Ring) : (s.setRing n r).dbg = s.dbg := by cases s; rfl
@[simp] theorem State.setRing_due (n : Nat) (r : Ring) : (s.setRing n r).due = s.due := by cases s; rfl
@[simp] theorem State.setRing_out (n : Nat) (r : Ring) : (s.setRing n r).out = s.out := by cases s; rfl
@[simp] theorem State.setRing_freed (n : Nat) (r : Ring) : (s.setRing n r).freed = s.freed := by cases s; rfl

/-! ## `setRef` changes `tick` alone. -/

@[simp] theorem State.setRef_pending (src dom index : Nat) (r : RefState) : (s.setRef src dom index r).pending = s.pending := by cases s; rfl
@[simp] theorem State.setRef_regs (src dom index : Nat) (r : RefState) : (s.setRef src dom index r).regs = s.regs := by cases s; rfl
@[simp] theorem State.setRef_ident (src dom index : Nat) (r : RefState) : (s.setRef src dom index r).ident = s.ident := by cases s; rfl
@[simp] theorem State.setRef_straps (src dom index : Nat) (r : RefState) : (s.setRef src dom index r).straps = s.straps := by cases s; rfl
@[simp] theorem State.setRef_hostMem (src dom index : Nat) (r : RefState) : (s.setRef src dom index r).hostMem = s.hostMem := by cases s; rfl
@[simp] theorem State.setRef_led (src dom index : Nat) (r : RefState) : (s.setRef src dom index r).led = s.led := by cases s; rfl
@[simp] theorem State.setRef_strm (src dom index : Nat) (r : RefState) : (s.setRef src dom index r).strm = s.strm := by cases s; rfl
@[simp] theorem State.setRef_lane (src dom index : Nat) (r : RefState) : (s.setRef src dom index r).lane = s.lane := by cases s; rfl
@[simp] theorem State.setRef_take (src dom index : Nat) (r : RefState) : (s.setRef src dom index r).take = s.take := by cases s; rfl
@[simp] theorem State.setRef_eng (src dom index : Nat) (r : RefState) : (s.setRef src dom index r).eng = s.eng := by cases s; rfl
@[simp] theorem State.setRef_mesh (src dom index : Nat) (r : RefState) : (s.setRef src dom index r).mesh = s.mesh := by cases s; rfl
@[simp] theorem State.setRef_twin (src dom index : Nat) (r : RefState) : (s.setRef src dom index r).twin = s.twin := by cases s; rfl
@[simp] theorem State.setRef_xp (src dom index : Nat) (r : RefState) : (s.setRef src dom index r).xp = s.xp := by cases s; rfl
@[simp] theorem State.setRef_boot (src dom index : Nat) (r : RefState) : (s.setRef src dom index r).boot = s.boot := by cases s; rfl
@[simp] theorem State.setRef_dram (src dom index : Nat) (r : RefState) : (s.setRef src dom index r).dram = s.dram := by cases s; rfl
@[simp] theorem State.setRef_integ (src dom index : Nat) (r : RefState) : (s.setRef src dom index r).integ = s.integ := by cases s; rfl
@[simp] theorem State.setRef_sec (src dom index : Nat) (r : RefState) : (s.setRef src dom index r).sec = s.sec := by cases s; rfl
@[simp] theorem State.setRef_pwr (src dom index : Nat) (r : RefState) : (s.setRef src dom index r).pwr = s.pwr := by cases s; rfl
@[simp] theorem State.setRef_molt (src dom index : Nat) (r : RefState) : (s.setRef src dom index r).molt = s.molt := by cases s; rfl
@[simp] theorem State.setRef_cells (src dom index : Nat) (r : RefState) : (s.setRef src dom index r).cells = s.cells := by cases s; rfl
@[simp] theorem State.setRef_intc (src dom index : Nat) (r : RefState) : (s.setRef src dom index r).intc = s.intc := by cases s; rfl
@[simp] theorem State.setRef_dbg (src dom index : Nat) (r : RefState) : (s.setRef src dom index r).dbg = s.dbg := by cases s; rfl
@[simp] theorem State.setRef_due (src dom index : Nat) (r : RefState) : (s.setRef src dom index r).due = s.due := by cases s; rfl
@[simp] theorem State.setRef_out (src dom index : Nat) (r : RefState) : (s.setRef src dom index r).out = s.out := by cases s; rfl
@[simp] theorem State.setRef_freed (src dom index : Nat) (r : RefState) : (s.setRef src dom index r).freed = s.freed := by cases s; rfl

/-! ## `setDmaQueue` changes `eng` alone. -/

@[simp] theorem State.setDmaQueue_pending (e : Nat) (l : List DmaDesc) : (s.setDmaQueue e l).pending = s.pending := by cases s; rfl
@[simp] theorem State.setDmaQueue_regs (e : Nat) (l : List DmaDesc) : (s.setDmaQueue e l).regs = s.regs := by cases s; rfl
@[simp] theorem State.setDmaQueue_ident (e : Nat) (l : List DmaDesc) : (s.setDmaQueue e l).ident = s.ident := by cases s; rfl
@[simp] theorem State.setDmaQueue_straps (e : Nat) (l : List DmaDesc) : (s.setDmaQueue e l).straps = s.straps := by cases s; rfl
@[simp] theorem State.setDmaQueue_hostMem (e : Nat) (l : List DmaDesc) : (s.setDmaQueue e l).hostMem = s.hostMem := by cases s; rfl
@[simp] theorem State.setDmaQueue_tick (e : Nat) (l : List DmaDesc) : (s.setDmaQueue e l).tick = s.tick := by cases s; rfl
@[simp] theorem State.setDmaQueue_led (e : Nat) (l : List DmaDesc) : (s.setDmaQueue e l).led = s.led := by cases s; rfl
@[simp] theorem State.setDmaQueue_strm (e : Nat) (l : List DmaDesc) : (s.setDmaQueue e l).strm = s.strm := by cases s; rfl
@[simp] theorem State.setDmaQueue_lane (e : Nat) (l : List DmaDesc) : (s.setDmaQueue e l).lane = s.lane := by cases s; rfl
@[simp] theorem State.setDmaQueue_take (e : Nat) (l : List DmaDesc) : (s.setDmaQueue e l).take = s.take := by cases s; rfl
@[simp] theorem State.setDmaQueue_mesh (e : Nat) (l : List DmaDesc) : (s.setDmaQueue e l).mesh = s.mesh := by cases s; rfl
@[simp] theorem State.setDmaQueue_twin (e : Nat) (l : List DmaDesc) : (s.setDmaQueue e l).twin = s.twin := by cases s; rfl
@[simp] theorem State.setDmaQueue_xp (e : Nat) (l : List DmaDesc) : (s.setDmaQueue e l).xp = s.xp := by cases s; rfl
@[simp] theorem State.setDmaQueue_boot (e : Nat) (l : List DmaDesc) : (s.setDmaQueue e l).boot = s.boot := by cases s; rfl
@[simp] theorem State.setDmaQueue_dram (e : Nat) (l : List DmaDesc) : (s.setDmaQueue e l).dram = s.dram := by cases s; rfl
@[simp] theorem State.setDmaQueue_integ (e : Nat) (l : List DmaDesc) : (s.setDmaQueue e l).integ = s.integ := by cases s; rfl
@[simp] theorem State.setDmaQueue_sec (e : Nat) (l : List DmaDesc) : (s.setDmaQueue e l).sec = s.sec := by cases s; rfl
@[simp] theorem State.setDmaQueue_pwr (e : Nat) (l : List DmaDesc) : (s.setDmaQueue e l).pwr = s.pwr := by cases s; rfl
@[simp] theorem State.setDmaQueue_molt (e : Nat) (l : List DmaDesc) : (s.setDmaQueue e l).molt = s.molt := by cases s; rfl
@[simp] theorem State.setDmaQueue_cells (e : Nat) (l : List DmaDesc) : (s.setDmaQueue e l).cells = s.cells := by cases s; rfl
@[simp] theorem State.setDmaQueue_intc (e : Nat) (l : List DmaDesc) : (s.setDmaQueue e l).intc = s.intc := by cases s; rfl
@[simp] theorem State.setDmaQueue_dbg (e : Nat) (l : List DmaDesc) : (s.setDmaQueue e l).dbg = s.dbg := by cases s; rfl
@[simp] theorem State.setDmaQueue_due (e : Nat) (l : List DmaDesc) : (s.setDmaQueue e l).due = s.due := by cases s; rfl
@[simp] theorem State.setDmaQueue_out (e : Nat) (l : List DmaDesc) : (s.setDmaQueue e l).out = s.out := by cases s; rfl
@[simp] theorem State.setDmaQueue_freed (e : Nat) (l : List DmaDesc) : (s.setDmaQueue e l).freed = s.freed := by cases s; rfl

@[simp] theorem State.setRing_xp_spiSubs (n : Nat) (r : Ring) : (s.setRing n r).xp.spiSubs = s.xp.spiSubs := by cases s; rfl
@[simp] theorem State.setRing_xp_spiReplies (n : Nat) (r : Ring) : (s.setRing n r).xp.spiReplies = s.xp.spiReplies := by cases s; rfl
@[simp] theorem State.setRing_xp_spiBuf (n : Nat) (r : Ring) : (s.setRing n r).xp.spiBuf = s.xp.spiBuf := by cases s; rfl
@[simp] theorem State.setRing_xp_replies (n : Nat) (r : Ring) : (s.setRing n r).xp.replies = s.xp.replies := by cases s; rfl
@[simp] theorem State.setRing_xp_fwdOut (n : Nat) (r : Ring) : (s.setRing n r).xp.fwdOut = s.xp.fwdOut := by cases s; rfl
@[simp] theorem State.setRing_xp_fwdRec (n : Nat) (r : Ring) : (s.setRing n r).xp.fwdRec = s.xp.fwdRec := by cases s; rfl
@[simp] theorem State.setRing_xp_twinWait (n : Nat) (r : Ring) : (s.setRing n r).xp.twinWait = s.xp.twinWait := by cases s; rfl
@[simp] theorem State.setRing_xp_held (n : Nat) (r : Ring) : (s.setRing n r).xp.held = s.xp.held := by cases s; rfl
@[simp] theorem State.setRing_xp_bufs (n : Nat) (r : Ring) : (s.setRing n r).xp.bufs = s.xp.bufs := by cases s; rfl
@[simp] theorem State.setRing_xp_restart (n : Nat) (r : Ring) : (s.setRing n r).xp.restart = s.xp.restart := by cases s; rfl
@[simp] theorem State.setRing_xp_coreHalt (n : Nat) (r : Ring) : (s.setRing n r).xp.coreHalt = s.xp.coreHalt := by cases s; rfl
@[simp] theorem State.setRing_xp_coreHaltReq (n : Nat) (r : Ring) : (s.setRing n r).xp.coreHaltReq = s.xp.coreHaltReq := by cases s; rfl
@[simp] theorem State.setRing_xp_stamp (n : Nat) (r : Ring) : (s.setRing n r).xp.stamp = s.xp.stamp := by cases s; rfl
@[simp] theorem State.setRing_xp_twinProv (n : Nat) (r : Ring) : (s.setRing n r).xp.twinProv = s.xp.twinProv := by cases s; rfl
@[simp] theorem State.setRing_xp_journal (n : Nat) (r : Ring) : (s.setRing n r).xp.journal = s.xp.journal := by cases s; rfl
@[simp] theorem State.setRing_xp_coreDown (n : Nat) (r : Ring) : (s.setRing n r).xp.coreDown = s.xp.coreDown := by cases s; rfl
/-! ## What an update says of its own field. -/

@[simp] theorem State.emit_out (e : Emit) : (s.emit e).out = s.out ++ [e] := by cases s; rfl
@[simp] theorem State.drew_freed : s.drew.freed = s.freed + 1 := by cases s; rfl
@[simp] theorem State.schedule_due (eff : Nat) (a : Act) : (s.schedule eff a).due = s.due ++ [⟨eff, a, s.xp.stamp⟩] := by cases s; rfl
theorem State.evt_eq (f : Fld) : s.evt f = s.wr f 1 := rfl
theorem State.bump_eq (f : Fld) : s.bump f = s.wr f (s.rd f + 1) := rfl
theorem State.flag_eq (f : Fld) (b : Bool) : s.flag f b = s.wr f (if b then 1 else 0) := rfl
theorem State.evtBit_eq (f : Fld) (i : Nat) : s.evtBit f i = s.wr f (setBit (s.rd f) i) := rfl
theorem State.bumpSat_eq (f : Fld) (n : Nat) : s.bumpSat f n = s.wr f (min (s.rd f + n) (2 ^ f.w - 1)) := rfl

/-! ## Reading a register sees the register file alone. -/

theorem State.reg_congr {s t : State} (h : t.regs = s.regs) (o : Nat) : t.reg o = s.reg o := by simp only [State.reg, h]
theorem State.rd_congr {s t : State} (h : t.regs = s.regs) (f : Fld) : t.rd f = s.rd f := by
  simp only [State.rd, State.reg_congr h]

@[simp] theorem State.reg_emit (e : Emit) (o : Nat) : (s.emit e).reg o = s.reg o := by cases s; rfl
@[simp] theorem State.rd_emit (e : Emit) (g : Fld) : (s.emit e).rd g = s.rd g := by cases s; rfl
@[simp] theorem State.reg_drew (o : Nat) : (s.drew).reg o = s.reg o := by cases s; rfl
@[simp] theorem State.rd_drew (g : Fld) : (s.drew).rd g = s.rd g := by cases s; rfl
@[simp] theorem State.reg_schedule (eff : Nat) (a : Act) (o : Nat) : (s.schedule eff a).reg o = s.reg o := by cases s; rfl
@[simp] theorem State.rd_schedule (eff : Nat) (a : Act) (g : Fld) : (s.schedule eff a).rd g = s.rd g := by cases s; rfl
@[simp] theorem State.reg_setContract (i : Nat) (c : Contract) (o : Nat) : (s.setContract i c).reg o = s.reg o := by cases s; rfl
@[simp] theorem State.rd_setContract (i : Nat) (c : Contract) (g : Fld) : (s.setContract i c).rd g = s.rd g := by cases s; rfl
@[simp] theorem State.reg_updContract (i : Nat) (f : Contract → Contract) (o : Nat) : (s.updContract i f).reg o = s.reg o := by cases s; rfl
@[simp] theorem State.rd_updContract (i : Nat) (f : Contract → Contract) (g : Fld) : (s.updContract i f).rd g = s.rd g := by cases s; rfl
@[simp] theorem State.reg_setCSt (i : Nat) (st : CSt) (o : Nat) : (s.setCSt i st).reg o = s.reg o := by cases s; rfl
@[simp] theorem State.rd_setCSt (i : Nat) (st : CSt) (g : Fld) : (s.setCSt i st).rd g = s.rd g := by cases s; rfl
@[simp] theorem State.reg_setEngine (e : Nat) (x : Eng) (o : Nat) : (s.setEngine e x).reg o = s.reg o := by cases s; rfl
@[simp] theorem State.rd_setEngine (e : Nat) (x : Eng) (g : Fld) : (s.setEngine e x).rd g = s.rd g := by cases s; rfl
@[simp] theorem State.reg_updEngine (e : Nat) (f : Eng → Eng) (o : Nat) : (s.updEngine e f).reg o = s.reg o := by cases s; rfl
@[simp] theorem State.rd_updEngine (e : Nat) (f : Eng → Eng) (g : Fld) : (s.updEngine e f).rd g = s.rd g := by cases s; rfl
@[simp] theorem State.reg_updLane (l : Nat) (f : LaneDyn → LaneDyn) (o : Nat) : (s.updLane l f).reg o = s.reg o := by cases s; rfl
@[simp] theorem State.rd_updLane (l : Nat) (f : LaneDyn → LaneDyn) (g : Fld) : (s.updLane l f).rd g = s.rd g := by cases s; rfl
@[simp] theorem State.reg_updLink (k : Nat) (f : LinkDyn → LinkDyn) (o : Nat) : (s.updLink k f).reg o = s.reg o := by cases s; rfl
@[simp] theorem State.rd_updLink (k : Nat) (f : LinkDyn → LinkDyn) (g : Fld) : (s.updLink k f).rd g = s.rd g := by cases s; rfl
@[simp] theorem State.reg_setEgress (k : Nat) (e : Egress) (o : Nat) : (s.setEgress k e).reg o = s.reg o := by cases s; rfl
@[simp] theorem State.rd_setEgress (k : Nat) (e : Egress) (g : Fld) : (s.setEgress k e).rd g = s.rd g := by cases s; rfl
@[simp] theorem State.reg_updEgress (k : Nat) (f : Egress → Egress) (o : Nat) : (s.updEgress k f).reg o = s.reg o := by cases s; rfl
@[simp] theorem State.rd_updEgress (k : Nat) (f : Egress → Egress) (g : Fld) : (s.updEgress k f).rd g = s.rd g := by cases s; rfl
@[simp] theorem State.reg_setTakes (l : List PTake) (o : Nat) : (s.setTakes l).reg o = s.reg o := by cases s; rfl
@[simp] theorem State.rd_setTakes (l : List PTake) (g : Fld) : (s.setTakes l).rd g = s.rd g := by cases s; rfl
@[simp] theorem State.reg_setMcd (m : Nat) (x : McDyn) (o : Nat) : (s.setMcd m x).reg o = s.reg o := by cases s; rfl
@[simp] theorem State.rd_setMcd (m : Nat) (x : McDyn) (g : Fld) : (s.setMcd m x).rd g = s.rd g := by cases s; rfl
@[simp] theorem State.reg_updMcd (m : Nat) (f : McDyn → McDyn) (o : Nat) : (s.updMcd m f).reg o = s.reg o := by cases s; rfl
@[simp] theorem State.rd_updMcd (m : Nat) (f : McDyn → McDyn) (g : Fld) : (s.updMcd m f).rd g = s.rd g := by cases s; rfl
@[simp] theorem State.reg_setRing (n : Nat) (r : Ring) (o : Nat) : (s.setRing n r).reg o = s.reg o := by cases s; rfl
@[simp] theorem State.rd_setRing (n : Nat) (r : Ring) (g : Fld) : (s.setRing n r).rd g = s.rd g := by cases s; rfl
@[simp] theorem State.reg_setRef (src dom index : Nat) (r : RefState) (o : Nat) : (s.setRef src dom index r).reg o = s.reg o := by cases s; rfl
@[simp] theorem State.rd_setRef (src dom index : Nat) (r : RefState) (g : Fld) : (s.setRef src dom index r).rd g = s.rd g := by cases s; rfl
@[simp] theorem State.reg_setDmaQueue (e : Nat) (l : List DmaDesc) (o : Nat) : (s.setDmaQueue e l).reg o = s.reg o := by cases s; rfl
@[simp] theorem State.rd_setDmaQueue (e : Nat) (l : List DmaDesc) (g : Fld) : (s.setDmaQueue e l).rd g = s.rd g := by cases s; rfl

end Sys2Proof.Machine
end

