-- ==== Sys2Proof/Laws/Engine.lean ====
section
/-! SUPPORT. Laws of engines: what reading one gives after an update, what a cycle does to it, and what a bundle does whose slots
only compute. -/

namespace Sys2Proof.Machine

@[simp] theorem State.engine_setEngine_same (s : State) (e : Nat) (x : Eng) : (s.setEngine e x).engine e = x := by
  simp [State.engine, State.setEngine]
theorem State.engine_setEngine_other (s : State) {e k : Nat} (x : Eng) (h : k ≠ e) : (s.setEngine e x).engine k = s.engine k := by
  simp [State.engine, State.setEngine, SMap.get_set_other _ _ _ h]
@[simp] theorem State.engine_updEngine_same (s : State) (e : Nat) (f : Eng → Eng) : (s.updEngine e f).engine e = f (s.engine e) := by
  simp [State.updEngine]
theorem State.engine_updEngine_other (s : State) {e k : Nat} (f : Eng → Eng) (h : k ≠ e) : (s.updEngine e f).engine k = s.engine k :=
  State.engine_setEngine_other s _ h
@[simp] theorem State.engine_wr (s : State) (f : Fld) (v e : Nat) : (s.wr f v).engine e = s.engine e := rfl

/-- The engine's part of a cycle. -/
def Eng.cycled (x : Eng) : Eng :=
  let due := (x.fly.filter (fun f => decide (f.1 ≤ 1))).map (·.2)
  let y := (due.filter Landing.early ++ due.filter (fun l => !l.early)).foldl Eng.land x
  { y with fly := (x.fly.filter (fun f => decide (1 < f.1))).map (fun f => (f.1 - 1, f.2)) }

/-- The writes of IE among results that land. -/
def State.landIe (s : State) (e : Nat) (l : List Landing) : State :=
  l.foldl (fun s l => match l with | .ie v => s.wr (Reg.ENG.STATUS.IE e) v | _ => s) s

theorem State.engine_landIe (e k : Nat) (l : List Landing) : ∀ t : State, (t.landIe e l).engine k = t.engine k := by
  induction l with
  | nil => intro t; rfl
  | cons a l ih =>
    intro t
    simp only [State.landIe, List.foldl_cons]
    cases a <;> first | exact ih t | exact (ih _).trans (State.engine_wr _ _ _ _)

theorem State.rd_landIe (e : Nat) (l : List Landing) (f : Fld) (hf : f.lsb + f.w ≤ 6 ∨ 10 ≤ f.lsb) : ∀ t : State,
    (t.landIe e l).rd f = t.rd f := by
  induction l with
  | nil => intro t; rfl
  | cons a l ih =>
    intro t
    simp only [State.landIe, List.foldl_cons]
    cases a <;> first
      | exact ih t
      | exact (ih _).trans (State.rd_wr_apart _ _ rfl (by simpa [Reg.ENG.STATUS.IE] using hf))

theorem State.engCycle_eq (s : State) (e : Nat) : s.engCycle e =
    (s.setEngine e (s.engine e).cycled).landIe e (((s.engine e).fly.filter (fun f => decide (f.1 ≤ 1))).map (·.2)) := rfl

theorem State.engine_engCycle (s : State) (e : Nat) : (s.engCycle e).engine e = (s.engine e).cycled := by
  rw [State.engCycle_eq, State.engine_landIe]; simp

/-- An engine with other bookkeeping: the bundle put together, the bundle owed after reti, recent stores, results in flight. -/
def Eng.book (x : Eng) (o : Bundle) (f : Bool) (r : List (Nat × Nat)) (g : List (Nat × Landing)) : Eng :=
  { x with openB := o, fresh := f, recent := r, fly := g }

/-- What lands does not look at the bookkeeping. -/
theorem Eng.land_book (x : Eng) (l : Landing) (o : Bundle) (f : Bool) (r : List (Nat × Nat)) (g : List (Nat × Landing)) :
    (x.book o f r g).land l = (x.land l).book o f r g := by
  cases l with
  | sreg m r w => cases m <;> rfl
  | accSet r v bx => cases bx <;> rfl
  | accAdd r v bx => cases bx <;> rfl
  | lc m i n => cases m <;> rcases i with _ | i <;> rfl
  | _ => rfl

theorem Eng.lands_book (o : Bundle) (f : Bool) (r : List (Nat × Nat)) (g : List (Nat × Landing)) (l : List Landing) : ∀ x : Eng,
    l.foldl Eng.land (x.book o f r g) = (l.foldl Eng.land x).book o f r g := by
  induction l with
  | nil => intro x; rfl
  | cons a l ih => intro x; simp only [List.foldl_cons, Eng.land_book]; exact ih _

theorem Eng.lands_same (l : List Landing) : ∀ x : Eng, (l.foldl Eng.land x).fresh = x.fresh ∧ (l.foldl Eng.land x).recent = x.recent := by
  induction l with
  | nil => intro x; exact ⟨rfl, rfl⟩
  | cons a l ih =>
    intro x
    have h : (x.land a).fresh = x.fresh ∧ (x.land a).recent = x.recent := by
      cases a with
      | sreg m r w => cases m <;> exact ⟨rfl, rfl⟩
      | accSet r v bx => cases bx <;> exact ⟨rfl, rfl⟩
      | accAdd r v bx => cases bx <;> exact ⟨rfl, rfl⟩
      | lc m i n => cases m <;> rcases i with _ | i <;> exact ⟨rfl, rfl⟩
      | _ => exact ⟨rfl, rfl⟩
    obtain ⟨h1, h2⟩ := ih (x.land a)
    exact ⟨h1.trans h.1, h2.trans h.2⟩

theorem Eng.cycled_of_book (x : Eng) (o : Bundle) (f : Bool) (r : List (Nat × Nat)) (F : List (Nat × Landing)) :
    (x.book o f r F).cycled = (((F.filter (fun f => decide (f.1 ≤ 1))).map (·.2) |>.filter Landing.early) ++
      ((F.filter (fun f => decide (f.1 ≤ 1))).map (·.2) |>.filter (fun l => !l.early)) |>.foldl Eng.land x).book o f r
        ((F.filter (fun f => decide (1 < f.1))).map (fun f => (f.1 - 1, f.2))) := by
  show ({ List.foldl Eng.land (x.book o f r F) _ with fly := _ } : Eng) = _
  rw [Eng.lands_book]; rfl

theorem Eng.cycled_book (x : Eng) (F : List (Nat × Landing)) (f : Bool) (r : List (Nat × Nat)) :
    ({ x with openB := {}, fly := F, recent := r, fresh := f } : Eng).cycled =
      { ({ x with fly := F } : Eng).cycled with openB := {}, fresh := f, recent := r } := by
  have h1 := Eng.cycled_of_book x {} f r F
  have h2 := Eng.cycled_of_book x x.openB x.fresh x.recent F
  exact h1.trans (by rw [show ({ x with fly := F } : Eng) = x.book x.openB x.fresh x.recent F from rfl, h2]; rfl)

theorem Eng.cycled_passes (x y : Eng) (F : List (Nat × Landing)) (h : Bool) (hy : y = ({ x with fly := F } : Eng).cycled) :
    (x.book {} (x.fresh && h) ((x.recent.map (fun r => (r.1 + 1, r.2))).filter (fun r => decide (r.1 < 8))) F).cycled =
      { y with
        openB := {}, fresh := y.fresh && h,
        recent := (y.recent.map (fun r => (r.1 + 1, r.2))).filter (fun r => decide (r.1 < 8)) } := by
  have h2 := Eng.lands_same (((F.filter (fun f => decide (f.1 ≤ 1))).map (·.2) |>.filter Landing.early) ++
      ((F.filter (fun f => decide (f.1 ≤ 1))).map (·.2) |>.filter (fun l => !l.early))) { x with fly := F }
  have hf : y.fresh = x.fresh := by rw [hy]; exact h2.1
  have hr : y.recent = x.recent := by rw [hy]; exact h2.2
  have e := Eng.cycled_book x F (x.fresh && h) ((x.recent.map (fun r => (r.1 + 1, r.2))).filter (fun r => decide (r.1 < 8)))
  rw [← hy] at e
  rw [hf, hr]; exact e

theorem Eng.cycled_same (x : Eng) : x.cycled.fresh = x.fresh ∧ x.cycled.recent = x.recent := Eng.lands_same _ x

theorem State.clear_iff {s : State} {e : Nat} (h : s.clear e = true) :
    s.mayIssue e = true ∧ (s.engine e).openB = {} ∧ (s.engine e).fly = [] ∧ (s.engine e).br = none ∧ (s.engine e).atom = 0 ∧
      (((s.engine e).ls (!s.inHandler e)).head?).any (fun l => l.last == s.engPc e) = false := by
  simp only [State.clear, Bool.and_eq_true, beq_iff_eq, List.isEmpty_iff, Option.isNone_iff_eq_none, Bool.not_eq_true'] at h
  obtain ⟨⟨⟨⟨⟨h1, h2⟩, h3⟩, h4⟩, h5⟩, h6⟩ := h
  exact ⟨h1, h2, h3, h4, h5, h6⟩

theorem Eng.loopEnd_clear {x : Eng} {main : Bool} {pc : Nat} (h : ((x.ls main).head?).any (fun l => l.last == pc) = false) :
    x.loopEnd main pc = (x, pc + 1) := by
  simp only [Eng.loopEnd]
  cases hl : x.ls main with
  | nil => rfl
  | cons a l => simp [hl] at h; simp [h]

theorem State.landIe_eng (e : Nat) (l : List Landing) : ∀ t : State, (t.landIe e l).eng = t.eng := by
  induction l with
  | nil => intro t; rfl
  | cons a l ih =>
    intro t
    simp only [State.landIe, List.foldl_cons]
    cases a <;> first | exact ih t | exact ih _

/-- Writes of IE change registers alone. -/
theorem State.landIe_eq (e : Nat) (l : List Landing) : ∀ t : State, t.landIe e l = { t with regs := (t.landIe e l).regs } := by
  induction l with
  | nil => intro t; rfl
  | cons a l ih =>
    intro t
    cases a <;> first | exact ih t | exact ih (t.wr _ _)

theorem State.landIe_regs (e : Nat) (l : List Landing) : ∀ {t u : State}, t.regs = u.regs → (t.landIe e l).regs = (u.landIe e l).regs := by
  induction l with
  | nil => intro t u h; exact h
  | cons a l ih =>
    intro t u h
    simp only [State.landIe, List.foldl_cons]
    cases a <;> first
      | exact ih h
      | exact ih (t := t.wr _ _) (u := u.wr _ _) (by simp only [State.wr, State.setReg, State.reg, h])

theorem clash_s (o : SlotOp) : clash { s := o } = false := by simp [clash, lDestsS, lDestsV, vDests, mDests]
theorem clash_l (o : SlotOp) (h : o.op = 0x03 → o.d ≠ o.m) : clash { l := o } = false := by
  simp only [clash, sDests, vDests, mDests]
  by_cases h3 : o.op = 3 <;> simp [h3]
  exact h h3
theorem clash_v (o : SlotOp) : clash { v := o } = false := by simp [clash, lDestsS, lDestsV, sDests, mDests]
theorem clash_m (o : SlotOp) : clash { m := o } = false := by simp [clash, lDestsS, lDestsV, sDests, vDests]

theorem State.sIllegal_nop (s : State) (e : Nat) : s.sIllegal e {} = false := by simp [State.sIllegal, isBranch, isLoop]
theorem vIllegal_nop : vIllegal {} = false := rfl
theorem mIllegal_nop : mIllegal {} = false := rfl
theorem State.sSlot_nop (s : State) (e : Nat) : s.sSlot e {} = ([], .plain) := rfl
theorem State.lSlot_nop (s : State) (e : Nat) : s.lSlot e {} = { st := s } := rfl
theorem State.vSlot_nop (s : State) (e : Nat) : s.vSlot e {} = [] := rfl
theorem State.mSlot_nop (s : State) (e : Nat) : s.mSlot e {} = [] := rfl

/-- From issue on: the flow passes the bundle and a cycle passes, in an engine left as `x` by its slots, with results `F`. -/
theorem State.finish {s s1 : State} {e n : Nat} {c : Ctl} {x y : Eng} {F : List (Nat × Landing)}
    (e1 : s1.engine e = x.book {} (x.fresh && s.inHandler e) ((x.recent.map (fun r => (r.1 + 1, r.2))).filter (fun r => decide (r.1 < 8))) F)
    (e2 : ∀ k, k ≠ e → s1.engine k = s.engine k) (e3 : s1.eng.dmaq = s.eng.dmaq) (e4 : s1.eng.cmem = s.eng.cmem)
    (e5 : ({ s1 with eng := s.eng } : State) = s) (hyf : y.fresh = x.fresh) (hyr : y.recent = x.recent)
    (hadv : ∀ f r F, (x.book {} f r F).advance (!s.inHandler e) (s.engPc e) c = (y.book {} f r F, n, false)) :
    Passes e ({ y with fly := F } : Eng).cycled s
      ((s.wr (Reg.ENG.STATUS.PC e) n).landIe e ((F.filter (fun f : Nat × Landing => decide (f.1 ≤ 1))).map (fun f : Nat × Landing => f.2)))
      ((s1.pass e c).engCycle e) := by
  have hr1 : s1.regs = s.regs := by rw [← e5]
  have hpc : s1.engPc e = s.engPc e := by simp only [State.engPc, State.rd, State.reg, hr1]
  have hih : s1.inHandler e = s.inHandler e := by simp only [State.inHandler, State.isSet, State.rd, State.reg, hr1]
  have hadv1 := hadv (x.fresh && s.inHandler e) ((x.recent.map (fun r => (r.1 + 1, r.2))).filter (fun r => decide (r.1 < 8))) F
  rw [← e1] at hadv1
  have hy1 : y.book {} (x.fresh && s.inHandler e) ((x.recent.map (fun r => (r.1 + 1, r.2))).filter (fun r => decide (r.1 < 8))) F =
      y.book {} (y.fresh && s.inHandler e) ((y.recent.map (fun r => (r.1 + 1, r.2))).filter (fun r => decide (r.1 < 8))) F := by rw [hyf, hyr]
  rw [hy1] at hadv1
  set x1 := y.book {} (y.fresh && s.inHandler e) ((y.recent.map (fun r => (r.1 + 1, r.2))).filter (fun r => decide (r.1 < 8))) F with hx1
  have hpass : s1.pass e c = (s1.setEngine e x1).wr (Reg.ENG.STATUS.PC e) n := by
    simp only [State.pass, hpc, hih, hadv1]; rfl
  have hcyc : ((s1.pass e c).engCycle e) = (((s1.pass e c).setEngine e x1.cycled).landIe e
      ((F.filter (fun f => decide (f.1 ≤ 1))).map (·.2))) := by
    rw [State.engCycle_eq]
    have : (s1.pass e c).engine e = x1 := by
      rw [hpass]; simp only [State.engine_wr, State.engine_setEngine_same]
    have hfl : x1.fly = F := rfl
    rw [this, hfl]
  refine ⟨?_, ?_, ?_, ?_, ?_⟩
  · rw [hcyc, State.engine_landIe, State.engine_setEngine_same]
    exact Eng.cycled_passes _ _ F _ rfl
  · intro k hk
    rw [hcyc, State.engine_landIe, State.engine_setEngine_other _ _ hk, hpass, State.engine_wr, State.engine_setEngine_other _ _ hk]
    exact e2 k hk
  · rw [hcyc, State.landIe_eng, hpass]; exact e3
  · rw [hcyc, State.landIe_eng, hpass]; exact e4
  · clear_value x1
    generalize x1.cycled = y at hcyc
    rw [hcyc, hpass]
    clear hpass hcyc hadv1 hih hpc e1
    have h3 : (((s1.setEngine e x1).wr (Reg.ENG.STATUS.PC e) n).setEngine e y).regs = (s.wr (Reg.ENG.STATUS.PC e) n).regs := by
      simp only [State.setEngine_regs, State.wr, State.setReg, State.reg, hr1]
    have h4 : ({ ((s1.setEngine e x1).wr (Reg.ENG.STATUS.PC e) n).setEngine e y with eng := s.eng } : State) = s.wr (Reg.ENG.STATUS.PC e) n := by
      have h5 : ({ s1 with eng := s.eng, regs := (s.wr (Reg.ENG.STATUS.PC e) n).regs } : State) = s.wr (Reg.ENG.STATUS.PC e) n := by
        rw [show ({ s1 with eng := s.eng, regs := (s.wr (Reg.ENG.STATUS.PC e) n).regs } : State) = { ({ s1 with eng := s.eng } : State) with regs := (s.wr (Reg.ENG.STATUS.PC e) n).regs } from rfl, e5]; rfl
      rw [← h5]
      apply State.ext <;> first | exact h3 | simp
    rw [State.landIe_eq, State.landIe_eq e _ (s.wr (Reg.ENG.STATUS.PC e) n), State.landIe_regs e _ h3]
    generalize ((s.wr (Reg.ENG.STATUS.PC e) n).landIe e _).regs = R
    rw [← h4]

/-- What a bundle does that is legal, whose slots only compute and direct the flow, in an engine with nothing under way: the flow leaves
the engine as `y`, at bundle `n`. -/
theorem State.issue_after {s : State} {e n : Nat} {b : Bundle} {lands : List Landing} {lf vf mf : List (Nat × Landing)} {c : Ctl} {y : Eng}
    (hc : s.clear e = true) (hi : s.illegal e b = false)
    (hs : ∀ t : State, t = s.updEngine e (fun x => { x with openB := {} }) → t.sSlot e b.s = (lands, c))
    (hl : ∀ t : State, t = s.updEngine e (fun x => { x with openB := {} }) → t.lSlot e b.l = { st := t, fly := lf })
    (hv : ∀ t : State, t = s.updEngine e (fun x => { x with openB := {} }) → t.vSlot e b.v = vf)
    (hm : ∀ t : State, t = s.updEngine e (fun x => { x with openB := {} }) → t.mSlot e b.m = mf)
    (hsp : c ≠ .spec) (hyf : y.fresh = (s.engine e).fresh) (hyr : y.recent = (s.engine e).recent)
    (hadv : ∀ f r F, ((s.engine e).book {} f r F).advance (!s.inHandler e) (s.engPc e) c = (y.book {} f r F, n, false)) :
    ∃ t, s.issue e b = t.after e c ∧ Passes e ({ y with fly := lands.map (fun l => (1, l)) ++ lf ++ vf ++ mf } : Eng).cycled s
      ((s.wr (Reg.ENG.STATUS.PC e) n).landIe e (((lands.map (fun l => (1, l)) ++ lf ++ vf ++ mf).filter (fun f : Nat × Landing => decide (f.1 ≤ 1))).map (fun f : Nat × Landing => f.2))) t := by
  obtain ⟨-, ho, hf, hb, ha, hlo⟩ := State.clear_iff hc
  simp only [State.issue]
  rw [hi]
  simp only [Bool.false_eq_true, if_false, State.runSlots, hs _ rfl, hl _ rfl, hv _ rfl, hm _ rfl, State.raise]
  rw [if_neg hsp]
  refine ⟨_, rfl, State.finish ?_ ?_ rfl rfl ?_ hyf hyr hadv⟩
  · simp only [State.fly, State.engine_updEngine_same]
    simp only [hf, List.nil_append]
    rfl
  · intro k hk
    simp only [State.fly]
    rw [State.engine_updEngine_other _ _ hk, State.engine_updEngine_other _ _ hk]
  · apply State.ext <;> simp [State.fly, State.updEngine]

/-- The same for a load or store alone in its bundle, whose slot leaves state `w`: with `x` as its engine, and all else as in `s2`. -/
theorem State.inL_after {s s2 w : State} {e : Nat} {o : SlotOp} {lf : List (Nat × Landing)} {x : Eng}
    (hc : s.clear e = true) (hd : o.op = 0x03 → o.d ≠ o.m)
    (hl : (s.updEngine e (fun x => { x with openB := {} })).lSlot e o = { st := w, fly := lf })
    (h1 : w.engine e = x) (h2 : ∀ k, k ≠ e → w.engine k = s2.engine k) (h3 : w.eng.dmaq = s2.eng.dmaq) (h4 : w.eng.cmem = s2.eng.cmem)
    (h5 : ({ w with eng := s2.eng } : State) = s2) (h6 : s2.regs = s.regs)
    (hob : x.openB = {}) (hx : x.fly = [] ∧ x.br = none ∧ x.atom = 0 ∧ x.ls (!s.inHandler e) = (s.engine e).ls (!s.inHandler e)) :
    Passes e ({ x with fly := lf } : Eng).cycled s2 ((s2.nextPc e).landIe e ((lf.filter (fun f : Nat × Landing => decide (f.1 ≤ 1))).map (fun f : Nat × Landing => f.2)))
      (s.inL e false o) := by
  obtain ⟨-, ho, hf, hb, ha, hlo⟩ := State.clear_iff hc
  have hil : s.illegal e { l := o } = false := by
    simp [State.illegal, clash_l _ hd, vIllegal_nop, mIllegal_nop, State.sIllegal, isBranch, isLoop]
    simp [State.placeIllegal, ha, isBranch, hb]
  have hr : w.regs = s2.regs := by rw [← h5]
  have hih : s2.inHandler e = s.inHandler e := by simp only [State.inHandler, State.isSet, State.rd, State.reg, h6]
  have hpc : s2.engPc e = s.engPc e := by simp only [State.engPc, State.rd, State.reg, h6]
  have hihw : w.inHandler e = s2.inHandler e := by simp only [State.inHandler, State.isSet, State.rd, State.reg, hr]
  rw [State.inL]
  have hp : s.place e false (fun b => { b with l := o }) = s.issue e { l := o } := by
    have hmay := (State.clear_iff hc).1
    simp [State.place, hmay, ho]
  rw [hp]
  simp only [State.issue]
  rw [hil]
  simp only [Bool.false_eq_true, if_false, State.runSlots, hl, State.raise]
  have hs0 : ∀ t : State, t.sSlot e {} = ([], .plain) := fun t => rfl
  have hv0 : ∀ t : State, t.vSlot e {} = [] := fun t => rfl
  have hm0 : ∀ t : State, t.mSlot e {} = [] := fun t => rfl
  simp only [hs0, hv0, hm0, List.map_nil, List.nil_append, List.append_nil]
  rw [if_neg (by decide)]
  show Passes e _ s2 _ ((State.pass (w.fly e lf) e .plain).engCycle e)
  refine State.finish (x := x) (y := x) ?_ ?_ h3 h4 ?_ rfl rfl ?_
  · simp only [State.fly, State.engine_updEngine_same, h1, hihw, hx.1, List.nil_append]
    simp only [Eng.book, hob]
  · intro k hk
    simp only [State.fly]
    rw [State.engine_updEngine_other _ _ hk]; exact h2 k hk
  · rw [← h5]; apply State.ext <;> simp [State.fly, State.updEngine]
  · intro f r F
    rw [hih, hpc]
    simp only [Eng.advance]
    have hy : ({ x.book {} f r F with atom := (x.book {} f r F).atom - 1 } : Eng) = x.book {} f r F := by simp [Eng.book, hx.2.2.1]
    have hls : (x.book {} f r F).ls (!s.inHandler e) = (s.engine e).ls (!s.inHandler e) := hx.2.2.2
    rw [hy, Eng.loopEnd_clear (by rw [hls]; exact hlo)]
    simp [Eng.branchEnd, Eng.book, hx.2.1]

/-- The same where nothing comes after the cycle. -/
theorem State.issue_ctl {s : State} {e n : Nat} {b : Bundle} {lands : List Landing} {lf vf mf : List (Nat × Landing)} {c : Ctl} {y : Eng}
    (hc : s.clear e = true) (hi : s.illegal e b = false)
    (hs : ∀ t : State, t = s.updEngine e (fun x => { x with openB := {} }) → t.sSlot e b.s = (lands, c))
    (hl : ∀ t : State, t = s.updEngine e (fun x => { x with openB := {} }) → t.lSlot e b.l = { st := t, fly := lf })
    (hv : ∀ t : State, t = s.updEngine e (fun x => { x with openB := {} }) → t.vSlot e b.v = vf)
    (hm : ∀ t : State, t = s.updEngine e (fun x => { x with openB := {} }) → t.mSlot e b.m = mf)
    (hsp : c ≠ .spec) (hafter : ∀ t : State, t.after e c = t) (hyf : y.fresh = (s.engine e).fresh) (hyr : y.recent = (s.engine e).recent)
    (hadv : ∀ f r F, ((s.engine e).book {} f r F).advance (!s.inHandler e) (s.engPc e) c = (y.book {} f r F, n, false)) :
    Passes e ({ y with fly := lands.map (fun l => (1, l)) ++ lf ++ vf ++ mf } : Eng).cycled s
      ((s.wr (Reg.ENG.STATUS.PC e) n).landIe e (((lands.map (fun l => (1, l)) ++ lf ++ vf ++ mf).filter (fun f : Nat × Landing => decide (f.1 ≤ 1))).map (fun f : Nat × Landing => f.2)))
      (s.issue e b) := by
  obtain ⟨t, h1, h2⟩ := State.issue_after hc hi hs hl hv hm hsp hyf hyr hadv
  rw [h1, hafter]; exact h2

/-- The flow of a bundle that only computes goes to the next one. -/
theorem Eng.advance_plain {s : State} {e : Nat} (hc : s.clear e = true) (f : Bool) (r : List (Nat × Nat)) (F : List (Nat × Landing)) :
    ((s.engine e).book {} f r F).advance (!s.inHandler e) (s.engPc e) .plain = ((s.engine e).book {} f r F, s.engPc e + 1, false) := by
  obtain ⟨-, -, -, hb, ha, hlo⟩ := State.clear_iff hc
  simp only [Eng.advance]
  have hy : ({ (s.engine e).book {} f r F with atom := ((s.engine e).book {} f r F).atom - 1 } : Eng) = (s.engine e).book {} f r F := by
    simp [Eng.book, ha]
  rw [hy, Eng.loopEnd_clear (by exact hlo)]
  simp [Eng.branchEnd, Eng.book, hb]

/-- What a bundle does that is legal, whose slots only compute, in an engine with nothing under way. -/
theorem State.issue_only {s : State} {e : Nat} {b : Bundle} {lands : List Landing} {lf vf mf : List (Nat × Landing)}
    (hc : s.clear e = true) (hi : s.illegal e b = false)
    (hs : ∀ t : State, t = s.updEngine e (fun x => { x with openB := {} }) → t.sSlot e b.s = (lands, .plain))
    (hl : ∀ t : State, t = s.updEngine e (fun x => { x with openB := {} }) → t.lSlot e b.l = { st := t, fly := lf })
    (hv : ∀ t : State, t = s.updEngine e (fun x => { x with openB := {} }) → t.vSlot e b.v = vf)
    (hm : ∀ t : State, t = s.updEngine e (fun x => { x with openB := {} }) → t.mSlot e b.m = mf) :
    Passes e ({ s.engine e with fly := lands.map (fun l => (1, l)) ++ lf ++ vf ++ mf } : Eng).cycled s
      ((s.nextPc e).landIe e (((lands.map (fun l => (1, l)) ++ lf ++ vf ++ mf).filter (fun f : Nat × Landing => decide (f.1 ≤ 1))).map (fun f : Nat × Landing => f.2)))
      (s.issue e b) :=
  State.issue_ctl hc hi hs hl hv hm (by decide) (fun _ => rfl) rfl rfl (Eng.advance_plain hc)

/-- An operation put alone into the bundle of an engine with nothing under way issues at once. -/
theorem State.place_clear {s : State} {e : Nat} (hc : s.clear e = true) (f : Bundle → Bundle) : s.place e false f = s.issue e (f {}) := by
  obtain ⟨h1, h2, -⟩ := State.clear_iff hc
  simp [State.place, h1, h2]

/-- Nothing about the place of a bundle is illegal in an engine with nothing under way. -/
theorem State.placeIllegal_clear {s : State} {e : Nat} (hc : s.clear e = true) (o : SlotOp) : s.placeIllegal e o = false := by
  obtain ⟨-, -, -, -, h3, h4⟩ := State.clear_iff hc
  simp [State.placeIllegal, h3, h4]

/-- A scalar operation alone in its bundle, of which a list of values lands. -/
theorem State.inS_only {s : State} {e : Nat} {o : SlotOp} {l : List Landing} (hc : s.clear e = true) (hi : s.sIllegal e o = false)
    (hs : ∀ t : State, t = s.updEngine e (fun x => { x with openB := {} }) → t.sSlot e o = (l, .plain)) :
    Passes e ((l.filter Landing.early ++ l.filter (fun x => !x.early)).foldl Eng.land (s.engine e)) s ((s.nextPc e).landIe e l) (s.inS e false o) := by
  have hil : s.illegal e { s := o } = false := by
    simp [State.illegal, clash_s, vIllegal_nop, mIllegal_nop, hi, State.placeIllegal_clear hc]
  have h := State.issue_only (lf := []) (vf := []) (mf := []) (b := { s := o }) hc hil hs (fun t _ => State.lSlot_nop t e)
    (fun t _ => State.vSlot_nop t e) (fun t _ => State.mSlot_nop t e)
  rw [State.inS, State.place_clear hc]
  have hf1 : (l.map (fun l => (1, l))).filter (fun f : Nat × Landing => decide (f.1 ≤ 1)) = l.map (fun l => (1, l)) := by
    rw [List.filter_eq_self]; simp
  have hf2 : (l.map (fun l => (1, l))).filter (fun f : Nat × Landing => decide (1 < f.1)) = [] := by
    rw [List.filter_eq_nil_iff]; simp
  have hm : (l.map (fun l => ((1, l) : Nat × Landing))).map (fun f => f.2) = l := by simp
  simp only [List.append_nil, hf1, hm] at h
  obtain ⟨-, -, hfly, -⟩ := State.clear_iff hc
  have hy : ({ s.engine e with fly := l.map (fun l => (1, l)) } : Eng).cycled =
      (l.filter Landing.early ++ l.filter (fun x => !x.early)).foldl Eng.land (s.engine e) := by
    have := Eng.cycled_of_book (s.engine e) (s.engine e).openB (s.engine e).fresh (s.engine e).recent (l.map (fun l => (1, l)))
    rw [hf1, hf2, hm] at this
    refine Eq.trans this ?_
    have h2 := Eng.lands_book (s.engine e).openB (s.engine e).fresh (s.engine e).recent []
      (l.filter Landing.early ++ l.filter (fun x => !x.early)) (s.engine e)
    rw [show (s.engine e).book (s.engine e).openB (s.engine e).fresh (s.engine e).recent [] = s.engine e from by
      rw [← hfly]; rfl] at h2
    exact h2.symm
  rw [← hy]; exact h

/-- A cycle with nothing in flight changes nothing. -/
theorem Passes.engCycle {e : Nat} {y : Eng} {s u t : State} (hf : y.fly = []) (h : Passes e y s u t) : Passes e y s u (t.engCycle e) := by
  obtain ⟨h1, h2, h3, h4, h5⟩ := h
  have hfly : (t.engine e).fly = [] := by rw [h1]; exact hf
  have hcy : (t.engine e).cycled = t.engine e := by
    simp only [Eng.cycled, hfly, List.filter_nil, List.map_nil, List.append_nil, List.foldl_nil]
    rw [← hfly]
  have heq : t.engCycle e = t.setEngine e (t.engine e) := by
    rw [State.engCycle_eq, hcy, hfly]; rfl
  rw [heq]
  refine ⟨by rw [State.engine_setEngine_same]; exact h1, fun k hk => (State.engine_setEngine_other _ _ hk).trans (h2 k hk), h3, h4, ?_⟩
  rw [← h5]; apply State.ext <;> simp

theorem Passes.engDrain {e : Nat} {y : Eng} {s u t : State} (hf : y.fly = []) (h : Passes e y s u t) : Passes e y s u (t.engDrain e) := by
  have : ∀ n, Passes e y s u ((List.range n).foldl (fun s _ => s.engCycle e) t) := by
    intro n
    induction n with
    | zero => exact h
    | succ k ih => rw [List.range_succ, List.foldl_append]; exact ih.engCycle hf
  exact this 8

theorem Passes.updEngine {e : Nat} {y z : Eng} {s u t : State} (f : Eng → Eng) (hz : ∀ (o : Bundle) b r, f { y with openB := o, fresh := b, recent := r } = { z with openB := o, fresh := b, recent := r })
    (hfr : z.fresh = y.fresh) (hre : z.recent = y.recent) (h : Passes e y s u t) : Passes e z s u (t.updEngine e f) := by
  obtain ⟨h1, h2, h3, h4, h5⟩ := h
  refine ⟨by rw [State.engine_updEngine_same, h1, hz, hfr, hre], fun k hk => (State.engine_updEngine_other _ _ hk).trans (h2 k hk), h3, h4, ?_⟩
  rw [← h5]; simp only [State.updEngine]; apply State.ext <;> simp

/-- Registers after a bundle. -/
theorem Passes.rd_eq {e : Nat} {y : Eng} {s u t : State} (h : Passes e y s u t) (f : Fld) : t.rd f = u.rd f := by
  have h5 := h.2.2.2.2
  have hr : t.regs = u.regs := by rw [← h5]
  simp only [State.rd, State.reg, hr]

/-- Register writes after a bundle. -/
theorem Passes.wr {e : Nat} {y : Eng} {s u t : State} (f : Fld) (v : Nat) (h : Passes e y s u t) : Passes e y s (u.wr f v) (t.wr f v) := by
  obtain ⟨h1, h2, h3, h4, h5⟩ := h
  refine ⟨h1, h2, h3, h4, ?_⟩
  have hr : t.regs = u.regs := by rw [← h5]
  conv_rhs => rw [← h5]
  rfl

/-- A scalar operation alone in its bundle, with what comes after its cycle. -/
theorem State.inS_after {s : State} {e n : Nat} {o : SlotOp} {l : List Landing} {c : Ctl} {y : Eng} (hc : s.clear e = true)
    (hi : s.sIllegal e o = false)
    (hs : ∀ t : State, t = s.updEngine e (fun x => { x with openB := {} }) → t.sSlot e o = (l, c))
    (hsp : c ≠ .spec) (hyf : y.fresh = (s.engine e).fresh) (hyr : y.recent = (s.engine e).recent)
    (hadv : ∀ f r F, ((s.engine e).book {} f r F).advance (!s.inHandler e) (s.engPc e) c = (y.book {} f r F, n, false))
    (hpl : s.placeIllegal e o = false) :
    ∃ t, s.inS e false o = t.after e c ∧ Passes e ({ y with fly := l.map (fun l => (1, l)) } : Eng).cycled s
      ((s.wr (Reg.ENG.STATUS.PC e) n).landIe e (((l.map (fun l => (1, l))).filter (fun f : Nat × Landing => decide (f.1 ≤ 1))).map (fun f : Nat × Landing => f.2))) t := by
  have hil : s.illegal e { s := o } = false := by
    simp [State.illegal, clash_s, vIllegal_nop, mIllegal_nop, hi, hpl]
  have h := State.issue_after (lf := []) (vf := []) (mf := []) (b := { s := o }) hc hil hs (fun t _ => State.lSlot_nop t e)
    (fun t _ => State.vSlot_nop t e) (fun t _ => State.mSlot_nop t e) hsp hyf hyr hadv
  rw [State.inS, State.place_clear hc]
  simpa only [List.append_nil] using h

/-- A scalar operation that directs the flow, alone in its bundle. -/
theorem State.inS_ctl {s : State} {e n : Nat} {o : SlotOp} {l : List Landing} {c : Ctl} {y : Eng} (hc : s.clear e = true)
    (hi : s.sIllegal e o = false)
    (hs : ∀ t : State, t = s.updEngine e (fun x => { x with openB := {} }) → t.sSlot e o = (l, c))
    (hsp : c ≠ .spec) (hafter : ∀ t : State, t.after e c = t) (hyf : y.fresh = (s.engine e).fresh) (hyr : y.recent = (s.engine e).recent)
    (hadv : ∀ f r F, ((s.engine e).book {} f r F).advance (!s.inHandler e) (s.engPc e) c = (y.book {} f r F, n, false)) :
    Passes e ({ y with fly := l.map (fun l => (1, l)) } : Eng).cycled s
      ((s.wr (Reg.ENG.STATUS.PC e) n).landIe e (((l.map (fun l => (1, l))).filter (fun f : Nat × Landing => decide (f.1 ≤ 1))).map (fun f : Nat × Landing => f.2)))
      (s.inS e false o) := by
  have hil : s.illegal e { s := o } = false := by
    simp [State.illegal, clash_s, vIllegal_nop, mIllegal_nop, hi, State.placeIllegal_clear hc]
  have h := State.issue_ctl (lf := []) (vf := []) (mf := []) (b := { s := o }) hc hil hs (fun t _ => State.lSlot_nop t e)
    (fun t _ => State.vSlot_nop t e) (fun t _ => State.mSlot_nop t e) hsp hafter hyf hyr hadv
  rw [State.inS, State.place_clear hc]
  simpa only [List.append_nil] using h

/-- Results of a latency above 1 stay in flight, one cycle older. -/
theorem Eng.cycled_later (x : Eng) (F : List (Nat × Landing)) (h : ∀ f ∈ F, 1 < f.1) :
    ({ x with fly := F } : Eng).cycled = { x with fly := F.map (fun f => (f.1 - 1, f.2)) } := by
  have h1 : F.filter (fun f => decide (f.1 ≤ 1)) = [] := by
    rw [List.filter_eq_nil_iff]; intro f hf; have := h f hf; simp; omega
  have h2 : F.filter (fun f => decide (1 < f.1)) = F := by rw [List.filter_eq_self]; intro f hf; simp [h f hf]
  have := Eng.cycled_of_book x x.openB x.fresh x.recent F
  rw [h1, h2] at this
  exact this

end Sys2Proof.Machine
end

