-- ==== Sys2Proof/Tests/Base.lean ====
section
/-! SUPPORT. Small states the tests and witnesses start from. -/

namespace Sys2Proof.Machine

/-- A state with the listed fields written. -/
def State.put (s : State) (l : List (Fld × Nat)) : State := l.foldl (fun t x => t.wr x.1 x.2) s

/-- Every power domain ON, the transports ready, Flight mode, locked: a state most commands run in. -/
def flying : State :=
  State.put State.reset
    [(Reg.PWR.DOM0.STATES, 0xFFFFFFFF), (Reg.PWR.DOM1.STATES, 0xFFFFFFF), (Reg.CMD.STATUS.FW_READY, 1),
      (Reg.MODE.STATUS.MODE, 4), (Reg.TICK.STATUS.LOCK, 2)]

/-- A header of ring 0 with no flags and TARGET 0. -/
def hdr : Hdr := ⟨.ring 0 0 true, 1, 0, 0, [], 0⟩

/-- A state whose contract table holds one entry, at index 5: contract ID 0x1005 for generation 1. -/
def State.with5 (s : State) (c : Contract) : State := { s with led := { s.led with contracts := [(5, c)] } }

/-- The bytes of contract ID 0x1005. -/
def id5 : List Byte := [5, 0x10, 0, 0]

end Sys2Proof.Machine
end

