-- ==== Sys2Proof/Tests/Slice0.lean ====
section
/-! SUPPORT. Tests: an ill-formed term for every check of WellFormed, the spec's worked numbers, and small steps. The
expected values are the spec's; each test names where they stand. -/

namespace Sys2Proof.Tests

open Sys2Proof.Machine

set_option Elab.async false

/-! ## WellFormed -/

theorem test_wf_transports :
    (.devQuery hdr [] : Instr).wf = true ∧ (.devQuery { hdr with via := .ring 4 0 true } [] : Instr).wf = false ∧
    (.devQuery { hdr with via := .ring 0 4096 true } [] : Instr).wf = false ∧ (.devQuery { hdr with via := .mesh 0 } [] : Instr).wf = false ∧
    (.devQuery { hdr with via := .mesh 16385 } [] : Instr).wf = false ∧ (.devQuery { hdr with via := .spi } [] : Instr).wf = true := by decide

theorem test_wf_plen : (.devQuery hdr (List.replicate 65536 0) : Instr).wf = false := by decide +kernel

theorem test_wf_numbers :
    ([.sqTailWrite 4 0, .ringBaseWrite 0 4 0, .ringBaseWrite 0 0 (2 ^ 32), .frameForward 6 0 0 { ty := 0 }, .coreWatchdogExpiry 0, .coreWatchdogExpiry 5,
      .ptpReferenceLost ⟨0, 100⟩, .analogReferenceLost 2, .dolmetReferenceLost 6, .releasingComplete 4096, .legLossTimeout 1024 0,
      .legLossTimeout 0 2, .moduleInsert 24, .xbarParityFault 192, .sNop 256 false, .marchGroup 8 none, .fpllUnlock 16,
      .vpllUnlock 4, .scrubFrameRead 56 0 0, .refreshInterval 8, .bucketLeak 94, .regionInitComplete 64, .eyeGateStart 16,
      .thermalTrip 16, .interruptSourceRise 2048 true, .holdoffExpiry 64, .hostBar2Write (2 ^ 28) [], .coreHaltTaken 5,
      .sourceResume 4096 0] : List Instr).all (fun i => !i.wf) = true := by decide

theorem test_wf_lanes :
    ([.blockLockLoss 96, .blockLockLoss 127, .blockLockLoss 144, .quadPllUnlock 24 0, .quadPllUnlock 36 0] : List Instr).all
      (fun i => !i.wf) = true ∧ (.blockLockLoss 143 : Instr).wf = true ∧ (.quadPllUnlock 35 0 : Instr).wf = true := by decide

theorem test_wf_masters :
    ([.registerWrite 0 0 0, .registerWrite 7 0 0, .registerWrite 5 2 0, .registerWrite 5 (2 ^ 26) 0, .registerWrite 5 0 (2 ^ 32),
      .lockRead 8 0x30800, .lockRead 352 0x30800, .lockRead 0 0x30800] : List Instr).all (fun i => !i.wf) = true ∧
    (.lockRead 351 0x30800 : Instr).wf = true := by decide

/-! ## The spec's worked numbers -/

/-- R58: capacities per slot at 59.94 Hz, of FPORT at 800 MHz, XBAR, SEC, a cluster's ENG at OP3 and at OP0. -/
theorem test_capacities :
    (flying.put [(Reg.FAB.FPORT_CFG.CLK_KHZ 0, 800000)]).capacity ⟨0, 225000, fun _ => 3⟩ 3 0 = 417041 ∧
    flying.capacity ⟨0, 225000, fun _ => 3⟩ 6 0 = 130325 ∧ flying.capacity ⟨0, 225000, fun _ => 3⟩ 9 0 = 3909765 ∧
    flying.capacity ⟨0, 225000, fun _ => 3⟩ 1 0 = 260651 ∧ flying.capacity ⟨0, 225000, fun _ => 0⟩ 1 0 = 156390 := by decide +kernel

/-- R58 and the router's table after it: a channel of DDR5-6400 and its limits under Latency, Density and Cool. -/
theorem test_dram_limits :
    let s := flying.put [(Reg.MC.STATUS.DIMMS 0, 1), (Reg.MC.STATUS.SPEED 0, 3)]
    s.capacity ⟨0, 225000, fun _ => 3⟩ 4 0 = 291196 ∧ (List.range 3).map (fun p => s.limit ⟨p, 225000, fun _ => 3⟩ 4 0 5) = [218397, 267900, 247516] := by decide +kernel

/-- R145's worked case: a 25GbE port's limits under Latency and Density. -/
theorem test_net_limits :
    let s : State := { flying with strm := { flying.strm with ports := [(0, { kind := 4 })] } }
    s.capacity ⟨0, 225000, fun _ => 3⟩ 5 0 = 25454 ∧ s.limit ⟨0, 225000, fun _ => 3⟩ 5 0 5 = 18898 ∧
    s.limit ⟨1, 225000, fun _ => 3⟩ 5 0 5 = 23182 := by decide +kernel

/-- R252 and the filter's worked sample: 8,599,552 by 14 rounds to 525. -/
theorem test_rounding : roundShr (512 * (-1024) + 520 * 9216 + 530 * 9216 + 540 * (-1024)) 14 = 525 := by decide

/-- R253: 600,000,000 by 14 saturates a 16-bit lane. -/
theorem test_saturation : satTo 16 (roundShr 600000000 14) = 32767 := by decide

/-- R254's table. -/
theorem test_sign_bits : ([0, -1, -13, 200, 1023, 16383, -32768] : List Int).map (rsb 16) = [15, 15, 11, 7, 5, 1, 0] := by decide

/-- R18, R37: tick 5,000 at 59.94 Hz begins 5,000 × 1001 / 60000 s after the epoch. -/
theorem test_tick_number : tickAt 8 83416666667 = 5000 ∧ tickAt 8 83416666666 = 4999 := by decide

/-- R145: a 2160p 4:2:2 10-bit line is 9,600 bytes; a 1080p one 4,800. -/
theorem test_line_bytes : lineBytes 0x78 = 9600 ∧ lineBytes 0x68 = 4800 := by decide

/-- R17: a slot at 59.94 Hz is 8.146 µs, and slot 2,047 begins 16,675.2 µs after the tick. -/
theorem test_slot_start : slotStartNs 8 2048 1 = 8146 ∧ slotStartNs 8 2048 2047 = 16675187 := by decide

/-! ## Small steps -/

/-- R125: DEV_QUERY with parameters is BAD_PARAM; its SEQ comes back (R98). -/
theorem test_query_params :
    (match exec (.devQuery { hdr with seq := 77 } [1]) flying with
      | .next t => t.xp.replies.map (fun r => (r.seq, r.status))
      | _ => []) = [(77, Sts.badParam)] := by decide +kernel

/-- R520: the host takes a free lock and reads 0; a core's read then gives the host's number, 5. -/
theorem test_lock :
    (match exec (.lockRead 5 0x30804) flying with
      | .next t => (match exec (.lockRead 1 0x30804) t with | .next u => u.out | _ => [])
      | _ => []) = [.readData 5 0x30804 0, .readData 1 0x30804 5] := by decide +kernel

/-- R569: TICK.LOCK_CFG keeps LOCK_COUNT out of its range; R46: the write waits for the boundary. -/
theorem test_staged_write :
    (match exec (.registerWrite 5 Reg.TICK.LOCK_CFG (2 ^ 32 - 1)) flying with
      | .next t => (t.rd Reg.TICK.LOCK_CFG.LOCK_COUNT, t.tick.lockCfg.isSome)
      | _ => (0, false)) = (16, true) := by decide +kernel

/-- R103, R104: rings are idle and disabled after reset; a tail write of a disabled ring starts nothing. -/
theorem test_ring_disabled :
    (match exec (.sqTailWrite 0 3) flying with | .next t => (t.out, t.xp.replies.length) | _ => ([], 9)) = ([], 0) := by decide +kernel

/-! ## The fabric's cells -/

/-- The upper slice of the worked column of 08_fabric.md, "Arithmetic slices": its accumulator takes CIN, and it rounds with n = 14 into
16 bits. -/
def upper : SliceCfg :=
  { clk := 0, a := [], d := [], b := [], valid := 9, acc := [0, 1], n := 14, w := 16, below := some 0, satClr := 9, bxClr := 9, r := [], sat := 9, bx := [] }

/-- The column's stages, one clock each: P1, M, ACC with CIN, R. -/
theorem test_slice_column :
    (sliceStep upper { a := 520, d := 530 } {} []).p = 1050 ∧ (sliceStep upper { p := 1050, b1 := 9216 } {} []).m1 = 9676800 ∧
    (sliceStep upper { m2 := 9676800 } { acc := -1077248 } [(1, true)]).acc = 8599552 ∧ (sliceStep upper { acc := 8599552 } {} []).r = 525 := by
  decide +kernel

/-- R266: both ports of a leaf memory write word 0; port A's data stands, and the collision shows. -/
theorem test_leaf_collision :
    let a : LeafPort := { shape := 0, clk := 0, en := 1, we := 1, addr := [], din := [1], dout := [] }
    let t := leafStep {} {} 0 a { a with din := [2] } 9 [(1, true)] 1
    t.leafWord 0 0 = 1 ∧ net t.nets 9 = true := by decide +kernel

end Sys2Proof.Tests
end

