-- ==== Sys2Proof/Tests/Witnesses.lean ====
section
/-! SUPPORT. For each statement with hypotheses, a state and operands that meet them together. -/

open Sys2Proof Sys2Proof.Machine

section
set_option Elab.async false
set_option linter.unusedVariables false

theorem witness_CommandAtFront_2 : ∃ (s : State),
    s.pending = [] :=
  ⟨flying, by decide +kernel⟩

theorem witness_ResetValues_2 : ∃ (n : Nat),
    n < 8 :=
  ⟨7, by decide +kernel⟩

theorem witness_ResetValues_3 : ∃ (n : Nat),
    n < 4 :=
  ⟨3, by decide +kernel⟩

theorem witness_ResetValues_4 : ∃ (n : Nat),
    n < 16 :=
  ⟨15, by decide +kernel⟩

theorem witness_ResetValues_5 : ∃ (n : Nat),
    n < 64 :=
  ⟨63, by decide +kernel⟩

theorem witness_ResetValues_6 : ∃ (n : Nat),
    n < 94 :=
  ⟨93, by decide +kernel⟩

theorem witness_ResetValues_7 : ∃ (n : Nat),
    n < 144 :=
  ⟨143, by decide +kernel⟩

theorem witness_ResetValues_8 : ∃ (n : Nat),
    n < 256 :=
  ⟨255, by decide +kernel⟩

theorem witness_ResetValues_9 : ∃ (n : Nat),
    1 ≤ n ∧ n < 8 :=
  ⟨7, by decide +kernel⟩

theorem witness_ResetValues_11 : ∃ (o : Nat),
    resetTable.any (fun r => r.has o) = false :=
  ⟨0, by decide +kernel⟩

theorem witness_CommandGate_1 : ∃ (i : Instr) (op : Nat) (h : Hdr) (p : List Byte) (s : State),
    rowCommand i = some (op, h, p) ∧ s.isSet Reg.CMD.STATUS.FW_READY = false :=
  ⟨.devQuery hdr [3], 0x0101, hdr, [3], State.reset, by decide +kernel⟩

theorem witness_CommandGate_2 : ∃ (i : Instr) (op : Nat) (h : Hdr) (p : List Byte) (x : Nat) (s : State),
    rowCommand i = some (op, h, p) ∧ s.isSet Reg.CMD.STATUS.FW_READY = true ∧ entryErr op h = some x :=
  ⟨.devQuery { hdr with flags := 0x8000 } [], 0x0101, { hdr with flags := 0x8000 }, [], Sts.badParam, flying, by decide +kernel⟩

theorem witness_CommandGate_3 : ∃ (i : Instr) (op : Nat) (h : Hdr) (p : List Byte) (s : State),
    rowCommand i = some (op, h, p) ∧ s.isSet Reg.CMD.STATUS.FW_READY = true ∧ entryErr op h = none ∧ h.target ≠ 0 ∧ h.target.toNat ≠ s.meshId ∧ s.linkTo h.target.toNat = none ∧ h.hwPath = false :=
  ⟨.devQuery { hdr with target := 7 } [], 0x0101, { hdr with target := 7 }, [], flying, by decide +kernel⟩

theorem witness_CommandGate_4 : ∃ (i : Instr) (op : Nat) (h : Hdr) (p : List Byte) (k : Nat) (s : State),
    rowCommand i = some (op, h, p) ∧ s.isSet Reg.CMD.STATUS.FW_READY = true ∧ entryErr op h = none ∧ h.target ≠ 0 ∧ h.target.toNat ≠ s.meshId ∧ s.linkTo h.target.toNat = some k ∧ h.hwPath = false ∧ (s.limited = true → cocoonOp op = true) :=
  ⟨.devQuery { hdr with target := 7 } [], 0x0101, { hdr with target := 7 }, [], 2, { flying.put [(Reg.DOLMET.LINK_STATUS.STATE 2, 3)] with mesh := { flying.mesh with routes := [⟨0, 9, 2, 1⟩] } }, by decide +kernel⟩

theorem witness_CommandGate_5 : ∃ (i : Instr) (op : Nat) (h : Hdr) (p : List Byte) (k : Nat) (s : State),
    rowCommand i = some (op, h, p) ∧ s.isSet Reg.CMD.STATUS.FW_READY = true ∧ entryErr op h = none ∧ h.target ≠ 0 ∧ h.target.toNat ≠ s.meshId ∧ s.linkTo h.target.toNat = some k ∧ h.hwPath = false ∧ s.limited = true ∧ cocoonOp op = false :=
  ⟨.take { hdr with target := 7 } [], 0x0501, { hdr with target := 7 }, [], 2, { flying.put [(Reg.DOLMET.LINK_STATUS.STATE 2, 3), (Reg.MODE.STATUS.MODE, 2)] with mesh := { flying.mesh with routes := [⟨0, 9, 2, 1⟩] } }, by decide +kernel⟩

theorem witness_CommandGate_6 : ∃ (op : Nat) (h : Hdr),
    h.hwPath = true ∧ h.target ≠ 0 :=
  ⟨0x0501, { hdr with flags := 0x8000, target := 7 }, by decide +kernel⟩

theorem witness_CommandGate_7 : ∃ (i : Instr) (op : Nat) (h : Hdr) (p : List Byte) (s : State),
    rowCommand i = some (op, h, p) ∧ s.isSet Reg.CMD.STATUS.FW_READY = true ∧ entryErr op h = none ∧ (h.target = 0 ∨ h.target.toNat = s.meshId) ∧ s.limited = true ∧ cocoonOp op = false :=
  ⟨.take hdr [], 0x0501, hdr, [], flying.put [(Reg.MODE.STATUS.MODE, 2)], by decide +kernel⟩

theorem witness_CommandGate_8 : ∃ (i : Instr) (op : Nat) (h : Hdr) (p : List Byte) (s : State),
    rowCommand i = some (op, h, p) ∧ s.isSet Reg.CMD.STATUS.FW_READY = true ∧ entryErr op h = none ∧ (h.target = 0 ∨ h.target.toNat = s.meshId) ∧ s.limited = false ∧ s.coreHeld op h = true :=
  ⟨.devQuery hdr [3], 0x0101, hdr, [3], { flying with xp := { flying.xp with coreHalt := 1 } }, by decide +kernel⟩

theorem witness_CommandGate_9 : ∃ (i : Instr) (op : Nat) (h : Hdr) (p : List Byte) (s : State),
    rowCommand i = some (op, h, p) ∧ s.isSet Reg.CMD.STATUS.FW_READY = true ∧ entryErr op h = none ∧ (h.target = 0 ∨ h.target.toNat = s.meshId) ∧ s.limited = false ∧ s.coreHeld op h = false ∧ s.twinState = 1 ∧ opFlags op &&& 8 ≠ 0 ∧ (op = 0x0301 → h.dryRun = false) :=
  ⟨.take hdr [], 0x0501, hdr, [], flying.put [(Reg.TWIN.STATUS.STATE, 1)], by decide +kernel⟩

theorem witness_QueueOrder_1 : ∃ (i : Instr) (s t : State),
    exec i s = .next t :=
  ⟨.slotStart, State.reset, _, rfl⟩

theorem witness_QueueOrder_2 : ∃ (n : Nat) (s t : State),
    StepsTo n s t :=
  ⟨2, { State.reset with pending := [.slotStart, .slotStart, .slotStart] }, _, _, rfl, _, rfl, rfl⟩

theorem witness_CanonicalForms_2 : ∃ (f : Fld) (v o : Nat) (w : Word) (s : State),
    s.regsWf = true :=
  ⟨⟨Reg.TICK.EVENT, 0, 1⟩, 1, 4, 5, flying, by decide +kernel⟩

theorem witness_CanonicalForms_3 : ∃ (m : Memory) (a j : Nat) (b : List Byte),
    Memory.wf m = true :=
  ⟨[(3, 7)], 2, 3, [1, 0, 5], by decide +kernel⟩

theorem witness_CanonicalForms_4 : ∃ (a : Nat) (b : List Byte) (s : State),
    s.memWf = true :=
  ⟨4, [1], flying, by decide +kernel⟩

theorem witness_CanonicalForms_5 : ∃ (a : Nat) (b : List Byte) (s : State),
    Memory.wf s.dram.mem = true :=
  ⟨64, [1, 2], flying, by decide +kernel⟩

theorem witness_RingRegisterWrites_1 : ∃ (n v : Nat) (s : State),
    n < 4 ∧ s.domOn 1 = true ∧ v < s.ringLen n :=
  ⟨1, 15, flying, by decide +kernel⟩

theorem witness_RingRegisterWrites_2 : ∃ (n v : Nat) (s : State),
    n < 4 ∧ s.domOn 1 = true ∧ s.ringLen n ≤ v :=
  ⟨1, 16, flying, by decide +kernel⟩

theorem witness_RingRegisterWrites_3 : ∃ (n v : Nat) (s : State),
    n < 4 ∧ s.domOn 1 = false :=
  ⟨1, 16, State.reset, by decide +kernel⟩

theorem witness_RingRegisterWrites_4 : ∃ (n v : Nat) (s : State),
    n < 4 ∧ s.domOn 1 = true ∧ v < s.ringLen n :=
  ⟨1, 15, flying, by decide +kernel⟩

theorem witness_RingRegisterWrites_5 : ∃ (n v : Nat) (s : State),
    n < 4 ∧ s.domOn 1 = true ∧ s.ringLen n ≤ v :=
  ⟨3, 16, flying, by decide +kernel⟩

theorem witness_RingRegisterWrites_6 : ∃ (n : Nat) (s : State),
    n < 4 ∧ s.domOn 1 = true ∧ s.isSet (Reg.CMD.RING_CFG.EN n) = false ∧ s.isSet (Reg.CMD.RING_STATUS.IDLE n) = true :=
  ⟨2, flying, by decide +kernel⟩

theorem witness_RingRegisterWrites_7 : ∃ (n : Nat) (s : State),
    n < 4 ∧ s.domOn 1 = true ∧ s.isSet (Reg.CMD.RING_CFG.EN n) = false ∧ s.isSet (Reg.CMD.RING_STATUS.IDLE n) = false :=
  ⟨2, flying.put [(Reg.CMD.RING_STATUS.IDLE 2, 0)], by decide +kernel⟩

theorem witness_RingRegisterWrites_8 : ∃ (n : Nat) (s : State),
    n < 4 ∧ s.domOn 1 = true :=
  ⟨1, flying.put [(Reg.CMD.RING_CFG.EN 1, 1)], by decide +kernel⟩

theorem witness_RingRegisterWrites_9 : ∃ (n v : Nat) (s : State),
    n < 4 ∧ s.domOn 1 = true ∧ 4 ≤ v ∧ v ≤ 12 ∧ s.isSet (Reg.CMD.RING_CFG.EN n) = true :=
  ⟨1, 12, flying.put [(Reg.CMD.RING_CFG.EN 1, 1)], by decide +kernel⟩

theorem witness_RingRegisterWrites_10 : ∃ (n v : Nat) (s : State),
    n < 4 ∧ s.domOn 1 = true ∧ 4 ≤ v ∧ v ≤ 12 ∧ s.isSet (Reg.CMD.RING_CFG.EN n) = false :=
  ⟨0, 5, flying, by decide +kernel⟩

theorem witness_RingRegisterWrites_11 : ∃ (n : Nat) (s : State),
    n < 4 ∧ s.domOn 1 = true :=
  ⟨1, flying, by decide +kernel⟩

theorem witness_RingRegisterWrites_12 : ∃ (n r v : Nat) (s : State),
    n < 4 ∧ r < 4 ∧ s.domOn 1 = true ∧ s.isSet (Reg.CMD.RING_CFG.EN n) = false :=
  ⟨3, 2, 4096, flying, by decide +kernel⟩

theorem witness_RingRegisterWrites_13 : ∃ (n r v : Nat) (s : State),
    n < 4 ∧ r < 4 ∧ s.domOn 1 = true ∧ s.isSet (Reg.CMD.RING_CFG.EN n) = true :=
  ⟨1, 0, 4096, flying.put [(Reg.CMD.RING_CFG.EN 1, 1)], by decide +kernel⟩

theorem witness_EntriesAndReplies_1 : ∃ (n : Nat) (s : State),
    n < 4 ∧ s.domOn 1 = true ∧ s.isSet (Reg.CMD.RING_CFG.EN n) = false ∧ s.rd (Reg.CMD.RING_STATUS.OUTSTANDING n) = 0 :=
  ⟨2, flying, by decide +kernel⟩

theorem witness_EntriesAndReplies_2 : ∃ (n : Nat) (s : State),
    n < 4 ∧ s.isSet (Reg.CMD.RING_STATUS.RING_PEND n) = true :=
  ⟨2, flying.put [(Reg.CMD.RING_STATUS.RING_PEND 2, 1)], by decide +kernel⟩

theorem witness_EntriesAndReplies_3 : ∃ (n ns : Nat) (blk : Bool) (bad : List Nat) (s : State),
    n < 4 ∧ s.mayFetch n = true :=
  ⟨1, 0, true, [], flying.put [(Reg.CMD.RING_CFG.EN 1, 1), (Reg.CMD.RING_SQ_TAIL.INDEX 1, 1)], by decide +kernel⟩

theorem witness_EntriesAndReplies_4 : ∃ (n ns : Nat) (blk : Bool) (bad : List Nat) (s : State),
    n < 4 ∧ s.mayFetch n = true :=
  ⟨3, 0, true, [], flying.put [(Reg.CMD.RING_CFG.EN 3, 1), (Reg.CMD.RING_SQ_TAIL.INDEX 3, 15)], by decide +kernel⟩

theorem witness_EntriesAndReplies_5 : ∃ (i n slot : Nat) (phase : Bool) (r : Reply) (s : State),
    n < 4 ∧ s.isSet Reg.CMD.STATUS.FW_READY = true ∧ s.coreOff 1 = false ∧ s.xp.replies[i]? = some r ∧ r.via = .ring n slot phase ∧ s.rd (Reg.CMD.RING_STATUS.OUTSTANDING n) ≠ 0 ∧ s.isSet (Reg.CMD.RING_CFG.WB_EN n) = false :=
  ⟨0, 1, 2, true, ⟨.ring 1 2 true, 9, 0, 0, 0, [], false, false⟩, ({ flying with xp := { flying.xp with replies := [⟨.ring 1 2 true, 9, 0, 0, 0, [], false, false⟩] } } : State).put [(Reg.CMD.RING_STATUS.OUTSTANDING 1, 1)], by decide +kernel⟩

theorem witness_EntriesAndReplies_6 : ∃ (i : Nat) (s : State),
    i < s.xp.replies.length ∧ s.isSet Reg.CMD.STATUS.FW_READY = true ∧ s.coreOff 1 = false :=
  ⟨0, ({ flying with xp := { flying.xp with replies := [⟨.spi, 9, 0, 0, 0, [], false, false⟩] } } : State), by decide +kernel⟩

theorem witness_SpiTarget_1 : ∃ (s : State),
    s.spiOn = true :=
  ⟨flying, by decide +kernel⟩

theorem witness_SpiTarget_2 : ∃ (ns : Nat) (data : List Byte) (s : State),
    s.spiOn = true ∧ data.length = 66 ∧ crcBytes (data.take 64) = data.drop 64 ∧ 0 < s.xp.spiSubs.length ∧ s.xp.spiSubs.length < 16 :=
  ⟨0, (List.replicate 64 (0 : Byte)) ++ crcBytes (List.replicate 64 (0 : Byte)), { flying with xp := { flying.xp with spiSubs := [(0, (List.replicate 64 (0 : Byte)))] } }, by decide +kernel⟩

theorem witness_SpiTarget_3 : ∃ (ns : Nat) (data : List Byte) (s : State),
    s.spiOn = true ∧ data.length = 66 ∧ crcBytes (data.take 64) = data.drop 64 ∧ s.xp.spiSubs = [] ∧ s.spiQueued < 16 :=
  ⟨0, (List.replicate 64 (0 : Byte)) ++ crcBytes (List.replicate 64 (0 : Byte)), flying, by decide +kernel⟩

theorem witness_SpiTarget_4a : ∃ (ns : Nat) (data : List Byte) (s : State),
    s.spiOn = true ∧ (data.length ≠ 66 ∨ crcBytes (data.take 64) ≠ data.drop 64) :=
  ⟨0, [], flying, by decide +kernel⟩

theorem witness_SpiTarget_4b : ∃ (ns : Nat) (data : List Byte) (s : State),
    s.spiOn = true ∧ (data.length ≠ 66 ∨ crcBytes (data.take 64) ≠ data.drop 64) :=
  ⟨0, (List.replicate 64 (0 : Byte)) ++ [0, 0], flying, by decide +kernel⟩

theorem witness_SpiTarget_5 : ∃ (ns : Nat) (data : List Byte) (s : State),
    s.spiOn = true ∧ data.length = 66 ∧ crcBytes (data.take 64) = data.drop 64 ∧ 16 ≤ s.xp.spiSubs.length :=
  ⟨0, (List.replicate 64 (0 : Byte)) ++ crcBytes (List.replicate 64 (0 : Byte)), { flying with xp := { flying.xp with spiSubs := List.replicate 16 (0, (List.replicate 64 (0 : Byte))) } }, by decide +kernel⟩

theorem witness_SpiTarget_6 : ∃ (s : State),
    s.spiOn = true ∧ s.xp.spiReplies = [] :=
  ⟨flying, by decide +kernel⟩

theorem witness_SpiTarget_7a : ∃ (full : Bool) (r : List Byte) (rest : List (List Byte)) (s : State),
    s.spiOn = true ∧ s.xp.spiReplies = r :: rest ∧ s.xp.spiSubs = [] :=
  ⟨true, List.replicate 32 0, [], { flying with xp := { flying.xp with spiReplies := [List.replicate 32 0] } }, by decide +kernel⟩

theorem witness_SpiTarget_7b : ∃ (full : Bool) (r : List Byte) (rest : List (List Byte)) (s : State),
    s.spiOn = true ∧ s.xp.spiReplies = r :: rest ∧ s.xp.spiSubs = [] :=
  ⟨false, List.replicate 32 0, [], { flying with xp := { flying.xp with spiReplies := [List.replicate 32 0] } }, by decide +kernel⟩

theorem witness_SpiTarget_8 : ∃ (off : Nat) (data : List Byte) (s : State),
    s.spiOn = true ∧ off + data.length ≤ 0x10000 :=
  ⟨0xFFFF, [0xA5], flying, by decide +kernel⟩

theorem witness_SpiTarget_9 : ∃ (off len : Nat) (s : State),
    s.spiOn = true :=
  ⟨0xFFFF, 2, flying, by decide +kernel⟩

theorem witness_ForwardingAndCores_1 : ∃ (op src : Nat) (h : Hdr) (p : List Byte) (s : State),
    h.via = .mesh src ∧ s.isSet Reg.CMD.STATUS.FW_READY = true ∧ h.target.toNat = s.meshId ∧ s.underWay h = false ∧ s.xp.fwdRec.find? (fun r => r.src == src && r.seq == h.seq) = none :=
  ⟨0x0101, 5, ⟨.mesh 5, 7, 0, 3, [], 0⟩, [], flying.put [(Reg.MESH.STATUS.MESH_ID, 3)], by decide +kernel⟩

theorem witness_ForwardingAndCores_2 : ∃ (op src : Nat) (h : Hdr) (p : List Byte) (r : FwdRecord) (s : State),
    h.via = .mesh src ∧ s.isSet Reg.CMD.STATUS.FW_READY = true ∧ h.target.toNat = s.meshId ∧ s.underWay h = false ∧ s.xp.fwdRec.find? (fun r => r.src == src && r.seq == h.seq) = some r :=
  ⟨0x0101, 5, ⟨.mesh 5, 7, 0, 3, [], 0⟩, [], ⟨5, 7, 0, 0, [], []⟩, ({ flying with xp := { flying.xp with fwdRec := [⟨5, 7, 0, 0, [], []⟩] } } : State).put [(Reg.MESH.STATUS.MESH_ID, 3)], by decide +kernel⟩

theorem witness_ForwardingAndCores_3 : ∃ (src status eff : Nat) (seq : Word) (result : List Byte) (bufs : List (Nat × List Byte)) (f : Forwarded) (s : State),
    s.isSet Reg.CMD.STATUS.FW_READY = true ∧ s.xp.fwdOut.find? (fun f => f.h.target.toNat == src && f.h.seq == seq) = some f :=
  ⟨5, 0, 9, 7, [], [], ⟨⟨.ring 0 0 true, 7, 0, 5, [], 0⟩, 0x0101, 0⟩, { flying with xp := { flying.xp with fwdOut := [⟨⟨.ring 0 0 true, 7, 0, 5, [], 0⟩, 0x0101, 0⟩] } }, by decide +kernel⟩

theorem witness_ForwardingAndCores_4 : ∃ (dst : Nat) (seq : Word) (f : Forwarded) (s : State),
    s.xp.fwdOut.find? (fun f => f.h.target.toNat == dst && f.h.seq == seq) = some f :=
  ⟨5, 7, ⟨⟨.ring 0 0 true, 7, 0, 5, [], 0⟩, 0x0101, 0⟩, { flying with xp := { flying.xp with fwdOut := [⟨⟨.ring 0 0 true, 7, 0, 5, [], 0⟩, 0x0101, 0⟩] } }, by decide +kernel⟩

theorem witness_ForwardingAndCores_5 : ∃ (k ty dst : Nat) (f : DFrame) (s : State),
    s.carries k ty = true ∧ dst ≠ 0 ∧ dst ≠ s.meshId :=
  ⟨2, 6, 9, { ty := 6, hops := 4 }, flying.put [(Reg.DOLMET.LINK_STATUS.STATE 2, 3)], by decide +kernel⟩

theorem witness_ForwardingAndCores_6 : ∃ (k ty dst : Nat) (f : DFrame) (r : Route) (s : State),
    3 ≤ ty ∧ ty ≤ 6 ∧ 0 < f.hops ∧ s.route dst = some r ∧ s.linkUp r.link = true :=
  ⟨2, 6, 9, { ty := 6, hops := 4 }, ⟨9, 9, 2, 0⟩, { (flying.put [(Reg.DOLMET.LINK_STATUS.STATE 2, 3)]) with mesh := { flying.mesh with routes := [⟨9, 9, 2, 0⟩] } }, by decide +kernel⟩

theorem witness_ForwardingAndCores_7 : ∃ (op floor st eff : Nat) (h : Hdr) (p r : List Byte) (s : State),
    s.isSet Reg.CMD.STATUS.FW_READY = true ∧ s.paired = true ∧ s.coreHeld op { h with via := .mesh s.twin.partner } = false ∧ op ≠ 0x0703 ∧ opFlags op &&& 8 ≠ 0 ∧ (bodyOf op { h with via := .mesh s.twin.partner } p floor s).rep = some (st, eff, r) :=
  ⟨0x0303, 0, 0x11, 0, ⟨.ring 0 0 true, 7, 8, 0, [], 0⟩, [1], [], flying.put [(Reg.TWIN.STATUS.STATE, 3)], by decide +kernel⟩

theorem witness_ForwardingAndCores_8 : ∃ (op floor : Nat) (h : Hdr) (p : List Byte) (a : State) (s : State),
    s.isSet Reg.CMD.STATUS.FW_READY = true ∧ s.paired = true ∧ s.coreHeld op { h with via := .mesh s.twin.partner } = false ∧ op ≠ 0x0703 ∧ opFlags op &&& 8 ≠ 0 ∧ (bodyOf op { h with via := .mesh s.twin.partner } p floor s).rep = none ∧ a = (bodyOf op { h with via := .mesh s.twin.partner } p floor s).st :=
  ⟨0x0301, 0, ⟨.ring 0 0 true, 7, 8, 0, [], 0⟩, [0], (bodyOf 0x0301 { (⟨.ring 0 0 true, 7, 8, 0, [], 0⟩ : Hdr) with via := .mesh 0 } [0] 0 (flying.put [(Reg.TWIN.STATUS.STATE, 3)])).st, flying.put [(Reg.TWIN.STATUS.STATE, 3)], by decide +kernel⟩

theorem witness_ForwardingAndCores_9 : ∃ (seq : Word) (w : HeldCmd) (s : State),
    s.xp.twinWait.find? (fun w => w.h.seq == seq) = some w :=
  ⟨7, ⟨0x0303, ⟨.ring 0 0 true, 7, 8, 0, [], 0⟩, [], 0⟩, { flying with xp := { flying.xp with twinWait := [⟨0x0303, ⟨.ring 0 0 true, 7, 8, 0, [], 0⟩, [], 0⟩] } }, by decide +kernel⟩

theorem witness_ForwardingAndCores_10 : ∃ (seq : Word) (s : State),
    s.xp.twinWait.find? (fun w => w.h.seq == seq) = none :=
  ⟨7, { flying with xp := { flying.xp with twinProv := [⟨0x0303, ⟨.ring 0 0 true, 7, 8, 0, [], 0⟩, [], 0⟩] } }, by decide +kernel⟩

theorem witness_ForwardingAndCores_11 : ∃ (core : Nat) (s : State),
    1 ≤ core ∧ core ≤ 4 ∧ s.isSet Reg.CMD.STATUS.FW_READY = true ∧ s.coreOff core = false ∧ s.xp.restart.any (fun t => decide (s.now ≤ t + 256)) = false :=
  ⟨1, flying, by decide +kernel⟩

theorem witness_ForwardingAndCores_12 : ∃ (core t : Nat) (s : State),
    1 ≤ core ∧ core ≤ 4 ∧ s.isSet Reg.CMD.STATUS.FW_READY = true ∧ s.coreOff core = false ∧ s.xp.restart = some t ∧ s.now ≤ t + 256 :=
  ⟨4, 0, { flying with xp := { flying.xp with restart := some 0 } }, by decide +kernel⟩

theorem witness_ReferenceSources_2a : ∃ (port : Nat) (m : PtpMsg) (s t : State),
    s.ptpOn port m.domain = true ∧ (s.ref 1 m.domain port).master = some m.sender ∧ -7 ≤ m.logInt ∧ m.logInt ≤ -1 ∧ t = (s.emit (.portMsg port 4 m.seq)).ranged 1 m.domain port { s.ref 1 m.domain port with
      logSync := m.logInt, delayReq := some (m.seq, m.rx), rxNs := m.rx, waitFollow := if m.twoStep then some m.seq else none } m.ppb :=
  ⟨3, { sender := 7 }, { flying with tick := { flying.tick with sel := { flying.tick.sel with entries := [⟨1, 127, 3⟩] }, refs := [((256 + 127) * 65536 + 3, { master := some 7, masters := [(7, [1])] })] }, strm := { flying.strm with ports := [(3, { kind := 3 })] } }, _, by decide +kernel, by decide +kernel, by decide +kernel, by decide +kernel, rfl⟩

theorem witness_ReferenceSources_2b : ∃ (port : Nat) (m : PtpMsg) (s t : State),
    s.ptpOn port m.domain = true ∧ (s.ref 1 m.domain port).master = some m.sender ∧ -7 ≤ m.logInt ∧ m.logInt ≤ -1 ∧ t = (s.emit (.portMsg port 4 m.seq)).ranged 1 m.domain port { s.ref 1 m.domain port with
      logSync := m.logInt, delayReq := some (m.seq, m.rx), rxNs := m.rx, waitFollow := if m.twoStep then some m.seq else none } m.ppb :=
  ⟨3, { sender := 7, twoStep := true }, { flying with tick := { flying.tick with sel := { flying.tick.sel with entries := [⟨1, 127, 3⟩] }, refs := [((256 + 127) * 65536 + 3, { master := some 7, masters := [(7, [1])] })] }, strm := { flying.strm with ports := [(3, { kind := 3 })] } }, _, by decide +kernel, by decide +kernel, by decide +kernel, by decide +kernel, rfl⟩

theorem witness_ReferenceSources_3 : ∃ (port dom sender seq origin : Nat) (s : State),
    (s.ref 1 dom port).master = some sender ∧ (s.ref 1 dom port).waitFollow = some seq :=
  ⟨3, 127, 7, 9, 0, { flying with tick := { flying.tick with sel := { flying.tick.sel with entries := [⟨1, 127, 3⟩] }, refs := [((256 + 127) * 65536 + 3, { master := some 7, waitFollow := some 9 })] }, strm := { flying.strm with ports := [(3, { kind := 3 })] } }, by decide +kernel⟩

theorem witness_ReferenceSources_4 : ∃ (port dom sender seq rx tx : Nat) (s : State),
    (s.ref 1 dom port).master = some sender ∧ (s.ref 1 dom port).delayReq = some (seq, tx) :=
  ⟨3, 127, 7, 9, 50, 10, { flying with tick := { flying.tick with sel := { flying.tick.sel with entries := [⟨1, 127, 3⟩] }, refs := [((256 + 127) * 65536 + 3, { master := some 7, delayReq := some (9, 10) })] }, strm := { flying.strm with ports := [(3, { kind := 3 })] } }, by decide +kernel⟩

theorem witness_ReferenceSources_5 : ∃ (port dom sender rx : Nat) (logInt : Int) (q : List Nat) (r : RefState) (s : State),
    s.ptpOn port dom = true ∧ -3 ≤ logInt ∧ logInt ≤ 1 ∧ r = { s.ref 1 dom port with masters := SMap.insert sender q (s.ref 1 dom port).masters, master := bestMaster (SMap.insert sender q (s.ref 1 dom port).masters) } :=
  ⟨3, 127, 8, 50, 0, [0], _, { flying with tick := { flying.tick with sel := { flying.tick.sel with entries := [⟨1, 127, 3⟩] }, refs := [((256 + 127) * 65536 + 3, { master := some 7, masters := [(7, [1])] })] }, strm := { flying.strm with ports := [(3, { kind := 3 })] } }, by decide +kernel, by decide +kernel, by decide +kernel, rfl⟩

theorem witness_ReferenceSources_6 : ∃ (port dom : Nat) (s : State),
    (s.ref 1 dom port).alive = true ∧ s.ptpSilent (s.ref 1 dom port) = true :=
  ⟨3, 127, { ({ flying with tick := { flying.tick with sel := { flying.tick.sel with entries := [⟨1, 127, 3⟩] }, refs := [((256 + 127) * 65536 + 3, { alive := true, logSync := -3, rxNs := 0 })] }, strm := { flying.strm with ports := [(3, { kind := 3 })] } } : State) with tick := { ({ flying with tick := { flying.tick with sel := { flying.tick.sel with entries := [⟨1, 127, 3⟩] }, refs := [((256 + 127) * 65536 + 3, { alive := true, logSync := -3, rxNs := 0 })] }, strm := { flying.strm with ports := [(3, { kind := 3 })] } } : State).tick with edge := 10 ^ 18 } }, by decide +kernel⟩

theorem witness_ReferenceSources_7a : ∃ (k : Nat) (s : State),
    (s.ref 4 0 k).alive = true ∧ (s.lossTicks ≤ (s.ref 4 0 k).miss ∨ s.linkUp k = false) :=
  ⟨2, { flying with tick := { flying.tick with refs := [(4 * 256 * 65536 + 2, { alive := true })] } }, by decide +kernel⟩

theorem witness_ReferenceSources_7b : ∃ (k : Nat) (s : State),
    (s.ref 4 0 k).alive = true ∧ (s.lossTicks ≤ (s.ref 4 0 k).miss ∨ s.linkUp k = false) :=
  ⟨2, { flying with tick := { flying.tick with refs := [(4 * 256 * 65536 + 2, { alive := true, miss := 255 })] } }, by decide +kernel⟩

theorem witness_ReferenceSources_8 : ∃ (i : Nat) (s : State),
    i < 2 ∧ s.isSet (Reg.TICK.REF_STATUS.PRESENT i) = true ∧ s.lossTicks ≤ (s.ref (2 + i) 0 0).miss :=
  ⟨1, ({ flying with tick := { flying.tick with refs := [((512 + 256) * 65536, { miss := 255 })] } } : State).put [(Reg.TICK.REF_STATUS.PRESENT 1, 1)], by decide +kernel⟩

theorem witness_ReferenceSources_9 : ∃ (i fmt frate : Nat) (s : State),
    i < 2 :=
  ⟨1, 2, 8, flying, by decide +kernel⟩

theorem witness_ReferenceSources_10 : ∃ (src dom index : Nat) (s : State),
    1 ≤ src ∧ src ≤ 4 :=
  ⟨4, 0, 2, flying, by decide +kernel⟩

theorem witness_TickAndLock_1a : ∃ (s : State),
    s.slot + 1 < s.slots :=
  ⟨flying, by decide +kernel⟩

theorem witness_TickAndLock_1b : ∃ (s : State),
    s.slot + 1 < s.slots :=
  ⟨State.reset, by decide +kernel⟩

theorem witness_TickAndLock_2a : ∃ (s : State),
    (s.lock = 1 ∨ s.lock = 3) ∧ s.activeEntry.isSome = true ∧ s.rd Reg.TICK.LOCK_CFG.LOCK_COUNT ≤ s.tick.run ∧ s.isSet Reg.TICK.STATUS.STEP_PEND = false :=
  ⟨({ flying with tick := { flying.tick with run := 255 } } : State).put [(Reg.TICK.STATUS.LOCK, 1), (Reg.TICK.STATUS.SRC, 1)], by decide +kernel⟩

theorem witness_TickAndLock_2b : ∃ (s : State),
    (s.lock = 1 ∨ s.lock = 3) ∧ s.activeEntry.isSome = true ∧ s.rd Reg.TICK.LOCK_CFG.LOCK_COUNT ≤ s.tick.run ∧ s.isSet Reg.TICK.STATUS.STEP_PEND = false :=
  ⟨({ flying with tick := { flying.tick with run := 255 } } : State).put [(Reg.TICK.STATUS.LOCK, 3), (Reg.TICK.STATUS.SRC, 1)], by decide +kernel⟩

theorem witness_TickAndLock_3 : ∃ (e a : Nat) (s : State),
    s.tick.sel.revert = true ∧ s.activeEntry = some a ∧ e < a ∧ s.entryValid (s.entry e) = true ∧ s.rd Reg.TICK.LOCK_CFG.LOCK_COUNT ≤ (s.refOf (s.entry e)).validRun :=
  ⟨0, 1, ({ flying with tick := { flying.tick with sel := { flying.tick.sel with revert := true, entries := [⟨4, 0, 2⟩, ⟨5, 0, 0⟩] }, refs := [(4 * 256 * 65536 + 2, { alive := true, validRun := 255 })] } } : State).put [(Reg.TICK.STATUS.SRC, 5), (Reg.TICK.STATUS.ACTIVE_ENTRY, 1), (Reg.DOLMET.LINK_STATUS.STATE 2, 3)], by decide +kernel⟩

theorem witness_TickAndLock_4 : ∃ (t : Int) (s : State),
    s.lock = 3 ∧ s.rd Reg.TICK.HOLD_CFG.HOLDOVER_LIMIT ≠ 0 ∧ s.tick.holding = some t ∧ t + s.rd Reg.TICK.HOLD_CFG.HOLDOVER_LIMIT * 1000000000 ≤ s.edgeNs :=
  ⟨0, ({ flying with tick := { flying.tick with holding := some 0, edge := 10 ^ 24 } } : State).put [(Reg.TICK.STATUS.LOCK, 3)], by decide +kernel⟩

theorem witness_TickAndLock_5 : ∃ (eff : Nat) (sel : RefSel) (s : State),
    s.tick.pend = some (eff, sel) ∧ eff ≤ s.now :=
  ⟨0, {}, { flying with tick := { flying.tick with pend := some (0, {}) } }, by decide +kernel⟩

theorem witness_TickAndLock_6a : ∃ (t : Nat) (s : State),
    s.tick.stepFrom = some t ∧ ((s.mode = 4 ∧ s.tick.sel.stepOk = true) ∨ (s.mode ≠ 4 ∧ t < s.now)) :=
  ⟨0, { flying with tick := { flying.tick with stepFrom := some 0, stepNum := 2, sel := { flying.tick.sel with stepOk := true } } }, by decide +kernel⟩

theorem witness_TickAndLock_6b : ∃ (t : Nat) (s : State),
    s.tick.stepFrom = some t ∧ ((s.mode = 4 ∧ s.tick.sel.stepOk = true) ∨ (s.mode ≠ 4 ∧ t < s.now)) :=
  ⟨0, ({ flying with tick := { flying.tick with num := 1, stepFrom := some 0, stepNs := 9 } } : State).put [(Reg.MODE.STATUS.MODE, 3)], by decide +kernel⟩

theorem witness_TickAndLock_10 : ∃ (s : State),
    s.xp.coreDown = 0 :=
  ⟨flying, by decide +kernel⟩

theorem witness_ContractCommands_1 : ∃ (h : Hdr) (p d : List Byte) (s t : State),
    s.takes 0x0301 h = true ∧ t = s.stamped h ∧ t.openBatch < 64 ∧ t.readBuf h (u64 p 0) (min (u32 p 8) 1825) = some d :=
  ⟨hdr, [], [], flying, _, by decide +kernel, rfl, by decide +kernel, by decide +kernel⟩

theorem witness_ContractCommands_2 : ∃ (h : Hdr) (p : List Byte) (s t : State),
    s.takes 0x0301 h = true ∧ t = s.stamped h ∧ 64 ≤ t.openBatch :=
  ⟨hdr, [], { flying with led := { flying.led with props := List.replicate 64 { h := hdr, desc := [] } } }, _, by decide +kernel, rfl, by decide +kernel⟩

theorem witness_ContractCommands_3a : ∃ (h : Hdr) (p : List Byte) (i first eff : Nat) (s t : State),
    s.takes 0x0302 h = true ∧ t = s.stamped h ∧ t.namedContract h (u32 p 0) = some i ∧ t.mode = 4 ∧ zeroFrom p 12 = true ∧ (t.contract i).st = .admitted ∧ (t.contract i).actTick = none ∧ (t.contract i).d.preset = false ∧ (t.contract i).d.actLimit = 0 ∧ (t.contract i).path = [] ∧ first = max (max ((t.contract i).admitTick + 2) (t.contract i).earliest) (max (t.now + 1) 0) ∧ eff = (if u64 p 4 = 0 then first else u64 p 4) ∧ first ≤ eff :=
  ⟨hdr, id5, 5, 2, 2, flying.with5 { gen := 1, st := .admitted }, _, by decide +kernel, rfl, by decide +kernel, by decide +kernel, by decide +kernel, by decide +kernel, by decide +kernel, by decide +kernel, by decide +kernel, by decide +kernel, by decide +kernel, by decide +kernel, by decide +kernel⟩

theorem witness_ContractCommands_3b : ∃ (h : Hdr) (p : List Byte) (i first eff : Nat) (s t : State),
    s.takes 0x0302 h = true ∧ t = s.stamped h ∧ t.namedContract h (u32 p 0) = some i ∧ t.mode = 4 ∧ zeroFrom p 12 = true ∧ (t.contract i).st = .admitted ∧ (t.contract i).actTick = none ∧ (t.contract i).d.preset = false ∧ (t.contract i).d.actLimit = 0 ∧ (t.contract i).path = [] ∧ first = max (max ((t.contract i).admitTick + 2) (t.contract i).earliest) (max (t.now + 1) 0) ∧ eff = (if u64 p 4 = 0 then first else u64 p 4) ∧ first ≤ eff :=
  ⟨hdr, id5 ++ [9], 5, 2, 9, flying.with5 { gen := 1, st := .admitted }, _, by decide +kernel, rfl, by decide +kernel, by decide +kernel, by decide +kernel, by decide +kernel, by decide +kernel, by decide +kernel, by decide +kernel, by decide +kernel, by decide +kernel, by decide +kernel, by decide +kernel⟩

theorem witness_ContractCommands_4 : ∃ (h : Hdr) (p : List Byte) (i : Nat) (s t : State),
    s.takes 0x0302 h = true ∧ t = s.stamped h ∧ t.namedContract h (u32 p 0) = some i ∧ t.mode = 4 ∧ u64 p 4 ≠ 0 ∧ u64 p 4 < t.now + 1 :=
  ⟨hdr, id5 ++ [1], 5, { (flying.with5 { gen := 1, st := .admitted }) with tick := { flying.tick with num := 1 } }, _, by decide +kernel, rfl, by decide +kernel, by decide +kernel, by decide +kernel, by decide +kernel⟩

theorem witness_ContractCommands_5 : ∃ (h : Hdr) (p : List Byte) (i : Nat) (s t : State),
    s.takes 0x0303 h = true ∧ t = s.stamped h ∧ t.namedContract h (u32 p 0) = some i ∧ zeroFrom p 12 = true ∧ (t.contract i).st ≠ .releasing ∧ (t.contract i).st ≠ .released ∧ (t.contract i).relTick = none ∧ (t.contract i).d.preset = false ∧ (t.contract i).path = [] :=
  ⟨hdr, id5, 5, flying.with5 { gen := 1, st := .active }, _, by decide +kernel, rfl, by decide +kernel, by decide +kernel, by decide +kernel, by decide +kernel, by decide +kernel, by decide +kernel, by decide +kernel⟩

theorem witness_ContractCommands_6 : ∃ (h : Hdr) (p : List Byte) (i : Nat) (s t : State),
    s.takes 0x0304 h = true ∧ t = s.stamped h ∧ t.namedContract h (u32 p 0) = some i ∧ zeroFrom p 4 = true :=
  ⟨hdr, id5, 5, flying.with5 { gen := 1, st := .active }, _, by decide +kernel, rfl, by decide +kernel, by decide +kernel⟩

theorem witness_ContractCommands_7 : ∃ (h : Hdr) (p : List Byte) (s t : State),
    s.takes 0x0305 h = true ∧ t = s.stamped h ∧ u8 p 12 = 0xFF ∧ u8 p 14 ≤ 1 ∧ zeroFrom p 15 = true ∧ h.spiBad (u64 p 0) (u32 p 8) = false ∧ (t.snapshot (u8 p 12) (u8 p 13) (bit (u8 p 14) 0)).length ≤ u32 p 8 :=
  ⟨hdr, toLe 8 0 ++ toLe 4 64 ++ [0xFF, 0xEE], flying, _, by decide +kernel, rfl, by decide +kernel, by decide +kernel, by decide +kernel, by decide +kernel, by decide +kernel⟩

theorem witness_ContractCommands_8 : ∃ (h : Hdr) (p b : List Byte) (s t : State),
    s.takes 0x0306 h = true ∧ t = s.stamped h ∧ t.readBuf h (u64 p 0) (min (u32 p 8) 8225) = some b ∧ t.led.props = [] ∧ 1 ≤ u16 p 12 ∧ u16 p 12 ≤ 256 ∧ zeroFrom p 14 = true ∧ h.spiBad (u64 p 0) (u32 p 8) = false ∧ t.costBad b = false ∧ t.liveWhere (fun c => c.d.stages.any (fun g => g.kind != 3 && g.desc == u16 p 12)) = [] :=
  ⟨hdr, toLe 8 0 ++ toLe 4 48 ++ toLe 2 7, toLe 4 0x5344435A ++ toLe 2 1 ++ toLe 2 1 ++ [1] ++ List.replicate 23 0 ++ [1] ++ List.replicate 15 0, { flying with hostMem := Memory.writeN [] 0 (toLe 4 0x5344435A ++ toLe 2 1 ++ toLe 2 1 ++ [1] ++ List.replicate 23 0 ++ [1] ++ List.replicate 15 0) }, _, by decide +kernel, rfl, by decide +kernel, by decide +kernel, by decide +kernel, by decide +kernel, by decide +kernel, by decide +kernel, by decide +kernel, by decide +kernel⟩

theorem witness_AdmissionAndVotes_1 : ∃ (votes : List TwinVote) (x : Proposal) (s0 s : State),
    s.led.props = [x] ∧ x.rcvd < s.now ∧ s0 = { s with led := { s.led with props := [] } } ∧ x.subst = none ∧ x.twin = false ∧ x.dry = false ∧ x.owner = 0 ∧ x.partner = false ∧ x.part.xdev = false ∧ s0.freeIndex.isSome = true ∧ s.led.xprops = [] :=
  ⟨[], { h := hdr, desc := [] }, { { flying with led := { flying.led with props := [{ h := hdr, desc := [] }] }, tick := { flying.tick with num := 1 } } with led := { flying.led with props := [] } }, { flying with led := { flying.led with props := [{ h := hdr, desc := [] }] }, tick := { flying.tick with num := 1 } }, by decide +kernel⟩

theorem witness_AdmissionAndVotes_4 : ∃ (src id : Nat) (yes : Bool) (x : XProp) (s : State),
    s.led.xprops = [x] ∧ (s.contract x.idx).id x.idx = id :=
  ⟨3, 0x1005, true, ⟨5, 0, hdr, 0, [(3, none)], false⟩, { flying with led := { flying.led with contracts := [(5, { gen := 1, st := .proposed })], xprops := [⟨5, 0, hdr, 0, [(3, none)], false⟩] } }, by decide +kernel⟩

theorem witness_AdmissionAndVotes_5 : ∃ (x : XProp) (s : State),
    s.led.xprops = [x] ∧ x.batch + 2 ≤ s.now ∧ x.dry = false ∧ (∀ v ∈ x.votes, v.2 = some true) :=
  ⟨⟨5, 0, hdr, 0, [(3, some true)], false⟩, { flying with tick := { flying.tick with num := 2 }, led := { flying.led with contracts := [(5, { gen := 1, st := .proposed })], xprops := [⟨5, 0, hdr, 0, [(3, some true)], false⟩] } }, by decide +kernel⟩

theorem witness_AdmissionAndVotes_6 : ∃ (x : XProp) (dev : Nat) (v : Option Bool) (s : State),
    s.led.xprops = [x] ∧ x.batch + 2 ≤ s.now ∧ x.dry = false ∧ x.votes.find? (fun v => v.2 != some true) = some (dev, v) :=
  ⟨⟨5, 0, hdr, 0, [(3, none)], false⟩, 3, none, { flying with tick := { flying.tick with num := 2 }, led := { flying.led with contracts := [(5, { gen := 1, st := .proposed })], xprops := [⟨5, 0, hdr, 0, [(3, none)], false⟩] } }, by decide +kernel⟩

theorem witness_AdmissionAndVotes_7 : ∃ (owner id i : Nat) (s : State),
    s.ownedBy owner id = some i ∧ (s.contract i).prov = true :=
  ⟨3, 9, 5, flying.with5 { gen := 1, st := .proposed, prov := true, owner := 3, ownerId := 9 }, by decide +kernel⟩

theorem witness_AdmissionAndVotes_8 : ∃ (owner id i : Nat) (s : State),
    s.ownedBy owner id = some i ∧ (s.contract i).prov = true :=
  ⟨3, 9, 5, flying.with5 { gen := 1, st := .proposed, prov := true, owner := 3, ownerId := 9 }, by decide +kernel⟩

theorem witness_AdmissionAndVotes_9 : ∃ (i : Nat) (c : Contract) (s : State),
    s.provFor = [(i, c)] ∧ c.provTick + 2 < s.now ∧ SMap.get (fun _ => 0) s.led.asking i = 0 :=
  ⟨5, { gen := 1, st := .proposed, prov := true, owner := 3, ownerId := 9 }, { (flying.with5 { gen := 1, st := .proposed, prov := true, owner := 3, ownerId := 9 }) with tick := { flying.tick with num := 3 } }, by decide +kernel⟩

theorem witness_AdmissionAndVotes_10 : ∃ (src id i : Nat) (s : State),
    s.findContract id = some i ∧ (s.contract i).prov = false :=
  ⟨3, 0x1005, 5, flying.with5 { gen := 1, st := .active }, by decide +kernel⟩

theorem witness_AdmissionAndVotes_11 : ∃ (src id : Nat) (s : State),
    s.findContract id = none :=
  ⟨3, 0x1005, flying, by decide +kernel⟩

theorem witness_AdmissionAndVotes_12 : ∃ (i a : Nat) (c : Contract) (s : State),
    s.provFor = [(i, c)] ∧ SMap.get (fun _ => 0) s.led.asking i = a ∧ a ≠ 0 ∧ a + 16 ≤ s.now :=
  ⟨5, 1, { gen := 1, st := .proposed, prov := true, owner := 3, ownerId := 9 }, { flying with tick := { flying.tick with num := 17 }, led := { flying.led with contracts := [(5, { gen := 1, st := .proposed, prov := true, owner := 3, ownerId := 9 })], asking := [(5, 1)] } }, by decide +kernel⟩

theorem witness_ContractLife_1 : ∃ (eff i : Nat) (st : Nat × Nat) (s : State),
    s.dueNow = [⟨eff, .activate i, st⟩] :=
  ⟨0, 5, (0, 0), { (flying.with5 { gen := 1, st := .admitted }) with due := [⟨0, .activate 5, (0, 0)⟩] }, by decide +kernel⟩

theorem witness_ContractLife_2 : ∃ (i : Nat) (s : State),
    (s.contract i).st = .admitted ∧ s.lostNow (s.contract i).d = [] :=
  ⟨5, flying.with5 { gen := 1, st := .admitted }, by decide +kernel⟩

theorem witness_ContractLife_3 : ∃ (i k : Nat) (l : List Nat) (s : State),
    (s.contract i).st = .admitted ∧ s.lostNow (s.contract i).d = k :: l :=
  ⟨5, 0, [], flying.with5 { gen := 1, st := .admitted, d := { srcs := [{ kind := 1, index := 2, format := 3 }] } }, by decide +kernel⟩

theorem witness_ContractLife_4 : ∃ (eff i : Nat) (st : Nat × Nat) (s : State),
    s.dueNow = [⟨eff, .release i, st⟩] :=
  ⟨0, 5, (0, 0), { (flying.with5 { gen := 1, st := .active }) with due := [⟨0, .release 5, (0, 0)⟩] }, by decide +kernel⟩

theorem witness_ContractLife_5 : ∃ (i : Nat) (s : State),
    (s.contract i).st = .active :=
  ⟨5, flying.with5 { gen := 1, st := .active }, by decide +kernel⟩

theorem witness_ContractLife_6a : ∃ (i : Nat) (s : State),
    ((s.contract i).st = .starved ∨ (s.contract i).st = .held) :=
  ⟨5, flying.with5 { gen := 1, st := .starved }, by decide +kernel⟩

theorem witness_ContractLife_6b : ∃ (i : Nat) (s : State),
    ((s.contract i).st = .starved ∨ (s.contract i).st = .held) :=
  ⟨5, flying.with5 { gen := 1, st := .held }, by decide +kernel⟩

theorem witness_ContractLife_7 : ∃ (i t : Nat) (s : State),
    s.inSt (fun c => c == .admitted) = [i] ∧ (s.contract i).expiry = some t ∧ t ≤ s.now ∧ (s.contract i).actTick = none :=
  ⟨5, 7, { (flying.with5 { gen := 1, st := .admitted, d := { actLimit := 7 } }) with tick := { flying.tick with num := 7 } }, by decide +kernel⟩

theorem witness_ContractLife_8 : ∃ (i : Nat) (s : State),
    (s.contract i).st = .releasing :=
  ⟨5, flying.with5 { gen := 1, st := .releasing }, by decide +kernel⟩

theorem witness_ContractLife_9 : ∃ (i : Nat) (s : State),
    s.inSt (fun c => c == .held) = [i] ∧ (s.contract i).st = .held ∧ (s.contract i).holds ≠ [] ∧ (∀ x ∈ (s.contract i).holds, x.2.any (fun t => decide (t ≤ s.now)) = true) :=
  ⟨5, flying.with5 { gen := 1, st := .held, holds := [(.tap, some 0)] }, by decide +kernel⟩

theorem witness_ContractLife_10 : ∃ (eff p c : Nat) (m : List Nat) (st : Nat × Nat) (s : State),
    s.dueNow = [⟨eff, .posture p c m, st⟩] :=
  ⟨0, 1, 20000, [], (0, 0), { flying with due := [⟨0, .posture 1 20000 [], (0, 0)⟩] }, by decide +kernel⟩

theorem witness_ContractLife_11 : ∃ (h : Hdr) (p : List Byte) (m : List Nat) (s t : State),
    s.takes 0x0203 h = true ∧ t = s.stamped h ∧ t.posturePending = false ∧ u8 p 0 ≤ 1 ∧ u8 p 1 = 0 ∧ u16 p 2 = 0 ∧ u32 p 4 = 0 ∧ zeroFrom p 16 = true ∧ t.markFor ⟨u8 p 0, t.led.capMw, t.opLow⟩ [] [] = some m :=
  ⟨hdr, [1, 0, 0, 0, 0, 0, 0, 0], [], flying, _, by decide +kernel, rfl, by decide +kernel, by decide +kernel, by decide +kernel, by decide +kernel, by decide +kernel, by decide +kernel, by decide +kernel⟩

theorem witness_OutputUnits_1 : ∃ (i dst : Nat) (u : UnitTx) (sub : Bool) (h : HoldBuf) (s s1 : State),
    (s.contract i).runs = true ∧ (s.contract i).d.typ ≠ 5 ∧ s.unitEarly (s.contract i) u = false ∧ s.unitLate (s.contract i) u = false ∧ s.txStopped ((s.contract i).d.dsts.getD dst {}) = false ∧ h = s.holdBufOf (egKey i dst) ∧ sub = s.substituted i dst u h false ∧ s1 = s.setHoldBuf (egKey i dst) (h.after ((s.contract i).d.dsts.getD dst {}) u sub) ∧ s.isPresetAt i dst (u.frame * rateN s.rate) = false :=
  ⟨5, 0, { num := 3, deps := [(0, some 100)], at_ := 100, place := 10 ^ 12 }, _, _, flying.with5 { gen := 1, st := .active }, _, by decide +kernel, by decide +kernel, by decide +kernel, by decide +kernel, by decide +kernel, rfl, rfl, rfl, by decide +kernel⟩

theorem witness_OutputUnits_2 : ∃ (i dst : Nat) (u : UnitTx) (sub : Bool) (h : HoldBuf) (s s1 : State),
    (s.contract i).runs = true ∧ (s.contract i).d.typ ≠ 5 ∧ s.unitEarly (s.contract i) u = false ∧ (s.unitLate (s.contract i) u = true ∨ s.txStopped ((s.contract i).d.dsts.getD dst {}) = true) ∧ h = s.holdBufOf (egKey i dst) ∧ sub = s.substituted i dst u h true ∧ s1 = (if s.countsLate (s.contract i) u then s.countMiss i dst else s).setHoldBuf (egKey i dst) (h.after ((s.contract i).d.dsts.getD dst {}) u sub) ∧ s.isPresetAt i dst (u.frame * rateN s.rate) = false :=
  ⟨5, 0, { num := 3, deps := [(0, some 100)], at_ := 10 ^ 12, place := 10 ^ 12 }, _, _, flying.with5 { gen := 1, st := .active }, _, by decide +kernel, by decide +kernel, by decide +kernel, Or.inl (by decide +kernel), rfl, rfl, rfl, by decide +kernel⟩

theorem witness_OutputUnits_3 : ∃ (i dst : Nat) (u : UnitTx) (sub late : Bool) (h : HoldBuf) (s s1 : State),
    (s.contract i).runs = true ∧ (s.contract i).d.typ ≠ 5 ∧ s.unitEarly (s.contract i) u = false ∧ s.unitLate (s.contract i) u = late ∧ h = s.holdBufOf (egKey i dst) ∧ sub = s.substituted i dst u h late ∧ s1 = (if late && s.countsLate (s.contract i) u then s.countMiss i dst else s).setHoldBuf (egKey i dst) (h.after ((s.contract i).d.dsts.getD dst {}) u sub) ∧ s.isPresetAt i dst (u.frame * rateN s.rate) = true :=
  ⟨5, 0, { num := 3, deps := [(0, some 100)], at_ := 100, place := 10 ^ 12 }, _, _, _, { (flying.with5 { gen := 1, st := .active }) with take := { egress := [(96, { program := 7, preset := 6 })] } }, _, by decide +kernel, by decide +kernel, by decide +kernel, rfl, rfl, rfl, rfl, by decide +kernel⟩

theorem witness_OutputUnits_4 : ∃ (i dst : Nat) (u : UnitTx) (s : State),
    (s.contract i).runs = true ∧ (s.contract i).d.typ ≠ 5 ∧ s.unitEarly (s.contract i) u = true :=
  ⟨5, 0, { num := 3, deps := [(0, some 100)], at_ := 100, place := 10 ^ 12 }, flying.with5 { gen := 1, st := .active, since := 10 ^ 12 }, by decide +kernel⟩

theorem witness_OutputUnits_5 : ∃ (i dst : Nat) (u : UnitTx) (s : State),
    (s.contract i).runs = true ∧ (s.contract i).d.typ = 5 :=
  ⟨5, 0, { num := 3, deps := [(0, some 100)], at_ := 100, place := 10 ^ 12 }, flying.with5 { gen := 1, st := .active, d := { typ := 5 } }, by decide +kernel⟩

theorem witness_OutputUnits_6 : ∃ (i dst : Nat) (u : UnitTx) (late sub : Bool) (s : State),
    s.withheld (s.contract i) = false ∧ s.txStopped ((s.contract i).d.dsts.getD dst {}) = false :=
  ⟨5, 0, { num := 3, deps := [(0, some 100)], at_ := 100, place := 10 ^ 12 }, true, true, flying.with5 { gen := 1, st := .active }, by decide +kernel⟩

theorem witness_OutputUnits_7 : ∃ (i dst : Nat) (s : State),
    i < 4096 ∧ dst < 16 :=
  ⟨5, 1, flying, by decide +kernel⟩

theorem witness_StreamCommands_1 : ∃ (h : Hdr) (p : List Byte) (s t : State),
    s.takes 0x0403 h = true ∧ t = s.stamped h ∧ t.portPresent (u16 p 0) = true ∧ t.domOn 3 = true ∧ (portLanes (u16 p 0) (parsePort p).kind).all (fun l => t.domOn (laneDom l)) = true ∧ kindOk (u16 p 0) (parsePort p).kind = true ∧ portRateBad (parsePort p) = false ∧ u8 p 3 ≤ 31 ∧ (parsePort p).idle ≤ 1 ∧ u16 p 6 = 0 ∧ u8 p 15 = 0 ∧ zeroFrom p 32 = true ∧ t.portHeld (u16 p 0) (parsePort p) = false ∧ t.liveWhere (fun k => t.usesPort k (u16 p 0)) = [] :=
  ⟨hdr, [5, 0, 3, 3], flying, _, by decide +kernel, rfl, by decide +kernel, by decide +kernel, by decide +kernel, by decide +kernel, by decide +kernel, by decide +kernel, by decide +kernel, by decide +kernel, by decide +kernel, by decide +kernel, by decide +kernel, by decide +kernel⟩

theorem witness_StreamCommands_2 : ∃ (h : Hdr) (p b : List Byte) (eg : Bool) (i : Nat) (s t : State),
    s.takes 0x0401 h = true ∧ t = s.stamped h ∧ t.readBuf h (u64 p 0) (min (u32 p 8) 128) = some b ∧ (u8 b 0 == 1) = eg ∧ (parseFlow b).legList.all (fun l => t.portPresent l.port && t.portOn l.port) = true ∧ u32 p 8 = 128 ∧ zeroFrom p 12 = true ∧ h.spiBad (u64 p 0) 128 = false ∧ t.flowBad b = false ∧ t.freeFlow (if eg then 1024 else 0) = some i ∧ t.heldCount (if eg then 8 else 7) + 1 ≤ t.limit t.envNow (if eg then 8 else 7) 0 0 :=
  ⟨hdr, toLe 8 0 ++ toLe 4 128, Memory.readN (Memory.writeN [] 0 ([0, 1, 0, 0] ++ toLe 4 0x00030078 ++ List.replicate 12 0 ++ [96] ++ List.replicate 107 0)) 0 128, false, 0, { flying with hostMem := Memory.writeN [] 0 ([0, 1, 0, 0] ++ toLe 4 0x00030078 ++ List.replicate 12 0 ++ [96] ++ List.replicate 107 0), strm := { flying.strm with ports := [(0, { kind := 3 })] } }, _, by decide +kernel, rfl, by decide +kernel, by decide +kernel, by decide +kernel, by decide +kernel, by decide +kernel, by decide +kernel, by decide +kernel, by decide +kernel, by decide +kernel⟩

theorem witness_StreamCommands_3a : ∃ (h : Hdr) (p : List Byte) (i : Nat) (s t : State),
    s.takes 0x0402 h = true ∧ t = s.stamped h ∧ u8 p 0 ≤ 1 ∧ u8 p 1 = 0 ∧ u16 p 2 < 1024 ∧ zeroFrom p 4 = true ∧ i = (if u8 p 0 = 1 then 1024 else 0) + u16 p 2 ∧ (t.flow i).used = true ∧ (t.flow i).removing = false ∧ (∀ q ∈ (t.flow i).ports, t.portOn q = true) ∧ t.liveWhere (fun c => (if u8 p 0 == 1 then c.d.dsts else c.d.srcs).any (fun e => t.isLocal e.dev && e.kind == 2 && e.index == u16 p 2)) = [] :=
  ⟨hdr, [0, 0, 7, 0], 7, { flying with strm := { flying.strm with flows := [(7, { used := true, legA := { port := 5 } })], ports := [(5, { kind := 3 })] } }, _, by decide +kernel, rfl, by decide +kernel, by decide +kernel, by decide +kernel, by decide +kernel, by decide +kernel, by decide +kernel, by decide +kernel, by decide +kernel, by decide +kernel⟩

theorem witness_StreamCommands_3b : ∃ (h : Hdr) (p : List Byte) (i : Nat) (s t : State),
    s.takes 0x0402 h = true ∧ t = s.stamped h ∧ u8 p 0 ≤ 1 ∧ u8 p 1 = 0 ∧ u16 p 2 < 1024 ∧ zeroFrom p 4 = true ∧ i = (if u8 p 0 = 1 then 1024 else 0) + u16 p 2 ∧ (t.flow i).used = true ∧ (t.flow i).removing = false ∧ (∀ q ∈ (t.flow i).ports, t.portOn q = true) ∧ t.liveWhere (fun c => (if u8 p 0 == 1 then c.d.dsts else c.d.srcs).any (fun e => t.isLocal e.dev && e.kind == 2 && e.index == u16 p 2)) = [] :=
  ⟨hdr, [1, 0, 7, 0], 1031, { flying with strm := { flying.strm with flows := [(1031, { used := true, legA := { port := 5 } })], ports := [(5, { kind := 3 })] } }, _, by decide +kernel, rfl, by decide +kernel, by decide +kernel, by decide +kernel, by decide +kernel, by decide +kernel, by decide +kernel, by decide +kernel, by decide +kernel, by decide +kernel⟩

theorem witness_StreamCommands_4 : ∃ (h : Hdr) (p : List Byte) (i : Nat) (s t : State),
    s.takes 0x0404 h = true ∧ t = s.stamped h ∧ t.namedContract h (u32 p 0) = some i ∧ u8 p 4 ≤ 3 ∧ (u8 p 4 = 2 → (t.contract i).d.srcs.any (fun e => e.backup) = true) ∧ u8 p 5 ≤ 1 ∧ u16 p 6 = 0 ∧ zeroFrom p 16 = true ∧ (t.contract i).st ≠ .releasing ∧ (t.contract i).st ≠ .released :=
  ⟨hdr, id5 ++ [1], 5, flying.with5 { gen := 1, st := .active }, _, by decide +kernel, rfl, by decide +kernel, by decide +kernel, by decide +kernel, by decide +kernel, by decide +kernel, by decide +kernel, by decide +kernel, by decide +kernel⟩

theorem witness_StreamCommands_5 : ∃ (h : Hdr) (p : List Byte) (s t : State),
    s.takes 0x0405 h = true ∧ t = s.stamped h ∧ t.isSet Reg.TICK.STATUS.SEL_PEND = false ∧ (parseRefSel p).entries.any t.entryAbsent = false ∧ (parseRefSel p).entries.any t.entryOff = false ∧ refSelBad t p (parseRefSel p) = false ∧ t.cadenceInUse (parseRefSel p) = false ∧ ((parseRefSel p).rate = t.rate ∨ t.live = []) ∧ ((parseRefSel p).setTick = false ∨ t.mode ≠ 4 ∨ (parseRefSel p).stepOk = true) :=
  ⟨hdr, [8, 0, 0xFF], flying, _, by decide +kernel, rfl, by decide +kernel, by decide +kernel, by decide +kernel, by decide +kernel, by decide +kernel, by decide +kernel, by decide +kernel⟩

theorem witness_StreamCommands_6 : ∃ (h : Hdr) (s t : State),
    s.takes 0x0406 h = true ∧ t = s.stamped h :=
  ⟨hdr, flying, _, by decide +kernel, rfl⟩

theorem witness_StreamCommands_7 : ∃ (eff p : Nat) (c : PortCfg) (st : Nat × Nat) (s : State),
    s.dueNow = [⟨eff, .port p c, st⟩] :=
  ⟨0, 5, { kind := 3 }, (0, 0), { flying with due := [⟨0, .port 5 { kind := 3 }, (0, 0)⟩] }, by decide +kernel⟩

theorem witness_StreamCommands_8 : ∃ (eff i : Nat) (st : Nat × Nat) (s : State),
    s.dueNow = [⟨eff, .flowAdd i, st⟩] :=
  ⟨0, 5, (0, 0), { flying with due := [⟨0, .flowAdd 5, (0, 0)⟩] }, by decide +kernel⟩

theorem witness_StreamCommands_9a : ∃ (eff i : Nat) (st : Nat × Nat) (s : State),
    s.dueNow = [⟨eff, .flowRemove i, st⟩] :=
  ⟨0, 5, (0, 0), { flying with due := [⟨0, .flowRemove 5, (0, 0)⟩] }, by decide +kernel⟩

theorem witness_StreamCommands_9b : ∃ (eff i : Nat) (st : Nat × Nat) (s : State),
    s.dueNow = [⟨eff, .flowRemove i, st⟩] :=
  ⟨0, 1024, (0, 0), { flying with due := [⟨0, .flowRemove 1024, (0, 0)⟩] }, by decide +kernel⟩

theorem witness_StreamCommands_10a : ∃ (eff i pol : Nat) (nr : Bool) (st : Nat × Nat) (s : State),
    s.dueNow = [⟨eff, .subst i pol nr, st⟩] :=
  ⟨0, 5, 1, true, (0, 0), { (flying.with5 { gen := 1, st := .active }) with due := [⟨0, .subst 5 1 true, (0, 0)⟩] }, by decide +kernel⟩

theorem witness_StreamCommands_10b : ∃ (eff i pol : Nat) (nr : Bool) (st : Nat × Nat) (s : State),
    s.dueNow = [⟨eff, .subst i pol nr, st⟩] :=
  ⟨0, 5, 1, false, (0, 0), { (flying.with5 { gen := 1, st := .active }) with due := [⟨0, .subst 5 1 false, (0, 0)⟩] }, by decide +kernel⟩

theorem witness_StreamCommands_11 : ∃ (i pol : Nat) (nr : Bool) (s : State),
    (s.contract i).st ≠ .released :=
  ⟨5, 1, true, flying.with5 { gen := 1, st := .active }, by decide +kernel⟩

theorem witness_SourceLossAndReturn_1 : ∃ (port p : Nat) (s : State),
    p = s.sdiPort port ∧ s.sdiIn p = true ∧ s.isSet (Reg.STRM.PORT_STATUS.SIG_DET p) = true :=
  ⟨5, 5, ({ flying with strm := { flying.strm with ports := [(5, { kind := 1, rx := true, auto := true })] } } : State).put [(Reg.STRM.PORT_STATUS.LOCKED 5, 1), (Reg.STRM.PORT_STATUS.SIG_DET 5, 1), (Reg.STRM.PORT_STATUS.RATE 5, 5), (Reg.STRM.PORT_PID.FORMAT 5, 0x78), (Reg.STRM.PORT_STATUS.PID_VALID 5, 1)], by decide +kernel⟩

theorem witness_SourceLossAndReturn_2 : ∃ (port p : Nat) (s : State),
    p = s.sdiPort port ∧ s.sdiIn p = true ∧ s.isSet (Reg.STRM.PORT_STATUS.LOCKED p) = true :=
  ⟨5, 5, ({ flying with strm := { flying.strm with ports := [(5, { kind := 1, rx := true, auto := true })] } } : State).put [(Reg.STRM.PORT_STATUS.LOCKED 5, 1), (Reg.STRM.PORT_STATUS.SIG_DET 5, 1), (Reg.STRM.PORT_STATUS.RATE 5, 5), (Reg.STRM.PORT_PID.FORMAT 5, 0x78), (Reg.STRM.PORT_STATUS.PID_VALID 5, 1)], by decide +kernel⟩

theorem witness_SourceLossAndReturn_3 : ∃ (port p : Nat) (x : SdiLine) (s : State),
    p = s.sdiPort port ∧ s.sdiIn p = true ∧ s.isSet (Reg.STRM.PORT_STATUS.LOCKED p) = true ∧ x.rate = s.rd (Reg.STRM.PORT_STATUS.RATE p) ∧ x.pid = some (s.rd (Reg.STRM.PORT_PID.FORMAT p)) ∧ x.anc = [] :=
  ⟨5, 5, { pid := some 0x78, crcOk := false }, ({ flying with strm := { flying.strm with ports := [(5, { kind := 1, rx := true, auto := true })] } } : State).put [(Reg.STRM.PORT_STATUS.LOCKED 5, 1), (Reg.STRM.PORT_STATUS.SIG_DET 5, 1), (Reg.STRM.PORT_STATUS.RATE 5, 5), (Reg.STRM.PORT_PID.FORMAT 5, 0x78), (Reg.STRM.PORT_STATUS.PID_VALID 5, 1)], by decide +kernel⟩

theorem witness_SourceLossAndReturn_4 : ∃ (port p : Nat) (x : SdiLine) (s : State),
    p = s.sdiPort port ∧ s.sdiIn p = true ∧ s.isSet (Reg.STRM.PORT_STATUS.LOCKED p) = true ∧ x.rate ≠ s.rd (Reg.STRM.PORT_STATUS.RATE p) :=
  ⟨5, 5, { rate := 6 }, ({ flying with strm := { flying.strm with ports := [(5, { kind := 1, rx := true, auto := true })] } } : State).put [(Reg.STRM.PORT_STATUS.LOCKED 5, 1), (Reg.STRM.PORT_STATUS.SIG_DET 5, 1), (Reg.STRM.PORT_STATUS.RATE 5, 5), (Reg.STRM.PORT_PID.FORMAT 5, 0x78), (Reg.STRM.PORT_STATUS.PID_VALID 5, 1)], by decide +kernel⟩

theorem witness_SourceLossAndReturn_5 : ∃ (port p rate fmt : Nat) (pid : Bool) (s s3 : State),
    p = s.sdiPort port ∧ s.sdiIn p = true ∧ s.portOn p = true ∧ 1 ≤ rate ∧ rate ≤ 9 ∧ ((s.port p).kind = 1 ∨ 8 ≤ rate) ∧ ((s.port p).auto = true ∨ rate = (s.port p).txRate) ∧ s3 = (portLanes p (s.port p).kind).foldl (fun t l => (t.wr (Reg.LANE.STATUS.CDR_LOCK l) 1).setLinkUp l true)
      ((((((s.wr (Reg.STRM.PORT_STATUS.LOCKED p) 1).wr (Reg.STRM.PORT_STATUS.SIG_DET p) 1).wr (Reg.STRM.PORT_STATUS.RATE p) rate).flag
        (Reg.STRM.PORT_STATUS.PID_VALID p) pid).wr (Reg.STRM.PORT_PID.FORMAT p) fmt).portEvt p Reg.STRM.PORT_EVENT.LOCK) ∧ s3.sourcesWhere (s3.onPort p) = [] :=
  ⟨5, 5, 5, 0x78, true, { flying with strm := { flying.strm with ports := [(5, { kind := 1, rx := true, auto := true })] } }, (portLanes 5 1).foldl (fun t l => (t.wr (Reg.LANE.STATUS.CDR_LOCK l) 1).setLinkUp l true)
      (((((({ flying with strm := { flying.strm with ports := [(5, { kind := 1, rx := true, auto := true })] } } : State).wr (Reg.STRM.PORT_STATUS.LOCKED 5) 1).wr (Reg.STRM.PORT_STATUS.SIG_DET 5) 1).wr (Reg.STRM.PORT_STATUS.RATE 5) 5).flag
        (Reg.STRM.PORT_STATUS.PID_VALID 5) true).wr (Reg.STRM.PORT_PID.FORMAT 5) 0x78 |>.portEvt 5 Reg.STRM.PORT_EVENT.LOCK), by decide +kernel⟩

theorem witness_SourceLossAndReturn_6 : ∃ (i : Nat) (s : State),
    i < 1024 ∧ (s.flow i).used = true ∧ (s.flow i).valid = true ∧ (s.flowDyn i).lost = false :=
  ⟨7, { flying with strm := { flying.strm with ports := [(0, { kind := 3 })], flows := [(7, { used := true, valid := true, legs := 2, skewUs := 10, format := 0x30078 })] } }, by decide +kernel⟩

theorem witness_SourceLossAndReturn_7a : ∃ (i leg : Nat) (s : State),
    i < 1024 ∧ (s.flow i).used = true ∧ (s.flow i).valid = true ∧ (s.flow i).legs = 2 ∧ leg < 2 ∧ (s.flowDyn i).lostLegs = 0 :=
  ⟨7, 0, { flying with strm := { flying.strm with ports := [(0, { kind := 3 })], flows := [(7, { used := true, valid := true, legs := 2, skewUs := 10, format := 0x30078 })] } }, by decide +kernel⟩

theorem witness_SourceLossAndReturn_7b : ∃ (i leg : Nat) (s : State),
    i < 1024 ∧ (s.flow i).used = true ∧ (s.flow i).valid = true ∧ (s.flow i).legs = 2 ∧ leg < 2 ∧ (s.flowDyn i).lostLegs = 0 :=
  ⟨7, 1, { flying with strm := { flying.strm with ports := [(0, { kind := 3 })], flows := [(7, { used := true, valid := true, legs := 2, skewUs := 10, format := 0x30078 })] } }, by decide +kernel⟩

theorem witness_SourceLossAndReturn_8 : ∃ (port i : Nat) (x : IpPkt) (s : State),
    i < 1024 ∧ ipAccepted x (s.flow i) (if x.leg = 0 then (s.flow i).legA else (s.flow i).legB) = true ∧ (s.flow i).used = true ∧ (s.flow i).valid = true ∧ x.leg < (s.flow i).legs ∧ (if x.leg = 0 then (s.flow i).legA else (s.flow i).legB).port = port ∧ s.portOn port = true ∧ bit (s.flowDyn i).lostLegs x.leg = false ∧ x.nonconf = false ∧ (s.flowDyn i).seen.find? (fun e => e.1 == x.seq) = none ∧ fmtAudio (s.flow i).format = false ∧ x.last = false :=
  ⟨0, 7, {}, { flying with strm := { flying.strm with ports := [(0, { kind := 3 })], flows := [(7, { used := true, valid := true, skewUs := 10, format := 0x30078 })] } }, by decide +kernel⟩

theorem witness_SourceLossAndReturn_9a : ∃ (port i us : Nat) (x : IpPkt) (s : State),
    i < 1024 ∧ ipAccepted x (s.flow i) (if x.leg = 0 then (s.flow i).legA else (s.flow i).legB) = true ∧ (s.flow i).used = true ∧ (s.flow i).valid = true ∧ (s.flow i).legs = 2 ∧ x.leg < 2 ∧ (if x.leg = 0 then (s.flow i).legA else (s.flow i).legB).port = port ∧ s.portOn port = true ∧ bit (s.flowDyn i).lostLegs x.leg = false ∧ x.nonconf = false ∧ (s.flowDyn i).seen.find? (fun e => e.1 == x.seq) = some (x.seq, us) ∧ fmtAudio (s.flow i).format = false ∧ x.last = false :=
  ⟨0, 7, 0, { seq := 4, us := 10 }, { flying with strm := { flying.strm with ports := [(0, { kind := 3 })], flows := [(7, { used := true, valid := true, legs := 2, skewUs := 10, format := 0x30078 })], dyn := [(7, { seen := [(4, 0)] })] } }, by decide +kernel⟩

theorem witness_SourceLossAndReturn_9b : ∃ (port i us : Nat) (x : IpPkt) (s : State),
    i < 1024 ∧ ipAccepted x (s.flow i) (if x.leg = 0 then (s.flow i).legA else (s.flow i).legB) = true ∧ (s.flow i).used = true ∧ (s.flow i).valid = true ∧ (s.flow i).legs = 2 ∧ x.leg < 2 ∧ (if x.leg = 0 then (s.flow i).legA else (s.flow i).legB).port = port ∧ s.portOn port = true ∧ bit (s.flowDyn i).lostLegs x.leg = false ∧ x.nonconf = false ∧ (s.flowDyn i).seen.find? (fun e => e.1 == x.seq) = some (x.seq, us) ∧ fmtAudio (s.flow i).format = false ∧ x.last = false :=
  ⟨0, 7, 0, { seq := 4, us := 11 }, { flying with strm := { flying.strm with ports := [(0, { kind := 3 })], flows := [(7, { used := true, valid := true, legs := 2, skewUs := 10, format := 0x30078 })], dyn := [(7, { seen := [(4, 0)] })] } }, by decide +kernel⟩

theorem witness_SourceLossAndReturn_10 : ∃ (i k : Nat) (s : State),
    s.strm.back.any (fun b => b.1 == i && b.2.1 == k && decide (b.2.2 < s.now)) = true ∧ s.strm.noRevert = [] :=
  ⟨5, 0, { flying with tick := { flying.tick with num := 1 }, strm := { flying.strm with back := [(5, 0, 0)] } }, by decide +kernel⟩

theorem witness_SourceLossAndReturn_11 : ∃ (i : Nat) (s : State),
    s.inSt (fun c => c == .starved) = [i] ∧ (s.contract i).d.subst = 2 :=
  ⟨5, flying.with5 { gen := 1, st := .starved, d := { subst := 2 } }, by decide +kernel⟩

theorem witness_SourceLossAndReturn_12 : ∃ (i k : Nat) (s : State),
    (s.contract i).st = .active ∧ (s.contract i).lost = [] :=
  ⟨5, 0, flying.with5 { gen := 1, st := .active }, by decide +kernel⟩

theorem witness_SourceLossAndReturn_13 : ∃ (i k : Nat) (s : State),
    (s.contract i).st = .starved ∧ (s.contract i).lost = [k] :=
  ⟨5, 0, flying.with5 { gen := 1, st := .starved, lost := [0] }, by decide +kernel⟩

theorem witness_PortsAndCrossbar_1 : ∃ (q : Nat) (s : State),
    q < 24 ∧ s.domOn 3 = true :=
  ⟨23, flying, by decide +kernel⟩

theorem witness_PortsAndCrossbar_2 : ∃ (q : Nat) (s s1 : State),
    q < 24 ∧ s.isSet (Reg.STRM.MOD_STATUS.PRESENT q) = true ∧ s1 = (((s.wr (Reg.STRM.MOD_STATUS.PRESENT q) 0).wr (Reg.STRM.MOD_STATUS.TYPE q) 0).wr (Reg.STRM.MOD_STATUS.STATE q) 0).evt
      (Reg.STRM.MOD_STATUS.MOD_REMOVE q) ∧ s1.quadPorts q = [] :=
  ⟨2, flying.put [(Reg.STRM.MOD_STATUS.PRESENT 2, 1)], (((((flying.put [(Reg.STRM.MOD_STATUS.PRESENT 2, 1)]).wr (Reg.STRM.MOD_STATUS.PRESENT 2) 0).wr (Reg.STRM.MOD_STATUS.TYPE 2) 0).wr (Reg.STRM.MOD_STATUS.STATE 2) 0).evt (Reg.STRM.MOD_STATUS.MOD_REMOVE 2)), by decide +kernel⟩

theorem witness_PortsAndCrossbar_3 : ∃ (q p : Nat) (s s1 : State),
    q < 24 ∧ s.isSet (Reg.STRM.MOD_STATUS.PRESENT q) = true ∧ s1 = (((s.wr (Reg.STRM.MOD_STATUS.PRESENT q) 0).wr (Reg.STRM.MOD_STATUS.TYPE q) 0).wr (Reg.STRM.MOD_STATUS.STATE q) 0).evt
      (Reg.STRM.MOD_STATUS.MOD_REMOVE q) ∧ s1.quadPorts q = [p] :=
  ⟨1, 5, ({ flying with strm := { flying.strm with ports := [(5, { kind := 1, rx := true, auto := true })] } } : State).put [(Reg.STRM.MOD_STATUS.PRESENT 1, 1)], (((((({ flying with strm := { flying.strm with ports := [(5, { kind := 1, rx := true, auto := true })] } } : State).put [(Reg.STRM.MOD_STATUS.PRESENT 1, 1)]).wr (Reg.STRM.MOD_STATUS.PRESENT 1) 0).wr (Reg.STRM.MOD_STATUS.TYPE 1) 0).wr (Reg.STRM.MOD_STATUS.STATE 1) 0).evt (Reg.STRM.MOD_STATUS.MOD_REMOVE 1)), by decide +kernel⟩

theorem witness_PortsAndCrossbar_4 : ∃ (q : Nat) (answers : Bool) (r : ModRead) (s : State),
    q < 24 ∧ (s.rd (Reg.STRM.MOD_STATUS.STATE q) = 1 ∨ s.rd (Reg.STRM.MOD_STATUS.STATE q) = 2) :=
  ⟨2, true, {}, flying.put [(Reg.STRM.MOD_STATUS.STATE 2, 1)], by decide +kernel⟩

theorem witness_PortsAndCrossbar_5 : ∃ (q : Nat) (r : ModRead) (s : State),
    q < 24 ∧ (s.rd (Reg.STRM.MOD_STATUS.STATE q) = 1 ∨ s.rd (Reg.STRM.MOD_STATUS.STATE q) = 2) :=
  ⟨2, {}, flying.put [(Reg.STRM.MOD_STATUS.STATE 2, 2)], by decide +kernel⟩

theorem witness_PortsAndCrossbar_6 : ∃ (q : Nat) (r : ModRead) (s s1 : State),
    q < 24 ∧ (s.rd (Reg.STRM.MOD_STATUS.STATE q) = 1 ∨ s.rd (Reg.STRM.MOD_STATUS.STATE q) = 2) ∧ s1 = s.wr (Reg.STRM.MOD_STATUS.TYPE q) r.ty ∧ (∀ p ∈ s1.quadPorts q, r.bad.contains p = false) :=
  ⟨2, { ty := 1 }, flying.put [(Reg.STRM.MOD_STATUS.STATE 2, 2)], _, by decide +kernel, by decide +kernel, rfl, by decide +kernel⟩

theorem witness_PortsAndCrossbar_7 : ∃ (q : Nat) (r : ModRead) (s s1 : State),
    q < 24 ∧ (s.rd (Reg.STRM.MOD_STATUS.STATE q) = 1 ∨ s.rd (Reg.STRM.MOD_STATUS.STATE q) = 2) ∧ s1 = s.wr (Reg.STRM.MOD_STATUS.TYPE q) r.ty ∧ (∃ p ∈ s1.quadPorts q, r.bad.contains p = true) :=
  ⟨1, { ty := 1, bad := [5] }, ({ flying with strm := { flying.strm with ports := [(5, { kind := 1, rx := true, auto := true })] } } : State).put [(Reg.STRM.MOD_STATUS.STATE 1, 2)], _, by decide +kernel, by decide +kernel, rfl, ⟨5, by decide +kernel⟩⟩

theorem witness_PortsAndCrossbar_9 : ∃ (port : Nat) (s : State),
    s.ethPort port = true :=
  ⟨0, { flying with strm := { flying.strm with ports := [(0, { kind := 3 })], flows := [(7, { used := true, valid := true, legs := 2, skewUs := 10, format := 0x30078 })] } }, by decide +kernel⟩

theorem witness_PortsAndCrossbar_10 : ∃ (port kind ip : Nat) (s : State),
    s.ethPort port = true ∧ ip = (s.port port).ip :=
  ⟨0, 1, 0, { flying with strm := { flying.strm with ports := [(0, { kind := 3 })], flows := [(7, { used := true, valid := true, legs := 2, skewUs := 10, format := 0x30078 })] } }, by decide +kernel⟩

theorem witness_PortsAndCrossbar_11 : ∃ (src dst : Nat) (room : Bool) (k : LinePkt) (s : State),
    s.strm.xbar.find? (fun k => k.src == src && k.dst == dst && (k.ctx != 0xFFFF) == true) = some k :=
  ⟨160, 64, false, { src := 160, dst := 64, ctx := 5 }, { flying with strm := { flying.strm with xbar := [{ src := 160, dst := 64, ctx := 5 }] } }, by decide +kernel⟩

theorem witness_PortsAndCrossbar_12 : ∃ (src dst : Nat) (room : Bool) (k : LinePkt) (s : State),
    s.strm.xbar.find? (fun k => k.src == src && k.dst == dst && (k.ctx != 0xFFFF) == false) = some k ∧ s.spare k = true ∧ s.strm.xbar.any (fun k => k.ctx == 0xFFFF && k.dst == dst && decide (k.src < src)) = false ∧ (room = true ∨ 64 ≤ dst) :=
  ⟨160, 64, false, { src := 160, dst := 64 }, { flying with strm := { flying.strm with xbar := [{ src := 160, dst := 64 }] } }, by decide +kernel⟩

theorem witness_PortsAndCrossbar_13 : ∃ (src dst : Nat) (sched room : Bool) (p : PortPkt) (k : LinePkt) (s : State),
    src < s.nFports ∧ s.domOn 3 = true ∧ s.xbarPresent dst = true ∧ p.data ≠ [] ∧ p.data.length ≤ 16368 ∧ p.ctx < 0xFFFF ∧ s.onFport p.ctx src = true ∧ (s.egress (egKey (p.ctx % 4096) (p.ctx / 4096 % 16))).spec = none ∧ s.strm.xbar = [] ∧ k = { src := src, dst := dst, len := p.data.length, line := p.line, tick := p.tick, slot := p.slot, ns := p.ns, ctx := p.ctx, seg := p.seg, flags := p.flags, first := p.first, data := p.data, ready := s.absSlot } :=
  ⟨3, 64, true, true, { ctx := 5, data := [1] }, { src := 3, dst := 64, len := 1, ctx := 5, seg := 4, data := [1] }, { flying with led := { flying.led with contracts := [(5, { st := .active, charges := [⟨3, 3, 1, 0, 0⟩] })] } }, by decide +kernel⟩

theorem witness_PortsAndCrossbar_14a : ∃ (k : LinePkt) (room : Bool) (s : State),
    (64 ≤ k.dst ∨ room = true) :=
  ⟨{ src := 160, dst := 64, ctx := 5 }, false, flying, by decide +kernel⟩

theorem witness_PortsAndCrossbar_14b : ∃ (k : LinePkt) (room : Bool) (s : State),
    (64 ≤ k.dst ∨ room = true) :=
  ⟨{ src := 160, dst := 3, ctx := 5 }, true, flying, by decide +kernel⟩

theorem witness_PortsAndCrossbar_15 : ∃ (k : LinePkt) (s : State),
    k.dst < 64 :=
  ⟨{ src := 160, dst := 3, ctx := 5 }, flying, by decide +kernel⟩

theorem witness_PortsAndCrossbar_17 : ∃ (l : Nat) (s : State),
    s.isSet (Reg.LANE.STATUS.CDR_LOCK l) = true :=
  ⟨5, flying.put [(Reg.LANE.STATUS.CDR_LOCK 5, 1)], by decide +kernel⟩

theorem witness_PortsAndCrossbar_18a : ∃ (p : Nat) (s : State),
    s.ethPort p = true ∧ ((s.port p).fec = true ∨ (s.port p).kind = 6) :=
  ⟨0, { flying with strm := { flying.strm with ports := [(0, { kind := 4, fec := true })] } }, by decide +kernel⟩

theorem witness_PortsAndCrossbar_18b : ∃ (p : Nat) (s : State),
    s.ethPort p = true ∧ ((s.port p).fec = true ∨ (s.port p).kind = 6) :=
  ⟨96, { flying with strm := { flying.strm with ports := [(96, { kind := 6 })] } }, by decide +kernel⟩

theorem witness_TakesAndPresets_1a : ∃ (h : Hdr) (p : List Byte) (i : Nat) (s t : State),
    s.takes 0x0501 h = true ∧ t = s.stamped h ∧ t.mode = 4 ∧ t.findContract (u32 p 0) = some i ∧ t.takeBad (some i) (u8 p 4) (u8 p 5) (u8 p 6) (u16 p 8) (u64 p 12) = false ∧ u8 p 7 = 0 ∧ u16 p 10 = 0 ∧ zeroFrom p 20 = true ∧ t.takeOff i (u8 p 4) (t.makeTake i (u8 p 4) (u8 p 5) (u8 p 6) (u16 p 8) (u64 p 12) 0 0).tick = false :=
  ⟨hdr, id5, 5, { (flying.with5 { gen := 1, st := .active, d := { switchable := true, dsts := [{ kind := 1, index := 3, format := 0x30078 }] } }) with take := { flying.take with egress := [(80, { program := 6, preset := 8, wSlots := 40 })] } }, _, by decide +kernel, rfl, by decide +kernel, by decide +kernel, by decide +kernel, by decide +kernel, by decide +kernel, by decide +kernel, by decide +kernel⟩

theorem witness_TakesAndPresets_1b : ∃ (h : Hdr) (p : List Byte) (i : Nat) (s t : State),
    s.takes 0x0501 h = true ∧ t = s.stamped h ∧ t.mode = 4 ∧ t.findContract (u32 p 0) = some i ∧ t.takeBad (some i) (u8 p 4) (u8 p 5) (u8 p 6) (u16 p 8) (u64 p 12) = false ∧ u8 p 7 = 0 ∧ u16 p 10 = 0 ∧ zeroFrom p 20 = true ∧ t.takeOff i (u8 p 4) (t.makeTake i (u8 p 4) (u8 p 5) (u8 p 6) (u16 p 8) (u64 p 12) 0 0).tick = false :=
  ⟨hdr, id5 ++ [0, 0xFF], 5, { (flying.with5 { gen := 1, st := .active, d := { switchable := true, dsts := [{ kind := 1, index := 3, format := 0x30078 }] } }) with take := { flying.take with egress := [(80, { program := 6, preset := 8, wSlots := 40 })] } }, _, by decide +kernel, rfl, by decide +kernel, by decide +kernel, by decide +kernel, by decide +kernel, by decide +kernel, by decide +kernel, by decide +kernel⟩

theorem witness_TakesAndPresets_2a : ∃ (h : Hdr) (p : List Byte) (i : Nat) (x : PTake) (s t : State),
    s.takes 0x0506 h = true ∧ t = s.stamped h ∧ t.mode = 4 ∧ t.findContract (u32 p 0) = some i ∧ (t.contract i).d.switchable = true ∧ u8 p 4 < (t.contract i).d.dsts.length ∧ zeroAt p 5 3 = true ∧ zeroFrom p 16 = true ∧ t.abortTarget i (u8 p 4) (u64 p 8) false = some x :=
  ⟨hdr, id5, 5, { idx := 5, dst := 0, trans := 0, pattern := 0, dur := 0, tick := 9, ahead := true, cutoff := 8 }, { (flying.with5 { gen := 1, st := .active, d := { switchable := true, dsts := [{ kind := 1, index := 3, format := 0x30078 }] } }) with take := { flying.take with pend := [{ idx := 5, dst := 0, trans := 0, pattern := 0, dur := 0, tick := 9, ahead := true, cutoff := 8 }], egress := [(80, { program := 6, preset := 8, wSlots := 40 })] } }, _, by decide +kernel, rfl, by decide +kernel, by decide +kernel, by decide +kernel, by decide +kernel, by decide +kernel, by decide +kernel, by decide +kernel⟩

theorem witness_TakesAndPresets_2b : ∃ (h : Hdr) (p : List Byte) (i : Nat) (x : PTake) (s t : State),
    s.takes 0x0506 h = true ∧ t = s.stamped h ∧ t.mode = 4 ∧ t.findContract (u32 p 0) = some i ∧ (t.contract i).d.switchable = true ∧ u8 p 4 < (t.contract i).d.dsts.length ∧ zeroAt p 5 3 = true ∧ zeroFrom p 16 = true ∧ t.abortTarget i (u8 p 4) (u64 p 8) false = some x :=
  ⟨hdr, id5 ++ [0, 0, 0, 0, 9], 5, { idx := 5, dst := 0, trans := 0, pattern := 0, dur := 0, tick := 9, ahead := true, cutoff := 8 }, { (flying.with5 { gen := 1, st := .active, d := { switchable := true, dsts := [{ kind := 1, index := 3, format := 0x30078 }] } }) with take := { flying.take with pend := [{ idx := 5, dst := 0, trans := 0, pattern := 0, dur := 0, tick := 9, ahead := true, cutoff := 8 }], egress := [(80, { program := 6, preset := 8, wSlots := 40 })] } }, _, by decide +kernel, rfl, by decide +kernel, by decide +kernel, by decide +kernel, by decide +kernel, by decide +kernel, by decide +kernel, by decide +kernel⟩

theorem witness_TakesAndPresets_3 : ∃ (h : Hdr) (p : List Byte) (i j ws : Nat) (e f : EndPt) (s t : State),
    s.takes 0x0502 h = true ∧ t = s.stamped h ∧ t.mode = 4 ∧ (t.findContract (u32 p 0)).filter (fun i => (t.contract i).d.preset) = some i ∧ t.findContract (t.contract i).d.parent = some j ∧ e = (t.contract i).d.dsts.getD 0 {} ∧ f = (t.contract j).d.dsts.getD (u8 p 4) {} ∧ 8 ≤ u16 p 10 ∧ u16 p 10 ≤ 256 ∧ ws = t.wSlots e.format (u16 p 10) ∧ 16 ≤ ws ∧ ws ≤ 1024 ∧ fmtHasRaster e.format = true ∧ u8 p 5 ≤ 2 ∧ (u8 p 5 = 2 ∨ u8 p 6 = 0) ∧ ((u8 p 5 = 0 ∧ u16 p 8 = 0) ∨ (u8 p 5 ≠ 0 ∧ 1 ≤ u16 p 8 ∧ u16 p 8 ≤ 999)) ∧ u8 p 7 = 0 ∧ zeroFrom p 20 = true ∧ u8 p 4 < (t.contract j).d.dsts.length ∧ f = e ∧ u64 p 12 = 0 ∧ (t.contract i).expiry = none ∧ (t.contract i).st = .admitted ∧ (t.contract i).actTick = none ∧ (t.egress (egKey j (u8 p 4))).preset = 0 ∧ t.armDue (egKey j (u8 p 4)) = false ∧ (t.contract j).st ≠ .releasing ∧ (t.contract j).st ≠ .released ∧ t.armCount < 256 :=
  ⟨hdr, [7, 0x10, 0, 0, 0, 0, 0, 0, 0, 0, 40, 0], 7, 5, ({ (flying.with5 { gen := 1, st := .active, d := { switchable := true, dsts := [{ kind := 1, index := 3, format := 0x30078 }] } }) with led := { flying.led with contracts := [(5, { gen := 1, st := .active, d := { switchable := true, dsts := [{ kind := 1, index := 3, format := 0x30078 }] } }), (7, { gen := 1, st := .admitted, d := { preset := true, parent := 0x1005, dsts := [{ kind := 1, index := 3, format := 0x30078 }] } })] } } : State).wSlots 0x30078 40, (({ (flying.with5 { gen := 1, st := .active, d := { switchable := true, dsts := [{ kind := 1, index := 3, format := 0x30078 }] } }) with led := { flying.led with contracts := [(5, { gen := 1, st := .active, d := { switchable := true, dsts := [{ kind := 1, index := 3, format := 0x30078 }] } }), (7, { gen := 1, st := .admitted, d := { preset := true, parent := 0x1005, dsts := [{ kind := 1, index := 3, format := 0x30078 }] } })] } } : State).contract 7).d.dsts.getD 0 {}, (({ (flying.with5 { gen := 1, st := .active, d := { switchable := true, dsts := [{ kind := 1, index := 3, format := 0x30078 }] } }) with led := { flying.led with contracts := [(5, { gen := 1, st := .active, d := { switchable := true, dsts := [{ kind := 1, index := 3, format := 0x30078 }] } }), (7, { gen := 1, st := .admitted, d := { preset := true, parent := 0x1005, dsts := [{ kind := 1, index := 3, format := 0x30078 }] } })] } } : State).contract 5).d.dsts.getD 0 {}, { (flying.with5 { gen := 1, st := .active, d := { switchable := true, dsts := [{ kind := 1, index := 3, format := 0x30078 }] } }) with led := { flying.led with contracts := [(5, { gen := 1, st := .active, d := { switchable := true, dsts := [{ kind := 1, index := 3, format := 0x30078 }] } }), (7, { gen := 1, st := .admitted, d := { preset := true, parent := 0x1005, dsts := [{ kind := 1, index := 3, format := 0x30078 }] } })] } }, _, by decide +kernel, rfl, by decide +kernel, by decide +kernel, by decide +kernel, by decide +kernel, by decide +kernel, by decide +kernel, by decide +kernel, by decide +kernel, by decide +kernel, by decide +kernel, by decide +kernel, by decide +kernel, by decide +kernel, by decide +kernel, by decide +kernel, by decide +kernel, by decide +kernel, by decide +kernel, by decide +kernel, by decide +kernel, by decide +kernel, by decide +kernel, by decide +kernel, by decide +kernel, by decide +kernel, by decide +kernel, by decide +kernel⟩

theorem witness_TakesAndPresets_4 : ∃ (h : Hdr) (p : List Byte) (i : Nat) (s t : State),
    s.takes 0x0503 h = true ∧ t = s.stamped h ∧ t.mode = 4 ∧ (t.findContract (u32 p 0)).filter (fun i => (t.contract i).d.preset) = some i ∧ zeroFrom p 12 = true ∧ (t.roleOf i 0).isSome = true ∧ t.presetBusy i = false ∧ (t.contract i).relTick = none ∧ (t.contract i).st ≠ .releasing :=
  ⟨hdr, [7, 0x10, 0, 0], 7, { (flying.with5 { gen := 1, st := .active, d := { switchable := true, dsts := [{ kind := 1, index := 3, format := 0x30078 }] } }) with led := { flying.led with contracts := [(5, { gen := 1, st := .active, d := { switchable := true, dsts := [{ kind := 1, index := 3, format := 0x30078 }] } }), (7, { gen := 1, st := .active, d := { preset := true, parent := 0x1005, dsts := [{ kind := 1, index := 3, format := 0x30078 }] } })] }, take := { flying.take with egress := [(80, { program := 6, preset := 8, wSlots := 40 })] } }, _, by decide +kernel, rfl, by decide +kernel, by decide +kernel, by decide +kernel, by decide +kernel, by decide +kernel, by decide +kernel, by decide +kernel⟩

theorem witness_TakesAndPresets_5 : ∃ (h : Hdr) (p : List Byte) (b : GpiBind) (s t : State),
    s.takes 0x0504 h = true ∧ t = s.stamped h ∧ u8 p 0 ≤ 31 ∧ u8 p 1 ≤ 3 ∧ u8 p 2 ≤ 20 ∧ u8 p 3 = 0 ∧ u8 p 11 = 0 ∧ zeroFrom p 14 = true ∧ transBad (u8 p 9) (u8 p 10) (u16 p 12) = false ∧ b = ⟨u8 p 1, u8 p 2, false, u32 p 4, u8 p 8, u8 p 9, u8 p 10, u16 p 12⟩ :=
  ⟨hdr, [31, 3, 20], ⟨3, 20, false, 0, 0, 0, 0, 0⟩, flying, _, by decide +kernel, rfl, by decide +kernel, by decide +kernel, by decide +kernel, by decide +kernel, by decide +kernel, by decide +kernel, by decide +kernel, by decide +kernel⟩

theorem witness_TakesAndPresets_6a : ∃ (h : Hdr) (p : List Byte) (s t : State),
    s.takes 0x0505 h = true ∧ t = s.stamped h ∧ u8 p 0 ≤ 31 ∧ u8 p 1 ≤ 3 ∧ u8 p 2 ≤ 1 ∧ u8 p 3 = 0 ∧ zeroAt p 9 7 = true ∧ zeroFrom p 24 = true ∧ ((u8 p 1 ≤ 1 ∧ u32 p 4 = 0) ∨ (2 ≤ u8 p 1 ∧ (t.findContract (u32 p 4)).isSome = true)) :=
  ⟨hdr, [31, 1, 1], flying, _, by decide +kernel, rfl, by decide +kernel, by decide +kernel, by decide +kernel, by decide +kernel, by decide +kernel, by decide +kernel, by decide +kernel⟩

theorem witness_TakesAndPresets_6b : ∃ (h : Hdr) (p : List Byte) (s t : State),
    s.takes 0x0505 h = true ∧ t = s.stamped h ∧ u8 p 0 ≤ 31 ∧ u8 p 1 ≤ 3 ∧ u8 p 2 ≤ 1 ∧ u8 p 3 = 0 ∧ zeroAt p 9 7 = true ∧ zeroFrom p 24 = true ∧ ((u8 p 1 ≤ 1 ∧ u32 p 4 = 0) ∨ (2 ≤ u8 p 1 ∧ (t.findContract (u32 p 4)).isSome = true)) :=
  ⟨hdr, [31, 3, 0, 0] ++ id5, { (flying.with5 { gen := 1, st := .active, d := { switchable := true, dsts := [{ kind := 1, index := 3, format := 0x30078 }] } }) with take := { flying.take with egress := [(80, { program := 6, preset := 8, wSlots := 40 })] } }, _, by decide +kernel, rfl, by decide +kernel, by decide +kernel, by decide +kernel, by decide +kernel, by decide +kernel, by decide +kernel, by decide +kernel⟩

theorem witness_TakesAndPresets_7 : ∃ (eff i k tr pat dur w ws : Nat) (st : Nat × Nat) (s s1 : State),
    s.dueNow = [⟨eff, .arm i k tr pat dur w ws, st⟩] ∧ (s.contract i).st = .admitted ∧ (s.contract (k / 16)).st ≠ .releasing ∧ (s.contract (k / 16)).st ≠ .released ∧ s1 = (s.undue.activate i).updEgress k (fun e => { e with
        program := k / 16 + 1, preset := i + 1, trans := tr, pattern := pat, dur := dur, w := w, wSlots := ws, spec := none }) :=
  ⟨0, 7, 80, 0, 0, 0, 40, 40, (0, 0), ({ ({ (flying.with5 { gen := 1, st := .active, d := { switchable := true, dsts := [{ kind := 1, index := 3, format := 0x30078 }] } }) with led := { flying.led with contracts := [(5, { gen := 1, st := .active, d := { switchable := true, dsts := [{ kind := 1, index := 3, format := 0x30078 }] } }), (7, { gen := 1, st := .admitted, d := { preset := true, parent := 0x1005, dsts := [{ kind := 1, index := 3, format := 0x30078 }] } })] } }) with due := [⟨0, .arm 7 80 0 0 0 40 40, (0, 0)⟩] } : State), _, by decide +kernel, by decide +kernel, by decide +kernel, by decide +kernel, rfl⟩

theorem witness_TakesAndPresets_8 : ∃ (eff i k : Nat) (role : Bool) (st : Nat × Nat) (s : State),
    s.dueNow = [⟨eff, .disarm i, st⟩] ∧ s.roleOf i 0 = some (k, role) :=
  ⟨0, 7, 80, false, (0, 0), ({ ({ (flying.with5 { gen := 1, st := .active, d := { switchable := true, dsts := [{ kind := 1, index := 3, format := 0x30078 }] } }) with led := { flying.led with contracts := [(5, { gen := 1, st := .active, d := { switchable := true, dsts := [{ kind := 1, index := 3, format := 0x30078 }] } }), (7, { gen := 1, st := .active, d := { preset := true, parent := 0x1005, dsts := [{ kind := 1, index := 3, format := 0x30078 }] } })] }, take := { flying.take with egress := [(80, { program := 6, preset := 8, wSlots := 40 })] } }) with due := [⟨0, .disarm 7, (0, 0)⟩] } : State), by decide +kernel⟩

theorem witness_TakesAndPresets_9 : ∃ (eff g : Nat) (b : GpiBind) (st : Nat × Nat) (s : State),
    s.dueNow = [⟨eff, .gpiBind g b, st⟩] :=
  ⟨0, 4, { edge := 1 }, (0, 0), { flying with due := [⟨0, .gpiBind 4 { edge := 1 }, (0, 0)⟩] }, by decide +kernel⟩

theorem witness_TakesAndPresets_10 : ∃ (eff g : Nat) (b : Tally) (st : Nat × Nat) (s : State),
    s.dueNow = [⟨eff, .tally g b, st⟩] :=
  ⟨0, 4, { source := 1 }, (0, 0), { flying with due := [⟨0, .tally 4 { source := 1 }, (0, 0)⟩] }, by decide +kernel⟩

theorem witness_RunAheadAndLanding_1 : ∃ (k : Nat) (t : PTake) (s : State),
    s.armed = [k] ∧ s.slot + (s.egress k).wSlots = s.slots ∧ (s.egress k).spec = none ∧ (s.downEngines k).any (fun x => s.engState x == engHalted) = false ∧ (s.runAhead || s.take.pend.any (fun x => egKey x.idx x.dst == k && x.ahead)) = true ∧ s.nextTake k = some t :=
  ⟨80, { idx := 5, dst := 0, trans := 0, pattern := 0, dur := 0, tick := 1, ahead := true, cutoff := 8 }, ({ (flying.with5 { gen := 1, st := .active, d := { switchable := true, dsts := [{ kind := 1, index := 3, format := 0x30078 }] } }) with take := { flying.take with pend := [{ idx := 5, dst := 0, trans := 0, pattern := 0, dur := 0, tick := 1, ahead := true, cutoff := 8 }], egress := [(80, { program := 6, preset := 8, wSlots := 40 })] } } : State).put [(Reg.TICK.STATUS.SLOT, 2008)], by decide +kernel⟩

theorem witness_RunAheadAndLanding_2 : ∃ (k : Nat) (s : State),
    s.armed = [k] ∧ s.slot + (s.egress k).wSlots = s.slots ∧ (s.egress k).spec = none ∧ (s.downEngines k).any (fun x => s.engState x == engHalted) = false ∧ (s.runAhead || s.take.pend.any (fun x => egKey x.idx x.dst == k && x.ahead)) = true ∧ s.nextTake k = none :=
  ⟨80, ({ (flying.with5 { gen := 1, st := .active, d := { switchable := true, dsts := [{ kind := 1, index := 3, format := 0x30078 }] } }) with take := { flying.take with egress := [(80, { program := 6, preset := 8, wSlots := 40 })] } } : State).put [(Reg.TICK.STATUS.SLOT, 2008)], by decide +kernel⟩

theorem witness_RunAheadAndLanding_3 : ∃ (k : Nat) (t : PTake) (s : State),
    s.take.egress.map (·.1) = [k] ∧ s.nextTake k = some t ∧ s.slots ≤ s.slot + t.cutoff ∧ t.prov = false ∧ t.wait = false :=
  ⟨80, { idx := 5, dst := 0, trans := 0, pattern := 0, dur := 0, tick := 1, ahead := true, cutoff := 8 }, ({ (flying.with5 { gen := 1, st := .active, d := { switchable := true, dsts := [{ kind := 1, index := 3, format := 0x30078 }] } }) with take := { flying.take with pend := [{ idx := 5, dst := 0, trans := 0, pattern := 0, dur := 0, tick := 1, ahead := true, cutoff := 8 }], egress := [(80, { program := 6, preset := 8, wSlots := 40 })] } } : State).put [(Reg.TICK.STATUS.SLOT, 2040)], by decide +kernel⟩

theorem witness_RunAheadAndLanding_4 : ∃ (k tr : Nat) (s : State),
    s.take.egress.map (·.1) = [k] ∧ s.nextTake k = none ∧ s.slots ≤ s.slot + s.cutoff ∧ (s.egress k).spec = some (s.now + 1, tr) :=
  ⟨80, 0, ({ (flying.with5 { gen := 1, st := .active, d := { switchable := true, dsts := [{ kind := 1, index := 3, format := 0x30078 }] } }) with take := { flying.take with egress := [(80, { program := 6, preset := 8, wSlots := 40, spec := some (1, 0) })] } } : State).put [(Reg.TICK.STATUS.SLOT, 2040)], by decide +kernel⟩

theorem witness_RunAheadAndLanding_5 : ∃ (t : PTake) (s : State),
    s.take.pend.filter (fun t => decide (t.tick ≤ s.now) && !t.prov && !t.wait) = [t] :=
  ⟨{ idx := 5, dst := 0, trans := 0, pattern := 0, dur := 0, tick := 0, ahead := true, cutoff := 8 }, { (flying.with5 { gen := 1, st := .active, d := { switchable := true, dsts := [{ kind := 1, index := 3, format := 0x30078 }] } }) with take := { flying.take with pend := [{ idx := 5, dst := 0, trans := 0, pattern := 0, dur := 0, tick := 0, ahead := true, cutoff := 8 }], egress := [(80, { program := 6, preset := 8, wSlots := 40 })] } }, by decide +kernel⟩

theorem witness_RunAheadAndLanding_6 : ∃ (t : PTake) (s : State),
    s.downEngines (egKey t.idx t.dst) = [] :=
  ⟨{ idx := 5, dst := 0, trans := 0, pattern := 0, dur := 0, tick := 1, ahead := true, cutoff := 8 }, { (flying.with5 { gen := 1, st := .active, d := { switchable := true, dsts := [{ kind := 1, index := 3, format := 0x30078 }] } }) with take := { flying.take with pend := [{ idx := 5, dst := 0, trans := 0, pattern := 0, dur := 0, tick := 1, ahead := true, cutoff := 8 }], egress := [(80, { program := 6, preset := 8, wSlots := 40 })] } }, by decide +kernel⟩

theorem witness_RunAheadAndLanding_7 : ∃ (k : Nat) (w : Nat × Nat) (s : State),
    (s.egress k).spec = some w ∧ s.downEngines k = [] :=
  ⟨80, (1, 0), { (flying.with5 { gen := 1, st := .active, d := { switchable := true, dsts := [{ kind := 1, index := 3, format := 0x30078 }] } }) with take := { flying.take with egress := [(80, { program := 6, preset := 8, wSlots := 40, spec := some (1, 0) })] } }, by decide +kernel⟩

theorem witness_RunAheadAndLanding_8 : ∃ (g tick slot : Nat) (rise : Bool) (s : State),
    g < 32 ∧ bit (SMap.get (fun _ => ({} : GpiBind)) s.take.binds g).edge (if rise then 0 else 1) = false :=
  ⟨31, 9, 4, true, flying, by decide +kernel⟩

theorem witness_RunAheadAndLanding_9 : ∃ (g tick slot i : Nat) (rise : Bool) (b : GpiBind) (s s2 : State),
    g < 32 ∧ b = SMap.get (fun _ => ({} : GpiBind)) s.take.binds g ∧ bit b.edge (if rise then 0 else 1) = true ∧ b.twin = false ∧ s.mode = 4 ∧ s.findContract b.id = some i ∧ s.takeBad (some i) b.dst b.trans b.pattern b.dur 0 = false ∧ s2 = ((((((s.wr Reg.GPI.LEVEL.LEVEL (if rise then setBit (s.rd Reg.GPI.LEVEL.LEVEL) g else clrBit (s.rd Reg.GPI.LEVEL.LEVEL) g)).evtBit
        Reg.GPI.EDGE.EDGE g).wr (Reg.GPI.STAMP.SLOT g) slot).wr (Reg.GPI.STAMP.TICK g) tick).flag (Reg.GPI.STAMP.RISE g) rise).evt
        Reg.TAKE.EVENT.GPI_EDGE) ∧ s2.takeOff i b.dst (s2.makeTake i b.dst b.trans b.pattern b.dur 0 0 0).tick = false :=
  ⟨4, 9, 4, 5, true, _, { (flying.with5 { gen := 1, st := .active, d := { switchable := true, dsts := [{ kind := 1, index := 3, format := 0x30078 }] } }) with take := { flying.take with binds := [(4, { edge := 1, id := 0x1005 })], egress := [(80, { program := 6, preset := 8, wSlots := 40 })] } }, _, by decide +kernel, rfl, by decide +kernel, by decide +kernel, by decide +kernel, by decide +kernel, by decide +kernel, rfl, by decide +kernel⟩

theorem witness_RunAheadAndLanding_10 : ∃ (id dst tick trans i : Nat) (s : State),
    s.findContract id = some i ∧ s.mode = 4 ∧ (s.contract i).d.switchable = true ∧ dst < (s.contract i).d.dsts.length ∧ s.takeOff i dst tick = false ∧ s.meets (egKey i dst) trans s.cutoff s.runAhead tick = true ∧ s.room (egKey i dst) tick = true :=
  ⟨0x1005, 0, 1, 0, 5, { (flying.with5 { gen := 1, st := .active, d := { switchable := true, dsts := [{ kind := 1, index := 3, format := 0x30078 }] } }) with take := { flying.take with egress := [(80, { program := 6, preset := 8, wSlots := 40 })] } }, by decide +kernel⟩

theorem witness_RunAheadAndLanding_11 : ∃ (id dst tick trans : Nat) (abort : Bool) (s : State),
    s.findContract id = none :=
  ⟨0x1005, 0, 1, 0, true, flying, by decide +kernel⟩

theorem witness_RunAheadAndLanding_12 : ∃ (id dst tick : Nat) (t : PTake) (h : Hdr) (s : State),
    s.twinTarget id dst tick (fun t => t.wait) = some t ∧ t.hdr = some h :=
  ⟨0x1005, 0, 1, { idx := 5, dst := 0, trans := 0, pattern := 0, dur := 0, tick := 1, ahead := true, cutoff := 8, wait := true, hdr := some hdr }, hdr, { (flying.with5 { gen := 1, st := .active, d := { switchable := true, dsts := [{ kind := 1, index := 3, format := 0x30078 }] } }) with take := { flying.take with pend := [{ idx := 5, dst := 0, trans := 0, pattern := 0, dur := 0, tick := 1, ahead := true, cutoff := 8, wait := true, hdr := some hdr }], egress := [(80, { program := 6, preset := 8, wSlots := 40 })] } }, by decide +kernel⟩

theorem witness_RunAheadAndLanding_13 : ∃ (id dst tick : Nat) (t : PTake) (s : State),
    s.twinTarget id dst tick (fun t => t.prov) = some t ∧ (s.egress (egKey t.idx t.dst)).spec = none :=
  ⟨0x1005, 0, 1, { idx := 5, dst := 0, trans := 0, pattern := 0, dur := 0, tick := 1, ahead := true, cutoff := 8, prov := true }, { (flying.with5 { gen := 1, st := .active, d := { switchable := true, dsts := [{ kind := 1, index := 3, format := 0x30078 }] } }) with take := { flying.take with pend := [{ idx := 5, dst := 0, trans := 0, pattern := 0, dur := 0, tick := 1, ahead := true, cutoff := 8, prov := true }], egress := [(80, { program := 6, preset := 8, wSlots := 40 })] } }, by decide +kernel⟩

theorem witness_EngineScalarResults_1 : ∃ (e : Nat) (d a b : BitVec 5) (s : State),
    s.clear e = true :=
  ⟨3, 4, 1, 2, (({ flying with eng := { flying.eng with eng := [(3, { nb := 9, sreg := [(1, 7), (2, 5)] })] } } : State).put [(Reg.ENG.STATUS.STATE 3, 2), (Reg.ENG.STATUS.PC 3, 2)]), by decide +kernel⟩

theorem witness_EngineScalarResults_2 : ∃ (e : Nat) (d a n : BitVec 5) (imm : BitVec 15) (lit : BitVec 20) (s : State),
    s.clear e = true :=
  ⟨3, 4, 1, 31, 5, 6, (({ flying with eng := { flying.eng with eng := [(3, { nb := 9, sreg := [(1, 7), (2, 5)] })] } } : State).put [(Reg.ENG.STATUS.STATE 3, 2), (Reg.ENG.STATUS.PC 3, 2)]), by decide +kernel⟩

theorem witness_EngineScalarResults_3 : ∃ (e : Nat) (d a n : BitVec 5) (s : State),
    s.clear e = true ∧ n ≠ 0 :=
  ⟨3, 4, 1, 31, (({ flying with eng := { flying.eng with eng := [(3, { nb := 9, sreg := [(1, 7), (2, 5)] })] } } : State).put [(Reg.ENG.STATUS.STATE 3, 2), (Reg.ENG.STATUS.PC 3, 2)]), by decide +kernel⟩

theorem witness_EngineControlFlow_1a : ∃ (e : Nat) (a b : BitVec 5) (t : BitVec 11) (s : State),
    s.clear e = true ∧ t.toNat < (s.engine e).nb :=
  ⟨3, 1, 2, 8, (({ flying with eng := { flying.eng with eng := [(3, { nb := 9, sreg := [(1, 7), (2, 5)] })] } } : State).put [(Reg.ENG.STATUS.STATE 3, 2), (Reg.ENG.STATUS.PC 3, 2)]), by decide +kernel⟩

theorem witness_EngineControlFlow_1b : ∃ (e : Nat) (a b : BitVec 5) (t : BitVec 11) (s : State),
    s.clear e = true ∧ t.toNat < (s.engine e).nb :=
  ⟨3, 1, 1, 0, (({ flying with eng := { flying.eng with eng := [(3, { nb := 9, sreg := [(1, 7), (2, 5)] })] } } : State).put [(Reg.ENG.STATUS.STATE 3, 2), (Reg.ENG.STATUS.PC 3, 2)]), by decide +kernel⟩

theorem witness_EngineControlFlow_2 : ∃ (e : Nat) (t : BitVec 11) (s : State),
    s.clear e = true ∧ t.toNat < (s.engine e).nb :=
  ⟨3, 8, (({ flying with eng := { flying.eng with eng := [(3, { nb := 9, sreg := [(1, 7), (2, 5)] })] } } : State).put [(Reg.ENG.STATUS.STATE 3, 2), (Reg.ENG.STATUS.PC 3, 2)]), by decide +kernel⟩

theorem witness_EngineControlFlow_3 : ∃ (e : Nat) (a : BitVec 5) (s : State),
    s.clear e = true ∧ (s.sreg e a).toNat % 2 ^ 11 < (s.engine e).nb :=
  ⟨3, 1, (({ flying with eng := { flying.eng with eng := [(3, { nb := 9, sreg := [(1, 7), (2, 5)] })] } } : State).put [(Reg.ENG.STATUS.STATE 3, 2), (Reg.ENG.STATUS.PC 3, 2)]), by decide +kernel⟩

theorem witness_EngineControlFlow_4 : ∃ (e : Nat) (d : BitVec 5) (t : BitVec 11) (s : State),
    s.clear e = true ∧ t.toNat < (s.engine e).nb :=
  ⟨3, 1, 8, (({ flying with eng := { flying.eng with eng := [(3, { nb := 9, sreg := [(1, 7), (2, 5)] })] } } : State).put [(Reg.ENG.STATUS.STATE 3, 2), (Reg.ENG.STATUS.PC 3, 2)]), by decide +kernel⟩

theorem witness_EngineControlFlow_5 : ∃ (e : Nat) (c : BitVec 1) (a : BitVec 5) (last : BitVec 11) (s : State),
    s.clear e = true ∧ (s.engine e).ls (!s.inHandler e) = [] ∧ s.engPc e < last.toNat ∧ last.toNat < (s.engine e).nb ∧ (s.sreg e a).toNat % 2 ^ 16 ≠ 0 :=
  ⟨3, 1, 1, 8, (({ flying with eng := { flying.eng with eng := [(3, { nb := 9, sreg := [(1, 7), (2, 5)] })] } } : State).put [(Reg.ENG.STATUS.STATE 3, 2), (Reg.ENG.STATUS.PC 3, 2)]), by decide +kernel⟩

theorem witness_EngineControlFlow_6 : ∃ (e : Nat) (c : BitVec 1) (count : BitVec 12) (last : BitVec 11) (s : State),
    s.clear e = true ∧ (s.engine e).ls (!s.inHandler e) = [] ∧ s.engPc e < last.toNat ∧ last.toNat < (s.engine e).nb ∧ count ≠ 0 :=
  ⟨3, 1, 4095, 3, (({ flying with eng := { flying.eng with eng := [(3, { nb := 9, sreg := [(1, 7), (2, 5)] })] } } : State).put [(Reg.ENG.STATUS.STATE 3, 2), (Reg.ENG.STATUS.PC 3, 2)]), by decide +kernel⟩

theorem witness_EngineControlFlow_7 : ∃ (x : Eng) (main : Bool) (pc i last : Nat),
    x.br = none ∧ x.atom = 0 ∧ x.ls main = [] :=
  ⟨{}, true, 2, 1, 5, by decide +kernel⟩

theorem witness_EngineControlFlow_8 : ∃ (e : Nat) (n : BitVec 3) (s : State),
    s.clear e = true :=
  ⟨3, 7, (({ flying with eng := { flying.eng with eng := [(3, { nb := 9, sreg := [(1, 7), (2, 5)] })] } } : State).put [(Reg.ENG.STATUS.STATE 3, 2), (Reg.ENG.STATUS.PC 3, 2)]), by decide +kernel⟩

theorem witness_EngineControlFlow_9 : ∃ (x : Eng) (main : Bool) (pc t : Nat),
    x.br = some (1, some t) ∧ x.atom = 0 ∧ x.ls main = [] :=
  ⟨{ br := some (1, some 4) }, true, 2, 4, by decide +kernel⟩

theorem witness_EngineControlFlow_10a : ∃ (x : Eng) (main : Bool) (pc : Nat) (rest : List HwLoop) (l : HwLoop),
    x.br = none ∧ x.atom = 0 ∧ x.ls main = l :: rest ∧ l.last = pc :=
  ⟨{ loops := [⟨0, 1, 2⟩], lc0 := 3 }, true, 2, [], ⟨0, 1, 2⟩, by decide +kernel⟩

theorem witness_EngineControlFlow_10b : ∃ (x : Eng) (main : Bool) (pc : Nat) (rest : List HwLoop) (l : HwLoop),
    x.br = none ∧ x.atom = 0 ∧ x.ls main = l :: rest ∧ l.last = pc :=
  ⟨{ loops := [⟨0, 1, 2⟩], lc0 := 1 }, true, 2, [], ⟨0, 1, 2⟩, by decide +kernel⟩

theorem witness_EngineControlOperations_1a : ∃ (e : Nat) (d cr : BitVec 5) (v : Word) (s : State),
    s.clear e = true ∧ (cr.toNat, v) ∈ ([(0, BitVec.ofNat 32 (s.engine e).epc),
        (1, BitVec.ofNat 32 (s.rd (Reg.ENG.FAULT.CAUSE e))),
        (2, BitVec.ofNat 32 (s.engine e).tcst),
        (3, BitVec.ofNat 32 (s.engine e).bexp),
        (4, if (s.engine e).sat then 1 else 0),
        (5, BitVec.ofNat 32 (s.rd (Reg.ENG.STATUS.IE e))),
        (6, BitVec.ofNat 32 (s.rd (Reg.ENG.STATUS.SPEC e) + 2 * s.rd (Reg.ENG.STATUS.SPEC_EN e) + 4 * s.rd (Reg.ENG.STATUS.HANDLER e))),
        (7, BitVec.ofNat 32 e),
        (8, BitVec.ofNat 32 ((s.engine e).lc_ (!s.inHandler e) 0)),
        (9, BitVec.ofNat 32 ((s.engine e).lc_ (!s.inHandler e) 1)),
        (10, s.reg (Reg.ENG.FAULT_ADDR e))] : List (Nat × Word)) :=
  ⟨3, 4, 7, 3, (({ flying with eng := { flying.eng with eng := [(3, { nb := 9, sreg := [(1, 7), (2, 5)] })] } } : State).put [(Reg.ENG.STATUS.STATE 3, 2), (Reg.ENG.STATUS.PC 3, 2)]), by decide +kernel⟩

theorem witness_EngineControlOperations_1b : ∃ (e : Nat) (d cr : BitVec 5) (v : Word) (s : State),
    s.clear e = true ∧ (cr.toNat, v) ∈ ([(0, BitVec.ofNat 32 (s.engine e).epc),
        (1, BitVec.ofNat 32 (s.rd (Reg.ENG.FAULT.CAUSE e))),
        (2, BitVec.ofNat 32 (s.engine e).tcst),
        (3, BitVec.ofNat 32 (s.engine e).bexp),
        (4, if (s.engine e).sat then 1 else 0),
        (5, BitVec.ofNat 32 (s.rd (Reg.ENG.STATUS.IE e))),
        (6, BitVec.ofNat 32 (s.rd (Reg.ENG.STATUS.SPEC e) + 2 * s.rd (Reg.ENG.STATUS.SPEC_EN e) + 4 * s.rd (Reg.ENG.STATUS.HANDLER e))),
        (7, BitVec.ofNat 32 e),
        (8, BitVec.ofNat 32 ((s.engine e).lc_ (!s.inHandler e) 0)),
        (9, BitVec.ofNat 32 ((s.engine e).lc_ (!s.inHandler e) 1)),
        (10, s.reg (Reg.ENG.FAULT_ADDR e))] : List (Nat × Word)) :=
  ⟨3, 4, 0, 0, (({ flying with eng := { flying.eng with eng := [(3, { nb := 9, sreg := [(1, 7), (2, 5)] })] } } : State).put [(Reg.ENG.STATUS.STATE 3, 2), (Reg.ENG.STATUS.PC 3, 2)]), by decide +kernel⟩

theorem witness_EngineControlOperations_1c : ∃ (e : Nat) (d cr : BitVec 5) (v : Word) (s : State),
    s.clear e = true ∧ (cr.toNat, v) ∈ ([(0, BitVec.ofNat 32 (s.engine e).epc),
        (1, BitVec.ofNat 32 (s.rd (Reg.ENG.FAULT.CAUSE e))),
        (2, BitVec.ofNat 32 (s.engine e).tcst),
        (3, BitVec.ofNat 32 (s.engine e).bexp),
        (4, if (s.engine e).sat then 1 else 0),
        (5, BitVec.ofNat 32 (s.rd (Reg.ENG.STATUS.IE e))),
        (6, BitVec.ofNat 32 (s.rd (Reg.ENG.STATUS.SPEC e) + 2 * s.rd (Reg.ENG.STATUS.SPEC_EN e) + 4 * s.rd (Reg.ENG.STATUS.HANDLER e))),
        (7, BitVec.ofNat 32 e),
        (8, BitVec.ofNat 32 ((s.engine e).lc_ (!s.inHandler e) 0)),
        (9, BitVec.ofNat 32 ((s.engine e).lc_ (!s.inHandler e) 1)),
        (10, s.reg (Reg.ENG.FAULT_ADDR e))] : List (Nat × Word)) :=
  ⟨3, 4, 10, 0, (({ flying with eng := { flying.eng with eng := [(3, { nb := 9, sreg := [(1, 7), (2, 5)] })] } } : State).put [(Reg.ENG.STATUS.STATE 3, 2), (Reg.ENG.STATUS.PC 3, 2)]), by decide +kernel⟩

theorem witness_EngineControlOperations_2a : ∃ (e : Nat) (cr a : BitVec 5) (l : Landing) (s : State),
    s.clear e = true ∧ (cr.toNat, l) ∈ ([(0, .epc ((s.sreg e a).toNat % 2 ^ 11)),
        (3, .bexpSet ((s.sreg e a).toNat % 2 ^ 6)),
        (4, .satSet ((s.sreg e a).getLsbD 0)),
        (8, .lc (!s.inHandler e) 0 ((s.sreg e a).toNat % 2 ^ 16)),
        (9, .lc (!s.inHandler e) 1 ((s.sreg e a).toNat % 2 ^ 16))] : List (Nat × Landing)) :=
  ⟨3, 0, 1, .epc 7, (({ flying with eng := { flying.eng with eng := [(3, { nb := 9, sreg := [(1, 7), (2, 5)] })] } } : State).put [(Reg.ENG.STATUS.STATE 3, 2), (Reg.ENG.STATUS.PC 3, 2)]), by decide +kernel⟩

theorem witness_EngineControlOperations_2b : ∃ (e : Nat) (cr a : BitVec 5) (l : Landing) (s : State),
    s.clear e = true ∧ (cr.toNat, l) ∈ ([(0, .epc ((s.sreg e a).toNat % 2 ^ 11)),
        (3, .bexpSet ((s.sreg e a).toNat % 2 ^ 6)),
        (4, .satSet ((s.sreg e a).getLsbD 0)),
        (8, .lc (!s.inHandler e) 0 ((s.sreg e a).toNat % 2 ^ 16)),
        (9, .lc (!s.inHandler e) 1 ((s.sreg e a).toNat % 2 ^ 16))] : List (Nat × Landing)) :=
  ⟨3, 9, 1, .lc true 1 7, (({ flying with eng := { flying.eng with eng := [(3, { nb := 9, sreg := [(1, 7), (2, 5)] })] } } : State).put [(Reg.ENG.STATUS.STATE 3, 2), (Reg.ENG.STATUS.PC 3, 2)]), by decide +kernel⟩

theorem witness_EngineControlOperations_3 : ∃ (e : Nat) (a : BitVec 5) (mask : BitVec 4) (s : State),
    s.clear e = true ∧ s.inSpec e = false :=
  ⟨3, 1, 15, (({ flying with eng := { flying.eng with eng := [(3, { nb := 9, sreg := [(1, 7), (2, 5)] })] } } : State).put [(Reg.ENG.STATUS.STATE 3, 2), (Reg.ENG.STATUS.PC 3, 2)]), by decide +kernel⟩

theorem witness_EngineControlOperations_4 : ∃ (e : Nat) (o : SlotOp) (s : State),
    s.inSpec e = true ∧ (o.op = 0x32 ∨ o.op = 0x33 ∨ (o.op = 0x31 ∧ o.d = 5)) :=
  ⟨3, { op := 0x31, d := 5 }, (({ flying with eng := { flying.eng with eng := [(3, { nb := 9, sreg := [(1, 7), (2, 5)] })] } } : State).put [(Reg.ENG.STATUS.STATE 3, 2), (Reg.ENG.STATUS.PC 3, 2)]).put [(Reg.ENG.STATUS.SPEC 3, 1)], by decide +kernel⟩

theorem witness_EngineControlOperations_5 : ∃ (e : Nat) (s : State),
    s.clear e = true ∧ s.inHandler e = true :=
  ⟨3, (({ flying with eng := { flying.eng with eng := [(3, { nb := 9, epc := 6 })] } } : State).put [(Reg.ENG.STATUS.STATE 3, 2), (Reg.ENG.STATUS.PC 3, 2)]).put [(Reg.ENG.STATUS.HANDLER 3, 1)], by decide +kernel⟩

theorem witness_EngineControlOperations_6 : ∃ (e : Nat) (s : State),
    s.inHandler e = false :=
  ⟨3, (({ flying with eng := { flying.eng with eng := [(3, { nb := 9, sreg := [(1, 7), (2, 5)] })] } } : State).put [(Reg.ENG.STATUS.STATE 3, 2), (Reg.ENG.STATUS.PC 3, 2)]), by decide +kernel⟩

theorem witness_EngineControlOperations_7 : ∃ (e : Nat) (d : BitVec 5) (k : BitVec 4) (s : State),
    s.clear e = true :=
  ⟨3, 4, 1, (({ flying with eng := { flying.eng with eng := [(3, { nb := 9, sreg := [(1, 7), (2, 5)] })] } } : State).put [(Reg.ENG.STATUS.STATE 3, 2), (Reg.ENG.STATUS.PC 3, 2)]), by decide +kernel⟩

theorem witness_EngineControlOperations_8 : ∃ (e : Nat) (s : State),
    s.clear e = true :=
  ⟨3, (({ flying with eng := { flying.eng with eng := [(3, { nb := 9, sreg := [(1, 7), (2, 5)] })] } } : State).put [(Reg.ENG.STATUS.STATE 3, 2), (Reg.ENG.STATUS.PC 3, 2)]), by decide +kernel⟩

theorem witness_EngineControlOperations_9 : ∃ (e : Nat) (s : State),
    s.clear e = true :=
  ⟨3, (({ flying with eng := { flying.eng with eng := [(3, { nb := 9, sreg := [(1, 7), (2, 5)] })] } } : State).put [(Reg.ENG.STATUS.STATE 3, 2), (Reg.ENG.STATUS.PC 3, 2)]), by decide +kernel⟩

theorem witness_EngineLoadsAndStores_1a : ∃ (e A : Nat) (d a : BitVec 5) (off : BitVec 15) (bs : List Byte) (s : State),
    s.clear e = true ∧ A = (s.sreg e a + off.signExtend 32).toNat ∧ s.engRead e A 32 = (s, .inl bs) :=
  ⟨3, 64, 4, 1, 0, Memory.readN [(65, 7)] 64 32, ({ flying with eng := { flying.eng with eng := [(3, { nb := 9, sreg := [(1, 64), (2, 0x800040)], ldm := [(65, 7)] })], cmem := [(0x41, 9)] } } : State).put [(Reg.ENG.STATUS.STATE 3, 2), (Reg.ENG.STATUS.PC 3, 2)], by decide +kernel⟩

theorem witness_EngineLoadsAndStores_1b : ∃ (e A : Nat) (d a : BitVec 5) (off : BitVec 15) (bs : List Byte) (s : State),
    s.clear e = true ∧ A = (s.sreg e a + off.signExtend 32).toNat ∧ s.engRead e A 32 = (s, .inl bs) :=
  ⟨3, 0x800040, 4, 2, 0, Memory.readN [(0x41, 9)] 64 32, ({ flying with eng := { flying.eng with eng := [(3, { nb := 9, sreg := [(1, 64), (2, 0x800040)], ldm := [(65, 7)] })], cmem := [(0x41, 9)] } } : State).put [(Reg.ENG.STATUS.STATE 3, 2), (Reg.ENG.STATUS.PC 3, 2)], by decide +kernel⟩

theorem witness_EngineLoadsAndStores_2 : ∃ (e A : Nat) (d a : BitVec 5) (off : BitVec 15) (bs : List Byte) (s : State),
    s.clear e = true ∧ A = (s.sreg e a).toNat ∧ s.engRead e A 32 = (s, .inl bs) :=
  ⟨3, 64, 4, 1, 32, Memory.readN [(65, 7)] 64 32, ({ flying with eng := { flying.eng with eng := [(3, { nb := 9, sreg := [(1, 64), (2, 0x800040)], ldm := [(65, 7)] })], cmem := [(0x41, 9)] } } : State).put [(Reg.ENG.STATUS.STATE 3, 2), (Reg.ENG.STATUS.PC 3, 2)], by decide +kernel⟩

theorem witness_EngineLoadsAndStores_3 : ∃ (e A : Nat) (d a : BitVec 5) (off : BitVec 15) (bs : List Byte) (s : State),
    s.clear e = true ∧ A = (s.sreg e a + off.signExtend 32).toNat ∧ s.engMap e A ≠ 1 ∧ s.engRead e A 4 = (s, .inl bs) :=
  ⟨3, 68, 4, 1, 4, [0, 0, 0, 0], ({ flying with eng := { flying.eng with eng := [(3, { nb := 9, sreg := [(1, 64), (2, 0x800040)], ldm := [(65, 7)] })], cmem := [(0x41, 9)] } } : State).put [(Reg.ENG.STATUS.STATE 3, 2), (Reg.ENG.STATUS.PC 3, 2)], by decide +kernel⟩

theorem witness_EngineLoadsAndStores_4 : ∃ (e A : Nat) (d a : BitVec 5) (off : BitVec 15) (v : Word) (s s0 : State),
    s.clear e = true ∧ A = (s.sreg e a + off.signExtend 32).toNat ∧ s.engMap e A = 1 ∧ s0 = s.updEngine e (fun x => { x with openB := {} }) ∧ s0.winRead e (A - 0x20000) = (s0, .inl v) :=
  ⟨3, 0x20018, 4, 1, 0x18, (({ flying with eng := { flying.eng with eng := [(3, { nb := 9, sreg := [(1, 0x20000), (2, 0x800040)], ldm := [(65, 7)] })], cmem := [] } } : State).put [(Reg.ENG.STATUS.STATE 3, 2), (Reg.ENG.STATUS.PC 3, 2)] : State).reg (cluBase 0 + 0x2000 + 0x200 * 3 + 0x18), ({ flying with eng := { flying.eng with eng := [(3, { nb := 9, sreg := [(1, 0x20000), (2, 0x800040)], ldm := [(65, 7)] })], cmem := [] } } : State).put [(Reg.ENG.STATUS.STATE 3, 2), (Reg.ENG.STATUS.PC 3, 2)], (({ flying with eng := { flying.eng with eng := [(3, { nb := 9, sreg := [(1, 0x20000), (2, 0x800040)], ldm := [(65, 7)] })], cmem := [] } } : State).put [(Reg.ENG.STATUS.STATE 3, 2), (Reg.ENG.STATUS.PC 3, 2)] : State).updEngine 3 (fun x => { x with openB := {} }), by decide +kernel⟩

theorem witness_EngineLoadsAndStores_5 : ∃ (e : Nat) (d d2 a b : BitVec 5) (inc : BitVec 2) (s : State),
    s.clear e = true ∧ d ≠ d2 ∧ s.engMap e (s.sreg e a).toNat = 0 ∧ s.engMap e (s.sreg e b).toNat = 0 ∧ (s.sreg e a).toNat % 32 = 0 ∧ (s.sreg e b).toNat % 32 = 0 :=
  ⟨3, 4, 5, 1, 1, 3, ({ flying with eng := { flying.eng with eng := [(3, { nb := 9, sreg := [(1, 64), (2, 0x800040)], ldm := [(65, 7)] })], cmem := [(0x41, 9)] } } : State).put [(Reg.ENG.STATUS.STATE 3, 2), (Reg.ENG.STATUS.PC 3, 2)], by decide +kernel⟩

theorem witness_EngineLoadsAndStores_6 : ∃ (e A : Nat) (d a : BitVec 5) (off : BitVec 15) (s w : State),
    s.clear e = true ∧ A = (s.sreg e a + off.signExtend 32).toNat ∧ s.engWrite e A (toLe 32 (s.vreg e d).toNat) = .inl w :=
  ⟨3, 96, 4, 1, 32, ({ flying with eng := { flying.eng with eng := [(3, { nb := 9, sreg := [(1, 64), (2, 0x800040)], ldm := [(65, 7)] })], cmem := [(0x41, 9)] } } : State).put [(Reg.ENG.STATUS.STATE 3, 2), (Reg.ENG.STATUS.PC 3, 2)], ((({ flying with eng := { flying.eng with eng := [(3, { nb := 9, sreg := [(1, 64), (2, 0x800040)], ldm := [(65, 7)] })], cmem := [(0x41, 9)] } } : State).put [(Reg.ENG.STATUS.STATE 3, 2), (Reg.ENG.STATUS.PC 3, 2)] : State).updEngine 3 (fun x => { x with ldm := Memory.writeN [(65, 7)] 96 (toLe 32 0) })), by decide +kernel⟩

theorem witness_EngineLoadsAndStores_7 : ∃ (e A : Nat) (d a : BitVec 5) (off : BitVec 15) (s w : State),
    s.clear e = true ∧ A = (s.sreg e a).toNat ∧ s.engWrite e A (toLe 32 (s.vreg e d).toNat) = .inl w :=
  ⟨3, 64, 4, 1, 32, ({ flying with eng := { flying.eng with eng := [(3, { nb := 9, sreg := [(1, 64), (2, 0x800040)], ldm := [(65, 7)] })], cmem := [(0x41, 9)] } } : State).put [(Reg.ENG.STATUS.STATE 3, 2), (Reg.ENG.STATUS.PC 3, 2)], ((({ flying with eng := { flying.eng with eng := [(3, { nb := 9, sreg := [(1, 64), (2, 0x800040)], ldm := [(65, 7)] })], cmem := [(0x41, 9)] } } : State).put [(Reg.ENG.STATUS.STATE 3, 2), (Reg.ENG.STATUS.PC 3, 2)] : State).updEngine 3 (fun x => { x with ldm := Memory.writeN [(65, 7)] 64 (toLe 32 0) })), by decide +kernel⟩

theorem witness_EngineLoadsAndStores_8 : ∃ (e A : Nat) (d a : BitVec 5) (off : BitVec 15) (s w : State),
    s.clear e = true ∧ A = (s.sreg e a + off.signExtend 32).toNat ∧ s.engMap e A ≠ 1 ∧ s.engWrite e A (toLe 4 (s.sreg e d).toNat) = .inl w :=
  ⟨3, 96, 1, 1, 32, ({ flying with eng := { flying.eng with eng := [(3, { nb := 9, sreg := [(1, 64), (2, 0x800040)], ldm := [(65, 7)] })], cmem := [(0x41, 9)] } } : State).put [(Reg.ENG.STATUS.STATE 3, 2), (Reg.ENG.STATUS.PC 3, 2)], ((({ flying with eng := { flying.eng with eng := [(3, { nb := 9, sreg := [(1, 64), (2, 0x800040)], ldm := [(65, 7)] })], cmem := [(0x41, 9)] } } : State).put [(Reg.ENG.STATUS.STATE 3, 2), (Reg.ENG.STATUS.PC 3, 2)] : State).updEngine 3 (fun x => { x with ldm := Memory.writeN [(65, 7)] 96 (toLe 4 64) })), by decide +kernel⟩

theorem witness_EngineVectorResults_1a : ∃ (e : Nat) (m : BitVec 2) (d a b n : BitVec 5) (sat rnd bx : Bool) (s : State),
    s.clear e = true ∧ m ≠ 3 :=
  ⟨3, 0, 4, 1, 2, 31, true, true, true, (({ flying with eng := { flying.eng with eng := [(3, { nb := 9, sreg := [(1, 7), (2, 5)] })] } } : State).put [(Reg.ENG.STATUS.STATE 3, 2), (Reg.ENG.STATUS.PC 3, 2)]), by decide +kernel⟩

theorem witness_EngineVectorResults_1b : ∃ (e : Nat) (m : BitVec 2) (d a b n : BitVec 5) (sat rnd bx : Bool) (s : State),
    s.clear e = true ∧ m ≠ 3 :=
  ⟨3, 2, 4, 1, 2, 0, false, false, false, (({ flying with eng := { flying.eng with eng := [(3, { nb := 9, sreg := [(1, 7), (2, 5)] })] } } : State).put [(Reg.ENG.STATUS.STATE 3, 2), (Reg.ENG.STATUS.PC 3, 2)]), by decide +kernel⟩

theorem witness_EngineVectorResults_2a : ∃ (e : Nat) (m : BitVec 2) (d a n : BitVec 5) (rnd bx : Bool) (s : State),
    s.clear e = true ∧ m ≠ 3 ∧ n.toNat < laneW m.toNat :=
  ⟨3, 0, 4, 1, 15, true, true, (({ flying with eng := { flying.eng with eng := [(3, { nb := 9, sreg := [(1, 7), (2, 5)] })] } } : State).put [(Reg.ENG.STATUS.STATE 3, 2), (Reg.ENG.STATUS.PC 3, 2)]), by decide +kernel⟩

theorem witness_EngineVectorResults_2b : ∃ (e : Nat) (m : BitVec 2) (d a n : BitVec 5) (rnd bx : Bool) (s : State),
    s.clear e = true ∧ m ≠ 3 ∧ n.toNat < laneW m.toNat :=
  ⟨3, 1, 4, 1, 7, true, true, (({ flying with eng := { flying.eng with eng := [(3, { nb := 9, sreg := [(1, 7), (2, 5)] })] } } : State).put [(Reg.ENG.STATUS.STATE 3, 2), (Reg.ENG.STATUS.PC 3, 2)]), by decide +kernel⟩

theorem witness_EngineVectorResults_2c : ∃ (e : Nat) (m : BitVec 2) (d a n : BitVec 5) (rnd bx : Bool) (s : State),
    s.clear e = true ∧ m ≠ 3 ∧ n.toNat < laneW m.toNat :=
  ⟨3, 2, 4, 1, 31, false, true, (({ flying with eng := { flying.eng with eng := [(3, { nb := 9, sreg := [(1, 7), (2, 5)] })] } } : State).put [(Reg.ENG.STATUS.STATE 3, 2), (Reg.ENG.STATUS.PC 3, 2)]), by decide +kernel⟩

theorem witness_EngineVectorResults_3a : ∃ (e : Nat) (m : BitVec 2) (d a b n : BitVec 5) (s : State),
    s.clear e = true ∧ m ≠ 3 ∧ n.toNat < 256 / laneW m.toNat :=
  ⟨3, 0, 4, 1, 2, 15, (({ flying with eng := { flying.eng with eng := [(3, { nb := 9, sreg := [(1, 7), (2, 5)] })] } } : State).put [(Reg.ENG.STATUS.STATE 3, 2), (Reg.ENG.STATUS.PC 3, 2)]), by decide +kernel⟩

theorem witness_EngineVectorResults_3b : ∃ (e : Nat) (m : BitVec 2) (d a b n : BitVec 5) (s : State),
    s.clear e = true ∧ m ≠ 3 ∧ n.toNat < 256 / laneW m.toNat :=
  ⟨3, 1, 4, 1, 2, 31, (({ flying with eng := { flying.eng with eng := [(3, { nb := 9, sreg := [(1, 7), (2, 5)] })] } } : State).put [(Reg.ENG.STATUS.STATE 3, 2), (Reg.ENG.STATUS.PC 3, 2)]), by decide +kernel⟩

theorem witness_EngineVectorResults_4 : ∃ (e : Nat) (m : BitVec 2) (d a n : BitVec 5) (s : State),
    s.clear e = true ∧ m ≠ 3 ∧ 1 ≤ n.toNat ∧ n.toNat < laneW m.toNat :=
  ⟨3, 0, 4, 1, 10, (({ flying with eng := { flying.eng with eng := [(3, { nb := 9, sreg := [(1, 7), (2, 5)] })] } } : State).put [(Reg.ENG.STATUS.STATE 3, 2), (Reg.ENG.STATUS.PC 3, 2)]), by decide +kernel⟩

theorem witness_EngineVectorResults_5 : ∃ (e : Nat) (m : BitVec 2) (d a b n : BitVec 5) (bx : Bool) (s : State),
    s.clear e = true ∧ m ≠ 3 ∧ m ≠ 1 ∧ n.toNat ≤ 1 :=
  ⟨3, 0, 4, 1, 2, 1, true, (({ flying with eng := { flying.eng with eng := [(3, { nb := 9, sreg := [(1, 7), (2, 5)] })] } } : State).put [(Reg.ENG.STATUS.STATE 3, 2), (Reg.ENG.STATUS.PC 3, 2)]), by decide +kernel⟩

theorem witness_EngineVectorResults_6 : ∃ (e d : Nat) (bx : Bool) (r : VRes) (s : State),
    (s.engine e).fly = vLand 1 d bx r :=
  ⟨3, 4, true, ⟨16, [40000], true⟩, (({ flying with eng := { flying.eng with eng := [(3, { nb := 9, fly := vLand 1 4 true ⟨16, [40000], true⟩ })] } } : State).put [(Reg.ENG.STATUS.STATE 3, 2), (Reg.ENG.STATUS.PC 3, 2)]), by decide +kernel⟩

theorem witness_EngineMacResults_1 : ∃ (e : Nat) (ad ac : BitVec 2) (a b : BitVec 5) (j : BitVec 4) (pair bx : Bool) (s : State),
    s.clear e = true :=
  ⟨3, 3, 1, 4, 1, 15, true, true, (({ flying with eng := { flying.eng with eng := [(3, { nb := 9, sreg := [(1, 7), (2, 5)] })] } } : State).put [(Reg.ENG.STATUS.STATE 3, 2), (Reg.ENG.STATUS.PC 3, 2)]), by decide +kernel⟩

theorem witness_EngineMacResults_2 : ∃ (e : Nat) (d b : BitVec 5) (ac : BitVec 2) (n : BitVec 6) (bx : Bool) (s : State),
    s.clear e = true ∧ n.toNat ≤ 47 :=
  ⟨3, 4, 1, 3, 47, true, (({ flying with eng := { flying.eng with eng := [(3, { nb := 9, sreg := [(1, 7), (2, 5)] })] } } : State).put [(Reg.ENG.STATUS.STATE 3, 2), (Reg.ENG.STATUS.PC 3, 2)]), by decide +kernel⟩

theorem witness_EngineMacResults_3 : ∃ (e : Nat) (d : BitVec 5) (ac q : BitVec 2) (s : State),
    s.clear e = true ∧ q ≠ 3 :=
  ⟨3, 4, 1, 2, (({ flying with eng := { flying.eng with eng := [(3, { nb := 9, sreg := [(1, 7), (2, 5)] })] } } : State).put [(Reg.ENG.STATUS.STATE 3, 2), (Reg.ENG.STATUS.PC 3, 2)]), by decide +kernel⟩

theorem witness_EngineCommands_1 : ∃ (h : Hdr) (p b : List Byte) (s t : State),
    s.takes 0x0601 h = true ∧ t = s.stamped h ∧ t.readBuf h (u64 p 0) (min (u32 p 8) 131072) = some b ∧ t.rangeAbsent (engRange (u16 p 12) (u8 p 14)) = false ∧ t.rangeOff (engRange (u16 p 12) (u8 p 14)) = false ∧ u8 p 15 = 0 ∧ zeroFrom p 18 = true ∧ badRange (u16 p 12) (u8 p 14) = false ∧ h.spiBad (u64 p 0) (u32 p 8) = false ∧ u32 p 8 = b.length ∧ blobBad b = false ∧ (u16 p 16 = 0 ∨ t.costKnown (u16 p 16) = true) ∧ (∀ e ∈ engRange (u16 p 12) (u8 p 14), t.engState e ≠ engRunning ∧ t.engState e ≠ engHalted ∧ t.engContract e = none) :=
  ⟨hdr, toLe 8 0 ++ toLe 4 48 ++ [3, 0, 2], Memory.readN (Memory.writeN [] 0 ([0x5A, 0x51, 0x50, 0x47, 1, 0, 1, 0] ++ List.replicate 24 0 ++ List.replicate 16 0)) 0 48, { flying with hostMem := Memory.writeN [] 0 ([0x5A, 0x51, 0x50, 0x47, 1, 0, 1, 0] ++ List.replicate 24 0 ++ List.replicate 16 0) }, _, by decide +kernel, rfl, by decide +kernel, by decide +kernel, by decide +kernel, by decide +kernel, by decide +kernel, by decide +kernel, by decide +kernel, by decide +kernel, by decide +kernel, by decide +kernel, by decide +kernel⟩

theorem witness_EngineCommands_2 : ∃ (h : Hdr) (p : List Byte) (s u : State),
    s.takes 0x0602 h = true ∧ u = s.stamped h ∧ u.rangeAbsent (engRange (u16 p 0) (u8 p 2)) = false ∧ u.rangeOff (engRange (u16 p 0) (u8 p 2)) = false ∧ badRange (u16 p 0) (u8 p 2) = false ∧ u8 p 3 ≤ 1 ∧ 1 ≤ u32 p 4 ∧ u32 p 4 ≤ 255 ∧ zeroFrom p 16 = true ∧ (∀ e ∈ engRange (u16 p 0) (u8 p 2), (u.engState e = engLoaded ∨ u.engState e = engStopped) ∧ u.engContract e = none) :=
  ⟨hdr, [3, 0, 2, 1, 255], flying.put [(Reg.ENG.STATUS.STATE 3, 1), (Reg.ENG.STATUS.STATE 4, 3)], _, by decide +kernel, rfl, by decide +kernel, by decide +kernel, by decide +kernel, by decide +kernel, by decide +kernel, by decide +kernel, by decide +kernel, by decide +kernel⟩

theorem witness_EngineCommands_3 : ∃ (h : Hdr) (p : List Byte) (s u : State),
    s.takes 0x0603 h = true ∧ u = s.stamped h ∧ u.rangeAbsent (engRange (u16 p 0) (u8 p 2)) = false ∧ u.rangeOff (engRange (u16 p 0) (u8 p 2)) = false ∧ badRange (u16 p 0) (u8 p 2) = false ∧ zeroAt p 3 5 = true ∧ zeroFrom p 16 = true ∧ (∀ e ∈ engRange (u16 p 0) (u8 p 2), u.engContract e = none) :=
  ⟨hdr, [31, 0, 1], flying, _, by decide +kernel, rfl, by decide +kernel, by decide +kernel, by decide +kernel, by decide +kernel, by decide +kernel, by decide +kernel⟩

theorem witness_EngineCommands_4 : ∃ (h : Hdr) (p : List Byte) (s t : State),
    s.takes 0x0604 h = true ∧ t = s.stamped h ∧ u16 p 0 < 256 ∧ t.engPresent (u16 p 0) = true ∧ 2 ≤ t.dom (5 + u16 p 0 / 32) ∧ zeroFrom p 2 = true :=
  ⟨hdr, [255], flying, _, by decide +kernel, rfl, by decide +kernel, by decide +kernel, by decide +kernel, by decide +kernel⟩

theorem witness_EngineCommands_5 : ∃ (eff e w : Nat) (st : Nat × Nat) (s : State),
    s.dueNow = [⟨eff, .engStart e w, st⟩] :=
  ⟨0, 3, 0, (0, 0), { flying with due := [⟨0, .engStart 3 0, (0, 0)⟩] }, by decide +kernel⟩

theorem witness_EngineCommands_6 : ∃ (eff e : Nat) (st : Nat × Nat) (s : State),
    s.dueNow = [⟨eff, .engStop e, st⟩] :=
  ⟨0, 3, (0, 0), { flying with due := [⟨0, .engStop 3, (0, 0)⟩] }, by decide +kernel⟩

theorem witness_EngineCommands_7 : ∃ (e w : Nat) (s : State),
    (s.engState e = engLoaded ∨ s.engState e = engStopped) ∧ s.engOn e = true ∧ w < 2 ^ 32 :=
  ⟨3, 511, (({ flying with eng := { flying.eng with eng := [(3, { nb := 9, entry := 4 })] } } : State).put [(Reg.ENG.STATUS.STATE 3, 1)]), by decide +kernel⟩

theorem witness_EngineCommands_8 : ∃ (e desc : Nat) (b : List Byte) (s : State),
    blobBad b = false :=
  ⟨3, 0, [0x5A, 0x51, 0x50, 0x47, 1, 0, 1, 0] ++ List.replicate 24 0 ++ List.replicate 16 0, flying, by decide +kernel⟩

theorem witness_EngineEvents_1a : ∃ (e v : Nat) (s : State),
    s.engEvent e = some v ∧ s.engState e = engRunning ∧ (s.engine e).free = true ∧ s.engOn e = true ∧ (s.engine e).fly = [] :=
  ⟨3, 3, (({ flying with eng := { flying.eng with eng := [(3, { nb := 9, pend := 4, vec := 1 })] } } : State).put [(Reg.ENG.STATUS.STATE 3, 2), (Reg.ENG.STATUS.PC 3, 2), (Reg.ENG.STATUS.IE 3, 15)]), by decide +kernel⟩

theorem witness_EngineEvents_1b : ∃ (e v : Nat) (s : State),
    s.engEvent e = some v ∧ s.engState e = engRunning ∧ (s.engine e).free = true ∧ s.engOn e = true ∧ (s.engine e).fly = [] :=
  ⟨3, 0, (({ flying with eng := { flying.eng with eng := [(3, { nb := 9, exc := some 1 })] } } : State).put [(Reg.ENG.STATUS.STATE 3, 2), (Reg.ENG.STATUS.PC 3, 2)]), by decide +kernel⟩

theorem witness_EngineEvents_2 : ∃ (e : Nat) (s : State),
    (s.engine e).ask = true ∧ s.engState e = engRunning ∧ (s.engine e).free = true ∧ s.inHandler e = false ∧ s.engOn e = true :=
  ⟨3, (({ flying with eng := { flying.eng with eng := [(3, { nb := 9, ask := true })] } } : State).put [(Reg.ENG.STATUS.STATE 3, 2), (Reg.ENG.STATUS.PC 3, 2)]), by decide +kernel⟩

theorem witness_EngineEvents_3 : ∃ (e : Nat) (s : State),
    s.inSpec e = true :=
  ⟨3, (({ flying with eng := { flying.eng with eng := [(3, { nb := 9, writ := [4] })] } } : State).put [(Reg.ENG.STATUS.STATE 3, 2), (Reg.ENG.STATUS.PC 3, 2), (Reg.ENG.STATUS.SPEC 3, 1)]), by decide +kernel⟩

theorem witness_EngineEvents_4 : ∃ (e : Nat) (s : State),
    s.inSpec e = false :=
  ⟨3, (({ flying with eng := { flying.eng with eng := [(3, { nb := 9 })] } } : State).put [(Reg.ENG.STATUS.STATE 3, 2), (Reg.ENG.STATUS.PC 3, 2)]), by decide +kernel⟩

theorem witness_EngineEvents_5 : ∃ (e : Nat) (c : Checkpoint) (s : State),
    (s.engine e).chk = some c ∧ (s.engine e).rollback = true ∧ s.inSpec e = true ∧ s.inHandler e = false ∧ (s.engine e).atom = 0 :=
  ⟨3, (flying.checkpoint 3), (({ flying with eng := { flying.eng with eng := [(3, { nb := 9, rollback := true, chk := some ((flying.checkpoint 3)) })] } } : State).put [(Reg.ENG.STATUS.STATE 3, 2), (Reg.ENG.STATUS.PC 3, 2), (Reg.ENG.STATUS.SPEC 3, 1)]), by decide +kernel⟩

theorem witness_EngineEvents_6 : ∃ (e : Nat) (s : State),
    s.engState e = engRunning ∧ s.isSet (Reg.ENG.WDOG.EN e) = true ∧ s.engOn e = true ∧ s.slot = s.rd (Reg.ENG.WDOG.MARGIN e) :=
  ⟨3, (({ flying with eng := { flying.eng with eng := [(3, { nb := 9 })] } } : State).put [(Reg.ENG.STATUS.STATE 3, 2), (Reg.ENG.STATUS.PC 3, 2), (Reg.ENG.WDOG.EN 3, 1), (Reg.ENG.WDOG.MARGIN 3, 8), (Reg.TICK.STATUS.SLOT, 8)]), by decide +kernel⟩

theorem witness_EngineEvents_7 : ∃ (c : Nat) (s : State),
    c < s.nClusters ∧ (s.dom (5 + c) = 3 ∨ s.dom (5 + c) = 2) :=
  ⟨7, flying, by decide +kernel⟩

theorem witness_EngineBundles_1 : ∃ (e : Nat) (o : SlotOp) (s : State),
    s.mayIssue e = true :=
  ⟨3, { op := 1 }, (({ flying with eng := { flying.eng with eng := [(3, { nb := 9 })] } } : State).put [(Reg.ENG.STATUS.STATE 3, 2), (Reg.ENG.STATUS.PC 3, 2)]), by decide +kernel⟩

theorem witness_EngineBundles_2 : ∃ (e : Nat) (more : Bool) (o : SlotOp) (s : State),
    s.mayIssue e = false :=
  ⟨3, true, { op := 1 }, flying, by decide +kernel⟩

theorem witness_EngineBundles_4 : ∃ (e c pc a : Nat) (s : State),
    s.inHandler e = false ∧ a < 2 ^ 32 :=
  ⟨3, 2, 5, 0x30000, (({ flying with eng := { flying.eng with eng := [(3, { nb := 9 })] } } : State).put [(Reg.ENG.STATUS.STATE 3, 2), (Reg.ENG.STATUS.PC 3, 2)]), by decide +kernel⟩

theorem witness_EngineBundles_5 : ∃ (e c pc a : Nat) (s : State),
    s.inHandler e = true :=
  ⟨3, 2, 5, 0x30000, (({ flying with eng := { flying.eng with eng := [(3, { nb := 9 })] } } : State).put [(Reg.ENG.STATUS.STATE 3, 2), (Reg.ENG.STATUS.PC 3, 2), (Reg.ENG.STATUS.HANDLER 3, 1)]), by decide +kernel⟩

theorem witness_EngineBundles_6 : ∃ (m e : Nat) (s : State),
    e < 256 ∧ s.engPresent e = true ∧ s.engOn e = true ∧ s.engState e = engHalted :=
  ⟨6, 3, (({ flying with eng := { flying.eng with eng := [(3, { nb := 9 })] } } : State).put [(Reg.ENG.STATUS.STATE 3, 5)]), by decide +kernel⟩

theorem witness_EngineBundles_7 : ∃ (e : Nat) (s : State),
    s.engPresent e = true ∧ s.engOn e = true ∧ s.engState e = engHalted ∧ decodeBundle (s.reg (Reg.DBG.INJ 0)) (s.reg (Reg.DBG.INJ 1)) (s.reg (Reg.DBG.INJ 2)) (s.reg (Reg.DBG.INJ 3)) = none :=
  ⟨3, (({ flying with eng := { flying.eng with eng := [(3, { nb := 9 })] } } : State).put [(Reg.ENG.STATUS.STATE 3, 5), (Reg.DBG.INJ.WORD 3, 0xFE000000)]), by decide +kernel⟩

theorem witness_StagingAndMolt_1 : ∃ (h : Hdr) (p : List Byte) (s t : State),
    s.takes 0x0701 h = true ∧ t = s.stamped h ∧ u64 p 0 = 0 ∧ t.staging ≠ 1 ∧ u8 p 23 ≤ 1 ∧ zeroFrom p 24 = true ∧ t.isSet Reg.MOLT.STATUS.COMMIT_PEND = false :=
  ⟨hdr, [], ({ flying with molt := { flying.molt with stages := [5, 8], planId := 1, planOf := some (1, []), digest := 77, tick := 4 } } : State).put [(Reg.MOLT.STATUS.STAGING, 2)], _, by decide +kernel, rfl, by decide +kernel, by decide +kernel, by decide +kernel, by decide +kernel, by decide +kernel⟩

theorem witness_StagingAndMolt_2 : ∃ (h : Hdr) (p : List Byte) (a len mask r : Nat) (s u : State),
    s.takes 0x0701 h = true ∧ u = s.stamped h ∧ a = u64 p 0 ∧ len = u64 p 8 ∧ mask = leAt p 16 7 ∧ a ≠ 0 ∧ u.staging ≠ 1 ∧ u.domOn 4 = true ∧ (∀ t ∈ maskTiles mask, t < u.nTiles → u.domOn (13 + t / 4) = true) ∧ u.regionAt a = some r ∧ u.isSet (Reg.PMAP.REG_LO.CODE r) = true ∧ u.rd (Reg.PMAP.REG_LO.STATE r) = 2 ∧ a + len ≤ (u.rd (Reg.PMAP.REG_LO.BASE r) + u.rd (Reg.PMAP.REG_HI.SIZE r)) * 2 ^ 24 ∧ a + len ≤ u.storeBase ∧ mask < 2 ^ u.nTiles ∧ (∀ t ∈ maskTiles mask, (imgTable (u.dramImage a)).any (fun x => x.typ == 1 && x.arg == t) = true) ∧ (bit (u8 p 23) 0 = true → (imgTable (u.dramImage a)).any (fun x => x.typ == 1 && x.arg == 0xFF) = true) ∧ u8 p 23 ≤ 1 ∧ zeroFrom p 24 = true ∧ u.isSet Reg.MOLT.STATUS.COMMIT_PEND = false :=
  ⟨hdr, toLe 8 0x1000000 ++ toLe 8 64, 0x1000000, 64, 0, 3, flying.put [(Reg.MC.ORG.SIZE_GIB 0, 4), (Reg.PMAP.REG_LO.EN 3, 1), (Reg.PMAP.REG_LO.CODE 3, 1), (Reg.PMAP.REG_LO.STATE 3, 2), (Reg.PMAP.REG_LO.BASE 3, 1), (Reg.PMAP.REG_HI.SIZE 3, 1)], _, by decide +kernel, rfl, by decide +kernel, by decide +kernel, by decide +kernel, by decide +kernel, by decide +kernel, by decide +kernel, by decide +kernel, by decide +kernel, by decide +kernel, by decide +kernel, by decide +kernel, by decide +kernel, by decide +kernel, by decide +kernel, by decide +kernel, by decide +kernel, by decide +kernel, by decide +kernel⟩

theorem witness_StagingAndMolt_3 : ∃ (s : State),
    s.staging = 1 :=
  ⟨flying.put [(Reg.MOLT.STATUS.STAGING, 1)], by decide +kernel⟩

theorem witness_StagingAndMolt_4 : ∃ (h : Hdr) (p b : List Byte) (s t : State),
    s.takes 0x0702 h = true ∧ t = s.stamped h ∧ u8 p 12 = 0 ∧ zeroFrom p 13 = true ∧ h.spiBad (u64 p 0) (u32 p 8) = false ∧ t.staging = 2 ∧ t.onAirHeld = [] ∧ b = [BitVec.ofNat 8 t.molt.stages.length, 0] ++ toLe 2 (t.heldBy t.molt.stages).length ++ toLe 12 0 ++
      t.molt.stages.flatMap (fun m => toLe 7 m ++ [if m = 0 then 1 else 0] ++ toLe 8 0) ++
      (t.heldBy t.molt.stages).flatMap (fun x => toLe 4 ((t.contract x.1).id x.1) ++ [BitVec.ofNat 8 (t.contract x.1).d.cls,
        BitVec.ofNat 8 x.2.1, BitVec.ofNat 8 x.2.2] ++ toLe 9 0) :=
  ⟨hdr, toLe 8 4096 ++ toLe 4 512, [2, 0, 0, 0] ++ toLe 12 0 ++ (toLe 7 5 ++ [0] ++ toLe 8 0) ++ (toLe 7 8 ++ [0] ++ toLe 8 0), ({ flying with molt := { flying.molt with stages := [5, 8], planId := 1, planOf := some (1, []), digest := 77, tick := 4 } } : State).put [(Reg.MOLT.STATUS.STAGING, 2)], _, by decide +kernel, rfl, by decide +kernel, by decide +kernel, by decide +kernel, by decide +kernel, by decide +kernel, by decide +kernel⟩

theorem witness_StagingAndMolt_5 : ∃ (h : Hdr) (p : List Byte) (s t : State),
    s.takes 0x0703 h = true ∧ t = s.stamped h ∧ (t.mode = 3 ∨ t.mode = 4) ∧ u8 p 4 = 0 ∧ u8 p 5 ≤ 64 ∧ zeroAt p 6 2 = true ∧ zeroFrom p 16 = true ∧ t.staging = 2 ∧ t.isSet Reg.MOLT.STATUS.COMMIT_PEND = false ∧ t.molt.planOf = some (u32 p 0, t.tableSig) ∧ t.onAirHeld = [] :=
  ⟨hdr, [1], ({ flying with molt := { flying.molt with stages := [5, 8], planId := 1, planOf := some (1, []), digest := 77, tick := 4 } } : State).put [(Reg.MOLT.STATUS.STAGING, 2)], _, by decide +kernel, rfl, by decide +kernel, by decide +kernel, by decide +kernel, by decide +kernel, by decide +kernel, by decide +kernel, by decide +kernel, by decide +kernel, by decide +kernel⟩

theorem witness_StagingAndMolt_6a : ∃ (s : State),
    s.ownStages = true ∧ s.now + 1 = s.molt.tick :=
  ⟨({ flying with molt := { flying.molt with stages := [5, 8], planId := 1, planOf := some (1, []), digest := 77, tick := 4 }, tick := { flying.tick with num := 3 } } : State).put [(Reg.MOLT.STATUS.STAGING, 2), (Reg.MOLT.STATUS.COMMIT_PEND, 1), (Reg.MOLT.STATUS.NEXT, 1)], by decide +kernel⟩

theorem witness_StagingAndMolt_6b : ∃ (s : State),
    s.ownStages = true ∧ s.now + 1 = s.molt.tick :=
  ⟨({ flying with molt := { flying.molt with stages := [5, 8], planId := 1, planOf := some (1, []), digest := 77, tick := 4, late := 4 }, tick := { flying.tick with num := 3 } } : State).put [(Reg.MOLT.STATUS.STAGING, 2), (Reg.MOLT.STATUS.COMMIT_PEND, 1), (Reg.MOLT.STATUS.NEXT, 1)], by decide +kernel⟩

theorem witness_StagingAndMolt_7 : ∃ (s : State),
    s.ownStages = true ∧ s.molt.tick = s.now ∧ s.rd Reg.MOLT.STATUS.STAGGER = 0 ∧ s.heldBy s.molt.stages = [] :=
  ⟨({ flying with molt := { flying.molt with stages := [0, 8], planId := 1, planOf := some (1, []), digest := 77, tick := 4 }, tick := { flying.tick with num := 4 } } : State).put [(Reg.MOLT.STATUS.STAGING, 2), (Reg.MOLT.STATUS.COMMIT_PEND, 1), (Reg.MOLT.STATUS.NEXT, 1)], by decide +kernel⟩

theorem witness_StagingAndMolt_8 : ∃ (s : State),
    s.now = s.molt.bound ∧ s.rd Reg.MOLT.STATUS.STAGGER ≠ 0 ∧ s.rd Reg.TWIN.CFG.ROLE ≠ 1 :=
  ⟨({ flying with molt := { flying.molt with stages := [5, 8], planId := 1, planOf := some (1, []), digest := 77, tick := 4 } } : State).put [(Reg.MOLT.STATUS.STAGING, 2), (Reg.MOLT.STATUS.STAGGER, 1), (Reg.TWIN.CFG.ROLE, 2)], by decide +kernel⟩

theorem witness_StagingAndMolt_9 : ∃ (s : State),
    s.now = s.molt.bound ∧ s.rd Reg.MOLT.STATUS.STAGGER ≠ 0 ∧ s.rd Reg.TWIN.CFG.ROLE = 1 ∧ s.heldBy s.molt.stages = [] :=
  ⟨({ flying with molt := { flying.molt with stages := [], planId := 1, planOf := some (1, []), digest := 77, tick := 4 } } : State).put [(Reg.MOLT.STATUS.STAGING, 2), (Reg.MOLT.STATUS.STAGGER, 2), (Reg.TWIN.CFG.ROLE, 1)], by decide +kernel⟩

theorem witness_StagingAndMolt_10a : ∃ (s : State),
    2 ≤ s.rd Reg.MOLT.STATUS.STAGGER ∧ s.isSet Reg.MOLT.STATUS.COMMIT_PEND = false :=
  ⟨({ flying with molt := { flying.molt with stages := [5, 8], planId := 1, planOf := some (1, []), digest := 77, tick := 4 } } : State).put [(Reg.MOLT.STATUS.STAGING, 2), (Reg.MOLT.STATUS.STAGGER, 3), (Reg.TWIN.CFG.ROLE, 1)], by decide +kernel⟩

theorem witness_StagingAndMolt_10b : ∃ (s : State),
    2 ≤ s.rd Reg.MOLT.STATUS.STAGGER ∧ s.isSet Reg.MOLT.STATUS.COMMIT_PEND = false :=
  ⟨({ flying with molt := { flying.molt with stages := [5, 8], planId := 1, planOf := some (1, []), digest := 77, tick := 4 } } : State).put [(Reg.MOLT.STATUS.STAGING, 2), (Reg.MOLT.STATUS.STAGGER, 2), (Reg.TWIN.CFG.ROLE, 2)], by decide +kernel⟩

theorem witness_Scrubbing_1 : ∃ (t f : Nat) (s : State),
    t < s.nTiles ∧ f < 18688 ∧ s.domOn (13 + t / 4) = true ∧ s.scrubMasked t f = false ∧ s.passEnd t f = false :=
  ⟨55, 18686, flying, by decide +kernel⟩

theorem witness_Scrubbing_2a : ∃ (t err : Nat) (s : State),
    t < s.nTiles ∧ s.domOn (13 + t / 4) = true ∧ t = (s.molt.conf.filter (fun x => s.domOn (13 + x / 4))).foldl min t ∧ (err = 0 ∨ s.scrubMasked t 18687 = true) :=
  ⟨3, 0, { flying with molt := { flying.molt with conf := [7, 3] } }, by decide +kernel⟩

theorem witness_Scrubbing_2b : ∃ (t err : Nat) (s : State),
    t < s.nTiles ∧ s.domOn (13 + t / 4) = true ∧ t = (s.molt.conf.filter (fun x => s.domOn (13 + x / 4))).foldl min t ∧ (err = 0 ∨ s.scrubMasked t 18687 = true) :=
  ⟨0, 1, { flying with molt := { flying.molt with masks := [(0, List.replicate 2335 0 ++ [0x80])] } }, by decide +kernel⟩

theorem witness_Scrubbing_3a : ∃ (t f err : Nat) (s : State),
    (s.nTiles ≤ t ∨ 18688 ≤ f ∨ s.domOn (13 + t / 4) = false ∨ (s.scrubMasked t f = true ∧ s.passEnd t f = false)) :=
  ⟨60, 0, 0, flying, by decide +kernel⟩

theorem witness_Scrubbing_3b : ∃ (t f err : Nat) (s : State),
    (s.nTiles ≤ t ∨ 18688 ≤ f ∨ s.domOn (13 + t / 4) = false ∨ (s.scrubMasked t f = true ∧ s.passEnd t f = false)) :=
  ⟨0, 3, 2, { flying with molt := { flying.molt with masks := [(0, [0x08])] } }, by decide +kernel⟩

theorem witness_Scrubbing_4a : ∃ (t : Nat) (s : State),
    s.ownStages = false ∧ s.pwr.seqs = [] ∧ s.molt.reloads = [] ∧ s.liveWhere (fun c => bit (s.contractTiles c) t) = [] ∧ (∀ m < s.nMcs, s.mcState m ≠ 3) :=
  ⟨3, flying, by decide +kernel⟩

theorem witness_Scrubbing_4b : ∃ (t : Nat) (s : State),
    s.ownStages = false ∧ s.pwr.seqs = [] ∧ s.molt.reloads = [] ∧ s.liveWhere (fun c => bit (s.contractTiles c) t) = [] ∧ (∀ m < s.nMcs, s.mcState m ≠ 3) :=
  ⟨3, flying.put [(Reg.TICK.STATUS.SLOT, 2000)], by decide +kernel⟩

theorem witness_Scrubbing_5 : ∃ (t k : Nat) (s : State),
    s.molt.reloads = [⟨t, k⟩] ∧ k ≤ s.now :=
  ⟨3, 0, { flying with molt := { flying.molt with reloads := [⟨3, 0⟩] } }, by decide +kernel⟩

theorem witness_Scrubbing_6a : ∃ (t : Nat) (s : State),
    (s.molt.frozen = [(t, true)] ∨ s.molt.frozen = [(t, false)]) :=
  ⟨3, { flying with molt := { flying.molt with frozen := [(3, true)] } }, by decide +kernel⟩

theorem witness_Scrubbing_6b : ∃ (t : Nat) (s : State),
    (s.molt.frozen = [(t, true)] ∨ s.molt.frozen = [(t, false)]) :=
  ⟨3, { flying with molt := { flying.molt with frozen := [(3, false)] } }, by decide +kernel⟩

theorem witness_Scrubbing_7a : ∃ (h : Hdr) (p : List Byte) (t corr rel : Nat) (s u : State),
    s.takes 0x0704 h = true ∧ u = s.stamped h ∧ t = u8 p 0 ∧ (t < u.nTiles ∧ u.domOn (13 + t / 4) = true ∧ corr = u.rd (Reg.SCRUB.TILE.CORR_CNT t) ∧ rel = u.rd (Reg.SCRUB.TILE.RELOAD_CNT t) ∨ t = 0xFF ∧ corr = (List.range u.nTiles).foldl (fun a k => a + u.rd (Reg.SCRUB.TILE.CORR_CNT k)) 0 ∧ rel = (List.range u.nTiles).foldl (fun a k => a + u.rd (Reg.SCRUB.TILE.RELOAD_CNT k)) 0) ∧ zeroFrom p 1 = true :=
  ⟨hdr, [7], 7, 0, 0, flying, _, by decide +kernel, rfl, by decide +kernel, by decide +kernel, by decide +kernel⟩

theorem witness_Scrubbing_7b : ∃ (h : Hdr) (p : List Byte) (t corr rel : Nat) (s u : State),
    s.takes 0x0704 h = true ∧ u = s.stamped h ∧ t = u8 p 0 ∧ (t < u.nTiles ∧ u.domOn (13 + t / 4) = true ∧ corr = u.rd (Reg.SCRUB.TILE.CORR_CNT t) ∧ rel = u.rd (Reg.SCRUB.TILE.RELOAD_CNT t) ∨ t = 0xFF ∧ corr = (List.range u.nTiles).foldl (fun a k => a + u.rd (Reg.SCRUB.TILE.CORR_CNT k)) 0 ∧ rel = (List.range u.nTiles).foldl (fun a k => a + u.rd (Reg.SCRUB.TILE.RELOAD_CNT k)) 0) ∧ zeroFrom p 1 = true :=
  ⟨hdr, [0xFF], 0xFF, 0, 0, flying, _, by decide +kernel, rfl, by decide +kernel, by decide +kernel, by decide +kernel⟩

theorem witness_FabricAndDma_1 : ∃ (k : Nat) (s : State),
    k < s.nFplls ∧ s.domOn 3 = true ∧ s.isSet (Reg.FAB.FPLL_STATUS.EN k) = true :=
  ⟨15, flying.put [(Reg.FAB.FPLL_STATUS.EN 15, 1)], by decide +kernel⟩

theorem witness_FabricAndDma_2 : ∃ (k : Nat) (s : State),
    k < s.nVplls ∧ s.domOn 3 = true ∧ s.rd (Reg.FAB.VPLL_STATUS.K k) ≠ 0 :=
  ⟨3, flying.put [(Reg.FAB.VPLL_STATUS.K 3, 1)], by decide +kernel⟩

theorem witness_FabricAndDma_3 : ∃ (r : FportReq) (s : State),
    r.n < s.nFports ∧ s.domOn 3 = true ∧ r.len % 64 = 0 ∧ 64 ≤ r.len ∧ r.len ≤ 4096 ∧ r.ctx ≠ 0xFFFF ∧ s.onFport r.ctx r.n = false :=
  ⟨{ n := 3, addr := 4096, write := true, ctx := 5 }, flying, by decide +kernel⟩

theorem witness_FabricAndDma_4 : ∃ (r : FportReq) (s : State),
    r.n < s.nFports ∧ s.domOn 3 = true ∧ r.len % 64 = 0 ∧ 64 ≤ r.len ∧ r.len ≤ 4096 ∧ (r.ctx = 0xFFFF ∨ s.onFport r.ctx r.n = true) ∧ r.addr / 2 ^ 16 < 0xFFFFFFFFFFFF ∧ (r.ctx = 0xFFFF ∨ r.write = false ∨ (s.egress (egKey (r.ctx % 4096) (r.ctx / 4096 % 16))).spec = none) :=
  ⟨{ n := 3, addr := 4096, write := true, ctx := 5 }, { flying with led := { flying.led with contracts := [(5, { st := .active, charges := [⟨3, 3, 1, 0, 0⟩] })] } }, by decide +kernel⟩

theorem witness_FabricAndDma_5 : ∃ (r : FportReq) (k : Nat) (s : State),
    r.n < s.nFports ∧ s.domOn 3 = true ∧ r.len % 64 = 0 ∧ 64 ≤ r.len ∧ r.len ≤ 4096 ∧ s.onFport r.ctx r.n = true ∧ r.ctx ≠ 0xFFFF ∧ r.addr / 2 ^ 16 < 0xFFFFFFFFFFFF ∧ k = egKey (r.ctx % 4096) (r.ctx / 4096 % 16) ∧ (s.egress k).spec.isSome = true ∧ r.write = true :=
  ⟨{ n := 3, addr := 4096, write := true, ctx := 5 }, egKey 5 0, { ({ flying with led := { flying.led with contracts := [(5, { st := .active, charges := [⟨3, 3, 1, 0, 0⟩] })] } } : State) with take := { flying.take with egress := [(egKey 5 0, { spec := some (0, 1) })] } }, by decide +kernel⟩

theorem witness_FabricAndDma_6 : ∃ (r : FportReq) (s : State),
    r.n < s.nFports ∧ s.domOn 3 = true ∧ r.len % 64 = 0 ∧ 64 ≤ r.len ∧ r.len ≤ 4096 ∧ r.ctx = 0xFFFF ∧ 0xFFFFFFFFFFFF ≤ r.addr / 2 ^ 16 ∧ r.write = false ∧ lockOff (0x30000 + r.addr % 2 ^ 16) = true ∧ r.addr % 4 = 0 ∧ s.offPresent (0x30000 + r.addr % 2 ^ 16) = true ∧ s.offOn (0x30000 + r.addr % 2 ^ 16) = true :=
  ⟨{ n := 3, addr := 0xFFFFFFFFFFFF0800 }, flying, by decide +kernel⟩

theorem witness_FabricAndDma_7 : ∃ (n a : Nat) (v : Word) (s : State),
    n < s.nFports ∧ s.domOn 3 = true ∧ a < 0x80000 :=
  ⟨3, 8, 7, flying, by decide +kernel⟩

theorem witness_FabricAndDma_8 : ∃ (n a : Nat) (s : State),
    s.strm.fabReads.contains (n, a) = true ∧ s.domOn 3 = true :=
  ⟨3, 8, { flying with strm := { flying.strm with fabReads := [(3, 8)] } }, by decide +kernel⟩

theorem witness_FabricAndDma_9 : ∃ (m e v : Nat) (s : State),
    e < 256 ∧ dmaMaster m e = true ∧ s.offPresent (Reg.DMA.CTX e) = true ∧ s.offOn (Reg.DMA.CTX e) = true :=
  ⟨17, 1, 2, flying, by decide +kernel⟩

theorem witness_FabricAndDma_10 : ∃ (e : Nat) (d : DmaDesc) (rest : List DmaDesc) (s s1 : State),
    s.dmaQueue e = d :: rest ∧ s1 = (s.setDmaQueue e rest).wr (Reg.DMA.STAT.FREE e) (s.rd (Reg.DMA.STAT.FREE e) + 1) :=
  ⟨1, ⟨64, 128, 32, 0, false⟩, [], ({ flying with eng := { flying.eng with dmaq := [(1, [⟨64, 128, 32, 0, false⟩])] } } : State).put [(Reg.MC.ORG.SIZE_GIB 0, 4)], ((({ flying with eng := { flying.eng with dmaq := [(1, [⟨64, 128, 32, 0, false⟩])] } } : State).put [(Reg.MC.ORG.SIZE_GIB 0, 4)]).setDmaQueue 1 []).wr (Reg.DMA.STAT.FREE 1) ((({ flying with eng := { flying.eng with dmaq := [(1, [⟨64, 128, 32, 0, false⟩])] } } : State).put [(Reg.MC.ORG.SIZE_GIB 0, 4)]).rd (Reg.DMA.STAT.FREE 1) + 1), by decide +kernel⟩

theorem witness_FabricAndDma_12 : ∃ (c : FlipFlop) (n : Nat) (async v : Bool) (e : Nets) (edges : Nat),
    c.sr = some (n, async, v) :=
  ⟨{ clk := 0, d := 1, sr := some (2, true, true), q := 3 }, 2, true, true, [(2, true)], 0, by decide +kernel⟩

theorem witness_FabricAndDma_13 : ∃ (c : FlipFlop) (e : Nets) (edges : Nat),
    c.sr = none :=
  ⟨{ clk := 0, d := 1, q := 3 }, [(1, true)], 1, by decide +kernel⟩

theorem witness_FabricAndDma_14 : ∃ (t : TileSt) (m coll : Nat) (a b : LeafPort) (e : Nets) (edges : Nat),
    a.shape = 0 ∧ b.shape = 0 ∧ portWrites a e edges = true ∧ portWord a e = portWord b e ∧ portWrites b e edges = true ∧ bit edges a.clk = true ∧ t.leafWord m (portWord a e) < 2 ^ 40 :=
  ⟨{}, 0, 9, { shape := 0, clk := 0, en := 1, we := 1, addr := [], din := [1], dout := [] }, { shape := 0, clk := 0, en := 1, we := 1, addr := [], din := [2], dout := [] }, [(1, true)], 1, by decide +kernel⟩

theorem witness_FabricAndDma_15 : ∃ (t : TileSt) (m : Nat) (b : LeafPort) (e : Nets) (edges : Nat) (ns : Nets),
    portOn b e edges = true ∧ portWrites b e edges = false :=
  ⟨{}, 0, { shape := 1, clk := 0, en := 1, we := 2, addr := [], din := [], dout := [3] }, [(1, true)], 1, [], by decide +kernel⟩

theorem witness_FabricAndDma_16 : ∃ (c : FrameCfg) (t : TileSt) (m d junk : Nat) (e : Nets),
    1 ≤ c.line ∧ c.line ≤ 8192 ∧ d = bus e c.delay ∧ 1 ≤ d ∧ d ≤ 8192 / c.line ∧ c.rclk = c.wclk :=
  ⟨{ wclk := 0, we := 1, waddr := [], din := [], rclk := 0, re := 1, raddr := [], dout := [], line := 1920, delay := [1] }, {}, 0, 1, 0, [(1, true)], by decide +kernel⟩

theorem witness_FabricAndDma_18 : ∃ (edges junk : Nat) (s u : State) (x : Nat × TileSt),
    x.1 < 56 :=
  ⟨1, 0, flying, flying, (55, {}), by decide +kernel⟩

theorem witness_DramRequests_1 : ∃ (r : DramReq) (m : Nat) (s : State),
    s.dramBad r.addr r.len = false ∧ r.addr % 64 + r.len ≤ 64 ∧ r.len ≠ 0 ∧ m = s.chanOf r.addr ∧ s.mcState m ≠ 3 ∧ (∀ y ∈ (s.mcd m).queue, ¬ (y.ns = r.ns ∧ r.port < y.port)) :=
  ⟨{ port := 3, id := 1, addr := 4100, len := 60 }, 0, flying.put [(Reg.MC.STATUS.STATE 0, 2), (Reg.MC.ORG.SIZE_GIB 0, 4)], by decide +kernel⟩

theorem witness_DramRequests_2 : ∃ (r : DramReq) (s : State),
    s.dramBad r.addr r.len = true ∧ r.len ≠ 0 :=
  ⟨{ port := 3, id := 1, addr := 0, len := 64 }, flying, by decide +kernel⟩

theorem witness_DramRequests_4 : ∃ (m now : Nat) (s : State),
    s.mcLive m = true ∧ s.mcState m = 2 :=
  ⟨0, 500, ({ flying with dram := { flying.dram with mcs := [(0, { queue := [{ port := 3, id := 7, line := 2, off := 0, len := 64, write := true, data := [], cls := 2, keep := false, ns := 100 }] })] } } : State).put [(Reg.MC.STATUS.STATE 0, 2), (Reg.MC.ORG.SIZE_GIB 0, 4)], by decide +kernel⟩

theorem witness_DramRequests_5 : ∃ (m now : Nat) (s : State),
    s.mcLive m = true ∧ s.mcState m = 2 ∧ s.fallback m = false :=
  ⟨0, 500, flying.put [(Reg.MC.STATUS.STATE 0, 2), (Reg.MC.ORG.SIZE_GIB 0, 4)], by decide +kernel⟩

theorem witness_DramRequests_6 : ∃ (m now : Nat) (x : DLine) (s : State),
    (s.mcd m).queue = [x] ∧ x.prom = false ∧ x.issued = false ∧ s.subOf (x.line * 64) = 0 ∧ x.ns + s.rd (Reg.MC.AGE.AGE_LIMIT m) < now ∧ (s.mcd m).promA = none :=
  ⟨0, 100000, { port := 3, id := 7, line := 2, off := 0, len := 64, write := true, data := [], cls := 2, keep := false, ns := 100 }, ({ flying with dram := { flying.dram with mcs := [(0, { queue := [{ port := 3, id := 7, line := 2, off := 0, len := 64, write := true, data := [], cls := 2, keep := false, ns := 100 }] })] } } : State).put [(Reg.MC.STATUS.STATE 0, 2), (Reg.MC.ORG.SIZE_GIB 0, 4)], by decide +kernel⟩

theorem witness_DramRequests_7 : ∃ (m sub now : Nat) (allowed : List (Nat × Nat)) (s : State),
    s.mcLive m = true ∧ s.mcState m = 2 ∧ (s.mcd m).pause ≠ some sub :=
  ⟨0, 0, 0, [], flying.put [(Reg.MC.STATUS.STATE 0, 2), (Reg.MC.ORG.SIZE_GIB 0, 4)], by decide +kernel⟩

theorem witness_DramRequests_9 : ∃ (l : List DLine) (x : DLine),
    pickBy DLine.before l = some x :=
  ⟨[{ port := 3, id := 7, line := 2, off := 0, len := 64, write := true, data := [], cls := 2, keep := false, ns := 100 }], { port := 3, id := 7, line := 2, off := 0, len := 64, write := true, data := [], cls := 2, keep := false, ns := 100 }, by decide +kernel⟩

theorem witness_DramRequests_10 : ∃ (m : Nat) (x : DLine) (s : State),
    (s.mcd m).rows = [] :=
  ⟨0, { port := 3, id := 7, line := 2, off := 0, len := 64, write := true, data := [], cls := 2, keep := false, ns := 100 }, flying.put [(Reg.MC.STATUS.STATE 0, 2), (Reg.MC.ORG.SIZE_GIB 0, 4)], by decide +kernel⟩

theorem witness_DramRequests_11 : ∃ (m row : Nat) (x : DLine) (s : State),
    (s.mcd m).rows = [(s.subOf (x.line * 64) + 2 * s.bankOf (x.line * 64), row)] ∧ row ≠ s.rowOf (x.line * 64) :=
  ⟨0, 9, { port := 3, id := 7, line := 2, off := 0, len := 64, write := true, data := [], cls := 2, keep := false, ns := 100 }, ({ flying with dram := { flying.dram with mcs := [(0, { rows := [(0, 9)] })] } } : State).put [(Reg.MC.STATUS.STATE 0, 2), (Reg.MC.ORG.SIZE_GIB 0, 4)], by decide +kernel⟩

theorem witness_DramRequests_12 : ∃ (m : Nat) (x : DLine) (s : State),
    (s.mcd m).rows = [(s.subOf (x.line * 64) + 2 * s.bankOf (x.line * 64), s.rowOf (x.line * 64))] ∧ (s.mcd m).queue = [x] ∧ s.subOf (x.line * 64) = 0 :=
  ⟨0, { port := 3, id := 7, line := 2, off := 0, len := 64, write := true, data := [], cls := 2, keep := false, ns := 100 }, ({ flying with dram := { flying.dram with mcs := [(0, { rows := [(0, 0)], queue := [{ port := 3, id := 7, line := 2, off := 0, len := 64, write := true, data := [], cls := 2, keep := false, ns := 100 }] })] } } : State).put [(Reg.MC.STATUS.STATE 0, 2), (Reg.MC.ORG.SIZE_GIB 0, 4)], by decide +kernel⟩

theorem witness_DramRequests_13 : ∃ (m id line now : Nat) (x : DLine) (s : State),
    (s.mcd m).queue = [x] ∧ x.id = id ∧ x.line = line ∧ x.issued = true ∧ x.mute = false :=
  ⟨0, 7, 2, 200, { port := 3, id := 7, line := 2, off := 0, len := 64, write := true, data := [], cls := 2, keep := false, ns := 100, issued := true }, ({ flying with dram := { flying.dram with mcs := [(0, { queue := [{ port := 3, id := 7, line := 2, off := 0, len := 64, write := true, data := [], cls := 2, keep := false, ns := 100, issued := true }] })] } } : State).put [(Reg.MC.STATUS.STATE 0, 2), (Reg.MC.ORG.SIZE_GIB 0, 4)], by decide +kernel⟩

theorem witness_DramRequests_14 : ∃ (m id line now : Nat) (x : DLine) (s : State),
    (s.mcd m).queue = [x] ∧ x.id = id ∧ x.line = line ∧ x.issued = true ∧ x.mute = true ∧ x.write = false ∧ x.cls ≠ 2 :=
  ⟨0, 7, 2, 200, { port := 3, id := 7, line := 2, off := 0, len := 64, write := false, data := [], cls := 0, keep := false, ns := 100, issued := true, mute := true, src := 4 }, ({ flying with dram := { flying.dram with mcs := [(0, { queue := [{ port := 3, id := 7, line := 2, off := 0, len := 64, write := false, data := [], cls := 0, keep := false, ns := 100, issued := true, mute := true, src := 4 }] })] } } : State).put [(Reg.MC.STATUS.STATE 0, 2), (Reg.MC.ORG.SIZE_GIB 0, 4)], by decide +kernel⟩

theorem witness_DramMaintenance_1a : ∃ (m : Nat) (s : State),
    s.mcLive m = true ∧ s.mcState m = 2 :=
  ⟨0, flying.put [(Reg.MC.STATUS.STATE 0, 2), (Reg.MC.ORG.SIZE_GIB 0, 4)], by decide +kernel⟩

theorem witness_DramMaintenance_1b : ∃ (m : Nat) (s : State),
    s.mcLive m = true ∧ s.mcState m = 2 :=
  ⟨0, ({ flying with dram := { flying.dram with mcs := [(0, { pause := some 1 })] } } : State).put [(Reg.MC.STATUS.STATE 0, 2), (Reg.MC.ORG.SIZE_GIB 0, 4)], by decide +kernel⟩

theorem witness_DramMaintenance_2 : ∃ (m : Nat) (hot : List Bool) (hi : Bool) (s : State),
    s.mcLive m = true ∧ s.mcState m = 2 :=
  ⟨0, [false, true], true, flying.put [(Reg.MC.STATUS.STATE 0, 2), (Reg.MC.ORG.SIZE_GIB 0, 4)], by decide +kernel⟩

theorem witness_DramMaintenance_3 : ∃ (m t0 t1 : Nat) (hi : Bool) (s : State),
    m < s.nMcs ∧ s.domOn 4 = true :=
  ⟨0, 40, 41, true, flying.put [(Reg.MC.STATUS.STATE 0, 2), (Reg.MC.ORG.SIZE_GIB 0, 4)], by decide +kernel⟩

theorem witness_DramMaintenance_4 : ∃ (m sub : Nat) (s : State),
    s.mcLive m = true ∧ s.mcState m = 2 ∧ sub < 2 ∧ s.slot = 1024 ∧ s.now % 64 = 2 * m + sub ∧ (s.mcd m).pause = none :=
  ⟨0, 1, (({ flying.put [(Reg.MC.STATUS.STATE 0, 2), (Reg.MC.ORG.SIZE_GIB 0, 4)] with tick := { flying.tick with num := 65 } } : State)).put [(Reg.TICK.STATUS.SLOT, 1024)], by decide +kernel⟩

theorem witness_DramMaintenance_5a : ∃ (m sub dur : Nat) (ok : Bool) (s : State),
    (s.mcd m).pause = some sub ∧ (s.mcd m).refDue = 0 :=
  ⟨0, 0, 9, true, ({ flying with dram := { flying.dram with mcs := [(0, { pause := some 0 })] } } : State).put [(Reg.MC.STATUS.STATE 0, 2), (Reg.MC.ORG.SIZE_GIB 0, 4)], by decide +kernel⟩

theorem witness_DramMaintenance_5b : ∃ (m sub dur : Nat) (ok : Bool) (s : State),
    (s.mcd m).pause = some sub ∧ (s.mcd m).refDue = 0 :=
  ⟨0, 1, 300, false, ({ flying with dram := { flying.dram with mcs := [(0, { pause := some 1 })] } } : State).put [(Reg.MC.STATUS.STATE 0, 2), (Reg.MC.ORG.SIZE_GIB 0, 4)], by decide +kernel⟩

theorem witness_DramMaintenance_6 : ∃ (m : Nat) (s : State),
    m < s.nMcs ∧ s.domOn 4 = true ∧ s.mcState m = 2 :=
  ⟨0, flying.put [(Reg.MC.STATUS.STATE 0, 2), (Reg.MC.ORG.SIZE_GIB 0, 4)], by decide +kernel⟩

theorem witness_DramMaintenance_7 : ∃ (m : Nat) (s : State),
    s.mcLive m = true ∧ s.mcState m = 2 ∧ s.isSet (Reg.MC.CFG.SR_AUTO m) = true ∧ (s.mcd m).queue = [] ∧ s.dramDemand = false :=
  ⟨0, flying.put [(Reg.MC.STATUS.STATE 0, 2), (Reg.MC.ORG.SIZE_GIB 0, 4), (Reg.MC.CFG.SR_AUTO 0, 1)], by decide +kernel⟩

theorem witness_DramMaintenance_8 : ∃ (m : Nat) (s : State),
    s.mcLive m = true ∧ s.mcState m = 2 ∧ s.isSet (Reg.MC.STATUS.SR_PEND m) = true ∧ (s.mcd m).queue = [] ∧ s.dramDemand = false :=
  ⟨0, flying.put [(Reg.MC.STATUS.STATE 0, 2), (Reg.MC.ORG.SIZE_GIB 0, 4), (Reg.MC.STATUS.SR_PEND 0, 1)], by decide +kernel⟩

theorem witness_DramMaintenance_9 : ∃ (m now : Nat) (s : State),
    s.mcLive m = true ∧ s.mcState m = 3 ∧ (s.isSet (Reg.MC.STATUS.SR_PEND m) = true ∨ s.dramDemand = true) :=
  ⟨0, 5, flying.put [(Reg.MC.STATUS.STATE 0, 3), (Reg.MC.STATUS.SR_PEND 0, 1)], by decide +kernel⟩

theorem witness_DramMaintenance_10a : ∃ (m : Nat) (v : Bool) (s : State),
    m < s.nMcs ∧ s.domOn 4 = true :=
  ⟨0, true, flying, by decide +kernel⟩

theorem witness_DramMaintenance_10b : ∃ (m : Nat) (v : Bool) (s : State),
    m < s.nMcs ∧ s.domOn 4 = true :=
  ⟨0, true, flying.put [(Reg.MODE.STATUS.MODE, 3)], by decide +kernel⟩

theorem witness_DramMaintenance_11 : ∃ (m : Nat) (s : State),
    s.mcLive m = true :=
  ⟨0, flying.put [(Reg.MC.STATUS.STATE 0, 2), (Reg.MC.ORG.SIZE_GIB 0, 4)], by decide +kernel⟩

theorem witness_DramMaintenance_12 : ∃ (m : Nat) (s : State),
    (s.mcd m).parity = true :=
  ⟨0, ({ flying with dram := { flying.dram with mcs := [(0, { parity := true })] } } : State).put [(Reg.MC.STATUS.STATE 0, 2), (Reg.MC.ORG.SIZE_GIB 0, 4)], by decide +kernel⟩

theorem witness_FaultsAndBuckets_1 : ∃ (h : Hdr) (p : List Byte) (s t : State),
    s.takes 0x0104 h = true ∧ t = s.stamped h ∧ zeroFrom p 12 = true ∧ h.spiBad (u64 p 0) (u32 p 8) = false ∧ 32 * t.integ.recs.length ≤ u32 p 8 :=
  ⟨hdr, toLe 8 4096 ++ toLe 4 64, { flying with integ := { flying.integ with recs := [⟨1, 2, 3, 0, 0, 64, 0⟩] } }, _, by decide +kernel, rfl, by decide +kernel, by decide +kernel, by decide +kernel⟩

theorem witness_FaultsAndBuckets_2 : ∃ (h : Hdr) (p : List Byte) (s u : State),
    s.takes 0x0105 h = true ∧ u = s.stamped h ∧ u8 p 0 ≤ 3 ∧ zeroFrom p 1 = true :=
  ⟨hdr, [3], flying, _, by decide +kernel, rfl, by decide +kernel, by decide +kernel⟩

theorem witness_FaultsAndBuckets_3 : ∃ (h : Hdr) (p : List Byte) (b : Nat) (s t : State),
    s.takes 0x0802 h = true ∧ t = s.stamped h ∧ b = u8 p 0 ∧ b < 94 ∧ (t.bucketUnit b).1 = true ∧ t.bucketPowered b = true ∧ zeroFrom p 1 = true :=
  ⟨hdr, [93], 93, flying, _, by decide +kernel, rfl, by decide +kernel, by decide +kernel, by decide +kernel, by decide +kernel, by decide +kernel⟩

theorem witness_FaultsAndBuckets_4 : ∃ (h : Hdr) (p : List Byte) (s t : State),
    s.takes 0x0802 h = true ∧ t = s.stamped h ∧ u8 p 0 = 254 ∧ t.domOn 1 = true ∧ zeroFrom p 1 = true :=
  ⟨hdr, [254], flying, _, by decide +kernel, rfl, by decide +kernel, by decide +kernel, by decide +kernel⟩

theorem witness_FaultsAndBuckets_5 : ∃ (h : Hdr) (p : List Byte) (b : Nat) (s t : State),
    s.takes 0x0803 h = true ∧ t = s.stamped h ∧ b = u8 p 0 ∧ b < 94 ∧ (t.bucketUnit b).1 = true ∧ u8 p 1 ≤ 1 ∧ zeroFrom p 6 = true :=
  ⟨hdr, [93, 1, 5], 93, flying, _, by decide +kernel, rfl, by decide +kernel, by decide +kernel, by decide +kernel, by decide +kernel, by decide +kernel⟩

theorem witness_FaultsAndBuckets_6 : ∃ (b thr leak : Nat) (s : State),
    0 < thr ∧ thr < 65536 ∧ 0 < leak ∧ leak < 65536 ∧ b < 94 :=
  ⟨93, 5, 10, flying, by decide +kernel⟩

theorem witness_FaultsAndBuckets_7 : ∃ (b n addr : Nat) (s : State),
    b < 94 ∧ (s.bucketUnit b).1 = true ∧ (s.mcd b).queue = [] :=
  ⟨5, 1, 64, flying, by decide +kernel⟩

theorem witness_FaultsAndBuckets_8 : ∃ (b n addr : Nat) (s : State),
    b < 94 ∧ n ≤ 255 :=
  ⟨5, 1, 64, flying, by decide +kernel⟩

theorem witness_FaultsAndBuckets_10 : ∃ (b : Nat) (s : State),
    b < 94 ∧ (s.bucketUnit b).1 = true :=
  ⟨93, flying, by decide +kernel⟩

theorem witness_FaultsAndBuckets_11 : ∃ (errs : List (Nat × Nat × Nat × Nat)) (e : Nat × Nat × Nat × Nat) (s : State),
    worst ((errs.filter (fun x => decide (1 ≤ x.1 ∧ x.1 ≤ 7))).map errOf) = some e :=
  ⟨[(3, 2, 64, 1), (3, 1, 0, 0), (0x10, 0, 0, 0)], (3, 1, 0, 0), flying, by decide +kernel⟩

theorem witness_FaultsAndBuckets_12 : ∃ (m a : Nat) (fix : Bool) (s : State),
    s.mcLive m = true ∧ s.mcState m = 2 ∧ s.patrolNext m (s.mcd m).patrol = some a :=
  ⟨0, 0x1000000, true, flying.put [(Reg.MC.STATUS.STATE 0, 2), (Reg.PMAP.REG_LO.EN 3, 1), (Reg.PMAP.REG_LO.CODE 3, 1), (Reg.PMAP.REG_LO.STATE 3, 2), (Reg.PMAP.REG_LO.BASE 3, 1), (Reg.PMAP.REG_HI.SIZE 3, 1)], by decide +kernel⟩

theorem witness_ProtectionMap_1a : ∃ (h : Hdr) (p : List Byte) (r kid base size : Nat) (en strong integ : Bool) (s t : State),
    s.takes 0x0801 h = true ∧ t = s.stamped h ∧ r = u8 p 0 ∧ kid = u8 p 2 ∧ base = u64 p 8 ∧ size = u64 p 16 ∧ en = bit (u8 p 1) 0 ∧ strong = bit (u8 p 1) 1 ∧ integ = bit (u8 p 1) 2 ∧ (t.hasIme = true ∨ (integ = false ∧ kid = 0)) ∧ t.domOn 4 = true ∧ r ≤ 62 ∧ u8 p 1 ≤ 7 ∧ kid ≤ 15 ∧ zeroAt p 3 5 = true ∧ zeroFrom p 24 = true ∧ (en = false ∨ (base % 2 ^ 24 = 0 ∧ size % 2 ^ 24 = 0 ∧ size ≠ 0 ∧ base + size ≤ t.dramSize ∧ (∀ q, q < 64 → q ≠ r → t.inRegion q base size = false) ∧ t.demandIn base (base + size) = false)) ∧ (en = false ∨ ((integ = false ∨ strong = false) ∧ (kid = 0 ∨ integ = true) ∧ (r ≠ 62 ∨ (strong = true ∧ kid = 0 ∧ integ = false)))) ∧ t.rd (Reg.PMAP.REG_LO.STATE r) ≠ 1 ∧ (t.isSet (Reg.PMAP.REG_LO.EN r) = false ∨ t.demandIn (t.rd (Reg.PMAP.REG_LO.BASE r) * 2 ^ 24) (t.rd (Reg.PMAP.REG_LO.BASE r) * 2 ^ 24 + t.rd (Reg.PMAP.REG_HI.SIZE r) * 2 ^ 24) = false) ∧ (en = false ∨ kid = 0 ∨ (t.isSet (Reg.PMAP.REG_LO.EN 62) = true ∧ (t.sec.keys.any (fun k => k.1 == kid)) = true ∧ ceilDiv (ceilDiv ((if t.isSet (Reg.PMAP.REG_LO.EN r) && t.rd (Reg.PMAP.REG_LO.KID r) != 0 then t.keyedBytes - t.rd (Reg.PMAP.REG_HI.SIZE r) * 2 ^ 24 else t.keyedBytes) + size) 7) (2 ^ 24) ≤ t.rd (Reg.PMAP.REG_HI.SIZE 62))) ∧ (r ≠ 62 ∨ t.keyedBytes = 0) :=
  ⟨hdr, [3, 3, 0, 0, 0, 0, 0, 0] ++ toLe 8 0x1000000 ++ toLe 8 0x2000000, 3, 0, 0x1000000, 0x2000000, true, true, false, flying.put [(Reg.MC.ORG.SIZE_GIB 0, 4), (Reg.MC.ORG.SIZE_GIB 1, 4), (Reg.MC.ORG.SIZE_GIB 2, 4), (Reg.MC.ORG.SIZE_GIB 3, 4)], _, by decide +kernel, rfl, by decide +kernel, by decide +kernel, by decide +kernel, by decide +kernel, by decide +kernel, by decide +kernel, by decide +kernel, by decide +kernel, by decide +kernel, by decide +kernel, by decide +kernel, by decide +kernel, by decide +kernel, by decide +kernel, by decide +kernel⟩

theorem witness_ProtectionMap_1b : ∃ (h : Hdr) (p : List Byte) (r kid base size : Nat) (en strong integ : Bool) (s t : State),
    s.takes 0x0801 h = true ∧ t = s.stamped h ∧ r = u8 p 0 ∧ kid = u8 p 2 ∧ base = u64 p 8 ∧ size = u64 p 16 ∧ en = bit (u8 p 1) 0 ∧ strong = bit (u8 p 1) 1 ∧ integ = bit (u8 p 1) 2 ∧ (t.hasIme = true ∨ (integ = false ∧ kid = 0)) ∧ t.domOn 4 = true ∧ r ≤ 62 ∧ u8 p 1 ≤ 7 ∧ kid ≤ 15 ∧ zeroAt p 3 5 = true ∧ zeroFrom p 24 = true ∧ (en = false ∨ (base % 2 ^ 24 = 0 ∧ size % 2 ^ 24 = 0 ∧ size ≠ 0 ∧ base + size ≤ t.dramSize ∧ (∀ q, q < 64 → q ≠ r → t.inRegion q base size = false) ∧ t.demandIn base (base + size) = false)) ∧ (en = false ∨ ((integ = false ∨ strong = false) ∧ (kid = 0 ∨ integ = true) ∧ (r ≠ 62 ∨ (strong = true ∧ kid = 0 ∧ integ = false)))) ∧ t.rd (Reg.PMAP.REG_LO.STATE r) ≠ 1 ∧ (t.isSet (Reg.PMAP.REG_LO.EN r) = false ∨ t.demandIn (t.rd (Reg.PMAP.REG_LO.BASE r) * 2 ^ 24) (t.rd (Reg.PMAP.REG_LO.BASE r) * 2 ^ 24 + t.rd (Reg.PMAP.REG_HI.SIZE r) * 2 ^ 24) = false) ∧ (en = false ∨ kid = 0 ∨ (t.isSet (Reg.PMAP.REG_LO.EN 62) = true ∧ (t.sec.keys.any (fun k => k.1 == kid)) = true ∧ ceilDiv (ceilDiv ((if t.isSet (Reg.PMAP.REG_LO.EN r) && t.rd (Reg.PMAP.REG_LO.KID r) != 0 then t.keyedBytes - t.rd (Reg.PMAP.REG_HI.SIZE r) * 2 ^ 24 else t.keyedBytes) + size) 7) (2 ^ 24) ≤ t.rd (Reg.PMAP.REG_HI.SIZE 62))) ∧ (r ≠ 62 ∨ t.keyedBytes = 0) :=
  ⟨hdr, [3, 5, 2, 0, 0, 0, 0, 0] ++ toLe 8 0x1000000 ++ toLe 8 0x2000000, 3, 2, 0x1000000, 0x2000000, true, false, true, ({ flying with ident := { flying.ident with variant := 1 }, sec := { flying.sec with keys := [(2, 0)] } } : State).put [(Reg.MC.ORG.SIZE_GIB 0, 4), (Reg.MC.ORG.SIZE_GIB 1, 4), (Reg.MC.ORG.SIZE_GIB 2, 4), (Reg.MC.ORG.SIZE_GIB 3, 4), (Reg.PMAP.REG_LO.EN 62, 1), (Reg.PMAP.REG_LO.BASE 62, 16), (Reg.PMAP.REG_HI.SIZE 62, 16)], _, by decide +kernel, rfl, by decide +kernel, by decide +kernel, by decide +kernel, by decide +kernel, by decide +kernel, by decide +kernel, by decide +kernel, by decide +kernel, by decide +kernel, by decide +kernel, by decide +kernel, by decide +kernel, by decide +kernel, by decide +kernel, by decide +kernel⟩

theorem witness_ProtectionMap_1c : ∃ (h : Hdr) (p : List Byte) (r kid base size : Nat) (en strong integ : Bool) (s t : State),
    s.takes 0x0801 h = true ∧ t = s.stamped h ∧ r = u8 p 0 ∧ kid = u8 p 2 ∧ base = u64 p 8 ∧ size = u64 p 16 ∧ en = bit (u8 p 1) 0 ∧ strong = bit (u8 p 1) 1 ∧ integ = bit (u8 p 1) 2 ∧ (t.hasIme = true ∨ (integ = false ∧ kid = 0)) ∧ t.domOn 4 = true ∧ r ≤ 62 ∧ u8 p 1 ≤ 7 ∧ kid ≤ 15 ∧ zeroAt p 3 5 = true ∧ zeroFrom p 24 = true ∧ (en = false ∨ (base % 2 ^ 24 = 0 ∧ size % 2 ^ 24 = 0 ∧ size ≠ 0 ∧ base + size ≤ t.dramSize ∧ (∀ q, q < 64 → q ≠ r → t.inRegion q base size = false) ∧ t.demandIn base (base + size) = false)) ∧ (en = false ∨ ((integ = false ∨ strong = false) ∧ (kid = 0 ∨ integ = true) ∧ (r ≠ 62 ∨ (strong = true ∧ kid = 0 ∧ integ = false)))) ∧ t.rd (Reg.PMAP.REG_LO.STATE r) ≠ 1 ∧ (t.isSet (Reg.PMAP.REG_LO.EN r) = false ∨ t.demandIn (t.rd (Reg.PMAP.REG_LO.BASE r) * 2 ^ 24) (t.rd (Reg.PMAP.REG_LO.BASE r) * 2 ^ 24 + t.rd (Reg.PMAP.REG_HI.SIZE r) * 2 ^ 24) = false) ∧ (en = false ∨ kid = 0 ∨ (t.isSet (Reg.PMAP.REG_LO.EN 62) = true ∧ (t.sec.keys.any (fun k => k.1 == kid)) = true ∧ ceilDiv (ceilDiv ((if t.isSet (Reg.PMAP.REG_LO.EN r) && t.rd (Reg.PMAP.REG_LO.KID r) != 0 then t.keyedBytes - t.rd (Reg.PMAP.REG_HI.SIZE r) * 2 ^ 24 else t.keyedBytes) + size) 7) (2 ^ 24) ≤ t.rd (Reg.PMAP.REG_HI.SIZE 62))) ∧ (r ≠ 62 ∨ t.keyedBytes = 0) :=
  ⟨hdr, [62], 62, 0, 0, 0, false, false, false, flying, _, by decide +kernel, rfl, by decide +kernel, by decide +kernel, by decide +kernel, by decide +kernel, by decide +kernel, by decide +kernel, by decide +kernel, by decide +kernel, by decide +kernel, by decide +kernel, by decide +kernel, by decide +kernel, by decide +kernel, by decide +kernel, by decide +kernel⟩

theorem witness_ProtectionMap_2 : ∃ (r kid base size st : Nat) (en strong integ : Bool) (s : State),
    r < 64 ∧ kid < 16 ∧ base / 2 ^ 24 < 2 ^ 18 ∧ size / 2 ^ 24 < 2 ^ 18 ∧ st < 4 :=
  ⟨63, 0, 0x1000000, 0x2000000, 1, true, true, false, flying, by decide +kernel⟩

theorem witness_ProtectionMap_3 : ∃ (r a n : Nat) (s : State),
    r < 64 ∧ s.rd (Reg.PMAP.REG_LO.STATE r) = 1 ∧ s.inRegion r a n = true :=
  ⟨3, 0x1000000, 64, flying.put [(Reg.PMAP.REG_LO.EN 3, 1), (Reg.PMAP.REG_LO.STATE 3, 1), (Reg.PMAP.REG_LO.BASE 3, 1), (Reg.PMAP.REG_HI.SIZE 3, 2)], by decide +kernel⟩

theorem witness_ProtectionMap_4 : ∃ (r lo hi : Nat) (s : State),
    r < 64 ∧ s.rd (Reg.PMAP.REG_LO.STATE r) = 1 ∧ lo = s.rd (Reg.PMAP.REG_LO.BASE r) * 2 ^ 24 ∧ hi = lo + s.rd (Reg.PMAP.REG_HI.SIZE r) * 2 ^ 24 :=
  ⟨3, 0x1000000, 0x3000000, flying.put [(Reg.PMAP.REG_LO.EN 3, 1), (Reg.PMAP.REG_LO.STATE 3, 1), (Reg.PMAP.REG_LO.BASE 3, 1), (Reg.PMAP.REG_HI.SIZE 3, 2)], by decide +kernel⟩

theorem witness_KeysAndCounters_1 : ∃ (h : Hdr) (p : List Byte) (kid key : Nat) (s t : State),
    s.takes 0x0901 h = true ∧ t = s.stamped h ∧ u8 p 0 = 1 ∧ kid = u8 p 1 ∧ 1 ≤ kid ∧ kid ≤ 15 ∧ u8 p 2 ≤ 1 ∧ u8 p 3 = 0 ∧ zeroFrom p 48 = true ∧ keyOf (bit (u8 p 2) 0) ((fitTo 48 p).drop 8) = some key ∧ t.hasIme = true ∧ t.domOn 2 = true ∧ (u8 p 2 = 1 ∨ t.ident.noPlain = false) ∧ t.sec.keys.any (fun k => k.1 == kid) = false :=
  ⟨hdr, [1, 3, 0, 0, 0, 0, 0, 0] ++ toLe 40 77, 3, 77, flying, _, by decide +kernel, rfl, by decide +kernel, by decide +kernel, by decide +kernel, by decide +kernel, by decide +kernel, by decide +kernel, by decide +kernel, by decide +kernel, by decide +kernel, by decide +kernel, by decide +kernel⟩

theorem witness_KeysAndCounters_2 : ∃ (h : Hdr) (p : List Byte) (kid : Nat) (s t : State),
    s.takes 0x0901 h = true ∧ t = s.stamped h ∧ u8 p 0 = 1 ∧ kid = u8 p 1 ∧ 1 ≤ kid ∧ kid ≤ 15 ∧ u8 p 2 = 2 ∧ u8 p 3 = 0 ∧ zeroFrom p 8 = true ∧ zeroFrom p 48 = true ∧ t.hasIme = true ∧ t.domOn 2 = true ∧ t.sec.keys.any (fun k => k.1 == kid) = false :=
  ⟨hdr, [1, 3, 2], 3, flying, _, by decide +kernel, rfl, by decide +kernel, by decide +kernel, by decide +kernel, by decide +kernel, by decide +kernel, by decide +kernel, by decide +kernel, by decide +kernel, by decide +kernel, by decide +kernel⟩

theorem witness_KeysAndCounters_3 : ∃ (h : Hdr) (p : List Byte) (k key : Nat) (s t : State),
    s.takes 0x0901 h = true ∧ t = s.stamped h ∧ u8 p 0 = 2 ∧ k = u8 p 1 ∧ k ≤ 5 ∧ u8 p 2 ≤ 1 ∧ u8 p 3 = 0 ∧ zeroFrom p 48 = true ∧ keyOf (bit (u8 p 2) 0) ((fitTo 48 p).drop 8) = some key ∧ t.domOn 2 = true ∧ (u8 p 2 = 1 ∨ t.ident.noPlain = false) ∧ (t.link k).filled = false ∧ (t.link k).switch = none :=
  ⟨hdr, [2, 3, 0, 0, 0, 0, 0, 0] ++ toLe 40 77, 3, 77, flying, _, by decide +kernel, rfl, by decide +kernel, by decide +kernel, by decide +kernel, by decide +kernel, by decide +kernel, by decide +kernel, by decide +kernel, by decide +kernel, by decide +kernel, by decide +kernel, by decide +kernel⟩

theorem witness_KeysAndCounters_4 : ∃ (k t ph : Nat) (s : State),
    (s.link k).switch = some (t, ph) ∧ t ≤ s.now :=
  ⟨3, 0, 1, flying.updLink 3 (fun d => { d with switch := some (0, 1) }), by decide +kernel⟩

theorem witness_KeysAndCounters_5 : ∃ (h : Hdr) (p : List Byte) (k : Nat) (s t : State),
    s.takes 0x0902 h = true ∧ t = s.stamped h ∧ k = u8 p 0 ∧ 1 ≤ k ∧ k ≤ 15 ∧ zeroFrom p 1 = true ∧ t.hasIme = true ∧ t.domOn 2 = true ∧ t.sec.keys.any (fun x => x.1 == k) = true ∧ (∀ r, r < 64 → t.isSet (Reg.PMAP.REG_LO.EN r) = true → t.rd (Reg.PMAP.REG_LO.KID r) ≠ k) :=
  ⟨hdr, [3], 3, { flying with sec := { flying.sec with keys := [(3, 77)] } }, _, by decide +kernel, rfl, by decide +kernel, by decide +kernel, by decide +kernel, by decide +kernel, by decide +kernel, by decide +kernel, by decide +kernel⟩

theorem witness_KeysAndCounters_6 : ∃ (kid key : Nat) (s : State),
    kid ≤ 15 :=
  ⟨15, 7, flying, by decide +kernel⟩

theorem witness_KeysAndCounters_7 : ∃ (line : Nat) (s : State),
    s.hasIme = true ∧ s.keyed (line * 64) = true ∧ s.resident 0 (line / 8) = false :=
  ⟨0x40000, flying.put [(Reg.MC.ORG.SIZE_GIB 0, 4), (Reg.PMAP.REG_LO.EN 3, 1), (Reg.PMAP.REG_LO.KID 3, 2), (Reg.PMAP.REG_LO.BASE 3, 1), (Reg.PMAP.REG_HI.SIZE 3, 1)], by decide +kernel⟩

theorem witness_KeysAndCounters_8 : ∃ (level idx : Nat) (dirty : Bool) (s : State),
    s.dram.cache = [((level, idx), dirty), ((level + 1, idx / 8), false)] :=
  ⟨0, 9, true, { flying with dram := { flying.dram with cache := [((0, 9), true), ((1, 1), false)] } }, by decide +kernel⟩

theorem witness_KeysAndCounters_9 : ∃ (ch detail addr : Nat) (s : State),
    s.hasIme = true ∧ 1 ≤ detail ∧ detail ≤ 3 ∧ s.pwr.hold = .none :=
  ⟨3, 2, 64, flying, by decide +kernel⟩

theorem witness_KeysAndCounters_10 : ∃ (l : Nat) (b : Byte) (s : State),
    s.keyed (l * 64) = true ∧ SMap.get (fun _ => 0) s.dram.ctrs l = 2 ^ 64 - 1 :=
  ⟨0x40000, 1, { (flying.put [(Reg.MC.ORG.SIZE_GIB 0, 4), (Reg.PMAP.REG_LO.EN 3, 1), (Reg.PMAP.REG_LO.KID 3, 2), (Reg.PMAP.REG_LO.BASE 3, 1), (Reg.PMAP.REG_HI.SIZE 3, 1)]) with dram := { flying.dram with ctrs := [(0x40000, 2 ^ 64 - 1)] } }, by decide +kernel⟩

theorem witness_MacsecAndDebugLevels_1 : ∃ (h : Hdr) (p d : List Byte) (key : Nat) (a : Sa) (s t : State),
    s.takes 0x0905 h = true ∧ t = s.stamped h ∧ t.readBuf h (u64 p 0) 96 = some d ∧ u32 p 8 = 96 ∧ zeroFrom p 12 = true ∧ u16 d 0 < 100 ∧ t.portPresent (u16 d 0) = true ∧ t.ethPort (u16 d 0) = true ∧ t.domOn 2 = true ∧ t.domOn 3 = true ∧ u8 d 2 ≤ 1 ∧ u8 d 3 ≤ 3 ∧ u8 d 4 ≤ 3 ∧ (u8 d 2 = 0 ∨ u8 d 4 = 0) ∧ u8 d 5 ≤ 1 ∧ u8 d 6 ≤ 7 ∧ bit (u8 d 6) 0 = false ∧ u8 d 7 = 0 ∧ zeroAt d 92 4 = true ∧ keyOf (bit (u8 d 6) 1) ((d.drop 40).take 40) = some key ∧ h.spiBad (u64 p 0) 96 = false ∧ a = parseSa d key (effTick (u64 d 80) (t.now + 1)).1 ∧ (t.sec.sas.filter (fun x => !(x.sameChan a && x.an == a.an))).countP (fun x => x.sameChan a) < 2 :=
  ⟨hdr, toLe 8 0 ++ toLe 4 96, ([5, 0, 0, 1, 0, 0, 4, 0] ++ toLe 8 7 ++ toLe 4 0 ++ toLe 12 0 ++ toLe 8 1 ++ toLe 40 9 ++ toLe 8 0 ++ toLe 4 10 ++ toLe 4 0), 9, parseSa ([5, 0, 0, 1, 0, 0, 4, 0] ++ toLe 8 7 ++ toLe 4 0 ++ toLe 12 0 ++ toLe 8 1 ++ toLe 40 9 ++ toLe 8 0 ++ toLe 4 10 ++ toLe 4 0) 9 1, { { flying with strm := { flying.strm with ports := [(5, { kind := 3 })] }, sec := { flying.sec with sas := [{ port := 5, tx := false, sc := 0, an := 1, sci := 7, ssci := 0, salt := 0, xpn := false, replay := true, window := 10, pn := 100, low := 1, key := 3, tick := 0, used := false, dead := false }] } } with hostMem := Memory.writeN [] 0 ([5, 0, 0, 1, 0, 0, 4, 0] ++ toLe 8 7 ++ toLe 4 0 ++ toLe 12 0 ++ toLe 8 1 ++ toLe 40 9 ++ toLe 8 0 ++ toLe 4 10 ++ toLe 4 0) }, _, by decide +kernel, rfl, by decide +kernel, by decide +kernel, by decide +kernel, by decide +kernel, by decide +kernel, by decide +kernel, by decide +kernel, by decide +kernel, by decide +kernel, by decide +kernel, by decide +kernel, by decide +kernel, by decide +kernel, by decide +kernel, by decide +kernel, by decide +kernel, by decide +kernel, by decide +kernel, by decide +kernel, by decide +kernel, by decide +kernel⟩

theorem witness_MacsecAndDebugLevels_2 : ∃ (h : Hdr) (p d : List Byte) (a : Sa) (s t : State),
    s.takes 0x0905 h = true ∧ t = s.stamped h ∧ t.readBuf h (u64 p 0) 96 = some d ∧ u32 p 8 = 96 ∧ zeroFrom p 12 = true ∧ u16 d 0 < 100 ∧ t.portPresent (u16 d 0) = true ∧ t.ethPort (u16 d 0) = true ∧ t.domOn 2 = true ∧ t.domOn 3 = true ∧ u8 d 2 ≤ 1 ∧ u8 d 3 ≤ 3 ∧ u8 d 4 ≤ 3 ∧ (u8 d 2 = 0 ∨ u8 d 4 = 0) ∧ u8 d 5 ≤ 1 ∧ u8 d 6 ≤ 7 ∧ bit (u8 d 6) 0 = true ∧ u8 d 7 = 0 ∧ zeroAt d 92 4 = true ∧ h.spiBad (u64 p 0) 96 = false ∧ a = parseSa d ((keyOf (bit (u8 d 6) 1) ((d.drop 40).take 40)).getD 0) (effTick (u64 d 80) (t.now + 1)).1 ∧ t.sec.sas.any (fun x => x.sameChan a && x.an == a.an && x.tx && x.used) = false :=
  ⟨hdr, toLe 8 0 ++ toLe 4 96, ([5, 0, 0, 1, 0, 0, 1, 0] ++ toLe 8 7 ++ toLe 80 0), parseSa ([5, 0, 0, 1, 0, 0, 1, 0] ++ toLe 8 7 ++ toLe 80 0) 0 1, { { flying with strm := { flying.strm with ports := [(5, { kind := 3 })] }, sec := { flying.sec with sas := [{ port := 5, tx := false, sc := 0, an := 1, sci := 7, ssci := 0, salt := 0, xpn := false, replay := true, window := 10, pn := 100, low := 1, key := 3, tick := 0, used := false, dead := false }] } } with hostMem := Memory.writeN [] 0 ([5, 0, 0, 1, 0, 0, 1, 0] ++ toLe 8 7 ++ toLe 80 0) }, _, by decide +kernel, rfl, by decide +kernel, by decide +kernel, by decide +kernel, by decide +kernel, by decide +kernel, by decide +kernel, by decide +kernel, by decide +kernel, by decide +kernel, by decide +kernel, by decide +kernel, by decide +kernel, by decide +kernel, by decide +kernel, by decide +kernel, by decide +kernel, by decide +kernel, by decide +kernel, by decide +kernel, by decide +kernel⟩

theorem witness_MacsecAndDebugLevels_3 : ∃ (f : MsFrame) (s : State),
    s.ethPort f.port = true ∧ f.tagged = false :=
  ⟨{ port := 5, tagged := false }, { flying with strm := { flying.strm with ports := [(5, { kind := 3 })] }, sec := { flying.sec with sas := [{ port := 5, tx := false, sc := 0, an := 1, sci := 7, ssci := 0, salt := 0, xpn := false, replay := true, window := 10, pn := 100, low := 1, key := 3, tick := 0, used := false, dead := false }] } }, by decide +kernel⟩

theorem witness_MacsecAndDebugLevels_4 : ∃ (f : MsFrame) (s : State),
    s.ethPort f.port = true ∧ f.tagged = true ∧ (∀ a ∈ s.sec.sas, a.port = f.port → a.tx = false → a.sci = f.sci → a.an ≠ f.an) :=
  ⟨{ port := 5, tagged := true, sci := 8, an := 1 }, { flying with strm := { flying.strm with ports := [(5, { kind := 3 })] }, sec := { flying.sec with sas := [{ port := 5, tx := false, sc := 0, an := 1, sci := 7, ssci := 0, salt := 0, xpn := false, replay := true, window := 10, pn := 100, low := 1, key := 3, tick := 0, used := false, dead := false }] } }, by decide +kernel⟩

theorem witness_MacsecAndDebugLevels_5 : ∃ (f : MsFrame) (a : Sa) (s : State),
    s.ethPort f.port = true ∧ f.tagged = true ∧ s.sec.sas.find? (fun x => x.port == f.port && !x.tx && x.sci == f.sci && x.an == f.an) = some a :=
  ⟨{ port := 5, tagged := true, sci := 7, an := 1, pn := 95 }, { port := 5, tx := false, sc := 0, an := 1, sci := 7, ssci := 0, salt := 0, xpn := false, replay := true, window := 10, pn := 100, low := 1, key := 3, tick := 0, used := false, dead := false }, { flying with strm := { flying.strm with ports := [(5, { kind := 3 })] }, sec := { flying.sec with sas := [{ port := 5, tx := false, sc := 0, an := 1, sci := 7, ssci := 0, salt := 0, xpn := false, replay := true, window := 10, pn := 100, low := 1, key := 3, tick := 0, used := false, dead := false }] } }, by decide +kernel⟩

theorem witness_MacsecAndDebugLevels_6 : ∃ (port : Nat) (a : Sa) (s : State),
    s.sec.sas.find? (fun x => x.port == port && x.tx && x.used) = some a ∧ a.dead = false ∧ a.pn ≤ a.last :=
  ⟨5, { port := 5, tx := true, sc := 0, an := 1, sci := 7, ssci := 0, salt := 0, xpn := false, replay := true, window := 10, pn := 100, low := 1, key := 3, tick := 0, used := true, dead := false }, { flying with strm := { flying.strm with ports := [(5, { kind := 3 })] }, sec := { flying.sec with sas := [{ port := 5, tx := true, sc := 0, an := 1, sci := 7, ssci := 0, salt := 0, xpn := false, replay := true, window := 10, pn := 100, low := 1, key := 3, tick := 0, used := true, dead := false }] } }, by decide +kernel⟩

theorem witness_MacsecAndDebugLevels_7 : ∃ (port : Nat) (a : Sa) (s : State),
    s.sec.sas.find? (fun x => x.port == port && x.tx && x.used) = some a :=
  ⟨5, { port := 5, tx := true, sc := 0, an := 1, sci := 7, ssci := 0, salt := 0, xpn := false, replay := true, window := 10, pn := 100, low := 1, key := 3, tick := 0, used := true, dead := false }, { flying with strm := { flying.strm with ports := [(5, { kind := 3 })] }, sec := { flying.sec with sas := [{ port := 5, tx := true, sc := 0, an := 1, sci := 7, ssci := 0, salt := 0, xpn := false, replay := true, window := 10, pn := 100, low := 1, key := 3, tick := 0, used := true, dead := false }] } }, by decide +kernel⟩

theorem witness_MacsecAndDebugLevels_8 : ∃ (a : Sa) (s : State),
    s.sec.sas = [a] ∧ a.tx = true ∧ a.used = false ∧ a.dead = false ∧ a.tick ≤ s.now :=
  ⟨{ port := 5, tx := true, sc := 0, an := 1, sci := 7, ssci := 0, salt := 0, xpn := false, replay := true, window := 10, pn := 100, low := 1, key := 3, tick := 0, used := false, dead := false }, { flying with strm := { flying.strm with ports := [(5, { kind := 3 })] }, sec := { flying.sec with sas := [{ port := 5, tx := true, sc := 0, an := 1, sci := 7, ssci := 0, salt := 0, xpn := false, replay := true, window := 10, pn := 100, low := 1, key := 3, tick := 0, used := false, dead := false }] } }, by decide +kernel⟩

theorem witness_MacsecAndDebugLevels_9 : ∃ (a b : Sa) (s : State),
    s.sec.sas = [a, b] ∧ a.tx = true ∧ b.tx = true ∧ a.used = true ∧ b.used = false ∧ b.dead = false ∧ b.tick ≤ s.now ∧ a.port = b.port ∧ a.an ≠ b.an :=
  ⟨{ port := 5, tx := true, sc := 0, an := 0, sci := 7, ssci := 0, salt := 0, xpn := false, replay := true, window := 10, pn := 100, low := 1, key := 3, tick := 0, used := true, dead := false }, { port := 5, tx := true, sc := 0, an := 1, sci := 7, ssci := 0, salt := 0, xpn := false, replay := true, window := 10, pn := 100, low := 1, key := 3, tick := 0, used := false, dead := false }, { flying with sec := { sas := [{ port := 5, tx := true, sc := 0, an := 0, sci := 7, ssci := 0, salt := 0, xpn := false, replay := true, window := 10, pn := 100, low := 1, key := 3, tick := 0, used := true, dead := false }, { port := 5, tx := true, sc := 0, an := 1, sci := 7, ssci := 0, salt := 0, xpn := false, replay := true, window := 10, pn := 100, low := 1, key := 3, tick := 0, used := false, dead := false }] } }, by decide +kernel⟩

theorem witness_MacsecAndDebugLevels_10 : ∃ (s : State),
    (∀ a ∈ s.sec.sas, a.tx = true → a.used = true ∨ a.dead = true ∨ s.now < a.tick) :=
  ⟨{ flying with strm := { flying.strm with ports := [(5, { kind := 3 })] }, sec := { flying.sec with sas := [{ port := 5, tx := true, sc := 0, an := 1, sci := 7, ssci := 0, salt := 0, xpn := false, replay := true, window := 10, pn := 100, low := 1, key := 3, tick := 0, used := true, dead := false }] } }, by decide +kernel⟩

theorem witness_MacsecAndDebugLevels_11 : ∃ (h : Hdr) (p : List Byte) (s t : State),
    s.takes 0x0903 h = true ∧ t = s.stamped h ∧ u8 p 0 = 0 ∧ zeroAt p 1 7 = true ∧ zeroFrom p 20 = true ∧ t.rd Reg.SEC.DBG_LOCK.LOCK_S = 0 :=
  ⟨hdr, [], flying, _, by decide +kernel, rfl, by decide +kernel, by decide +kernel, by decide +kernel, by decide +kernel⟩

theorem witness_MacsecAndDebugLevels_12 : ∃ (h : Hdr) (p : List Byte) (l : Nat) (s t : State),
    s.takes 0x0903 h = true ∧ t = s.stamped h ∧ l = u8 p 0 ∧ 1 ≤ l ∧ l ≤ 2 ∧ l ≤ t.ident.debugCap ∧ zeroAt p 1 7 = true ∧ zeroFrom p 20 = true ∧ t.rd Reg.SEC.DBG_LOCK.LOCK_S = 0 ∧ 48 ≤ u32 p 16 ∧ h.spiBad (u64 p 8) (u32 p 16) = false ∧ t.ident.debugKey ≠ 0 :=
  ⟨hdr, [1, 0, 0, 0, 0, 0, 0, 0] ++ toLe 8 4096 ++ toLe 4 48, 1, { flying with ident := { flying.ident with debugKey := 5, debugCap := 2 } }, _, by decide +kernel, rfl, by decide +kernel, by decide +kernel, by decide +kernel, by decide +kernel, by decide +kernel, by decide +kernel, by decide +kernel, by decide +kernel⟩

theorem witness_MacsecAndDebugLevels_13 : ∃ (h : Hdr) (p b : List Byte) (c : Chal) (s u : State),
    s.takes 0x0904 h = true ∧ u = s.stamped h ∧ u.readBuf h (u64 p 0) 192 = some b ∧ u32 p 8 = 192 ∧ zeroFrom p 12 = true ∧ h.spiBad (u64 p 0) 192 = false ∧ u.sec.chal = some c ∧ u.chalLive = true :=
  ⟨hdr, toLe 8 4096 ++ toLe 4 192, List.replicate 192 0, ⟨[], 1, 0⟩, { flying with sec := { flying.sec with chal := some ⟨[], 1, 0⟩ } }, _, by decide +kernel, rfl, by decide +kernel, by decide +kernel, by decide +kernel, by decide +kernel, by decide +kernel, by decide +kernel⟩

theorem witness_MacsecAndDebugLevels_14 : ∃ (l : Nat) (s : State),
    l ≤ 2 ∧ s.dbgLevel ≠ l :=
  ⟨2, flying, by decide +kernel⟩

theorem witness_MacsecAndDebugLevels_15 : ∃ (h : Hdr) (p : List Byte) (s t : State),
    s.takes 0x0903 h = true ∧ t = s.stamped h ∧ t.rd Reg.SEC.DBG_LOCK.LOCK_S ≠ 0 :=
  ⟨hdr, [1], flying.put [(Reg.SEC.DBG_LOCK.LOCK_S, 4)], _, by decide +kernel, rfl, by decide +kernel⟩

theorem witness_LaneCommands_1a : ∃ (h : Hdr) (p : List Byte) (ls : List Nat) (func k ps f : Nat) (extra : Bool) (s t : State),
    s.takes 0x0A01 h = true ∧ t = s.stamped h ∧ lanesOf (u16 p 0) (u8 p 2) = some ls ∧ func = u8 p 3 ∧ k = u8 p 4 ∧ ps = u8 p 5 ∧ f = u8 p 6 ∧ extra = (func == 2 && (t.link k).lanes.any (fun l => !ls.contains l)) ∧ (ps = 0xFF ∨ ps ≤ 2 ∧ ls.any (fun l => (t.laneDyn l).queued.isSome) = false) ∧ ls.any t.laneAbsent = false ∧ ls.any t.laneOff = false ∧ func ≤ 2 ∧ (func ≠ 2 ∨ k ≤ 5 ∧ linkGroupOk ls = true ∧ t.thirdBase ls 3 = false) ∧ f ≤ 63 ∧ f / 16 ≠ 3 ∧ (u8 p 7 = 0 ∨ (40 ≤ u8 p 7 ∧ u8 p 7 ≤ 120)) ∧ (bit f 3 = false ∨ firOk p = true) ∧ zeroFrom p 12 = true ∧ ls.any (fun l => t.laneFunc l == funcPcie || (func != 0 && t.laneFunc l == funcPort)) = false ∧ ((ls.filter (fun l => t.laneFunc l == funcLink && (func == 1 || (func == 2 && t.rd (Reg.LANE.STATUS.LINK l) != k)))).map (fun l => t.rd (Reg.LANE.STATUS.LINK l))).any t.linkHeld = false ∧ (extra && (t.linkHeld k || (t.link k).lanes.any t.laneInUse)) = false ∧ (f / 16 = 0 ∨ ls.any (fun l => t.laneNeg l || t.rd (Reg.LANE.STATUS.PSTATE l) != 0) = false) ∧ ((ps == 1 || ps == 2 || f / 16 != 0) && ls.any t.laneInUse) = false ∧ ls.any (fun l => t.laneInUse l && t.laneFunc l == funcLink && (func == 1 || (func == 2 && t.rd (Reg.LANE.STATUS.LINK l) != k))) = false :=
  ⟨hdr, [5, 0, 1, 0, 0, 0xFF, 3, 80], [5], 0, 0, 0xFF, 3, false, flying, _, by decide +kernel, rfl, by decide +kernel, by decide +kernel, by decide +kernel, by decide +kernel, by decide +kernel, by decide +kernel, by decide +kernel, by decide +kernel, by decide +kernel, by decide +kernel, by decide +kernel, by decide +kernel, by decide +kernel, by decide +kernel, by decide +kernel, by decide +kernel, by decide +kernel, by decide +kernel⟩

theorem witness_LaneCommands_1b : ∃ (h : Hdr) (p : List Byte) (ls : List Nat) (func k ps f : Nat) (extra : Bool) (s t : State),
    s.takes 0x0A01 h = true ∧ t = s.stamped h ∧ lanesOf (u16 p 0) (u8 p 2) = some ls ∧ func = u8 p 3 ∧ k = u8 p 4 ∧ ps = u8 p 5 ∧ f = u8 p 6 ∧ extra = (func == 2 && (t.link k).lanes.any (fun l => !ls.contains l)) ∧ (ps = 0xFF ∨ ps ≤ 2 ∧ ls.any (fun l => (t.laneDyn l).queued.isSome) = false) ∧ ls.any t.laneAbsent = false ∧ ls.any t.laneOff = false ∧ func ≤ 2 ∧ (func ≠ 2 ∨ k ≤ 5 ∧ linkGroupOk ls = true ∧ t.thirdBase ls 3 = false) ∧ f ≤ 63 ∧ f / 16 ≠ 3 ∧ (u8 p 7 = 0 ∨ (40 ≤ u8 p 7 ∧ u8 p 7 ≤ 120)) ∧ (bit f 3 = false ∨ firOk p = true) ∧ zeroFrom p 12 = true ∧ ls.any (fun l => t.laneFunc l == funcPcie || (func != 0 && t.laneFunc l == funcPort)) = false ∧ ((ls.filter (fun l => t.laneFunc l == funcLink && (func == 1 || (func == 2 && t.rd (Reg.LANE.STATUS.LINK l) != k)))).map (fun l => t.rd (Reg.LANE.STATUS.LINK l))).any t.linkHeld = false ∧ (extra && (t.linkHeld k || (t.link k).lanes.any t.laneInUse)) = false ∧ (f / 16 = 0 ∨ ls.any (fun l => t.laneNeg l || t.rd (Reg.LANE.STATUS.PSTATE l) != 0) = false) ∧ ((ps == 1 || ps == 2 || f / 16 != 0) && ls.any t.laneInUse) = false ∧ ls.any (fun l => t.laneInUse l && t.laneFunc l == funcLink && (func == 1 || (func == 2 && t.rd (Reg.LANE.STATUS.LINK l) != k))) = false :=
  ⟨hdr, [8, 0, 4, 2, 3, 0], [8, 9, 10, 11], 2, 3, 0, 0, false, flying, _, by decide +kernel, rfl, by decide +kernel, by decide +kernel, by decide +kernel, by decide +kernel, by decide +kernel, by decide +kernel, by decide +kernel, by decide +kernel, by decide +kernel, by decide +kernel, by decide +kernel, by decide +kernel, by decide +kernel, by decide +kernel, by decide +kernel, by decide +kernel, by decide +kernel, by decide +kernel⟩

theorem witness_LaneCommands_2 : ∃ (p : List Byte) (l : Nat) (s : State),
    u8 p 3 = 1 ∧ u8 p 5 = 0xFF ∧ u8 p 7 = 0 ∧ bit (u8 p 6) 3 = false ∧ s.laneFunc l = 0 ∧ l < 144 :=
  ⟨[5, 0, 1, 1, 0, 0xFF], 5, flying, by decide +kernel⟩

theorem witness_LaneCommands_3 : ∃ (l q : Nat) (s : State),
    q ≤ 2 ∧ (s.laneDyn l).target = none :=
  ⟨5, 2, flying, by decide +kernel⟩

theorem witness_LaneCommands_4 : ∃ (l q : Nat) (s : State),
    (s.laneDyn l).target.isSome = true :=
  ⟨5, 2, ({ flying with lane := [(5, { target := some 1 })] } : State), by decide +kernel⟩

theorem witness_LaneCommands_5 : ∃ (h : Hdr) (p : List Byte) (l : Nat) (s t : State),
    s.takes 0x0A02 h = true ∧ t = s.stamped h ∧ laneOf (u16 p 0) = some l ∧ zeroFrom p 2 = true ∧ t.laneAbsent l = false ∧ t.laneOff l = false :=
  ⟨hdr, [0, 1], 128, flying, _, by decide +kernel, rfl, by decide +kernel, by decide +kernel, by decide +kernel, by decide +kernel⟩

theorem witness_LaneCommands_6 : ∃ (h : Hdr) (p : List Byte) (l : Nat) (s t : State),
    s.takes 0x0A02 h = true ∧ t = s.stamped h ∧ laneOf (u16 p 0) = some l ∧ (t.laneAbsent l = true ∨ t.laneOff l = true) :=
  ⟨hdr, [5, 0], 5, flying.put [(Reg.PWR.DOM1.STATES, 0), (Reg.PWR.DOM0.STATES, 15)], _, by decide +kernel, rfl, by decide +kernel, by decide +kernel⟩

theorem witness_LaneCommands_7a : ∃ (h : Hdr) (p : List Byte) (l : Nat) (ls : List Nat) (s t : State),
    s.takes 0x0A03 h = true ∧ t = s.stamped h ∧ laneOf (u16 p 0) = some l ∧ lanesOf (u16 p 0) (u8 p 2) = some ls ∧ u8 p 3 ≤ 6 ∧ u8 p 4 ≤ 3 ∧ prbsRateOk l (u8 p 5) (u32 p 8) = true ∧ u16 p 6 = 0 ∧ zeroFrom p 12 = true ∧ ls.any t.laneAbsent = false ∧ ls.any t.laneOff = false ∧ ls.any (fun l => t.laneFunc l == funcPcie) = false ∧ (u8 p 3 = 0 ∨ ls.any (fun l => t.laneNeg l || t.rd (Reg.LANE.STATUS.PSTATE l) != 0) = false) ∧ (u8 p 3 != 0 && bit (u8 p 4) 0 && u8 p 5 != 0 && t.thirdBase ls (rateBase (u8 p 5) (u32 p 8))) = false ∧ (u8 p 3 = 0 ∨ ls.any t.laneInUse = false) :=
  ⟨hdr, [5, 0, 1, 3, 3], 5, [5], flying.put [(Reg.LANE.STATUS.PSTATE 5, 0)], _, by decide +kernel, rfl, by decide +kernel, by decide +kernel, by decide +kernel, by decide +kernel, by decide +kernel, by decide +kernel, by decide +kernel, by decide +kernel, by decide +kernel, by decide +kernel, by decide +kernel, by decide +kernel, by decide +kernel⟩

theorem witness_LaneCommands_7b : ∃ (h : Hdr) (p : List Byte) (l : Nat) (ls : List Nat) (s t : State),
    s.takes 0x0A03 h = true ∧ t = s.stamped h ∧ laneOf (u16 p 0) = some l ∧ lanesOf (u16 p 0) (u8 p 2) = some ls ∧ u8 p 3 ≤ 6 ∧ u8 p 4 ≤ 3 ∧ prbsRateOk l (u8 p 5) (u32 p 8) = true ∧ u16 p 6 = 0 ∧ zeroFrom p 12 = true ∧ ls.any t.laneAbsent = false ∧ ls.any t.laneOff = false ∧ ls.any (fun l => t.laneFunc l == funcPcie) = false ∧ (u8 p 3 = 0 ∨ ls.any (fun l => t.laneNeg l || t.rd (Reg.LANE.STATUS.PSTATE l) != 0) = false) ∧ (u8 p 3 != 0 && bit (u8 p 4) 0 && u8 p 5 != 0 && t.thirdBase ls (rateBase (u8 p 5) (u32 p 8))) = false ∧ (u8 p 3 = 0 ∨ ls.any t.laneInUse = false) :=
  ⟨hdr, [4, 0, 4, 0], 4, [4, 5, 6, 7], flying, _, by decide +kernel, rfl, by decide +kernel, by decide +kernel, by decide +kernel, by decide +kernel, by decide +kernel, by decide +kernel, by decide +kernel, by decide +kernel, by decide +kernel, by decide +kernel, by decide +kernel, by decide +kernel, by decide +kernel⟩

theorem witness_LaneCommands_8 : ∃ (l pat dir kbps : Nat) (s : State),
    s.laneFunc l = 0 ∧ 1 ≤ dir ∧ dir ≤ 3 ∧ l < 144 :=
  ⟨5, 3, 3, 0, flying, by decide +kernel⟩

theorem witness_LaneCommands_9 : ∃ (h : Hdr) (p : List Byte) (l : Nat) (s t : State),
    s.takes 0x0A04 h = true ∧ t = s.stamped h ∧ laneOf (u16 p 0) = some l ∧ zeroFrom p 2 = true ∧ t.laneAbsent l = false ∧ t.laneOff l = false :=
  ⟨hdr, [5], 5, flying, _, by decide +kernel, rfl, by decide +kernel, by decide +kernel, by decide +kernel, by decide +kernel⟩

theorem witness_LaneCommands_10 : ∃ (h : Hdr) (p : List Byte) (l need : Nat) (s t : State),
    s.takes 0x0A05 h = true ∧ t = s.stamped h ∧ laneOf (u16 p 0) = some l ∧ 1 ≤ u8 p 2 ∧ u8 p 2 ≤ 32 ∧ 1 ≤ u8 p 3 ∧ u8 p 3 ≤ 32 ∧ 20 ≤ u8 p 4 ∧ u8 p 4 ≤ 40 ∧ zeroAt p 5 3 = true ∧ zeroFrom p 20 = true ∧ h.spiBad (u64 p 8) (u32 p 16) = false ∧ t.laneAbsent l = false ∧ t.laneOff l = false ∧ t.laneFunc l ≠ 3 ∧ t.rd (Reg.LANE.STATUS.PSTATE l) = 0 ∧ t.isSet (Reg.LANE.STATUS.SCAN l) = false ∧ need = 16 + 4 * ((if l < 128 then 1 else 3) * (2 * u8 p 2 + 1) * (2 * u8 p 3 + 1)) :=
  ⟨hdr, [5, 0, 1, 1, 20, 0, 0, 0] ++ toLe 8 4096 ++ toLe 4 52, 5, 52, flying.put [(Reg.LANE.STATUS.PSTATE 5, 0)], _, by decide +kernel, rfl, by decide +kernel, by decide +kernel, by decide +kernel, by decide +kernel, by decide +kernel, by decide +kernel, by decide +kernel, by decide +kernel, by decide +kernel, by decide +kernel, by decide +kernel⟩

theorem witness_LaneEvents_1 : ∃ (l : Nat) (s : State),
    s.laneAbsent l = false ∧ s.laneOff l = false ∧ s.laneFunc l = 0 :=
  ⟨5, flying, by decide +kernel⟩

theorem witness_LaneEvents_2 : ∃ (l p : Nat) (s : State),
    s.laneAbsent l = false ∧ s.laneOff l = false ∧ s.laneFunc l = 1 ∧ s.lanePort l = some p :=
  ⟨5, 5, flying.put [(Reg.LANE.STATUS.FUNC 5, 1)], by decide +kernel⟩

theorem witness_LaneEvents_3 : ∃ (l : Nat) (s : State),
    s.isSet (Reg.LANE.STATUS.BLOCK_LOCK l) = true ∧ s.laneFunc l = 2 ∧ l < 144 :=
  ⟨5, flying.put [(Reg.LANE.STATUS.FUNC 5, 2), (Reg.LANE.STATUS.BLOCK_LOCK 5, 1)], by decide +kernel⟩

theorem witness_LaneEvents_4 : ∃ (q pll l : Nat) (s : State),
    s.pllLanes q pll = [l] :=
  ⟨1, 0, 5, ({ flying with lane := [(5, { base := 3 })] } : State), by decide +kernel⟩

theorem witness_LaneEvents_5 : ∃ (u : BringUp) (l k : Nat) (s : State),
    u.lane = l ∧ s.laneOff l = false ∧ s.rd (Reg.LANE.STATUS.PSTATE l) = 0 ∧ s.laneFunc l = 2 ∧ k = s.rd (Reg.LANE.STATUS.LINK l) ∧ s.linkState k = 0 :=
  ⟨⟨5, []⟩, 5, 3, flying.put [(Reg.LANE.STATUS.PSTATE 5, 0), (Reg.LANE.STATUS.FUNC 5, 2), (Reg.LANE.STATUS.LINK 5, 3)], by decide +kernel⟩

theorem witness_LaneEvents_6 : ∃ (u : BringUp) (l p w : Nat) (s : State),
    u.lane = l ∧ u.fir = [(l, w)] ∧ firWordOk w = true ∧ s.laneOff l = false ∧ s.rd (Reg.LANE.STATUS.PSTATE l) = 0 ∧ s.laneFunc l = 1 ∧ s.lanePort l = some p ∧ s.ethPort p = true ∧ portLanes p (s.port p).kind = [l] ∧ s.strm.flows = [] :=
  ⟨⟨5, [(5, 0x00300000)]⟩, 5, 5, 0x00300000, ({ flying with strm := { flying.strm with ports := [(5, { kind := 3 })] } } : State).put [(Reg.LANE.STATUS.PSTATE 5, 0), (Reg.LANE.STATUS.FUNC 5, 1)], by decide +kernel⟩

theorem witness_LaneEvents_7 : ∃ (l p r : Nat) (s : State),
    s.laneFunc l = 1 ∧ s.lanePort l = some p ∧ portLanes p (s.port p).kind = [l] ∧ 1 ≤ r ∧ r ≤ 7 :=
  ⟨5, 5, 3, ({ flying with strm := { flying.strm with ports := [(5, { kind := 3 })] } } : State).put [(Reg.LANE.STATUS.FUNC 5, 1), (Reg.LANE.STATUS.NEG_STATE 5, 6)], by decide +kernel⟩

theorem witness_LaneEvents_8 : ∃ (l k : Nat) (s : State),
    s.laneFunc l = 2 ∧ k = s.rd (Reg.LANE.STATUS.LINK l) ∧ s.linkState k = 0 ∧ 2 ≤ s.rd (Reg.DOLMET.LINK_STATUS.DOWN_REASON k) ∧ (s.link k).lanes = [l] :=
  ⟨5, 3, { (flying.put [(Reg.LANE.STATUS.FUNC 5, 2), (Reg.LANE.STATUS.LINK 5, 3), (Reg.DOLMET.LINK_STATUS.DOWN_REASON 3, 4)]) with mesh := { flying.mesh with links := [(3, { lanes := [5] })] } }, by decide +kernel⟩

theorem witness_LaneEvents_9 : ∃ (l c d e : Nat) (s : State),
    s.laneAbsent l = false ∧ s.laneOff l = false ∧ s.rd (Reg.LANE.STATUS.PSTATE l) = 0 ∧ c < 32 ∧ d < 256 ∧ e < 256 :=
  ⟨5, 3, 200, 9, flying.put [(Reg.LANE.STATUS.PSTATE 5, 0)], by decide +kernel⟩

theorem witness_LaneEvents_10 : ∃ (l r : Nat) (s : State),
    r ≤ 7 ∧ (s.laneDyn l).failed = false ∧ l < 144 :=
  ⟨5, 3, flying, by decide +kernel⟩

theorem witness_LaneEvents_11 : ∃ (l t : Nat) (s : State),
    (s.laneDyn l).target = some t ∧ t < 2 ∧ (s.laneDyn l).base = 0 ∧ (s.laneDyn l).queued = none :=
  ⟨5, 1, ({ flying with lane := [(5, { target := some 1 })] } : State), by decide +kernel⟩

theorem witness_LaneEvents_12 : ∃ (l errs : Nat) (s : State),
    (s.laneDyn l).chk = true :=
  ⟨5, 3, ({ flying with lane := [(5, { chk := true })] } : State), by decide +kernel⟩

theorem witness_LaneEvents_13 : ∃ (l : Nat) (s : State),
    s.laneAbsent l = false ∧ s.laneOff l = false :=
  ⟨5, flying, by decide +kernel⟩

theorem witness_LaneEvents_14 : ∃ (l : Nat) (counts : List Nat) (c : Scan) (s : State),
    (s.laneDyn l).scan = some c :=
  ⟨5, [], ⟨1, 1, 20, 4096, hdr⟩, ({ flying with lane := [(5, { scan := some ⟨1, 1, 20, 4096, hdr⟩ })] } : State), by decide +kernel⟩

theorem witness_DolmetLinks_1 : ∃ (k : Nat) (c : Caps) (s : State),
    k < 6 ∧ s.linkState k < 2 ∧ (s.link k).lanes ≠ [] ∧ c.revs = 0 ∧ c.reset = false :=
  ⟨3, { revs := 0 }, ({ flying with mesh := { flying.mesh with links := [(3, { lanes := [5] })] } } : State), by decide +kernel⟩

theorem witness_DolmetLinks_2 : ∃ (k : Nat) (c : Caps) (s : State),
    k < 6 ∧ s.linkState k < 2 ∧ (s.link k).lanes ≠ [] ∧ c.revs = 3 ∧ c.reset = false ∧ c.enc = true ∧ c.key = false :=
  ⟨3, { revs := 3, enc := true }, ({ flying with mesh := { flying.mesh with links := [(3, { lanes := [5] })] } } : State), by decide +kernel⟩

theorem witness_DolmetLinks_3 : ∃ (k l r : Nat) (c : Caps) (s : State),
    k < 6 ∧ s.linkState k < 2 ∧ (s.link k).lanes = [l] ∧ c.revs = 3 ∧ c.reset = false ∧ c.enc = false ∧ (s.linkPol k).enc = false ∧ s.isTwinLink k = false ∧ s.ident.profile ≠ 0x56 ∧ l < 144 ∧ s.claim k = 1 ∧ c.role = 1 ∧ bestRate c.rates (min (s.linkPol k).rate 2) = some r :=
  ⟨3, 5, 2, { revs := 3 }, ({ flying with mesh := { flying.mesh with links := [(3, { lanes := [5] })] } } : State).put [(Reg.MESH.STATUS.MESH_ID, 9)], by decide +kernel⟩

theorem witness_DolmetLinks_4 : ∃ (k : Nat) (s : State),
    k < 6 ∧ s.linkState k = 2 ∧ (s.link k).lanes = [] ∧ 0 < (s.link k).cand :=
  ⟨3, ({ flying with mesh := { flying.mesh with links := [(3, { cand := 2 })] } } : State).put [(Reg.DOLMET.LINK_STATUS.STATE 3, 2)], by decide +kernel⟩

theorem witness_DolmetLinks_5 : ∃ (k : Nat) (s : State),
    k < 6 ∧ s.linkState k = 2 ∧ (s.link k).lanes = [] ∧ (s.link k).cand = 0 :=
  ⟨3, ({ flying with mesh := { flying.mesh with links := [(3, { cand := 0 })] } } : State).put [(Reg.DOLMET.LINK_STATUS.STATE 3, 2)], by decide +kernel⟩

theorem witness_DolmetLinks_6 : ∃ (k : Nat) (f : DFrame) (s : State),
    k < 6 ∧ s.linkUp k = true ∧ f.crcOk = false :=
  ⟨3, { ty := 1, crcOk := false }, flying.put [(Reg.DOLMET.LINK_STATUS.STATE 3, 3)], by decide +kernel⟩

theorem witness_DolmetLinks_7 : ∃ (k : Nat) (f : DFrame) (s : State),
    k < 6 ∧ s.linkUp k = true ∧ f.crcOk = true ∧ s.isSet (Reg.DOLMET.LINK_STATUS.ENC k) = true ∧ f.tagOk = false :=
  ⟨3, { ty := 1, tagOk := false }, flying.put [(Reg.DOLMET.LINK_STATUS.STATE 3, 3), (Reg.DOLMET.LINK_STATUS.ENC 3, 1)], by decide +kernel⟩

theorem witness_DolmetLinks_8 : ∃ (k : Nat) (f : DFrame) (s : State),
    k < 6 ∧ s.linkUp k = true ∧ f.crcOk = true ∧ s.isSet (Reg.DOLMET.LINK_STATUS.ENC k) = false ∧ s.carries k f.ty = true ∧ f.dst ≠ 0 ∧ f.dst ≠ s.meshId :=
  ⟨3, { ty := 3, dst := 7 }, flying.put [(Reg.DOLMET.LINK_STATUS.STATE 3, 3)], by decide +kernel⟩

theorem witness_DolmetLinks_9 : ∃ (k : Nat) (f : DFrame) (s : State),
    k < 6 ∧ s.linkUp k = true ∧ f.crcOk = true ∧ s.isSet (Reg.DOLMET.LINK_STATUS.ENC k) = false ∧ s.rd (Reg.DOLMET.LINK_STATUS.ROLE k) = 4 ∧ f.ty ≠ 3 ∧ f.ty ≠ 4 ∧ f.ty ≠ 9 :=
  ⟨3, { ty := 6 }, flying.put [(Reg.DOLMET.LINK_STATUS.STATE 3, 3), (Reg.DOLMET.LINK_STATUS.ROLE 3, 4)], by decide +kernel⟩

theorem witness_DolmetLinks_10 : ∃ (k : Nat) (f : DFrame) (s : State),
    k < 6 ∧ s.linkUp k = true ∧ f.crcOk = true ∧ s.isSet (Reg.DOLMET.LINK_STATUS.ENC k) = false ∧ (f.dst = 0 ∨ f.dst = s.meshId) ∧ f.ty = 6 ∧ s.linkState k = 3 ∧ s.rd (Reg.DOLMET.LINK_STATUS.ROLE k) ≠ 4 :=
  ⟨3, { ty := 6 }, flying.put [(Reg.DOLMET.LINK_STATUS.STATE 3, 3)], by decide +kernel⟩

theorem witness_DolmetLinks_11 : ∃ (k : Nat) (s : State),
    k < 6 ∧ s.linkUp k = true ∧ 16 ≤ (s.link k).tagFails :=
  ⟨3, ({ flying with mesh := { flying.mesh with links := [(3, { tagFails := 16 })] } } : State).put [(Reg.DOLMET.LINK_STATUS.STATE 3, 3)], by decide +kernel⟩

theorem witness_DolmetLinks_12 : ∃ (k : Nat) (s : State),
    k < 6 ∧ s.linkUp k = true ∧ 3 ≤ (s.link k).hbMiss :=
  ⟨3, ({ flying with mesh := { flying.mesh with links := [(3, { hbMiss := 3 })] } } : State).put [(Reg.DOLMET.LINK_STATUS.STATE 3, 3)], by decide +kernel⟩

theorem witness_DolmetLinks_13 : ∃ (k r : Nat) (s : State),
    k < 6 ∧ r < 16 ∧ s.linkUp k = false ∧ (s.link k).lanes = [] :=
  ⟨3, 7, flying, by decide +kernel⟩

theorem witness_DolmetLinks_14 : ∃ (k : Nat) (m : Marker) (s : State),
    k < 6 ∧ s.linkUp k = true ∧ m.num = s.now ∧ m.instar = s.mesh.instar ∧ m.digest = s.mesh.digest ∧ s.isTwinLink k = false ∧ s.isSet Reg.MESH.STATUS.OUT_OF_TICK = false ∧ m.t4 = 0 :=
  ⟨3, {}, flying.put [(Reg.DOLMET.LINK_STATUS.STATE 3, 3)], by decide +kernel⟩

theorem witness_DolmetLinks_15 : ∃ (k : Nat) (m : Marker) (s : State),
    k < 6 ∧ s.linkUp k = true ∧ m.num = s.now ∧ m.instar ≠ s.mesh.instar ∧ s.isTwinLink k = false ∧ s.molting = false ∧ s.due = [] ∧ s.mesh.setAt ≠ some s.now ∧ m.t4 = 0 ∧ s.linkState k = 3 :=
  ⟨3, { instar := 5 }, flying.put [(Reg.DOLMET.LINK_STATUS.STATE 3, 3)], by decide +kernel⟩

theorem witness_Twins_1 : ∃ (h : Hdr) (p : List Byte) (role a b : Nat) (busy : Bool) (s t : State),
    s.takes 0x0B01 h = true ∧ t = s.stamped h ∧ role = u8 p 0 ∧ (role = 1 ∨ role = 2) ∧ a = u8 p 1 ∧ b = u8 p 2 ∧ a < 6 ∧ b < 6 ∧ a ≠ b ∧ u8 p 3 ≤ 3 ∧ zeroFrom p 8 = true ∧ 1 ≤ u16 p 4 ∧ u16 p 4 ≤ 16384 ∧ t.twinLinkOff a = false ∧ t.twinLinkOff b = false ∧ t.twinLinkBad a = false ∧ t.twinLinkBad b = false ∧ busy = !(t.liveWhere (fun _ => true)).isEmpty ∧ (busy = false ∨ ((t.link a).pBusy = false ∧ (t.link b).pBusy = false)) ∧ (∀ k ∈ [a, b], t.linkUp k = true → (t.link k).pProfile = t.ident.profile ∧ ((t.link k).pStep = t.ident.stepping ∨ t.ident.profile ≠ 0)) :=
  ⟨hdr, [1, 1, 2, 0, 9], 1, 1, 2, false, ({ flying with mesh := { flying.mesh with links := [(1, { lanes := [4, 5, 6, 7] }), (2, { lanes := [8, 9, 10, 11] })] } } : State), _, by decide +kernel, rfl, by decide +kernel, by decide +kernel, by decide +kernel, by decide +kernel, by decide +kernel, by decide +kernel, by decide +kernel, by decide +kernel, by decide +kernel, by decide +kernel, by decide +kernel, by decide +kernel, by decide +kernel, by decide +kernel, by decide +kernel, by decide +kernel, by decide +kernel⟩

theorem witness_Twins_2 : ∃ (h : Hdr) (p : List Byte) (s t : State),
    s.takes 0x0B01 h = true ∧ t = s.stamped h ∧ u8 p 0 = 0 ∧ u8 p 3 ≤ 3 ∧ zeroFrom p 8 = true ∧ (t.paired && t.live.any (fun i => match (t.contract i).st with | .active | .starved | .held | .releasing => true | _ => false)) = false :=
  ⟨hdr, [], flying, _, by decide +kernel, rfl, by decide +kernel, by decide +kernel, by decide +kernel, by decide +kernel⟩

theorem witness_Twins_3 : ∃ (h : Hdr) (p : List Byte) (role a b : Nat) (s u : State),
    s.takes 0x0B01 h = true ∧ u = s.stamped h ∧ role = u8 p 0 ∧ (role = 1 ∨ role = 2) ∧ a = u8 p 1 ∧ b = u8 p 2 ∧ a < 6 ∧ b < 6 ∧ a ≠ b ∧ u8 p 3 ≤ 3 ∧ zeroFrom p 8 = true ∧ 1 ≤ u16 p 4 ∧ u16 p 4 ≤ 16384 ∧ u.twinLinkOff a = false ∧ u.twinLinkOff b = false ∧ u.twinLinkBad a = false ∧ u.twinLinkBad b = false ∧ u.live = [] ∧ u.linkUp a = false ∧ u.linkUp b = false ∧ (u.link a).pBusy = false ∧ (u.link b).pBusy = false :=
  ⟨hdr, [1, 1, 2, 0, 9], 1, 1, 2, ({ flying with mesh := { flying.mesh with links := [(1, { lanes := [4, 5, 6, 7] }), (2, { lanes := [8, 9, 10, 11] })] } } : State), _, by decide +kernel, rfl, by decide +kernel, by decide +kernel, by decide +kernel, by decide +kernel, by decide +kernel, by decide +kernel, by decide +kernel, by decide +kernel, by decide +kernel, by decide +kernel, by decide +kernel, by decide +kernel, by decide +kernel, by decide +kernel, by decide +kernel, by decide +kernel, by decide +kernel, by decide +kernel, by decide +kernel⟩

theorem witness_Twins_4 : ∃ (h : Hdr) (p : List Byte) (s u : State),
    s.takes 0x0B01 h = true ∧ u = s.stamped h ∧ u8 p 0 = 0 ∧ u8 p 3 ≤ 3 ∧ zeroFrom p 8 = true ∧ u.linkUp (u.rd Reg.TWIN.CFG.LINK_A) = false ∧ u.linkUp (u.rd Reg.TWIN.CFG.LINK_B) = false :=
  ⟨hdr, [], flying, _, by decide +kernel, rfl, by decide +kernel, by decide +kernel, by decide +kernel, by decide +kernel, by decide +kernel⟩

theorem witness_Twins_5 : ∃ (h : Hdr) (p : List Byte) (s t : State),
    s.takes 0x0B02 h = true ∧ t = s.stamped h ∧ noParams p = false :=
  ⟨hdr, [], flying, _, by decide +kernel, rfl, by decide +kernel⟩

theorem witness_Twins_7 : ∃ (d : Digest) (s : State),
    s.rd Reg.TWIN.CFG.ROLE = 2 ∧ d.tick + 1 = s.now ∧ s.twinState = 3 ∧ d.image ≠ s.digest.image ∧ d.molt = false ∧ s.molting = false :=
  ⟨⟨6, 0, 3, false, false, 0, 5, 0, []⟩, ({ flying with tick := { flying.tick with num := 7 } } : State).put [(Reg.TWIN.CFG.ROLE, 2), (Reg.TWIN.CFG.LINK_A, 1), (Reg.TWIN.CFG.LINK_B, 2), (Reg.TWIN.STATUS.STATE, 3)], by decide +kernel⟩

theorem witness_Twins_9 : ∃ (d : Digest) (s : State),
    s.rd Reg.TWIN.CFG.ROLE ≠ 0 ∧ d.tick + 1 = s.now ∧ s.twinState = 2 ∧ d.image = s.digest.image ∧ d.instar = s.digest.instar ∧ s.rd Reg.MOLT.STATUS.STAGGER = 0 :=
  ⟨⟨6, 0, 3, false, false, 0, 0, 0, []⟩, ({ flying with tick := { flying.tick with num := 7 } } : State).put [(Reg.TWIN.CFG.ROLE, 1), (Reg.TWIN.CFG.LINK_A, 1), (Reg.TWIN.CFG.LINK_B, 2), (Reg.TWIN.STATUS.STATE, 2)], by decide +kernel⟩

theorem witness_Twins_10 : ∃ (d : Digest) (s : State),
    s.rd Reg.TWIN.CFG.ROLE ≠ 0 ∧ d.tick + 1 = s.now ∧ s.twinState = 4 ∧ d.st = 1 ∧ d.image = s.digest.image ∧ d.instar = s.digest.instar :=
  ⟨⟨6, 0, 1, true, false, 0, 0, 0, []⟩, ({ flying with tick := { flying.tick with num := 7 } } : State).put [(Reg.TWIN.CFG.ROLE, 1), (Reg.TWIN.CFG.LINK_A, 1), (Reg.TWIN.CFG.LINK_B, 2), (Reg.TWIN.STATUS.STATE, 4)], by decide +kernel⟩

theorem witness_Twins_11 : ∃ (d : Digest) (s : State),
    s.rd Reg.TWIN.CFG.ROLE ≠ 0 ∧ d.tick + 1 = s.now ∧ s.twinState = 1 ∧ s.twin.carrier = true ∧ s.twin.actTick = none ∧ d.st = 1 ∧ d.image = s.digest.image ∧ d.instar = s.digest.instar ∧ s.linkUp (s.rd Reg.TWIN.CFG.LINK_A) = true ∧ s.linkUp (s.rd Reg.TWIN.CFG.LINK_B) = true :=
  ⟨⟨6, 0, 1, true, false, 0, 0, 0, []⟩, ({ flying with tick := { flying.tick with num := 7 }, twin := { flying.twin with carrier := true } } : State).put [(Reg.TWIN.CFG.ROLE, 1), (Reg.TWIN.CFG.LINK_A, 1), (Reg.TWIN.CFG.LINK_B, 2), (Reg.TWIN.STATUS.STATE, 1), (Reg.DOLMET.LINK_STATUS.STATE 1, 3), (Reg.DOLMET.LINK_STATUS.STATE 2, 3)], by decide +kernel⟩

theorem witness_Twins_12 : ∃ (a : Nat) (s : State),
    s.twinState = 1 ∧ s.twin.carrier = false ∧ (s.mode = 3 ∨ s.mode = 4) ∧ s.twin.mismatch = false ∧ s.linkUp (s.rd Reg.TWIN.CFG.LINK_A) = true ∧ s.linkUp (s.rd Reg.TWIN.CFG.LINK_B) = true :=
  ⟨9, ({ flying with tick := { flying.tick with num := 7 } } : State).put [(Reg.TWIN.CFG.ROLE, 1), (Reg.TWIN.CFG.LINK_A, 1), (Reg.TWIN.CFG.LINK_B, 2), (Reg.TWIN.STATUS.STATE, 1), (Reg.DOLMET.LINK_STATUS.STATE 1, 3), (Reg.DOLMET.LINK_STATUS.STATE 2, 3)], by decide +kernel⟩

theorem witness_Twins_13 : ∃ (a : Nat) (s : State),
    s.twin.actTick = some a ∧ s.twinState = 1 ∧ s.twin.carrier = false ∧ a ≤ s.now ∧ s.led.contracts = [] ∧ s.mode = 4 :=
  ⟨7, ({ flying with tick := { flying.tick with num := 7 }, twin := { flying.twin with actTick := some 7 } } : State).put [(Reg.TWIN.CFG.ROLE, 1), (Reg.TWIN.CFG.LINK_A, 1), (Reg.TWIN.CFG.LINK_B, 2), (Reg.TWIN.STATUS.STATE, 1)], by decide +kernel⟩

theorem witness_Twins_14 : ∃ (c : Nat) (s : State),
    s.twinState = 2 ∧ s.twin.copied = [] :=
  ⟨0, ({ flying with tick := { flying.tick with num := 7 } } : State).put [(Reg.TWIN.CFG.ROLE, 1), (Reg.TWIN.CFG.LINK_A, 1), (Reg.TWIN.CFG.LINK_B, 2), (Reg.TWIN.STATUS.STATE, 2)], by decide +kernel⟩

theorem witness_Twins_15 : ∃ (s : State),
    8 ≤ s.rd Reg.TWIN.STATUS.MATCH_RUN ∧ s.twinState = 2 ∧ s.rd Reg.TWIN.CFG.ROLE = 1 :=
  ⟨({ flying with tick := { flying.tick with num := 7 } } : State).put [(Reg.TWIN.CFG.ROLE, 1), (Reg.TWIN.CFG.LINK_A, 1), (Reg.TWIN.CFG.LINK_B, 2), (Reg.TWIN.STATUS.STATE, 2), (Reg.TWIN.STATUS.MATCH_RUN, 8)], by decide +kernel⟩

theorem witness_Twins_16 : ∃ (s : State),
    s.twinState = 1 ∧ s.twin.slow = false ∧ s.twin.since + s.rd Reg.TWIN.CFG.REJOIN_LIMIT < s.now :=
  ⟨({ flying with tick := { flying.tick with num := 700 } } : State).put [(Reg.TWIN.CFG.ROLE, 1), (Reg.TWIN.CFG.LINK_A, 1), (Reg.TWIN.CFG.LINK_B, 2), (Reg.TWIN.STATUS.STATE, 1)], by decide +kernel⟩

theorem witness_Twins_17 : ∃ (s : State),
    s.rd Reg.TWIN.CFG.ROLE ≠ 0 :=
  ⟨({ flying with tick := { flying.tick with num := 7 } } : State).put [(Reg.TWIN.CFG.ROLE, 1), (Reg.TWIN.CFG.LINK_A, 1), (Reg.TWIN.CFG.LINK_B, 2), (Reg.TWIN.STATUS.STATE, 3)], by decide +kernel⟩

theorem witness_Twins_18a : ∃ (s : State),
    s.rd Reg.TWIN.CFG.ROLE ≠ 0 ∧ s.twinState = 3 ∧ s.isSet Reg.TWIN.STATUS.PEER_OK = true ∧ s.linkUp (s.rd Reg.TWIN.CFG.LINK_A) = false ∧ s.linkUp (s.rd Reg.TWIN.CFG.LINK_B) = false ∧ s.isSet Reg.TWIN.STATUS.MUTED = false :=
  ⟨({ flying with tick := { flying.tick with num := 7 } } : State).put [(Reg.TWIN.CFG.ROLE, 1), (Reg.TWIN.CFG.LINK_A, 1), (Reg.TWIN.CFG.LINK_B, 2), (Reg.TWIN.STATUS.STATE, 3), (Reg.TWIN.STATUS.PEER_OK, 1)], by decide +kernel⟩

theorem witness_Twins_18b : ∃ (s : State),
    s.rd Reg.TWIN.CFG.ROLE ≠ 0 ∧ s.twinState = 3 ∧ s.isSet Reg.TWIN.STATUS.PEER_OK = true ∧ s.linkUp (s.rd Reg.TWIN.CFG.LINK_A) = false ∧ s.linkUp (s.rd Reg.TWIN.CFG.LINK_B) = false ∧ s.isSet Reg.TWIN.STATUS.MUTED = false :=
  ⟨({ flying with tick := { flying.tick with num := 7 } } : State).put [(Reg.TWIN.CFG.ROLE, 2), (Reg.TWIN.CFG.LINK_A, 1), (Reg.TWIN.CFG.LINK_B, 2), (Reg.TWIN.STATUS.STATE, 3), (Reg.TWIN.STATUS.PEER_OK, 1)], by decide +kernel⟩

theorem witness_Twins_19 : ∃ (s : State),
    s.twinState = 3 ∧ s.isSet Reg.TWIN.STATUS.MUTED = false ∧ s.rd Reg.MOLT.STATUS.STAGGER = 0 :=
  ⟨({ flying with tick := { flying.tick with num := 7 } } : State).put [(Reg.TWIN.CFG.ROLE, 1), (Reg.TWIN.CFG.LINK_A, 1), (Reg.TWIN.CFG.LINK_B, 2), (Reg.TWIN.STATUS.STATE, 3)], by decide +kernel⟩

theorem witness_MeshAndRoutes_1 : ∃ (h : Hdr) (p : List Byte) (s t : State),
    s.takes 0x0B03 h = true ∧ t = s.stamped h ∧ u8 p 0 = 0 ∧ zeroFrom p 12 = true ∧ 1 ≤ u16 p 2 ∧ u16 p 2 ≤ 16384 ∧ (u16 p 2 = t.meshId ∨ t.liveWhere (fun c => c.d.xdev || c.owner != 0) = []) :=
  ⟨hdr, [0, 0, 7], flying, _, by decide +kernel, rfl, by decide +kernel, by decide +kernel, by decide +kernel, by decide +kernel⟩

theorem witness_MeshAndRoutes_2 : ∃ (h : Hdr) (p : List Byte) (s t : State),
    s.takes 0x0B03 h = true ∧ t = s.stamped h ∧ u8 p 0 = 1 ∧ u8 p 1 ≤ 5 ∧ zeroFrom p 12 = true ∧ 1 ≤ u16 p 4 ∧ u16 p 4 ≤ u16 p 6 ∧ u16 p 6 ≤ 16384 ∧ t.mesh.routes.length < 256 :=
  ⟨hdr, [1, 3, 0, 0, 5, 0, 9, 0, 1], flying, _, by decide +kernel, rfl, by decide +kernel, by decide +kernel, by decide +kernel, by decide +kernel, by decide +kernel⟩

theorem witness_MeshAndRoutes_3 : ∃ (h : Hdr) (p : List Byte) (s t : State),
    s.takes 0x0B03 h = true ∧ t = s.stamped h ∧ u8 p 0 = 2 ∧ zeroFrom p 12 = true ∧ 1 ≤ u16 p 4 ∧ u16 p 4 ≤ u16 p 6 ∧ u16 p 6 ≤ 16384 ∧ t.mesh.routes.any (fun r => r.lo == u16 p 4 && r.hi == u16 p 6) = true :=
  ⟨hdr, [2, 0, 0, 0, 5, 0, 9, 0], { flying with mesh := { flying.mesh with routes := [⟨5, 9, 3, 1⟩] } }, _, by decide +kernel, rfl, by decide +kernel, by decide +kernel, by decide +kernel, by decide +kernel⟩

theorem witness_MeshAndRoutes_4 : ∃ (h : Hdr) (p : List Byte) (s t : State),
    s.takes 0x0B03 h = true ∧ t = s.stamped h ∧ u8 p 0 = 4 ∧ zeroFrom p 12 = true ∧ u16 p 2 ≤ 16384 :=
  ⟨hdr, [4, 0, 9], flying, _, by decide +kernel, rfl, by decide +kernel, by decide +kernel, by decide +kernel⟩

theorem witness_MeshAndRoutes_5 : ∃ (h : Hdr) (p : List Byte) (s t : State),
    s.takes 0x0B03 h = true ∧ t = s.stamped h ∧ u8 p 0 = 3 ∧ u8 p 1 ≤ 5 ∧ u8 p 9 < 12 ∧ zeroFrom p 12 = true :=
  ⟨hdr, [3, 3], flying, _, by decide +kernel, rfl, by decide +kernel, by decide +kernel, by decide +kernel, by decide +kernel⟩

theorem witness_MeshAndRoutes_6 : ∃ (h : Hdr) (p : List Byte) (s t : State),
    s.takes 0x0B04 h = true ∧ t = s.stamped h ∧ noParams p = false :=
  ⟨hdr, [], flying, _, by decide +kernel, rfl, by decide +kernel⟩

theorem witness_MeshAndRoutes_7 : ∃ (h : Hdr) (p : List Byte) (s t : State),
    s.takes 0x0B05 h = true ∧ t = s.stamped h ∧ u32 p 4 = 0 ∧ zeroFrom p 64 = true ∧ t.due.any (fun d => match d.act with | .instar _ _ => true | _ => false) = false :=
  ⟨hdr, [5], flying, _, by decide +kernel, rfl, by decide +kernel, by decide +kernel, by decide +kernel⟩

theorem witness_MeshAndRoutes_8 : ∃ (eff i g : Nat) (st : Nat × Nat) (s : State),
    s.dueNow = [⟨eff, .instar i g, st⟩] :=
  ⟨0, 5, 7, (0, 0), { flying with due := [⟨0, .instar 5 7, (0, 0)⟩] }, by decide +kernel⟩

theorem witness_Supplies_3 : ∃ (b : Bool) (s : State),
    s.isSet Reg.PWR.SUPPLY.SEL ≠ b :=
  ⟨true, flying, by decide +kernel⟩

theorem witness_Supplies_7 : ∃ (cause mc : Nat) (h : Hold) (s : State),
    1 ≤ cause ∧ cause ≤ 5 ∧ mc < 16 :=
  ⟨4, 3, .supply, flying, by decide +kernel⟩

theorem witness_Supplies_8 : ∃ (s : State),
    s.pwr.hold = .supply :=
  ⟨({ flying with pwr := { flying.pwr with hold := .supply } } : State), by decide +kernel⟩

theorem witness_Supplies_10 : ∃ (h : Hdr) (p : List Byte) (va vb ia ib : Nat) (s t : State),
    s.takes 0x0206 h = true ∧ t = s.stamped h ∧ noParams p = false ∧ va = t.rd Reg.PWR.VIN.VIN_A ∧ vb = t.rd Reg.PWR.VIN.VIN_B ∧ ia = t.rd Reg.PWR.IIN.IIN_A ∧ ib = t.rd Reg.PWR.IIN.IIN_B :=
  ⟨hdr, [], 0, 0, 0, 0, flying, _, by decide +kernel, rfl, by decide +kernel, by decide +kernel, by decide +kernel, by decide +kernel, by decide +kernel⟩

theorem witness_DomainsAndPoints_1 : ∃ (h : Hdr) (p : List Byte) (d : Nat) (s t : State),
    s.takes 0x0204 h = true ∧ t = s.stamped h ∧ d = u8 p 0 ∧ 2 ≤ d ∧ d ≤ 29 ∧ domOffers d (u8 p 1) = true ∧ zeroAt p 2 6 = true ∧ zeroFrom p 16 = true ∧ t.domPresent d = true ∧ t.pwr.seqs = [] ∧ t.dom d = u8 p 1 :=
  ⟨hdr, [5, 3], 5, flying, _, by decide +kernel, rfl, by decide +kernel, by decide +kernel, by decide +kernel, by decide +kernel, by decide +kernel, by decide +kernel, by decide +kernel, by decide +kernel⟩

theorem witness_DomainsAndPoints_2 : ∃ (h : Hdr) (p : List Byte) (d st : Nat) (eff : Nat × Nat) (bef : List Nat) (s t : State),
    s.takes 0x0204 h = true ∧ t = s.stamped h ∧ d = u8 p 0 ∧ st = u8 p 1 ∧ 2 ≤ d ∧ d ≤ 29 ∧ domOffers d st = true ∧ zeroAt p 2 6 = true ∧ zeroFrom p 16 = true ∧ t.domPresent d = true ∧ t.pwr.seqs.any (fun q => !q.running && q.dom == d) = false ∧ t.domFinal d ≠ st ∧ eff = effTick (u64 p 8) (t.now + 1) ∧ bef = t.domAfter eff.1 ∧ (st < 2 ∨ (domNeeds d).any (fun n => stAt bef n != 3) = false) ∧ t.behindOk eff.1 (setAt bef d st) = true ∧ (stAt bef d ≠ 3 ∨ st = 3 ∨ ((List.range 30).any (fun x => (domNeeds x).contains d && decide (2 ≤ stAt bef x)) = false ∧ t.domHeldBad d = false ∧ t.domBreaks d = false)) ∧ (st ≤ stAt bef d ∨ (State.raiseFits { t with pwr := { t.pwr with seqs := t.pwr.seqs ++ [{ dom := d, st := st, tick := eff.1, running := true }] } }) = true) :=
  ⟨hdr, [5, 1], 5, 1, (1, 0), (List.range 30).map flying.dom, flying, _, by decide +kernel, rfl, by decide +kernel, by decide +kernel, by decide +kernel, by decide +kernel, by decide +kernel, by decide +kernel, by decide +kernel, by decide +kernel, by decide +kernel, by decide +kernel, by decide +kernel, by decide +kernel, by decide +kernel, by decide +kernel⟩

theorem witness_DomainsAndPoints_3 : ∃ (q : DomSeq) (a b : List DomSeq),
    (∀ x ∈ a, x.running = true ∨ x.tick ≤ q.tick) ∧ (∀ x ∈ b, x.running = false ∧ q.tick < x.tick) :=
  ⟨{ dom := 5, st := 3, tick := 4 }, [{ dom := 6, st := 3, tick := 4 }], [{ dom := 7, st := 3, tick := 5 }], by decide +kernel⟩

theorem witness_DomainsAndPoints_4 : ∃ (q : DomSeq) (qs : List DomSeq) (s s1 : State),
    s.pwr.seqs = q :: qs ∧ q.running = false ∧ q.tick ≤ s.now ∧ s1 = { s with pwr := { s.pwr with seqs := { q with running := true } :: qs } } :=
  ⟨{ dom := 5, st := 3, tick := 0 }, [], ({ flying with pwr := { flying.pwr with seqs := [{ dom := 5, st := 3, tick := 0 }] } } : State), _, by decide +kernel, by decide +kernel, by decide +kernel, rfl⟩

theorem witness_DomainsAndPoints_5 : ∃ (q : DomSeq) (qs : List DomSeq) (s : State),
    s.pwr.seqs = q :: qs ∧ q.running = true ∧ (s.dom q.dom ≠ 3 ∨ q.st = 3 ∨ s.domIdle q.dom = true) ∧ q.st ≤ 3 :=
  ⟨{ dom := 5, st := 3, tick := 0, running := true }, [], ({ flying with pwr := { flying.pwr with seqs := [{ dom := 5, st := 3, tick := 0, running := true }] } } : State), by decide +kernel⟩

theorem witness_DomainsAndPoints_6 : ∃ (q : DomSeq) (qs : List DomSeq) (s : State),
    s.pwr.seqs = q :: qs ∧ s.dom q.dom = 3 ∧ q.st < 3 ∧ s.domIdle q.dom = false :=
  ⟨{ dom := 27, st := 0, tick := 0, running := true }, [], ({ flying with pwr := { flying.pwr with seqs := [{ dom := 27, st := 0, tick := 0, running := true }] } } : State).put [(Reg.LANE.STATUS.PSTATE 5, 0)], by decide +kernel⟩

theorem witness_DomainsAndPoints_7 : ∃ (d st : Nat) (s : State),
    s.dom d ≤ st ∧ st ≤ 3 ∧ d < 30 ∧ d ≠ 4 ∧ s.domPresent d = true :=
  ⟨13, 3, flying, by decide +kernel⟩

theorem witness_DomainsAndPoints_8 : ∃ (h : Hdr) (p : List Byte) (c pt : Nat) (cs : List Nat) (s t : State),
    s.takes 0x0205 h = true ∧ t = s.stamped h ∧ c = u8 p 0 ∧ pt = u8 p 1 ∧ cs = (if c = 0xFF then t.clustersOn else [c]) ∧ (c = 0xFF ∨ (c < 8 ∧ c < t.nClusters ∧ t.domOn (5 + c) = true)) ∧ pt ≤ 3 ∧ zeroAt p 2 6 = true ∧ zeroFrom p 16 = true ∧ (pt ≤ 1 ∨ (t.posture ≠ 2 ∧ t.coolPending = false)) ∧ cs.any (fun k => t.isSet (Reg.PWR.CLU.PEND k)) = false ∧ (cs.any (fun k => decide (pt < t.rd (Reg.PWR.CLU.OP k))) = false ∨ t.fits { t.envNow with op := fun k => if cs.contains k then min (t.envNow.op k) pt else t.envNow.op k } ((t.chargesOf t.live).filter (fun x => x.res != 11)) = true) ∧ (cs.any (fun k => decide (t.rd (Reg.PWR.CLU.OP k) < pt)) = false ∨ (t.isSet Reg.LEDGER.STATUS.THERM_BLOCK = false ∧ t.maintPower { t.envNow with op := fun k => if cs.contains k then max (t.envNow.op k) pt else t.envNow.op k } ≤ t.envNow.cap ∧ t.fits { t.envNow with op := fun k => if cs.contains k then max (t.envNow.op k) pt else t.envNow.op k } ((t.chargesOf t.live).filter (fun x => x.res == 11)) = true)) :=
  ⟨hdr, [5, 0], 5, 0, [5], flying, _, by decide +kernel, rfl, by decide +kernel, by decide +kernel, by decide +kernel, by decide +kernel, by decide +kernel, by decide +kernel, by decide +kernel, by decide +kernel, by decide +kernel, by decide +kernel⟩

theorem witness_DomainsAndPoints_9 : ∃ (c t : Nat) (s : State),
    s.pwr.ops = [(c, t)] ∧ s.now + 1 = t ∧ s.rd (Reg.PWR.CLU.OP c) < s.rd (Reg.PWR.CLU.TARGET c) :=
  ⟨5, 1, ({ flying with pwr := { flying.pwr with ops := [(5, 1)] } } : State).put [(Reg.PWR.CLU.OP 5, 0), (Reg.PWR.CLU.TARGET 5, 2)], by decide +kernel⟩

theorem witness_DomainsAndPoints_10 : ∃ (c t : Nat) (s : State),
    s.pwr.ops = [(c, t)] ∧ t ≤ s.now :=
  ⟨5, 0, ({ flying with pwr := { flying.pwr with ops := [(5, 0)] } } : State), by decide +kernel⟩

theorem witness_DomainsAndPoints_11 : ∃ (c : Nat) (s : State),
    c < 8 :=
  ⟨5, flying, by decide +kernel⟩

theorem witness_DomainsAndPoints_12 : ∃ (c mv : Nat) (s : State),
    c < s.nClusters ∧ s.isSet (Reg.PWR.CLU.SLEWING c) = true :=
  ⟨5, 800, flying.put [(Reg.PWR.CLU.SLEWING 5, 1)], by decide +kernel⟩

theorem witness_ClocksAndTemperature_1 : ∃ (cause : Nat) (forced : Bool) (s : State),
    s.rd Reg.CLK.STATUS.SRC = 0 ∧ s.isSet Reg.CLK.STATUS.RC_RUN = true :=
  ⟨1, true, flying.put [(Reg.CLK.STATUS.SRC, 0), (Reg.CLK.STATUS.RC_RUN, 1)], by decide +kernel⟩

theorem witness_ClocksAndTemperature_2 : ∃ (cause : Nat) (s : State),
    s.rd Reg.CLK.STATUS.SRC = 0 ∧ s.isSet Reg.CLK.STATUS.RC_RUN = false :=
  ⟨1, flying.put [(Reg.CLK.STATUS.SRC, 0), (Reg.CLK.STATUS.RC_RUN, 0)], by decide +kernel⟩

theorem witness_ClocksAndTemperature_3 : ∃ (gap : Nat) (forced : Bool) (s : State),
    s.rd Reg.CLK.STATUS.SRC = 2 :=
  ⟨70000, false, flying.put [(Reg.CLK.STATUS.SRC, 2)], by decide +kernel⟩

theorem witness_ClocksAndTemperature_4 : ∃ (s s1 : State),
    s.rd Reg.CLK.STATUS.SRC = 1 ∧ (s.isSet Reg.CLK.CFG.AUTO_RETURN = true ∨ s.isSet Reg.CLK.CFG.RETURN_REQ = true) ∧ s1 = (((s.wr Reg.CLK.STATUS.SRC 0).wr Reg.CLK.STATUS.MCLK_GOOD 1).wr Reg.CLK.CFG.RETURN_REQ 0).evt Reg.CLK.EVENT.CLOCK_RETURN ∧ s1.mclkLanes = [] :=
  ⟨flying.put [(Reg.CLK.STATUS.SRC, 1), (Reg.CLK.CFG.RETURN_REQ, 1)], ((((flying.put [(Reg.CLK.STATUS.SRC, 1), (Reg.CLK.CFG.RETURN_REQ, 1)]).wr Reg.CLK.STATUS.SRC 0).wr Reg.CLK.STATUS.MCLK_GOOD 1).wr Reg.CLK.CFG.RETURN_REQ 0).evt Reg.CLK.EVENT.CLOCK_RETURN, by decide +kernel⟩

theorem witness_ClocksAndTemperature_5 : ∃ (k : Nat) (s : State),
    k < 16 ∧ s.domOn 1 = true ∧ s.isSet (Reg.CLK.EYE_CFG.BUSY k) = false :=
  ⟨15, flying, by decide +kernel⟩

theorem witness_ClocksAndTemperature_6 : ∃ (k count : Nat) (s s1 : State),
    k < 16 ∧ s.isSet (Reg.CLK.EYE_CFG.BUSY k) = true ∧ s1 = (((s.wr (Reg.CLK.EYE_CFG.BUSY k) 0).flag (Reg.CLK.EYE_CFG.OVF k) (decide (0xFFFFFFFF < count))).wr (Reg.CLK.EYE_COUNT.COUNT k) (min count 0xFFFFFFFF)).evt Reg.CLK.EVENT.EYE_DONE :=
  ⟨15, 7, flying.put [(Reg.CLK.EYE_CFG.BUSY 15, 1)], ((((flying.put [(Reg.CLK.EYE_CFG.BUSY 15, 1)]).wr (Reg.CLK.EYE_CFG.BUSY 15) 0).flag (Reg.CLK.EYE_CFG.OVF 15) false).wr (Reg.CLK.EYE_COUNT.COUNT 15) 7).evt Reg.CLK.EVENT.EYE_DONE, by decide +kernel⟩

theorem witness_ClocksAndTemperature_7 : ∃ (h : Hdr) (p : List Byte) (k : Nat) (s t : State),
    s.takes 0x0207 h = true ∧ t = s.stamped h ∧ k = (if u8 p 2 = 0xFF then ((List.range 16).filter (fun i => !t.isSet (Reg.CLK.EYE_CFG.BUSY i))).getD 0 16 else u8 p 2) ∧ k < 16 ∧ t.isSet (Reg.CLK.EYE_CFG.BUSY k) = false ∧ (t.clockSrc (u8 p 0)).any (fun x => x.1 && t.domOn x.2) = true ∧ (t.clockSrc (u8 p 1)).any (fun x => x.1 && t.domOn x.2) = true ∧ u8 p 0 ≠ 0x7F ∧ u8 p 3 = 0 ∧ u32 p 4 ≠ 0 ∧ t.gateLong (u8 p 1) (u32 p 4) = false ∧ zeroFrom p 8 = true :=
  ⟨hdr, [0, 1, 255, 0, 9], 0, flying, _, by decide +kernel, rfl, by decide +kernel, by decide +kernel, by decide +kernel, by decide +kernel, by decide +kernel, by decide +kernel, by decide +kernel, by decide +kernel, by decide +kernel, by decide +kernel⟩

theorem witness_ClocksAndTemperature_8 : ∃ (h : Hdr) (p : List Byte) (s t : State),
    s.takes 0x0208 h = true ∧ t = s.stamped h ∧ noParams p = false :=
  ⟨hdr, [], flying, _, by decide +kernel, rfl, by decide +kernel⟩

theorem witness_ClocksAndTemperature_10 : ∃ (i : Nat) (x : Int) (s : State),
    i < 16 ∧ -40 ≤ x ∧ x ≤ 125 :=
  ⟨15, -40, flying, by decide +kernel⟩

theorem witness_ClocksAndTemperature_11 : ∃ (s : State),
    ((∃ i < 16, s.sensorPresent i = true ∧ s.isSet (Reg.THERM.SENSOR.VALID i) = true ∧ 105 ≤ signed 8 (s.rd (Reg.THERM.SENSOR.TEMP i)))) :=
  ⟨flying.put [(Reg.THERM.SENSOR.VALID 15, 1), (Reg.THERM.SENSOR.TEMP 15, 105)], by decide +kernel⟩

theorem witness_ClocksAndTemperature_12 : ∃ (sensor : Nat) (s : State),
    s.sensorPresent sensor = true ∧ 2 ≤ SMap.get (fun _ => 0) s.pwr.hot sensor ∧ s.pwr.hold ≠ .thermal :=
  ⟨8, ({ flying with pwr := { flying.pwr with hot := [(8, 2)] } } : State), by decide +kernel⟩

theorem witness_ClocksAndTemperature_13 : ∃ (s : State),
    s.pwr.hold = .thermal ∧ (∀ i < 16, s.sensorPresent i = true → s.isSet (Reg.THERM.SENSOR.VALID i) = true ∧ signed 8 (s.rd (Reg.THERM.SENSOR.TEMP i)) < 95) :=
  ⟨(({ flying with pwr := { flying.pwr with hold := .thermal } } : State) : State).put ((List.range 16).map (fun i => (Reg.THERM.SENSOR.VALID i, 1))), by decide +kernel⟩

theorem witness_ClocksAndTemperature_14 : ∃ (i : Nat) (s : State),
    s.sensorPresent i = true ∧ s.isSet (Reg.THERM.SENSOR.VALID i) = true ∧ 95 ≤ signed 8 (s.rd (Reg.THERM.SENSOR.TEMP i)) :=
  ⟨15, flying.put [(Reg.THERM.SENSOR.VALID 15, 1), (Reg.THERM.SENSOR.TEMP 15, 95)], by decide +kernel⟩

theorem witness_QueriesAndModes_1 : ∃ (h : Hdr) (p : List Byte) (s t : State),
    s.takes 0x0101 h = true ∧ t = s.stamped h ∧ noParams p = false :=
  ⟨hdr, [], flying, _, by decide +kernel, rfl, by decide +kernel⟩

theorem witness_QueriesAndModes_2 : ∃ (h : Hdr) (p : List Byte) (s t : State),
    s.takes 0x0102 h = true ∧ t = s.stamped h ∧ noParams p = false :=
  ⟨hdr, [], flying, _, by decide +kernel, rfl, by decide +kernel⟩

theorem witness_QueriesAndModes_3 : ∃ (h : Hdr) (p : List Byte) (m eff : Nat) (s t : State),
    s.takes 0x0201 h = true ∧ t = s.stamped h ∧ m = u8 p 0 ∧ (m = 0 ∨ (3 ≤ m ∧ m ≤ 5)) ∧ t.boot.pend = none ∧ m ≠ t.mode ∧ t.modeAllowed m = true ∧ t.modeFree m = true ∧ zeroAt p 1 7 = true ∧ zeroFrom p 16 = true ∧ (u64 p 8 = 0 ∨ (m = 0 ∧ t.now < u64 p 8)) ∧ eff = t.now + (if t.slot + 1 < t.slots then 1 else 2) :=
  ⟨hdr, [3], 3, 1, flying, _, by decide +kernel, rfl, by decide +kernel, by decide +kernel, by decide +kernel, by decide +kernel, by decide +kernel, by decide +kernel, by decide +kernel, by decide +kernel, by decide +kernel, by decide +kernel⟩

theorem witness_QueriesAndModes_4 : ∃ (h : Hdr) (p : List Byte) (s t : State),
    s.takes 0x0201 h = true ∧ t = s.stamped h ∧ t.boot.pend.isSome = true :=
  ⟨hdr, [5], { flying with boot := { flying.boot with pend := some (9, 3) } }, _, by decide +kernel, rfl, by decide +kernel⟩

theorem witness_QueriesAndModes_5 : ∃ (h : Hdr) (p : List Byte) (m : Nat) (s t : State),
    s.takes 0x0201 h = true ∧ t = s.stamped h ∧ m = u8 p 0 ∧ (m = 0 ∨ (3 ≤ m ∧ m ≤ 5)) ∧ t.boot.pend = none ∧ m ≠ t.mode ∧ t.modeAllowed m = false :=
  ⟨hdr, [5], 5, flying, _, by decide +kernel, rfl, by decide +kernel, by decide +kernel, by decide +kernel, by decide +kernel, by decide +kernel⟩

theorem witness_QueriesAndModes_6 : ∃ (h : Hdr) (p : List Byte) (m : Nat) (s t : State),
    s.takes 0x0201 h = true ∧ t = s.stamped h ∧ m = u8 p 0 ∧ 3 ≤ m ∧ m ≤ 5 ∧ t.boot.pend = none ∧ m = t.mode ∧ zeroFrom p 1 = true :=
  ⟨hdr, [4], 4, flying, _, by decide +kernel, rfl, by decide +kernel, by decide +kernel, by decide +kernel, by decide +kernel, by decide +kernel⟩

theorem witness_QueriesAndModes_7 : ∃ (h : Hdr) (p : List Byte) (s t : State),
    s.takes 0x0202 h = true ∧ t = s.stamped h ∧ noParams p = false :=
  ⟨hdr, [], flying, _, by decide +kernel, rfl, by decide +kernel⟩

theorem witness_QueriesAndModes_8 : ∃ (s : State) (m : Nat),
    s.lock = 2 :=
  ⟨flying, 3, by decide +kernel⟩

theorem witness_QueriesAndModes_9 : ∃ (t m : Nat) (s s1 : State),
    s.boot.pend = some (t, m) ∧ t ≤ s.now ∧ s1 = { (s.wr Reg.MODE.STATUS.PEND 0).wr Reg.MODE.STATUS.TARGET 0 with boot := { s.boot with pend := none } } :=
  ⟨0, 3, ({ flying with boot := { flying.boot with pend := some (0, 3) } } : State), { ((({ flying with boot := { flying.boot with pend := some (0, 3) } } : State)).wr Reg.MODE.STATUS.PEND 0).wr Reg.MODE.STATUS.TARGET 0 with boot := { flying.boot with pend := none } }, by decide +kernel⟩

theorem witness_QueriesAndModes_10 : ∃ (s : State),
    s.mode = 0 :=
  ⟨({ flying with boot := { flying.boot with wakeTick := 5 }, tick := { flying.tick with num := 5 } } : State).put [(Reg.MODE.STATUS.MODE, 0)], by decide +kernel⟩

theorem witness_QueriesAndModes_11 : ∃ (s : State),
    s.mode = 0 ∧ s.boot.wake = true :=
  ⟨({ flying with boot := { flying.boot with wake := true } } : State).put [(Reg.MODE.STATUS.MODE, 0)], by decide +kernel⟩

theorem witness_StartUp_1 : ∃ (b m o : Nat) (s : State),
    s.pwr.hold = .off ∧ b < 4 ∧ m < 2 ∧ o < 8 :=
  ⟨2, 1, 7, { flying with pwr := { hold := .off } }, by decide +kernel⟩

theorem witness_StartUp_2 : ∃ (e : EclEnv) (s s1 s2 : State),
    s.mode = 1 ∧ s.rd Reg.MODE.STATUS.ECL_STEP = 1 ∧ s.pwr.hold = .none ∧ s.attempts ≠ 3 ∧ s1 = (s.wr Reg.CLK.STATUS.RC_RUN 1).wr Reg.CLK.STATUS.RC_READY 1 ∧ s2 = (s1.flag Reg.CLK.STATUS.MCLK_GOOD e.mclkOk).wr Reg.CLK.STATUS.SRC (if e.mclkOk then 0 else 1) :=
  ⟨{}, flying.put [(Reg.MODE.STATUS.MODE, 1), (Reg.MODE.STATUS.ECL_STEP, 1)], ((flying.put [(Reg.MODE.STATUS.MODE, 1), (Reg.MODE.STATUS.ECL_STEP, 1)]).wr Reg.CLK.STATUS.RC_RUN 1).wr Reg.CLK.STATUS.RC_READY 1, ((((flying.put [(Reg.MODE.STATUS.MODE, 1), (Reg.MODE.STATUS.ECL_STEP, 1)]).wr Reg.CLK.STATUS.RC_RUN 1).wr Reg.CLK.STATUS.RC_READY 1).flag Reg.CLK.STATUS.MCLK_GOOD true).wr Reg.CLK.STATUS.SRC 0, by decide +kernel⟩

theorem witness_StartUp_3 : ∃ (code : Nat) (s : State),
    code < 32 ∧ s.boot.logged = false ∧ s.boot.firstBad = false ∧ s.attempts ≤ 3 :=
  ⟨7, flying, by decide +kernel⟩

theorem witness_StartUp_4 : ∃ (l : List DimmCh) (m c : Nat) (s : State),
    s.domOn 4 = true ∧ s.mcState 0 = 1 ∧ s.mode = 1 ∧ s.rd Reg.MODE.STATUS.ECL_STEP = 6 ∧ (List.range s.nMcs).find? (fun m => (dimmFail (dimmOf l m) (dimmOf l 0)).isSome) = some m ∧ dimmFail (dimmOf l m) (dimmOf l 0) = some c ∧ 0 < s.nMcs :=
  ⟨[], 0, 1, flying.put [(Reg.MODE.STATUS.MODE, 1), (Reg.MODE.STATUS.ECL_STEP, 6), (Reg.MC.STATUS.STATE 0, 1)], by decide +kernel⟩

theorem witness_StartUp_5 : ∃ (l : List DimmCh) (s : State),
    s.domOn 4 = true ∧ s.mcState 0 = 1 ∧ s.mode = 1 ∧ s.rd Reg.MODE.STATUS.ECL_STEP = 6 ∧ (List.range s.nMcs).find? (fun m => (dimmFail (dimmOf l m) (dimmOf l 0)).isSome) = none ∧ 0 < s.nMcs ∧ s.straps.bootSrc = 1 :=
  ⟨(List.range 16).map (fun m => { m := m, dimms := 1 }), { flying.put [(Reg.MODE.STATUS.MODE, 1), (Reg.MODE.STATUS.ECL_STEP, 6), (Reg.MC.STATUS.STATE 0, 1)] with straps := ⟨1, 0, 0⟩ }, by decide +kernel⟩

theorem witness_StartUp_6 : ∃ (s : State),
    s.mode = 1 ∧ s.rd Reg.MODE.STATUS.ECL_STEP = 12 ∧ s.lock = 2 ∧ s.boot.logged = true :=
  ⟨({ flying with boot := { flying.boot with logged := true } } : State).put [(Reg.MODE.STATUS.MODE, 1), (Reg.MODE.STATUS.ECL_STEP, 12)], by decide +kernel⟩

theorem witness_StartUp_7 : ∃ (code : Nat) (s : State),
    s.mode = 1 ∧ 4 ≤ s.rd Reg.MODE.STATUS.ECL_STEP ∧ s.rd Reg.MODE.STATUS.ECL_STEP ≤ 6 ∧ s.pwr.hold = .none ∧ 1 ≤ code ∧ code ≤ 16 :=
  ⟨4, flying.put [(Reg.MODE.STATUS.MODE, 1), (Reg.MODE.STATUS.ECL_STEP, 5)], by decide +kernel⟩

theorem witness_StartUp_8 : ∃ (h : Hdr) (p : List Byte) (s t : State),
    s.takes 0x0E02 h = true ∧ t = s.stamped h ∧ (t.mode = 3 ∨ t.mode = 4) ∧ noParams p = false ∧ t.isSet Reg.MODE.STATUS.CONFIRMED = false :=
  ⟨hdr, [], flying, _, by decide +kernel, rfl, by decide +kernel, by decide +kernel, by decide +kernel⟩

theorem witness_StartUp_9 : ∃ (s : State),
    s.sec.policy = [] ∧ s.rd Reg.MODE.STATUS.RUN_SLOT = 2 :=
  ⟨flying.put [(Reg.MODE.STATUS.RUN_SLOT, 2)], by decide +kernel⟩

theorem witness_StartUp_10 : ∃ (s : State),
    s.isSet Reg.MODE.STATUS.CONFIRMED = false ∧ s.mode ≠ 2 ∧ s.pwr.hold = .none :=
  ⟨flying, by decide +kernel⟩

theorem witness_StartUp_11 : ∃ (h : Hdr) (p : List Byte) (s t : State),
    s.takes 0x0103 h = true ∧ t = s.stamped h ∧ u8 p 0 ≤ 7 ∧ zeroFrom p 1 = true ∧ (t.mode ≠ 4 ∨ bit (u8 p 0) 2 = true ∨ t.inSt (fun c => c == .active || c == .starved || c == .held) = []) :=
  ⟨hdr, [4], flying, _, by decide +kernel, rfl, by decide +kernel, by decide +kernel, by decide +kernel⟩

theorem witness_StartUp_12 : ∃ (s : State),
    s.pwr.hold = .none :=
  ⟨flying, by decide +kernel⟩

theorem witness_StartUp_14 : ∃ (h : Hdr) (p : List Byte) (s t : State),
    s.takes 0x0E01 h = true ∧ t = s.stamped h ∧ noParams p = false :=
  ⟨hdr, [], flying, _, by decide +kernel, rfl, by decide +kernel⟩

theorem witness_BootImages_1 : ∃ (off : Nat) (data : List Byte) (last : Bool) (s : State),
    s.isSet Reg.MODE.STATUS.WAIT_IMAGE = true ∧ s.straps.bootSrc = 2 ∧ off + data.length ≤ 2 ^ 29 :=
  ⟨0, [1], false, { flying.put [(Reg.MODE.STATUS.WAIT_IMAGE, 1)] with straps := ⟨2, 0, 0⟩ }, by decide +kernel⟩

theorem witness_BootImages_2 : ∃ (off : Nat) (data : List Byte) (last : Bool) (s : State),
    s.isSet Reg.MODE.STATUS.WAIT_IMAGE = false :=
  ⟨0, [1], false, flying, by decide +kernel⟩

theorem witness_BootImages_3 : ∃ (h : Hdr) (p b : List Byte) (s t : State),
    s.takes 0x0E03 h = true ∧ t = s.stamped h ∧ u8 p 0 = 3 ∧ u8 p 1 ≤ 3 ∧ zeroAt p 2 6 = true ∧ zeroFrom p 28 = true ∧ u64 p 8 % 64 = 0 ∧ (u32 p 24 % 64 = 0 ∨ bit (u8 p 1) 0 = true) ∧ 1 ≤ u32 p 24 ∧ u32 p 24 ≤ 1048576 ∧ h.spiBad (u64 p 16) (u32 p 24) = false ∧ u64 p 8 + u32 p 24 ≤ 2 ^ 29 ∧ t.isSet Reg.MODE.STATUS.WAIT_IMAGE = true ∧ t.readBuf h (u64 p 16) (u32 p 24) = some b :=
  ⟨hdr, [3, 0, 0, 0, 0, 0, 0, 0] ++ toLe 8 0 ++ toLe 8 4096 ++ toLe 4 64, List.replicate 64 0, flying.put [(Reg.MODE.STATUS.WAIT_IMAGE, 1)], _, by decide +kernel, rfl, by decide +kernel, by decide +kernel, by decide +kernel, by decide +kernel, by decide +kernel, by decide +kernel, by decide +kernel, by decide +kernel, by decide +kernel, by decide +kernel, by decide +kernel⟩

theorem witness_BootImages_4 : ∃ (h : Hdr) (p b : List Byte) (slot size : Nat) (s t : State),
    s.takes 0x0E03 h = true ∧ t = s.stamped h ∧ slot = u8 p 0 ∧ slot ≤ 1 ∧ u8 p 1 ≤ 3 ∧ zeroAt p 2 6 = true ∧ zeroFrom p 28 = true ∧ u64 p 8 % 64 = 0 ∧ (u32 p 24 % 64 = 0 ∨ bit (u8 p 1) 0 = true) ∧ 1 ≤ u32 p 24 ∧ u32 p 24 ≤ 1048576 ∧ h.spiBad (u64 p 16) (u32 p 24) = false ∧ t.isSet Reg.BOOT.FLASH.BUSY = false ∧ (t.rd Reg.MODE.STATUS.RUN_SLOT ≠ slot ∨ (t.mode ≠ 1 ∧ t.mode ≤ 2)) ∧ t.flashNow.map (fun x => x.2.2) = some size ∧ u64 p 8 + u32 p 24 ≤ size * 65536 ∧ t.readBuf h (u64 p 16) (u32 p 24) = some b :=
  ⟨hdr, [1, 0, 0, 0, 0, 0, 0, 0] ++ toLe 8 0 ++ toLe 8 4096 ++ toLe 4 64, List.replicate 64 0, 1, 16, { flying with boot := { flying.boot with flash := Memory.writeN [] 0 (toLe 4 0x4446575A ++ toLe 2 1 ++ [0, 0] ++ toLe 4 16 ++ toLe 4 0 ++ toLe 4 (crc32c (toLe 4 0x4446575A ++ toLe 2 1 ++ [0, 0] ++ toLe 4 16 ++ toLe 4 0))) } }, _, by decide +kernel, rfl, by decide +kernel, by decide +kernel, by decide +kernel, by decide +kernel, by decide +kernel, by decide +kernel, by decide +kernel, by decide +kernel, by decide +kernel, by decide +kernel, by decide +kernel, by decide +kernel, by decide +kernel, by decide +kernel⟩

theorem witness_BootImages_5 : ∃ (h : Hdr) (p : List Byte) (s t : State),
    s.takes 0x0E04 h = true ∧ t = s.stamped h ∧ u8 p 0 ≤ 1 ∧ zeroFrom p 1 = true ∧ t.isSet Reg.BOOT.FLASH.BUSY = false ∧ t.flashNow.isSome = true :=
  ⟨hdr, [1], { flying with boot := { flying.boot with flash := Memory.writeN [] 0 (toLe 4 0x4446575A ++ toLe 2 1 ++ [0, 0] ++ toLe 4 16 ++ toLe 4 0 ++ toLe 4 (crc32c (toLe 4 0x4446575A ++ toLe 2 1 ++ [0, 0] ++ toLe 4 16 ++ toLe 4 0))) } }, _, by decide +kernel, rfl, by decide +kernel, by decide +kernel, by decide +kernel, by decide +kernel⟩

theorem witness_Interrupts_1 : ∃ (n g : Nat) (b : Bool) (s : State),
    n < 2048 ∧ s.userSrc n = false ∧ g = n / 32 ∧ s.rd (Reg.INTC.STATE.STATE g) = 0 ∧ s.grpView g ≠ 0 :=
  ⟨768, 24, true, flying.put [(⟨Reg.TICK.EVENT, 0, 1⟩, 1), (Reg.INTC.MASK.MASK 24, 0)], by decide +kernel⟩

theorem witness_Interrupts_2 : ∃ (n : Nat) (b : Bool) (s : State),
    n < 2048 ∧ s.userSrc n = true :=
  ⟨1504, true, flying, by decide +kernel⟩

theorem witness_Interrupts_3 : ∃ (g : Nat) (s : State),
    (s.rd (Reg.INTC.STATE.STATE g) ≠ 0 ∨ s.grpView g = 0) :=
  ⟨24, flying.put [(Reg.INTC.STATE.STATE 24, 2)], by decide +kernel⟩

theorem witness_Interrupts_4 : ∃ (g : Nat) (s : State),
    g < 64 ∧ s.rd (Reg.INTC.STATE.STATE g) = 1 :=
  ⟨24, flying.put [(Reg.INTC.STATE.STATE 24, 1)], by decide +kernel⟩

theorem witness_Interrupts_5 : ∃ (g : Nat) (s : State),
    g < 64 :=
  ⟨24, flying, by decide +kernel⟩

theorem witness_Interrupts_7 : ∃ (c e : Nat) (s : State),
    1 ≤ c ∧ c ≤ 4 :=
  ⟨4, 255, flying, by decide +kernel⟩

theorem witness_Interrupts_8 : ∃ (s : State),
    s.intc.link ≠ 0 ∧ s.intc.msiWait = [] :=
  ⟨({ flying with intc := { flying.intc with link := 2 } } : State), by decide +kernel⟩

theorem witness_Interrupts_9 : ∃ (v w : Nat) (s : State),
    s.intc.link ≠ 0 ∧ s.intc.msiWait = [v, w] :=
  ⟨5, 4, ({ flying with intc := { flying.intc with link := 3, msiWait := [5, 4] } } : State), by decide +kernel⟩

theorem witness_Interrupts_10 : ∃ (g e : Nat) (s : State),
    g < 64 ∧ s.rd (Reg.INTC.STATE.STATE g) = 2 ∧ e < 256 ∧ s.domOn (5 + e / 32) = true ∧ s.grpOf e = some g :=
  ⟨24, 255, flying.put [(Reg.INTC.STATE.STATE 24, 2), (Reg.INTC.ROUTE.KIND 24, 3), (Reg.INTC.ROUTE.TARGET 24, 255)], by decide +kernel⟩

theorem witness_Interrupts_11 : ∃ (g v : Nat) (s : State),
    g < 64 ∧ v % 4 ≠ 3 ∧ v < 2 ^ 32 :=
  ⟨63, 0x4001, flying, by decide +kernel⟩

theorem witness_Interrupts_12 : ∃ (g x v : Nat) (s : State),
    g < 64 ∧ x < 64 ∧ x ≠ g ∧ v % 4 = 3 ∧ s.rd (Reg.INTC.ROUTE.KIND x) = 3 ∧ s.rd (Reg.INTC.ROUTE.TARGET x) = v / 256 % 256 :=
  ⟨63, 0, 0x503, flying.put [(Reg.INTC.ROUTE.KIND 0, 3), (Reg.INTC.ROUTE.TARGET 0, 5)], by decide +kernel⟩

theorem witness_MailboxesAndLocks_1 : ∃ (m o v : Nat) (h : HalfAt) (s : State),
    s.offPresent o = true ∧ s.offOn o = true ∧ halfAt o = some h ∧ o - h.base < 0x40 ∧ o % 4 = 0 :=
  ⟨5, 0x30004, 7, ⟨.h2c, 0x30000, 0⟩, flying, by decide +kernel⟩

theorem witness_MailboxesAndLocks_2 : ∃ (m o v : Nat) (h : HalfAt) (s : State),
    s.offPresent o = true ∧ s.offOn o = true ∧ halfAt o = some h ∧ o = h.base + 0x40 ∧ o % 4 = 0 ∧ s.receiver h m = false ∧ h.sender m = true ∧ s.claimedBy h m = false :=
  ⟨5, 0x30040, 1, ⟨.h2c, 0x30000, 0⟩, flying, by decide +kernel⟩

theorem witness_MailboxesAndLocks_3 : ∃ (m o v : Nat) (h : HalfAt) (s : State),
    s.offPresent o = true ∧ s.offOn o = true ∧ halfAt o = some h ∧ o = h.base + 0x40 ∧ o % 4 = 0 ∧ s.receiver h m = true :=
  ⟨1, 0x30040, 1, ⟨.h2c, 0x30000, 0⟩, flying, by decide +kernel⟩

theorem witness_MailboxesAndLocks_4 : ∃ (m o v : Nat) (h : HalfAt) (s : State),
    s.offPresent o = true ∧ s.offOn o = true ∧ halfAt o = some h ∧ o = h.base + 0x40 ∧ o % 4 = 0 ∧ s.receiver h m = false ∧ (h.sender m = false ∨ s.claimedBy h m = true) :=
  ⟨20, 0x30040, 1, ⟨.h2c, 0x30000, 0⟩, flying, by decide +kernel⟩

theorem witness_MailboxesAndLocks_5 : ∃ (m o v : Nat) (h : HalfAt) (s : State),
    s.offPresent o = true ∧ s.offOn o = true ∧ halfAt o = some h ∧ o = h.base + 0x48 ∧ o % 4 = 0 :=
  ⟨1, 0x30048, 7, ⟨.h2c, 0x30000, 0⟩, flying, by decide +kernel⟩

theorem witness_MailboxesAndLocks_6 : ∃ (m o code : Nat) (h : HalfAt) (s : State),
    s.offPresent o = true ∧ s.offOn o = true ∧ halfAt o = some h ∧ o = h.base + 0x48 ∧ o % 4 = 0 ∧ s.receiver h m = true ∧ s.isSet h.pending = true ∧ code < 0xFFFD ∧ h.kind ≠ .recv :=
  ⟨1, 0x30048, 7, ⟨.h2c, 0x30000, 0⟩, flying.put [(HalfAt.pending ⟨.h2c, 0x30000, 0⟩, 1)], by decide +kernel⟩

theorem witness_MailboxesAndLocks_7 : ∃ (m o code k : Nat) (h : HalfAt) (s : State),
    s.offPresent o = true ∧ s.offOn o = true ∧ halfAt o = some h ∧ o = h.base + 0x48 ∧ o % 4 = 0 ∧ s.receiver h m = true ∧ s.isSet h.pending = true ∧ code < 0xFFFD ∧ h.kind = .recv ∧ s.linkTo (s.rd h.meshId) = some k :=
  ⟨1, 0x31FC8, 7, 2, ⟨.recv, 0x31F80, 15⟩, { flying.put [(Reg.DOLMET.LINK_STATUS.STATE 2, 3), (HalfAt.pending ⟨.recv, 0x31F80, 15⟩, 1), (HalfAt.meshId ⟨.recv, 0x31F80, 15⟩, 9)] with mesh := { flying.mesh with routes := [⟨0, 9, 2, 1⟩] } }, by decide +kernel⟩

theorem witness_MailboxesAndLocks_8 : ∃ (code : Nat) (s : State),
    code < 2 ^ 16 ∧ s.isSet (HalfAt.cross ⟨.h2c, 0x30000, 0⟩) = false :=
  ⟨65535, flying, by decide +kernel⟩

theorem witness_MailboxesAndLocks_9 : ∃ (o : Nat) (h : HalfAt) (s : State),
    s.offPresent o = true ∧ s.offOn o = true ∧ halfAt o = some h ∧ h.kind ≠ .recv :=
  ⟨0x30000, ⟨.h2c, 0x30000, 0⟩, flying, by decide +kernel⟩

theorem witness_MailboxesAndLocks_10 : ∃ (f : MailFrame) (s : State),
    f.m < 16 ∧ s.domOn 1 = true ∧ f.ack = true ∧ s.isSet (HalfAt.pending ⟨.send, 0x31000 + 0x100 * f.m, f.m⟩) = true ∧ s.rd (HalfAt.meshId ⟨.send, 0x31000 + 0x100 * f.m, f.m⟩) = f.src :=
  ⟨{ m := 15, from_ := 0, src := 9, ack := true }, flying.put [(HalfAt.pending ⟨.send, 0x31F00, 15⟩, 1), (HalfAt.meshId ⟨.send, 0x31F00, 15⟩, 9)], by decide +kernel⟩

theorem witness_MailboxesAndLocks_11 : ∃ (f : MailFrame) (h : HalfAt) (s : State),
    f.m < 16 ∧ s.domOn 1 = true ∧ f.ack = false ∧ h = ⟨.recv, 0x31080 + 0x100 * f.m, f.m⟩ ∧ s.isSet h.pending = false :=
  ⟨{ m := 15, from_ := 0, src := 9 }, ⟨.recv, 0x31F80, 15⟩, flying, by decide +kernel⟩

theorem witness_MailboxesAndLocks_12 : ∃ (m o : Nat) (s : State),
    s.offPresent o = true ∧ s.offOn o = true ∧ lockOff o = true ∧ o % 4 = 0 ∧ m ≠ 0 ∧ m ≠ 6 ∧ lockReach m o = true :=
  ⟨5, 0x30800, flying, by decide +kernel⟩

theorem witness_MailboxesAndLocks_13 : ∃ (o : Nat) (s : State),
    s.offPresent o = true ∧ s.offOn o = true ∧ lockOff o = true ∧ o % 4 = 0 :=
  ⟨0x30800, flying, by decide +kernel⟩

theorem witness_MailboxesAndLocks_14 : ∃ (m o v : Nat) (s : State),
    s.offPresent o = true ∧ s.offOn o = true ∧ lockOff o = true ∧ o % 4 = 0 ∧ m ≠ 0 ∧ lockReach m o = true :=
  ⟨5, 0x30800, 0, flying, by decide +kernel⟩

theorem witness_HaltsAndForcedLocks_1 : ∃ (s : State),
    s.pwr.hold = .none :=
  ⟨flying, by decide +kernel⟩

theorem witness_HaltsAndForcedLocks_2 : ∃ (s : State),
    s.pwr.hold = .wire :=
  ⟨{ flying with pwr := { flying.pwr with hold := .wire } }, by decide +kernel⟩

theorem witness_HaltsAndForcedLocks_3a : ∃ (us u : Nat) (s : State),
    s.pwr.hold ≠ .off ∧ 100 ≤ us ∧ us ≤ 800 :=
  ⟨100, 4, flying, by decide +kernel⟩

theorem witness_HaltsAndForcedLocks_3b : ∃ (us u : Nat) (s : State),
    s.pwr.hold ≠ .off ∧ 100 ≤ us ∧ us ≤ 800 :=
  ⟨800, 1000, flying, by decide +kernel⟩

theorem witness_HaltsAndForcedLocks_4 : ∃ (m l : Nat) (s : State),
    l < 4 ∧ s.offPresent Reg.DBG.AUTH = true ∧ s.offOn Reg.DBG.AUTH = true :=
  ⟨6, 2, flying, by decide +kernel⟩

theorem witness_HaltsAndForcedLocks_5 : ∃ (m : Nat) (s : State),
    s.offPresent Reg.DBG.AUTH = true ∧ s.offOn Reg.DBG.AUTH = true ∧ s.chalLive = false :=
  ⟨6, flying, by decide +kernel⟩

theorem witness_HaltsAndForcedLocks_6 : ∃ (m : Nat) (c : Chal) (b : List Byte) (s : State),
    s.offPresent Reg.DBG.AUTH = true ∧ s.offOn Reg.DBG.AUTH = true ∧ s.chalLive = true ∧ s.sec.chal = some c ∧ b = (List.range 48).flatMap (fun i => toLe 4 (s.reg (Reg.DBG.RESP i)).toNat) :=
  ⟨5, ⟨[], 1, 0⟩, List.replicate 192 0, { flying with sec := { flying.sec with chal := some ⟨[], 1, 0⟩ } }, by decide +kernel⟩

theorem witness_HaltsAndForcedLocks_7 : ∃ (m e : Nat) (s : State),
    e < 256 ∧ s.offPresent Reg.DBG.ENG_CTRL = true ∧ s.offOn Reg.DBG.ENG_CTRL = true ∧ s.dbgLevel = 2 ∧ s.engPresent e = true ∧ s.engOn e = true ∧ s.engState e = engRunning :=
  ⟨6, 31, flying.put [(Reg.DBG.STATUS.LEVEL, 2), (Reg.ENG.STATUS.STATE 31, 2)], by decide +kernel⟩

theorem witness_HaltsAndForcedLocks_8 : ∃ (m e : Nat) (s : State),
    e < 256 ∧ m ≠ 6 ∧ s.offPresent Reg.DBG.ENG_CTRL = true ∧ s.offOn Reg.DBG.ENG_CTRL = true ∧ s.dbgLevel ≠ 2 :=
  ⟨5, 255, flying, by decide +kernel⟩

theorem witness_HaltsAndForcedLocks_9 : ∃ (e : Nat) (s : State),
    (s.engine e).haltReq = true ∧ s.engOn e = true ∧ (s.engine e).free = true ∧ s.inSpec e = false ∧ e < 256 :=
  ⟨31, (flying.put [(Reg.ENG.STATUS.STATE 31, 2)]).updEngine 31 (fun x => { x with haltReq := true }), by decide +kernel⟩

theorem witness_HaltsAndForcedLocks_10 : ∃ (m e : Nat) (s : State),
    e < 256 ∧ s.offPresent Reg.DBG.ENG_CTRL = true ∧ s.offOn Reg.DBG.ENG_CTRL = true ∧ s.dbgLevel = 2 ∧ s.engPresent e = true ∧ s.engOn e = true ∧ s.engState e = engHalted ∧ (s.engine e).prior < 8 :=
  ⟨6, 255, (flying.put [(Reg.DBG.STATUS.LEVEL, 2), (Reg.ENG.STATUS.STATE 255, engHalted)]), by decide +kernel⟩

theorem witness_HaltsAndForcedLocks_11 : ∃ (m e v : Nat) (s : State),
    s.rd Reg.DBG.ENG_CTRL.ENGINE = e ∧ s.offPresent Reg.DBG.ENG_STAT = true ∧ s.offOn Reg.DBG.ENG_STAT = true ∧ s.dbgLevel = 2 ∧ s.engPresent e = true ∧ s.engOn e = true ∧ s.engState e = engHalted :=
  ⟨6, 7, 2047, (flying.put [(Reg.DBG.STATUS.LEVEL, 2), (Reg.ENG.STATUS.STATE 7, engHalted), (Reg.DBG.ENG_CTRL.ENGINE, 7)]), by decide +kernel⟩

theorem witness_HaltsAndForcedLocks_12 : ∃ (m mask : Nat) (s : State),
    s.offPresent Reg.DBG.CORE_CTRL = true ∧ s.offOn Reg.DBG.CORE_CTRL = true ∧ s.dbgLevel = 2 ∧ mask < 16 :=
  ⟨6, 15, flying.put [(Reg.DBG.STATUS.LEVEL, 2)], by decide +kernel⟩

theorem witness_HaltsAndForcedLocks_13 : ∃ (k : Nat) (s : State),
    1 ≤ k ∧ k ≤ 4 ∧ bit s.xp.coreHaltReq (k - 1) = true :=
  ⟨4, { flying with xp := { flying.xp with coreHaltReq := 8 } }, by decide +kernel⟩

theorem witness_HaltsAndForcedLocks_14 : ∃ (m mask : Nat) (s : State),
    s.offPresent Reg.DBG.CORE_CTRL = true ∧ s.offOn Reg.DBG.CORE_CTRL = true ∧ s.dbgLevel = 2 :=
  ⟨6, 15, { flying.put [(Reg.DBG.STATUS.LEVEL, 2)] with xp := { (flying.put [(Reg.DBG.STATUS.LEVEL, 2)]).xp with coreHalt := 15, coreHaltReq := 3 } }, by decide +kernel⟩

theorem witness_HaltsAndForcedLocks_15 : ∃ (m : Nat) (s : State),
    s.offPresent Reg.DBG.CORE_CTRL = true ∧ s.offOn Reg.DBG.CORE_CTRL = true ∧ s.dbgLevel = 2 ∧ s.xp.coreHalt < 16 ∧ s.xp.coreHaltReq < 16 ∧ s.xp.replies = [] ∧ s.intc.coreWait = [] ∧ s.xp.held = [] :=
  ⟨6, { flying.put [(Reg.DBG.STATUS.LEVEL, 2)] with xp := { (flying.put [(Reg.DBG.STATUS.LEVEL, 2)]).xp with coreHalt := 15, coreHaltReq := 3 } }, by decide +kernel⟩

theorem witness_HaltsAndForcedLocks_16 : ∃ (m n : Nat) (s : State),
    s.offPresent Reg.DBG.LOCK_FORCE = true ∧ s.offOn Reg.DBG.LOCK_FORCE = true ∧ s.dbgLevel = 2 ∧ n < 64 ∧ s.offPresent (Reg.LK n) = true ∧ s.offOn (Reg.LK n) = true ∧ (s.reg (Reg.LK n)).field 0 9 ≠ 0 :=
  ⟨6, 63, (flying.put [(Reg.DBG.STATUS.LEVEL, 2)]).setReg (Reg.LK 63) 5, by decide +kernel⟩

theorem witness_SelfTestAndRepair_1 : ∃ (h : Hdr) (p : List Byte) (d k : Nat) (s t : State),
    s.takes 0x0C01 h = true ∧ t = s.stamped h ∧ d = u8 p 0 ∧ k = u8 p 1 ∧ 2 ≤ d ∧ d ≤ 29 ∧ k ≤ 2 ∧ zeroFrom p 2 = true ∧ t.dbg.run = none ∧ (t.mode = 5 ∨ t.mode = 2) ∧ t.domPresent d = true ∧ (List.range 30).any (fun x => (domNeeds x).contains d && t.dom x != 0) = false :=
  ⟨hdr, [5, 2], 5, 2, flying.put [(Reg.MODE.STATUS.MODE, 5)], _, by decide +kernel, rfl, by decide +kernel, by decide +kernel, by decide +kernel, by decide +kernel, by decide +kernel, by decide +kernel, by decide +kernel, by decide +kernel, by decide +kernel⟩

theorem witness_SelfTestAndRepair_2 : ∃ (h : Hdr) (p : List Byte) (s t : State),
    s.takes 0x0C01 h = true ∧ t = s.stamped h ∧ t.dbg.run.isSome = true :=
  ⟨hdr, [5, 2], { flying with dbg := { flying.dbg with run := some (5, 0, true) } }, _, by decide +kernel, rfl, by decide +kernel⟩

theorem witness_SelfTestAndRepair_3 : ∃ (h : Hdr) (p : List Byte) (s t : State),
    s.takes 0x0C01 h = true ∧ t = s.stamped h ∧ t.dbg.run = none ∧ t.mode ≠ 5 ∧ t.mode ≠ 2 :=
  ⟨hdr, [5, 2], flying, _, by decide +kernel, rfl, by decide +kernel, by decide +kernel⟩

theorem witness_SelfTestAndRepair_4 : ∃ (h : Hdr) (p : List Byte) (d : Nat) (s t : State),
    s.takes 0x0C01 h = true ∧ t = s.stamped h ∧ d = u8 p 0 ∧ 2 ≤ d ∧ d ≤ 29 ∧ u8 p 1 ≤ 2 ∧ zeroFrom p 2 = true ∧ t.dbg.run = none ∧ (t.mode = 5 ∨ t.mode = 2) ∧ t.domPresent d = true ∧ (List.range 30).any (fun x => (domNeeds x).contains d && t.dom x != 0) = true :=
  ⟨hdr, [3, 2], 3, flying.put [(Reg.MODE.STATUS.MODE, 5)], _, by decide +kernel, rfl, by decide +kernel, by decide +kernel, by decide +kernel, by decide +kernel, by decide +kernel, by decide +kernel, by decide +kernel, by decide +kernel⟩

theorem witness_SelfTestAndRepair_5 : ∃ (d k : Nat) (both : Bool) (s : State),
    d < 32 ∧ k < 2 :=
  ⟨5, 1, true, flying, by decide +kernel⟩

theorem witness_SelfTestAndRepair_6 : ∃ (sig d : Nat) (fails : List (Nat × Nat)) (s : State),
    sig < 2 ^ 64 ∧ s.dbg.run = some (d, 0, true) :=
  ⟨7, 5, [], { flying with dbg := { flying.dbg with run := some (5, 0, true) } }, by decide +kernel⟩

theorem witness_SelfTestAndRepair_7 : ∃ (sig d k : Nat) (fails : List (Nat × Nat)) (s : State),
    sig < 2 ^ 64 ∧ s.dbg.run = some (d, k, false) ∧ k < 2 :=
  ⟨7, 5, 1, [], { flying with dbg := { flying.dbg with run := some (5, 1, false) } }, by decide +kernel⟩

theorem witness_SelfTestAndRepair_8 : ∃ (h : Hdr) (p : List Byte) (d k : Nat) (s t : State),
    s.takes 0x0C02 h = true ∧ t = s.stamped h ∧ d = u8 p 0 ∧ k = u8 p 1 ∧ 2 ≤ d ∧ d ≤ 29 ∧ k ≤ 1 ∧ zeroAt p 2 6 = true ∧ zeroFrom p 20 = true ∧ (u64 p 8 = 0 ∨ (8 * (t.candsOf d).length ≤ u32 p 16 ∧ h.spiBad (u64 p 8) (u32 p 16) = false)) ∧ t.domPresent d = true :=
  ⟨hdr, [29, 1], 29, 1, flying, _, by decide +kernel, rfl, by decide +kernel, by decide +kernel, by decide +kernel, by decide +kernel, by decide +kernel, by decide +kernel, by decide +kernel, by decide +kernel⟩

theorem witness_SelfTestAndRepair_9 : ∃ (h : Hdr) (p : List Byte) (c b k : Nat) (x : Cand) (s u : State),
    s.takes 0x0C03 h = true ∧ u = s.stamped h ∧ c = u8 p 0 ∧ b = u8 p 1 ∧ k = u8 p 2 ∧ c < 8 ∧ b < 32 ∧ zeroFrom p 3 = true ∧ u.dbgLevel = 2 ∧ u.mode = 5 ∧ c < u.nClusters ∧ u.regsOn (5 + c) = true ∧ x ∈ u.dbg.cands ∧ x.cluster = c ∧ x.bank = b ∧ x.col = k ∧ u.isSet Reg.LEDGER.STATUS.THERM_BLOCK = false ∧ u.sparesUsed c b < 2 :=
  ⟨hdr, [0, 31, 255], 0, 31, 255, ⟨0, 31, 255, 0⟩, { flying.put [(Reg.DBG.STATUS.LEVEL, 2), (Reg.MODE.STATUS.MODE, 5)] with dbg := { (flying.put [(Reg.DBG.STATUS.LEVEL, 2), (Reg.MODE.STATUS.MODE, 5)]).dbg with cands := [⟨0, 31, 255, 0⟩] } }, _, by decide +kernel, rfl, by decide +kernel, by decide +kernel, by decide +kernel, by decide +kernel, by decide +kernel, by decide +kernel, by decide +kernel, by decide +kernel, by decide +kernel, by decide +kernel, by decide +kernel, by decide +kernel, by decide +kernel⟩

theorem witness_SelfTestAndRepair_10 : ∃ (h : Hdr) (p : List Byte) (c b k : Nat) (s t : State),
    s.takes 0x0C03 h = true ∧ t = s.stamped h ∧ c = u8 p 0 ∧ b = u8 p 1 ∧ k = u8 p 2 ∧ c < 8 ∧ b < 32 ∧ zeroFrom p 3 = true ∧ t.dbgLevel = 2 ∧ t.mode = 5 ∧ c < t.nClusters ∧ t.regsOn (5 + c) = true ∧ (t.dbg.cands.any (fun x => x.cluster == c && x.bank == b && x.col == k) = false ∨ t.sparesUsed c b = 2) :=
  ⟨hdr, [0, 31, 255], 0, 31, 255, flying.put [(Reg.DBG.STATUS.LEVEL, 2), (Reg.MODE.STATUS.MODE, 5)], _, by decide +kernel, rfl, by decide +kernel, by decide +kernel, by decide +kernel, by decide +kernel, by decide +kernel, by decide +kernel, by decide +kernel, by decide +kernel, by decide +kernel, by decide +kernel⟩

theorem witness_SelfTestAndRepair_11 : ∃ (h : Hdr) (p : List Byte) (s t : State),
    s.takes 0x0C03 h = true ∧ t = s.stamped h ∧ t.dbgLevel ≠ 2 :=
  ⟨hdr, [], flying, _, by decide +kernel, rfl, by decide +kernel⟩

theorem witness_BusAccesses_1a : ∃ (m o v : Nat) (s : State),
    1 ≤ m ∧ m ≤ 6 ∧ o % 4 = 0 ∧ 0x100000 ≤ o ∧ o < 0x1000000 ∧ (o < 0x200000 → o % 0x20000 ≠ 4) ∧ v < 2 ^ 32 ∧ s.offPresent o = true :=
  ⟨5, 0x100150, 64, flying, by decide +kernel⟩

theorem witness_BusAccesses_1b : ∃ (m o v : Nat) (s : State),
    1 ≤ m ∧ m ≤ 6 ∧ o % 4 = 0 ∧ 0x100000 ≤ o ∧ o < 0x1000000 ∧ (o < 0x200000 → o % 0x20000 ≠ 4) ∧ v < 2 ^ 32 ∧ s.offPresent o = true :=
  ⟨1, 0x200000, 0, flying, by decide +kernel⟩

theorem witness_BusAccesses_2 : ∃ (m o v : Nat) (s : State),
    o % 4 = 0 ∧ o < 0x2000000 ∧ s.offPresent o = false :=
  ⟨5, 0x1E0150, 64, { flying with ident := { flying.ident with variant := 3 } }, by decide +kernel⟩

theorem witness_BusAccesses_3 : ∃ (m o : Nat) (s : State),
    1 ≤ m ∧ m ≤ 4 :=
  ⟨4, 0x100150, flying, by decide +kernel⟩

theorem witness_BusAccesses_4 : ∃ (v : Nat) (w : Word) (f : FSpec),
    1 ≤ f.w ∧ f.lsb + f.w ≤ 32 :=
  ⟨0xFFFF, 0, ⟨0, 16, .rw, 1, 8⟩, by decide +kernel⟩

theorem witness_BusAccesses_5a : ∃ (m o : Nat) (s : State),
    1 ≤ m ∧ m ≤ 6 ∧ o % 4 = 0 ∧ s.offPresent o = true :=
  ⟨5, 0x100154, flying, by decide +kernel⟩

theorem witness_BusAccesses_5b : ∃ (m o : Nat) (s : State),
    1 ≤ m ∧ m ≤ 6 ∧ o % 4 = 0 ∧ s.offPresent o = true :=
  ⟨6, 0x100154, flying, by decide +kernel⟩

theorem witness_BusAccesses_6 : ∃ (n : Nat) (s : State),
    n < 24 :=
  ⟨23, flying, by decide +kernel⟩

theorem witness_BusAccesses_7 : ∃ (o : Nat) (r : RegSpec) (f : FSpec) (s : State),
    specOf o = some r ∧ f ∈ r.flds ∧ f.ty = .rc ∧ f.lsb + f.w ≤ 32 :=
  ⟨0x100154, _, ⟨16, 2, .rc, 0, 3⟩, flying, rfl, by decide +kernel, rfl, by decide⟩

theorem witness_BusAccesses_8 : ∃ (c x : Nat) (b : List Byte) (s : State),
    c < s.nClusters ∧ c < 8 ∧ x + b.length ≤ 2 ^ 23 ∧ s.regsOn (5 + c) = true ∧ b ≠ [] :=
  ⟨7, 0x7FFFFF, [1], flying, by decide +kernel⟩

theorem witness_BusAccesses_9 : ∃ (e x : Nat) (b : List Byte) (s : State),
    s.engPresent e = true ∧ e < 256 ∧ x < 2 ^ 16 ∧ x + b.length ≤ 2 ^ 16 ∧ s.engOn e = true :=
  ⟨255, 0xFFFF, [1], flying, by decide +kernel⟩

theorem witness_BusAccesses_10 : ∃ (c x : Nat) (b : List Byte) (s : State),
    x < 2 ^ 24 ∧ c < 8 ∧ (2 ^ 23 ≤ x ∨ s.nClusters ≤ c) :=
  ⟨7, 0x800000, [1], flying, by decide +kernel⟩

theorem witness_DebugWire_1 : ∃ (f : DbgFrame) (s : State),
    s.pwr.hold ≠ .off ∧ s.isSet Reg.DBG.STATUS.SESSION = true ∧ f.cells = true ∧ s.dbg.last = none ∧ crc8 (frmBody f) 72 0 = f.crc.toNat ∧ f.late = false ∧ f.collide = false ∧ frmOp f = 0 ∧ frmSpace f = 0 ∧ frmDestr f = false ∧ f.addr.toNat % 4 = 0 ∧ f.addr.toNat < 0x20000 ∧ s.offPresent f.addr.toNat = true ∧ s.offOn f.addr.toNat = true :=
  ⟨({ hdr := 0, addr := 4, data := 0, crc := 143 } : DbgFrame), flying.put [(Reg.DBG.STATUS.SESSION, 1)], by decide +kernel⟩

theorem witness_DebugWire_2 : ∃ (f : DbgFrame) (s : State),
    s.pwr.hold ≠ .off ∧ s.isSet Reg.DBG.STATUS.SESSION = true ∧ f.cells = true ∧ s.dbg.last = none ∧ crc8 (frmBody f) 72 0 = f.crc.toNat ∧ f.late = false ∧ f.collide = false ∧ frmOp f = 1 ∧ frmSpace f = 0 ∧ s.dbgLevel = 2 ∧ f.addr.toNat % 4 = 0 ∧ f.addr.toNat < 0x2000000 ∧ s.offPresent f.addr.toNat = true ∧ s.offOn f.addr.toNat = true :=
  ⟨({ hdr := 64, addr := 1048912, data := 64, crc := 221 } : DbgFrame), flying.put [(Reg.DBG.STATUS.SESSION, 1), (Reg.DBG.STATUS.LEVEL, 2)], by decide +kernel⟩

theorem witness_DebugWire_3 : ∃ (f : DbgFrame) (s : State),
    s.pwr.hold ≠ .off ∧ s.isSet Reg.DBG.STATUS.SESSION = true ∧ f.cells = true ∧ s.dbg.last = none ∧ crc8 (frmBody f) 72 0 = f.crc.toNat ∧ f.late = false ∧ f.collide = false ∧ frmOp f = 2 ∧ f.addr = 0 :=
  ⟨({ hdr := 128, addr := 0, data := 0, crc := 52 } : DbgFrame), flying.put [(Reg.DBG.STATUS.SESSION, 1)], by decide +kernel⟩

theorem witness_DebugWire_4 : ∃ (f : DbgFrame) (s : State),
    s.pwr.hold ≠ .off ∧ s.isSet Reg.DBG.STATUS.SESSION = true ∧ f.cells = true ∧ s.dbg.last = none ∧ crc8 (frmBody f) 72 0 = f.crc.toNat ∧ f.late = false ∧ f.collide = false ∧ frmOp f = 1 ∧ frmSpace f = 0 ∧ s.dbgLevel = 0 ∧ f.addr.toNat % 4 = 0 ∧ f.addr.toNat < 0xE0000 :=
  ⟨({ hdr := 64, addr := 393232, data := 64, crc := 35 } : DbgFrame), flying.put [(Reg.DBG.STATUS.SESSION, 1)], by decide +kernel⟩

theorem witness_DebugWire_5 : ∃ (f : DbgFrame) (s : State),
    s.pwr.hold ≠ .off ∧ s.isSet Reg.DBG.STATUS.SESSION = true ∧ f.cells = true ∧ s.dbg.last = none ∧ f.collide = false ∧ frmOp f = 0 ∧ crc8 (frmBody f) 72 0 ≠ f.crc.toNat :=
  ⟨{ hdr := 0, addr := 4, crc := 1 }, flying.put [(Reg.DBG.STATUS.SESSION, 1)], by decide +kernel⟩

theorem witness_DebugWire_6 : ∃ (f : DbgFrame) (s : State),
    s.pwr.hold ≠ .off ∧ s.isSet Reg.DBG.STATUS.SESSION = true ∧ f.cells = true ∧ s.dbg.last = none ∧ crc8 (frmBody f) 72 0 = f.crc.toNat ∧ f.late = false ∧ f.collide = false ∧ frmOp f = 3 :=
  ⟨({ hdr := 192, addr := 0, data := 0, crc := 46 } : DbgFrame), flying.put [(Reg.DBG.STATUS.SESSION, 1)], by decide +kernel⟩

theorem witness_DebugWire_7 : ∃ (f : DbgFrame) (st : Nat) (d : Word) (s : State),
    s.pwr.hold ≠ .off ∧ s.isSet Reg.DBG.STATUS.SESSION = true ∧ f.cells = true ∧ f.collide = false ∧ frmOp f = 1 ∧ s.dbg.last = some (frmBits f, st, d) :=
  ⟨{ hdr := 64, addr := 4, crc := 1 }, 5, 0, { flying.put [(Reg.DBG.STATUS.SESSION, 1)] with dbg := { flying.dbg with last := some (2 ^ 78 + 4 * 2 ^ 40 + 1, 5, 0) } }, by decide +kernel⟩

theorem witness_DebugWire_8 : ∃ (f : DbgFrame) (s : State),
    s.pwr.hold ≠ .off ∧ s.isSet Reg.DBG.STATUS.SESSION = true ∧ f.cells = false ∧ frmOp f = 1 :=
  ⟨{ hdr := 64, addr := 4, crc := 1, cells := false }, flying.put [(Reg.DBG.STATUS.SESSION, 1)], by decide +kernel⟩

theorem witness_DebugWire_9 : ∃ (f : DbgFrame) (s : State),
    s.isSet Reg.DBG.STATUS.SESSION = false :=
  ⟨{ hdr := 64, addr := 4, crc := 1 }, flying, by decide +kernel⟩

theorem witness_DebugRepeat_1 : ∃ (f : DbgFrame) (s : State),
    s.pwr.hold ≠ .off ∧ s.isSet Reg.DBG.STATUS.SESSION = true ∧ f.cells = true ∧ s.dbg.last.map (·.1) ≠ some (frmBits f) :=
  ⟨{ hdr := 64, addr := 4, crc := 1 }, flying.put [(Reg.DBG.STATUS.SESSION, 1)], by decide +kernel⟩

theorem witness_DebugRepeat_2 : ∃ (f : DbgFrame) (st : Nat) (d : Word) (s : State),
    s.pwr.hold ≠ .off ∧ s.isSet Reg.DBG.STATUS.SESSION = true ∧ f.cells = true ∧ f.collide = false ∧ s.dbg.last = some (frmBits f, st, d) :=
  ⟨{ hdr := 64, addr := 4, crc := 1 }, 5, 0, { flying.put [(Reg.DBG.STATUS.SESSION, 1)] with dbg := { flying.dbg with last := some (2 ^ 78 + 4 * 2 ^ 40 + 1, 5, 0) } }, by decide +kernel⟩

theorem witness_LockRules_1 : ∃ (o : Nat),
    o % 4 = 0 :=
  ⟨0x30800, by decide +kernel⟩

theorem witness_LockRules_2 : ∃ (m o : Nat) (s : State),
    s.offPresent o = true ∧ s.offOn o = true ∧ lockOff o = true ∧ o % 4 = 0 ∧ m ≠ 0 ∧ m < 512 ∧ m ≠ 6 ∧ lockReach m o = true ∧ (s.reg o).field 0 9 = 0 :=
  ⟨5, 0x30800, flying, by decide +kernel⟩

theorem witness_LockRules_3 : ∃ (m o : Nat) (s : State),
    s.offPresent o = true ∧ s.offOn o = true ∧ lockOff o = true ∧ o % 4 = 0 ∧ m ≠ 0 ∧ m < 512 ∧ (s.reg o).field 0 9 ≠ 0 :=
  ⟨5, 0x30BFC, flying.setReg 0x30BFC 5, by decide +kernel⟩

theorem witness_LockRules_4 : ∃ (m o : Nat) (s : State),
    s.offPresent o = true ∧ s.offOn o = true ∧ lockOff o = true ∧ o % 4 = 0 ∧ m ≠ 0 ∧ m < 512 ∧ lockReach m o = true ∧ (s.reg o).field 0 9 = m :=
  ⟨5, 0x30BFC, flying.setReg 0x30BFC 5, by decide +kernel⟩

theorem witness_LockRules_5 : ∃ (m o v : Nat) (s : State),
    s.offPresent o = true ∧ s.offOn o = true ∧ lockOff o = true ∧ o % 4 = 0 ∧ m ≠ 0 ∧ m < 512 ∧ ((s.reg o).field 0 9 ≠ m ∨ v % 512 ≠ 0) :=
  ⟨5, 0x30BFC, 5, flying.setReg 0x30BFC 5, by decide +kernel⟩

theorem witness_LockRules_6 : ∃ (e m n c : Nat),
    e < 256 ∧ n < 256 ∧ c < 8 ∧ 1 ≤ m ∧ (m < 16 ∨ 272 ≤ m) :=
  ⟨255, 5, 255, 7, by decide +kernel⟩

theorem witness_Rounding_1 : ∃ (x k : Int) (n : Nat),
    1 ≤ n :=
  ⟨-5, 0, 1, by decide +kernel⟩

theorem witness_Rounding_4 : ∃ (e : Nat) (d a n b : BitVec 5) (s : State),
    s.clear e = true ∧ n ≠ 0 :=
  ⟨3, 4, 1, 31, 2, (({ flying with eng := { flying.eng with eng := [(3, { nb := 9, sreg := [(1, 7), (2, 5)] })] } } : State).put [(Reg.ENG.STATUS.STATE 3, 2), (Reg.ENG.STATUS.PC 3, 2)]), by decide +kernel⟩

theorem witness_Rounding_5 : ∃ (e : Nat) (m : BitVec 2) (d a b n : BitVec 5) (sat rnd bx : Bool) (s : State),
    s.clear e = true ∧ m ≠ 3 ∧ n.toNat < laneW m.toNat :=
  ⟨3, 0, 4, 1, 2, 15, true, true, true, (({ flying with eng := { flying.eng with eng := [(3, { nb := 9, sreg := [(1, 7), (2, 5)] })] } } : State).put [(Reg.ENG.STATUS.STATE 3, 2), (Reg.ENG.STATUS.PC 3, 2)]), by decide +kernel⟩

theorem witness_Rounding_6 : ∃ (e : Nat) (d b : BitVec 5) (ac : BitVec 2) (n : BitVec 6) (bx : Bool) (s : State),
    s.clear e = true ∧ n.toNat ≤ 47 :=
  ⟨3, 4, 1, 3, 47, true, (({ flying with eng := { flying.eng with eng := [(3, { nb := 9, sreg := [(1, 7), (2, 5)] })] } } : State).put [(Reg.ENG.STATUS.STATE 3, 2), (Reg.ENG.STATUS.PC 3, 2)]), by decide +kernel⟩

theorem witness_DueOrder_5 : ∃ (k : Act → Bool) (s : State),
    s.dueNow.any (fun d => k d.act) = true :=
  ⟨fun _ => true, { State.reset with due := [⟨0, .release 5, (0, 0)⟩] }, by decide +kernel⟩

theorem witness_DueOrder_6 : ∃ (k : Act → Bool) (s : State),
    s.dueNow.any (fun d => k d.act) = false :=
  ⟨fun _ => true, State.reset, by decide +kernel⟩

end
end

section
/-! Vector and multiply-accumulate operations alone in their bundle, and the rounding shift (R250–R252). -/

namespace Sys2Proof.Machine

/-! ## The rounding shift -/

theorem roundShr_zero (x : Int) : roundShr x 0 = x := rfl

theorem roundShr_succ (x : Int) (k : Nat) : roundShr x (k + 1) = (x + 2 ^ k) / 2 ^ (k + 1) := rfl

/-- A half goes towards plus infinity. -/
theorem roundShr_half (k : Int) (n : Nat) : roundShr (k * 2 ^ (n + 1) + 2 ^ n) (n + 1) = k + 1 := by
  have hnum : k * 2 ^ (n + 1) + 2 ^ n + 2 ^ n = (k + 1) * (2 : Int) ^ (n + 1) := by ring
  rw [roundShr_succ, hnum, Int.mul_ediv_cancel _ (by positivity)]

/-- Twice the defining bounds of the floor of x / 2^n + 1/2. -/
theorem roundShr_bounds (x : Int) (n : Nat) :
    2 ^ (n + 2) * roundShr x (n + 1) ≤ 2 * x + 2 ^ (n + 1) ∧ 2 * x + 2 ^ (n + 1) < 2 ^ (n + 2) * (roundShr x (n + 1) + 1) := by
  have hlo := Int.mul_ediv_self_le (x := x + 2 ^ n) (k := 2 ^ (n + 1)) (by positivity)
  have hhi := Int.lt_mul_ediv_self_add (x := x + 2 ^ n) (k := 2 ^ (n + 1)) (by positivity)
  rw [← roundShr_succ] at hlo hhi
  constructor
  · calc (2 : Int) ^ (n + 2) * roundShr x (n + 1) = 2 * (2 ^ (n + 1) * roundShr x (n + 1)) := by ring
      _ ≤ 2 * (x + 2 ^ n) := by omega
      _ = 2 * x + 2 ^ (n + 1) := by ring
  · calc 2 * x + (2 : Int) ^ (n + 1) = 2 * (x + 2 ^ n) := by ring
      _ < 2 * (2 ^ (n + 1) * roundShr x (n + 1) + 2 ^ (n + 1)) := by omega
      _ = 2 ^ (n + 2) * (roundShr x (n + 1) + 1) := by ring

/-- The arithmetic shift of a word is the floor of its signed value's quotient. -/
theorem sshiftRight_eq_ediv (a : Word) (n : Nat) : a.sshiftRight n = BitVec.ofInt 32 (a.toInt / 2 ^ n) := by
  rw [BitVec.sshiftRight_eq, Int.shiftRight_eq_div_pow]; rfl

/-! ## A vector result in flight -/

theorem vLand_latency {lat d : Nat} {bx : Bool} {r : VRes} : ∀ f ∈ vLand lat d bx r, f.1 = lat := by
  intro f hf
  simp only [vLand, List.mem_append, List.mem_singleton] at hf
  obtain (rfl | hf) | hf := hf
  · rfl
  all_goals
    split at hf <;> simp only [List.mem_singleton, List.not_mem_nil] at hf
    rw [hf]

theorem vLand_aged (lat d : Nat) (bx : Bool) (r : VRes) :
    (vLand (lat + 1) d bx r).map (fun f => (f.1 - 1, f.2)) = vLand lat d bx r := by
  simp only [vLand, List.map_append, apply_ite (List.map _), List.map_cons, List.map_nil, Nat.add_sub_cancel]

/-! ## One operation alone in its bundle -/

/-- A legal bundle whose only results land after its own cycle leaves them in flight, one cycle older. -/
theorem State.issue_later {s : State} {e : Nat} {b : Bundle} {vf mf : List (Nat × Landing)} (hc : s.clear e = true)
    (hi : s.illegal e b = false) (hs : b.s = {}) (hl : b.l = {})
    (hv : ∀ t : State, t = s.updEngine e (fun x => { x with openB := {} }) → t.vSlot e b.v = vf)
    (hm : ∀ t : State, t = s.updEngine e (fun x => { x with openB := {} }) → t.mSlot e b.m = mf)
    (hlat : ∀ f ∈ vf ++ mf, 1 < f.1) :
    Passes e { s.engine e with fly := (vf ++ mf).map (fun f => (f.1 - 1, f.2)) } s (s.nextPc e) (s.issue e b) := by
  have h := State.issue_only (lands := []) (lf := []) hc hi (fun t _ => hs ▸ State.sSlot_nop t e) (fun t _ => hl ▸ State.lSlot_nop t e) hv hm
  have hnone : (vf ++ mf).filter (fun f : Nat × Landing => decide (f.1 ≤ 1)) = [] := by
    rw [List.filter_eq_nil_iff]
    intro f hf
    simpa using hlat f hf
  simp only [List.map_nil, List.nil_append, hnone] at h
  rwa [Eng.cycled_later _ _ hlat] at h

/-- A legal vector operation alone in its bundle: its result lands after the next bundle (R250). -/
theorem State.inV_only {s : State} {e : Nat} {o : SlotOp} {r : VRes} (hc : s.clear e = true) (hop : o.op ≠ 0) (hi : vIllegal o = false)
    (hr : vCalc o ((s.engine e).vec_ o.a) ((s.engine e).vec_ o.b) ((s.engine e).vec_ o.d)
      ((s.engine e).s_ (!s.inHandler e) (if o.op = 0x0F then o.a else o.b)) = r) :
    Passes e { s.engine e with fly := vLand 1 o.d o.bx r } s (s.nextPc e) (s.inV e false o) := by
  have hil : s.illegal e { v := o } = false := by
    simp [State.illegal, clash_v, hi, mIllegal_nop, State.sIllegal_nop, State.placeIllegal_clear hc]
  have hv : ∀ t : State, t = s.updEngine e (fun x => { x with openB := {} }) → t.vSlot e o = vLand 2 o.d o.bx r := by
    rintro _ rfl
    simp only [State.vSlot, if_neg hop, State.engine_updEngine_same, ← hr]
    rfl
  have h := State.issue_later (b := { v := o }) hc hil rfl rfl hv (fun t _ => State.mSlot_nop t e)
    (fun f hf => by rw [List.append_nil] at hf; rw [vLand_latency f hf]; decide)
  rw [List.append_nil, vLand_aged] at h
  rw [State.inV, State.place_clear hc]
  exact h

/-- A legal multiply-accumulate operation alone in its bundle that writes a vector register: its result lands three bundles later (R251). -/
theorem State.inM_only {s : State} {e : Nat} {o : SlotOp} {d : Nat} {bx : Bool} {r : VRes} (hc : s.clear e = true) (hi : mIllegal o = false)
    (hm : ∀ t : State, t = s.updEngine e (fun x => { x with openB := {} }) → t.mSlot e o = vLand 4 d bx r) :
    Passes e { s.engine e with fly := vLand 3 d bx r } s (s.nextPc e) (s.inM e false o) := by
  have hil : s.illegal e { m := o } = false := by
    simp [State.illegal, clash_m, hi, vIllegal_nop, State.sIllegal_nop, State.placeIllegal_clear hc]
  have h := State.issue_later (b := { m := o }) hc hil rfl rfl (fun t _ => State.vSlot_nop t e) hm
    (fun f hf => by rw [List.nil_append] at hf; rw [vLand_latency f hf]; decide)
  rw [List.nil_append, vLand_aged] at h
  rw [State.inM, State.place_clear hc]
  exact h

/-- A scalar operation alone in its bundle that writes one register (R244). -/
theorem State.inS_sreg {s : State} {e : Nat} {o : SlotOp} {v : Word} (hc : s.clear e = true) (hi : s.sIllegal e o = false)
    (hs : ∀ t : State, t = s.updEngine e (fun x => { x with openB := {} }) → t.sSlot e o = ([.sreg (!s.inHandler e) o.d v], .plain)) :
    Passes e ((s.engine e).land (.sreg (!s.inHandler e) o.d v)) s (s.nextPc e) (s.inS e false o) :=
  State.inS_only hc hi hs

/-! ## The instructions that shift right -/

section
variable {s : State} {e : Nat} (hc : s.clear e = true)
include hc

theorem exec_sRsh (d a : BitVec 5) {n : BitVec 5} (hn : n ≠ 0) : ∃ t, exec (.sRsh e false d a n) s = .next t ∧
    Passes e ((s.engine e).land (.sreg (!s.inHandler e) d.toNat (BitVec.ofInt 32 (roundShr (s.sreg e a).toInt n.toNat)))) s (s.nextPc e) t := by
  have hmod : n.toNat % 32 = n.toNat := Nat.mod_eq_of_lt n.isLt
  have hn0 : n.toNat ≠ 0 := by simpa [← BitVec.toNat_inj] using hn
  refine ⟨_, rfl, State.inS_sreg hc ?_ ?_⟩
  · simp [State.sIllegal, isBranch, isLoop, hmod, hn0]
  · rintro _ rfl
    simp only [State.sSlot, State.engine_updEngine_same, sAlu, sImm, hmod]
    rfl

theorem exec_sSra (d a b : BitVec 5) : ∃ t, exec (.sSra e false d a b) s = .next t ∧
    Passes e ((s.engine e).land (.sreg (!s.inHandler e) d.toNat
      (BitVec.ofInt 32 ((s.sreg e a).toInt / 2 ^ ((s.sreg e b).toNat % 32))))) s (s.nextPc e) t := by
  refine ⟨_, rfl, State.inS_sreg hc ?_ ?_⟩
  · simp [State.sIllegal, isBranch, isLoop]
  · rintro _ rfl
    simp only [State.sSlot, State.engine_updEngine_same, sAlu, sshiftRight_eq_ediv]
    rfl

theorem exec_vSra {m : BitVec 2} (d a : BitVec 5) {n : BitVec 5} (rnd bx : Bool) (hm : m ≠ 3) (hn : n.toNat < laneW m.toNat) :
    ∃ t, exec (.vSra e false m d a n rnd bx) s = .next t ∧ Passes e { s.engine e with fly := vLand 1 d.toNat bx ⟨laneW m.toNat,
      (lanes (laneW m.toNat) (s.vreg e a)).map (fun x => if rnd then roundShr x n.toNat else x / 2 ^ n.toNat), false⟩ } s (s.nextPc e) t := by
  have hm3 : m.toNat ≠ 3 := by simpa [← BitVec.toNat_inj] using hm
  refine ⟨_, rfl, State.inV_only hc (show 0x0A ≠ 0 by decide) ?_ rfl⟩
  simp [vIllegal, hm3, hn]

theorem exec_vMul {m : BitVec 2} (d a b n : BitVec 5) (sat rnd bx : Bool) (hm : m ≠ 3) :
    ∃ t, exec (.vMul e false m d a b n sat rnd bx) s = .next t ∧ Passes e { s.engine e with fly := vLand 1 d.toNat bx ⟨laneW m.toNat,
      List.zipWith (fun (x y : Int) => if rnd then roundShr (x * y) n.toNat else (x * y) / 2 ^ n.toNat) (lanes (laneW m.toNat) (s.vreg e a))
        (lanes (laneW m.toNat) (s.vreg e b)), sat⟩ } s (s.nextPc e) t := by
  have hm3 : m.toNat ≠ 3 := by simpa [← BitVec.toNat_inj] using hm
  refine ⟨_, rfl, State.inV_only hc (show 0x03 ≠ 0 by decide) ?_ rfl⟩
  simp [vIllegal, hm3]

theorem exec_mExt (d : BitVec 5) (ac : BitVec 2) {n : BitVec 6} (bx : Bool) (hn : n.toNat ≤ 47) :
    ∃ t, exec (.mExt e false d ac n bx) s = .next t ∧ Passes e { s.engine e with
      fly := vLand 3 d.toNat bx ⟨16, (s.acc e ac).map (fun x => roundShr x n.toNat), true⟩ } s (s.nextPc e) t := by
  refine ⟨_, rfl, State.inM_only hc ?_ ?_⟩
  · simpa [mIllegal] using hn
  · rintro _ rfl
    simp only [State.mSlot, State.engine_updEngine_same]
    rfl

theorem exec_mExtr (d : BitVec 5) (ac : BitVec 2) (b : BitVec 5) (bx : Bool) :
    ∃ t, exec (.mExtr e false d ac b bx) s = .next t ∧ Passes e { s.engine e with
      fly := vLand 3 d.toNat bx ⟨16, (s.acc e ac).map (fun x => roundShr x (min ((s.sreg e b).toNat % 64) 47)), true⟩ } s (s.nextPc e) t := by
  refine ⟨_, rfl, State.inM_only hc rfl ?_⟩
  rintro _ rfl
  simp only [State.mSlot, State.engine_updEngine_same]
  rfl

end

end Sys2Proof.Machine

open Sys2Proof Sys2Proof.Machine

/-- Settles O59: the value by the floor's bounds, then one bundle of each shifting instruction (R252). -/
theorem rounding : Obligations.Rounding := by
  unfold Obligations.Rounding
  refine ⟨?value, roundShr_zero, by decide, ?scalar, ?vector, ?extract⟩
  case value =>
    intro x k n hn
    obtain ⟨m, rfl⟩ : ∃ m, n = m + 1 := ⟨n - 1, by omega⟩
    obtain ⟨hlo, hhi⟩ := roundShr_bounds x m
    refine ⟨?_, hlo, hhi, roundShr_half k m⟩
    rw [roundShr_succ, Int.shiftRight_eq_div_pow]
    rfl
  case scalar => exact fun e d a n b s hc hn => ⟨exec_sRsh hc d a hn, exec_sSra hc d a b⟩
  case vector => exact fun e m d a b n sat rnd bx s hc hm hn => ⟨exec_vSra hc d a rnd bx hm hn, exec_vMul hc d a b n sat rnd bx hm⟩
  case extract => exact fun e d b ac n bx s hc hn => ⟨exec_mExt hc d ac bx hn, exec_mExtr hc d ac b bx⟩

end

section
/-! Transactions of the debug wire and the record kept of the latest (R529–R533). -/

namespace Sys2Proof.Machine

/-! ## The response leaves, and the record stays -/

/-- The state once the response to a transaction is kept (R533). -/
def State.dbgKeep (s : State) (f : DbgFrame) (st : Nat) (d : Word) : State :=
  { s with dbg := { s.dbg with last := some (frmBits f, st, d) } }

@[simp] theorem State.dbgKeep_last (s : State) (f : DbgFrame) (st : Nat) (d : Word) :
    (s.dbgKeep f st d).dbg.last = some (frmBits f, st, d) := rfl

@[simp] theorem State.dbgKeep_out (s : State) (f : DbgFrame) (st : Nat) (d : Word) : (s.dbgKeep f st d).out = s.out := rfl

/-- A collision is counted and raised in registers only, so the record is kept for a resend (R532, R533). -/
@[simp] theorem State.dbgSend_dbg (s : State) (f : DbgFrame) (st : Nat) (d : Word) : (s.dbgSend f st d).dbg = s.dbg := by
  unfold State.dbgSend
  split
  case isTrue => rw [State.evt_dbg, State.bump_dbg]
  case isFalse => rw [State.emit_dbg]

theorem State.dbgSend_of_not_collide {f : DbgFrame} (hcol : f.collide = false) (s : State) (st : Nat) (d : Word) :
    s.dbgSend f st d = s.emit (.debugRsp st d) := by
  simp [State.dbgSend, hcol]

/-! ## A whole transaction in an open session -/

section
variable {f : DbgFrame} {s : State} (hhold : s.pwr.hold ≠ .off) (hses : s.isSet Reg.DBG.STATUS.SESSION = true) (hcells : f.cells = true)
include hhold hses hcells

/-- One equal to the latest in all 80 bits sends the kept response and does nothing else (R533). -/
theorem State.dbgFrame_of_last_eq {st : Nat} {d : Word} (hlast : s.dbg.last = some (frmBits f, st, d)) :
    s.dbgFrame f = s.dbgSend f st d := by
  simp [State.dbgFrame, hhold, hses, hcells, hlast]

/-- Any other one runs, and its own response is kept and sent (R532, R533). -/
theorem State.dbgFrame_of_last_ne (hlast : s.dbg.last.map (·.1) ≠ some (frmBits f)) :
    s.dbgFrame f = ((s.dbgRun f).1.dbgKeep f (s.dbgRun f).2.1 (s.dbgRun f).2.2).dbgSend f (s.dbgRun f).2.1 (s.dbgRun f).2.2 := by
  rcases hrec : s.dbg.last with _ | ⟨b, st, d⟩
  case none => simp [State.dbgFrame, State.dbgKeep, hhold, hses, hcells, hrec]
  case some =>
    have hb : b ≠ frmBits f := by simpa [hrec] using hlast
    simp [State.dbgFrame, State.dbgKeep, hhold, hses, hcells, hrec, hb]

end

/-! ## The three rows -/

theorem exec_debugRead (f : DbgFrame) (s : State) : exec (.debugRead f) s = execDebugRead f s := rfl
theorem exec_debugWrite (f : DbgFrame) (s : State) : exec (.debugWrite f) s = execDebugWrite f s := rfl
theorem exec_debugWake (f : DbgFrame) (s : State) : exec (.debugWake f) s = execDebugWake f s := rfl

/-- Each of the three rows takes the transactions of its own operations, and treats them alike (R530). -/
theorem exec_debug_of_dbgFrame {f : DbgFrame} {s t : State} (h : s.dbgFrame f = t) :
    (frmOp f = 0 ∨ frmOp f = 3 → exec (.debugRead f) s = .next t) ∧ (frmOp f = 1 → exec (.debugWrite f) s = .next t) ∧
      (frmOp f = 2 → exec (.debugWake f) s = .next t) := by
  refine ⟨fun hop => ?read, fun hop => ?write, fun hop => ?wake⟩
  case read => rw [exec_debugRead, execDebugRead, if_pos hop, h]
  case write => rw [exec_debugWrite, execDebugWrite, if_pos hop, h]
  case wake => rw [exec_debugWake, execDebugWake, if_pos hop, h]

end Sys2Proof.Machine

open Sys2Proof Sys2Proof.Machine

/-- Settles O57: what a transaction amounts to when the kept record differs from it and when it equals it (R533). -/
theorem debugRepeat : Obligations.DebugRepeat := by
  unfold Obligations.DebugRepeat
  refine ⟨?fresh, ?again⟩
  case fresh =>
    intro f s hhold hses hcells hlast
    obtain ⟨hread, hwrite, hwake⟩ := exec_debug_of_dbgFrame (State.dbgFrame_of_last_ne hhold hses hcells hlast)
    refine ⟨_, _, _, hread, hwrite, hwake, Prod.mk.eta.symm, ?kept, fun hcol => ?sent⟩
    case kept => rw [State.dbgSend_dbg, State.dbgKeep_last]
    case sent => rw [State.dbgSend_of_not_collide hcol, State.emit_out, State.dbgKeep_out]
  case again =>
    intro f st d s hhold hses hcells hcol hlast
    exact exec_debug_of_dbgFrame
      ((State.dbgFrame_of_last_eq hhold hses hcells hlast).trans (State.dbgSend_of_not_collide hcol s st d))

end

section
set_option Elab.async false
/-! The queue of waiting commands: no operation of the model touches it (00_scope.md). One lemma for each operation that returns a state, an
answer or an outcome, in the order of the model's files; the rows of the table follow, and with them what a step does to the queue. -/

namespace Sys2Proof.Machine

/-! ## The queue under branches, loops and outcomes -/

/-- The row ends in a next state, and that state has the queue of `s`. -/
def KeepsQueue (s : State) (r : Res) : Prop := ∃ t, r = .next t ∧ t.pending = s.pending

@[simp] theorem keepsQueue_next (s t : State) : KeepsQueue s (.next t) ↔ t.pending = s.pending := by
  simp [KeepsQueue]

@[simp] theorem keepsQueue_ite (s : State) (c : Prop) [Decidable c] (a b : Res) :
    KeepsQueue s (if c then a else b) ↔ if c then KeepsQueue s a else KeepsQueue s b := by
  split <;> rfl

@[simp] theorem State.pending_ite (c : Prop) [Decidable c] (a b : State) :
    (if c then a else b).pending = if c then a.pending else b.pending :=
  apply_ite State.pending c a b

@[simp] theorem Ans.st_ite (c : Prop) [Decidable c] (a b : Ans) : (if c then a else b).st = if c then a.st else b.st :=
  apply_ite Ans.st c a b

/-- A loop whose every turn keeps the queue keeps it. -/
@[simp] theorem State.pending_foldl {α : Type} {f : State → α → State} (hf : ∀ t a, (f t a).pending = t.pending) (l : List α) (s : State) :
    (l.foldl f s).pending = s.pending := by
  induction l generalizing s with
  | nil => rfl
  | cons a l ih => exact (ih _).trans (hf s a)

/-! ## Ops -/

@[simp] theorem Ans.say_pending (s : State) (status effect : Nat) (result : List Byte) :
    (Ans.say s status effect result).st.pending = s.pending := by
  simp [Ans.say]
@[simp] theorem Ans.err_pending (s : State) (status : Nat) : (Ans.err s status).st.pending = s.pending := by simp [Ans.err]
@[simp] theorem Ans.ok_pending (s : State) : (Ans.ok s).st.pending = s.pending := by simp [Ans.ok]
@[simp] theorem Ans.wait_pending (s : State) : (Ans.wait s).st.pending = s.pending := by simp [Ans.wait]
@[simp] theorem Ans.check_pending {s : State} {go : Ans} (l : List (Bool × Nat)) (hgo : go.st.pending = s.pending) :
    (Ans.check s l go).st.pending = s.pending := by
  unfold Ans.check
  split
  · rfl
  · exact hgo

@[simp] theorem State.answer_pending (s : State) (h : Hdr) (status effect : Nat) (result : List Byte) :
    (s.answer h status effect result).pending = s.pending := by
  simp only [State.answer]
  split <;> simp

/-- A delivered answer leaves the queue of the state it answers from. -/
@[simp] theorem State.deliver_pending (h : Hdr) (a : Ans) : (State.deliver h a).pending = a.st.pending := by
  unfold State.deliver
  split
  · rw [State.answer_pending]
  · rfl

@[simp] theorem State.writeBuf_pending (s : State) (h : Hdr) (a : Nat) (bytes : List Byte) :
    (s.writeBuf h a bytes).pending = s.pending := by
  simp only [State.writeBuf]
  split <;> simp
@[simp] theorem State.dataErr_pending (s : State) (h : Hdr) : (s.dataErr h).st.pending = s.pending := by
  simp only [State.dataErr]
  split <;> simp
@[simp] theorem State.enterStarved_pending (s : State) (i : Nat) : (s.enterStarved i).pending = s.pending := by simp [State.enterStarved]
@[simp] theorem State.leaveDegraded_pending (s : State) (st : CSt) : (s.leaveDegraded st).pending = s.pending := by
  simp [State.leaveDegraded]
@[simp] theorem State.dropWork_pending (s : State) (i : Nat) : (s.dropWork i).pending = s.pending := by simp [State.dropWork]
@[simp] theorem State.enterReleased_pending (s : State) (i : Nat) : (s.enterReleased i).pending = s.pending := by simp [State.enterReleased]
@[simp] theorem State.hold_pending (s : State) (i : Nat) (h : HoldCause) (till : Option Nat) : (s.hold i h till).pending = s.pending := by
  simp only [State.hold]
  split <;> simp
@[simp] theorem State.ceaseHold_pending (s : State) (i : Nat) (h : HoldCause) : (s.ceaseHold i h).pending = s.pending := by
  simp [State.ceaseHold]
@[simp] theorem State.endHolds_pending (s : State) (i : Nat) : (s.endHolds i).pending = s.pending := by simp [State.endHolds]
@[simp] theorem State.holdAll_pending (s : State) (l : List Nat) (h : HoldCause) (till : Option Nat) :
    (s.holdAll l h till).pending = s.pending := by
  simp [State.holdAll]
@[simp] theorem State.loseSource_pending (s : State) (i k : Nat) : (s.loseSource i k).pending = s.pending := by simp [State.loseSource]
@[simp] theorem State.regainSource_pending (s : State) (i k : Nat) : (s.regainSource i k).pending = s.pending := by
  simp [State.regainSource]
@[simp] theorem State.countMiss_pending (s : State) (i dst : Nat) : (s.countMiss i dst).pending = s.pending := by simp [State.countMiss]
@[simp] theorem State.opSwitch_pending (s : State) (c op : Nat) : (s.opSwitch c op).pending = s.pending := by simp [State.opSwitch]
@[simp] theorem State.setMode_pending (s : State) (m : Nat) : (s.setMode m).pending = s.pending := by simp [State.setMode]
@[simp] theorem State.orphan_pending (s : State) (master : Nat) : (s.orphan master).pending = s.pending := by simp [State.orphan]
@[simp] theorem State.addCand_pending (s : State) (c bank col src : Nat) : (s.addCand c bank col src).pending = s.pending := by
  simp [State.addCand]
@[simp] theorem State.flushCores_pending (s : State) (run : Nat → Bool) : (s.flushCores run).pending = s.pending := by
  simp [State.flushCores]
@[simp] theorem State.abortPosted_pending (s : State) (o : Nat) : (s.abortPosted o).pending = s.pending := by simp [State.abortPosted]
@[simp] theorem State.engAccessFault_pending (s : State) (e o : Nat) : (s.engAccessFault e o).pending = s.pending := by
  simp [State.engAccessFault]
@[simp] theorem State.refuseAccess_pending (s : State) (m o : Nat) (write : Bool) : (s.refuseAccess m o write).pending = s.pending := by
  simp [State.refuseAccess]

@[simp] theorem State.accessR_pending {s t : State} (m o : Nat) (ht : t.pending = s.pending) : (s.accessR m o t).pending = s.pending := by
  simp [State.accessR, ht]

@[simp] theorem State.access_pending {s t : State} (m o : Nat) (ht : t.pending = s.pending) : (s.access m o t).pending = s.pending := by
  simp [State.access, ht]

/-! ## Formats -/

@[simp] theorem State.setFlow_pending (s : State) (i : Nat) (f : Flow) : (s.setFlow i f).pending = s.pending := by simp [State.setFlow]
@[simp] theorem State.setDyn_pending (s : State) (i : Nat) (f : FlowDyn) : (s.setDyn i f).pending = s.pending := by simp [State.setDyn]
@[simp] theorem State.xbarSwap_pending (s : State) : s.xbarSwap.pending = s.pending := by simp [State.xbarSwap]
@[simp] theorem State.showSwap_pending (s : State) : s.showSwap.pending = s.pending := by simp [State.showSwap]
@[simp] theorem State.snapLedger_pending (s : State) : s.snapLedger.pending = s.pending := by simp [State.snapLedger]
@[simp] theorem State.settle_pending (s : State) : s.settle.pending = s.pending := by simp [State.settle]
@[simp] theorem State.dropChange_pending (s : State) (i : Nat) : (s.dropChange i).pending = s.pending := by simp [State.dropChange]

/-! ## Command -/

@[simp] theorem State.showCores_pending (s : State) : s.showCores.pending = s.pending := by simp [State.showCores]
@[simp] theorem State.forward_pending (s : State) (op : Nat) (h : Hdr) (p : List Byte) : (s.forward op h p).pending = s.pending := by
  simp only [State.forward]
  split <;> (try split) <;> simp

@[simp] theorem State.twinFinish_pending {s : State} (op : Nat) (h : Hdr) (p : List Byte) {a : Ans} (ha : a.st.pending = s.pending) :
    (s.twinFinish op h p a).pending = s.pending := by
  unfold State.twinFinish
  repeat' split
  all_goals simp [ha]

@[simp] theorem command_pending (op : Nat) (h : Hdr) (p : List Byte) {body : Nat → State → Ans}
    (hb : ∀ n t, (body n t).st.pending = t.pending) (s : State) : (command op h p body s).pending = s.pending := by
  have hb0 := hb 0 (s.stamped h)
  unfold command
  dsimp only
  split
  case isTrue => rfl
  split
  case h_1 => simp
  split
  case isTrue => split <;> simp
  split
  case isTrue => simp
  split
  case isTrue => rfl
  split
  case isTrue => simp
  split
  case h_1 => split <;> simp [hb0]
  case h_2 => simp
  case h_3 => rw [State.twinFinish_pending _ _ _ hb0, State.stamped_pending]

/-! ## Tick -/

@[simp] theorem State.setLock_pending (s : State) (l : Nat) : (s.setLock l).pending = s.pending := by simp [State.setLock]
@[simp] theorem State.enterHoldover_pending (s : State) : s.enterHoldover.pending = s.pending := by simp [State.enterHoldover]
@[simp] theorem State.useEntry_pending (s : State) (i : Nat) : (s.useEntry i).pending = s.pending := by simp [State.useEntry]
@[simp] theorem State.switchTo_pending (s : State) (i : Nat) : (s.switchTo i).pending = s.pending := by simp [State.switchTo]
@[simp] theorem State.noEntry_pending (s : State) : s.noEntry.pending = s.pending := by simp [State.noEntry]
@[simp] theorem State.loseActive_pending (s : State) : s.loseActive.pending = s.pending := by
  simp only [State.loseActive]
  split <;> simp
@[simp] theorem State.refAvailable_pending (s : State) : s.refAvailable.pending = s.pending := by
  simp only [State.refAvailable]
  split <;> simp
@[simp] theorem State.sourceGone_pending (s : State) (src dom index : Nat) : (s.sourceGone src dom index).pending = s.pending := by
  simp [State.sourceGone]
@[simp] theorem State.ranged_pending (s : State) (src dom index : Nat) (r : RefState) (ppb : Int) :
    (s.ranged src dom index r ppb).pending = s.pending := by
  simp [State.ranged]
@[simp] theorem State.replaceBy_pending (s : State) (i : Nat) : (s.replaceBy i).pending = s.pending := by simp [State.replaceBy]
@[simp] theorem State.setPhase_pending (s : State) (x : Int) : (s.setPhase x).pending = s.pending := by simp [State.setPhase]
@[simp] theorem State.holdForStep_pending (s : State) : s.holdForStep.pending = s.pending := by simp [State.holdForStep]
@[simp] theorem State.noStep_pending (s : State) : s.noStep.pending = s.pending := by simp [State.noStep]
@[simp] theorem State.setNum_pending (s : State) (n : Nat) : (s.setNum n).pending = s.pending := by simp [State.setNum]
@[simp] theorem State.setStarts_pending (s : State) : s.setStarts.pending = s.pending := by simp [State.setStarts]
@[simp] theorem State.advance_pending (s : State) : s.advance.pending = s.pending := by simp [State.advance]
@[simp] theorem State.stagedCfg_pending (s : State) : s.stagedCfg.pending = s.pending := by
  simp only [State.stagedCfg]
  split <;> (try split) <;> simp
@[simp] theorem State.syncIn_pending (l : List (Nat × Int × Int)) (s : State) (i : Nat) : (State.syncIn l s i).pending = s.pending := by
  simp only [State.syncIn]
  split <;> (try split) <;> simp
@[simp] theorem State.markerIn_pending (s : State) (k : Nat) : (s.markerIn k).pending = s.pending := by simp [State.markerIn]
@[simp] theorem State.countValid_pending (s : State) (e : RefEntry) : (s.countValid e).pending = s.pending := by simp [State.countValid]
@[simp] theorem State.judgeEdge_pending (s : State) (a : Option RefEntry) : (s.judgeEdge a).pending = s.pending := by simp [State.judgeEdge]
@[simp] theorem State.tickPart_pending (e : Edge) (s : State) : (State.tickPart e s).pending = s.pending := by simp [State.tickPart]
@[simp] theorem State.treeFault_pending (s : State) (t : Tap) : (s.treeFault t).pending = s.pending := by simp [State.treeFault]
@[simp] theorem State.tapPart_pending (e : Edge) (s : State) : (State.tapPart e s).pending = s.pending := by simp [State.tapPart]
@[simp] theorem State.setCadence_pending (s : State) (c code : Nat) : (s.setCadence c code).pending = s.pending := by
  simp [State.setCadence]
@[simp] theorem State.setTargets_pending (s : State) : s.setTargets.pending = s.pending := by simp [State.setTargets]
@[simp] theorem State.setRate_pending (s : State) (r : Nat) : (s.setRate r).pending = s.pending := by simp [State.setRate]
@[simp] theorem State.showEntry_pending (s : State) (i : Nat) (e : RefEntry) : (s.showEntry i e).pending = s.pending := by
  simp [State.showEntry]
@[simp] theorem State.install_pending (s : State) (sel : RefSel) : (s.install sel).pending = s.pending := by
  simp only [State.install]
  repeat' split
  all_goals simp
@[simp] theorem cmdRefSelect_pending (p : List Byte) (_floor : Nat) (s : State) : (cmdRefSelect p _floor s).st.pending = s.pending := by
  simp [cmdRefSelect]
@[simp] theorem execRefSelect_keepsQueue (h : Hdr) (p : List Byte) (s : State) : KeepsQueue s (execRefSelect h p s) := by
  simp [execRefSelect]
@[simp] theorem cmdTickStatus_pending (p : List Byte) (_floor : Nat) (s : State) : (cmdTickStatus p _floor s).st.pending = s.pending := by
  simp [cmdTickStatus]
@[simp] theorem execTickStatus_keepsQueue (h : Hdr) (p : List Byte) (s : State) : KeepsQueue s (execTickStatus h p s) := by
  simp [execTickStatus]
@[simp] theorem execTickNumLoRead_keepsQueue (ns : Nat) (s : State) : KeepsQueue s (execTickNumLoRead ns s) := by simp [execTickNumLoRead]
@[simp] theorem State.ptpMeasured_pending (s : State) (port dom : Nat) (r : RefState) (origin rx : Nat) :
    (s.ptpMeasured port dom r origin rx).pending = s.pending := by
  simp [State.ptpMeasured]
@[simp] theorem execPtpSyncReceive_keepsQueue (port : Nat) (m : PtpMsg) (s : State) : KeepsQueue s (execPtpSyncReceive port m s) := by
  simp [execPtpSyncReceive]
@[simp] theorem execPtpFollowUpReceive_keepsQueue (port : Nat) (m : PtpFrom) (origin : Nat) (s : State) :
    KeepsQueue s (execPtpFollowUpReceive port m origin s) := by
  simp [execPtpFollowUpReceive]
@[simp] theorem execPtpDelayRespReceive_keepsQueue (port : Nat) (m : PtpFrom) (rx : Nat) (s : State) :
    KeepsQueue s (execPtpDelayRespReceive port m rx s) := by
  simp only [execPtpDelayRespReceive]
  split <;> simp
@[simp] theorem execPtpAnnounceReceive_keepsQueue (port domain : Nat) (m : PtpAnn) (s : State) :
    KeepsQueue s (execPtpAnnounceReceive port domain m s) := by
  simp [execPtpAnnounceReceive]
@[simp] theorem execPtpReferenceLost_keepsQueue (at_ : SourceAt) (s : State) : KeepsQueue s (execPtpReferenceLost at_ s) := by
  simp [execPtpReferenceLost]
@[simp] theorem execAnalogReferenceLost_keepsQueue (i : Nat) (s : State) : KeepsQueue s (execAnalogReferenceLost i s) := by
  simp [execAnalogReferenceLost]
@[simp] theorem execDolmetReferenceLost_keepsQueue (k : Nat) (s : State) : KeepsQueue s (execDolmetReferenceLost k s) := by
  simp [execDolmetReferenceLost]
@[simp] theorem execAnalogSyncAppear_keepsQueue (i fmt frate : Nat) (s : State) : KeepsQueue s (execAnalogSyncAppear i fmt frate s) := by
  simp [execAnalogSyncAppear]
@[simp] theorem execReferenceOutOfRange_keepsQueue (src : Nat) (at_ : SourceAt) (s : State) :
    KeepsQueue s (execReferenceOutOfRange src at_ s) := by
  simp [execReferenceOutOfRange]
@[simp] theorem execAcquisitionCountMet_keepsQueue (s : State) : KeepsQueue s (execAcquisitionCountMet s) := by
  simp [execAcquisitionCountMet]
@[simp] theorem execRevertToEntry_keepsQueue (a e : Nat) (s : State) : KeepsQueue s (execRevertToEntry a e s) := by simp [execRevertToEntry]
@[simp] theorem execHoldoverLimitExpiry_keepsQueue (s : State) : KeepsQueue s (execHoldoverLimitExpiry s) := by
  simp [execHoldoverLimitExpiry]
@[simp] theorem execRefSelectApply_keepsQueue (s : State) : KeepsQueue s (execRefSelectApply s) := by
  simp only [execRefSelectApply]
  split <;> simp
@[simp] theorem execStepApply_keepsQueue (s : State) : KeepsQueue s (execStepApply s) := by simp [execStepApply]

/-! ## MailOps -/

@[simp] theorem State.engRaise_pending (s : State) (e i : Nat) : (s.engRaise e i).pending = s.pending := by simp [State.engRaise]
@[simp] theorem State.ringEngine_pending (s : State) (h : HalfAt) : (s.ringEngine h).pending = s.pending := by
  simp only [State.ringEngine]
  split <;> simp
@[simp] theorem State.addBells_pending (s : State) (h : HalfAt) (bits : Nat) : (s.addBells h bits).pending = s.pending := by
  simp [State.addBells]
@[simp] theorem State.bell29_pending (s : State) (h : HalfAt) : (s.bell29 h).pending = s.pending := by
  simp only [State.bell29]
  split <;> simp
@[simp] theorem State.uncross_pending (s : State) (h : HalfAt) (other peer : Option HalfAt) :
    (s.uncross h other peer).pending = s.pending := by
  simp only [State.uncross]
  split <;> (try split) <;> simp
@[simp] theorem State.ackHalf_pending (s : State) (h : HalfAt) (code : Nat) (dev : Bool) : (s.ackHalf h code dev).pending = s.pending := by
  simp [State.ackHalf]
@[simp] theorem State.mailFrame_pending (s : State) (k dst m frm ack x : Nat) (words : List Nat) :
    (s.mailFrame k dst m frm ack x words).pending = s.pending := by
  simp [State.mailFrame]
@[simp] theorem State.sendRemote_pending (s : State) (h : HalfAt) : (s.sendRemote h).pending = s.pending := by
  simp only [State.sendRemote]
  split <;> simp
@[simp] theorem State.startMsg_pending (s : State) (h : HalfAt) : (s.startMsg h).pending = s.pending := by
  simp only [State.startMsg]
  split <;> (try split) <;> simp
@[simp] theorem State.msgWrite_pending (s : State) (h : HalfAt) (m i v : Nat) : (s.msgWrite h m i v).pending = s.pending := by
  simp [State.msgWrite]
@[simp] theorem State.bellWrite_pending (s : State) (h : HalfAt) (m v : Nat) : (s.bellWrite h m v).pending = s.pending := by
  simp [State.bellWrite]
@[simp] theorem State.ackWrite_pending (s : State) (h : HalfAt) (m v : Nat) : (s.ackWrite h m v).pending = s.pending := by
  unfold State.ackWrite
  repeat' split
  all_goals simp
@[simp] theorem State.halfWrite_pending (s : State) (h : HalfAt) (m x v : Nat) : (s.halfWrite h m x v).pending = s.pending := by
  simp [State.halfWrite]
@[simp] theorem State.engMailLost_pending (s : State) (e : Nat) : (s.engMailLost e).pending = s.pending := by simp [State.engMailLost]
@[simp] theorem State.lockRead_pending (s : State) (m o : Nat) : (s.lockRead m o).1.pending = s.pending := by
  simp only [State.lockRead]
  split <;> simp
@[simp] theorem State.lockWrite_pending (s : State) (m o v : Nat) : (s.lockWrite m o v).pending = s.pending := by simp [State.lockWrite]

/-! ## Engines -/

@[simp] theorem State.setEngState_pending (s : State) (e x : Nat) : (s.setEngState e x).pending = s.pending := by simp [State.setEngState]

@[simp] theorem State.engCycle_pending (s : State) (e : Nat) : (s.engCycle e).pending = s.pending := by
  rw [State.engCycle_eq, State.landIe_eq]
  simp

@[simp] theorem State.engDrain_pending (s : State) (e : Nat) : (s.engDrain e).pending = s.pending := by simp [State.engDrain]
@[simp] theorem State.engCause_pending (s : State) (e cause pc addr : Nat) : (s.engCause e cause pc addr).pending = s.pending := by
  simp [State.engCause]
@[simp] theorem State.engExc_pending (s : State) (e cause pc addr : Nat) : (s.engExc e cause pc addr).pending = s.pending := by
  simp [State.engExc]
@[simp] theorem execInterruptEntry_keepsQueue (e : Nat) (s : State) : KeepsQueue s (execInterruptEntry e s) := by
  simp only [execInterruptEntry]
  split <;> simp
@[simp] theorem State.dmaRestore_pending (s : State) (e : Nat) (c : Checkpoint) : (s.dmaRestore e c).pending = s.pending := by
  simp [State.dmaRestore]
@[simp] theorem State.engAsk_pending (s : State) (e egress : Nat) : (s.engAsk e egress).pending = s.pending := by simp [State.engAsk]
@[simp] theorem execEngineCheckpoint_keepsQueue (e : Nat) (s : State) : KeepsQueue s (execEngineCheckpoint e s) := by
  simp [execEngineCheckpoint]
@[simp] theorem State.engCommit_pending (s : State) (e : Nat) : (s.engCommit e).pending = s.pending := by simp [State.engCommit]
@[simp] theorem State.engLand_pending (s : State) (e : Nat) : (s.engLand e).pending = s.pending := by simp [State.engLand]
@[simp] theorem execEngineCommit_keepsQueue (e : Nat) (s : State) : KeepsQueue s (execEngineCommit e s) := by simp [execEngineCommit]
@[simp] theorem State.engRollbackAsk_pending (s : State) (e : Nat) : (s.engRollbackAsk e).pending = s.pending := by
  simp [State.engRollbackAsk]
@[simp] theorem execEngineRollback_keepsQueue (e : Nat) (s : State) : KeepsQueue s (execEngineRollback e s) := by
  simp only [execEngineRollback]
  split <;> simp
@[simp] theorem execEngineWatchdogDeadline_keepsQueue (e : Nat) (s : State) : KeepsQueue s (execEngineWatchdogDeadline e s) := by
  simp [execEngineWatchdogDeadline]
@[simp] theorem execMarchGroup_keepsQueue (c : Nat) (fail : Option (Nat × Nat × Nat)) (s : State) :
    KeepsQueue s (execMarchGroup c fail s) := by
  simp only [execMarchGroup]
  split <;> (try split) <;> simp
@[simp] theorem State.engStart_pending (s : State) (e wdog : Nat) : (s.engStart e wdog).pending = s.pending := by simp [State.engStart]
@[simp] theorem State.haltOver_pending (s : State) (e : Nat) : (s.haltOver e).pending = s.pending := by simp [State.haltOver]
@[simp] theorem State.engStopNow_pending (s : State) (e : Nat) : (s.engStopNow e).pending = s.pending := by simp [State.engStopNow]
@[simp] theorem State.engStopAsk_pending (s : State) (e : Nat) : (s.engStopAsk e).pending = s.pending := by simp [State.engStopAsk]
@[simp] theorem State.startStages_pending (s : State) (i : Nat) : (s.startStages i).pending = s.pending := by simp [State.startStages]
@[simp] theorem State.releaseContract_pending (s : State) (i : Nat) : (s.releaseContract i).pending = s.pending := by
  simp [State.releaseContract]
@[simp] theorem State.engLoad_pending (s : State) (e desc : Nat) (b : List Byte) : (s.engLoad e desc b).pending = s.pending := by
  simp [State.engLoad]

@[simp] theorem cmdEngineLoad_pending (h : Hdr) (p : List Byte) (_floor : Nat) (s : State) :
    (cmdEngineLoad h p _floor s).st.pending = s.pending := by
  unfold cmdEngineLoad
  refine Ans.check_pending _ ?_
  split <;> simp

@[simp] theorem execEngineLoad_keepsQueue (h : Hdr) (p : List Byte) (s : State) : KeepsQueue s (execEngineLoad h p s) := by
  simp [execEngineLoad]
@[simp] theorem cmdEngineStart_pending (p : List Byte) (floor : Nat) (s : State) : (cmdEngineStart p floor s).st.pending = s.pending := by
  simp [cmdEngineStart]
@[simp] theorem execEngineStart_keepsQueue (h : Hdr) (p : List Byte) (s : State) : KeepsQueue s (execEngineStart h p s) := by
  simp [execEngineStart]
@[simp] theorem cmdEngineStop_pending (p : List Byte) (floor : Nat) (s : State) : (cmdEngineStop p floor s).st.pending = s.pending := by
  simp [cmdEngineStop]
@[simp] theorem execEngineStop_keepsQueue (h : Hdr) (p : List Byte) (s : State) : KeepsQueue s (execEngineStop h p s) := by
  simp [execEngineStop]
@[simp] theorem cmdEngineStatus_pending (p : List Byte) (_floor : Nat) (s : State) :
    (cmdEngineStatus p _floor s).st.pending = s.pending := by
  simp [cmdEngineStatus]
@[simp] theorem execEngineStatus_keepsQueue (h : Hdr) (p : List Byte) (s : State) : KeepsQueue s (execEngineStatus h p s) := by
  simp [execEngineStatus]
@[simp] theorem State.clusterDown_pending (s0 : State) (c : Nat) (off : Bool) : (s0.clusterDown c off).pending = s0.pending := by
  simp [State.clusterDown]

/-! ## TakeOps -/

@[simp] theorem State.strobe_pending (s : State) (kind k : Nat) : (s.strobe kind k).pending = s.pending := by simp [State.strobe]
@[simp] theorem State.keepSpec_pending (s : State) (k : Nat) : (s.keepSpec k).pending = s.pending := by simp [State.keepSpec]
@[simp] theorem State.dropSpec_pending (s : State) (k : Nat) : (s.dropSpec k).pending = s.pending := by simp [State.dropSpec]
@[simp] theorem State.speculate_pending (s : State) (k tick trans : Nat) : (s.speculate k tick trans).pending = s.pending := by
  simp [State.speculate]
@[simp] theorem State.rollback_pending (s : State) (k : Nat) : (s.rollback k).pending = s.pending := by simp [State.rollback]
@[simp] theorem State.dropTwinTake_pending (s : State) (t : PTake) : (s.dropTwinTake t).pending = s.pending := by
  unfold State.dropTwinTake
  repeat' split
  all_goals simp
@[simp] theorem State.cancelTakes_pending (s : State) (i from_ : Nat) : (s.cancelTakes i from_).pending = s.pending := by
  simp [State.cancelTakes]
@[simp] theorem State.endContract_pending (s : State) (i : Nat) : (s.endContract i).pending = s.pending := by
  simp only [State.endContract]
  split <;> simp
@[simp] theorem State.applyRelease_pending (s : State) (i : Nat) : (s.applyRelease i).pending = s.pending := by
  simp only [State.applyRelease]
  split <;> (try split) <;> simp
@[simp] theorem State.specFault_pending (s : State) (k : Nat) : (s.specFault k).pending = s.pending := by
  simp only [State.specFault]
  split <;> simp

/-! ## Contracts -/

@[simp] theorem State.addProp_pending (s : State) (x : Proposal) : (s.addProp x).pending = s.pending := by simp [State.addProp]
@[simp] theorem cmdContractPropose_pending (h : Hdr) (p : List Byte) (_floor : Nat) (s : State) :
    (cmdContractPropose h p _floor s).st.pending = s.pending := by
  simp only [cmdContractPropose]
  split <;> (try split) <;> simp
@[simp] theorem execContractPropose_keepsQueue (h : Hdr) (p : List Byte) (s : State) : KeepsQueue s (execContractPropose h p s) := by
  simp [execContractPropose]
@[simp] theorem State.newContract_pending (s : State) (i gen : Nat) (x : Proposal) (bound : Nat) (ch : List Charge) (prov : Bool) :
    (s.newContract i gen x bound ch prov).pending = s.pending := by
  simp [State.newContract]
@[simp] theorem State.dropContract_pending (s : State) (i : Nat) : (s.dropContract i).pending = s.pending := by simp [State.dropContract]
@[simp] theorem State.answerProp_pending (s : State) (x : Proposal) (status : Nat) (result : List Byte) :
    (s.answerProp x status result).pending = s.pending := by
  simp [State.answerProp]
@[simp] theorem State.vote_pending (s : State) (x : Proposal) (yes : Bool) (id : Nat) : (s.vote x yes id).pending = s.pending := by
  simp [State.vote]
@[simp] theorem State.judgeSubst_pending (s : State) (votes : List TwinVote) (x : Proposal) (i policy nr : Nat) :
    (s.judgeSubst votes x i policy nr).pending = s.pending := by
  simp only [State.judgeSubst]
  split <;> simp
@[simp] theorem State.admitOne_pending (votes : List TwinVote) (s : State) (x : Proposal) :
    (State.admitOne votes s x).pending = s.pending := by
  simp only [State.admitOne]
  split <;> (try split) <;> simp
@[simp] theorem execAdmissionBatch_keepsQueue (votes : List TwinVote) (s : State) : KeepsQueue s (execAdmissionBatch votes s) := by
  simp [execAdmissionBatch]
@[simp] theorem execXdevProposalReceive_keepsQueue (owner id n : Nat) (dry : Bool) (desc : List Byte) (s : State) :
    KeepsQueue s (execXdevProposalReceive owner id n dry desc s) := by
  simp [execXdevProposalReceive]
@[simp] theorem execXdevVoteReceive_keepsQueue (src id : Nat) (yes : Bool) (s : State) :
    KeepsQueue s (execXdevVoteReceive src id yes s) := by
  simp [execXdevVoteReceive]
@[simp] theorem State.decideX_pending (s : State) (x : XProp) : (s.decideX x).pending = s.pending := by
  simp only [State.decideX]
  split <;> simp
@[simp] theorem execXdevDecision_keepsQueue (s : State) : KeepsQueue s (execXdevDecision s) := by simp [execXdevDecision]
@[simp] theorem execXdevCommitReceive_keepsQueue (owner id : Nat) (s : State) : KeepsQueue s (execXdevCommitReceive owner id s) := by
  simp only [execXdevCommitReceive]
  split <;> simp
@[simp] theorem execXdevAbortReceive_keepsQueue (owner id : Nat) (s : State) : KeepsQueue s (execXdevAbortReceive owner id s) := by
  simp only [execXdevAbortReceive]
  split <;> simp
@[simp] theorem execXdevOwnerQuery_keepsQueue (s : State) : KeepsQueue s (execXdevOwnerQuery s) := by simp [execXdevOwnerQuery]
@[simp] theorem execXdevQueryReceive_keepsQueue (src id : Nat) (s : State) : KeepsQueue s (execXdevQueryReceive src id s) := by
  simp only [execXdevQueryReceive]
  split <;> simp
@[simp] theorem execXdevQueryTimeout_keepsQueue (s : State) : KeepsQueue s (execXdevQueryTimeout s) := by simp [execXdevQueryTimeout]
@[simp] theorem State.acceptChange_pending (s : State) (h : Hdr) (p : List Byte) (i : Nat) (rel : Bool) (eff status : Nat) :
    (s.acceptChange h p i rel eff status).st.pending = s.pending := by
  simp [State.acceptChange]
@[simp] theorem cmdContractActivate_pending (h : Hdr) (p : List Byte) (floor : Nat) (s : State) :
    (cmdContractActivate h p floor s).st.pending = s.pending := by
  simp only [cmdContractActivate]
  split <;> simp
@[simp] theorem execContractActivate_keepsQueue (h : Hdr) (p : List Byte) (s : State) : KeepsQueue s (execContractActivate h p s) := by
  simp [execContractActivate]
@[simp] theorem cmdContractRelease_pending (h : Hdr) (p : List Byte) (floor : Nat) (s : State) :
    (cmdContractRelease h p floor s).st.pending = s.pending := by
  simp only [cmdContractRelease]
  split <;> simp
@[simp] theorem execContractRelease_keepsQueue (h : Hdr) (p : List Byte) (s : State) : KeepsQueue s (execContractRelease h p s) := by
  simp [execContractRelease]
@[simp] theorem State.dropHeld_pending (s : State) (i : Nat) : (s.dropHeld i).pending = s.pending := by simp [State.dropHeld]
@[simp] theorem State.activate_pending (s : State) (i : Nat) : (s.activate i).pending = s.pending := by simp [State.activate]

@[simp] theorem execActLimitExpiry_keepsQueue (s : State) : KeepsQueue s (execActLimitExpiry s) := by
  simp only [execActLimitExpiry, keepsQueue_next, State.settle_pending]
  refine State.pending_foldl (fun t i => ?_) _ _
  split
  · split <;> simp
  · rfl

@[simp] theorem execReleasingComplete_keepsQueue (i : Nat) (s : State) : KeepsQueue s (execReleasingComplete i s) := by
  simp [execReleasingComplete]
@[simp] theorem execHoldEnd_keepsQueue (s : State) : KeepsQueue s (execHoldEnd s) := by simp [execHoldEnd]
@[simp] theorem cmdContractQuery_pending (h : Hdr) (p : List Byte) (_floor : Nat) (s : State) :
    (cmdContractQuery h p _floor s).st.pending = s.pending := by
  simp only [cmdContractQuery]
  split <;> simp
@[simp] theorem execContractQuery_keepsQueue (h : Hdr) (p : List Byte) (s : State) : KeepsQueue s (execContractQuery h p s) := by
  simp [execContractQuery]
@[simp] theorem cmdLedgerSnapshot_pending (h : Hdr) (p : List Byte) (_floor : Nat) (s : State) :
    (cmdLedgerSnapshot h p _floor s).st.pending = s.pending := by
  simp [cmdLedgerSnapshot]
@[simp] theorem execLedgerSnapshot_keepsQueue (h : Hdr) (p : List Byte) (s : State) : KeepsQueue s (execLedgerSnapshot h p s) := by
  simp [execLedgerSnapshot]
@[simp] theorem cmdDescriptorRegister_pending (h : Hdr) (p : List Byte) (_floor : Nat) (s : State) :
    (cmdDescriptorRegister h p _floor s).st.pending = s.pending := by
  simp only [cmdDescriptorRegister]
  split <;> simp
@[simp] theorem execDescriptorRegister_keepsQueue (h : Hdr) (p : List Byte) (s : State) : KeepsQueue s (execDescriptorRegister h p s) := by
  simp [execDescriptorRegister]
@[simp] theorem cmdPostureSet_pending (p : List Byte) (floor : Nat) (s : State) : (cmdPostureSet p floor s).st.pending = s.pending := by
  simp [cmdPostureSet]
@[simp] theorem execPostureSet_keepsQueue (h : Hdr) (p : List Byte) (s : State) : KeepsQueue s (execPostureSet h p s) := by
  simp [execPostureSet]
@[simp] theorem State.lowerOp_pending (s : State) (c new : Nat) : (s.lowerOp c new).pending = s.pending := by simp [State.lowerOp]
@[simp] theorem State.setPosture_pending (s : State) (pos cap : Nat) (marked : List Nat) :
    (s.setPosture pos cap marked).pending = s.pending := by
  simp [State.setPosture]

/-! ## LaneOps -/

@[simp] theorem State.setBase_pending (s : State) (l base : Nat) : (s.setBase l base).pending = s.pending := by simp [State.setBase]
@[simp] theorem State.askPstate_pending (s : State) (l p : Nat) : (s.askPstate l p).pending = s.pending := by simp [State.askPstate]
@[simp] theorem State.setLinkUp_pending (s : State) (l : Nat) (up : Bool) : (s.setLinkUp l up).pending = s.pending := by
  simp [State.setLinkUp]
@[simp] theorem State.startNeg_pending (s : State) (l : Nat) : (s.startNeg l).pending = s.pending := by simp [State.startNeg]
@[simp] theorem State.negFail_pending (s : State) (l reason : Nat) : (s.negFail l reason).pending = s.pending := by simp [State.negFail]

/-! ## Streams -/

@[simp] theorem State.portEvt_pending (s : State) (p : Nat) (f : Nat → Fld) : (s.portEvt p f).pending = s.pending := by simp [State.portEvt]
@[simp] theorem State.loseEntry_pending (s : State) (x : Nat × Nat) : (s.loseEntry x).pending = s.pending := by simp [State.loseEntry]
@[simp] theorem State.loseList_pending (s : State) (l : List (Nat × Nat)) : (s.loseList l).pending = s.pending := by simp [State.loseList]
@[simp] theorem State.loseWhere_pending (s : State) (f : EndPt → Bool) : (s.loseWhere f).pending = s.pending := by simp [State.loseWhere]
@[simp] theorem State.flowLost_pending (s : State) (i : Nat) : (s.flowLost i).pending = s.pending := by simp [State.flowLost]
@[simp] theorem State.legLost_pending (s : State) (i leg : Nat) : (s.legLost i leg).pending = s.pending := by simp [State.legLost]
@[simp] theorem State.portLegsLost_pending (s : State) (p : Nat) : (s.portLegsLost p).pending = s.pending := by simp [State.portLegsLost]
@[simp] theorem State.portDown_pending (s : State) (p : Nat) : (s.portDown p).pending = s.pending := by simp [State.portDown]
@[simp] theorem State.entryBack_pending (s : State) (fmt : Nat) (pid : Bool) (x : Nat × Nat) :
    (s.entryBack fmt pid x).pending = s.pending := by
  simp [State.entryBack]
@[simp] theorem State.passTo_pending (s : State) (l : List (Nat × Nat)) (fmt : Nat) (data : List Byte) (k : LinePkt) :
    (s.passTo l fmt data k).pending = s.pending := by
  simp [State.passTo]
@[simp] theorem State.passOn_pending (s : State) (f : EndPt → Bool) (fmt : Nat) (data : List Byte) (k : LinePkt) :
    (s.passOn f fmt data k).pending = s.pending := by
  simp [State.passOn]
@[simp] theorem State.noteNonconf_pending (s : State) (f : EndPt → Bool) (at_ : Nat) : (s.noteNonconf f at_).pending = s.pending := by
  simp [State.noteNonconf]
@[simp] theorem State.arrive_pending (s : State) (k : LinePkt) (room : Bool) : (s.arrive k room).pending = s.pending := by
  simp [State.arrive]
@[simp] theorem State.offered_pending (s : State) (src dst : Nat) (p : PortPkt) : (s.offered src dst p).pending = s.pending := by
  simp [State.offered]
@[simp] theorem execLinePacketTransfer_keepsQueue (src dst : Nat) (sched : Bool) (x : XbarTurn) (s0 : State) :
    KeepsQueue s0 (execLinePacketTransfer src dst sched x s0) := by
  simp only [execLinePacketTransfer]
  repeat' split
  all_goals simp
@[simp] theorem State.xbarSlot_pending (s : State) : s.xbarSlot.pending = s.pending := by simp [State.xbarSlot]
@[simp] theorem execXbarParityFault_keepsQueue (e : Nat) (s : State) : KeepsQueue s (execXbarParityFault e s) := by
  simp [execXbarParityFault]
@[simp] theorem State.idleOutputs_pending (s : State) : s.idleOutputs.pending = s.pending := by simp [State.idleOutputs]
@[simp] theorem execSdiSignalDetectDrop_keepsQueue (port : Nat) (s : State) : KeepsQueue s (execSdiSignalDetectDrop port s) := by
  simp [execSdiSignalDetectDrop]
@[simp] theorem execSdiTrsTimeout_keepsQueue (port : Nat) (s : State) : KeepsQueue s (execSdiTrsTimeout port s) := by
  simp [execSdiTrsTimeout]
@[simp] theorem execSdiLineReceive_keepsQueue (port : Nat) (x : SdiLine) (s : State) : KeepsQueue s (execSdiLineReceive port x s) := by
  simp [execSdiLineReceive]
@[simp] theorem execSdiInputLock_keepsQueue (port rate fmt : Nat) (pid : Bool) (s : State) :
    KeepsQueue s (execSdiInputLock port rate fmt pid s) := by
  simp [execSdiInputLock]
@[simp] theorem execFlowLossTimeout_keepsQueue (i : Nat) (s : State) : KeepsQueue s (execFlowLossTimeout i s) := by
  simp [execFlowLossTimeout]
@[simp] theorem execLegLossTimeout_keepsQueue (i leg : Nat) (s : State) : KeepsQueue s (execLegLossTimeout i leg s) := by
  simp [execLegLossTimeout]
@[simp] theorem State.legBack_pending (s : State) (i leg : Nat) : (s.legBack i leg).pending = s.pending := by simp [State.legBack]
@[simp] theorem State.flowLock_pending (s : State) (i fmt : Nat) : (s.flowLock i fmt).pending = s.pending := by simp [State.flowLock]
@[simp] theorem execIpPacketReceive_keepsQueue (port i : Nat) (x : IpPkt) (s : State) : KeepsQueue s (execIpPacketReceive port i x s) := by
  simp only [execIpPacketReceive]
  repeat' split
  all_goals simp
@[simp] theorem execSourceResume_keepsQueue (i k : Nat) (s : State) : KeepsQueue s (execSourceResume i k s) := by simp [execSourceResume]
@[simp] theorem execBackupSwitch_keepsQueue (s : State) : KeepsQueue s (execBackupSwitch s) := by simp [execBackupSwitch]
@[simp] theorem State.joinMsgs_pending (s : State) (f : Flow) (kind : Nat) (only : Option Nat) :
    (s.joinMsgs f kind only).pending = s.pending := by
  simp [State.joinMsgs]
@[simp] theorem execIgmpQueryReceive_keepsQueue (port : Nat) (s : State) : KeepsQueue s (execIgmpQueryReceive port s) := by
  simp [execIgmpQueryReceive]
@[simp] theorem execArpRequestReceive_keepsQueue (port kind ip : Nat) (s : State) :
    KeepsQueue s (execArpRequestReceive port kind ip s) := by
  simp [execArpRequestReceive]
@[simp] theorem execModuleInsert_keepsQueue (q : Nat) (s : State) : KeepsQueue s (execModuleInsert q s) := by simp [execModuleInsert]
@[simp] theorem execModuleRemove_keepsQueue (q : Nat) (s : State) : KeepsQueue s (execModuleRemove q s) := by simp [execModuleRemove]
@[simp] theorem execModuleInitDone_keepsQueue (q : Nat) (read answers : Bool) (r : ModRead) (s : State) :
    KeepsQueue s (execModuleInitDone q read answers r s) := by
  simp [execModuleInitDone]
@[simp] theorem execModLosSample_keepsQueue (los : Nat) (s : State) : KeepsQueue s (execModLosSample los s) := by simp [execModLosSample]
@[simp] theorem cmdPortConfig_pending (p : List Byte) (floor : Nat) (s : State) : (cmdPortConfig p floor s).st.pending = s.pending := by
  simp [cmdPortConfig]
@[simp] theorem execPortConfig_keepsQueue (h : Hdr) (p : List Byte) (s : State) : KeepsQueue s (execPortConfig h p s) := by
  simp [execPortConfig]
@[simp] theorem State.applyPort_pending (s : State) (p : Nat) (c : PortCfg) : (s.applyPort p c).pending = s.pending := by
  simp [State.applyPort]
@[simp] theorem cmdFlowAdd_pending (h : Hdr) (p : List Byte) (floor : Nat) (s : State) :
    (cmdFlowAdd h p floor s).st.pending = s.pending := by
  simp only [cmdFlowAdd]
  split <;> simp
@[simp] theorem execFlowAdd_keepsQueue (h : Hdr) (p : List Byte) (s : State) : KeepsQueue s (execFlowAdd h p s) := by simp [execFlowAdd]
@[simp] theorem State.applyFlow_pending (s : State) (i : Nat) : (s.applyFlow i).pending = s.pending := by simp [State.applyFlow]
@[simp] theorem cmdFlowRemove_pending (p : List Byte) (floor : Nat) (s : State) : (cmdFlowRemove p floor s).st.pending = s.pending := by
  simp [cmdFlowRemove]
@[simp] theorem execFlowRemove_keepsQueue (h : Hdr) (p : List Byte) (s : State) : KeepsQueue s (execFlowRemove h p s) := by
  simp [execFlowRemove]
@[simp] theorem State.dropFlow_pending (s : State) (i : Nat) : (s.dropFlow i).pending = s.pending := by simp [State.dropFlow]
@[simp] theorem cmdSubstPolicy_pending (h : Hdr) (p : List Byte) (floor : Nat) (s : State) :
    (cmdSubstPolicy h p floor s).st.pending = s.pending := by
  simp only [cmdSubstPolicy]
  split <;> simp
@[simp] theorem execSubstPolicy_keepsQueue (h : Hdr) (p : List Byte) (s : State) : KeepsQueue s (execSubstPolicy h p s) := by
  simp [execSubstPolicy]
@[simp] theorem State.applySubst_pending (s : State) (i pol : Nat) (nr : Bool) : (s.applySubst i pol nr).pending = s.pending := by
  simp [State.applySubst]

/-! ## Takes -/

@[simp] theorem State.placeTake_pending (s : State) (t : PTake) : (s.placeTake t).pending = s.pending := by simp [State.placeTake]
@[simp] theorem State.noteLate_pending (s : State) (late : Bool) : (s.noteLate late).pending = s.pending := by simp [State.noteLate]
@[simp] theorem State.sendTake_pending (s : State) (t : PTake) (h : Option Hdr) : (s.sendTake t h).pending = s.pending := by
  simp [State.sendTake]
@[simp] theorem cmdTake_pending (h : Hdr) (p : List Byte) (floor : Nat) (s : State) : (cmdTake h p floor s).st.pending = s.pending := by
  simp [cmdTake]
@[simp] theorem execTake_keepsQueue (h : Hdr) (p : List Byte) (s : State) : KeepsQueue s (execTake h p s) := by simp [execTake]
@[simp] theorem State.abortTake_pending (s : State) (t : PTake) : (s.abortTake t).pending = s.pending := by simp [State.abortTake]
@[simp] theorem cmdTakeAbort_pending (h : Hdr) (p : List Byte) (_floor : Nat) (s : State) :
    (cmdTakeAbort h p _floor s).st.pending = s.pending := by
  simp only [cmdTakeAbort]
  split <;> simp
@[simp] theorem execTakeAbort_keepsQueue (h : Hdr) (p : List Byte) (s : State) : KeepsQueue s (execTakeAbort h p s) := by
  simp [execTakeAbort]

@[simp] theorem execRunaheadStart_keepsQueue (s : State) : KeepsQueue s (execRunaheadStart s) := by
  simp only [execRunaheadStart, keepsQueue_next]
  refine State.pending_foldl (fun t k => ?_) _ _
  split
  · split
    · split <;> simp
    · simp
  · rfl

@[simp] theorem State.cutoffOne_pending (s : State) (k : Nat) : (s.cutoffOne k).pending = s.pending := by
  simp only [State.cutoffOne]
  split <;> simp
@[simp] theorem execTakeCutoff_keepsQueue (s : State) : KeepsQueue s (execTakeCutoff s) := by simp [execTakeCutoff]
@[simp] theorem State.updTallies_pending (s : State) : s.updTallies.pending = s.pending := by simp [State.updTallies]
@[simp] theorem State.land_pending (s : State) (t : PTake) : (s.land t).pending = s.pending := by simp [State.land]
@[simp] theorem State.landOrCancel_pending (s : State) (t : PTake) : (s.landOrCancel t).pending = s.pending := by simp [State.landOrCancel]
@[simp] theorem execTakeLanding_keepsQueue (s : State) : KeepsQueue s (execTakeLanding s) := by simp [execTakeLanding]
@[simp] theorem execTwinTakeReceive_keepsQueue (id dst tick trans : Nat) (abort : Bool) (s : State) :
    KeepsQueue s (execTwinTakeReceive id dst tick trans abort s) := by
  unfold execTwinTakeReceive
  repeat' split
  all_goals simp
@[simp] theorem execTwinTakeAnswerReceive_keepsQueue (id dst tick : Nat) (abort accept : Bool) (s : State) :
    KeepsQueue s (execTwinTakeAnswerReceive id dst tick abort accept s) := by
  unfold execTwinTakeAnswerReceive
  repeat' split
  all_goals simp
@[simp] theorem execTwinTakeAnswerTimeout_keepsQueue (id dst tick : Nat) (abort : Bool) (s : State) :
    KeepsQueue s (execTwinTakeAnswerTimeout id dst tick abort s) := by
  simp only [execTwinTakeAnswerTimeout]
  split <;> (try split) <;> simp
@[simp] theorem execTwinTakeConfirmReceive_keepsQueue (id dst tick : Nat) (abort : Bool) (s : State) :
    KeepsQueue s (execTwinTakeConfirmReceive id dst tick abort s) := by
  simp only [execTwinTakeConfirmReceive]
  split <;> simp
@[simp] theorem execTwinTakeWithdrawReceive_keepsQueue (id dst tick : Nat) (abort : Bool) (s : State) :
    KeepsQueue s (execTwinTakeWithdrawReceive id dst tick abort s) := by
  simp only [execTwinTakeWithdrawReceive]
  split <;> simp
@[simp] theorem cmdPresetArm_pending (p : List Byte) (floor : Nat) (s : State) : (cmdPresetArm p floor s).st.pending = s.pending := by
  simp only [cmdPresetArm]
  split <;> simp
@[simp] theorem execPresetArm_keepsQueue (h : Hdr) (p : List Byte) (s : State) : KeepsQueue s (execPresetArm h p s) := by
  simp [execPresetArm]
@[simp] theorem State.applyArm_pending (s : State) (i k tr pat dur w ws : Nat) : (s.applyArm i k tr pat dur w ws).pending = s.pending := by
  simp [State.applyArm]
@[simp] theorem cmdPresetDisarm_pending (p : List Byte) (floor : Nat) (s : State) : (cmdPresetDisarm p floor s).st.pending = s.pending := by
  simp only [cmdPresetDisarm]
  split <;> simp
@[simp] theorem execPresetDisarm_keepsQueue (h : Hdr) (p : List Byte) (s : State) : KeepsQueue s (execPresetDisarm h p s) := by
  simp [execPresetDisarm]
@[simp] theorem State.applyDisarm_pending (s : State) (i : Nat) : (s.applyDisarm i).pending = s.pending := by
  simp only [State.applyDisarm]
  split <;> simp
@[simp] theorem execGpiEdgeConfirm_keepsQueue (g tick slot : Nat) (rise : Bool) (s : State) :
    KeepsQueue s (execGpiEdgeConfirm g tick slot rise s) := by
  simp [execGpiEdgeConfirm]
@[simp] theorem cmdGpiBind_pending (p : List Byte) (_floor : Nat) (s : State) : (cmdGpiBind p _floor s).st.pending = s.pending := by
  simp [cmdGpiBind]
@[simp] theorem execGpiBind_keepsQueue (h : Hdr) (p : List Byte) (s : State) : KeepsQueue s (execGpiBind h p s) := by simp [execGpiBind]
@[simp] theorem State.applyBind_pending (s : State) (g : Nat) (b : GpiBind) : (s.applyBind g b).pending = s.pending := by
  simp [State.applyBind]
@[simp] theorem cmdTallySet_pending (p : List Byte) (floor : Nat) (s : State) : (cmdTallySet p floor s).st.pending = s.pending := by
  simp [cmdTallySet]
@[simp] theorem execTallySet_keepsQueue (h : Hdr) (p : List Byte) (s : State) : KeepsQueue s (execTallySet h p s) := by simp [execTallySet]
@[simp] theorem State.applyTally_pending (s : State) (g : Nat) (t : Tally) : (s.applyTally g t).pending = s.pending := by
  simp [State.applyTally]

/-! ## Mesh -/

@[simp] theorem State.linkDown_pending (s : State) (k reason : Nat) : (s.linkDown k reason).pending = s.pending := by simp [State.linkDown]
@[simp] theorem State.linkBack_pending (s : State) (k : Nat) : (s.linkBack k).pending = s.pending := by simp [State.linkBack]
@[simp] theorem State.quarantine_pending (s : State) (k : Nat) : (s.quarantine k).pending = s.pending := by simp [State.quarantine]
@[simp] theorem State.unquarantine_pending (s : State) (k : Nat) : (s.unquarantine k).pending = s.pending := by simp [State.unquarantine]
@[simp] theorem execCapabilityExchange_keepsQueue (k : Nat) (c : Caps) (s : State) : KeepsQueue s (execCapabilityExchange k c s) := by
  simp only [execCapabilityExchange]
  repeat' split
  all_goals simp
@[simp] theorem execLaneQualificationEnd_keepsQueue (k : Nat) (pass : Bool) (s : State) :
    KeepsQueue s (execLaneQualificationEnd k pass s) := by
  simp [execLaneQualificationEnd]
@[simp] theorem State.linkPacket_pending (s : State) (k : Nat) (f : DFrame) : (s.linkPacket k f).pending = s.pending := by
  simp only [State.linkPacket]
  split <;> simp
@[simp] theorem State.forwardFrame_pending (s : State) (k ty dst : Nat) (f : DFrame) : (s.forwardFrame k ty dst f).pending = s.pending := by
  unfold State.forwardFrame
  repeat' split
  all_goals simp
@[simp] theorem execFrameForward_keepsQueue (k ty dst : Nat) (f : DFrame) (s : State) : KeepsQueue s (execFrameForward k ty dst f s) := by
  simp [execFrameForward]
@[simp] theorem execDolmetFrameReceive_keepsQueue (k : Nat) (f : DFrame) (s : State) : KeepsQueue s (execDolmetFrameReceive k f s) := by
  simp [execDolmetFrameReceive]
@[simp] theorem execLinkTagFailLimit_keepsQueue (k : Nat) (s : State) : KeepsQueue s (execLinkTagFailLimit k s) := by
  simp [execLinkTagFailLimit]
@[simp] theorem execHeartbeatReceive_keepsQueue (k : Nat) (s : State) : KeepsQueue s (execHeartbeatReceive k s) := by
  simp [execHeartbeatReceive]
@[simp] theorem State.setTwin_pending (s : State) (st : Nat) : (s.setTwin st).pending = s.pending := by simp [State.setTwin]
@[simp] theorem State.setMuted_pending (s : State) (b : Bool) : (s.setMuted b).pending = s.pending := by simp [State.setMuted]
@[simp] theorem State.setChg_pending (s : State) (b : Bool) : (s.setChg b).pending = s.pending := by simp [State.setChg]
@[simp] theorem State.moltUnmute_pending (s : State) : s.moltUnmute.pending = s.pending := by simp [State.moltUnmute]
@[simp] theorem State.staggerLost_pending (s : State) : s.staggerLost.pending = s.pending := by simp [State.staggerLost]
@[simp] theorem State.partnerLost_pending (s : State) : s.partnerLost.pending = s.pending := by simp [State.partnerLost]
@[simp] theorem State.withdraw_pending (s : State) : s.withdraw.pending = s.pending := by simp [State.withdraw]
@[simp] theorem State.carryOn_pending (s : State) : s.carryOn.pending = s.pending := by simp [State.carryOn]
@[simp] theorem State.verdict_pending (s : State) (mine : Bool) : (s.verdict mine).pending = s.pending := by simp [State.verdict]
@[simp] theorem execHeartbeatTimeout_keepsQueue (k : Nat) (s : State) : KeepsQueue s (execHeartbeatTimeout k s) := by
  simp [execHeartbeatTimeout]
@[simp] theorem execTwinPeerOkFall_keepsQueue (s : State) : KeepsQueue s (execTwinPeerOkFall s) := by simp [execTwinPeerOkFall]
@[simp] theorem execFaultMessageReceive_keepsQueue (s : State) : KeepsQueue s (execFaultMessageReceive s) := by
  simp [execFaultMessageReceive]
@[simp] theorem execLinksLost_keepsQueue (s : State) : KeepsQueue s (execLinksLost s) := by simp [execLinksLost]
@[simp] theorem State.sendState_pending (s : State) : s.sendState.pending = s.pending := by simp [State.sendState]
@[simp] theorem State.partnerSyncs_pending (s : State) : s.partnerSyncs.pending = s.pending := by simp [State.partnerSyncs]
@[simp] theorem execDigestReceive_keepsQueue (d : Digest) (s : State) : KeepsQueue s (execDigestReceive d s) := by
  simp only [execDigestReceive]
  repeat' split
  all_goals simp
@[simp] theorem State.takeContract_pending (s : State) (x : Nat × Nat × Nat × Nat × List Byte) :
    (s.takeContract x).pending = s.pending := by
  simp [State.takeContract]
@[simp] theorem execStateTransferReceive_keepsQueue (x : Xfer) (s : State) : KeepsQueue s (execStateTransferReceive x s) := by
  simp [execStateTransferReceive]
@[simp] theorem execRejoinActivation_keepsQueue (s : State) : KeepsQueue s (execRejoinActivation s) := by
  simp only [execRejoinActivation]
  split <;> simp
@[simp] theorem execRejoinEngineCopy_keepsQueue (c : Nat) (l : List EngCopy) (s : State) : KeepsQueue s (execRejoinEngineCopy c l s) := by
  simp [execRejoinEngineCopy]
@[simp] theorem State.followTwin_pending (s : State) : s.followTwin.pending = s.pending := by
  simp only [State.followTwin]
  split <;> (try split) <;> simp
@[simp] theorem execRejoinMatchComplete_keepsQueue (s : State) : KeepsQueue s (execRejoinMatchComplete s) := by
  simp [execRejoinMatchComplete]
@[simp] theorem execRejoinSlow_keepsQueue (s : State) : KeepsQueue s (execRejoinSlow s) := by simp [execRejoinSlow]
@[simp] theorem State.updAuth_pending (s : State) : s.updAuth.pending = s.pending := by simp [State.updAuth]
@[simp] theorem State.outOfTick_pending (s : State) (num : Nat) : (s.outOfTick num).pending = s.pending := by simp [State.outOfTick]
@[simp] theorem execTickMarkerReceive_keepsQueue (k : Nat) (m : Marker) (s : State) : KeepsQueue s (execTickMarkerReceive k m s) := by
  simp [execTickMarkerReceive]
@[simp] theorem State.relink_pending (s : State) (k : Nat) : (s.relink k).pending = s.pending := by simp [State.relink]
@[simp] theorem cmdTwinPair_pending (p : List Byte) (_floor : Nat) (s : State) : (cmdTwinPair p _floor s).st.pending = s.pending := by
  simp [cmdTwinPair]
@[simp] theorem execTwinPair_keepsQueue (h : Hdr) (p : List Byte) (s : State) : KeepsQueue s (execTwinPair h p s) := by simp [execTwinPair]
@[simp] theorem cmdTwinStatus_pending (p : List Byte) (_floor : Nat) (s : State) : (cmdTwinStatus p _floor s).st.pending = s.pending := by
  simp [cmdTwinStatus]
@[simp] theorem execTwinStatus_keepsQueue (h : Hdr) (p : List Byte) (s : State) : KeepsQueue s (execTwinStatus h p s) := by
  simp [execTwinStatus]
@[simp] theorem cmdMeshRouteSet_pending (p : List Byte) (_floor : Nat) (s : State) :
    (cmdMeshRouteSet p _floor s).st.pending = s.pending := by
  simp only [cmdMeshRouteSet]
  split <;> simp
@[simp] theorem execMeshRouteSet_keepsQueue (h : Hdr) (p : List Byte) (s : State) : KeepsQueue s (execMeshRouteSet h p s) := by
  simp [execMeshRouteSet]
@[simp] theorem cmdMeshStatus_pending (p : List Byte) (_floor : Nat) (s : State) : (cmdMeshStatus p _floor s).st.pending = s.pending := by
  simp [cmdMeshStatus]
@[simp] theorem execMeshStatus_keepsQueue (h : Hdr) (p : List Byte) (s : State) : KeepsQueue s (execMeshStatus h p s) := by
  simp [execMeshStatus]
@[simp] theorem cmdInstarSet_pending (p : List Byte) (_floor : Nat) (s : State) : (cmdInstarSet p _floor s).st.pending = s.pending := by
  simp [cmdInstarSet]
@[simp] theorem execInstarSet_keepsQueue (h : Hdr) (p : List Byte) (s : State) : KeepsQueue s (execInstarSet h p s) := by
  simp [execInstarSet]

/-! ## Lanes -/

@[simp] theorem State.ethDown_pending (s : State) (p : Nat) : (s.ethDown p).pending = s.pending := by simp [State.ethDown]
@[simp] theorem State.laneDown_pending (s : State) (l : Nat) : (s.laneDown l).pending = s.pending := by
  simp only [State.laneDown]
  split <;> (try split) <;> simp
@[simp] theorem State.dropLink_pending (s : State) (l : Nat) : (s.dropLink l).pending = s.pending := by simp [State.dropLink]
@[simp] theorem State.laneSet_pending (p : List Byte) (s : State) (l : Nat) : (State.laneSet p s l).pending = s.pending := by
  unfold State.laneSet
  repeat' split
  all_goals simp
@[simp] theorem cmdLaneConfig_pending (p : List Byte) (_floor : Nat) (s : State) : (cmdLaneConfig p _floor s).st.pending = s.pending := by
  simp only [cmdLaneConfig]
  split <;> simp
@[simp] theorem execLaneConfig_keepsQueue (h : Hdr) (p : List Byte) (s : State) : KeepsQueue s (execLaneConfig h p s) := by
  simp [execLaneConfig]

@[simp] theorem laneQuery_pending (p : List Byte) (s : State) {go : Nat → Ans} (hg : ∀ l, (go l).st.pending = s.pending) :
    (laneQuery p s go).st.pending = s.pending := by
  unfold laneQuery
  split
  · simp
  · simp [hg]

@[simp] theorem cmdLaneState_pending (p : List Byte) (_floor : Nat) (s : State) : (cmdLaneState p _floor s).st.pending = s.pending := by
  simp [cmdLaneState]
@[simp] theorem execLaneState_keepsQueue (h : Hdr) (p : List Byte) (s : State) : KeepsQueue s (execLaneState h p s) := by
  simp [execLaneState]
@[simp] theorem execPstateSequenceDone_keepsQueue (l : Nat) (s : State) : KeepsQueue s (execPstateSequenceDone l s) := by
  simp only [execPstateSequenceDone]
  split <;> (try split) <;> simp
@[simp] theorem execSignalDetectAssert_keepsQueue (l : Nat) (s : State) : KeepsQueue s (execSignalDetectAssert l s) := by
  unfold execSignalDetectAssert
  repeat' split
  all_goals simp
@[simp] theorem execSignalDetectDeassert_keepsQueue (l : Nat) (s : State) : KeepsQueue s (execSignalDetectDeassert l s) := by
  unfold execSignalDetectDeassert
  repeat' split
  all_goals simp
@[simp] theorem State.lockLost_pending (s : State) (l : Nat) : (s.lockLost l).pending = s.pending := by simp [State.lockLost]
@[simp] theorem execBlockLockLoss_keepsQueue (l : Nat) (s : State) : KeepsQueue s (execBlockLockLoss l s) := by simp [execBlockLockLoss]
@[simp] theorem execHighBer_keepsQueue (l : Nat) (s : State) : KeepsQueue s (execHighBer l s) := by simp [execHighBer]
@[simp] theorem execCdrLockLoss_keepsQueue (l : Nat) (s : State) : KeepsQueue s (execCdrLockLoss l s) := by simp [execCdrLockLoss]
@[simp] theorem execFecLockLoss_keepsQueue (p : Nat) (s : State) : KeepsQueue s (execFecLockLoss p s) := by simp [execFecLockLoss]
@[simp] theorem execQuadPllUnlock_keepsQueue (q pll : Nat) (s : State) : KeepsQueue s (execQuadPllUnlock q pll s) := by
  simp [execQuadPllUnlock]
@[simp] theorem execQuadPllRelock_keepsQueue (q pll : Nat) (s : State) : KeepsQueue s (execQuadPllRelock q pll s) := by
  simp [execQuadPllRelock]
@[simp] theorem State.trained_pending (s : State) (ls : List Nat) (fir : List (Nat × Nat)) : (s.trained ls fir).pending = s.pending := by
  simp [State.trained]
@[simp] theorem execLinkBringupComplete_keepsQueue (u : BringUp) (s : State) : KeepsQueue s (execLinkBringupComplete u s) := by
  simp only [execLinkBringupComplete]
  repeat' split
  all_goals simp
@[simp] theorem execNegotiationFail_keepsQueue (l reason : Nat) (s : State) : KeepsQueue s (execNegotiationFail l reason s) := by
  simp [execNegotiationFail]
@[simp] theorem execNegotiationRetry_keepsQueue (l : Nat) (s : State) : KeepsQueue s (execNegotiationRetry l s) := by
  simp [execNegotiationRetry]
@[simp] theorem State.adapted_pending (s : State) (x : Nat × Nat × Nat × Nat) : (s.adapted x).pending = s.pending := by simp [State.adapted]
@[simp] theorem State.prbsOn_pending (s : State) (l pat dir rate kbps : Nat) : (s.prbsOn l pat dir rate kbps).pending = s.pending := by
  unfold State.prbsOn
  repeat' split
  all_goals simp
@[simp] theorem State.prbsOff_pending (s : State) (l dir : Nat) : (s.prbsOff l dir).pending = s.pending := by simp [State.prbsOff]
@[simp] theorem cmdPrbsStart_pending (p : List Byte) (_floor : Nat) (s : State) : (cmdPrbsStart p _floor s).st.pending = s.pending := by
  simp only [cmdPrbsStart]
  split <;> simp
@[simp] theorem execPrbsStart_keepsQueue (h : Hdr) (p : List Byte) (s : State) : KeepsQueue s (execPrbsStart h p s) := by
  simp [execPrbsStart]
@[simp] theorem cmdPrbsRead_pending (p : List Byte) (_floor : Nat) (s : State) : (cmdPrbsRead p _floor s).st.pending = s.pending := by
  simp [cmdPrbsRead]
@[simp] theorem execPrbsRead_keepsQueue (h : Hdr) (p : List Byte) (s : State) : KeepsQueue s (execPrbsRead h p s) := by simp [execPrbsRead]
@[simp] theorem State.prbsCount_pending (s : State) (x : Nat × Nat × Nat) : (s.prbsCount x).pending = s.pending := by simp [State.prbsCount]
@[simp] theorem execPrbsSyncLoss_keepsQueue (l : Nat) (s : State) : KeepsQueue s (execPrbsSyncLoss l s) := by simp [execPrbsSyncLoss]
@[simp] theorem execPrbsCounterFull_keepsQueue (l errs : Nat) (s : State) : KeepsQueue s (execPrbsCounterFull l errs s) := by
  simp [execPrbsCounterFull]
@[simp] theorem execLanePrbsErrLoRead_keepsQueue (l : Nat) (s : State) : KeepsQueue s (execLanePrbsErrLoRead l s) := by
  simp [execLanePrbsErrLoRead]
@[simp] theorem cmdMarginScan_pending (hd : Hdr) (p : List Byte) (_floor : Nat) (s : State) :
    (cmdMarginScan hd p _floor s).st.pending = s.pending := by
  simp only [cmdMarginScan]
  split <;> simp
@[simp] theorem execMarginScan_keepsQueue (h : Hdr) (p : List Byte) (s : State) : KeepsQueue s (execMarginScan h p s) := by
  simp [execMarginScan]
@[simp] theorem execMarginScanDone_keepsQueue (l : Nat) (counts : List Nat) (s : State) : KeepsQueue s (execMarginScanDone l counts s) := by
  simp only [execMarginScanDone]
  split <;> simp

/-! ## Reset -/

@[simp] theorem State.faultRecord_pending (s : State) (cause inst addr detail : Nat) (multi : Bool) :
    (s.faultRecord cause inst addr detail multi).pending = s.pending := by
  simp [State.faultRecord]
@[simp] theorem State.dropTwinOk_pending (s : State) : s.dropTwinOk.pending = s.pending := by simp [State.dropTwinOk]
@[simp] theorem State.goSilent_pending (s : State) (cause : Nat) : (s.goSilent cause).pending = s.pending := by simp [State.goSilent]
@[simp] theorem State.clearDomain_pending (s : State) (d : Nat) : (s.clearDomain d).pending = s.pending := by simp [State.clearDomain]
@[simp] theorem State.clearUnits_pending (s : State) : s.clearUnits.pending = s.pending := by simp [State.clearUnits]
@[simp] theorem State.domainsOff_pending (s : State) : s.domainsOff.pending = s.pending := by simp [State.domainsOff]
@[simp] theorem State.hostLinkDown_pending (s : State) : s.hostLinkDown.pending = s.pending := by simp [State.hostLinkDown]
@[simp] theorem State.resetUnits_pending (s : State) : s.resetUnits.pending = s.pending := by simp [State.resetUnits]
@[simp] theorem State.warmReset_pending (s : State) : s.warmReset.pending = s.pending := by simp [State.warmReset]
@[simp] theorem State.holdReset_pending (s : State) (c : Hold) : (s.holdReset c).pending = s.pending := by simp [State.holdReset]
@[simp] theorem State.recordAttempt_pending (s : State) (slot code : Nat) : (s.recordAttempt slot code).pending = s.pending := by
  simp [State.recordAttempt]
@[simp] theorem State.logAttempt_pending (s : State) (code : Nat) (done : Bool) : (s.logAttempt code done).pending = s.pending := by
  simp [State.logAttempt]
@[simp] theorem State.countFail_pending (s : State) (code : Nat) : (s.countFail code).pending = s.pending := by simp [State.countFail]
@[simp] theorem State.setDom_pending (s : State) (d x : Nat) : (s.setDom d x).pending = s.pending := by simp [State.setDom]
@[simp] theorem State.recoveryLink_pending (s : State) : s.recoveryLink.pending = s.pending := by simp [State.recoveryLink]
@[simp] theorem State.startMcs_pending (s : State) (fallback : Bool) : (s.startMcs fallback).pending = s.pending := by simp [State.startMcs]
@[simp] theorem State.fwReady_pending (s : State) : s.fwReady.pending = s.pending := by simp [State.fwReady]
@[simp] theorem State.enterCocoon_pending (s : State) (noDram : Bool) : (s.enterCocoon noDram).pending = s.pending := by
  simp [State.enterCocoon]
@[simp] theorem State.attemptFail_pending (s : State) (code : Nat) : (s.attemptFail code).pending = s.pending := by simp [State.attemptFail]
@[simp] theorem State.countIfUnconfirmed_pending (s : State) (code : Nat) : (s.countIfUnconfirmed code).pending = s.pending := by
  simp [State.countIfUnconfirmed]

/-! ## MemOps -/

@[simp] theorem State.eccEvent_pending (s : State) : s.eccEvent.pending = s.pending := by simp [State.eccEvent]
@[simp] theorem State.corrected_pending (s : State) (b n addr : Nat) : (s.corrected b n addr).pending = s.pending := by
  simp [State.corrected]
@[simp] theorem State.integrityHalt_pending (s : State) (ch detail addr : Nat) : (s.integrityHalt ch detail addr).pending = s.pending := by
  simp [State.integrityHalt]
@[simp] theorem State.setIme_pending (s : State) : s.setIme.pending = s.pending := by simp [State.setIme]
@[simp] theorem State.touchCounter_pending (s : State) (line : Nat) (dirty : Bool) : (s.touchCounter line dirty).pending = s.pending := by
  simp [State.touchCounter]
@[simp] theorem State.dramWrite_pending (s : State) (a : Nat) (bytes : List Byte) : (s.dramWrite a bytes).pending = s.pending := by
  simp only [State.dramWrite]
  split <;> simp

/-! ## Dram -/

@[simp] theorem State.dramArrive_pending (s : State) (r : DramReq) : (s.dramArrive r).pending = s.pending := by simp [State.dramArrive]
@[simp] theorem execDramRequestArrival_keepsQueue (r : DramReq) (s : State) : KeepsQueue s (execDramRequestArrival r s) := by
  simp [execDramRequestArrival]
@[simp] theorem execUrgencyStep_keepsQueue (m now : Nat) (s : State) : KeepsQueue s (execUrgencyStep m now s) := by simp [execUrgencyStep]
@[simp] theorem State.promote_pending (s : State) (m sub now : Nat) : (s.promote m sub now).pending = s.pending := by
  simp only [State.promote]
  split <;> simp
@[simp] theorem execAgePromotion_keepsQueue (m now : Nat) (s : State) : KeepsQueue s (execAgePromotion m now s) := by
  simp [execAgePromotion]
@[simp] theorem State.dramIssue_pending (s : State) (m : Nat) (x : DLine) : (s.dramIssue m x).pending = s.pending := by
  simp only [State.dramIssue]
  split <;> simp
@[simp] theorem execDramCommandCycle_keepsQueue (m sub _now : Nat) (allowed : List (Nat × Nat)) (s : State) :
    KeepsQueue s (execDramCommandCycle m sub _now allowed s) := by
  simp only [execDramCommandCycle]
  split <;> (try split) <;> simp
@[simp] theorem execDramRequestComplete_keepsQueue (m id line now : Nat) (s : State) :
    KeepsQueue s (execDramRequestComplete m id line now s) := by
  simp only [execDramRequestComplete]
  split <;> simp
@[simp] theorem State.refresh_pending (s : State) (m : Nat) : (s.refresh m).pending = s.pending := by simp [State.refresh]
@[simp] theorem execRefreshInterval_keepsQueue (m : Nat) (s : State) : KeepsQueue s (execRefreshInterval m s) := by
  simp only [execRefreshInterval]
  split <;> (try split) <;> simp
@[simp] theorem execMr4Read_keepsQueue (m : Nat) (hot : List Bool) (above : Bool) (s : State) :
    KeepsQueue s (execMr4Read m hot above s) := by
  simp [execMr4Read]
@[simp] theorem execSpdTemperatureRead_keepsQueue (m t0 t1 : Nat) (above fail : Bool) (s : State) :
    KeepsQueue s (execSpdTemperatureRead m t0 t1 above fail s) := by
  simp [execSpdTemperatureRead]
@[simp] theorem execRetrainPause_keepsQueue (m sub : Nat) (s : State) : KeepsQueue s (execRetrainPause m sub s) := by
  simp [execRetrainPause]
@[simp] theorem execRetrainPauseEnd_keepsQueue (m sub dur : Nat) (ok : Bool) (s : State) :
    KeepsQueue s (execRetrainPauseEnd m sub dur ok s) := by
  simp [execRetrainPauseEnd]
@[simp] theorem execMcSrReqWrite_keepsQueue (m : Nat) (s : State) : KeepsQueue s (execMcSrReqWrite m s) := by simp [execMcSrReqWrite]
@[simp] theorem execSrIdleTimeout_keepsQueue (m : Nat) (s : State) : KeepsQueue s (execSrIdleTimeout m s) := by simp [execSrIdleTimeout]
@[simp] theorem State.enterSr_pending (s : State) (m : Nat) : (s.enterSr m).pending = s.pending := by simp [State.enterSr]
@[simp] theorem execSrEntryComplete_keepsQueue (m : Nat) (s : State) : KeepsQueue s (execSrEntryComplete m s) := by
  simp [execSrEntryComplete]
@[simp] theorem State.exitSr_pending (s : State) (m now : Nat) : (s.exitSr m now).pending = s.pending := by simp [State.exitSr]
@[simp] theorem execSrExitComplete_keepsQueue (m now : Nat) (s : State) : KeepsQueue s (execSrExitComplete m now s) := by
  simp [execSrExitComplete]
@[simp] theorem execMcFallbackReqWrite_keepsQueue (m : Nat) (v : Bool) (s : State) : KeepsQueue s (execMcFallbackReqWrite m v s) := by
  simp [execMcFallbackReqWrite]
@[simp] theorem execMcPolicyWrite_keepsQueue (m : Nat) (v : Bool) (s : State) : KeepsQueue s (execMcPolicyWrite m v s) := by
  simp [execMcPolicyWrite]
@[simp] theorem execSchedParityFault_keepsQueue (m : Nat) (s : State) : KeepsQueue s (execSchedParityFault m s) := by
  simp [execSchedParityFault]
@[simp] theorem execSchedRebuildDone_keepsQueue (m : Nat) (s : State) : KeepsQueue s (execSchedRebuildDone m s) := by
  simp [execSchedRebuildDone]
@[simp] theorem State.mcBoundary_pending (s : State) (m : Nat) : (s.mcBoundary m).pending = s.pending := by simp [State.mcBoundary]

/-! ## Integrity -/

@[simp] theorem cmdFaultRead_pending (h : Hdr) (p : List Byte) (_floor : Nat) (s : State) :
    (cmdFaultRead h p _floor s).st.pending = s.pending := by
  simp [cmdFaultRead]
@[simp] theorem execFaultRead_keepsQueue (h : Hdr) (p : List Byte) (s : State) : KeepsQueue s (execFaultRead h p s) := by
  simp [execFaultRead]
@[simp] theorem State.emptyBucket_pending (s : State) (b : Nat) : (s.emptyBucket b).pending = s.pending := by simp [State.emptyBucket]
@[simp] theorem cmdFaultClear_pending (p : List Byte) (_floor : Nat) (s : State) : (cmdFaultClear p _floor s).st.pending = s.pending := by
  simp [cmdFaultClear]
@[simp] theorem execFaultClear_keepsQueue (h : Hdr) (p : List Byte) (s : State) : KeepsQueue s (execFaultClear h p s) := by
  simp [execFaultClear]
@[simp] theorem State.copyRegion_pending (s : State) (r : Nat) : (s.copyRegion r).pending = s.pending := by simp [State.copyRegion]
@[simp] theorem State.setRegion_pending (s : State) (r : Nat) (en strong integ : Bool) (kid base size st : Nat) :
    (s.setRegion r en strong integ kid base size st).pending = s.pending := by
  simp [State.setRegion]
@[simp] theorem cmdProtectMapSet_pending (p : List Byte) (_floor : Nat) (s : State) :
    (cmdProtectMapSet p _floor s).st.pending = s.pending := by
  simp [cmdProtectMapSet]
@[simp] theorem execProtectMapSet_keepsQueue (h : Hdr) (p : List Byte) (s : State) : KeepsQueue s (execProtectMapSet h p s) := by
  simp [execProtectMapSet]
@[simp] theorem execRegionInitComplete_keepsQueue (r : Nat) (s : State) : KeepsQueue s (execRegionInitComplete r s) := by
  simp [execRegionInitComplete]
@[simp] theorem cmdEccStatus_pending (p : List Byte) (_floor : Nat) (s : State) : (cmdEccStatus p _floor s).st.pending = s.pending := by
  simp [cmdEccStatus]
@[simp] theorem execEccStatus_keepsQueue (h : Hdr) (p : List Byte) (s : State) : KeepsQueue s (execEccStatus h p s) := by
  simp [execEccStatus]
@[simp] theorem State.setBucket_pending (s : State) (b : Nat) (empty : Bool) (thr leak : Nat) :
    (s.setBucket b empty thr leak).pending = s.pending := by
  simp [State.setBucket]
@[simp] theorem cmdBucketConfig_pending (p : List Byte) (_floor : Nat) (s : State) :
    (cmdBucketConfig p _floor s).st.pending = s.pending := by
  simp [cmdBucketConfig]
@[simp] theorem execBucketConfig_keepsQueue (h : Hdr) (p : List Byte) (s : State) : KeepsQueue s (execBucketConfig h p s) := by
  simp [execBucketConfig]
@[simp] theorem State.writeBack_pending (s : State) (m line : Nat) : (s.writeBack m line).pending = s.pending := by simp [State.writeBack]
@[simp] theorem execEccCorrection_keepsQueue (b n addr : Nat) (s : State) : KeepsQueue s (execEccCorrection b n addr s) := by
  simp [execEccCorrection]
@[simp] theorem execBucketLeak_keepsQueue (b : Nat) (s : State) : KeepsQueue s (execBucketLeak b s) := by simp [execBucketLeak]
@[simp] theorem State.uncorrectable_pending (s : State) (errs : List (Nat × Nat × Nat × Nat)) :
    (s.uncorrectable errs).pending = s.pending := by
  simp only [State.uncorrectable]
  split <;> simp
@[simp] theorem execUncorrectableError_keepsQueue (errs : List (Nat × Nat × Nat × Nat)) (s : State) :
    KeepsQueue s (execUncorrectableError errs s) := by
  simp [execUncorrectableError]
@[simp] theorem execPatrolLineRead_keepsQueue (m : Nat) (fix : Bool) (s : State) : KeepsQueue s (execPatrolLineRead m fix s) := by
  simp only [execPatrolLineRead]
  repeat' split
  all_goals simp

/-! ## Security -/

@[simp] theorem State.loadKey_pending (s : State) (kid key : Nat) : (s.loadKey kid key).pending = s.pending := by simp [State.loadKey]
@[simp] theorem State.dropKey_pending (s : State) (kid : Nat) : (s.dropKey kid).pending = s.pending := by simp [State.dropKey]
@[simp] theorem cmdKeyLoad_pending (p : List Byte) (_floor : Nat) (s : State) : (cmdKeyLoad p _floor s).st.pending = s.pending := by
  simp [cmdKeyLoad]
@[simp] theorem execKeyLoad_keepsQueue (h : Hdr) (p : List Byte) (s : State) : KeepsQueue s (execKeyLoad h p s) := by simp [execKeyLoad]
@[simp] theorem cmdKeyRetire_pending (p : List Byte) (_floor : Nat) (s : State) : (cmdKeyRetire p _floor s).st.pending = s.pending := by
  simp [cmdKeyRetire]
@[simp] theorem execKeyRetire_keepsQueue (h : Hdr) (p : List Byte) (s : State) : KeepsQueue s (execKeyRetire h p s) := by
  simp [execKeyRetire]
@[simp] theorem execLinkKeySwitch_keepsQueue (k : Nat) (s : State) : KeepsQueue s (execLinkKeySwitch k s) := by
  simp only [execLinkKeySwitch]
  split <;> simp
@[simp] theorem execCounterCacheMiss_keepsQueue (line : Nat) (ok : Bool) (s : State) : KeepsQueue s (execCounterCacheMiss line ok s) := by
  simp [execCounterCacheMiss]
@[simp] theorem execCounterCacheEvict_keepsQueue (level idx : Nat) (s : State) : KeepsQueue s (execCounterCacheEvict level idx s) := by
  simp only [execCounterCacheEvict]
  split <;> simp
@[simp] theorem execIntegrityHalt_keepsQueue (ch detail addr : Nat) (s : State) : KeepsQueue s (execIntegrityHalt ch detail addr s) := by
  simp [execIntegrityHalt]
@[simp] theorem State.setSas_pending (s : State) (l : List Sa) : (s.setSas l).pending = s.pending := by simp [State.setSas]
@[simp] theorem cmdMacsecSa_pending (h : Hdr) (p : List Byte) (floor : Nat) (s : State) :
    (cmdMacsecSa h p floor s).st.pending = s.pending := by
  simp only [cmdMacsecSa]
  split <;> simp
@[simp] theorem execMacsecSa_keepsQueue (h : Hdr) (p : List Byte) (s : State) : KeepsQueue s (execMacsecSa h p s) := by simp [execMacsecSa]
@[simp] theorem State.macsecFail_pending (s : State) : s.macsecFail.pending = s.pending := by simp [State.macsecFail]
@[simp] theorem execMacsecFrameReceive_keepsQueue (f : MsFrame) (s : State) : KeepsQueue s (execMacsecFrameReceive f s) := by
  unfold execMacsecFrameReceive
  repeat' split
  all_goals simp
@[simp] theorem State.pnEvents_pending (s : State) (port : Nat) : (s.pnEvents port).pending = s.pending := by
  simp only [State.pnEvents]
  split <;> simp
@[simp] theorem execMacsecFrameSend_keepsQueue (port : Nat) (s : State) : KeepsQueue s (execMacsecFrameSend port s) := by
  simp only [execMacsecFrameSend]
  split <;> simp
@[simp] theorem State.saTake_pending (s : State) (a : Sa) : (s.saTake a).pending = s.pending := by simp [State.saTake]
@[simp] theorem execMacsecSaSwitch_keepsQueue (s : State) : KeepsQueue s (execMacsecSaSwitch s) := by simp [execMacsecSaSwitch]
@[simp] theorem State.setLevel_pending (s : State) (l : Nat) : (s.setLevel l).pending = s.pending := by simp [State.setLevel]
@[simp] theorem State.challenge_pending (s : State) (level : Nat) : (s.challenge level).pending = s.pending := by simp [State.challenge]
@[simp] theorem State.respond_pending (s : State) (resp : List Byte) : (s.respond resp).1.pending = s.pending := by
  simp only [State.respond]
  split <;> (try split) <;> simp
@[simp] theorem cmdDebugAuthChallenge_pending (h : Hdr) (p : List Byte) (_floor : Nat) (s : State) :
    (cmdDebugAuthChallenge h p _floor s).st.pending = s.pending := by
  simp [cmdDebugAuthChallenge]
@[simp] theorem execDebugAuthChallenge_keepsQueue (h : Hdr) (p : List Byte) (s : State) : KeepsQueue s (execDebugAuthChallenge h p s) := by
  simp [execDebugAuthChallenge]
@[simp] theorem cmdDebugAuthResponse_pending (h : Hdr) (p : List Byte) (_floor : Nat) (s : State) :
    (cmdDebugAuthResponse h p _floor s).st.pending = s.pending := by
  simp only [cmdDebugAuthResponse]
  split <;> simp
@[simp] theorem execDebugAuthResponse_keepsQueue (h : Hdr) (p : List Byte) (s : State) : KeepsQueue s (execDebugAuthResponse h p s) := by
  simp [execDebugAuthResponse]
@[simp] theorem execDebugLockoutExpiry_keepsQueue (s : State) : KeepsQueue s (execDebugLockoutExpiry s) := by simp [execDebugLockoutExpiry]

/-! ## Fabric -/

@[simp] theorem execFpllUnlock_keepsQueue (k : Nat) (s : State) : KeepsQueue s (execFpllUnlock k s) := by simp [execFpllUnlock]
@[simp] theorem execFpllRelock_keepsQueue (k : Nat) (s : State) : KeepsQueue s (execFpllRelock k s) := by simp [execFpllRelock]
@[simp] theorem execVpllUnlock_keepsQueue (k : Nat) (s : State) : KeepsQueue s (execVpllUnlock k s) := by simp [execVpllUnlock]
@[simp] theorem State.fportDiscard_pending (s : State) (r : FportReq) : (s.fportDiscard r).pending = s.pending := by
  simp [State.fportDiscard]
@[simp] theorem State.fportReg_pending (s : State) (r : FportReq) : (s.fportReg r).pending = s.pending := by
  simp only [State.fportReg]
  repeat' split
  all_goals simp
@[simp] theorem execFportMemoryRequest_keepsQueue (r : FportReq) (s : State) : KeepsQueue s (execFportMemoryRequest r s) := by
  simp only [execFportMemoryRequest]
  repeat' split
  all_goals simp
@[simp] theorem execFportRegisterRead_keepsQueue (n a : Nat) (answer : Option Word) (s : State) :
    KeepsQueue s (execFportRegisterRead n a answer s) := by
  unfold execFportRegisterRead
  repeat' split
  all_goals simp
@[simp] theorem execFportRegisterTimeout_keepsQueue (n a : Nat) (s : State) : KeepsQueue s (execFportRegisterTimeout n a s) := by
  simp [execFportRegisterTimeout]
@[simp] theorem State.dmaGo_pending (s : State) (e v : Nat) (spec : Bool) : (s.dmaGo e v spec).pending = s.pending := by simp [State.dmaGo]
@[simp] theorem execDmaGo_keepsQueue (m e v : Nat) (s : State) : KeepsQueue s (execDmaGo m e v s) := by simp [execDmaGo]
@[simp] theorem State.dmaWrite_pending (s : State) (e a ctx : Nat) (b : List Byte) :
    ∀ t, s.dmaWrite e a ctx b = some t → t.pending = s.pending := by
  simp only [State.dmaWrite]
  split <;> (try split) <;> simp
@[simp] theorem State.dmaErr_pending (s : State) (e : Nat) : (s.dmaErr e).pending = s.pending := by simp [State.dmaErr]

@[simp] theorem execDmaDescriptorDone_keepsQueue (e : Nat) (s : State) : KeepsQueue s (execDmaDescriptorDone e s) := by
  unfold execDmaDescriptorDone
  split
  · simp
  · dsimp only
    split
    · next t ht =>
      have hp : t.pending = s.pending := by
        split at ht
        · cases ht
        · split at ht
          · simpa using State.dmaWrite_pending _ _ _ _ _ t ht
          · cases ht
      simp [apply_ite State.pending, hp]
    · simp [apply_ite State.pending]

/-! ## Intc -/

@[simp] theorem State.sendVector_pending (s : State) (v : Nat) : (s.sendVector v).pending = s.pending := by simp [State.sendVector]
@[simp] theorem State.toHost_pending (s : State) (v : Nat) : (s.toHost v).pending = s.pending := by simp [State.toHost]
@[simp] theorem State.toCore_pending (s : State) (c : Nat) : (s.toCore c).pending = s.pending := by simp [State.toCore]
@[simp] theorem State.toEngine_pending (s : State) (e : Nat) : (s.toEngine e).pending = s.pending := by simp [State.toEngine]
@[simp] theorem State.deliverGroup_pending (s : State) (g : Nat) : (s.deliverGroup g).pending = s.pending := by
  simp only [State.deliverGroup]
  split <;> (try split) <;> simp
@[simp] theorem State.grpRise_pending (s : State) (g : Nat) : (s.grpRise g).pending = s.pending := by simp [State.grpRise]
@[simp] theorem execInterruptSourceRise_keepsQueue (n : Nat) (high : Bool) (s : State) :
    KeepsQueue s (execInterruptSourceRise n high s) := by
  simp [execInterruptSourceRise]
@[simp] theorem execHoldoffExpiry_keepsQueue (g : Nat) (s : State) : KeepsQueue s (execHoldoffExpiry g s) := by simp [execHoldoffExpiry]
@[simp] theorem execMsixSend_keepsQueue (s : State) : KeepsQueue s (execMsixSend s) := by simp [execMsixSend]
@[simp] theorem State.grpEoi_pending (s : State) (g : Nat) : (s.grpEoi g).pending = s.pending := by simp [State.grpEoi]
@[simp] theorem execIntcEoiWrite_keepsQueue (g : Nat) (s : State) : KeepsQueue s (execIntcEoiWrite g s) := by simp [execIntcEoiWrite]
@[simp] theorem execIntcRouteWrite_keepsQueue (g v : Nat) (s : State) : KeepsQueue s (execIntcRouteWrite g v s) := by
  simp [execIntcRouteWrite]
@[simp] theorem State.engEoi_pending (s : State) (e : Nat) : (s.engEoi e).pending = s.pending := by
  simp only [State.engEoi]
  split <;> (try split) <;> simp
@[simp] theorem execEngineIntcEoi_keepsQueue (e : Nat) (s : State) : KeepsQueue s (execEngineIntcEoi e s) := by simp [execEngineIntcEoi]
@[simp] theorem State.halfAccess_pending (s : State) (m o v : Nat) (p : Nat → Bool) : (s.halfAccess m o v p).pending = s.pending := by
  simp only [State.halfAccess]
  split <;> simp
@[simp] theorem execMailboxMsgWrite_keepsQueue (m o v : Nat) (s : State) : KeepsQueue s (execMailboxMsgWrite m o v s) := by
  simp [execMailboxMsgWrite]
@[simp] theorem execMailboxBellWrite_keepsQueue (m o v : Nat) (s : State) : KeepsQueue s (execMailboxBellWrite m o v s) := by
  simp [execMailboxBellWrite]
@[simp] theorem execMailboxAckWrite_keepsQueue (m o v : Nat) (s : State) : KeepsQueue s (execMailboxAckWrite m o v s) := by
  simp [execMailboxAckWrite]
@[simp] theorem execMailboxAckTimeout_keepsQueue (o : Nat) (s : State) : KeepsQueue s (execMailboxAckTimeout o s) := by
  simp only [execMailboxAckTimeout]
  split <;> simp
@[simp] theorem execMailboxClaimTimeout_keepsQueue (o : Nat) (s : State) : KeepsQueue s (execMailboxClaimTimeout o s) := by
  simp only [execMailboxClaimTimeout]
  split <;> simp
@[simp] theorem execMailboxFrameReceive_keepsQueue (f : MailFrame) (s : State) : KeepsQueue s (execMailboxFrameReceive f s) := by
  simp [execMailboxFrameReceive]
@[simp] theorem execLockRead_keepsQueue (m o : Nat) (s : State) : KeepsQueue s (execLockRead m o s) := by simp [execLockRead]
@[simp] theorem execLockWrite_keepsQueue (m o v : Nat) (s : State) : KeepsQueue s (execLockWrite m o v s) := by simp [execLockWrite]

/-! ## Slots -/

@[simp] theorem State.engRead_pending (s : State) (e a n : Nat) : (s.engRead e a n).1.pending = s.pending := by
  unfold State.engRead
  repeat' split
  all_goals simp
@[simp] theorem State.winRead_pending (s : State) (e x : Nat) : (s.winRead e x).1.pending = s.pending := by
  unfold State.winRead
  repeat' split
  all_goals simp
@[simp] theorem State.dmaWord_pending (s : State) (e x v : Nat) : (s.dmaWord e x v).pending = s.pending := by
  simp only [State.dmaWord]
  split <;> simp

/-! ## Cells -/

@[simp] theorem State.tileInstant_pending (s : State) (edges junk : Nat) (u : State) (x : Nat × TileSt) :
    (s.tileInstant edges junk u x).pending = u.pending := by
  simp [State.tileInstant]

@[simp] theorem State.fabricInstant_pending (s : State) : s.fabricInstant.pending = s.pending := by simp [State.fabricInstant]
@[simp] theorem State.initTile_pending (s : State) (t : Nat) : (s.initTile t).pending = s.pending := by simp [State.initTile]
@[simp] theorem State.initTiles_pending (s : State) (d : Nat) : (s.initTiles d).pending = s.pending := by simp [State.initTiles]
@[simp] theorem State.resetFlops_pending (s : State) (t : Nat) : (s.resetFlops t).pending = s.pending := by simp [State.resetFlops]
@[simp] theorem State.freeTile_pending (s : State) (x : Nat × Bool) : (s.freeTile x).pending = s.pending := by simp [State.freeTile]
@[simp] theorem State.freeTiles_pending (s : State) : s.freeTiles.pending = s.pending := by simp [State.freeTiles]
@[simp] theorem State.holdTile_pending (s : State) (t : Nat) (reload : Bool) : (s.holdTile t reload).pending = s.pending := by
  simp [State.holdTile]

/-! ## Apply -/

@[simp] theorem State.applyOne_pending (s : State) (d : Due) : (s.applyOne d).pending = s.pending := by
  simp only [State.applyOne]
  split <;> simp
@[simp] theorem State.applyDue_pending (s : State) (k : Act → Bool) : (s.applyDue k).pending = s.pending := by simp [State.applyDue]
@[simp] theorem execContractActivation_keepsQueue (s : State) : KeepsQueue s (execContractActivation s) := by simp [execContractActivation]
@[simp] theorem execContractReleaseApply_keepsQueue (s : State) : KeepsQueue s (execContractReleaseApply s) := by
  simp [execContractReleaseApply]
@[simp] theorem execPostureApply_keepsQueue (s : State) : KeepsQueue s (execPostureApply s) := by simp [execPostureApply]
@[simp] theorem execPortConfigApply_keepsQueue (s : State) : KeepsQueue s (execPortConfigApply s) := by simp [execPortConfigApply]
@[simp] theorem execFlowAddApply_keepsQueue (s : State) : KeepsQueue s (execFlowAddApply s) := by simp [execFlowAddApply]
@[simp] theorem execFlowRemoveApply_keepsQueue (s : State) : KeepsQueue s (execFlowRemoveApply s) := by simp [execFlowRemoveApply]
@[simp] theorem execSubstPolicyApply_keepsQueue (s : State) : KeepsQueue s (execSubstPolicyApply s) := by simp [execSubstPolicyApply]
@[simp] theorem execPresetArmApply_keepsQueue (s : State) : KeepsQueue s (execPresetArmApply s) := by simp [execPresetArmApply]
@[simp] theorem execPresetDisarmApply_keepsQueue (s : State) : KeepsQueue s (execPresetDisarmApply s) := by simp [execPresetDisarmApply]
@[simp] theorem execGpiBindApply_keepsQueue (s : State) : KeepsQueue s (execGpiBindApply s) := by simp [execGpiBindApply]
@[simp] theorem execTallySetApply_keepsQueue (s : State) : KeepsQueue s (execTallySetApply s) := by simp [execTallySetApply]
@[simp] theorem execEngineStartApply_keepsQueue (s : State) : KeepsQueue s (execEngineStartApply s) := by simp [execEngineStartApply]
@[simp] theorem execEngineStopApply_keepsQueue (s : State) : KeepsQueue s (execEngineStopApply s) := by simp [execEngineStopApply]
@[simp] theorem execInstarSetApply_keepsQueue (s : State) : KeepsQueue s (execInstarSetApply s) := by simp [execInstarSetApply]

/-! ## Molt -/

@[simp] theorem State.clearStaging_pending (s : State) : s.clearStaging.pending = s.pending := by simp [State.clearStaging]
@[simp] theorem State.loadStage_pending (s : State) (k : Nat) : (s.loadStage k).pending = s.pending := by simp [State.loadStage]

@[simp] theorem cmdImageStage_pending (p : List Byte) (_floor : Nat) (s : State) : (cmdImageStage p _floor s).st.pending = s.pending := by
  unfold cmdImageStage
  dsimp only
  split
  · simp
  · refine Ans.check_pending _ ?_
    split <;> simp

@[simp] theorem execImageStage_keepsQueue (h : Hdr) (p : List Byte) (s : State) : KeepsQueue s (execImageStage h p s) := by
  simp [execImageStage]
@[simp] theorem execStagingEnd_keepsQueue (s : State) : KeepsQueue s (execStagingEnd s) := by
  simp only [execStagingEnd]
  split <;> (try split) <;> simp
@[simp] theorem State.planNow_pending (s : State) : s.planNow.1.pending = s.pending := by
  simp only [State.planNow]
  split <;> simp
@[simp] theorem cmdMoltPlan_pending (h : Hdr) (p : List Byte) (_floor : Nat) (s : State) :
    (cmdMoltPlan h p _floor s).st.pending = s.pending := by
  simp [cmdMoltPlan]
@[simp] theorem execMoltPlan_keepsQueue (h : Hdr) (p : List Byte) (s : State) : KeepsQueue s (execMoltPlan h p s) := by simp [execMoltPlan]
@[simp] theorem State.startMolt_pending (s : State) (t mode bound : Nat) : (s.startMolt t mode bound).pending = s.pending := by
  simp [State.startMolt]
@[simp] theorem cmdMoltCommit_pending (h : Hdr) (p : List Byte) (agreed : Bool) (floor : Nat) (s : State) :
    (cmdMoltCommit h p agreed floor s).st.pending = s.pending := by
  simp [cmdMoltCommit]
@[simp] theorem execMoltCommit_keepsQueue (h : Hdr) (p : List Byte) (s : State) : KeepsQueue s (execMoltCommit h p s) := by
  simp [execMoltCommit]

@[simp] theorem State.moltSecondary_pending (s : State) (p : List Byte) (t : Nat) :
    ∀ u, s.moltSecondary p t = some u → u.pending = s.pending := by
  intro u h
  simp only [State.moltSecondary, Option.ite_none_right_eq_some, Option.some.injEq] at h
  obtain ⟨-, rfl⟩ := h
  simp

@[simp] theorem execMoltStageCheck_keepsQueue (ok : Bool) (s : State) : KeepsQueue s (execMoltStageCheck ok s) := by
  simp [execMoltStageCheck]
@[simp] theorem State.bootGlobals_pending (s : State) (dg : Nat) : (s.bootGlobals dg).pending = s.pending := by simp [State.bootGlobals]
@[simp] theorem State.swapTile_pending (s : State) (t : Nat) : (s.swapTile t).pending = s.pending := by simp [State.swapTile]
@[simp] theorem State.mutePort_pending (s : State) (n : Nat) : (s.mutePort n).pending = s.pending := by simp [State.mutePort]
@[simp] theorem State.swapPorts_pending (s : State) (mask : Nat) : (s.swapPorts mask).pending = s.pending := by simp [State.swapPorts]
@[simp] theorem State.swapStage_pending (s : State) (m : Nat) : (s.swapStage m).pending = s.pending := by simp [State.swapStage]
@[simp] theorem execMoltStageSwap_keepsQueue (s : State) : KeepsQueue s (execMoltStageSwap s) := by simp [execMoltStageSwap]
@[simp] theorem execStaggerHandover_keepsQueue (s : State) : KeepsQueue s (execStaggerHandover s) := by simp [execStaggerHandover]
@[simp] theorem execStaggerMatchComplete_keepsQueue (s : State) : KeepsQueue s (execStaggerMatchComplete s) := by
  simp [execStaggerMatchComplete]
@[simp] theorem State.srWake_pending (s : State) : s.srWake.pending = s.pending := by simp [State.srWake]
@[simp] theorem State.tileReload_pending (s : State) (t : Nat) : (s.tileReload t).pending = s.pending := by simp [State.tileReload]
@[simp] theorem execScrubFrameRead_keepsQueue (t f err : Nat) (s : State) : KeepsQueue s (execScrubFrameRead t f err s) := by
  simp [execScrubFrameRead]
@[simp] theorem execScrubReloadSwap_keepsQueue (s : State) : KeepsQueue s (execScrubReloadSwap s) := by simp [execScrubReloadSwap]
@[simp] theorem cmdScrubStatus_pending (p : List Byte) (_floor : Nat) (s : State) : (cmdScrubStatus p _floor s).st.pending = s.pending := by
  simp [cmdScrubStatus]
@[simp] theorem execScrubStatus_keepsQueue (h : Hdr) (p : List Byte) (s : State) : KeepsQueue s (execScrubStatus h p s) := by
  simp [execScrubStatus]

/-! ## Power -/

@[simp] theorem State.pathTo_pending (s : State) (b : Bool) : (s.pathTo b).pending = s.pending := by simp [State.pathTo]
@[simp] theorem execVinInputFault_keepsQueue (b : Bool) (s : State) : KeepsQueue s (execVinInputFault b s) := by simp [execVinInputFault]
@[simp] theorem execVinReturnQualified_keepsQueue (b : Bool) (s : State) : KeepsQueue s (execVinReturnQualified b s) := by
  simp [execVinReturnQualified]
@[simp] theorem State.auxTo_pending (s : State) (b : Bool) : (s.auxTo b).pending = s.pending := by simp [State.auxTo]
@[simp] theorem execVauxInputFault_keepsQueue (b : Bool) (s : State) : KeepsQueue s (execVauxInputFault b s) := by simp [execVauxInputFault]
@[simp] theorem execVauxReturnQualified_keepsQueue (b : Bool) (s : State) : KeepsQueue s (execVauxReturnQualified b s) := by
  simp [execVauxReturnQualified]
@[simp] theorem execPwrForceBWrite_keepsQueue (v : Bool) (s : State) : KeepsQueue s (execPwrForceBWrite v s) := by simp [execPwrForceBWrite]
@[simp] theorem State.supplyStop_pending (s : State) (cause mc : Nat) (h : Hold) : (s.supplyStop cause mc h).pending = s.pending := by
  simp [State.supplyStop]

@[simp] theorem execSupplyFault_keepsQueue (cause mc : Nat) (s : State) : KeepsQueue s (execSupplyFault cause mc s) := by
  unfold execSupplyFault
  split
  · simp
  · simp only [keepsQueue_next, State.supplyStop_pending, State.pending_ite, State.countFail_pending, ite_self]
    split <;> simp

@[simp] theorem execSupplyRecovery_keepsQueue (s : State) : KeepsQueue s (execSupplyRecovery s) := by simp [execSupplyRecovery]
@[simp] theorem execVioFault_keepsQueue (s : State) : KeepsQueue s (execVioFault s) := by simp [execVioFault]
@[simp] theorem execVauxLoss_keepsQueue (s : State) : KeepsQueue s (execVauxLoss s) := by simp [execVauxLoss]
@[simp] theorem State.showSeqs_pending (s : State) : s.showSeqs.pending = s.pending := by simp [State.showSeqs]
@[simp] theorem cmdDomainPower_pending (p : List Byte) (_floor : Nat) (s : State) : (cmdDomainPower p _floor s).st.pending = s.pending := by
  simp [cmdDomainPower]
@[simp] theorem execDomainPower_keepsQueue (h : Hdr) (p : List Byte) (s : State) : KeepsQueue s (execDomainPower h p s) := by
  simp [execDomainPower]
@[simp] theorem State.fabState_pending (s : State) (d x : Nat) : (s.fabState d x).pending = s.pending := by simp [State.fabState]
@[simp] theorem State.domOrphans_pending (s : State) (d : Nat) : (s.domOrphans d).pending = s.pending := by simp [State.domOrphans]
@[simp] theorem State.domQuiet_pending (s : State) (d : Nat) : (s.domQuiet d).pending = s.pending := by simp [State.domQuiet]
@[simp] theorem execDomainSequenceStart_keepsQueue (s : State) : KeepsQueue s (execDomainSequenceStart s) := by
  simp only [execDomainSequenceStart]
  split <;> simp
@[simp] theorem State.keepMcs_pending (s : State) : s.keepMcs.pending = s.pending := by simp [State.keepMcs]
@[simp] theorem State.restoreMap_pending (s : State) : s.restoreMap.pending = s.pending := by simp [State.restoreMap]
@[simp] theorem State.restoreMcs_pending (s : State) : s.restoreMcs.pending = s.pending := by simp [State.restoreMcs]
@[simp] theorem State.domLose_pending (s : State) (d st : Nat) : (s.domLose d st).pending = s.pending := by simp [State.domLose]
@[simp] theorem State.domArrive_pending (s : State) (d st : Nat) : (s.domArrive d st).pending = s.pending := by simp [State.domArrive]
@[simp] theorem execDomainSequenceDone_keepsQueue (s : State) : KeepsQueue s (execDomainSequenceDone s) := by
  simp only [execDomainSequenceDone]
  split <;> simp
@[simp] theorem cmdOppointSet_pending (p : List Byte) (floor : Nat) (s : State) : (cmdOppointSet p floor s).st.pending = s.pending := by
  simp [cmdOppointSet]
@[simp] theorem execOppointSet_keepsQueue (h : Hdr) (p : List Byte) (s : State) : KeepsQueue s (execOppointSet h p s) := by
  simp [execOppointSet]
@[simp] theorem execOppointRaiseStart_keepsQueue (s : State) : KeepsQueue s (execOppointRaiseStart s) := by simp [execOppointRaiseStart]
@[simp] theorem State.opApply_pending (s : State) (c : Nat) : (s.opApply c).pending = s.pending := by simp [State.opApply]
@[simp] theorem execOppointSwitch_keepsQueue (s : State) : KeepsQueue s (execOppointSwitch s) := by simp [execOppointSwitch]
@[simp] theorem execOppointVoltageReached_keepsQueue (c mv : Nat) (s : State) : KeepsQueue s (execOppointVoltageReached c mv s) := by
  simp [execOppointVoltageReached]
@[simp] theorem State.pwrBoundary_pending (s : State) : s.pwrBoundary.pending = s.pending := by simp [State.pwrBoundary]
@[simp] theorem State.clockTick_pending (s : State) : s.clockTick.pending = s.pending := by
  simp only [State.clockTick]
  split <;> simp
@[simp] theorem State.runOnRc_pending (s : State) (forced : Bool) : (s.runOnRc forced).pending = s.pending := by simp [State.runOnRc]
@[simp] theorem execClockLossRcRunning_keepsQueue (cause : Nat) (forced : Bool) (s : State) :
    KeepsQueue s (execClockLossRcRunning cause forced s) := by
  simp [execClockLossRcRunning]
@[simp] theorem execClockLossRcStopped_keepsQueue (cause : Nat) (s : State) : KeepsQueue s (execClockLossRcStopped cause s) := by
  simp [execClockLossRcStopped]
@[simp] theorem execClockGapResume_keepsQueue (gap : Nat) (forced : Bool) (s : State) : KeepsQueue s (execClockGapResume gap forced s) := by
  simp [execClockGapResume]
@[simp] theorem State.rcFollows_pending (s : State) : s.rcFollows.pending = s.pending := by simp [State.rcFollows]
@[simp] theorem execMclkReturn_keepsQueue (forced : Bool) (s : State) : KeepsQueue s (execMclkReturn forced s) := by simp [execMclkReturn]
@[simp] theorem execClkReturnReqWrite_keepsQueue (s : State) : KeepsQueue s (execClkReturnReqWrite s) := by simp [execClkReturnReqWrite]
@[simp] theorem execEyeGateStart_keepsQueue (k : Nat) (s : State) : KeepsQueue s (execEyeGateStart k s) := by simp [execEyeGateStart]
@[simp] theorem execEyeGateEnd_keepsQueue (k count : Nat) (s : State) : KeepsQueue s (execEyeGateEnd k count s) := by
  simp only [execEyeGateEnd]
  split <;> (try split) <;> simp
@[simp] theorem cmdClockMeasure_pending (h : Hdr) (p : List Byte) (_floor : Nat) (s : State) :
    (cmdClockMeasure h p _floor s).st.pending = s.pending := by
  simp [cmdClockMeasure]
@[simp] theorem execClockMeasure_keepsQueue (h : Hdr) (p : List Byte) (s : State) : KeepsQueue s (execClockMeasure h p s) := by
  simp [execClockMeasure]
@[simp] theorem cmdClockStatus_pending (p : List Byte) (_floor : Nat) (s : State) : (cmdClockStatus p _floor s).st.pending = s.pending := by
  simp [cmdClockStatus]
@[simp] theorem execClockStatus_keepsQueue (h : Hdr) (p : List Byte) (s : State) : KeepsQueue s (execClockStatus h p s) := by
  simp [execClockStatus]
@[simp] theorem cmdSupplyStatus_pending (p : List Byte) (_floor : Nat) (s : State) :
    (cmdSupplyStatus p _floor s).st.pending = s.pending := by
  simp [cmdSupplyStatus]
@[simp] theorem execSupplyStatus_keepsQueue (h : Hdr) (p : List Byte) (s : State) : KeepsQueue s (execSupplyStatus h p s) := by
  simp [execSupplyStatus]
@[simp] theorem State.hotRun_pending (s : State) (i n : Nat) : (s.hotRun i n).pending = s.pending := by simp [State.hotRun]
@[simp] theorem State.peakOf_pending (s : State) (i : Nat) (t : Int) : (s.peakOf i t).pending = s.pending := by simp [State.peakOf]
@[simp] theorem State.sensor_pending (s : State) (i : Nat) (x : Option Int) : (s.sensor i x).pending = s.pending := by
  simp only [State.sensor]
  split <;> simp
@[simp] theorem State.thermal_pending (s : State) : s.thermal.pending = s.pending := by simp [State.thermal]
@[simp] theorem execSensorSample_keepsQueue (l : List (Option Int)) (vin : List Nat) (s : State) :
    KeepsQueue s (execSensorSample l vin s) := by
  simp [execSensorSample]
@[simp] theorem execThermalTrip_keepsQueue (sensor : Nat) (s : State) : KeepsQueue s (execThermalTrip sensor s) := by simp [execThermalTrip]
@[simp] theorem execThermalRecovery_keepsQueue (s : State) : KeepsQueue s (execThermalRecovery s) := by simp [execThermalRecovery]

/-! ## Debug -/

@[simp] theorem execDebugWireReset_keepsQueue (s : State) : KeepsQueue s (execDebugWireReset s) := by simp [execDebugWireReset]
@[simp] theorem execDebugWireRelease_keepsQueue (s : State) : KeepsQueue s (execDebugWireRelease s) := by simp [execDebugWireRelease]
@[simp] theorem execDebugWakePulse_keepsQueue (us u : Nat) (s : State) : KeepsQueue s (execDebugWakePulse us u s) := by
  simp [execDebugWakePulse]

@[simp] theorem State.needL2_pending {s t : State} (m : Nat) (ht : t.pending = s.pending) : (s.needL2 m t).pending = s.pending := by
  simp [State.needL2, ht]

@[simp] theorem State.wireChallenge_pending (s : State) (level : Nat) : (s.wireChallenge level).pending = s.pending := by
  simp [State.wireChallenge]
@[simp] theorem execDbgAuthChallengeWrite_keepsQueue (m level : Nat) (s : State) : KeepsQueue s (execDbgAuthChallengeWrite m level s) := by
  simp [execDbgAuthChallengeWrite]
@[simp] theorem State.wireSubmit_pending (s : State) : s.wireSubmit.pending = s.pending := by simp [State.wireSubmit]
@[simp] theorem execDbgAuthSubmit_keepsQueue (m : Nat) (s : State) : KeepsQueue s (execDbgAuthSubmit m s) := by simp [execDbgAuthSubmit]

@[simp] theorem State.engCtrl_pending (m e : Nat) {f : State → State} (hf : ∀ t, (f t).pending = t.pending) (s : State) :
    (s.engCtrl m e f).pending = s.pending := by
  simp [State.engCtrl, hf]

@[simp] theorem State.askHalt_pending (s : State) (e : Nat) : (s.askHalt e).pending = s.pending := by simp [State.askHalt]
@[simp] theorem execEngineHaltRequest_keepsQueue (m e : Nat) (s : State) : KeepsQueue s (execEngineHaltRequest m e s) := by
  simp [execEngineHaltRequest]
@[simp] theorem execEngineHaltTaken_keepsQueue (e : Nat) (s : State) : KeepsQueue s (execEngineHaltTaken e s) := by
  simp [execEngineHaltTaken]
@[simp] theorem State.unhalt_pending (s : State) (e : Nat) : (s.unhalt e).pending = s.pending := by simp [State.unhalt]
@[simp] theorem execEngineResume_keepsQueue (m e : Nat) (s : State) : KeepsQueue s (execEngineResume m e s) := by simp [execEngineResume]
@[simp] theorem State.dbgPc_pending (s : State) (m v : Nat) : (s.dbgPc m v).pending = s.pending := by simp [State.dbgPc]
@[simp] theorem execDbgPcWrite_keepsQueue (m v : Nat) (s : State) : KeepsQueue s (execDbgPcWrite m v s) := by simp [execDbgPcWrite]
@[simp] theorem State.coreAsk_pending (s : State) (m mask : Nat) : (s.coreAsk m mask).pending = s.pending := by simp [State.coreAsk]
@[simp] theorem execCoreHalt_keepsQueue (m mask : Nat) (s : State) : KeepsQueue s (execCoreHalt m mask s) := by simp [execCoreHalt]
@[simp] theorem execCoreHaltTaken_keepsQueue (k : Nat) (s : State) : KeepsQueue s (execCoreHaltTaken k s) := by simp [execCoreHaltTaken]
@[simp] theorem State.lockForce_pending (s : State) (m v : Nat) : (s.lockForce m v).pending = s.pending := by simp [State.lockForce]
@[simp] theorem execLockForce_keepsQueue (m v : Nat) (s : State) : KeepsQueue s (execLockForce m v s) := by simp [execLockForce]
@[simp] theorem State.bistStart_pending (s : State) (d kind : Nat) (both : Bool) : (s.bistStart d kind both).pending = s.pending := by
  simp [State.bistStart]
@[simp] theorem cmdBistRun_pending (p : List Byte) (_floor : Nat) (s : State) : (cmdBistRun p _floor s).st.pending = s.pending := by
  simp [cmdBistRun]
@[simp] theorem execBistRun_keepsQueue (h : Hdr) (p : List Byte) (s : State) : KeepsQueue s (execBistRun h p s) := by simp [execBistRun]
@[simp] theorem execBistComplete_keepsQueue (sig : Nat) (fails : List (Nat × Nat)) (s : State) :
    KeepsQueue s (execBistComplete sig fails s) := by
  simp only [execBistComplete]
  split <;> simp
@[simp] theorem cmdBistResult_pending (h : Hdr) (p : List Byte) (_floor : Nat) (s : State) :
    (cmdBistResult h p _floor s).st.pending = s.pending := by
  simp [cmdBistResult]
@[simp] theorem execBistResult_keepsQueue (h : Hdr) (p : List Byte) (s : State) : KeepsQueue s (execBistResult h p s) := by
  simp [execBistResult]
@[simp] theorem cmdRepairFuse_pending (p : List Byte) (_floor : Nat) (s : State) : (cmdRepairFuse p _floor s).st.pending = s.pending := by
  simp [cmdRepairFuse]
@[simp] theorem execRepairFuse_keepsQueue (h : Hdr) (p : List Byte) (s : State) : KeepsQueue s (execRepairFuse h p s) := by
  simp [execRepairFuse]

/-! ## Bundle -/

@[simp] theorem State.fly_pending (s : State) (e : Nat) (l : List (Nat × Landing)) : (s.fly e l).pending = s.pending := by simp [State.fly]

@[simp] theorem State.winWrite_pending (s : State) (e x v : Nat) : ∀ t, s.winWrite e x v = .inl t → t.pending = s.pending := by
  intro t h
  unfold State.winWrite at h
  repeat' split at h
  all_goals cases h <;> simp

@[simp] theorem State.engWrite_pending (s : State) (e a : Nat) (b : List Byte) :
    ∀ t, s.engWrite e a b = .inl t → t.pending = s.pending := by
  intro t h
  unfold State.engWrite at h
  dsimp only at h
  repeat' split at h
  all_goals cases h <;> simp

@[simp] theorem LRes.fault_pending (s : State) (cause a : Nat) : (LRes.fault s cause a).st.pending = s.pending := rfl

@[simp] theorem State.ldVec_pending (s : State) (e d a : Nat) (post : List (Nat × Landing)) :
    (s.ldVec e d a post).st.pending = s.pending := by
  have h := State.engRead_pending s e a 32
  unfold State.ldVec
  split <;> simp_all

@[simp] theorem State.stVec_pending (s : State) (e d a : Nat) (post : List (Nat × Landing)) :
    (s.stVec e d a post).st.pending = s.pending := by
  unfold State.stVec
  split
  · next t h => exact State.engWrite_pending s _ _ _ t h
  · rfl

@[simp] theorem State.lSlot_pending (s : State) (e : Nat) (o : SlotOp) : (s.lSlot e o).st.pending = s.pending := by
  unfold State.lSlot
  dsimp only
  split
  · simp
  · simp
  · repeat' split
    all_goals simp
  · split
    · have hw := State.winRead_pending s e
      split
      · next hr => exact (congrArg (·.1.pending) hr).symm.trans (hw _)
      · next hr => exact (congrArg (·.1.pending) hr).symm.trans (hw _)
    · have he := State.engRead_pending s e
      split
      · next hr => exact (congrArg (·.1.pending) hr).symm.trans (he _ _)
      · next hr => exact (congrArg (·.1.pending) hr).symm.trans (he _ _)
  · simp
  · simp
  · split
    · next t h =>
      split at h
      · exact State.winWrite_pending _ _ _ _ t h
      · exact State.engWrite_pending _ _ _ _ t h
    · rfl
  · rfl

@[simp] theorem State.runSlots_pending (s : State) (e : Nat) (b : Bundle) : (s.runSlots e b).1.pending = s.pending := by
  simp [State.runSlots]

@[simp] theorem State.raise_pending (s : State) (e pc : Nat) (exc : Option (Nat × Nat)) : (s.raise e pc exc).pending = s.pending := by
  simp only [State.raise]
  split <;> simp
@[simp] theorem State.doReti_pending (s : State) (e : Nat) : (s.doReti e).pending = s.pending := by simp [State.doReti]
@[simp] theorem State.after_pending (s : State) (e : Nat) (c : Ctl) : (s.after e c).pending = s.pending := by
  simp only [State.after]
  split <;> simp
@[simp] theorem State.pass_pending (s : State) (e : Nat) (c : Ctl) : (s.pass e c).pending = s.pending := by simp [State.pass]
@[simp] theorem State.issue_pending (s : State) (e : Nat) (b : Bundle) : (s.issue e b).pending = s.pending := by simp [State.issue]
@[simp] theorem State.place_pending (s : State) (e : Nat) (more : Bool) (f : Bundle → Bundle) : (s.place e more f).pending = s.pending := by
  simp [State.place]
@[simp] theorem State.inS_pending (s : State) (e : Nat) (more : Bool) (o : SlotOp) : (s.inS e more o).pending = s.pending := by
  simp [State.inS]
@[simp] theorem State.inL_pending (s : State) (e : Nat) (more : Bool) (o : SlotOp) : (s.inL e more o).pending = s.pending := by
  simp [State.inL]
@[simp] theorem State.inV_pending (s : State) (e : Nat) (more : Bool) (o : SlotOp) : (s.inV e more o).pending = s.pending := by
  simp [State.inV]
@[simp] theorem State.inM_pending (s : State) (e : Nat) (more : Bool) (o : SlotOp) : (s.inM e more o).pending = s.pending := by
  simp [State.inM]
@[simp] theorem State.issueNext_pending (s : State) (e : Nat) : (s.issueNext e).pending = s.pending := by
  simp only [State.issueNext]
  split <;> simp

@[simp] theorem State.stepMore_pending (s : State) (e n : Nat) : (s.stepMore e n).pending = s.pending := by
  induction n generalizing s with
  | zero => rfl
  | succ n ih => simp [State.stepMore, ih]

@[simp] theorem State.step1_pending (s : State) (e : Nat) : (s.step1 e).pending = s.pending := by
  simp [State.step1]

@[simp] theorem execEngineStep_keepsQueue (m e : Nat) (s : State) : KeepsQueue s (execEngineStep m e s) := by simp [execEngineStep]
@[simp] theorem State.inject_pending (s : State) (e : Nat) : (s.inject e).pending = s.pending := by
  simp only [State.inject]
  repeat' split
  all_goals simp
@[simp] theorem execEngineInject_keepsQueue (m e : Nat) (s : State) : KeepsQueue s (execEngineInject m e s) := by simp [execEngineInject]

/-! ## Rings -/

@[simp] theorem State.ringErr_pending (s : State) (f : Fld) : (s.ringErr f).pending = s.pending := by simp [State.ringErr]
@[simp] theorem State.zeroRing_pending (s : State) (n : Nat) : (s.zeroRing n).pending = s.pending := by simp [State.zeroRing]

@[simp] theorem State.posted_pending {s t : State} (off : Nat) (ht : t.pending = s.pending) : (s.posted off t).pending = s.pending := by
  simp [State.posted, ht]

@[simp] theorem State.indexWrite_pending (s : State) (n v : Nat) (f : Fld) : (s.indexWrite n v f).pending = s.pending := by
  simp [State.indexWrite]
@[simp] theorem execSqTailWrite_keepsQueue (n v : Nat) (s : State) : KeepsQueue s (execSqTailWrite n v s) := by simp [execSqTailWrite]
@[simp] theorem execCqHeadWrite_keepsQueue (n v : Nat) (s : State) : KeepsQueue s (execCqHeadWrite n v s) := by simp [execCqHeadWrite]
@[simp] theorem execRingEnable_keepsQueue (n : Nat) (s : State) : KeepsQueue s (execRingEnable n s) := by simp [execRingEnable]
@[simp] theorem execRingDisable_keepsQueue (n : Nat) (s : State) : KeepsQueue s (execRingDisable n s) := by simp [execRingDisable]
@[simp] theorem execRingIdle_keepsQueue (n : Nat) (s : State) : KeepsQueue s (execRingIdle n s) := by simp [execRingIdle]
@[simp] theorem execRingLengthWrite_keepsQueue (n v : Nat) (s : State) : KeepsQueue s (execRingLengthWrite n v s) := by
  simp [execRingLengthWrite]
@[simp] theorem execRingLengthApply_keepsQueue (n : Nat) (s : State) : KeepsQueue s (execRingLengthApply n s) := by
  simp [execRingLengthApply]
@[simp] theorem execRingCancel_keepsQueue (n : Nat) (s : State) : KeepsQueue s (execRingCancel n s) := by simp [execRingCancel]
@[simp] theorem execRingBaseWrite_keepsQueue (n r v : Nat) (s : State) : KeepsQueue s (execRingBaseWrite n r v s) := by
  simp [execRingBaseWrite]
@[simp] theorem State.ringReply_pending (s : State) (r : Reply) (n slot : Nat) (phase : Bool) :
    (s.ringReply r n slot phase).pending = s.pending := by
  simp [State.ringReply]
@[simp] theorem State.replyWrite_pending (s : State) (i : Nat) : (s.replyWrite i).pending = s.pending := by
  simp only [State.replyWrite]
  split <;> (try split) <;> simp
@[simp] theorem execReplyWrite_keepsQueue (i : Nat) (late : Bool) (s : State) : KeepsQueue s (execReplyWrite i late s) := by
  simp [execReplyWrite]
@[simp] theorem State.flushReplies_pending (s : State) : s.flushReplies.pending = s.pending := by simp [State.flushReplies]
@[simp] theorem execSpiReadStatus_keepsQueue (s : State) : KeepsQueue s (execSpiReadStatus s) := by simp [execSpiReadStatus]
@[simp] theorem execSpiWriteBuf_keepsQueue (off : Nat) (data : List Byte) (s : State) : KeepsQueue s (execSpiWriteBuf off data s) := by
  simp [execSpiWriteBuf]
@[simp] theorem execSpiReadBuf_keepsQueue (off len : Nat) (s : State) : KeepsQueue s (execSpiReadBuf off len s) := by simp [execSpiReadBuf]

/-! ## Modes -/

@[simp] theorem cmdDevQuery_pending (p : List Byte) (_floor : Nat) (s : State) : (cmdDevQuery p _floor s).st.pending = s.pending := by
  simp [cmdDevQuery]
@[simp] theorem execDevQuery_keepsQueue (h : Hdr) (p : List Byte) (s : State) : KeepsQueue s (execDevQuery h p s) := by simp [execDevQuery]
@[simp] theorem cmdDevCaps_pending (p : List Byte) (_floor : Nat) (s : State) : (cmdDevCaps p _floor s).st.pending = s.pending := by
  simp [cmdDevCaps]
@[simp] theorem execDevCaps_keepsQueue (h : Hdr) (p : List Byte) (s : State) : KeepsQueue s (execDevCaps h p s) := by simp [execDevCaps]
@[simp] theorem cmdModeSet_pending (p : List Byte) (_floor : Nat) (s : State) : (cmdModeSet p _floor s).st.pending = s.pending := by
  simp [cmdModeSet]
@[simp] theorem execModeSet_keepsQueue (h : Hdr) (p : List Byte) (s : State) : KeepsQueue s (execModeSet h p s) := by simp [execModeSet]
@[simp] theorem cmdModeGet_pending (p : List Byte) (_floor : Nat) (s : State) : (cmdModeGet p _floor s).st.pending = s.pending := by
  simp [cmdModeGet]
@[simp] theorem execModeGet_keepsQueue (h : Hdr) (p : List Byte) (s : State) : KeepsQueue s (execModeGet h p s) := by simp [execModeGet]
@[simp] theorem State.stopRefs_pending (s : State) : s.stopRefs.pending = s.pending := by
  simp only [State.stopRefs]
  split <;> simp
@[simp] theorem State.enterDiapause_pending (s : State) : s.enterDiapause.pending = s.pending := by simp [State.enterDiapause]
@[simp] theorem execModeChange_keepsQueue (s : State) : KeepsQueue s (execModeChange s) := by
  simp only [execModeChange]
  split <;> simp
@[simp] theorem State.wakeUp_pending (s : State) : s.wakeUp.pending = s.pending := by simp [State.wakeUp]
@[simp] theorem execDiapWakePin_keepsQueue (s : State) : KeepsQueue s (execDiapWakePin s) := by simp [execDiapWakePin]
@[simp] theorem execWakeTickExpiry_keepsQueue (s : State) : KeepsQueue s (execWakeTickExpiry s) := by simp [execWakeTickExpiry]
@[simp] theorem State.restorePorts_pending (s : State) : s.restorePorts.pending = s.pending := by simp [State.restorePorts]
@[simp] theorem State.restoreLinks_pending (s : State) : s.restoreLinks.pending = s.pending := by simp [State.restoreLinks]
@[simp] theorem State.enterRoost_pending (s : State) : s.enterRoost.pending = s.pending := by simp [State.enterRoost]
@[simp] theorem State.autoRejoin_pending (s : State) : s.autoRejoin.pending = s.pending := by simp [State.autoRejoin]
@[simp] theorem execDiapauseWake_keepsQueue (s : State) : KeepsQueue s (execDiapauseWake s) := by simp [execDiapauseWake]
@[simp] theorem State.setPreferred_pending (s : State) (slot : Nat) : (s.setPreferred slot).pending = s.pending := by
  simp only [State.setPreferred]
  split <;> simp
@[simp] theorem State.applyPolicy_pending (s : State) : s.applyPolicy.pending = s.pending := by simp [State.applyPolicy]
@[simp] theorem State.confirm_pending (s : State) : s.confirm.pending = s.pending := by simp [State.confirm]
@[simp] theorem cmdBootConfirm_pending (p : List Byte) (_floor : Nat) (s : State) : (cmdBootConfirm p _floor s).st.pending = s.pending := by
  simp [cmdBootConfirm]
@[simp] theorem execBootConfirm_keepsQueue (h : Hdr) (p : List Byte) (s : State) : KeepsQueue s (execBootConfirm h p s) := by
  simp [execBootConfirm]
@[simp] theorem execRoostEntryOnLock_keepsQueue (s : State) : KeepsQueue s (execRoostEntryOnLock s) := by simp [execRoostEntryOnLock]
@[simp] theorem cmdDevReset_pending (p : List Byte) (_floor : Nat) (s : State) : (cmdDevReset p _floor s).st.pending = s.pending := by
  simp [cmdDevReset]
@[simp] theorem execDevReset_keepsQueue (h : Hdr) (p : List Byte) (s : State) : KeepsQueue s (execDevReset h p s) := by simp [execDevReset]
@[simp] theorem execWarmReset_keepsQueue (s : State) : KeepsQueue s (execWarmReset s) := by simp [execWarmReset]
@[simp] theorem execColdStart_keepsQueue (bootSrc mclkSel oscDly : Nat) (s : State) :
    KeepsQueue s (execColdStart bootSrc mclkSel oscDly s) := by
  simp [execColdStart]
@[simp] theorem execBootAbortWrite_keepsQueue (s : State) : KeepsQueue s (execBootAbortWrite s) := by simp [execBootAbortWrite]
@[simp] theorem State.msixReset_pending (s : State) : s.msixReset.pending = s.pending := by simp [State.msixReset]
@[simp] theorem execPciePerstAssert_keepsQueue (s : State) : KeepsQueue s (execPciePerstAssert s) := by simp [execPciePerstAssert]
@[simp] theorem execHostLinkDown_keepsQueue (s : State) : KeepsQueue s (execHostLinkDown s) := by simp [execHostLinkDown]
@[simp] theorem execPcieFlr_keepsQueue (s : State) : KeepsQueue s (execPcieFlr s) := by simp [execPcieFlr]

@[simp] theorem State.bootKeys_pending (s : State) (l : List (Nat × Nat × Nat)) : (s.bootKeys l).pending = s.pending := by
  refine State.pending_foldl (fun t x => ?_) _ _
  split <;> simp

@[simp] theorem State.bootBlobs_pending (s : State) (rd : Reader) : (s.bootBlobs rd).1.pending = s.pending := by
  unfold State.bootBlobs
  generalize (imgTable rd).filter _ = l
  generalize s.storeBase + _ = a
  induction l generalizing s a with
  | nil => rfl
  | cons x l ih => exact (ih _ _).trans (by simp)

theorem State.bootCosts_pending (n id : Nat) (b : List Byte) (s : State) : ∀ t, s.bootCosts n id b = some t → t.pending = s.pending := by
  induction n generalizing s id b with
  | zero => intro t h; cases h; rfl
  | succ n ih =>
    intro t h
    simp only [State.bootCosts, Option.ite_none_left_eq_some] at h
    exact (ih _ _ _ t h.2).trans rfl

@[simp] theorem State.bootStep9_pending (s : State) (rd : Reader) : ∀ t, s.bootStep9 rd = some t → t.pending = s.pending := by
  intro t h
  have hk : ∀ (b : List Byte), ({ s with sec := { s.sec with policy := b } } : State).pending = s.pending := fun _ => rfl
  unfold State.bootStep9 at h
  dsimp only at h
  split at h
  · obtain ⟨u, hu, rfl⟩ := Option.map_eq_some_iff.1 h
    rw [State.bootBlobs_pending, State.bootCosts_pending _ _ _ _ u hu]
    dsimp only
    rw [State.bootKeys_pending]
    split <;> simp
  · cases h
    rw [State.bootBlobs_pending]
    dsimp only
    rw [State.bootKeys_pending]
    split <;> simp

@[simp] theorem State.bootStep10_pending (s : State) (rd : Reader) (dg : Nat) : (s.bootStep10 rd dg).pending = s.pending := by
  simp [State.bootStep10]
@[simp] theorem State.dropKeyless_pending (s : State) : s.dropKeyless.pending = s.pending := by simp [State.dropKeyless]
@[simp] theorem State.bootStep11_pending (s : State) (rd : Reader) (slot : Nat) : (s.bootStep11 rd slot).pending = s.pending := by
  simp [State.bootStep11]
@[simp] theorem State.bootCopy_pending (s : State) (rd : Reader) (n : Nat) : (s.bootCopy rd n).pending = s.pending := by
  simp [State.bootCopy]

@[simp] theorem State.bootRun_pending (s : State) (rd : Reader) (slot : Nat) : (s.bootRun rd slot).pending = s.pending := by
  unfold State.bootRun
  split
  · simp
  · next t ht =>
    have hp := State.bootStep9_pending _ _ t ht
    simpa using hp

@[simp] theorem State.bootSlots_pending (s : State) (n : Nat) : (s.bootSlots n).pending = s.pending := by
  induction n generalizing s with
  | zero => rfl
  | succ n ih =>
    unfold State.bootSlots
    dsimp only
    split
    · simp
    · simp [ih]

@[simp] theorem State.bootDelivered_pending (s : State) : s.bootDelivered.pending = s.pending := by
  simp only [State.bootDelivered]
  split <;> simp
@[simp] theorem State.openFlash_pending (s : State) : s.openFlash.1.pending = s.pending := by
  simp only [State.openFlash]
  split <;> simp
@[simp] theorem execEclosionStart_keepsQueue (e : EclEnv) (s : State) : KeepsQueue s (execEclosionStart e s) := by
  unfold execEclosionStart
  repeat' split
  all_goals simp
@[simp] theorem State.mcReady_pending (s : State) (d : DimmCh) (m speed : Nat) : (s.mcReady d m speed).pending = s.pending := by
  simp [State.mcReady]
@[simp] theorem State.linesReady_pending (s : State) : s.linesReady.pending = s.pending := by simp [State.linesReady]

@[simp] theorem execDramInitDone_keepsQueue (l : List DimmCh) (s : State) : KeepsQueue s (execDramInitDone l s) := by
  unfold execDramInitDone
  dsimp only
  split
  · simp
  · split <;> simp

@[simp] theorem execEclosionAttemptFail_keepsQueue (code : Nat) (s : State) : KeepsQueue s (execEclosionAttemptFail code s) := by
  simp [execEclosionAttemptFail]
@[simp] theorem execEclosionWatchdogExpiry_keepsQueue (s : State) : KeepsQueue s (execEclosionWatchdogExpiry s) := by
  simp [execEclosionWatchdogExpiry]
@[simp] theorem State.bootBlock_pending (s : State) (off : Nat) (b : List Byte) (last : Bool) :
    (s.bootBlock off b last).pending = s.pending := by
  simp [State.bootBlock]
@[simp] theorem execBootFrameReceive_keepsQueue (off : Nat) (data : List Byte) (last : Bool) (s : State) :
    KeepsQueue s (execBootFrameReceive off data last s) := by
  simp [execBootFrameReceive]
@[simp] theorem State.flashBlock_pending (s : State) (b off : Nat) (d : List Byte) : (s.flashBlock b off d).pending = s.pending := by
  simp [State.flashBlock]
@[simp] theorem cmdImageWrite_pending (h : Hdr) (p : List Byte) (_floor : Nat) (s : State) :
    (cmdImageWrite h p _floor s).st.pending = s.pending := by
  simp only [cmdImageWrite]
  repeat' split
  all_goals simp
@[simp] theorem execImageWrite_keepsQueue (h : Hdr) (p : List Byte) (s : State) : KeepsQueue s (execImageWrite h p s) := by
  simp [execImageWrite]
@[simp] theorem cmdSlotSelect_pending (p : List Byte) (_floor : Nat) (s : State) : (cmdSlotSelect p _floor s).st.pending = s.pending := by
  simp [cmdSlotSelect]
@[simp] theorem execSlotSelect_keepsQueue (h : Hdr) (p : List Byte) (s : State) : KeepsQueue s (execSlotSelect h p s) := by
  simp [execSlotSelect]
@[simp] theorem cmdBootRecord_pending (p : List Byte) (_floor : Nat) (s : State) : (cmdBootRecord p _floor s).st.pending = s.pending := by
  simp [cmdBootRecord]
@[simp] theorem execBootRecord_keepsQueue (h : Hdr) (p : List Byte) (s : State) : KeepsQueue s (execBootRecord h p s) := by
  simp [execBootRecord]

/-! ## Transport -/

/-- No command's body touches the queue. -/
@[simp] theorem bodyOf_pending (op : Nat) (h : Hdr) (p : List Byte) (n : Nat) (s : State) : (bodyOf op h p n s).st.pending = s.pending := by
  unfold bodyOf
  split <;> simp

@[simp] theorem State.start_pending (s : State) (op : Nat) (h : Hdr) (p : List Byte) : (s.start op h p).pending = s.pending := by
  simp [State.start]

@[simp] theorem State.takeEntry_pending (s : State) (via : Via) (ns : Nat) (e : List Byte) (blk : Bool) (bad : List Nat) :
    (s.takeEntry via ns e blk bad).pending = s.pending := by
  simp only [State.takeEntry]
  repeat' split
  all_goals simp
@[simp] theorem execEntryFetch_keepsQueue (n : Nat) (rx : Option Nat) (blk : Bool) (bad : List Nat) (s : State) :
    KeepsQueue s (execEntryFetch n rx blk bad s) := by
  simp only [execEntryFetch]
  split <;> (try split) <;> simp
@[simp] theorem State.spiPump_pending (s : State) : s.spiPump.pending = s.pending := by
  simp only [State.spiPump]
  split <;> simp
@[simp] theorem State.spiErr_pending (s : State) (f : Fld) : (s.spiErr f).pending = s.pending := by simp [State.spiErr]
@[simp] theorem execSpiWriteSub_keepsQueue (x : SpiHead) (data : List Byte) (s : State) : KeepsQueue s (execSpiWriteSub x data s) := by
  simp [execSpiWriteSub]
@[simp] theorem execSpiReadReply_keepsQueue (full : Bool) (s : State) : KeepsQueue s (execSpiReadReply full s) := by
  simp only [execSpiReadReply]
  split <;> (try split) <;> simp
@[simp] theorem execForwardedCommandReceive_keepsQueue (op : Nat) (h : Hdr) (p : List Byte) (s : State) :
    KeepsQueue s (execForwardedCommandReceive op h p s) := by
  unfold execForwardedCommandReceive
  repeat' split
  all_goals simp
@[simp] theorem State.answerFrom_pending (s : State) (h : Hdr) (src status eff : Nat) (result : List Byte) :
    (s.answerFrom h src status eff result).pending = s.pending := by
  simp [State.answerFrom]
@[simp] theorem State.dropXact_pending (s : State) (a : XAct) (status : Nat) : (s.dropXact a status).pending = s.pending := by
  simp [State.dropXact]
@[simp] theorem State.xactAnswer_pending (s : State) (a : XAct) (src status eff : Nat) :
    (s.xactAnswer a src status eff).pending = s.pending := by
  simp [State.xactAnswer]
@[simp] theorem State.twinAnswer_pending (s : State) (w : HeldCmd) (status eff : Nat) :
    (s.twinAnswer w status eff).pending = s.pending := by
  simp only [State.twinAnswer]
  repeat' split
  all_goals simp
@[simp] theorem State.twinConfirm_pending (s : State) (w : HeldCmd) (status eff : Nat) :
    (s.twinConfirm w status eff).pending = s.pending := by
  simp [State.twinConfirm]
@[simp] theorem execForwardedReplyReceive_keepsQueue (src : Nat) (seq : Word) (status eff : Nat) (result : List Byte) (bufs : List (Nat × List Byte)) (s : State) :
    KeepsQueue s (execForwardedReplyReceive src seq status eff result bufs s) := by
  unfold execForwardedReplyReceive
  repeat' split
  all_goals simp
@[simp] theorem execForwardTimeout_keepsQueue (dst : Nat) (seq : Word) (s : State) : KeepsQueue s (execForwardTimeout dst seq s) := by
  simp only [execForwardTimeout]
  split <;> (try split) <;> simp

@[simp] theorem execTwinCommandReceive_keepsQueue (op : Nat) (h : Hdr) (p : List Byte) (floor : Nat) (s : State) :
    KeepsQueue s (execTwinCommandReceive op h p floor s) := by
  unfold execTwinCommandReceive
  dsimp only
  split
  · simp
  · split
    · split
      · next t ht => simpa using State.moltSecondary_pending _ _ _ t ht
      · simp
    · split
      · simp
      · split
        · split <;> simp
        · simp

@[simp] theorem execTwinCommandTimeout_keepsQueue (seq : Word) (s : State) : KeepsQueue s (execTwinCommandTimeout seq s) := by
  simp only [execTwinCommandTimeout]
  split <;> simp
@[simp] theorem State.coreAnswers_pending (s : State) (core : Nat) : (s.coreAnswers core).pending = s.pending := by
  simp only [State.coreAnswers]
  split <;> simp
@[simp] theorem execCoreWatchdogExpiry_keepsQueue (core : Nat) (s : State) : KeepsQueue s (execCoreWatchdogExpiry core s) := by
  simp [execCoreWatchdogExpiry]
@[simp] theorem State.runHeld_pending (s : State) : s.runHeld.pending = s.pending := by simp [State.runHeld]
@[simp] theorem State.coresBack_pending (s : State) : s.coresBack.pending = s.pending := by simp [State.coresBack]
@[simp] theorem State.coreRun_pending (s : State) (m mask : Nat) : (s.coreRun m mask).pending = s.pending := by simp [State.coreRun]
@[simp] theorem execCoreResume_keepsQueue (m mask : Nat) (s : State) : KeepsQueue s (execCoreResume m mask s) := by simp [execCoreResume]

/-! ## Bus -/

@[simp] theorem State.wordWrite_pending (s : State) (o v : Nat) : (s.wordWrite o v).pending = s.pending := by simp [State.wordWrite]

/-- The state that a row leaves has the row's queue. -/
@[simp] theorem Res.st_pending {s : State} {r : Res} (h : KeepsQueue s r) : (Res.st s r).pending = s.pending := by
  obtain ⟨t, rfl, ht⟩ := h
  exact ht

@[simp] theorem State.ringWrite_pending (s : State) (n x v : Nat) : (s.ringWrite n x v).pending = s.pending := by
  unfold State.ringWrite
  split <;> simp

@[simp] theorem State.stageTick_pending (s : State) (o v : Nat) : (s.stageTick o v).pending = s.pending := by simp [State.stageTick]
@[simp] theorem State.mcCfgWrite_pending (s : State) (m v : Nat) : (s.mcCfgWrite m v).pending = s.pending := by simp [State.mcCfgWrite]
@[simp] theorem State.msixCtrlWrite_pending (s : State) (n v : Nat) : (s.msixCtrlWrite n v).pending = s.pending := by
  simp [State.msixCtrlWrite]
@[simp] theorem State.cluWrite_pending (s : State) (m o v : Nat) : (s.cluWrite m o v).pending = s.pending := by simp [State.cluWrite]
@[simp] theorem State.ownWrite_pending (s : State) (m o v : Nat) : (s.ownWrite m o v).pending = s.pending := by simp [State.ownWrite]
@[simp] theorem State.dbgWrite_pending (s : State) (m o v : Nat) : (s.dbgWrite m o v).pending = s.pending := by simp [State.dbgWrite]
@[simp] theorem State.userWrite_pending (s : State) (m o v : Nat) : (s.userWrite m o v).pending = s.pending := by simp [State.userWrite]
@[simp] theorem State.busWrite_pending (s : State) (m o v : Nat) : (s.busWrite m o v).pending = s.pending := by
  unfold State.busWrite
  repeat' split
  all_goals simp
@[simp] theorem execRegisterWrite_keepsQueue (m o v : Nat) (s : State) : KeepsQueue s (execRegisterWrite m o v s) := by
  simp [execRegisterWrite]
@[simp] theorem State.peakRead_pending (s : State) (o : Nat) : (s.peakRead o).pending = s.pending := by simp [State.peakRead]
@[simp] theorem State.rcClear_pending (s : State) (o : Nat) : (s.rcClear o).pending = s.pending := by
  simp only [State.rcClear]
  split <;> simp
@[simp] theorem execRcFieldRead_keepsQueue (m o : Nat) (s : State) : KeepsQueue s (execRcFieldRead m o s) := by simp [execRcFieldRead]
@[simp] theorem State.bar2Write_pending (s : State) (a : Nat) (b : List Byte) : (s.bar2Write a b).pending = s.pending := by
  simp only [State.bar2Write]
  split <;> simp
@[simp] theorem execHostBar2Write_keepsQueue (a : Nat) (bytes : List Byte) (s : State) : KeepsQueue s (execHostBar2Write a bytes s) := by
  simp [execHostBar2Write]

@[simp] theorem State.fullRead_pending (s : State) (o : Nat) : (s.fullRead o).1.pending = s.pending := by
  simp only [State.fullRead]
  split
  · simp
  · split
    · simp
    · split
      · exact Res.st_pending (execTickNumLoRead_keepsQueue _ s.drew)
      · split <;> simp

@[simp] theorem State.dbgDo_pending (s : State) (f : DbgFrame) : (s.dbgDo f).1.pending = s.pending := by
  simp only [State.dbgDo]
  split <;> (try split) <;> simp
@[simp] theorem State.dbgRun_pending (s : State) (f : DbgFrame) : (s.dbgRun f).1.pending = s.pending := by
  unfold State.dbgRun
  repeat' split
  all_goals simp
@[simp] theorem State.dbgSend_pending (s : State) (f : DbgFrame) (st : Nat) (data : Word) : (s.dbgSend f st data).pending = s.pending := by
  simp [State.dbgSend]
@[simp] theorem State.dbgFrame_pending (s : State) (f : DbgFrame) : (s.dbgFrame f).pending = s.pending := by
  unfold State.dbgFrame
  repeat' split
  all_goals simp
@[simp] theorem execDebugRead_keepsQueue (f : DbgFrame) (s : State) : KeepsQueue s (execDebugRead f s) := by simp [execDebugRead]
@[simp] theorem execDebugWrite_keepsQueue (f : DbgFrame) (s : State) : KeepsQueue s (execDebugWrite f s) := by simp [execDebugWrite]
@[simp] theorem execDebugWake_keepsQueue (f : DbgFrame) (s : State) : KeepsQueue s (execDebugWake f s) := by simp [execDebugWake]

/-! ## Boundary -/

@[simp] theorem State.heartbeat_pending (s : State) (k : Nat) : (s.heartbeat k).pending = s.pending := by simp [State.heartbeat]
@[simp] theorem State.marker_pending (s : State) (k t1 : Nat) : (s.marker k t1).pending = s.pending := by simp [State.marker]
@[simp] theorem State.sendDigest_pending (s : State) : s.sendDigest.pending = s.pending := by simp [State.sendDigest]
@[simp] theorem State.transferShort_pending (s : State) (i : Nat) : (s.transferShort i).pending = s.pending := by simp [State.transferShort]
@[simp] theorem State.xactsLate_pending (s : State) : s.xactsLate.pending = s.pending := by simp [State.xactsLate]
@[simp] theorem State.headroom_pending (s : State) : s.headroom.pending = s.pending := by simp [State.headroom]
@[simp] theorem State.engTick_pending (s : State) (e : Nat) : (s.engTick e).pending = s.pending := by simp [State.engTick]
@[simp] theorem State.wdogApply_pending (s : State) : s.wdogApply.pending = s.pending := by simp [State.wdogApply]
@[simp] theorem State.fportMeasured_pending (s : State) (x : Nat × Nat) : (s.fportMeasured x).pending = s.pending := by
  simp [State.fportMeasured]
@[simp] theorem State.fpllMeasured_pending (s : State) (x : Nat × Nat) : (s.fpllMeasured x).pending = s.pending := by
  simp [State.fpllMeasured]
@[simp] theorem State.vpllsAlign_pending (s : State) : s.vpllsAlign.pending = s.pending := by simp [State.vpllsAlign]
@[simp] theorem State.fabricBoundary_pending (s : State) (e : Edge) : (s.fabricBoundary e).pending = s.pending := by
  simp [State.fabricBoundary]
@[simp] theorem State.crcBoundary_pending (s : State) : s.crcBoundary.pending = s.pending := by simp [State.crcBoundary]
@[simp] theorem State.unmuteDue_pending (s : State) : s.unmuteDue.pending = s.pending := by simp [State.unmuteDue]
@[simp] theorem State.sendCopy_pending (s : State) : s.sendCopy.pending = s.pending := by
  simp only [State.sendCopy]
  split <;> (try split) <;> simp
@[simp] theorem State.stalled_pending (s : State) (x : Nat × Nat) : (s.stalled x).pending = s.pending := by simp [State.stalled]
@[simp] theorem State.meshBoundary_pending (s0 : State) (e : Edge) : (s0.meshBoundary e).pending = s0.pending := by
  simp [State.meshBoundary]
@[simp] theorem State.ledgerBoundary_pending (s : State) : s.ledgerBoundary.pending = s.pending := by simp [State.ledgerBoundary]
@[simp] theorem execTickBoundary_keepsQueue (e : Edge) (s : State) : KeepsQueue s (execTickBoundary e s) := by simp [execTickBoundary]
@[simp] theorem execSlotStart_keepsQueue (s : State) : KeepsQueue s (execSlotStart s) := by simp [execSlotStart]

/-! ## Isa -/

@[simp] theorem execSNop_keepsQueue (e : Nat) (more : Bool) (s : State) : KeepsQueue s (execSNop e more s) := by simp [execSNop]
@[simp] theorem execSAdd_keepsQueue (e : Nat) (more : Bool) (d a b : BitVec 5) (s : State) : KeepsQueue s (execSAdd e more d a b s) := by
  simp [execSAdd]
@[simp] theorem execSSub_keepsQueue (e : Nat) (more : Bool) (d a b : BitVec 5) (s : State) : KeepsQueue s (execSSub e more d a b s) := by
  simp [execSSub]
@[simp] theorem execSAnd_keepsQueue (e : Nat) (more : Bool) (d a b : BitVec 5) (s : State) : KeepsQueue s (execSAnd e more d a b s) := by
  simp [execSAnd]
@[simp] theorem execSOr_keepsQueue (e : Nat) (more : Bool) (d a b : BitVec 5) (s : State) : KeepsQueue s (execSOr e more d a b s) := by
  simp [execSOr]
@[simp] theorem execSXor_keepsQueue (e : Nat) (more : Bool) (d a b : BitVec 5) (s : State) : KeepsQueue s (execSXor e more d a b s) := by
  simp [execSXor]
@[simp] theorem execSSll_keepsQueue (e : Nat) (more : Bool) (d a b : BitVec 5) (s : State) : KeepsQueue s (execSSll e more d a b s) := by
  simp [execSSll]
@[simp] theorem execSSrl_keepsQueue (e : Nat) (more : Bool) (d a b : BitVec 5) (s : State) : KeepsQueue s (execSSrl e more d a b s) := by
  simp [execSSrl]
@[simp] theorem execSSra_keepsQueue (e : Nat) (more : Bool) (d a b : BitVec 5) (s : State) : KeepsQueue s (execSSra e more d a b s) := by
  simp [execSSra]
@[simp] theorem execSMul_keepsQueue (e : Nat) (more : Bool) (d a b : BitVec 5) (s : State) : KeepsQueue s (execSMul e more d a b s) := by
  simp [execSMul]
@[simp] theorem execSMin_keepsQueue (e : Nat) (more : Bool) (d a b : BitVec 5) (s : State) : KeepsQueue s (execSMin e more d a b s) := by
  simp [execSMin]
@[simp] theorem execSMax_keepsQueue (e : Nat) (more : Bool) (d a b : BitVec 5) (s : State) : KeepsQueue s (execSMax e more d a b s) := by
  simp [execSMax]
@[simp] theorem execSSlt_keepsQueue (e : Nat) (more : Bool) (d a b : BitVec 5) (s : State) : KeepsQueue s (execSSlt e more d a b s) := by
  simp [execSSlt]
@[simp] theorem execSSltu_keepsQueue (e : Nat) (more : Bool) (d a b : BitVec 5) (s : State) : KeepsQueue s (execSSltu e more d a b s) := by
  simp [execSSltu]
@[simp] theorem execSAddi_keepsQueue (e : Nat) (more : Bool) (d a : BitVec 5) (imm : BitVec 15) (s : State) :
    KeepsQueue s (execSAddi e more d a imm s) := by
  simp [execSAddi]
@[simp] theorem execSAndi_keepsQueue (e : Nat) (more : Bool) (d a : BitVec 5) (imm : BitVec 15) (s : State) :
    KeepsQueue s (execSAndi e more d a imm s) := by
  simp [execSAndi]
@[simp] theorem execSOri_keepsQueue (e : Nat) (more : Bool) (d a : BitVec 5) (imm : BitVec 15) (s : State) :
    KeepsQueue s (execSOri e more d a imm s) := by
  simp [execSOri]
@[simp] theorem execSXori_keepsQueue (e : Nat) (more : Bool) (d a : BitVec 5) (imm : BitVec 15) (s : State) :
    KeepsQueue s (execSXori e more d a imm s) := by
  simp [execSXori]
@[simp] theorem execSSlli_keepsQueue (e : Nat) (more : Bool) (d a n : BitVec 5) (s : State) : KeepsQueue s (execSSlli e more d a n s) := by
  simp [execSSlli]
@[simp] theorem execSSrli_keepsQueue (e : Nat) (more : Bool) (d a n : BitVec 5) (s : State) : KeepsQueue s (execSSrli e more d a n s) := by
  simp [execSSrli]
@[simp] theorem execSSrai_keepsQueue (e : Nat) (more : Bool) (d a n : BitVec 5) (s : State) : KeepsQueue s (execSSrai e more d a n s) := by
  simp [execSSrai]
@[simp] theorem execSRsh_keepsQueue (e : Nat) (more : Bool) (d a n : BitVec 5) (s : State) : KeepsQueue s (execSRsh e more d a n s) := by
  simp [execSRsh]
@[simp] theorem execSLi_keepsQueue (e : Nat) (more : Bool) (d : BitVec 5) (imm : BitVec 20) (s : State) :
    KeepsQueue s (execSLi e more d imm s) := by
  simp [execSLi]
@[simp] theorem execSLui_keepsQueue (e : Nat) (more : Bool) (d : BitVec 5) (imm : BitVec 20) (s : State) :
    KeepsQueue s (execSLui e more d imm s) := by
  simp [execSLui]
@[simp] theorem execSBeq_keepsQueue (e : Nat) (more : Bool) (a b : BitVec 5) (t : BitVec 11) (s : State) :
    KeepsQueue s (execSBeq e more a b t s) := by
  simp [execSBeq]
@[simp] theorem execSBne_keepsQueue (e : Nat) (more : Bool) (a b : BitVec 5) (t : BitVec 11) (s : State) :
    KeepsQueue s (execSBne e more a b t s) := by
  simp [execSBne]
@[simp] theorem execSBlt_keepsQueue (e : Nat) (more : Bool) (a b : BitVec 5) (t : BitVec 11) (s : State) :
    KeepsQueue s (execSBlt e more a b t s) := by
  simp [execSBlt]
@[simp] theorem execSBge_keepsQueue (e : Nat) (more : Bool) (a b : BitVec 5) (t : BitVec 11) (s : State) :
    KeepsQueue s (execSBge e more a b t s) := by
  simp [execSBge]
@[simp] theorem execSJ_keepsQueue (e : Nat) (more : Bool) (t : BitVec 11) (s : State) : KeepsQueue s (execSJ e more t s) := by simp [execSJ]
@[simp] theorem execSJal_keepsQueue (e : Nat) (more : Bool) (d : BitVec 5) (t : BitVec 11) (s : State) :
    KeepsQueue s (execSJal e more d t s) := by
  simp [execSJal]
@[simp] theorem execSJr_keepsQueue (e : Nat) (more : Bool) (a : BitVec 5) (s : State) : KeepsQueue s (execSJr e more a s) := by
  simp [execSJr]
@[simp] theorem execSLoop_keepsQueue (e : Nat) (more : Bool) (c : BitVec 1) (a : BitVec 5) (last : BitVec 11) (s : State) :
    KeepsQueue s (execSLoop e more c a last s) := by
  simp [execSLoop]
@[simp] theorem execSLoopi_keepsQueue (e : Nat) (more : Bool) (c : BitVec 1) (count : BitVec 12) (last : BitVec 11) (s : State) :
    KeepsQueue s (execSLoopi e more c count last s) := by
  simp [execSLoopi]
@[simp] theorem execSAtom_keepsQueue (e : Nat) (more : Bool) (n : BitVec 3) (s : State) : KeepsQueue s (execSAtom e more n s) := by
  simp [execSAtom]
@[simp] theorem execSMfc_keepsQueue (e : Nat) (more : Bool) (d cr : BitVec 5) (s : State) : KeepsQueue s (execSMfc e more d cr s) := by
  simp [execSMfc]
@[simp] theorem execSMtc_keepsQueue (e : Nat) (more : Bool) (cr a : BitVec 5) (s : State) : KeepsQueue s (execSMtc e more cr a s) := by
  simp [execSMtc]
@[simp] theorem execSIe_keepsQueue (e : Nat) (more : Bool) (mask : BitVec 4) (s : State) : KeepsQueue s (execSIe e more mask s) := by
  simp [execSIe]
@[simp] theorem execSId_keepsQueue (e : Nat) (more : Bool) (mask : BitVec 4) (s : State) : KeepsQueue s (execSId e more mask s) := by
  simp [execSId]
@[simp] theorem execReti_keepsQueue (e : Nat) (more : Bool) (s : State) : KeepsQueue s (execReti e more s) := by simp [execReti]
@[simp] theorem execSBxclr_keepsQueue (e : Nat) (more : Bool) (s : State) : KeepsQueue s (execSBxclr e more s) := by simp [execSBxclr]
@[simp] theorem execSScale_keepsQueue (e : Nat) (more : Bool) (d : BitVec 5) (k : BitVec 4) (s : State) :
    KeepsQueue s (execSScale e more d k s) := by
  simp [execSScale]
@[simp] theorem execSSatclr_keepsQueue (e : Nat) (more : Bool) (s : State) : KeepsQueue s (execSSatclr e more s) := by simp [execSSatclr]
@[simp] theorem execTDone_keepsQueue (e : Nat) (more : Bool) (s : State) : KeepsQueue s (execTDone e more s) := by simp [execTDone]
@[simp] theorem execTWait_keepsQueue (e : Nat) (more : Bool) (s : State) : KeepsQueue s (execTWait e more s) := by simp [execTWait]
@[simp] theorem execTNow_keepsQueue (e : Nat) (more : Bool) (d : BitVec 5) (s : State) : KeepsQueue s (execTNow e more d s) := by
  simp [execTNow]
@[simp] theorem execLNop_keepsQueue (e : Nat) (more : Bool) (s : State) : KeepsQueue s (execLNop e more s) := by simp [execLNop]
@[simp] theorem execLLd_keepsQueue (e : Nat) (more : Bool) (d a : BitVec 5) (off : BitVec 15) (s : State) :
    KeepsQueue s (execLLd e more d a off s) := by
  simp [execLLd]
@[simp] theorem execLLdp_keepsQueue (e : Nat) (more : Bool) (d a : BitVec 5) (off : BitVec 15) (s : State) :
    KeepsQueue s (execLLdp e more d a off s) := by
  simp [execLLdp]
@[simp] theorem execLLds_keepsQueue (e : Nat) (more : Bool) (d a : BitVec 5) (off : BitVec 15) (s : State) :
    KeepsQueue s (execLLds e more d a off s) := by
  simp [execLLds]
@[simp] theorem execLSt_keepsQueue (e : Nat) (more : Bool) (d a : BitVec 5) (off : BitVec 15) (s : State) :
    KeepsQueue s (execLSt e more d a off s) := by
  simp [execLSt]
@[simp] theorem execLStp_keepsQueue (e : Nat) (more : Bool) (d a : BitVec 5) (off : BitVec 15) (s : State) :
    KeepsQueue s (execLStp e more d a off s) := by
  simp [execLStp]
@[simp] theorem execLSts_keepsQueue (e : Nat) (more : Bool) (d a : BitVec 5) (off : BitVec 15) (s : State) :
    KeepsQueue s (execLSts e more d a off s) := by
  simp [execLSts]
@[simp] theorem execLLd2_keepsQueue (e : Nat) (more : Bool) (d d2 a b : BitVec 5) (inc : BitVec 2) (s : State) :
    KeepsQueue s (execLLd2 e more d d2 a b inc s) := by
  simp [execLLd2]
@[simp] theorem execVNop_keepsQueue (e : Nat) (more : Bool) (s : State) : KeepsQueue s (execVNop e more s) := by simp [execVNop]
@[simp] theorem execVAdd_keepsQueue (e : Nat) (more : Bool) (m : BitVec 2) (d a b : BitVec 5) (sat bx : Bool) (s : State) :
    KeepsQueue s (execVAdd e more m d a b sat bx s) := by
  simp [execVAdd]
@[simp] theorem execVSub_keepsQueue (e : Nat) (more : Bool) (m : BitVec 2) (d a b : BitVec 5) (sat bx : Bool) (s : State) :
    KeepsQueue s (execVSub e more m d a b sat bx s) := by
  simp [execVSub]
@[simp] theorem execVMul_keepsQueue (e : Nat) (more : Bool) (m : BitVec 2) (d a b n : BitVec 5) (sat rnd bx : Bool) (s : State) :
    KeepsQueue s (execVMul e more m d a b n sat rnd bx s) := by
  simp [execVMul]
@[simp] theorem execVMin_keepsQueue (e : Nat) (more : Bool) (m : BitVec 2) (d a b : BitVec 5) (bx : Bool) (s : State) :
    KeepsQueue s (execVMin e more m d a b bx s) := by
  simp [execVMin]
@[simp] theorem execVMax_keepsQueue (e : Nat) (more : Bool) (m : BitVec 2) (d a b : BitVec 5) (bx : Bool) (s : State) :
    KeepsQueue s (execVMax e more m d a b bx s) := by
  simp [execVMax]
@[simp] theorem execVAbs_keepsQueue (e : Nat) (more : Bool) (m : BitVec 2) (d a : BitVec 5) (sat bx : Bool) (s : State) :
    KeepsQueue s (execVAbs e more m d a sat bx s) := by
  simp [execVAbs]
@[simp] theorem execVAnd_keepsQueue (e : Nat) (more : Bool) (m : BitVec 2) (d a b : BitVec 5) (s : State) :
    KeepsQueue s (execVAnd e more m d a b s) := by
  simp [execVAnd]
@[simp] theorem execVOr_keepsQueue (e : Nat) (more : Bool) (m : BitVec 2) (d a b : BitVec 5) (s : State) :
    KeepsQueue s (execVOr e more m d a b s) := by
  simp [execVOr]
@[simp] theorem execVXor_keepsQueue (e : Nat) (more : Bool) (m : BitVec 2) (d a b : BitVec 5) (s : State) :
    KeepsQueue s (execVXor e more m d a b s) := by
  simp [execVXor]
@[simp] theorem execVSra_keepsQueue (e : Nat) (more : Bool) (m : BitVec 2) (d a n : BitVec 5) (rnd bx : Bool) (s : State) :
    KeepsQueue s (execVSra e more m d a n rnd bx s) := by
  simp [execVSra]
@[simp] theorem execVSrl_keepsQueue (e : Nat) (more : Bool) (m : BitVec 2) (d a n : BitVec 5) (s : State) :
    KeepsQueue s (execVSrl e more m d a n s) := by
  simp [execVSrl]
@[simp] theorem execVSla_keepsQueue (e : Nat) (more : Bool) (m : BitVec 2) (d a n : BitVec 5) (bx : Bool) (s : State) :
    KeepsQueue s (execVSla e more m d a n bx s) := by
  simp [execVSla]
@[simp] theorem execVSlar_keepsQueue (e : Nat) (more : Bool) (m : BitVec 2) (d a b : BitVec 5) (bx : Bool) (s : State) :
    KeepsQueue s (execVSlar e more m d a b bx s) := by
  simp [execVSlar]
@[simp] theorem execVCat_keepsQueue (e : Nat) (more : Bool) (m : BitVec 2) (d a b n : BitVec 5) (s : State) :
    KeepsQueue s (execVCat e more m d a b n s) := by
  simp [execVCat]
@[simp] theorem execVBcast_keepsQueue (e : Nat) (more : Bool) (m : BitVec 2) (d a : BitVec 5) (s : State) :
    KeepsQueue s (execVBcast e more m d a s) := by
  simp [execVBcast]
@[simp] theorem execVCmpgt_keepsQueue (e : Nat) (more : Bool) (m : BitVec 2) (d a b : BitVec 5) (s : State) :
    KeepsQueue s (execVCmpgt e more m d a b s) := by
  simp [execVCmpgt]
@[simp] theorem execVSel_keepsQueue (e : Nat) (more : Bool) (m : BitVec 2) (d a b : BitVec 5) (s : State) :
    KeepsQueue s (execVSel e more m d a b s) := by
  simp [execVSel]
@[simp] theorem execVMov_keepsQueue (e : Nat) (more : Bool) (m : BitVec 2) (d a : BitVec 5) (s : State) :
    KeepsQueue s (execVMov e more m d a s) := by
  simp [execVMov]
@[simp] theorem execVPack_keepsQueue (e : Nat) (more : Bool) (m : BitVec 2) (d a b : BitVec 5) (bx : Bool) (s : State) :
    KeepsQueue s (execVPack e more m d a b bx s) := by
  simp [execVPack]
@[simp] theorem execVUnpk_keepsQueue (e : Nat) (more : Bool) (m : BitVec 2) (d a n : BitVec 5) (s : State) :
    KeepsQueue s (execVUnpk e more m d a n s) := by
  simp [execVUnpk]
@[simp] theorem execVEven_keepsQueue (e : Nat) (more : Bool) (m : BitVec 2) (d a b : BitVec 5) (s : State) :
    KeepsQueue s (execVEven e more m d a b s) := by
  simp [execVEven]
@[simp] theorem execVOdd_keepsQueue (e : Nat) (more : Bool) (m : BitVec 2) (d a b : BitVec 5) (s : State) :
    KeepsQueue s (execVOdd e more m d a b s) := by
  simp [execVOdd]
@[simp] theorem execVClipu_keepsQueue (e : Nat) (more : Bool) (m : BitVec 2) (d a n : BitVec 5) (s : State) :
    KeepsQueue s (execVClipu e more m d a n s) := by
  simp [execVClipu]
@[simp] theorem execMNop_keepsQueue (e : Nat) (more : Bool) (s : State) : KeepsQueue s (execMNop e more s) := by simp [execMNop]
@[simp] theorem execMMac_keepsQueue (e : Nat) (more : Bool) (ad : BitVec 2) (a b : BitVec 5) (pair bx : Bool) (s : State) :
    KeepsQueue s (execMMac e more ad a b pair bx s) := by
  simp [execMMac]
@[simp] theorem execMMsu_keepsQueue (e : Nat) (more : Bool) (ad : BitVec 2) (a b : BitVec 5) (pair bx : Bool) (s : State) :
    KeepsQueue s (execMMsu e more ad a b pair bx s) := by
  simp [execMMsu]
@[simp] theorem execMMul_keepsQueue (e : Nat) (more : Bool) (ad : BitVec 2) (a b : BitVec 5) (pair bx : Bool) (s : State) :
    KeepsQueue s (execMMul e more ad a b pair bx s) := by
  simp [execMMul]
@[simp] theorem execMMacl_keepsQueue (e : Nat) (more : Bool) (ad : BitVec 2) (a b : BitVec 5) (j : BitVec 4) (pair bx : Bool) (s : State) :
    KeepsQueue s (execMMacl e more ad a b j pair bx s) := by
  simp [execMMacl]
@[simp] theorem execMMull_keepsQueue (e : Nat) (more : Bool) (ad : BitVec 2) (a b : BitVec 5) (j : BitVec 4) (pair bx : Bool) (s : State) :
    KeepsQueue s (execMMull e more ad a b j pair bx s) := by
  simp [execMMull]
@[simp] theorem execMClr_keepsQueue (e : Nat) (more : Bool) (ad : BitVec 2) (s : State) : KeepsQueue s (execMClr e more ad s) := by
  simp [execMClr]
@[simp] theorem execMExt_keepsQueue (e : Nat) (more : Bool) (d : BitVec 5) (ac : BitVec 2) (n : BitVec 6) (bx : Bool) (s : State) :
    KeepsQueue s (execMExt e more d ac n bx s) := by
  simp [execMExt]
@[simp] theorem execMExtr_keepsQueue (e : Nat) (more : Bool) (d : BitVec 5) (ac : BitVec 2) (b : BitVec 5) (bx : Bool) (s : State) :
    KeepsQueue s (execMExtr e more d ac b bx s) := by
  simp [execMExtr]
@[simp] theorem execMAcc_keepsQueue (e : Nat) (more : Bool) (ad ac : BitVec 2) (bx : Bool) (s : State) :
    KeepsQueue s (execMAcc e more ad ac bx s) := by
  simp [execMAcc]
@[simp] theorem execMSave_keepsQueue (e : Nat) (more : Bool) (d : BitVec 5) (ac p : BitVec 2) (s : State) :
    KeepsQueue s (execMSave e more d ac p s) := by
  simp [execMSave]
@[simp] theorem execMRest_keepsQueue (e : Nat) (more : Bool) (ac : BitVec 2) (d : BitVec 5) (p : BitVec 2) (s : State) :
    KeepsQueue s (execMRest e more ac d p s) := by
  simp [execMRest]

/-! ## Output -/

@[simp] theorem State.setHoldBuf_pending (s : State) (k : Nat) (h : HoldBuf) : (s.setHoldBuf k h).pending = s.pending := by
  simp [State.setHoldBuf]
@[simp] theorem State.sendRtp_pending (s : State) (i dst : Nat) (u : UnitTx) (data : List Byte) :
    (s.sendRtp i dst u data).pending = s.pending := by
  simp [State.sendRtp]
@[simp] theorem State.sendUnit_pending (s : State) (i dst : Nat) (u : UnitTx) (sub : Bool) (data : List Byte) :
    (s.sendUnit i dst u sub data).pending = s.pending := by
  simp [State.sendUnit]
@[simp] theorem State.crcUnit_pending (s : State) (key : Nat) (payload : List Byte) (last : Bool) :
    (s.crcUnit key payload last).pending = s.pending := by
  simp [State.crcUnit]
@[simp] theorem State.crcOut_pending (s : State) (e : EndPt) (data : List Byte) (last : Bool) :
    (s.crcOut e data last).pending = s.pending := by
  simp [State.crcOut]
@[simp] theorem State.frameSent_pending (s : State) (i dst : Nat) (last : Bool) : (s.frameSent i dst last).pending = s.pending := by
  simp only [State.frameSent]
  split <;> simp
@[simp] theorem State.putUnit_pending (s : State) (i dst : Nat) (u : UnitTx) (late sub : Bool) (content : Option (List Byte)) :
    (s.putUnit i dst u late sub content).pending = s.pending := by
  simp only [State.putUnit]
  split <;> (try split) <;> simp
@[simp] theorem State.unitSend_keepsQueue (s : State) (i dst : Nat) (u : UnitTx) : KeepsQueue s (State.unitSend s i dst u) := by
  simp [State.unitSend]
@[simp] theorem execOutputUnitSend_keepsQueue (i dst num at_ : Nat) (last : Bool) (payload : List Byte) (b : UnitBody) (s : State) :
    KeepsQueue s (execOutputUnitSend i dst num at_ last payload b s) := by
  simp [execOutputUnitSend]

/-! ## The rows, and a step -/

/-- Every row of the table ends in a next state and leaves the queue. -/
theorem exec_keepsQueue (i : Instr) (s : State) : KeepsQueue s (exec i s) := by
  cases i <;> simp [exec]

theorem step_cons (c : Instr) (q : List Instr) (s : State) : step { s with pending := c :: q } = exec c { s with pending := q } := rfl

theorem step_nil {s : State} (h : s.pending = []) : step s = .next s.fabricInstant := by
  simp [step, h]

theorem State.fabricInstant_of_no_tile {s : State} (h : s.cells = []) : s.fabricInstant = s := by
  simp [State.fabricInstant, h]

/-- A step takes one command off the front of the queue, where there is one, and leaves the rest. -/
theorem step_pending {s t : State} (h : step s = .next t) : t.pending = s.pending.tail := by
  rcases hq : s.pending with _ | ⟨c, q⟩
  case nil =>
    rw [step_nil hq] at h
    cases h
    rw [State.fabricInstant_pending, hq, List.tail_nil]
  case cons =>
    obtain ⟨u, hu, hp⟩ := exec_keepsQueue c { s with pending := q }
    have he : step s = .next u := by rw [← hu, ← step_cons, ← hq]
    rw [he] at h
    cases h
    exact hp

/-- `n` steps take the first `n` commands. -/
theorem stepsTo_pending {n : Nat} {s t : State} (h : StepsTo n s t) : t.pending = s.pending.drop n := by
  induction n generalizing s with
  | zero => cases h; rfl
  | succ n ih =>
    obtain ⟨u, hu, hr⟩ := h
    rw [ih hr, step_pending hu, List.drop_tail]

end Sys2Proof.Machine

open Sys2Proof Sys2Proof.Machine

/-- Settles O5: every row keeps the queue, and a step takes one command off it. -/
theorem queueOrder : Obligations.QueueOrder := by
  unfold Obligations.QueueOrder
  refine ⟨?row, fun _ _ _ => stepsTo_pending⟩
  case row =>
    intro i s t h
    obtain ⟨u, hu, hp⟩ := exec_keepsQueue i s
    rw [hu] at h
    cases h
    exact hp

/-- Settles O3: what a row leaves of the queue is said of a next state. -/
theorem everyCommandCompletes : Obligations.EveryCommandCompletes := by
  unfold Obligations.EveryCommandCompletes
  intro i s
  obtain ⟨t, ht, -⟩ := exec_keepsQueue i s
  exact ⟨t, ht⟩

/-- Settles O1: both by the definition of a step. -/
theorem commandAtFront : Obligations.CommandAtFront := by
  unfold Obligations.CommandAtFront
  refine ⟨step_cons, fun s hq => ⟨step_nil hq, fun hc => ?_⟩⟩
  rw [step_nil hq, State.fabricInstant_of_no_tile hc]

end

section
set_option Elab.async false
/-! The order of accepted work (R115, R117). -/

namespace Sys2Proof.Machine

/-! ## Which work goes first -/

/-- Work goes before other work by tick of effect, then by the time, then by the transport of its receipt (R115, R117). -/
theorem Due.before_iff (a b : Due) :
    b.before a = true ↔ b.eff < a.eff ∨ (b.eff = a.eff ∧ (b.stamp.1 < a.stamp.1 ∨ (b.stamp.1 = a.stamp.1 ∧ b.stamp.2 < a.stamp.2))) := by
  simp [Due.before]

/-- Work that goes after none of two is not gone before by the later. -/
theorem Due.not_before_of_before {a b c : Due} (hab : a.before b = true) (hbc : c.before b = false) : c.before a = false := by
  have hn : ¬ c.before b = true := by simp [hbc]
  rw [Due.before_iff] at hab hn
  rw [Bool.eq_false_iff, Ne, Due.before_iff]
  omega

theorem Due.before_asymm {a b : Due} (hab : a.before b = true) : b.before a = false := by
  rw [Due.before_iff] at hab
  rw [Bool.eq_false_iff, Ne, Due.before_iff]
  omega

/-! ## Insertion -/

/-- No entry of the list goes before one that stands in front of it. -/
def DueSorted (l : List Due) : Prop := l.Pairwise (fun a b => b.before a = false)

/-- The entries of one tick of effect and one receipt. -/
def sameTurn (x : Nat × Nat × Nat) (d : Due) : Bool := d.eff == x.1 && d.stamp == x.2

theorem sameTurn_iff (x : Nat × Nat × Nat) (d : Due) : sameTurn x d = true ↔ d.eff = x.1 ∧ d.stamp = x.2 := by
  simp [sameTurn]

theorem insertDue_perm (d : Due) (l : List Due) : (insertDue d l).Perm (d :: l) := by
  induction l with
  | nil => exact .refl _
  | cons x xs ih =>
    simp only [insertDue]
    split
    · exact .refl _
    · exact (ih.cons x).trans (.swap d x xs)

theorem insertDue_sorted (d : Due) {l : List Due} (hl : DueSorted l) : DueSorted (insertDue d l) := by
  induction l with
  | nil => exact List.pairwise_singleton _ d
  | cons x xs ih =>
    obtain ⟨hx, hxs⟩ := List.pairwise_cons.1 hl
    simp only [insertDue]
    split
    case isTrue hd =>
      refine List.pairwise_cons.2 ⟨fun y hy => ?_, hl⟩
      rcases List.mem_cons.1 hy with rfl | hy
      · exact Due.before_asymm hd
      · exact Due.not_before_of_before hd (hx y hy)
    case isFalse hd =>
      refine List.pairwise_cons.2 ⟨fun y hy => ?_, ih hxs⟩
      rcases List.mem_cons.1 ((insertDue_perm d xs).mem_iff.1 hy) with rfl | hy
      · exact Bool.eq_false_iff.2 hd
      · exact hx y hy

/-- Two entries of one turn do not go before each other. -/
theorem not_before_of_sameTurn {x : Nat × Nat × Nat} {a b : Due} (ha : sameTurn x a = true) (hb : sameTurn x b = true) :
    a.before b = false := by
  obtain ⟨ha1, ha2⟩ := (sameTurn_iff x a).1 ha
  obtain ⟨hb1, hb2⟩ := (sameTurn_iff x b).1 hb
  rw [Bool.eq_false_iff, Ne, Due.before_iff, ha1, ha2, hb1, hb2]
  omega

/-- Work inserted comes behind the work of its own turn, and the work of every other turn stays. -/
theorem filter_insertDue (x : Nat × Nat × Nat) (d : Due) {l : List Due} (hl : DueSorted l) :
    (insertDue d l).filter (sameTurn x) = (l ++ [d]).filter (sameTurn x) := by
  induction l with
  | nil => rfl
  | cons y ys ih =>
    obtain ⟨hy, hys⟩ := List.pairwise_cons.1 hl
    simp only [insertDue]
    split
    case isFalse => simp [List.filter_cons, ih hys]
    case isTrue hd =>
      by_cases hx : sameTurn x d = true
      case neg => simp [List.filter_cons, hx]
      case pos =>
        have hnone : (y :: ys).filter (sameTurn x) = [] := by
          refine List.filter_eq_nil_iff.2 fun z hz hzx => ?_
          have hzd : d.before z = true := by
            rcases List.mem_cons.1 hz with rfl | hz
            · exact hd
            · by_contra hn
              have hzy := Due.not_before_of_before (c := z) hd (hy z hz)
              have hb := hy z hz
              rw [Bool.eq_false_iff, Ne, Due.before_iff] at hb
              rw [Due.before_iff] at hn hd
              omega
          rw [not_before_of_sameTurn hx hzx] at hzd
          cases hzd
        rw [List.filter_cons_of_pos hx, List.filter_append, hnone]
        simp [hx]

/-! ## Sorting -/

/-- What inserting a list of work one by one leaves of a sorted list. -/
theorem foldl_insertDue (l : List Due) {acc : List Due} (hacc : DueSorted acc) :
    (l.foldl (fun acc d => insertDue d acc) acc).Perm (acc ++ l) ∧ DueSorted (l.foldl (fun acc d => insertDue d acc) acc) ∧
      ∀ x, (l.foldl (fun acc d => insertDue d acc) acc).filter (sameTurn x) = (acc ++ l).filter (sameTurn x) := by
  induction l generalizing acc with
  | nil => simpa using hacc
  | cons d l ih =>
    obtain ⟨hp, hs, hf⟩ := ih (insertDue_sorted d hacc)
    refine ⟨hp.trans ?_, hs, fun x => ?_⟩
    · exact ((insertDue_perm d acc).append_right l).trans List.perm_middle.symm
    · rw [List.foldl_cons, hf x, List.filter_append, filter_insertDue x d hacc, ← List.filter_append, List.append_assoc]
      rfl

theorem sortDue_perm (l : List Due) : (sortDue l).Perm l := (foldl_insertDue l (acc := []) List.Pairwise.nil).1

theorem sortDue_sorted (l : List Due) : DueSorted (sortDue l) := (foldl_insertDue l (acc := []) List.Pairwise.nil).2.1

theorem filter_sortDue (x : Nat × Nat × Nat) (l : List Due) : (sortDue l).filter (sameTurn x) = l.filter (sameTurn x) :=
  (foldl_insertDue l (acc := []) List.Pairwise.nil).2.2 x

theorem State.mem_dueNow (d : Due) (s : State) : d ∈ s.dueNow ↔ d ∈ s.due ∧ d.eff ≤ s.now := by
  simp [State.dueNow, (sortDue_perm _).mem_iff]

/-! ## Up to the last of one kind -/

variable (k : Act → Bool)

theorem uptoLast_eq_nil_iff (l : List Due) : uptoLast k l = [] ↔ l.any (fun d => k d.act) = false := by
  induction l with
  | nil => simp [uptoLast]
  | cons d l ih =>
    simp only [uptoLast, List.any_cons, Bool.or_eq_false_iff, ← ih]
    split
    case h_1 h => simp [h]
    case h_2 h => exact iff_of_false (List.cons_ne_nil _ _) (fun hk => h hk.2)

theorem uptoLast_cons (d : Due) (l : List Due) :
    uptoLast k (d :: l) = if l.any (fun d => k d.act) then d :: uptoLast k l else if k d.act then [d] else [] := by
  rw [uptoLast]
  split
  case h_1 h =>
    rw [(uptoLast_eq_nil_iff k l).1 h]
    rfl
  case h_2 h => rw [if_pos (by rw [← Bool.not_eq_false, ← uptoLast_eq_nil_iff]; exact h)]

/-- The list splits behind its last entry of the kind. -/
theorem uptoLast_split (l : List Due) : ∃ r, l = uptoLast k l ++ r ∧ r.any (fun d => k d.act) = false := by
  induction l with
  | nil => exact ⟨[], rfl, rfl⟩
  | cons d l ih =>
    obtain ⟨r, hr, hk⟩ := ih
    rw [uptoLast_cons]
    split
    case isTrue => exact ⟨r, by rw [List.cons_append, ← hr], hk⟩
    case isFalse hl =>
      split
      case isTrue => exact ⟨l, rfl, by simpa using hl⟩
      case isFalse hd => exact ⟨d :: l, rfl, by simpa [hd] using hl⟩

theorem getLast?_uptoLast {l : List Due} (hl : l.any (fun d => k d.act) = true) :
    ∃ d, (uptoLast k l).getLast? = some d ∧ k d.act = true := by
  induction l with
  | nil => cases hl
  | cons d l ih =>
    rw [uptoLast_cons]
    split
    case isTrue h =>
      obtain ⟨x, hx, hk⟩ := ih h
      exact ⟨x, by simp [List.getLast?_cons, hx], hk⟩
    case isFalse h =>
      have hd : k d.act = true := by simpa [h] using hl
      exact ⟨d, by simp [hd], hd⟩

/-! ## Applying it -/

theorem State.applyDue_of_none {s : State} (hs : s.dueNow.any (fun d => k d.act) = false) : s.applyDue k = s := by
  simp [State.applyDue, (uptoLast_eq_nil_iff k _).2 hs]

theorem State.applyDue_of_some {s : State} (hs : s.dueNow.any (fun d => k d.act) = true) :
    s.applyDue k =
      let t := (uptoLast k s.dueNow).foldl State.applyOne
        { s with due := s.due.filter (fun d => !decide (d.eff ≤ s.now)) ++ s.dueNow.drop (uptoLast k s.dueNow).length }
      if (uptoLast k s.dueNow).any (fun d => d.act.ledgered) then t.settle else t := by
  obtain ⟨d, hd, -⟩ := getLast?_uptoLast k hs
  have hne : (uptoLast k s.dueNow).isEmpty = false := by
    cases hu : uptoLast k s.dueNow with
    | nil => simp [hu] at hd
    | cons => rfl
  simp [State.applyDue, hne]

end Sys2Proof.Machine

open Sys2Proof Sys2Proof.Machine

/-- Settles O60: sorting by insertion, then the cut behind the last work of the kind. -/
theorem dueOrder : Obligations.DueOrder := by
  unfold Obligations.DueOrder
  refine ⟨fun l => ⟨sortDue_perm l, sortDue_sorted l, fun x => filter_sortDue x l⟩, Due.before_iff, State.mem_dueNow, ?kind, ?some, ?none, ?tick⟩
  case kind =>
    intro k l
    obtain ⟨r, hr, hk⟩ := uptoLast_split k l
    exact ⟨r, hr, hk, getLast?_uptoLast k, (uptoLast_eq_nil_iff k l).2⟩
  case some => exact fun k s hs => ⟨_, rfl, State.applyDue_of_some k hs⟩
  case none => exact fun k s hs => State.applyDue_of_none k hs
  case tick =>
    intro t e
    simp only [effTick, Sts.ok, Sts.later]
    split
    · simp_all
    · split <;> simp <;> omega

end

section
set_option Elab.async false
/-! The gate every command row passes (R97, R100, R111, R112, R119, R123, R433, R542), case by case. -/

namespace Sys2Proof.Machine

/-! ## The gate's answers, in its order -/

section
variable {op : Nat} {h : Hdr} {s : State} (p : List Byte) (body : Nat → State → Ans)

/-- The entry is for this device: it names none, or its mesh ID (R111). -/
theorem not_elsewhere (ht : h.target = 0 ∨ h.target.toNat = s.meshId) :
    ¬ (h.target.toNat ≠ 0 ∧ h.target.toNat ≠ (s.stamped h).meshId) := by
  rintro ⟨h0, h1⟩
  rcases ht with ht | ht
  · exact h0 (by simp [ht])
  · exact h1 ht

theorem command_of_not_ready (hf : s.isSet Reg.CMD.STATUS.FW_READY = false) : command op h p body s = s.stamped h := by
  have hf' : (s.stamped h).isSet Reg.CMD.STATUS.FW_READY = false := hf
  simp [command, hf']

variable (hf : s.isSet Reg.CMD.STATUS.FW_READY = true)
include hf

theorem command_of_entryErr {x : Nat} (he : entryErr op h = some x) : command op h p body s = (s.stamped h).answer h x 0 [] := by
  have hf' : (s.stamped h).isSet Reg.CMD.STATUS.FW_READY = true := hf
  simp [command, hf', he]

variable (he : entryErr op h = none)
include he

/-- A command for another device is forwarded, or refused by the limited modes where a link carries it. -/
theorem command_elsewhere (ht : h.target ≠ 0) (hm : h.target.toNat ≠ s.meshId) :
    command op h p body s =
      if s.limited ∧ ¬ cocoonOp op ∧ (s.linkTo h.target.toNat).isSome ∧ ¬ h.hwPath then (s.stamped h).answer h Sts.modeRefused 0 []
      else (s.stamped h).forward op h p := by
  have hf' : (s.stamped h).isSet Reg.CMD.STATUS.FW_READY = true := hf
  have hm' : h.target.toNat ≠ (s.stamped h).meshId := hm
  have h0 : h.target.toNat ≠ 0 := by simpa [← BitVec.toNat_inj] using ht
  unfold command
  simp only [hf', he]
  rw [if_neg (by simp), if_pos ⟨h0, hm'⟩]
  rfl

variable (ht : h.target = 0 ∨ h.target.toNat = s.meshId)
include ht

theorem command_of_limited (hl : s.limited = true) (hc : cocoonOp op = false) :
    command op h p body s = (s.stamped h).answer h Sts.modeRefused 0 [] := by
  have hf' : (s.stamped h).isSet Reg.CMD.STATUS.FW_READY = true := hf
  have hl' : (s.stamped h).limited = true := hl
  unfold command
  simp only [hf', he, if_neg (not_elsewhere ht), hl', hc]
  rfl

variable (hl : s.limited = false)
include hl

theorem command_of_coreHeld (hc : s.coreHeld op h = true) :
    command op h p body s =
      { s.stamped h with xp := { (s.stamped h).xp with held := (s.stamped h).xp.held ++ [⟨op, h, p, (s.stamped h).now⟩] } } := by
  have hf' : (s.stamped h).isSet Reg.CMD.STATUS.FW_READY = true := hf
  have hl' : (s.stamped h).limited = false := hl
  have hc' : (s.stamped h).coreHeld op h = true := hc
  unfold command
  simp only [hf', he, if_neg (not_elsewhere ht), hl', hc']
  rfl

theorem command_of_syncing (hc : s.coreHeld op h = false) (hu : s.twinState = 1) (hw : opFlags op &&& 8 ≠ 0)
    (hd : op = 0x0301 → h.dryRun = false) : command op h p body s = (s.stamped h).answer h Sts.busy 0 [] := by
  have hf' : (s.stamped h).isSet Reg.CMD.STATUS.FW_READY = true := hf
  have hl' : (s.stamped h).limited = false := hl
  have hc' : (s.stamped h).coreHeld op h = false := hc
  have hu' : (s.stamped h).twinState = 1 := hu
  have hd' : ¬ (op = 0x0301 ∧ h.dryRun = true) := fun hx => by simp [hd hx.1] at hx
  unfold command
  simp only [hf', he, if_neg (not_elsewhere ht), hl', hc', hu', hd']
  simp [hw]

end

/-! ## Forwarding -/

theorem State.forward_of_no_link {op : Nat} {h : Hdr} {s : State} (p : List Byte) (hw : h.hwPath = false)
    (hk : s.linkTo h.target.toNat = none) : s.forward op h p = s.answer h Sts.unreachable 0 [] := by
  simp [State.forward, hw, hk]

theorem State.forward_of_link {op : Nat} {h : Hdr} {s : State} (p : List Byte) {k : Nat} (hw : h.hwPath = false)
    (hk : s.linkTo h.target.toNat = some k) :
    s.forward op h p = State.emit { s with xp := { s.xp with fwdOut := s.xp.fwdOut ++ [⟨h, op, s.now⟩] } } (.meshCmd h.target.toNat op h p) := by
  simp [State.forward, hw, hk]

/-- No entry for another device with HW_PATH passes the entry checks (R111). -/
theorem entryErr_of_hwPath {op : Nat} {h : Hdr} (hw : h.hwPath = true) (ht : h.target ≠ 0) :
    entryErr op h = some Sts.badParam ∨ entryErr op h = some Sts.badOpcode := by
  unfold entryErr
  split
  case isTrue => exact .inr rfl
  case isFalse =>
    split
    · exact .inl rfl
    · rw [if_pos (.inr ⟨hw, ht⟩)]
      exact .inl rfl

end Sys2Proof.Machine

open Sys2Proof Sys2Proof.Machine

/-- Settles O4: the gate's case of each clause, for the row's own body. -/
theorem commandGate : Obligations.CommandGate := by
  unfold Obligations.CommandGate
  refine ⟨?notReady, ?entry, ?noLink, ?link, ?linkLimited, ?hw, ?limited, ?held, ?syncing⟩
  case notReady =>
    intro i op h p s hr hf
    obtain ⟨body, hb⟩ := exec_row hr s
    rw [hb, command_of_not_ready p body hf]
  case entry =>
    intro i op h p x s hr hf he
    obtain ⟨body, hb⟩ := exec_row hr s
    rw [hb, command_of_entryErr p body hf he]
  case noLink =>
    intro i op h p s hr hf he ht hm hk hw
    obtain ⟨body, hb⟩ := exec_row hr s
    have hk' : (s.stamped h).linkTo h.target.toNat = none := hk
    rw [hb, command_elsewhere p body hf he ht hm, if_neg (by simp [hk]), State.forward_of_no_link p hw hk']
  case link =>
    intro i op h p k s hr hf he ht hm hk hw hl
    obtain ⟨body, hb⟩ := exec_row hr s
    have hk' : (s.stamped h).linkTo h.target.toNat = some k := hk
    rw [hb, command_elsewhere p body hf he ht hm, if_neg (fun hx => hx.2.1 (hl hx.1)), State.forward_of_link p hw hk']
  case linkLimited =>
    intro i op h p k s hr hf he ht hm hk hw hl hc
    obtain ⟨body, hb⟩ := exec_row hr s
    rw [hb, command_elsewhere p body hf he ht hm, if_pos (by simp [hl, hc, hk, hw])]
  case hw => exact fun op h => entryErr_of_hwPath
  case limited =>
    intro i op h p s hr hf he ht hl hc
    obtain ⟨body, hb⟩ := exec_row hr s
    rw [hb, command_of_limited p body hf he ht hl hc]
  case held =>
    intro i op h p s hr hf he ht hl hc
    obtain ⟨body, hb⟩ := exec_row hr s
    rw [hb, command_of_coreHeld p body hf he ht hl hc]
  case syncing =>
    intro i op h p s hr hf he ht hl hc hu hw hd
    obtain ⟨body, hb⟩ := exec_row hr s
    rw [hb, command_of_syncing p body hf he ht hl hc hu hw hd]

end

section
/-! The canonical form of the register file and the memories (00_scope.md; R2, R110, R207). -/

namespace Sys2Proof.Machine

/-! ## Entries of a map -/

theorem SMap.mem_erase {α : Type} {k : Nat} {e : Nat × α} {m : SMap α} (h : e ∈ SMap.erase k m) : e ∈ m := by
  induction m with
  | nil => exact h
  | cons x m ih =>
    obtain ⟨k', v'⟩ := x
    simp only [SMap.erase] at h
    split at h
    · exact List.mem_cons_of_mem _ (ih h)
    · rcases List.mem_cons.1 h with rfl | h
      · exact List.mem_cons_self
      · exact List.mem_cons_of_mem _ (ih h)

theorem SMap.mem_insert {α : Type} {k : Nat} {v : α} {e : Nat × α} {m : SMap α} (h : e ∈ SMap.insert k v m) : e = (k, v) ∨ e ∈ m := by
  induction m with
  | nil => exact .inl (List.mem_singleton.1 h)
  | cons x m ih =>
    obtain ⟨k', v'⟩ := x
    simp only [SMap.insert] at h
    split at h
    · exact List.mem_cons.1 h
    · split at h
      · exact (List.mem_cons.1 h).imp_right (List.mem_cons_of_mem _)
      · rcases List.mem_cons.1 h with rfl | h
        · exact .inr List.mem_cons_self
        · exact (ih h).imp_right (List.mem_cons_of_mem _)

/-- A write leaves what was in the map, but for the entry written. -/
theorem SMap.mem_set {α : Type} [DecidableEq α] {d : Nat → α} {k : Nat} {v : α} {e : Nat × α} {m : SMap α}
    (h : e ∈ SMap.set d m k v) : e = (k, v) ∨ e ∈ m := by
  unfold SMap.set at h
  split at h
  · exact .inr (SMap.mem_erase h)
  · exact SMap.mem_insert h

/-- What a map reads as is an entry of it, or what an unlisted key reads as. -/
theorem SMap.get_mem_or {α : Type} (d : Nat → α) (m : SMap α) (k : Nat) : SMap.get d m k = d k ∨ (k, SMap.get d m k) ∈ m := by
  induction m with
  | nil => exact .inl rfl
  | cons x m ih =>
    obtain ⟨k', v'⟩ := x
    simp only [SMap.get]
    split
    case isTrue h => exact .inr (h ▸ List.mem_cons_self)
    case isFalse => exact ih.imp_right (List.mem_cons_of_mem _)

/-! ## Memories -/

/-- An engine's program and local memory are canonical. -/
def Eng.memWf (x : Eng) : Bool := Memory.wf x.prog && Memory.wf x.ldm

theorem State.memWf_iff (s : State) :
    s.memWf = true ↔ Memory.wf s.hostMem = true ∧ Memory.wf s.xp.spiBuf = true ∧ Memory.wf s.boot.flash = true ∧
      Memory.wf s.eng.cmem = true ∧ Memory.wf s.dram.mem = true ∧ ∀ e ∈ s.eng.eng, e.2.memWf = true := by
  simp [State.memWf, Eng.memWf, and_assoc]

/-- An engine read from canonical memories is canonical, listed or not. -/
theorem State.engine_memWf {s : State} (h : ∀ e ∈ s.eng.eng, e.2.memWf = true) (e : Nat) : (s.engine e).memWf = true := by
  rcases SMap.get_mem_or (fun _ => ({} : Eng)) s.eng.eng e with h0 | h0
  · rw [State.engine, h0]
    rfl
  · exact h _ h0

theorem State.memWf_updEngine {s : State} (h : s.memWf = true) (e : Nat) {f : Eng → Eng} (hf : (f (s.engine e)).memWf = true) :
    (s.updEngine e f).memWf = true := by
  obtain ⟨hh, hs, hb, hc, hd, he⟩ := (State.memWf_iff s).1 h
  refine (State.memWf_iff _).2 ⟨hh, hs, hb, hc, hd, fun x hx => ?_⟩
  have hset : x ∈ SMap.set (fun _ => ({} : Eng)) s.eng.eng e (f (s.engine e)) := hx
  rcases SMap.mem_set hset with rfl | hx
  · exact hf
  · exact he x hx

/-- Bytes read back as they were written. -/
theorem Memory.readN_writeN (m : Memory) (a : Nat) (l : List Byte) : (m.writeN a l).readN a l.length = l := by
  induction l generalizing m a with
  | nil => rfl
  | cons b l ih =>
    rw [List.length_cons, Memory.readN, Memory.writeN, ih, Memory.read_writeN_other _ _ _ (.inl (Nat.lt_succ_self a)),
      Memory.read_write_same]

theorem Memory.wf_foldl_write {m : Memory} (h : m.wf = true) (l : List (Nat × Byte)) :
    (l.foldl (fun m x => m.write x.1 x.2) m).wf = true := by
  induction l generalizing m with
  | nil => exact h
  | cons x l ih => exact ih (Memory.wf_write x.1 x.2 h)

theorem State.memWf_bar2Write {s : State} (h : s.memWf = true) (a : Nat) (b : List Byte) : (s.bar2Write a b).memWf = true := by
  obtain ⟨hh, hs, hb, hc, hd, he⟩ := (State.memWf_iff s).1 h
  unfold State.bar2Write
  split
  case h_1 => exact h
  case h_2 => exact h
  case h_3 => exact (State.memWf_iff _).2 ⟨hh, hs, hb, Memory.wf_writeN _ _ hc, hd, he⟩
  case h_4 e x _ =>
    refine State.memWf_updEngine h e ?_
    obtain ⟨hp, hl⟩ := Bool.and_eq_true_iff.1 (State.engine_memWf he e)
    exact Bool.and_eq_true_iff.2 ⟨hp, Memory.wf_writeN _ _ hl⟩

theorem execSpiWriteBuf_memWf {s : State} (h : s.memWf = true) (off : Nat) (data : List Byte) :
    ∃ t, execSpiWriteBuf off data s = .next t ∧ t.memWf = true := by
  obtain ⟨hh, hs, hb, hc, hd, he⟩ := (State.memWf_iff s).1 h
  unfold execSpiWriteBuf
  split
  · exact ⟨_, rfl, (State.memWf_iff _).2 ⟨hh, Memory.wf_foldl_write hs _, hb, hc, hd, he⟩⟩
  · exact ⟨s, rfl, h⟩

/-! ## Device memory -/

/-- A device that resets its units holds no device memory (R365). -/
@[simp] theorem State.resetUnits_dram (s : State) : s.resetUnits.dram = {} := by
  unfold State.resetUnits
  dsimp only
  split <;> rfl

theorem State.integrityHalt_dram (s : State) (ch detail addr : Nat) : (s.integrityHalt ch detail addr).dram = {} := by
  simp [State.integrityHalt, State.holdReset]

theorem State.touchCounters_mem (l : List Nat) (s : State) : (l.foldl (fun t l => t.touchCounter l true) s).dram.mem = s.dram.mem := by
  induction l generalizing s with
  | nil => rfl
  | cons a l ih => exact ih _

theorem State.dramWrite_mem_wf {s : State} (h : Memory.wf s.dram.mem = true) (a : Nat) (b : List Byte) :
    Memory.wf (s.dramWrite a b).dram.mem = true := by
  unfold State.dramWrite
  dsimp only
  split
  · rw [State.integrityHalt_dram]
    rfl
  · dsimp only
    rw [State.touchCounters_mem]
    exact Memory.wf_writeN a b h

end Sys2Proof.Machine

open Sys2Proof Sys2Proof.Machine

/-- Settles O6: each write keeps the canonical form of the map it writes. -/
theorem canonicalForms : Obligations.CanonicalForms := by
  unfold Obligations.CanonicalForms
  refine ⟨⟨rfl, rfl⟩, ?regs, ?mem, ?host, fun a b s h => State.dramWrite_mem_wf h a b⟩
  case regs => exact fun f v o w s h => ⟨State.regs_wf_setReg s _ _ h, State.regs_wf_setReg s o w h⟩
  case mem => exact fun m a j b h => ⟨Memory.wf_writeN a b h, Memory.readN_writeN m a b, Memory.read_writeN_other m a b⟩
  case host => exact fun a b s h => ⟨⟨_, rfl, State.memWf_bar2Write h a b⟩, execSpiWriteBuf_memWf h a b⟩

end

section
set_option Elab.async false
/-! The reset values of the register tables (R14, R486). -/

namespace Sys2Proof.Machine

/-- A register that no row of the reset table covers reads 0 after reset. -/
theorem reset_reg_of_unlisted {o : Nat} (h : resetTable.any (fun r => r.has o) = false) : State.reset.reg o = 0 := by
  have hnone : resetTable.find? (fun r => r.has o) = none := by
    rw [List.find?_eq_none]
    exact fun r hr hro => by simpa [hro] using List.any_eq_false.1 h r hr
  change resetWord o = 0
  simp only [resetWord, hnone]

end Sys2Proof.Machine

open Sys2Proof Sys2Proof.Machine

/-- Settles O2: the register file of reset is empty, so each field is its bits of the reset table's row. -/
theorem resetValues : Obligations.ResetValues := by
  unfold Obligations.ResetValues
  refine ⟨by decide +kernel, by decide +kernel, by decide +kernel, by decide +kernel, by decide +kernel, by decide +kernel, by decide +kernel, by decide +kernel, ?cadence, ⟨rfl, rfl, rfl, rfl, rfl⟩,
    fun o => reset_reg_of_unlisted⟩
  case cadence =>
    have h : ∀ n, n < 8 → 1 ≤ n → State.reset.rd (Reg.TICK.CAD_CFG.EN n) = 0 := by decide +kernel
    exact fun n hn => ⟨rfl, rfl, rfl, h n hn.2 hn.1⟩

end

section
set_option Elab.async false
/-! The command rings (R102–R107), replies (R98, R104) and the SPI target (R108–R110). -/

namespace Sys2Proof.Machine

/-! ## Registers of the rings -/

/-- The ring registers that the host writes live in the management domain. -/
theorem domOfOffset_ring : ∀ n, n < 4 → domOfOffset (Reg.CMD.RING_SQ_TAIL n) = some 1 ∧ domOfOffset (Reg.CMD.RING_CQ_HEAD n) = some 1 ∧
    domOfOffset (Reg.CMD.RING_CFG n) = some 1 ∧ ∀ r, r < 4 → domOfOffset (ringBase n r).off = some 1 := by
  decide +kernel

theorem State.posted_of_on {s t : State} {o d : Nat} (ho : domOfOffset o = some d) (hd : s.domOn d = true) : s.posted o t = t := by
  simp [State.posted, ho, hd]

theorem State.posted_of_off {s t : State} {o d : Nat} (ho : domOfOffset o = some d) (hd : s.domOn d = false) :
    s.posted o t = s.abortPosted o := by
  simp [State.posted, ho, hd]

/-- An index write of a ring whose domain is on (R102). -/
theorem State.indexWrite_of_on {s : State} {n v : Nat} {f : Fld} (ho : domOfOffset f.off = some 1) (hd : s.domOn 1 = true) :
    s.indexWrite n v f = if v < s.ringLen n then s.wr f v else s.ringErr (Reg.CMD.RING_STATUS.DOORBELL_ERR n) :=
  State.posted_of_on ho hd

/-- A field reads below its width's bound. -/
theorem State.rd_lt (s : State) (f : Fld) : s.rd f < 2 ^ f.w := Nat.mod_lt _ (Nat.two_pow_pos _)

/-! ## A ring's reply -/

/-- A reply of a ring, its CQ_TAIL not written back: host memory, the count of outstanding commands, and everything that is not the
transport's (R104). -/
theorem State.ringReply_spec {s : State} {r : Reply} {n slot : Nat} {phase : Bool} (ho : s.rd (Reg.CMD.RING_STATUS.OUTSTANDING n) ≠ 0)
    (hw : s.isSet (Reg.CMD.RING_CFG.WB_EN n) = false) :
    let t := s.ringReply r n slot phase
    t.hostMem = s.hostMem.writeN
      (s.ringAddr (Reg.CMD.RING_CQ_BASE_LO.ADDR_LO n) (Reg.CMD.RING_CQ_BASE_HI.ADDR_HI n) + 32 * slot) (r.bytes phase) ∧
    t.rd (Reg.CMD.RING_STATUS.OUTSTANDING n) = s.rd (Reg.CMD.RING_STATUS.OUTSTANDING n) - 1 ∧
    t.xp.replies = s.xp.replies ∧ t.xp.fwdOut = s.xp.fwdOut ∧ t.led = s.led ∧ t.eng = s.eng ∧ t.due = s.due := by
  have hlt := State.rd_lt s (Reg.CMD.RING_STATUS.OUTSTANDING n)
  have htail : (Reg.CMD.RING_STATUS.OUTSTANDING n).off ≠ (Reg.CMD.RING_CQ_TAIL.INDEX n).off := by
    simp only [Reg.CMD.RING_STATUS.OUTSTANDING, Reg.CMD.RING_STATUS, Reg.CMD.RING_CQ_TAIL.INDEX, Reg.CMD.RING_CQ_TAIL]
    omega
  have hev : (Reg.CMD.RING_STATUS.OUTSTANDING n).off ≠ Reg.CMD.EVENT.CQ.off := by
    simp only [Reg.CMD.RING_STATUS.OUTSTANDING, Reg.CMD.RING_STATUS, Reg.CMD.EVENT.CQ, Reg.CMD.EVENT]
    omega
  have hmod : (s.rd (Reg.CMD.RING_STATUS.OUTSTANDING n) - 1) % 2 ^ (Reg.CMD.RING_STATUS.OUTSTANDING n).w =
      s.rd (Reg.CMD.RING_STATUS.OUTSTANDING n) - 1 := Nat.mod_eq_of_lt (by omega)
  have hfit : fits32 (Reg.CMD.RING_STATUS.OUTSTANDING n) = true := by rfl
  simp only [State.ringReply, if_neg ho, hw]
  simp only [Bool.false_eq_true, and_false, if_false]
  cases r.irq <;>
    simp [State.evtBit_eq, State.rd_wr_other _ _ htail, State.rd_wr_other _ _ hev, State.rd_wr_same _ _ _ hfit, hmod]

/-! ## SPI -/

theorem State.with_spiSubs_nil {s : State} (h : s.xp.spiSubs = []) : ({ s with xp := { s.xp with spiSubs := [] } } : State) = s := by
  rw [← h]

theorem State.with_spiReplies {s : State} {l : List (List Byte)} (h : s.xp.spiReplies = l) :
    ({ s with xp := { s.xp with spiReplies := l } } : State) = s := by
  rw [← h]

/-- A write into the SPI buffer that does not wrap is a write of bytes (R110). -/
theorem spiWrite_eq_writeN (data : List Byte) (m : Memory) {off : Nat} (h : off + data.length ≤ 0x10000) :
    ((List.range data.length).map (fun i => ((off + i) % 0x10000, data.getD i 0))).foldl (fun m x => m.write x.1 x.2) m =
      m.writeN off data := by
  induction data generalizing m off with
  | nil => rfl
  | cons b data ih =>
    rw [List.length_cons] at h
    have hoff : off % 0x10000 = off := Nat.mod_eq_of_lt (by omega)
    have hstep := ih (m.write off b) (off := off + 1) (by omega)
    rw [Memory.writeN, ← hstep, List.length_cons, List.range_succ_eq_map]
    simp [hoff, Function.comp_def, Nat.add_assoc, Nat.add_comm 1]

end Sys2Proof.Machine

open Sys2Proof Sys2Proof.Machine

/-- Settles O7: each write is posted to the management domain, which is on but for one clause. -/
theorem ringRegisterWrites : Obligations.RingRegisterWrites := by
  unfold Obligations.RingRegisterWrites
  refine ⟨?tail, ?tailErr, ?tailOff, ?head, ?headErr, ?enable, ?enableErr, ?disable, ?length, ?lengthOff, ?cancel, ?base, ?baseErr⟩
  case tail =>
    intro n v s hn hd hv
    obtain ⟨ho, -⟩ := domOfOffset_ring n hn
    simp [exec, execSqTailWrite, hn, State.indexWrite_of_on (f := Reg.CMD.RING_SQ_TAIL.INDEX n) ho hd, hv]
  case tailErr =>
    intro n v s hn hd hv
    obtain ⟨ho, -⟩ := domOfOffset_ring n hn
    simp [exec, execSqTailWrite, hn, State.indexWrite_of_on (f := Reg.CMD.RING_SQ_TAIL.INDEX n) ho hd, Nat.not_lt.2 hv, State.ringErr]
  case tailOff =>
    intro n v s hn hd
    obtain ⟨ho, -⟩ := domOfOffset_ring n hn
    refine ⟨?_, rfl, rfl⟩
    simp only [exec, execSqTailWrite, if_pos hn]
    exact congrArg _ (State.posted_of_off ho hd)
  case head =>
    intro n v s hn hd hv
    obtain ⟨-, ho, -⟩ := domOfOffset_ring n hn
    simp [exec, execCqHeadWrite, hn, State.indexWrite_of_on (f := Reg.CMD.RING_CQ_HEAD.INDEX n) ho hd, hv]
  case headErr =>
    intro n v s hn hd hv
    obtain ⟨-, ho, -⟩ := domOfOffset_ring n hn
    simp [exec, execCqHeadWrite, hn, State.indexWrite_of_on (f := Reg.CMD.RING_CQ_HEAD.INDEX n) ho hd, Nat.not_lt.2 hv, State.ringErr]
  case enable =>
    intro n s hn hd hen hid
    obtain ⟨-, -, ho, -⟩ := domOfOffset_ring n hn
    simp [exec, execRingEnable, hn, State.posted_of_on ho hd, hen, hid]
  case enableErr =>
    intro n s hn hd hen hid
    obtain ⟨-, -, ho, -⟩ := domOfOffset_ring n hn
    simp [exec, execRingEnable, hn, State.posted_of_on ho hd, hen, hid, State.ringErr]
  case disable =>
    intro n s hn hd
    obtain ⟨-, -, ho, -⟩ := domOfOffset_ring n hn
    simp [exec, execRingDisable, hn, State.posted_of_on ho hd]
  case length =>
    intro n v s hn hd hlo hhi hen
    obtain ⟨-, -, ho, -⟩ := domOfOffset_ring n hn
    simp [exec, execRingLengthWrite, hn, hlo, hhi, State.posted_of_on ho hd, hen]
  case lengthOff =>
    intro n v s hn hd hlo hhi hen
    obtain ⟨-, -, ho, -⟩ := domOfOffset_ring n hn
    simp [exec, execRingLengthWrite, hn, hlo, hhi, State.posted_of_on ho hd, hen]
  case cancel =>
    intro n s hn hd
    obtain ⟨-, -, ho, -⟩ := domOfOffset_ring n hn
    simp [exec, execRingCancel, hn, State.posted_of_on ho hd]
  case base =>
    intro n r v s hn hr hd hen
    obtain ⟨-, -, -, ho⟩ := domOfOffset_ring n hn
    simp [exec, execRingBaseWrite, hn, hr, State.posted_of_on (ho r hr) hd, hen]
  case baseErr =>
    intro n r v s hn hr hd hen
    obtain ⟨-, -, -, ho⟩ := domOfOffset_ring n hn
    simp [exec, execRingBaseWrite, hn, hr, State.posted_of_on (ho r hr) hd, hen, State.ringErr]

/-- Settles O8: the rows' conditions, and what `ringReply` leaves. -/
theorem entriesAndReplies : Obligations.EntriesAndReplies := by
  unfold Obligations.EntriesAndReplies
  refine ⟨?idle, ?length, ?fetch, ?fetchErr, ?reply, ?late⟩
  case idle =>
    intro n s hn hd hen hout
    simp [exec, execRingIdle, hn, hd, hen, hout]
  case length =>
    intro n s hn hp
    simp only [exec, execRingLengthApply, hn, hp, true_and]
    split <;> rfl
  case fetch =>
    intro n ns blk bad s hn hf
    simp [exec, execEntryFetch, hn, hf]
  case fetchErr =>
    intro n ns blk bad s hn hf
    simp [exec, execEntryFetch, hn, hf, State.ringErr]
  case reply =>
    intro i n slot phase r s hn hf hc hr hv ho hw
    obtain ⟨hi, -⟩ := List.getElem?_eq_some_iff.1 hr
    have hs := State.ringReply_spec (r := r) (slot := slot) (phase := phase) (s := { s with xp := { s.xp with
      replies := s.xp.replies.eraseIdx i, journal := s.xp.journal.erase (.ring n slot phase, r.seq) } }) ho hw
    refine ⟨_, ?_, hs⟩
    simp only [exec, execReplyWrite, State.replyWrite, hi, hf, hc, hr, hv]
    simp
  case late =>
    intro i s hi hf hc
    simp [exec, execReplyWrite, hi, hf, hc]

/-- Settles O9: the target's cases by instruction, length, CRC and what waits. -/
theorem spiTarget : Obligations.SpiTarget := by
  unfold Obligations.SpiTarget
  refine ⟨?status, ?queued, ?run, ?frame, ?overflow, ?none, ?reply, ?writeBuf, ?readBuf⟩
  case status =>
    intro s hs
    simp [exec, execSpiReadStatus, hs]
  case queued =>
    intro ns data s hs hlen hcrc hne hlt
    have hnil : s.xp.spiSubs ≠ [] := List.length_pos_iff.1 hne
    simp [exec, execSpiWriteSub, hs, hlen, hcrc, Nat.not_le.2 hlt, hnil]
  case run =>
    intro ns data s hs hlen hcrc hnil hq
    have hq' : ∀ t : State, t.xp.spiReplies = s.xp.spiReplies → t.xp.replies = s.xp.replies → t.spiQueued < 16 := by
      intro t h1 h2
      simpa [State.spiQueued, h1, h2] using hq
    have hnil' : ((s.wr Reg.CMD.SPI_STATUS.FRAME_ERR 0).wr Reg.CMD.SPI_STATUS.OVERFLOW 0).xp.spiSubs = [] := hnil
    have heta := State.with_spiSubs_nil hnil'
    simp only [exec, execSpiWriteSub, hs, hlen, hcrc, hnil]
    simp [State.spiPump, hq', hnil] at heta ⊢
    rw [heta]
  case frame =>
    intro ns data s hs hbad
    simp [exec, execSpiWriteSub, hs, hbad, State.spiErr]
  case overflow =>
    intro ns data s hs hlen hcrc hfull
    simp [exec, execSpiWriteSub, hs, hlen, hcrc, hfull, State.spiErr]
  case none =>
    intro s hs hr
    simp [exec, execSpiReadReply, hs, hr]
  case reply =>
    intro full r rest s hs hr hnil
    cases full
    case false =>
      have heta := congrArg State.xp (State.with_spiReplies hr)
      simp only [exec, execSpiReadReply, hs, hr, State.emit]
      simpa using heta.symm
    case true => simp [exec, execSpiReadReply, hs, hr, State.spiPump, hnil]
  case writeBuf =>
    intro off data s hs hlen
    simp only [exec, execSpiWriteBuf, hs, if_true, spiWrite_eq_writeN data _ hlen]
  case readBuf =>
    intro off len s hs
    simp [exec, execSpiReadBuf, hs]

end

section
set_option Elab.async false
/-! Commands of other devices and of the twin partner, and the watchdogs of the management cores (R81, R96, R111–R114, R120). -/

namespace Sys2Proof.Machine

/-- A frame for another device leaves over the link of its route, where that carries it (R417). -/
theorem State.forwardFrame_of_route {s : State} {k ty dst : Nat} {f : DFrame} {r : Route} (ht : 3 ≤ ty ∧ ty ≤ 6) (hh : 0 < f.hops)
    (hr : s.route dst = some r) :
    s.forwardFrame k ty dst f =
      if s.carries r.link ty then s.emit (.frame r.link ty ([f.src, dst, f.hops - 1, f.cid] ++ f.data.map (·.toNat))) else s := by
  simp only [State.forwardFrame, if_neg (Nat.ne_of_gt hh), if_pos ht, hr]

/-- A link that is up and not in the RECOVERY role carries what is not a line-packet, and line-packets unless it is quarantined. -/
theorem State.carries_of_role {s : State} {k ty : Nat} (hu : s.linkUp k = true) (hr : s.rd (Reg.DOLMET.LINK_STATUS.ROLE k) ≠ 4)
    (hq : ty ≠ 6 ∨ s.linkState k = 3) : s.carries k ty = true := by
  rcases hq with hq | hq <;> simp [State.carries, hu, hr, hq]

theorem State.carries_of_recovery {s : State} {k ty : Nat} (hr : s.rd (Reg.DOLMET.LINK_STATUS.ROLE k) = 4) (ht : ty ≠ 3 ∧ ty ≠ 4 ∧ ty ≠ 9) :
    s.carries k ty = false := by
  simp [State.carries, hr, ht]

end Sys2Proof.Machine

open Sys2Proof Sys2Proof.Machine

/-- Settles O10: each row's own cases, with the frame's route for FRAME_FORWARD. -/
theorem forwardingAndCores : Obligations.ForwardingAndCores := by
  unfold Obligations.ForwardingAndCores
  refine ⟨?new, ?recorded, ?reply, ?timeout, ?frame, ?forward, ?twin, ?twinBatch, ?twinTimeout, ?partnerTimeout, ?restart, ?reset⟩
  case new =>
    intro op src h p s hv hf hm hu hr
    simp [exec, execForwardedCommandReceive, hv, hf, hm, hu, hr]
  case recorded =>
    intro op src h p r s hv hf hm hu hr
    simp [exec, execForwardedCommandReceive, hv, hf, hm, hu, hr]
  case reply =>
    intro src status eff seq result bufs f s hf hr
    simp [exec, execForwardedReplyReceive, hf, hr, State.answerFrom]
  case timeout =>
    intro dst seq f s hr
    simp [exec, execForwardTimeout, hr]
  case frame =>
    intro k ty dst f s hc hd hm
    simp [exec, execFrameForward, hc, hd, hm]
  case forward =>
    intro k ty dst f r s ht hh hr hu
    refine ⟨fun hrole hq => ?_, fun hrole h5 => ?_, rfl⟩
    · rw [State.forwardFrame_of_route ht hh hr, if_pos (State.carries_of_role hu hrole hq)]
    · rw [State.forwardFrame_of_route ht hh hr, State.carries_of_recovery hrole (by omega), if_neg Bool.false_ne_true]
  case twin =>
    intro op floor st eff h p r s hf hp hc h3 hw ha
    simp only [exec, execTwinCommandReceive, hf, hp, hc, if_neg h3, if_neg hw, ha]
    simp only [not_true_eq_false, Bool.false_eq_true, or_self, if_false]
    split <;> rfl
  case twinBatch =>
    intro op floor h p a s hf hp hc h3 hw hr ha
    subst ha
    simp [exec, execTwinCommandReceive, hf, hp, hc, h3, hw, hr]
  case twinTimeout =>
    intro seq w s hw
    simp [exec, execTwinCommandTimeout, hw]
  case partnerTimeout =>
    intro seq s hw
    simp [exec, execTwinCommandTimeout, hw]
  case restart =>
    intro core s h1 h4 hf hc hr
    have hcore : ¬ (core < 1 ∨ 4 < core ∨ ¬ s.isSet Reg.CMD.STATUS.FW_READY = true ∨ s.coreOff core = true) := by
      simp [hf, hc]
      omega
    simp only [exec, execCoreWatchdogExpiry, if_neg hcore, hr]
    rfl
  case reset =>
    intro core t s h1 h4 hf hc hr ht
    have hcore : ¬ (core < 1 ∨ 4 < core ∨ ¬ s.isSet Reg.CMD.STATUS.FW_READY = true ∨ s.coreOff core = true) := by
      simp [hf, hc]
      omega
    simp only [exec, execCoreWatchdogExpiry, if_neg hcore, hr]
    simp [ht]

end

section
set_option Elab.async false
/-! Reference events (R19, R23–R26, R30, R41). -/

open Sys2Proof Sys2Proof.Machine

/-- Settles O11: each event's own condition holds, and the rest is the row. -/
theorem referenceSources : Obligations.ReferenceSources := by
  unfold Obligations.ReferenceSources
  refine ⟨fun _ _ => rfl, ?sync, ?followUp, ?delayResp, ?announce, ?ptpLost, ?dolmetLost, ?analogLost, ?appear, ?range⟩
  case sync =>
    intro port m s t hp hm hlo hhi ht
    have hcond : (!s.ptpOn port m.domain || (s.ref 1 m.domain port).master != some m.sender || decide (m.logInt < -7) ||
        decide (-1 < m.logInt)) = false := by
      simp [hp, hm, hlo, hhi]
    simp only [exec, execPtpSyncReceive, hcond, ← ht, State.ptpMeasured]
    cases m.twoStep <;> simp
  case followUp =>
    intro port dom sender seq origin s hm hw
    simp [exec, execPtpFollowUpReceive, hm, hw, State.ptpMeasured]
  case delayResp =>
    intro port dom sender seq rx tx s hm hd
    simp [exec, execPtpDelayRespReceive, hm, hd]
  case announce =>
    intro port dom sender rx logInt q r s hp hlo hhi hr
    subst hr
    simp [exec, execPtpAnnounceReceive, hp, hlo, hhi]
  case ptpLost =>
    intro port dom s ha hs
    simp [exec, execPtpReferenceLost, ha, hs]
  case dolmetLost =>
    intro k s ha hs
    simp [exec, execDolmetReferenceLost, ha, hs]
  case analogLost =>
    intro i s hi hp hm
    simp [exec, execAnalogReferenceLost, hi, hp, hm]
  case appear =>
    intro i fmt frate s hi
    simp only [exec, execAnalogSyncAppear, if_pos hi, Bool.and_eq_true, Bool.not_eq_true']
    simp only [Bool.not_eq_true]
    split <;> rfl
  case range =>
    intro src dom index s h1 h4
    have hsrc : src = 1 ∨ src = 2 ∨ src = 3 ∨ src = 4 := by omega
    simp only [exec, execReferenceOutOfRange, if_pos hsrc]

end

section
set_option Elab.async false
/-! The contract commands (R85–R92, R68, R81) on a device that takes them. -/

namespace Sys2Proof.Machine

/-- A command row that the block takes delivers what the row's own body answers on the state that has noted its receipt. -/
theorem exec_takes {i : Instr} {op : Nat} {h : Hdr} {p : List Byte} {body : Nat → State → Ans} {s t : State}
    (hrow : exec i s = .next (command op h p body s)) (ht : s.takes op h = true) (hst : t = s.stamped h) :
    exec i s = .next (State.deliver h (body 0 t)) := by
  rw [hrow, command_of_takes p body ht, hst]

/-- An accepted activation of a contract of this device alone is scheduled and answered with its tick (R68). -/
theorem State.acceptChange_activate {s : State} {i : Nat} (h : Hdr) (p : List Byte) (eff st : Nat) (hp : (s.contract i).path = []) :
    s.acceptChange h p i false eff st =
      Ans.say ((s.updContract i (fun c => { c with actTick := some eff })).schedule eff (.activate i)).showSwap st eff [] := by
  simp [State.acceptChange, hp]

/-- An accepted release likewise. -/
theorem State.acceptChange_release {s : State} {i : Nat} (h : Hdr) (p : List Byte) (eff st : Nat) (hp : (s.contract i).path = []) :
    s.acceptChange h p i true eff st =
      Ans.say ((s.updContract i (fun c => { c with relTick := some eff })).schedule eff (.release i)).showSwap st eff [] := by
  simp [State.acceptChange, hp]

end Sys2Proof.Machine

open Sys2Proof Sys2Proof.Machine

/-- Settles O13: every refusal is ruled out in turn, and the body's last step is the clause. -/
theorem contractCommands : Obligations.ContractCommands := by
  unfold Obligations.ContractCommands
  refine ⟨?propose, ?proposeFull, ?activate, ?activateEarly, ?release, ?query, ?snapshot, ?descriptor⟩
  case propose =>
    intro h p d s t ht hst hopen hd
    refine (exec_takes rfl ht hst).trans ?_
    simp [cmdContractPropose, Nat.not_le.2 hopen, hd]
  case proposeFull =>
    intro h p s t ht hst hopen
    refine (exec_takes rfl ht hst).trans ?_
    simp [cmdContractPropose, hopen]
  case activate =>
    intro h p i first eff s t ht hst hi hm hz hadm hact hpre hlim hpath hfirst heff hle
    refine (exec_takes rfl ht hst).trans ?_
    have hexp : (t.contract i).expiry = none := by simp [Contract.expiry, hlim]
    simp only [cmdContractActivate, hi, ← hfirst, ← heff]
    rw [Ans.check_pass _ _ _ (by simp [hm, hz, hle, hexp, hadm, hact, hpre]), State.acceptChange_activate _ _ _ _ hpath, State.deliver_say]
  case activateEarly =>
    intro h p i s t ht hst hi hm hne hlt
    refine (exec_takes rfl ht hst).trans ?_
    simp [cmdContractActivate, hi, hm, hne, hlt, Ans.check, firstErr]
  case release =>
    intro h p i s t ht hst hi hz hrel hrld htick hpre hpath
    refine (exec_takes rfl ht hst).trans ?_
    have hbusy : t.presetBusy i = false := by simp [State.presetBusy, hpre]
    simp only [cmdContractRelease, hi]
    rw [Ans.check_pass _ _ _ (by simp [hz, hrel, hrld, htick, hbusy]), State.acceptChange_release _ _ _ _ hpath, State.deliver_say,
      Nat.max_zero]
  case query =>
    intro h p i s t ht hst hi hz
    refine (exec_takes rfl ht hst).trans ?_
    simp only [cmdContractQuery, hi]
    rw [Ans.check_pass _ _ _ (by simp [hz]), State.deliver_say]
  case snapshot =>
    intro h p s t ht hst hres hall hz hspi hlen
    refine (exec_takes rfl ht hst).trans ?_
    simp only [cmdLedgerSnapshot]
    rw [Ans.check_pass _ _ _ (by simp [hres, hall, hz, hspi]), if_neg (Nat.not_lt.2 hlen), State.deliver_say]
  case descriptor =>
    intro h p b s t ht hst hb hprops hlo hhi hz hspi hcost hnone
    refine (exec_takes rfl ht hst).trans ?_
    have hid : u16 p 12 ≠ 0 := Nat.ne_of_gt hlo
    simp only [cmdDescriptorRegister, hb]
    rw [Ans.check_pass _ _ _ (by simp [hprops]), Ans.check_pass _ _ _ (by simp [hid, hhi, hz, hspi, hcost, hnone]), State.deliver_say]

end

section
set_option Elab.async false
/-! Admission of a batch, and contracts across devices (R66, R67, R80–R83). -/

namespace Sys2Proof.Machine

/-! ## One proposal -/

/-- A batch of one is judged whatever its class (R66). -/
theorem classOrder_singleton {α : Type} (x : α) (n : Nat) :
    (if (n == 0) = true then [x] else []) ++ (if (n == 1) = true then [x] else []) ++ (if decide (2 ≤ n) = true then [x] else []) = [x] := by
  rcases n with _ | _ | n <;> simp

/-- The outcome of a local proposal under no TWIN_APPLY and no dry run, with an index free: the checks of R66 decide. -/
theorem State.admitOne_local {s : State} (votes : List TwinVote) {x : Proposal} (hsub : x.subst = none) (htw : x.twin = false) (hdry : x.dry = false)
    (hown : x.owner = 0) (hpart : x.partner = false) (hx : x.part.xdev = false) {i : Nat} (hi : s.freeIndex = some i) :
    s.admitOne votes x = match s.judge x with
      | .yes bound ch => (s.newContract i (nextGen (s.contract i).gen) x bound ch false).answer x.h Sts.ok s.now
          (okBytes (nextGen (s.contract i).gen * 4096 + i) bound (s.now + 2))
      | .no st r => s.answer x.h st s.now r := by
  have hnew : s.newIndex votes x = some (i, nextGen (s.contract i).gen) := by simp [State.newIndex, hpart, hi]
  have hnow : ∀ b ch, (s.newContract i (nextGen (s.contract i).gen) x b ch false).now = s.now := fun _ _ => rfl
  simp only [State.admitOne, hsub, hnew]
  cases s.judge x <;> simp [State.vote, splitOf, htw, hdry, hown, hpart, hx, State.answerProp, hnow]

theorem State.answer_led (s : State) (h : Hdr) (st eff : Nat) (r : List Byte) : (s.answer h st eff r).led = s.led := by
  unfold State.answer
  split <;> rfl

/-- What a new contract is, and that no other changes (R67). -/
theorem State.newContract_contract (s : State) (i gen bound : Nat) (x : Proposal) (ch : List Charge) :
    ((s.newContract i gen x bound ch false).contract i).st = .admitted ∧ ((s.newContract i gen x bound ch false).contract i).charges = ch ∧
      ((s.newContract i gen x bound ch false).contract i).bound = bound ∧ ((s.newContract i gen x bound ch false).contract i).gen = gen ∧
      ∀ j, j ≠ i → (s.newContract i gen x bound ch false).contract j = s.contract j := by
  simp only [State.newContract, State.contract, State.setContract, SMap.get_set_same]
  exact ⟨rfl, trivial, trivial, trivial, fun j hj => SMap.get_set_other _ _ _ hj⟩

/-! ## The decision -/

/-- With every vote yes no vote is found that is not. -/
theorem find?_not_yes {l : List (Nat × Option Bool)} (h : ∀ v ∈ l, v.2 = some true) : l.find? (fun v => v.2 != some true) = none := by
  rw [List.find?_eq_none]
  exact fun v hv => by simp [h v hv]

end Sys2Proof.Machine

open Sys2Proof Sys2Proof.Machine

/-- Settles O14: one proposal, one vote, one reservation, each through its own row. -/
theorem admissionAndVotes : Obligations.AdmissionAndVotes := by
  unfold Obligations.AdmissionAndVotes
  refine ⟨?batch, fun s i gen bound x ch => State.newContract_contract s i gen bound x ch, fun _ _ _ _ _ _ => rfl, ?vote, ?decideYes, ?decideNo,
    ?commit, ?abort, ?ownerQuery, ?query, ?queryUnknown, ?timeout⟩
  case batch =>
    intro votes x s0 s hp hr hs0 hsub htw hdry hown hpart hx hi hxp
    obtain ⟨i, hi⟩ := Option.isSome_iff_exists.1 hi
    have hone := State.admitOne_local votes hsub htw hdry hown hpart hx hi
    have hord : byReceipt [x] = [x] := rfl
    have hs1 : (s0.admitOne votes x).led.xprops = [] := by
      rw [hone]
      cases s0.judge x <;> simp [State.answer_led, hs0, hxp, State.newContract, State.setContract]
    have hnow : s0.now = s.now := by rw [hs0]; rfl
    simp only [exec, execAdmissionBatch, hp, List.filter_cons, hr, decide_true, if_true, List.filter_nil, hord]
    simp only [List.isEmpty_cons, Bool.false_eq_true, if_false, Bool.not_true, ← hs0]
    rw [← hnow, classOrder_singleton, List.foldl_cons, List.foldl_nil, if_neg (by simp [hs1]), hone, hi]
    rfl
  case vote =>
    intro src id yes x s hx hid
    simp [exec, execXdevVoteReceive, hx, hid]
  case decideYes =>
    intro x s hx hb hdry hv
    simp only [exec, execXdevDecision, hx, List.filter_cons, hb, decide_true, if_true, List.filter_nil]
    simp only [List.isEmpty_cons, Bool.false_eq_true, if_false, Bool.not_true, List.foldl_cons, List.foldl_nil, State.decideX,
      find?_not_yes hv, hdry]
    rfl
  case decideNo =>
    intro x dev v s hx hb hdry hv
    simp only [exec, execXdevDecision, hx, List.filter_cons, hb, decide_true, if_true, List.filter_nil]
    simp only [List.isEmpty_cons, Bool.false_eq_true, if_false, Bool.not_true, List.foldl_cons, List.foldl_nil, State.decideX, hv, hdry]
    rfl
  case commit =>
    intro owner id i s hi hp
    simp [exec, execXdevCommitReceive, hi, hp]
  case abort =>
    intro owner id i s hi hp
    simp [exec, execXdevAbortReceive, hi, hp]
  case ownerQuery =>
    intro i c s hp ht ha
    simp [exec, execXdevOwnerQuery, hp, ht, ha]
  case query =>
    intro src id i s hi hp
    by_cases hst : (s.contract i).st = .released <;> simp [exec, execXdevQueryReceive, hi, hp, hst]
  case queryUnknown =>
    intro src id s hi
    simp [exec, execXdevQueryReceive, hi]
  case timeout =>
    intro i a c s hp ha hne hle
    subst ha
    simp [exec, execXdevQueryTimeout, hp, hne, hle]

end

section
set_option Elab.async false
/-! The life of a contract (R54, R55, R68, R71, R88). -/

namespace Sys2Proof.Machine

/-! ## One piece of work due -/

/-- Where one piece of work is due and nothing else, its row applies it, and settles the ledger where it bears on it (R117). -/
theorem State.applyDue_single {s : State} {d : Due} {k : Act → Bool} (hs : s.dueNow = [d]) (hk : k d.act = true) :
    s.applyDue k = if d.act.ledgered then (s.undue.applyOne d).settle else s.undue.applyOne d := by
  have hup : uptoLast k [d] = [d] := by simp [uptoLast, hk]
  rw [State.applyDue_of_some k (by simp [hs, hk]), hs, hup]
  simp [State.undue]

/-! ## The end of a hold -/

/-- A cause that is over at the present tick is not kept (R55). -/
theorem holds_over {α : Type} {n : Nat} {l : List (α × Option Nat)} (h : ∀ x ∈ l, x.2.any (fun t => decide (t ≤ n)) = true) :
    l.filter (fun x => x.2.all (fun t => decide (n < t))) = [] := by
  rw [List.filter_eq_nil_iff]
  rintro ⟨c, t⟩ hx
  have ht := h _ hx
  cases t with
  | none => cases ht
  | some t => simpa using ht

/-- A HELD contract whose causes are all over leaves HELD (R55). -/
theorem State.endHolds_of_over {s : State} {i : Nat} (hst : (s.contract i).st = .held) (hne : (s.contract i).holds ≠ [])
    (hover : ∀ x ∈ (s.contract i).holds, x.2.any (fun t => decide (t ≤ s.now)) = true) :
    s.endHolds i =
      let s1 := s.updContract i (fun c => { c with holds := [] })
      (if (s.contract i).lost = [] then s1.setCSt i .active else s1.enterStarved i).evt Reg.LEDGER.EVENT.RESUMED := by
  simp only [State.endHolds, holds_over hover, hst, Ne.symm hne, ne_eq, not_false_eq_true, and_self, if_true, List.isEmpty_nil,
    Bool.not_true, Bool.false_eq_true, if_false, List.isEmpty_iff]
  split <;> rfl

end Sys2Proof.Machine

open Sys2Proof Sys2Proof.Machine

/-- Settles O15: the boundary rows apply the one piece of work due, the others act on the one contract in question. -/
theorem contractLife : Obligations.ContractLife := by
  unfold Obligations.ContractLife
  refine ⟨?activation, ?active, ?starved, ?release, ?endActive, ?endDegraded, ?expiry, ?complete, ?holdEnd, ?posture, ?postureSet⟩
  case activation => exact fun eff i st s hd => congrArg _ (State.applyDue_single hd rfl)
  case active =>
    intro i s hst hl
    simp [State.activate, hst, hl]
  case starved =>
    intro i k l s hst hl
    simp [State.activate, hst, hl]
  case release => exact fun eff i st s hd => congrArg _ (State.applyDue_single hd rfl)
  case endActive =>
    intro i s hst
    simp [State.endContract, hst, State.leaveDegraded]
  case endDegraded =>
    intro i s hst
    rcases hst with hst | hst <;> simp [State.endContract, hst, State.leaveDegraded]
  case expiry =>
    intro i t s hi ht hle ha
    simp [exec, execActLimitExpiry, hi, ht, hle, ha]
  case complete =>
    intro i s hst
    simp [exec, execReleasingComplete, hst]
  case holdEnd =>
    intro i s hi hst hne hover
    simp only [exec, execHoldEnd, hi, List.foldl_cons, List.foldl_nil, State.endHolds_of_over hst hne hover]
  case posture => exact fun eff p c m st s hd => congrArg _ (State.applyDue_single hd rfl)
  case postureSet =>
    intro h p m s t ht hst hpend hpos hflag hres hcap hz hm
    refine (exec_takes rfl ht hst).trans ?_
    have hpos' : u8 p 0 ≠ 2 ∧ ¬ 2 < u8 p 0 := by omega
    have hbit : bit 0 0 = false := rfl
    simp only [cmdPostureSet, hcap, hflag, hbit, if_true]
    simp only [Bool.false_eq_true, if_false, hm, Nat.max_zero]
    rw [Ans.check_pass _ _ _ (by simp [hpend, hpos', hres, hz]), State.deliver_say]
    rfl

end

section
set_option Elab.async false
/-! Output units (R72–R76). -/

namespace Sys2Proof.Machine

/-- What a frame sent changes is the frames the egress still has under way. -/
@[simp] theorem State.frameSent_out (s : State) (i dst : Nat) (last : Bool) : (s.frameSent i dst last).out = s.out := by
  unfold State.frameSent
  split
  · split <;> simp
  · rfl

@[simp] theorem State.frameSent_regs (s : State) (i dst : Nat) (last : Bool) : (s.frameSent i dst last).regs = s.regs := by
  unfold State.frameSent
  split
  · split <;> simp
  · rfl

/-- A contract written reads as it was written. -/
theorem State.contract_updContract_same (s : State) (i : Nat) (f : Contract → Contract) : (s.updContract i f).contract i = f (s.contract i) := by
  simp [State.contract, State.updContract, State.setContract]

theorem State.contract_congr {s t : State} (h : t.led = s.led) (i : Nat) : t.contract i = s.contract i := by
  simp only [State.contract, h]

end Sys2Proof.Machine

open Sys2Proof Sys2Proof.Machine

/-- Settles O16: each case is one path of `State.unitSend`; the counted miss is read back field by field. -/
theorem outputUnits : Obligations.OutputUnits := by
  unfold Obligations.OutputUnits
  refine ⟨?inTime, ?late, ?preset, ?early, ?transfer, ?put, ?miss⟩
  case inTime =>
    intro i dst u sub h s s1 hr ht he hl hx hh hs h1 hp
    change s.unitSend i dst u = _
    simp [State.unitSend, -List.getD_eq_getElem?_getD, hr, ht, he, hl, hx, hp, ← hh, ← hs, h1]
  case late =>
    intro i dst u sub h s s1 hr ht he hl hh hs h1 hp
    have hlate : (s.unitLate (s.contract i) u || s.txStopped ((s.contract i).d.dsts.getD dst {})) = true := by simpa using hl
    change s.unitSend i dst u = _
    simp [State.unitSend, -List.getD_eq_getElem?_getD, hr, ht, he, hlate, hp, ← hh, ← hs, h1]
  case preset =>
    intro i dst u sub late h s s1 hr ht he hl hh hs h1 hp
    change s.unitSend i dst u = _
    simp [State.unitSend, -List.getD_eq_getElem?_getD, hr, ht, he, hl, hp, ← hh, ← hs, h1]
  case early =>
    intro i dst u s hr ht he
    change s.unitSend i dst u = _
    simp [State.unitSend, -List.getD_eq_getElem?_getD, hr, ht, he]
  case transfer =>
    intro i dst u s hr ht
    change s.unitSend i dst u = _
    simp [State.unitSend, -List.getD_eq_getElem?_getD, hr, ht]
  case put =>
    intro i dst u late sub s hw hx
    refine ⟨_, rfl, ?_⟩
    simp [-List.getD_eq_getElem?_getD, State.putUnit, hw, hx]
  case miss =>
    intro i dst s hi hd
    simp (disch := decide) only [State.countMiss, State.evt, State.bumpSat, State.rd_updContract, State.rd_wr_other, State.rd_wr_apart,
      State.rd_wr_same, State.contract_updContract_same]
    refine ⟨?_, Nat.mod_eq_of_lt hi, Nat.mod_eq_of_lt hd, rfl, ?_⟩
    · refine Nat.mod_eq_of_lt ?_
      exact lt_of_le_of_lt (Nat.min_le_right _ _) (by decide)
    · rw [State.contract_congr (s := s) (by simp)]

end

section
set_option Elab.async false
/-! Port, flow, substitution and reference commands (R131–R160, R28, R31). -/

namespace Sys2Proof.Machine

/-- A command that the block takes and none of whose refusals holds is answered with what its body says. -/
theorem exec_accepts {i : Instr} {op : Nat} {h : Hdr} {p : List Byte} {body : Nat → State → Ans} {s t u : State}
    {checks : List (Bool × Nat)} {st eff : Nat} {out : List Byte}
    (hrow : exec i s = .next (command op h p body s)) (ht : s.takes op h = true) (hst : t = s.stamped h)
    (hbody : body 0 t = Ans.check t checks (Ans.say u st eff out)) (hpass : ∀ c ∈ checks, c.1 = false) :
    exec i s = .next (u.answer h st eff out) := by
  rw [exec_takes hrow ht hst, hbody, Ans.check_pass _ _ _ hpass, State.deliver_say]

/-- The contracts do not lie in the stream engines' part of the state. -/
theorem State.contract_withStrm (s : State) (x) (i : Nat) : ({ s with strm := x } : State).contract i = s.contract i := rfl

end Sys2Proof.Machine

open Sys2Proof Sys2Proof.Machine

/-- Settles O17: every refusal is ruled out in turn, and the apply rows apply the one change due. -/
theorem streamCommands : Obligations.StreamCommands := by
  unfold Obligations.StreamCommands
  refine ⟨?portConfig, ?flowAdd, ?flowRemove, ?substPolicy, ?refSelect, ?tickStatus, ?portApply, ?addApply, ?removeApply, ?substApply, ?policy⟩
  case portConfig =>
    intro h p s t ht hst hp h3 hl hk hr hlen hi hz1 hz2 hz3 hheld hlive
    refine exec_accepts rfl ht hst rfl ?_
    have hlanes : (portLanes (u16 p 0) (parsePort p).kind).all
        (fun l => t.domOn (laneDom l) || (t.laneFunc l == funcPcie)) = true := by
      rw [List.all_eq_true] at hl ⊢
      intro l h; simp [hl l h]
    simp [hp, h3, hlanes, hk, hr, hlen, hi, hz1, hz2, hz3, hheld, hlive]
  case flowAdd =>
    intro h p b eg i s t ht hst hb heg hl hlen hz hspi hbad hfree hlim
    refine (exec_takes rfl ht hst).trans ?_
    simp only [cmdFlowAdd, hb, heg, hfree, Nat.max_zero]
    rw [Ans.check_pass _ _ _ ?_, State.deliver_say]
    · rfl
    · have hl' : ∀ l ∈ (parseFlow b).legList, t.portPresent l.port = true ∧ t.portOn l.port = true := by simpa using hl
      have hlim' : ¬ t.limit t.envNow (if eg then 8 else 7) 0 0 < t.heldCount (if eg then 8 else 7) + 1 := Nat.not_lt.2 hlim
      simp only [List.forall_mem_cons, List.not_mem_nil, false_imp_iff, implies_true, and_true]
      simp only [hlen, hz, hspi, hbad, hlim']
      exact ⟨by simpa using fun l hm => (hl' l hm).1, by simpa using fun l hm => (hl' l hm).2, rfl, rfl⟩
  case flowRemove =>
    intro h p i s t ht hst h0 h1 h2 hz hi hu hr hon hlive
    refine (exec_accepts rfl ht hst rfl ?_).trans ?_
    · have hlt : ¬ 1023 < u16 p 2 := by omega
      have hon' : (t.flow i).ports.any (fun q => !t.portOn q) = false := by simpa using hon
      have h0' : ¬ 1 < u8 p 0 := by omega
      simp only [beq_iff_eq] at hlive
      simp only [beq_iff_eq, ← hi, hon', hlive, hlt, h0', h1, hz, hu, hr]
      simp
    · rw [hi]; simp only [beq_iff_eq]; rfl
  case substPolicy =>
    intro h p i s t ht hst hn h4 hb h5 h6 hz hnr hnd
    refine (exec_takes rfl ht hst).trans ?_
    simp only [cmdSubstPolicy, hn, Nat.max_zero]
    have hb' : (u8 p 4 == 2 && !(t.contract i).d.srcs.any (fun e => e.backup)) = false := by
      by_cases h2 : u8 p 4 = 2
      · rw [hb h2]; simp
      · simp [h2]
    rw [Ans.check_pass _ _ _ (by simp only [hb']; simp [h4, h5, h6, hz, hnr, hnd])]
    split
    · rfl
    · rw [State.deliver_say]
  case refSelect =>
    intro h p s t ht hst hp ha ho hb hc hr hs
    simp only [State.wr_tick]
    refine exec_accepts rfl ht hst rfl ?_
    have hr' : ((parseRefSel p).rate != t.rate && !t.live.isEmpty) = false := by rcases hr with hr | hr <;> simp [hr]
    have hs' : ((parseRefSel p).setTick && decide (t.mode = 4) && !(parseRefSel p).stepOk) = false := by
      rcases hs with hs | hs | hs <;> simp [hs]
    simp [hp, ha, ho, hb, hc, hr', hs']
  case tickStatus =>
    intro h s t ht hst
    exact exec_accepts rfl ht hst rfl (by simp [noParams])
  case portApply => exact fun eff p c st s hd => congrArg _ (State.applyDue_single hd rfl)
  case addApply => exact fun eff i st s hd => congrArg _ (State.applyDue_single hd rfl)
  case removeApply => exact fun eff i st s hd => congrArg _ (State.applyDue_single hd rfl)
  case substApply => exact fun eff i pol nr st s hd => congrArg _ (State.applyDue_single hd rfl)
  case policy =>
    intro i pol nr s hst
    refine ⟨_, rfl, ?_⟩
    simp only [State.applySubst, hst, if_false]
    refine ⟨?_, ?_, ?_, ?_⟩
    · rw [State.contract_withStrm, State.contract_updContract_same]
    · rw [State.contract_withStrm, State.contract_updContract_same]
    · rfl
    · rfl

end

section
set_option Elab.async false
/-! Loss and return of SDI inputs and IP flows (R136–R160). -/

namespace Sys2Proof.Machine

/-- A state entered is read back, in any contract other part untouched. -/
theorem State.contract_setCSt_same (s : State) (i : Nat) (st : CSt) :
    (s.setCSt i st).contract i = { s.contract i with st := st, changeTick := s.now } :=
  State.contract_updContract_same s i _

/-- Events and counters leave the contracts. -/
@[simp] theorem State.contract_evt (s : State) (f : Fld) (i : Nat) : (s.evt f).contract i = s.contract i := State.contract_congr (by simp) i

@[simp] theorem State.contract_bump (s : State) (f : Fld) (i : Nat) : (s.bump f).contract i = s.contract i := State.contract_congr (by simp) i

/-- An event set reads 1. -/
theorem State.rd_evt_same (s : State) (f : Fld) (h : fits32 f = true) (hw : f.w ≠ 0) : (s.evt f).rd f = 1 := by
  rw [State.evt, State.rd_wr_same _ _ _ h, Nat.one_mod_eq_one]
  exact fun h1 => hw (by simpa using h1)

end Sys2Proof.Machine

open Sys2Proof Sys2Proof.Machine

/-- Settles O18: the rows by the conditions that select their branch, the contract's own part by reading back the contract written. -/
theorem sourceLossAndReturn : Obligations.SourceLossAndReturn := by
  unfold Obligations.SourceLossAndReturn
  refine ⟨?sdiSignalDetectDrop, ?sdiTrsTimeout, ?sdiLineReceive, ?sdiLineReceive2, ?sdiInputLock, ?flowLossTimeout, ?legLossTimeout, ?ipPacketReceive, ?ipPacketReceive2, ?sourceResume, ?backupSwitch, ?effect, ?effect2⟩
  case sdiSignalDetectDrop =>
    intro port p s h1 h2 h3
    subst h1
    simp [exec, execSdiSignalDetectDrop, h2, h3]
  case sdiTrsTimeout =>
    intro port p s h1 h2 h3
    subst h1
    simp [exec, execSdiTrsTimeout, h2, h3]
  case sdiLineReceive =>
    intro port p x s h1 h2 h3 h4 h5 h6
    subst h1
    simp [exec, execSdiLineReceive, h2, h3, h4, h5, h6]
  case sdiLineReceive2 =>
    intro port p x s h1 h2 h3 h4
    subst h1
    simp [exec, execSdiLineReceive, h2, h3, h4]
  case sdiInputLock =>
    intro port p rate fmt pid s s3 h1 h2 h3 h4 h5 h6 h7 h8 h9
    have hrate : (if (s.port p).kind = 2 then 8 else 1) ≤ rate ∧ rate ≤ 9 := by
      split <;> omega
    have hauto : ((s.port p).auto || rate == (s.port p).txRate) = true := by simpa using h7
    subst h1
    simp only [exec, execSdiInputLock, h2, h3, hrate, hauto, ← h8, h9]
    simp [State.otherFormat]
  case flowLossTimeout =>
    intro i s h1 h2 h3 h4
    simp [exec, execFlowLossTimeout, h1, h2, h3, h4]
  case legLossTimeout =>
    intro i leg s h1 h2 h3 h4 h5 h6
    obtain rfl | rfl : leg = 0 ∨ leg = 1 := by omega
    · simp [exec, execLegLossTimeout, State.legLost, h1, h2, h3, h4, h6, bit, setBit]
    · simp [exec, execLegLossTimeout, State.legLost, h1, h2, h3, h4, h6, bit, setBit]
  case ipPacketReceive =>
    intro port i x s h1 h2 h3 h4 h5 h6 h7 h8 h9 h10 h11 h12
    have hback : s.legBack i x.leg = s := by simp [State.legBack, h8]
    simp only [exec, execIpPacketReceive, hback, h1, h2, h3, h4, h5, h6, h7, h9, h11, h12]
    simp [h10]
  case ipPacketReceive2 =>
    intro port i us x s h1 h2 h3 h4 h5 h6 h7 h8 h9 h10 h11 h12 h13
    have hback : s.legBack i x.leg = s := by simp [State.legBack, h9]
    simp only [exec, execIpPacketReceive, hback, h1, h2, h3, h4, h5, h6, h7, h8, h10, h12, h13]
    simp [h11]
  case sourceResume =>
    intro i k s h1 h2
    simp [exec, execSourceResume, h1, h2]
  case backupSwitch =>
    intro i s h1 h2
    simp [exec, execBackupSwitch, h1, h2]
  case effect =>
    intro i k s h1 h2
    have hl : s.loseSource i k = (s.updContract i (fun c => { c with lost := if c.lost.contains k then c.lost else c.lost ++ [k] })).enterStarved i := by
      simp [State.loseSource, h1]
    rw [hl]
    refine ⟨?_, ?_, ?_⟩
    · simp [State.enterStarved, State.contract_setCSt_same]
    · simp [State.enterStarved, State.contract_setCSt_same, State.contract_updContract_same, h2]
    · rw [State.enterStarved, State.bump, State.rd_wr_other _ _ (by decide), State.rd_evt_same _ _ rfl (by decide)]
  case effect2 =>
    intro i k s h1 h2
    have hl : s.regainSource i k = ((s.updContract i (fun c => { c with lost := [], onBackup := c.onBackup.filter (fun x => x != k) })).setCSt i .active).evt
        Reg.LEDGER.EVENT.RESUMED := by
      simp [State.regainSource, h1, h2]
    rw [hl]
    refine ⟨?_, ?_, State.rd_evt_same _ _ rfl (by decide)⟩
    · simp [State.contract_setCSt_same]
    · simp [State.contract_setCSt_same, State.contract_updContract_same]

end

section
set_option Elab.async false
/-! Modules, port messages, locks lost, and packets over the crossbar (R161–R172). -/

namespace Sys2Proof.Machine

/-- Flags written to distinct registers read back as given. -/
theorem State.isSet_foldl_flag (f : Nat → Fld) (b : Nat → Bool) (hf : ∀ q, fits32 (f q) = true) (hw : ∀ q, (f q).w ≠ 0)
    (hoff : ∀ q r, q ≠ r → (f q).off ≠ (f r).off) :
    ∀ (l : List Nat) (s : State) (q : Nat), l.Nodup → (l.foldl (fun t q => t.flag (f q) (b q)) s).isSet (f q) = if q ∈ l then b q else s.isSet (f q) := by
  intro l
  induction l with
  | nil => intro s q _; simp
  | cons r l ih =>
    intro s q hnd
    obtain ⟨hr, hl⟩ := List.nodup_cons.1 hnd
    rw [List.foldl_cons, ih _ _ hl]
    by_cases hq : q ∈ l
    · simp [hq]
    · by_cases hqr : q = r
      · subst hqr
        have h1 : 1 % 2 ^ (f q).w = 1 := by
          rw [Nat.one_mod_eq_one]; exact fun h => hw q (by simpa using h)
        cases hb : b q <;> simp [hq, State.flag, State.isSet, State.rd_wr_same _ _ _ (hf q), h1]
      · simp [hq, hqr, State.flag, State.isSet, State.rd_wr_other _ _ (hoff q r hqr)]

end Sys2Proof.Machine

open Sys2Proof Sys2Proof.Machine

/-- Settles O19: the rows by the conditions that select their branch; the sample of LOS by induction over the quads. -/
theorem portsAndCrossbar : Obligations.PortsAndCrossbar := by
  unfold Obligations.PortsAndCrossbar
  refine ⟨?moduleInsert, ?moduleRemove, ?moduleRemove2, ?moduleInitDone, ?moduleInitDone2, ?moduleInitDone3, ?moduleInitDone4, ?modLosSample, ?igmpQueryReceive, ?arpRequestReceive, ?linePacketTransfer, ?linePacketTransfer2, ?linePacketTransfer3, ?effect, ?effect2, ?xbarParityFault, ?cdrLockLoss, ?fecLockLoss⟩
  case moduleInsert =>
    intro q s h1 h2
    simp [exec, execModuleInsert, h1, h2]
  case moduleRemove =>
    intro q s s1 h1 h2 h3 h4
    subst h3
    simp [exec, execModuleRemove, h1, h2, h4]
  case moduleRemove2 =>
    intro q p s s1 h1 h2 h3 h4
    subst h3
    simp [exec, execModuleRemove, h1, h2, h4]
  case moduleInitDone =>
    intro q answers r s h1 h2
    simp [exec, execModuleInitDone, h1, h2]
  case moduleInitDone2 =>
    intro q r s h1 h2
    simp [exec, execModuleInitDone, h1, h2]
  case moduleInitDone3 =>
    intro q r s s1 h1 h2 h3 h4
    have hgood : (s1.quadPorts q).filter (fun p => !r.bad.contains p) = s1.quadPorts q :=
      List.filter_eq_self.2 fun p hp => by rw [h4 p hp]; rfl
    have hbad : (s1.quadPorts q).filter (fun p => r.bad.contains p) = [] :=
      List.filter_eq_nil_iff.2 fun p hp => by rw [h4 p hp]; simp
    have hq : ¬ (24 ≤ q ∨ ¬ (s.rd (Reg.STRM.MOD_STATUS.STATE q) = 1 ∨ s.rd (Reg.STRM.MOD_STATUS.STATE q) = 2)) := by omega
    simp only [exec, execModuleInitDone, hq, ← h3, hgood, hbad]
    rfl
  case moduleInitDone4 =>
    intro q r s s1 h1 h2 h3 h4
    have hbad : ((s1.quadPorts q).filter (fun p => r.bad.contains p)).isEmpty = false := by
      obtain ⟨p, hp, hb⟩ := h4
      exact Bool.eq_false_iff.2 fun h => by
        have := List.filter_eq_nil_iff.1 (List.isEmpty_iff.1 h) p hp
        exact this hb
    have hq : ¬ (24 ≤ q ∨ ¬ (s.rd (Reg.STRM.MOD_STATUS.STATE q) = 1 ∨ s.rd (Reg.STRM.MOD_STATUS.STATE q) = 2)) := by omega
    simp only [exec, execModuleInitDone, hq, ← h3, hbad]
    rfl
  case modLosSample =>
    intro los s
    refine ⟨_, rfl, fun q hq => ?_⟩
    rw [State.isSet_foldl_flag (fun q => Reg.STRM.MOD_STATUS.LOS q) (bit los) (fun _ => rfl) (fun _ => Nat.one_ne_zero) _ _ _ _ List.nodup_range]
    · simp [hq]
    · intro q r hqr; simp [Reg.STRM.MOD_STATUS.LOS, Reg.STRM.MOD_STATUS, hqr]
  case igmpQueryReceive =>
    intro port s h1
    simp [exec, execIgmpQueryReceive, h1]
  case arpRequestReceive =>
    intro port kind ip s h1 h2
    subst h2
    simp [exec, execArpRequestReceive, h1]
  case linePacketTransfer =>
    intro src dst room k s h1
    simp_all [exec, execLinePacketTransfer]
  case linePacketTransfer2 =>
    intro src dst room k s h1 h2 h3 h4
    simp_all [exec, execLinePacketTransfer]
  case linePacketTransfer3 =>
    intro src dst sched room p k s h1 h2 h3 h4 h5 h6 h7 h8 h9
    have hoff : s.offered src dst p = { s with strm := { s.strm with xbar := [k] } } := by
      have hc : p.ctx ≠ 0xFFFF := by omega
      have hm : p.ctx % 65536 = p.ctx := Nat.mod_eq_of_lt (by omega)
      simp [State.offered, Nat.not_le.2 h1, h2, h3, h4.1, Nat.not_lt.2 h4.2, h6, h7, h8, h9, hm]
    simp only [exec, execLinePacketTransfer, hoff]
    subst h9
    have hc : (p.ctx != 0xFFFF) = true := by simp; omega
    simp [hc]
  case effect =>
    intro k room s h1
    have hd : ¬ (k.dst < 64 ∧ ¬ room = true) := by
      rcases h1 with h1 | h1
      · omega
      · simp [h1]
    simp only [State.arrive, hd, if_false]
  case effect2 =>
    intro k s h1
    simp [State.arrive, h1]
  case xbarParityFault =>
    intro e s
    rfl
  case cdrLockLoss =>
    intro l s h1
    simp [exec, execCdrLockLoss, h1]
  case fecLockLoss =>
    intro p s h1 h2
    simp [exec, execFecLockLoss, h1, h2]

end

section
set_option Elab.async false
/-! Takes, presets, GPI bindings and tallies (R173–R196). -/

namespace Sys2Proof.Machine

/-- A command the block takes does not ask for twin operation. -/
theorem State.twinApply_of_takes {s : State} {op : Nat} {h : Hdr} (ht : s.takes op h = true) : h.twinApply = false := by
  simp only [State.takes, Bool.and_eq_true, Bool.not_eq_true'] at ht
  exact ht.2

end Sys2Proof.Machine

open Sys2Proof Sys2Proof.Machine

/-- Settles O20: every refusal is ruled out in turn; the apply rows apply the one change due. -/
theorem takesAndPresets : Obligations.TakesAndPresets := by
  unfold Obligations.TakesAndPresets
  refine ⟨?take, ?takeAbort, ?presetArm, ?presetDisarm, ?gpiBind, ?tallySet, ?presetArmApply, ?presetDisarmApply, ?gpiBindApply, ?tallySetApply⟩
  case take =>
    intro h p i s t ht hst h3 h4 h5 h6 h7 h8 h9
    have htw := State.twinApply_of_takes ht
    refine (exec_takes rfl ht hst).trans ?_
    simp only [cmdTake, h4, htw, Option.getD_some, Bool.false_and, Bool.false_eq_true, if_false]
    rw [Ans.check_pass _ _ _ (by simp [h3, h5, h6, h7, h8, h9]), State.deliver_say]
  case takeAbort =>
    intro h p i x s t ht hst h3 h4 h5 h6 h7 h8 h9
    have htw := State.twinApply_of_takes ht
    refine (exec_takes rfl ht hst).trans ?_
    simp only [cmdTakeAbort, h4, htw, Option.bind_some, Bool.false_and, h9]
    rw [Ans.check_pass _ _ _ (by simp [h3, h5, h6, h7, h8])]
    rfl
  case presetArm =>
    intro h p i j ws e f s t ht hst h3 h4 h5 h6 h7 h8 h9 h10 h11 h12 h13 h14 h15 h16 h17 h18 h19 h20 h21 h22 h23 h24 h25 h26 h27 h28 h29
    have hw1 : ¬ u16 p 10 < 8 := by omega
    have hw2 : ¬ 256 < u16 p 10 := by omega
    have hs1 : ¬ ws < 16 := by omega
    have hs2 : ¬ 1024 < ws := by omega
    have htr : ¬ 2 < u8 p 5 := by omega
    have hpat : (u8 p 5 != 2 && u8 p 6 != 0) = false := by rcases h15 with h | h <;> simp [h]
    have hdur : (if u8 p 5 = 0 then u16 p 8 != 0 else u16 p 8 == 0 || decide (999 < u16 p 8)) = false := by
      rcases h16 with ⟨ha, hb⟩ | ⟨ha, hb, hc⟩
      · simp [ha, hb]
      · simp only [ha, if_false, Bool.or_eq_false_iff, beq_eq_false_iff_ne, decide_eq_false_iff_not]; omega
    have hcnt : ¬ 256 ≤ t.armCount := by omega
    have hend : (decide (u8 p 4 < (t.contract j).d.dsts.length) && f == e) = true := by simp [h19, h20]
    refine (exec_takes rfl ht hst).trans ?_
    simp only [cmdPresetArm, h4, h5, Option.getD_some, ← h6, ← h7, ← h10, h21, Nat.max_zero]
    rw [Ans.check_pass _ _ _ ?_, State.deliver_say]
    · rfl
    · simp only [h3, hw1, hw2, h13, hs1, hs2, htr, hpat, hdur, h17, h18, hend, h22, h23, h24, h25, h26, hcnt]
      simp [h27, h28]
  case presetDisarm =>
    intro h p i s t ht hst h3 h4 h5 h6 h7 h8 h9
    refine (exec_takes rfl ht hst).trans ?_
    simp only [cmdPresetDisarm, h3, h4, h5, h7, h8, Nat.max_zero]
    rw [Ans.check_pass _ _ _ (by simp [h6, h9]), State.deliver_say]
  case gpiBind =>
    intro h p b s t ht hst h3 h4 h5 h6 h7 h8 h9 h10
    have hz : bit (u8 p 3) 0 = false := by rw [h6]; rfl
    refine (exec_takes rfl ht hst).trans ?_
    simp only [cmdGpiBind, hz, ← h10]
    rw [Ans.check_pass _ _ _ ?_, State.deliver_say]
    subst h10
    simp [h3, h4, h5, h6, h7, h8, h9]
  case tallySet =>
    intro h p s t ht hst h3 h4 h5 h6 h7 h8 h9
    have hid : (if u8 p 1 ≤ 1 then u32 p 4 != 0 else (t.findContract (u32 p 4)).isNone) = false := by
      rcases h9 with ⟨ha, hb⟩ | ⟨ha, hb⟩
      · simp [ha, hb]
      · have : ¬ u8 p 1 ≤ 1 := by omega
        rw [if_neg this, Option.isNone_eq_false_iff]; exact hb
    refine (exec_takes rfl ht hst).trans ?_
    simp only [cmdTallySet, hid, Nat.max_zero]
    rw [Ans.check_pass _ _ _ (by simp [h3, h4, h5, h6, h7, h8]), State.deliver_say]
  case presetArmApply =>
    intro eff i k tr pat dur w ws st s s1 h1 h2 h3 h4 h5
    have hone : s.undue.applyOne ⟨eff, .arm i k tr pat dur w ws, st⟩ =
        (s1.updContract i (fun c => { c with charges := s1.redemand i c.d.subst })).updTallies := by
      rw [h5]; exact if_pos ⟨h2, h3, h4⟩
    exact congrArg _ ((State.applyDue_single h1 rfl).trans (congrArg State.settle hone))
  case presetDisarmApply =>
    intro eff i k role st s h1 h2
    have hone : s.undue.applyOne ⟨eff, .disarm i, st⟩ = ((s.undue.rollback k).applyRelease i).updTallies := by
      have hr : s.undue.roleOf i 0 = some (k, role) := h2
      simp [State.applyOne, State.applyDisarm, hr]
    exact congrArg _ ((State.applyDue_single h1 rfl).trans (congrArg State.settle hone))
  case gpiBindApply =>
    intro eff g b st s h1
    refine ⟨s.undue.applyBind g b, congrArg Host.Outcome.next (State.applyDue_single h1 rfl), ?_, ?_, rfl⟩
    · exact SMap.get_set_same _ _ _ _
    · exact fun k hk => SMap.get_set_other _ _ _ hk
  case tallySetApply =>
    intro eff g b st s h1
    exact congrArg _ (State.applyDue_single h1 rfl)

end

section
set_option Elab.async false
/-! Run-ahead, cutoff, landing, rollback and takes on a twin (R175–R190). -/

namespace Sys2Proof.Machine

/-- A switchable egress written reads as it was written. -/
theorem State.egress_updEgress_same (s : State) (k : Nat) (f : Egress → Egress) : (s.updEgress k f).egress k = f (s.egress k) :=
  SMap.get_set_same _ _ _ _

theorem State.egress_congr {s t : State} (h : t.take = s.take) (k : Nat) : t.egress k = s.egress k := by
  simp only [State.egress, h]

/-- The two marks a landing leaves on what runs below the egress touch neither the takes nor the registers. -/
theorem State.keepSpec_strobe_take (s : State) (kind k : Nat) : ((s.strobe kind k).keepSpec k).take = s.take := rfl

theorem State.keepSpec_strobe_regs (s : State) (kind k : Nat) : ((s.strobe kind k).keepSpec k).regs = s.regs := rfl

/-- The switchable egress a landing leaves (R185). -/
def Egress.landed (e : Egress) (edge : Int) (dur : Nat) (held : List (Nat × Nat)) : Egress :=
  { e with program := e.preset, preset := e.program, spec := none, buffer := if e.spec.isSome then 1 - e.buffer else e.buffer,
           turn := e.turn != e.spec.isSome, running := dur, swaps := (edge :: e.swaps).take 256, heldBy := held }

/-- What a landing leaves before its event: the take gone, the egress swapped, the registers as they were. -/
def State.landedAt (s : State) (t : PTake) : State :=
  let k := egKey t.idx t.dst
  let e := s.egress k
  let held := [t.idx, e.preset - 1, e.program - 1].filter (fun i => (s.contract i).st == .held)
  (((s.setTakes (s.take.pend.erase t)).strobe 2 k).keepSpec k).updEgress k
    (fun e => e.landed s.tick.edge t.dur (held.map (fun i => (i, (s.contract i).changeTick))))

theorem State.land_of_noEngines {s : State} {t : PTake} (h : s.downEngines (egKey t.idx t.dst) = []) :
    s.land t = (((((s.landedAt t).evt Reg.TAKE.EVENT.LANDED).bump Reg.TAKE.COUNT.LANDED_CNT).wr Reg.TAKE.LAST.INDEX t.idx).wr
      Reg.TAKE.LAST.DST t.dst).wr Reg.TAKE.LAST.TICK s.now := by
  have hd : (s.setTakes (s.take.pend.erase t)).downEngines (egKey t.idx t.dst) = [] := h
  simp only [State.land, hd, List.foldl_nil]
  rfl

theorem State.landedAt_regs (s : State) (t : PTake) : (s.landedAt t).regs = s.regs := rfl

theorem State.landedAt_egress (s : State) (t : PTake) : ∃ e held, e = s.egress (egKey t.idx t.dst) ∧
    (s.landedAt t).egress (egKey t.idx t.dst) = e.landed s.tick.edge t.dur held :=
  ⟨_, _, rfl, State.egress_updEgress_same _ _ _⟩

end Sys2Proof.Machine

open Sys2Proof Sys2Proof.Machine

/-- Settles O21: the rows by the conditions that select their branch; a landing is read back field by field. -/
theorem runAheadAndLanding : Obligations.RunAheadAndLanding := by
  unfold Obligations.RunAheadAndLanding
  refine ⟨?runaheadStart, ?runaheadStart2, ?takeCutoff, ?takeCutoff2, ?takeLanding, ?effect, ?effect2, ?gpiEdgeConfirm, ?gpiEdgeConfirm2, ?twinTakeReceive, ?twinTakeReceive2, ?twinTakeAnswerReceive, ?twinTakeConfirmReceive⟩
  case runaheadStart =>
    intro k t s h1 h2 h3 h4 h5 h6
    simp_all [exec, execRunaheadStart]
  case runaheadStart2 =>
    intro k s h1 h2 h3 h4 h5 h6
    simp_all [exec, execRunaheadStart]
  case takeCutoff =>
    intro k t s h1 h2 h3 h4 h5
    simp [exec, execTakeCutoff, h1, State.cutoffOne, h2, h3, h4, h5]
  case takeCutoff2 =>
    intro k tr s h1 h2 h3 h4
    have hm : s.take.egress.map (·.1) = [k] := h1
    simp [exec, execTakeCutoff, hm, State.cutoffOne, h2, h3, h4]
  case takeLanding =>
    intro t s h1
    simp only [exec, execTakeLanding, h1]
    rfl
  case effect =>
    intro t s h1
    obtain ⟨e, held, he, hland⟩ := s.landedAt_egress t
    have hpend : (s.landedAt t).take.pend = s.take.pend.erase t := rfl
    rw [State.land_of_noEngines h1, State.egress_congr (s := s.landedAt t) (by simp), hland, ← he]
    refine ⟨rfl, rfl, rfl, by simp [hpend], ?_⟩
    simp (disch := decide) only [State.evt, State.bump, State.rd_wr_other, State.rd_wr_apart, State.rd_wr_same, State.rd_congr (s.landedAt_regs t)]
    exact ⟨rfl, trivial, trivial, trivial, trivial⟩
  case effect2 =>
    intro k w s h1 h2
    simp [State.rollback, h1, h2]
  case gpiEdgeConfirm =>
    intro g tick slot rise s h1 h2
    simp [exec, execGpiEdgeConfirm, h1, h2]
  case gpiEdgeConfirm2 =>
    intro g tick slot i rise b s s2 h1 h2 h3 h4 h5 h6 h7 h8 h9
    subst h2 h8
    simp [exec, execGpiEdgeConfirm, h1, h3, h4, h5, h6, h7, h9]
  case twinTakeReceive =>
    intro id dst tick trans i s h1 h2 h3 h4 h5 h6 h7
    simp [exec, execTwinTakeReceive, h1, h2, h3, h4, h5, h6, h7]
  case twinTakeReceive2 =>
    intro id dst tick trans abort s h1
    simp [exec, execTwinTakeReceive, h1]
  case twinTakeAnswerReceive =>
    intro id dst tick t h s h1 h2
    simp [exec, execTwinTakeAnswerReceive, execTwinTakeAnswerTimeout, h1, h2]
  case twinTakeConfirmReceive =>
    intro id dst tick t s h1 h2
    simp [exec, execTwinTakeConfirmReceive, execTwinTakeWithdrawReceive, h1, h2]

end

section
set_option Elab.async false
/-! The engine commands (R230–R236). -/

namespace Sys2Proof.Machine

theorem State.engine_congr {s t : State} (h : t.eng = s.eng) (e : Nat) : t.engine e = s.engine e := by
  simp only [State.engine, h]

/-- A field of another register than the one put keeps its value. -/
theorem State.rd_setReg_other (s : State) {o : Nat} {g : Fld} (v : Word) (h : g.off ≠ o) : (s.setReg o v).rd g = s.rd g := by
  simp only [State.rd, State.reg_setReg_other _ _ h]

@[simp] theorem State.engine_setReg (s : State) (o : Nat) (v : Word) (e : Nat) : (s.setReg o v).engine e = s.engine e := rfl

theorem engStatus_ne_wdog (e : Nat) : Reg.ENG.STATUS e ≠ Reg.ENG.WDOG e := by simp [Reg.ENG.STATUS, Reg.ENG.WDOG]

/-- An engine that starts to run or is loaded orphans nothing. -/
theorem State.setEngState_of_keeps (s : State) (e x : Nat) (h : x = engLoaded ∨ x = engRunning ∨ x = engHalted) :
    s.setEngState e x = s.wr (Reg.ENG.STATUS.STATE e) x := by
  rcases h with rfl | rfl | rfl <;> rfl

end Sys2Proof.Machine

open Sys2Proof Sys2Proof.Machine

/-- Settles O28: every refusal is ruled out in turn; a start and a load are read back from the engine and its registers. -/
theorem engineCommands : Obligations.EngineCommands := by
  unfold Obligations.EngineCommands
  refine ⟨?engineLoad, ?engineStart, ?engineStop, ?engineStatus, ?engineStartApply, ?engineStopApply, ?effect, ?effect2⟩
  case engineLoad =>
    intro h p b s t ht hst h3 h4 h5 h6 h7 h8 h9 h10 h11 h12 h13
    have hst1 : (engRange (u16 p 12) (u8 p 14)).any (fun e => t.engState e == engRunning || t.engState e == engHalted) = false := by
      simpa using fun e he => ⟨(h13 e he).1, (h13 e he).2.1⟩
    have hcon : (engRange (u16 p 12) (u8 p 14)).any (fun e => (t.engContract e).isSome) = false := by
      simpa using fun e he => (h13 e he).2.2
    have hcost : (u16 p 16 != 0 && !t.costKnown (u16 p 16)) = false := by rcases h12 with h | h <;> simp [h]
    refine (exec_takes rfl ht hst).trans ?_
    simp only [cmdEngineLoad, h3]
    rw [Ans.check_pass _ _ _ (by simp [h4, h5]), Ans.check_pass _ _ _ ?_, State.deliver_say]
    simp only [h6, h7, h8, h11, hcost, hst1, hcon, h10]
    simp [← h10, h9]
  case engineStart =>
    intro h p s u ht hst h3 h4 h5 h6 h7 h8 h9 h10
    have hany : (engRange (u16 p 0) (u8 p 2)).any (fun e => (u.engState e != engLoaded && u.engState e != engStopped) || (u.engContract e).isSome) = false := by
      rw [List.any_eq_false]
      intro e he
      obtain ⟨hs | hs, hc⟩ := h10 e he <;> simp [hs, hc]
    have hw : ¬ u32 p 4 = 0 := by omega
    refine (exec_takes rfl ht hst).trans ?_
    simp only [cmdEngineStart, Nat.max_zero]
    rw [Ans.check_pass _ _ _ ?_, State.deliver_say]
    simp only [h3, h4, h5, hany, h9]
    simp [h6, hw, h8]
  case engineStop =>
    intro h p s u ht hst h3 h4 h5 h6 h7 h8
    have hany : (engRange (u16 p 0) (u8 p 2)).any (fun e => (u.engContract e).isSome) = false := by
      simpa using h8
    refine (exec_takes rfl ht hst).trans ?_
    simp only [cmdEngineStop, Nat.max_zero]
    rw [Ans.check_pass _ _ _ ?_, State.deliver_say]
    simp only [h3, h4, h5, hany, h6, h7]
    simp
  case engineStatus =>
    intro h p s t ht hst h3 h4 h5 h6
    have h255 : ¬ 255 < u16 p 0 := by omega
    have hdom : ¬ t.dom (5 + u16 p 0 / 32) < 2 := by omega
    exact exec_accepts rfl ht hst rfl (by simp [h4, hdom, h6, h255])
  case engineStartApply =>
    intro eff e w st s h1
    exact congrArg _ (State.applyDue_single h1 rfl)
  case engineStopApply =>
    intro eff e st s h1
    exact congrArg _ (State.applyDue_single h1 rfl)
  case effect =>
    intro e w s h1 h2 h3
    simp only [State.engStart, h1, h2, and_self, if_true, State.setEngState_of_keeps _ _ _ (Or.inr (Or.inl rfl))]
    refine ⟨?_, ?_, ?_, State.reg_setReg_same _ _ _, ?_, ?_, ?_⟩
    · rw [State.engState, State.rd_setReg_other _ _ (engStatus_ne_wdog e), State.rd_wr_apart _ _ rfl (Or.inl (of_decide_eq_true rfl)),
        State.rd_wr_apart _ _ rfl (Or.inl (of_decide_eq_true rfl)), State.rd_wr_same _ _ _ rfl]
      rfl
    · rw [State.engPc, State.rd_setReg_other _ _ (engStatus_ne_wdog e), State.rd_wr_apart _ _ rfl (Or.inr (of_decide_eq_true rfl)), State.rd_wr_same _ _ _ rfl]
      rfl
    · rw [State.inHandler, State.isSet, State.rd_setReg_other _ _ (engStatus_ne_wdog e), State.rd_wr_same _ _ _ rfl]
      rfl
    · simp
    · simp
    · simp
  case effect2 =>
    intro e desc b s h1
    simp only [State.engLoad, State.setEngState_of_keeps _ _ _ (Or.inl rfl)]
    refine ⟨?_, ?_, ?_⟩
    · rw [State.engState, State.rd_wr_apart _ _ rfl (Or.inl (of_decide_eq_true rfl)), State.rd_wr_apart _ _ rfl (Or.inl (of_decide_eq_true rfl)), State.rd_wr_same _ _ _ rfl]
      rfl
    · rw [State.engPc, State.rd_wr_same _ _ _ rfl]
      rfl
    · simp

end

section
set_option Elab.async false
/-! The engine events (R213–R229). -/

namespace Sys2Proof.Machine

theorem Eng.cycled_of_idle {x : Eng} (h : x.fly = []) : x.cycled = x := by
  cases x
  subst h
  rfl

/-- With no result in flight a cycle lands nothing. -/
theorem State.engCycle_of_idle {s : State} {e : Nat} (h : (s.engine e).fly = []) : s.engCycle e = s.setEngine e (s.engine e) := by
  rw [State.engCycle_eq, Eng.cycled_of_idle h, h]
  rfl

@[simp] theorem State.rd_engRaise (s : State) (e i : Nat) (f : Fld) : (s.engRaise e i).rd f = s.rd f := rfl

@[simp] theorem State.engine_engRaise (s : State) (e i : Nat) :
    (s.engRaise e i).engine e = { s.engine e with pend := setBit (s.engine e).pend i } := by
  simp [State.engRaise]

/-- A bit set reads set. -/
theorem bit_setBit (v i : Nat) : bit (setBit v i) i = true := by
  unfold setBit
  split
  · assumption
  · rename_i h
    have hodd : v / 2 ^ i % 2 ≠ 1 := by simpa [bit] using h
    simp only [bit, Nat.add_div_right _ (Nat.two_pow_pos i), beq_iff_eq]
    omega

theorem State.foldl_setReg_eng (l : List (Nat × Word)) : ∀ s : State, (l.foldl (fun t r => t.setReg r.1 r.2) s).eng = s.eng := by
  induction l with
  | nil => exact fun s => rfl
  | cons r l ih => exact fun s => ih _

@[simp] theorem State.engine_setDmaQueue (s : State) (k : Nat) (l : List DmaDesc) (e : Nat) : (s.setDmaQueue k l).engine e = s.engine e := rfl

/-- A rollback of the DMA queue leaves what is not speculative, and no engine. -/
theorem State.dmaRestore_eng (s : State) (e : Nat) (c : Checkpoint) :
    (s.dmaRestore e c).eng = (s.setDmaQueue e ((s.dmaQueue e).filter (fun d => !d.spec))).eng := by
  simp only [State.dmaRestore, State.flag, State.wr_eng, State.foldl_setReg_eng]

theorem State.dmaQueue_congr {s t : State} (h : t.eng = s.eng) (e : Nat) : t.dmaQueue e = s.dmaQueue e := by
  simp only [State.dmaQueue, h]

theorem State.dmaQueue_engRaise (s : State) (k i e : Nat) : (s.engRaise k i).dmaQueue e = s.dmaQueue e := rfl

theorem State.dmaQueue_wr (s : State) (f : Fld) (v e : Nat) : (s.wr f v).dmaQueue e = s.dmaQueue e := rfl

theorem State.dmaQueue_setDmaQueue_same (s : State) (e : Nat) (l : List DmaDesc) : (s.setDmaQueue e l).dmaQueue e = l :=
  SMap.get_set_same _ _ _ _

/-- A candidate noted leaves the clusters' events. -/
theorem State.rd_addCand_march (s : State) (n b k src : Nat) (c : Nat) :
    (s.addCand n b k src).rd (Reg.CLU.EVENT.MARCH_FAIL c) = s.rd (Reg.CLU.EVENT.MARCH_FAIL c) := by
  simp only [State.addCand]
  split
  · rfl
  · split
    · refine (State.rd_wr_other _ _ ?_).trans rfl
      simp only [Reg.CLU.EVENT.MARCH_FAIL, Reg.CLU.EVENT, Reg.BIST.EVENT.CAND_OVF, Reg.BIST.EVENT]
      omega
    · rfl

/-- The handler's part of an interrupt taken: the bank, the vector and, for an exception, its count. -/
def State.entered (s : State) (e v pc : Nat) : State :=
  let s2 := (s.wr (Reg.ENG.STATUS.HANDLER e) 1).wr (Reg.ENG.STATUS.PC e) pc
  if v ≤ 1 then s2.bump (Reg.ENG.COUNT.EXC_CNT e) else s2

theorem State.entered_eng (s : State) (e v pc : Nat) : (s.entered e v pc).eng = s.eng := by
  unfold State.entered; dsimp only; split <;> simp

theorem engStatus_ne_count (e : Nat) : Reg.ENG.STATUS e ≠ Reg.ENG.COUNT e := by simp [Reg.ENG.STATUS, Reg.ENG.COUNT]

theorem State.entered_pc (s : State) (e v pc : Nat) : (s.entered e v pc).engPc e = pc % 2 ^ 11 := by
  have h : ((s.wr (Reg.ENG.STATUS.HANDLER e) 1).wr (Reg.ENG.STATUS.PC e) pc).engPc e = pc % 2 ^ 11 := State.rd_wr_same _ _ _ rfl
  unfold State.entered
  dsimp only
  split
  · exact (State.rd_wr_other _ _ (engStatus_ne_count e)).trans h
  · exact h

theorem State.entered_handler (s : State) (e v pc : Nat) : (s.entered e v pc).inHandler e = true := by
  have h : ((s.wr (Reg.ENG.STATUS.HANDLER e) 1).wr (Reg.ENG.STATUS.PC e) pc).rd (Reg.ENG.STATUS.HANDLER e) = 1 := by
    rw [State.rd_wr_apart _ _ rfl (Or.inl (of_decide_eq_true rfl)), State.rd_wr_same _ _ _ rfl]
    rfl
  unfold State.entered State.inHandler State.isSet
  dsimp only
  split
  · rw [State.bump, State.rd_wr_other _ _ (engStatus_ne_count e), h]; rfl
  · rw [h]; rfl

end Sys2Proof.Machine

open Sys2Proof Sys2Proof.Machine

/-- Settles O29: each row takes its branch, and the engine, its queue and its registers are read back. -/
theorem engineEvents : Obligations.EngineEvents := by
  unfold Obligations.EngineEvents
  refine ⟨?interruptEntry, ?engineCheckpoint, ?engineCommit, ?engineCommit2, ?engineRollback, ?engineWatchdogDeadline, ?marchGroup⟩
  case interruptEntry =>
    intro e v s h1 h2 h3 h4 h5
    have hex : exec (.interruptEntry e) s = .next (((s.setEngine e { s.engine e with
        epc := s.engPc e, exc := if v = 0 then none else (s.engine e).exc,
        pend := if v = 0 then (s.engine e).pend else clrBit (s.engine e).pend (v - 1), wait := false }).entered e v ((s.engine e).vec + 4 * v)).engCycle e) := by
      simp only [exec, execInterruptEntry, h1, h2, h3, h4, and_self, if_true]
      rfl
    rw [hex, State.engCycle_of_idle (by rw [State.engine_congr (State.entered_eng _ _ _ _)]; simpa using h5)]
    refine ⟨_, rfl, State.entered_pc _ _ _ _, State.entered_handler _ _ _ _, ?_⟩
    rw [State.engine_setEngine_same, State.engine_congr (State.entered_eng _ _ _ _), State.engine_setEngine_same]
    exact ⟨rfl, rfl, fun hv => if_pos hv, fun hv => if_neg hv⟩
  case engineCheckpoint =>
    intro e s h1 h2 h3 h4 h5
    have hex : exec (.engineCheckpoint e) s = .next ((((s.engDrain e).updEngine e
        (fun y => { y with ask := false, chk := some ((s.engDrain e).checkpoint e), writ := [] })).wr (Reg.ENG.STATUS.SPEC e) 1)) := by
      simp [exec, execEngineCheckpoint, h1, h2, h3, h4, h5]
    refine ⟨_, hex, ?_, ?_, ?_, ?_⟩
    · rw [State.inSpec, State.isSet, State.rd_wr_same _ _ _ rfl]; rfl
    all_goals simp
  case engineCommit =>
    intro e s h1
    refine ⟨_, congrArg Host.Outcome.next (if_pos h1), ?_⟩
    dsimp only
    refine ⟨?_, ?_⟩
    · rw [State.inSpec, State.isSet, State.rd_engRaise, State.rd_wr_same _ _ _ rfl]; rfl
    · simp only [State.engine_engRaise, State.engine_wr, State.engine_updEngine_same, State.engine_setDmaQueue, bit_setBit, true_and]
      exact State.dmaQueue_setDmaQueue_same _ _ _
  case engineCommit2 =>
    intro e s h1
    exact congrArg Host.Outcome.next (if_neg (by simp [h1]))
  case engineRollback =>
    intro e c s h1 h2 h3 h4 h5
    have hc : (s.engine e).rollback = true ∧ s.inSpec e = true ∧ ¬ s.inHandler e = true ∧ (s.engine e).atom = 0 := by simp [h2, h3, h4, h5]
    simp only [exec, execEngineRollback, h1, if_pos hc]
    refine ⟨_, rfl, ?_, ?_, ?_⟩
    · rw [State.inSpec, State.isSet, State.rd_engRaise, State.rd_wr_same _ _ _ rfl]; rfl
    · rw [State.engPc, State.rd_engRaise, State.rd_wr_apart _ _ rfl (Or.inr (of_decide_eq_true rfl)), State.rd_wr_same _ _ _ rfl]; rfl
    · simp only [State.engine_engRaise, State.engine_wr, State.engine_congr (State.dmaRestore_eng _ _ _), State.engine_setDmaQueue,
        State.engine_setEngine_same, true_and]
      rw [State.dmaQueue_engRaise, State.dmaQueue_wr, State.dmaQueue_wr, State.dmaQueue_congr (State.dmaRestore_eng _ _ _), State.dmaQueue_setDmaQueue_same]
      rfl
  case engineWatchdogDeadline =>
    intro e s h1 h2 h3 h4
    simp only [exec, execEngineWatchdogDeadline, h1, h2, h3, h4, and_self, if_true]
    split <;> rfl
  case marchGroup =>
    intro c s h1 h2
    have hc : c < s.nClusters ∧ (s.dom (5 + c) = 3 ∨ s.dom (5 + c) = 2) := ⟨h1, h2⟩
    refine ⟨?_, fun b r k => ?_⟩
    · simp only [exec, execMarchGroup, if_pos hc]
    · simp only [exec, execMarchGroup, if_pos hc]
      refine ⟨_, rfl, ?_⟩
      rw [State.isSet, State.rd_addCand_march, State.rd_evt_same _ _ rfl (of_decide_eq_true rfl)]; rfl

end

section
set_option Elab.async false
/-! Staging, planning and the stages of a molt (R290–R312). -/

namespace Sys2Proof.Machine

/-- What a check in an abandoned molt leaves: nothing pending, the stages from the next on (R307). -/
theorem State.ceaseHolds_molt (c : HoldCause) (l : List Nat) : ∀ s : State, (l.foldl (fun t i => t.ceaseHold i c) s).molt = s.molt := by
  induction l with
  | nil => exact fun s => rfl
  | cons i l ih => exact fun s => (ih _).trans rfl
theorem State.moltUnmute_molt (s : State) : s.moltUnmute.molt = s.molt := by simp [State.moltUnmute]

end Sys2Proof.Machine

open Sys2Proof Sys2Proof.Machine

/-- Settles O31: every refusal of the commands is ruled out in turn, and each event takes its branch. -/
theorem stagingAndMolt : Obligations.StagingAndMolt := by
  unfold Obligations.StagingAndMolt
  refine ⟨?imageStage, ?imageStage2, ?stagingEnd, ?moltPlan, ?moltCommit, ?moltStageCheck, ?moltStageSwap, ?staggerHandover, ?staggerHandover2, ?staggerMatchComplete⟩
  case imageStage =>
    intro h p s t ht hst h3 h4 h5 h6 h7
    refine (exec_takes rfl ht hst).trans ?_
    simp only [cmdImageStage, if_pos h3]
    rw [Ans.check_pass _ _ _ (by simp [h4, h5, h6, h7])]
    rfl
  case imageStage2 =>
    intro h p a len mask r s u ht hst h3 h4 h5 h6 h7 h8 h9 h10 h11 h12 h13 h14 h15 h16 h17 h18 h19 h20
    have hm : mask / 2 ^ u.nTiles = 0 := Nat.div_eq_of_lt h15
    have hoff : (maskTiles mask).any (fun t => decide (t < u.nTiles) && !u.domOn (13 + t / 4)) = false := by
      simpa using h9
    have hstrong : (u.isSet (Reg.PMAP.REG_LO.CODE r) && u.rd (Reg.PMAP.REG_LO.STATE r) == 2 &&
        decide (a + len ≤ (u.rd (Reg.PMAP.REG_LO.BASE r) + u.rd (Reg.PMAP.REG_HI.SIZE r)) * 2 ^ 24)) = true := by
      rw [h11, h12, decide_eq_true h13]; rfl
    have hlack : ((maskTiles mask).any (fun t => !((imgTable (u.dramImage a)).any (fun x => x.typ == 1 && x.arg == t))) ||
        (bit (u8 p 23) 0 && !((imgTable (u.dramImage a)).any (fun x => x.typ == 1 && x.arg == 0xFF)))) = false := by
      rw [Bool.or_eq_false_iff, List.any_eq_false]
      refine ⟨fun t ht => by rw [h16 t ht]; simp, ?_⟩
      cases hb : bit (u8 p 23) 0
      · rfl
      · rw [h17 hb]; rfl
    have hstore : ¬ u.storeBase < a + len := Nat.not_lt.2 h14
    refine (exec_takes rfl ht hst).trans ?_
    simp only [cmdImageStage, ← h3, ← h4, ← h5, if_neg h6, h8, hoff, h10, Option.any_some, hstrong, hlack, Bool.and_false]
    rw [Ans.check_pass _ _ _ ?_]
    · cases u.imgCheck (u.dramImage a) len <;> rfl
    · simp [h7, hm, hstore, h18, h19, h20]
  case stagingEnd =>
    intro s h1
    simp only [exec, execStagingEnd, h1, ne_eq, not_true_eq_false, if_false]
    cases sectsCheck (s.dramImage s.molt.addr) (s.stagedSects (s.dramImage s.molt.addr)) <;> rfl
  case moltPlan =>
    intro h p b s t ht hst h3 h4 h5 h6 h7 h8
    have hs : bit 0 0 = false := rfl
    refine (exec_takes rfl ht hst).trans ?_
    simp only [cmdMoltPlan, ← h8, h3, h7, hs]
    rw [Ans.check_pass _ _ _ (by simp [h4, h5, h6])]
    split <;> rfl
  case moltCommit =>
    intro h p s t ht hst h3 h4 h5 h6 h7 h8 h9 h10 h11
    have hs : bit 0 0 = false := rfl
    have hmode : (t.mode != 3 && t.mode != 4) = false := by rcases h3 with h | h <;> simp [h]
    refine (exec_takes rfl ht hst).trans ?_
    simp only [cmdMoltCommit, h4, hs, hmode]
    rw [Ans.check_pass _ _ _ (by simp [h5, h6, h7, h8, h9, h10, h11])]
    rfl
  case moltStageCheck =>
    intro s h1 h2
    have hc : ¬ (¬ s.ownStages = true ∨ s.now + 1 ≠ s.molt.tick ∨ false = true) := by simp [h1, h2]
    refine ⟨if_pos (Or.inr (Or.inr rfl)), fun hl => ?_, fun hl => ?_⟩
    · simp only [exec, execMoltStageCheck, if_neg hc, if_neg hl]
    · simp only [exec, execMoltStageCheck, if_neg hc, if_pos hl]
      refine ⟨_, rfl, ?_, ?_, ?_, ?_⟩
      · simp (disch := decide) only [State.isSet, State.evt, State.rd_wr_other, State.rd_wr_apart, State.rd_wr_same]
        rfl
      · simp (disch := decide) only [State.evt, State.rd_wr_other, State.rd_wr_apart, State.rd_wr_same]
        rfl
      · rw [State.isSet, State.rd_evt_same _ _ rfl (by decide)]
        rfl
      · simp only [State.evt_molt, State.wr_molt]
        split
        · rw [State.moltUnmute_molt, State.ceaseHolds_molt]
        · rw [State.ceaseHolds_molt]
  case moltStageSwap =>
    intro s h1 h2 h3 h4
    have hc : ¬ (¬ s.ownStages = true ∨ s.molt.tick ≠ s.now) := by simp [h1, h2]
    simp only [exec, execMoltStageSwap, if_neg hc, h3, h4, List.filter_nil, List.foldl_nil]
    split <;> rfl
  case staggerHandover =>
    intro s h1 h2 h3
    simp [exec, execStaggerHandover, h1, h2, h3]
  case staggerHandover2 =>
    intro s h1 h2 h3 h4
    simp [exec, execStaggerHandover, h1, h2, h3, h4]
  case staggerMatchComplete =>
    intro s h1 h2
    have hc : ¬ (s.rd Reg.MOLT.STATUS.STAGGER < 2 ∨ s.isSet Reg.MOLT.STATUS.COMMIT_PEND = true) := by
      rw [h2]; simp; omega
    simp only [exec, execStaggerMatchComplete, if_neg hc]
    split <;> rfl

end

section
set_option Elab.async false
/-! Scrubbing (R313–R320). -/

namespace Sys2Proof.Machine

theorem State.nTiles_le (s : State) : s.nTiles ≤ 56 := by
  unfold State.nTiles
  split <;> omega

/-- Where no channel is in self-refresh, there is none to wake. -/
theorem State.srWake_of_awake {s : State} (h : ∀ m < s.nMcs, s.mcState m ≠ 3) : s.srWake = s := by
  have hf : (List.range s.nMcs).filter (fun m => s.mcState m == 3) = [] :=
    List.filter_eq_nil_iff.2 fun m hm => by simpa using h m (List.mem_range.1 hm)
  rw [State.srWake, hf, List.foldl_nil]

theorem State.mcState_reloadPend (s : State) (t m : Nat) (v : Nat) : (s.wr (Reg.SCRUB.TILE.RELOAD_PEND t) v).mcState m = s.mcState m :=
  State.rd_wr_apart _ _ rfl (Or.inl (of_decide_eq_true rfl))

end Sys2Proof.Machine

open Sys2Proof Sys2Proof.Machine

/-- Settles O32: each frame read and reload takes its branch; the status is the sum over the tiles or one tile's counts. -/
theorem scrubbing : Obligations.Scrubbing := by
  unfold Obligations.Scrubbing
  refine ⟨?scrubFrameRead, ?scrubFrameRead2, ?scrubFrameRead3, ?effect, ?scrubReloadSwap, ?effect2, ?scrubStatus⟩
  case scrubFrameRead =>
    intro t f s h1 h2 h3 h4 h5
    have hc : ¬ (s.nTiles ≤ t ∨ 18688 ≤ f ∨ ¬ s.domOn (13 + t / 4) = true) := by rw [h3]; simp; omega
    refine ⟨?_, ?_, ?_⟩
    all_goals
      simp only [exec, execScrubFrameRead, if_neg hc, h4, h5]
      simp [State.flag]
  case scrubFrameRead2 =>
    intro t err s h1 h2 h3 h4
    have hc : ¬ (s.nTiles ≤ t ∨ 18688 ≤ 18687 ∨ ¬ s.domOn (13 + t / 4) = true) := by rw [h2]; simp; omega
    have hp : s.passEnd t 18687 = true := by simpa [State.passEnd] using h3
    simp only [exec, execScrubFrameRead, if_neg hc, hp, if_true, if_pos h4]
  case scrubFrameRead3 =>
    intro t f err s h1
    by_cases hc : s.nTiles ≤ t ∨ 18688 ≤ f ∨ ¬ s.domOn (13 + t / 4) = true
    · simp only [exec, execScrubFrameRead, if_pos hc]
    · have hm : s.scrubMasked t f = true ∧ s.passEnd t f = false := by
        rcases h1 with h | h | h | h
        · exact absurd (Or.inl h) hc
        · exact absurd (Or.inr (Or.inl h)) hc
        · exact absurd (Or.inr (Or.inr (by simp [h]))) hc
        · exact h
      simp [exec, execScrubFrameRead, hm.1, hm.2]
  case effect =>
    intro t s h1 h2 h3 h4 h5
    have hwake : ∀ u : State, u.regs = (s.wr (Reg.SCRUB.TILE.RELOAD_PEND t) 1).regs → u.ident = s.ident → u.srWake = u := by
      intro u hr hi
      refine State.srWake_of_awake fun m hm => ?_
      have hn : u.nMcs = s.nMcs := by simp only [State.nMcs, hi]
      rw [State.mcState, State.rd_congr hr]
      exact fun h => h5 m (hn ▸ hm) ((State.mcState_reloadPend s t m 1).symm.trans h)
    simp only [State.tileReload, h1, h2, h3, h4, State.holdAll, List.foldl_nil, List.any_nil, List.getLast?_nil, List.nil_append,
      Bool.false_eq_true, false_and, if_false, State.wr_molt]
    rw [hwake]
    · rfl
    · simp
  case scrubReloadSwap =>
    intro t k s h1 h2
    simp [exec, execScrubReloadSwap, h1, h2]
  case effect2 =>
    intro t s h1
    rcases h1 with h1 | h1
    · simp only [State.freeTiles, h1, List.foldl_cons, List.foldl_nil, State.freeTile, if_true]
      rfl
    · have hne : ¬ [(t, false)] = [(t, true)] := by simp
      simp only [State.freeTiles, h1, List.foldl_cons, List.foldl_nil, State.freeTile, if_neg hne, Bool.false_eq_true, if_false]
      rfl
  case scrubStatus =>
    intro h p t corr rel s u ht hst h3 h4 h5
    have hle := u.nTiles_le
    refine (exec_takes rfl ht hst).trans ?_
    rcases h4 with ⟨hn, hd, hc, hr⟩ | ⟨hn, hc, hr⟩
    · have hff : t ≠ 0xFF := by omega
      have h1 : ¬ (t < 56 ∧ u.nTiles ≤ t) := by omega
      have h2 : ¬ (56 ≤ t ∧ t ≠ 0xFF) := by omega
      simp only [cmdScrubStatus, ← h3, if_neg hff, ← hc, ← hr, h1, h2, hd, h5]
      rw [Ans.check_pass _ _ _ (by simp), State.deliver_say]
    · have h1 : ¬ (t < 56 ∧ u.nTiles ≤ t) := by omega
      have h2 : ¬ (56 ≤ t ∧ t ≠ 0xFF) := by omega
      have h3' : ¬ t < 56 := by omega
      simp only [cmdScrubStatus, ← h3, if_pos hn, ← hc, ← hr, h2, h3', h5]
      rw [Ans.check_pass _ _ _ (by simp), State.deliver_say]

end

section
set_option Elab.async false
/-! PLLs, fabric ports, DMA queues and the cells of a tile (R245–R289, R519). -/

namespace Sys2Proof.Machine

theorem TileSt.leafWord_setLeaf_same (t : TileSt) (m i v : Nat) : (t.setLeaf m i v).leafWord m i = v := SMap.get_set_same _ _ _ _

/-- A port of the whole word's width puts its data in place of the word's 40 bits. -/
theorem TileSt.leafWord_portPut {p : LeafPort} (hp : p.shape = 0) (t : TileSt) (m : Nat) (e : Nets) :
    (portPut p t m e).leafWord m (portWord p e) =
      bus e p.din % 2 ^ 40 + 2 ^ 40 * (t.leafWord m (portWord p e) / 2 ^ 40) := by
  have hl : portLsb p e = 0 := by simp [portLsb, hp, shapePer, Nat.mod_one]
  simp [portPut, TileSt.leafWord_setLeaf_same, hl, hp, shapeW, Nat.mod_one]

/-- What a port shows on the nets is no word of a memory. -/
theorem TileSt.leafWord_nets (t : TileSt) (n : Nets) (m i : Nat) : ({ t with nets := n } : TileSt).leafWord m i = t.leafWord m i := rfl

theorem net_setNet_same (e : Nets) (n : Nat) (v : Bool) : net (setNet e n v) n = v := SMap.get_set_same _ _ _ _

/-- The tiles' cells are no register. -/
theorem State.rd_withCells (s : State) (x) (f : Fld) : ({ s with cells := x } : State).rd f = s.rd f := rfl

end Sys2Proof.Machine

open Sys2Proof Sys2Proof.Machine

/-- Settles O33: each row takes its branch; the cells of a tile are computed from their next-state functions. -/
theorem fabricAndDma : Obligations.FabricAndDma := by
  unfold Obligations.FabricAndDma
  refine ⟨?fpllUnlock, ?vpllUnlock, ?fportMemoryRequest, ?fportMemoryRequest2, ?fportMemoryRequest3, ?fportMemoryRequest4, ?fportRegisterRead, ?fportRegisterTimeout, ?dmaGo, ?dmaDescriptorDone, ?effect, ?effect2, ?effect3, ?effect4, ?effect5, ?effect6, ?effect7, ?effect8⟩
  case fpllUnlock =>
    intro k s h1 h2 h3
    simp [exec, execFpllUnlock, execFpllRelock, h1, h2, h3]
  case vpllUnlock =>
    intro k s h1 h2 h3
    simp [exec, execVpllUnlock, h1, h2, h3]
  case fportMemoryRequest =>
    intro r s h1 h2 h3 h4 h5
    have hc : ¬ (s.nFports ≤ r.n ∨ ¬ s.domOn 3 = true ∨ r.len % 64 ≠ 0 ∨ r.len < 64 ∨ 4096 < r.len) := by
      rw [h2]; simp only [not_true_eq_false, false_or]; omega
    have hx : r.ctx ≠ 0xFFFF ∧ ¬ s.onFport r.ctx r.n = true := ⟨h4, by simp [h5]⟩
    simp only [exec, execFportMemoryRequest, if_neg hc, if_pos hx, State.fportDiscard]
  case fportMemoryRequest2 =>
    intro r s h1 h2 h3 h4 h5 h6
    have hc : ¬ (s.nFports ≤ r.n ∨ ¬ s.domOn 3 = true ∨ r.len % 64 ≠ 0 ∨ r.len < 64 ∨ 4096 < r.len) := by
      rw [h2]; simp only [not_true_eq_false, false_or]; omega
    have hx : ¬ (r.ctx ≠ 0xFFFF ∧ ¬ s.onFport r.ctx r.n = true) := by
      rintro ⟨ha, hb⟩
      rcases h4 with h | h
      · exact ha h
      · exact hb h
    have hspec : ¬ ((r.ctx != 0xFFFF && (s.egress (egKey (r.ctx % 4096) (r.ctx / 4096 % 16))).spec.isSome) = true ∧ r.write = true) := by
      rcases h6 with h | h | h <;> simp [h]
    simp only [exec, execFportMemoryRequest, if_neg hc, if_neg hx, if_neg (Nat.not_le.2 h5), if_neg hspec]
    rfl
  case fportMemoryRequest3 =>
    intro r k s h1 h2 h3 h4 h5 h6 h7 h8 h9
    have hc : ¬ (s.nFports ≤ r.n ∨ ¬ s.domOn 3 = true ∨ r.len % 64 ≠ 0 ∨ r.len < 64 ∨ 4096 < r.len) := by
      rw [h2]; simp only [not_true_eq_false, false_or]; omega
    have hx : ¬ (r.ctx ≠ 0xFFFF ∧ ¬ s.onFport r.ctx r.n = true) := fun h => h.2 h4
    have hspec : (r.ctx != 0xFFFF && (s.egress k).spec.isSome) = true ∧ r.write = true := by simp [h5, h8, h9]
    simp only [exec, execFportMemoryRequest, if_neg hc, if_neg hx, if_neg (Nat.not_le.2 h6), ← h7, if_pos hspec]
    cases s.provAddr k r.addr r.len <;> rfl
  case fportMemoryRequest4 =>
    intro r s h1 h2 h3 h4 h5 h6 h7 h8 h9 h10
    have hc : ¬ (s.nFports ≤ r.n ∨ ¬ s.domOn 3 = true ∨ r.len % 64 ≠ 0 ∨ r.len < 64 ∨ 4096 < r.len) := by
      rw [h2]; simp only [not_true_eq_false, false_or]; omega
    have hx : ¬ (r.ctx ≠ 0xFFFF ∧ ¬ s.onFport r.ctx r.n = true) := fun h => h.1 h4
    have hal : ¬ (0x30000 + r.addr % 2 ^ 16) % 4 ≠ 0 := by omega
    simp only [exec, execFportMemoryRequest, if_neg hc, if_neg hx, if_pos h5, h6, Bool.false_eq_true, and_false, if_false,
      State.fportReg, if_neg hal, h7, if_true, State.accessR, h9, h10, Bool.not_true]
  case fportRegisterRead =>
    intro n a v s h1 h2 h3
    have hn : s.nFports ≤ 64 := by unfold State.nFports; split <;> omega
    have h1' : ¬ (64 ≤ n ∨ 0x80000 ≤ a) := by omega
    have h2' : ¬ s.nFports ≤ n := Nat.not_le.2 h1
    simp only [exec, execFportRegisterRead, if_neg h1', if_neg h2', h2, not_true_eq_false, if_false]
    exact ⟨rfl, rfl⟩
  case fportRegisterTimeout =>
    intro n a s h1 h2
    simp_all [exec, execFportRegisterTimeout]
  case dmaGo =>
    intro m e v s h1 h2 h3 h4
    have hm : ¬ (256 ≤ e ∨ ¬ dmaMaster m e = true) := by rw [h2]; simp; omega
    simp only [exec, execDmaGo, if_neg hm, State.access, h3, h4, Bool.not_true, Bool.false_eq_true, if_false, if_true, State.dmaGo, Bool.and_eq_true,
      beq_iff_eq]
  case dmaDescriptorDone =>
    intro e d rest s s1 h1 h2
    refine ⟨?_, rfl⟩
    simp only [exec, execDmaDescriptorDone, h1, ← h2]
    cases d.bad
    · simp only [Bool.false_eq_true, if_false]
      cases s1.dmaRead d.src d.len with
      | none => rfl
      | some b => simp only [Option.bind_some]; cases s1.dmaWrite e d.dst d.ctx b <;> rfl
    · rfl
  case effect =>
    intro e c a b o
    rfl
  case effect2 =>
    intro c n async v e edges h1
    cases hb : bit edges c.clk
    · cases async <;> simp [flopNext, h1, hb]
    · cases hn : net e n
      · simp [flopNext, h1, hb, hn]
      · cases async <;> simp [flopNext, h1, hb, hn]
  case effect3 =>
    intro c e edges h1
    cases hb : bit edges c.clk <;> simp [flopNext, h1, hb]
  case effect4 =>
    intro t m coll a b e edges h1 h2 h3 h4 h5 h6 h7
    have hcoll : leafCollides a b e edges = true := by
      have ha : portLsb a e = 0 := by simp [portLsb, h1, shapePer, Nat.mod_one]
      have hb : portLsb b e = 0 := by simp [portLsb, h2, shapePer, Nat.mod_one]
      simp [leafCollides, h3, h4, h5, ha, hb, h1, h2, shapeW]
    refine ⟨?_, ?_⟩
    · have hb := TileSt.leafWord_portPut h2 t m e
      rw [← h4, Nat.div_eq_of_lt h7] at hb
      simp only [leafStep, if_pos h3, if_pos h5, TileSt.leafWord_nets, TileSt.leafWord_portPut h1, hb]
      rw [Nat.mul_zero, Nat.add_zero, Nat.div_eq_of_lt (Nat.mod_lt _ (by decide)), Nat.mul_zero, Nat.add_zero]
    · simp only [leafStep, if_pos h6, net_setNet_same, hcoll]
  case effect5 =>
    intro t m b e edges ns h1 h2
    simp [portShow, h1, h2]
  case effect6 =>
    intro c t m d junk e h1 h2 h3 h4
    have hl : ¬ c.line = 0 := by omega
    have hd : ¬ (d = 0 ∨ 8192 / c.line < d ∨ d = 8192 / c.line ∧ c.rclk ≠ c.wclk) := by rw [h4]; omega
    simp only [frameRead, if_neg hl, ← h2, if_neg hd, frameSpan]
  case effect7 =>
    intro c x y e
    refine ⟨?_, rfl, ?_, rfl, ?_, ?_, ?_, ?_, ?_⟩
    · unfold sliceStep preAdd; rfl
    · unfold sliceStep accWork; rfl
    · intro hc hs; simp [sliceStep, hc, hs]
    · intro hr; simp [sliceStep, hr]
    · intro hb hn; simp [sliceStep, hb, hn]
    · intro hb hn; simp [sliceStep, hb, hn]
    · intro hv; simp [sliceStep, hv]
  case effect8 =>
    intro edges junk s u x h1
    simp only [State.tileInstant]
    rw [State.rd_withCells, State.rd_wr_same _ _ _ rfl]
    rfl

end

section
set_option Elab.async false
/-! Requests to DRAM (R325–R340). -/

namespace Sys2Proof.Machine

@[simp] theorem State.mcd_setMcd_same (s : State) (m : Nat) (x : McDyn) : (s.setMcd m x).mcd m = x := SMap.get_set_same _ _ _ _

theorem State.mcd_congr {s t : State} (h : t.dram = s.dram) (m : Nat) : t.mcd m = s.mcd m := by simp only [State.mcd, h]

theorem enqueue_of_last {x : DLine} : ∀ {l : List DLine}, (∀ y ∈ l, ¬ (y.ns = x.ns ∧ x.port < y.port)) → enqueue x l = l ++ [x]
  | [], _ => rfl
  | y :: ys, h => by
    have hy : ¬ (y.ns = x.ns ∧ x.port < y.port ∧ y.issued = false) := fun hc => h y (by simp) ⟨hc.1, hc.2.1⟩
    rw [enqueue, if_neg hy, enqueue_of_last fun z hz => h z (by simp [hz])]
    rfl

/-- A request within one line is one line. -/
theorem linesOf_of_within {a n : Nat} (h : a % 64 + n ≤ 64) (hn : n ≠ 0) : linesOf a n = [a / 64] := by
  have hd : (a + n - 1) / 64 - a / 64 + 1 = 1 := by omega
  rw [linesOf, if_neg hn, hd]
  simp

theorem lineReq_of_within {r : DramReq} (cls : Nat) (h : r.addr % 64 + r.len ≤ 64) :
    lineReq r cls (r.addr / 64) =
      { port := r.port, id := r.id, line := r.addr / 64, off := r.addr % 64, len := r.len, write := r.write, data := r.data.take r.len,
        cls := cls, keep := r.keep && !closePort r.port, ns := r.ns, src := r.src } := by
  have hlo : max r.addr (r.addr / 64 * 64) = r.addr := by omega
  have hhi : min (r.addr + r.len) (r.addr / 64 * 64 + 64) = r.addr + r.len := by omega
  have hoff : r.addr - r.addr / 64 * 64 = r.addr % 64 := by omega
  simp [lineReq, hlo, hhi, hoff]

theorem State.chanOf_line (s : State) (a : Nat) : s.chanOf (a / 64 * 64) = s.chanOf a := by
  have h : a / 64 * 64 / 256 = a / 256 := by omega
  simp only [State.chanOf, h]

/-- The main scheduler's order, read off its definition (R331). -/
theorem DLine.before_iff (a b : DLine) : a.before b = true ↔ (a.prom = true ∧ b.prom = false) ∨ (a.prom = b.prom ∧ (b.cls < a.cls ∨
    (a.cls = b.cls ∧ (b.urg < a.urg ∨ (a.urg = b.urg ∧ (a.ns < b.ns ∨ (a.ns = b.ns ∧ a.port < b.port))))))) := by
  by_cases hp : a.prom = b.prom
  · by_cases hc : a.cls = b.cls
    · by_cases hu : a.urg = b.urg
      · by_cases hn : a.ns = b.ns
        · simp [DLine.before, hp, hc, hu, hn]
        · simp [DLine.before, hp, hc, hu, hn]
      · simp [DLine.before, hp, hc, hu]
    · simp [DLine.before, hp, hc]
  · cases ha : a.prom <;> cases hb : b.prom <;> simp_all [DLine.before]

theorem DLine.before_asymm {a b : DLine} (h : a.before b = true) : b.before a = false := by
  rw [← Bool.not_eq_true]
  rw [DLine.before_iff] at h ⊢
  cases ha : a.prom <;> cases hb : b.prom <;> simp only [ha, hb] at h ⊢ <;> simp at h ⊢ <;> omega

theorem DLine.not_before_trans {a b c : DLine} (h1 : a.before b = false) (h2 : b.before c = false) : a.before c = false := by
  rw [← Bool.not_eq_true] at h1 h2 ⊢
  rw [DLine.before_iff] at h1 h2 ⊢
  cases ha : a.prom <;> cases hb : b.prom <;> cases hc : c.prom <;> simp only [ha, hb, hc] at h1 h2 ⊢ <;> simp at h1 h2 ⊢ <;> omega

theorem DLine.not_before_self (a : DLine) : a.before a = false := by
  cases h : a.before a with
  | false => rfl
  | true => exact h.symm.trans (DLine.before_asymm h)

/-- No request is ahead of the one picked. -/
theorem pickBy_before_first : ∀ {l : List DLine} {x : DLine}, pickBy DLine.before l = some x → x ∈ l ∧ ∀ y ∈ l, y.before x = false
  | [], _, h => by cases h
  | a :: l, x, h => by
    unfold pickBy at h
    cases hp : pickBy DLine.before l with
    | none =>
      have hl : l = [] := by
        cases l with
        | nil => rfl
        | cons b l =>
          unfold pickBy at hp
          split at hp
          · cases hp
          · split at hp <;> cases hp
      rw [hp] at h
      cases h
      subst hl
      exact ⟨by simp, by simp [DLine.not_before_self]⟩
    | some b =>
      obtain ⟨hb, hmin⟩ := pickBy_before_first hp
      simp only [hp] at h
      split at h
      · next hba =>
        cases h
        exact ⟨by simp [hb], List.forall_mem_cons.2 ⟨DLine.before_asymm hba, hmin⟩⟩
      · next hba =>
        cases h
        have hba' : b.before a = false := by simpa using hba
        exact ⟨by simp, List.forall_mem_cons.2 ⟨DLine.not_before_self _, fun y hy => DLine.not_before_trans (hmin y hy) hba'⟩⟩

/-- The highest urgency seen so far at a port never falls. -/
theorem State.urgMax_mono (p : Nat) : ∀ (l : List DLine) (s : State), (∀ x ∈ l, x.urg ≤ 3) →
    s.rd (Reg.MC.PORT_TGT.URG_MAX p) ≤ (l.foldl (fun t x => t.wr (Reg.MC.PORT_TGT.URG_MAX x.port)
      (max (t.rd (Reg.MC.PORT_TGT.URG_MAX x.port)) x.urg)) s).rd (Reg.MC.PORT_TGT.URG_MAX p)
  | [], _, _ => Nat.le_refl _
  | x :: l, s, h => by
    rw [List.foldl_cons]
    refine Nat.le_trans ?_ (State.urgMax_mono p l _ fun y hy => h y (by simp [hy]))
    by_cases hx : x.port = p
    · have hlt : s.rd (Reg.MC.PORT_TGT.URG_MAX p) < 4 := State.rd_lt s _
      have hu := h x (by simp)
      rw [hx, State.rd_wr_same _ _ _ rfl]
      have hm : max (s.rd (Reg.MC.PORT_TGT.URG_MAX p)) x.urg % 2 ^ (Reg.MC.PORT_TGT.URG_MAX p).w = max (s.rd (Reg.MC.PORT_TGT.URG_MAX p)) x.urg :=
        Nat.mod_eq_of_lt (by change _ < 4; omega)
      omega
    · rw [State.rd_wr_other _ _ (by simp only [Reg.MC.PORT_TGT.URG_MAX, Reg.MC.PORT_TGT]; omega)]

theorem State.foldl_urgMax_dram : ∀ (l : List DLine) (s : State), (l.foldl (fun t x => t.wr (Reg.MC.PORT_TGT.URG_MAX x.port)
    (max (t.rd (Reg.MC.PORT_TGT.URG_MAX x.port)) x.urg)) s).dram = s.dram
  | [], _ => rfl
  | x :: l, s => by rw [List.foldl_cons, State.foldl_urgMax_dram l, State.wr_dram]

theorem urgencyAt_le (t e : Nat) : urgencyAt t e ≤ 3 := by
  unfold urgencyAt
  split_ifs <;> decide

end Sys2Proof.Machine

open Sys2Proof Sys2Proof.Machine

/-- Settles O34: the order of the scheduler is a strict weak order, so what it picks has nothing before it; the rows take their branches. -/
theorem dramRequests : Obligations.DramRequests := by
  unfold Obligations.DramRequests
  refine ⟨?dramRequestArrival, ?dramRequestArrival2, ?effect, ?urgencyStep, ?agePromotion, ?effect2, ?dramCommandCycle, ?effect3, ?effect4, ?effect5, ?effect6, ?effect7, ?dramRequestComplete, ?dramRequestComplete2⟩
  case dramRequestArrival =>
    intro r m s h1 h2 h3 h4 h5 h6
    have hl := linesOf_of_within h2 h3
    have hq : enqueue (lineReq r (s.classOf r.ctx r.maint) (r.addr / 64)) (s.mcd m).queue =
        (s.mcd m).queue ++ [lineReq r (s.classOf r.ctx r.maint) (r.addr / 64)] := enqueue_of_last h6
    have hst : ∀ f, (s.updMcd m f).mcState m ≠ 3 := fun f => h5
    simp only [exec, execDramRequestArrival, State.dramArrive, if_neg h3, h1, Bool.false_eq_true, if_false, hl, List.foldl_cons, List.foldl_nil,
      State.chanOf_line, ← h4, if_neg (hst _)]
    simp only [State.updMcd, hq]
    simp only [lineReq_of_within _ h2, closePort]
  case dramRequestArrival2 =>
    intro r s h1 h2
    simp only [exec, execDramRequestArrival, State.dramArrive, if_neg h2, h1, if_true]
  case effect =>
    intro tgt t
    unfold urgencyAt
    split_ifs <;> omega
  case urgencyStep =>
    intro m now s h1 h2
    simp only [exec, execUrgencyStep, h1, h2, and_self, if_true]
    refine ⟨_, rfl, ?_, fun p hq => ?_⟩
    · rw [State.mcd_congr (State.foldl_urgMax_dram _ _), State.updMcd, State.mcd_setMcd_same]
    · refine State.urgMax_mono p _ (s.updMcd m _) fun x hx => ?_
      obtain ⟨y, hy, rfl⟩ := List.mem_map.1 hx
      have h3 : y.urg ≤ 3 := by simpa using List.all_eq_true.1 hq y hy
      exact Nat.max_le.2 ⟨h3, urgencyAt_le _ _⟩
  case agePromotion =>
    intro m now s h1 h2 h3
    simp [exec, execAgePromotion, h1, h2, h3]
  case effect2 =>
    intro m now x s h1 h2 h3 h4 h5 h6
    have hold : (s.mcd m).queue.filter (fun x => s.subOf (x.line * 64) == 0 && !x.prom && !x.issued &&
        decide (x.ns + s.rd (Reg.MC.AGE.AGE_LIMIT m) < now)) = [x] := by
      simp [h1, h2, h3, h4, h5]
    simp only [State.promote, hold]
    simp [pickBy, h6, h1, updWhere]
  case dramCommandCycle =>
    intro m sub now allowed s h1 h2 h3
    have hc : s.mcLive m = true ∧ s.mcState m = 2 ∧ (s.mcd m).pause ≠ some sub := ⟨h1, h2, h3⟩
    simp only [exec, execDramCommandCycle, if_pos hc]
    cases (if s.fallback m then s.rotate (if sub = 0 then (s.mcd m).rotA else (s.mcd m).rotB) (s.ready m sub allowed)
      else pickBy DLine.before (s.ready m sub allowed)) <;> rfl
  case effect3 =>
    intro a b
    exact DLine.before_iff a b
  case effect4 =>
    intro l x h1
    exact pickBy_before_first h1
  case effect5 =>
    intro m x s h1
    simp [State.dramIssue, h1]
  case effect6 =>
    intro m row x s h1 h2
    simp [State.dramIssue, h1, h2]
  case effect7 =>
    intro m x s h1 h2 h3
    simp [State.dramIssue, h1, h2, h3, updWhere]
  case dramRequestComplete =>
    intro m id line now x s h1 h2 h3 h4 h5
    subst h2 h3
    simp only [exec, execDramRequestComplete, h1, List.find?_cons, h4]
    simp only [State.updMcd, h1]
    cases hw : x.write <;> simp [hw, h5]
  case dramRequestComplete2 =>
    intro m id line now x s h1 h2 h3 h4 h5 h6 h7
    subst h2 h3
    simp [exec, execDramRequestComplete, h1, h4, h5, h6, h7, State.updMcd]

end

section
set_option Elab.async false
/-! Refresh, retraining, self-refresh and the choice of scheduler (R341–R353). -/

namespace Sys2Proof.Machine

@[simp] theorem State.mcd_wr (s : State) (f : Fld) (v m : Nat) : (s.wr f v).mcd m = s.mcd m := rfl

@[simp] theorem State.mcd_flag (s : State) (f : Fld) (b : Bool) (m : Nat) : (s.flag f b).mcd m = s.mcd m := rfl

end Sys2Proof.Machine

open Sys2Proof Sys2Proof.Machine

/-- Settles O35: each row takes its branch. -/
theorem dramMaintenance : Obligations.DramMaintenance := by
  unfold Obligations.DramMaintenance
  refine ⟨?refreshInterval, ?mr4Read, ?spdTemperatureRead, ?retrainPause, ?retrainPauseEnd, ?mcSrReqWrite, ?srIdleTimeout, ?srEntryComplete, ?srExitComplete, ?mcFallbackReqWrite, ?schedParityFault, ?schedRebuildDone⟩
  case refreshInterval =>
    intro m s h1 h2
    simp only [exec, execRefreshInterval, h1, h2, and_self, if_true]
    cases hp : (s.mcd m).pause with
    | none => simp [State.refresh, hp]
    | some x => simp [State.updMcd, hp]
  case mr4Read =>
    intro m hot hi s h1 h2
    refine ⟨fun hh => ?_, fun hh => ?_⟩
    · simp only [exec, execMr4Read, h1, h2, and_self, if_true, hh, Bool.true_or, Nat.zero_min]
      cases hd : (s.mcd m).hot <;> simp
    · simp only [exec, execMr4Read, h1, h2, and_self, if_true, hh, Bool.false_or, Bool.false_eq_true, if_false]
  case spdTemperatureRead =>
    intro m t0 t1 hi s h1 h2
    simp [exec, execSpdTemperatureRead, h1, h2]
  case retrainPause =>
    intro m sub s h1 h2 h3 h4 h5 h6
    simp [exec, execRetrainPause, h1, h2, h3, h4, h5, h6, State.updMcd]
  case retrainPauseEnd =>
    intro m sub dur ok s h1 h2
    simp only [exec, execRetrainPauseEnd, h1, h2, if_true, List.range_zero, List.foldl_nil, State.updMcd]
  case mcSrReqWrite =>
    intro m s h1 h2 h3
    simp only [exec, execMcSrReqWrite, h1, h2, h3, and_self, if_true, true_and]
    cases s.dramDemand <;> rfl
  case srIdleTimeout =>
    intro m s h1 h2 h3 h4 h5
    simp [exec, execSrIdleTimeout, h1, h2, h3, h4, h5]
  case srEntryComplete =>
    intro m s h1 h2 h3 h4 h5
    simp [exec, execSrEntryComplete, h1, h2, h3, h4, h5, State.enterSr, State.updMcd]
  case srExitComplete =>
    intro m now s h1 h2 h3
    have hl : s.srLeaves m = true := by simpa [State.srLeaves, h2] using h3
    simp [exec, execSrExitComplete, h1, hl, State.exitSr, State.updMcd]
  case mcFallbackReqWrite =>
    intro m v s h1 h2
    refine ⟨?_, ?_⟩
    · simp only [exec, execMcFallbackReqWrite, h1, h2, and_self, if_true]
      split <;> rfl
    · by_cases hp : s.ident.profile = 0x56 <;> simp [exec, execMcPolicyWrite, h1, h2, hp]
  case schedParityFault =>
    intro m s h1
    simp only [exec, execSchedParityFault, h1, if_true, State.updMcd]
  case schedRebuildDone =>
    intro m s h1
    simp only [exec, execSchedRebuildDone, h1, if_true, State.updMcd]

end

section
set_option Elab.async false
/-! Faults, corrected errors and the leaky buckets (R354–R364). -/

namespace Sys2Proof.Machine

theorem bktLvl_ne_cfg (b : Nat) : Reg.INTEG.BKT_LVL b ≠ Reg.INTEG.BKT_CFG b := by simp [Reg.INTEG.BKT_LVL, Reg.INTEG.BKT_CFG]

theorem bktCnt_ne_lvl (b : Nat) : Reg.INTEG.BKT_CNT b ≠ Reg.INTEG.BKT_LVL b := by simp [Reg.INTEG.BKT_CNT, Reg.INTEG.BKT_LVL]

/-- The parameters written to a bucket, without its flag and level. -/
def State.bktParams (s : State) (b thr leak : Nat) : State :=
  (s.wr (Reg.INTEG.BKT_CFG.THRESHOLD b) thr).wr (Reg.INTEG.BKT_CFG.LEAK_MS b) leak

theorem State.rd_bktParams_lvl (s : State) (b thr leak : Nat) {f : Fld} (hf : f.off = Reg.INTEG.BKT_LVL b) :
    (s.bktParams b thr leak).rd f = s.rd f := by
  have h : f.off ≠ Reg.INTEG.BKT_CFG b := hf ▸ bktLvl_ne_cfg b
  rw [State.bktParams, State.rd_wr_other _ _ h, State.rd_wr_other _ _ h]

theorem State.rd_bktParams_thr (s : State) (b thr leak : Nat) :
    (s.bktParams b thr leak).rd (Reg.INTEG.BKT_CFG.THRESHOLD b) = thr % 65536 := by
  rw [State.bktParams, State.rd_wr_apart _ _ rfl (Or.inl (of_decide_eq_true rfl)), State.rd_wr_same _ _ _ rfl]
  rfl

theorem State.rd_bktParams_leak (s : State) (b thr leak : Nat) :
    (s.bktParams b thr leak).rd (Reg.INTEG.BKT_CFG.LEAK_MS b) = leak % 65536 :=
  State.rd_wr_same _ _ _ rfl

/-- A bucket set with parameters other than 0 (R358). -/
theorem State.setBucket_of_pos {s : State} {b thr leak : Nat} (empty : Bool) (ht : 0 < thr) (hl : 0 < leak) :
    s.setBucket b empty thr leak =
      let s3 := (if empty then s.wr (Reg.INTEG.BKT_LVL.LEVEL b) 0 else s).bktParams b thr leak
      if thr ≤ (if empty then s.wr (Reg.INTEG.BKT_LVL.LEVEL b) 0 else s).rd (Reg.INTEG.BKT_LVL.LEVEL b) then
        s3.evt (Reg.INTEG.BKT_LVL.OVER b) else s3 := by
  have h1 : thr ≠ 0 := by omega
  have h2 : leak ≠ 0 := by omega
  simp only [State.setBucket, if_neg h1, if_neg h2]
  generalize (if empty = true then s.wr (Reg.INTEG.BKT_LVL.LEVEL b) 0 else s) = s1
  change (if thr ≠ 0 ∧ thr ≤ (s1.bktParams b thr leak).rd (Reg.INTEG.BKT_LVL.LEVEL b) then (s1.bktParams b thr leak).evt _ else _) = _
  rw [State.rd_bktParams_lvl s1 b thr leak (f := Reg.INTEG.BKT_LVL.LEVEL b) rfl]
  simp only [h1, ne_eq, not_false_eq_true, true_and]
  rfl

@[simp] theorem State.rd_withTwin (s : State) (x) (f : Fld) : ({ s with twin := x } : State).rd f = s.rd f := rfl

@[simp] theorem State.rd_withInteg (s : State) (x) (f : Fld) : ({ s with integ := x } : State).rd f = s.rd f := rfl

theorem State.corrected_dram (s : State) (b n addr : Nat) : (s.corrected b n addr).dram = s.dram := by
  unfold State.corrected State.eccEvent
  dsimp only
  split
  · simp
  · split
    · simp
    · split <;> simp

theorem State.corrected_twin (s : State) (b n addr : Nat) : (s.corrected b n addr).twin.eccTick = s.now := by
  unfold State.corrected State.eccEvent
  dsimp only
  split
  · simp [State.now]
  · split
    · simp [State.now]
    · split <;> simp [State.now]

/-- What an ECC event touches (R362): the stamp for the twin, and no bucket. -/
theorem State.rd_eccEvent_bkt (s : State) {f : Fld} (h : 0x19100 ≤ f.off) : s.eccEvent.rd f = s.rd f := by
  have hlt : Reg.INTEG.ECC_TICK.TICK_LO.off < 0x19100 := by decide
  simp only [State.eccEvent]
  rw [State.rd_withTwin, State.rd_wr_other]
  omega

/-- Whichever error is recorded is one of those detected, and none comes before it. -/
theorem worst_first : ∀ {l : List (Nat × Nat × Nat × Nat)} {e : Nat × Nat × Nat × Nat}, worst l = some e →
    e ∈ l ∧ ∀ x ∈ l, e.1 < x.1 ∨ (e.1 = x.1 ∧ e.2.1 ≤ x.2.1)
  | [], _, h => by cases h
  | a :: l, e, h => by
    unfold worst at h
    cases hw : worst l with
    | none =>
      have hl : l = [] := by
        cases l with
        | nil => rfl
        | cons b l =>
          unfold worst at hw
          split at hw
          · cases hw
          · split at hw <;> cases hw
      subst hl
      rw [hw] at h
      cases h
      simp
    | some b =>
      obtain ⟨hb, hmin⟩ := worst_first hw
      simp only [hw] at h
      split at h
      · next hlt =>
        cases h
        refine ⟨by simp [hb], List.forall_mem_cons.2 ⟨by omega, hmin⟩⟩
      · next hlt =>
        cases h
        refine ⟨by simp, List.forall_mem_cons.2 ⟨by omega, fun x hx => ?_⟩⟩
        have := hmin x hx
        omega

/-- A correction's event and its address touch no bucket. -/
def State.noted (s : State) (b addr : Nat) : State :=
  { s.eccEvent with integ := { s.eccEvent.integ with last := SMap.set (fun _ => 0) s.eccEvent.integ.last b addr } }

theorem State.rd_noted (s : State) (b addr : Nat) {f : Fld} (h : 0x19100 ≤ f.off) : (s.noted b addr).rd f = s.rd f := by
  rw [State.noted, State.rd_withInteg, State.rd_eccEvent_bkt _ h]

/-- The bucket counted and raised by `n` errors. -/
def State.counted (s : State) (b n : Nat) : State :=
  (s.bumpSat (Reg.INTEG.BKT_LVL.LEVEL b) n).wr (Reg.INTEG.BKT_CNT.CORR_CNT b) (s.rd (Reg.INTEG.BKT_CNT.CORR_CNT b) + n)

theorem State.rd_counted_level (s : State) (b n : Nat) (h : s.rd (Reg.INTEG.BKT_LVL.LEVEL b) + n < 65536) :
    (s.counted b n).rd (Reg.INTEG.BKT_LVL.LEVEL b) = s.rd (Reg.INTEG.BKT_LVL.LEVEL b) + n := by
  rw [State.counted, State.rd_wr_other _ _ (bktCnt_ne_lvl b).symm, State.bumpSat, State.rd_wr_same _ _ _ rfl]
  change min (s.rd (Reg.INTEG.BKT_LVL.LEVEL b) + n) 65535 % 65536 = _
  omega

theorem State.rd_counted_cnt (s : State) (b n : Nat) :
    (s.counted b n).rd (Reg.INTEG.BKT_CNT.CORR_CNT b) = (s.rd (Reg.INTEG.BKT_CNT.CORR_CNT b) + n) % 2 ^ 32 :=
  State.rd_wr_same _ _ _ rfl

/-- What a correction of a bucket's memory does (R356, R359). -/
theorem State.corrected_of_bucket {s : State} {b : Nat} (n addr : Nat) (h : b < 94) :
    s.corrected b n addr =
      if (s.noted b addr).rd (Reg.INTEG.BKT_LVL.LEVEL b) < (s.noted b addr).rd (Reg.INTEG.BKT_CFG.THRESHOLD b) ∧
          (s.noted b addr).rd (Reg.INTEG.BKT_CFG.THRESHOLD b) ≤ ((s.noted b addr).counted b n).rd (Reg.INTEG.BKT_LVL.LEVEL b) then
        ((s.noted b addr).counted b n).evt (Reg.INTEG.BKT_LVL.OVER b)
      else (s.noted b addr).counted b n := by
  have h1 : ¬ b = 254 := by omega
  have h2 : ¬ b = 255 := by omega
  simp only [State.corrected, if_neg h1, if_neg h2]
  rfl

theorem bktLvl_ge (b : Nat) : 0x19100 ≤ Reg.INTEG.BKT_LVL b := by unfold Reg.INTEG.BKT_LVL; omega

theorem bktCfg_ge (b : Nat) : 0x19100 ≤ Reg.INTEG.BKT_CFG b := by unfold Reg.INTEG.BKT_CFG; omega

theorem bktCnt_ge (b : Nat) : 0x19100 ≤ Reg.INTEG.BKT_CNT b := by unfold Reg.INTEG.BKT_CNT; omega

theorem errOf_cause (x : Nat × Nat × Nat × Nat) : (errOf x).1 = x.1 := by
  unfold errOf
  split <;> rfl

end Sys2Proof.Machine

open Sys2Proof Sys2Proof.Machine

/-- Settles O36: the commands by their refusals, the buckets by reading back their fields, the record by the order of causes. -/
theorem faultsAndBuckets : Obligations.FaultsAndBuckets := by
  unfold Obligations.FaultsAndBuckets
  refine ⟨?faultRead, ?faultClear, ?eccStatus, ?eccStatus2, ?bucketConfig, ?effect, ?eccCorrection, ?effect2, ?effect3, ?bucketLeak, ?uncorrectableError, ?patrolLineRead⟩
  case faultRead =>
    intro h p s t ht hst h3 h4 h5
    exact exec_accepts rfl ht hst rfl (by simp [h3, h4, h5])
  case faultClear =>
    intro h p s u ht hst h3 h4
    exact exec_accepts rfl ht hst rfl (by simp [h3, h4])
  case eccStatus =>
    intro h p b s t ht hst h3 h4 h5 h6 h7
    have h1 : ¬ b = 254 := by omega
    have h2 : ¬ b = 255 := by omega
    refine (exec_takes rfl ht hst).trans ?_
    simp only [cmdEccStatus, ← h3, if_neg h1, if_neg h2, if_pos h4]
    rw [Ans.check_pass _ _ _ (by simp [h4, h5, h6, h7]), State.deliver_say]
  case eccStatus2 =>
    intro h p s t ht hst h3 h4 h5
    have hp : t.bucketPowered 254 = true := h4
    refine (exec_takes rfl ht hst).trans ?_
    simp only [cmdEccStatus, h3]
    rw [Ans.check_pass _ _ _ ?_, State.deliver_say]
    · have hz : toLe 4 0 = toLe 2 0 ++ toLe 2 0 := rfl
      simp [hz]
    · have hu : (t.bucketUnit 254).1 = true := rfl
      simp [hp, hu, h5]
  case bucketConfig =>
    intro h p b s t ht hst h3 h4 h5 h6 h7
    have h1 : ¬ b = 255 := by omega
    have h2 : ¬ 94 ≤ b := by omega
    refine (exec_takes rfl ht hst).trans ?_
    simp only [cmdBucketConfig, ← h3, if_neg h1, List.foldl_cons, List.foldl_nil]
    rw [Ans.check_pass _ _ _ (by simp [h5, h6, h7, h2])]
    rfl
  case effect =>
    intro b thr leak s h1 h2 h3 h4 h5
    have hz : ¬ thr ≤ (s.wr (Reg.INTEG.BKT_LVL.LEVEL b) 0).rd (Reg.INTEG.BKT_LVL.LEVEL b) := by
      rw [State.rd_wr_same _ _ _ rfl, Nat.zero_mod]; omega
    have hfalse := State.setBucket_of_pos (s := s) (b := b) false h1 h3
    have htrue := State.setBucket_of_pos (s := s) (b := b) true h1 h3
    simp only [Bool.false_eq_true, if_false] at hfalse
    simp only [if_true, if_neg hz] at htrue
    have hover : (s.setBucket b false thr leak).rd (Reg.INTEG.BKT_CFG.THRESHOLD b) = (s.bktParams b thr leak).rd (Reg.INTEG.BKT_CFG.THRESHOLD b) ∧
        (s.setBucket b false thr leak).rd (Reg.INTEG.BKT_CFG.LEAK_MS b) = (s.bktParams b thr leak).rd (Reg.INTEG.BKT_CFG.LEAK_MS b) := by
      rw [hfalse]
      split
      · exact ⟨State.rd_wr_other _ _ (bktLvl_ne_cfg b).symm, State.rd_wr_other _ _ (bktLvl_ne_cfg b).symm⟩
      · exact ⟨rfl, rfl⟩
    refine ⟨?_, ?_, ?_, ?_, ?_⟩
    · rw [hover.1, State.rd_bktParams_thr, Nat.mod_eq_of_lt h2]
    · rw [hover.2, State.rd_bktParams_leak, Nat.mod_eq_of_lt h4]
    · rw [hfalse]
      by_cases hle : thr ≤ s.rd (Reg.INTEG.BKT_LVL.LEVEL b)
      · rw [if_pos hle, State.isSet, State.rd_evt_same _ _ rfl (of_decide_eq_true rfl)]
        simp [hle]
      · rw [if_neg hle, State.isSet, State.rd_bktParams_lvl _ _ _ _ (f := Reg.INTEG.BKT_LVL.OVER b) rfl]
        simp [hle, State.isSet]
    · rw [htrue, State.rd_bktParams_lvl _ _ _ _ (f := Reg.INTEG.BKT_LVL.LEVEL b) rfl, State.rd_wr_same _ _ _ rfl, Nat.zero_mod]
    · rw [htrue, State.isSet, State.rd_bktParams_lvl _ _ _ _ (f := Reg.INTEG.BKT_LVL.OVER b) rfl,
        State.rd_wr_apart _ _ rfl (Or.inr (of_decide_eq_true rfl))]
      rfl
  case eccCorrection =>
    intro b n addr s h1 h2 h3
    have hq : ((s.corrected b n addr).mcd b).queue = [] := by rw [State.mcd_congr (State.corrected_dram _ _ _ _)]; exact h3
    simp only [exec, execEccCorrection, h2, if_true, State.writeBack, hq, List.any_nil, Bool.false_eq_true, if_false]
  case effect2 =>
    intro b n addr s h1 h2
    have hl := State.rd_noted s b addr (f := Reg.INTEG.BKT_LVL.LEVEL b) (bktLvl_ge b)
    have ht := State.rd_noted s b addr (f := Reg.INTEG.BKT_CFG.THRESHOLD b) (bktCfg_ge b)
    have hc := State.rd_noted s b addr (f := Reg.INTEG.BKT_CNT.CORR_CNT b) (bktCnt_ge b)
    refine ⟨?_, State.corrected_twin s b n addr, fun ha hb hn => ?_⟩
    · rw [State.corrected_of_bucket n addr h1]
      split
      · rw [State.evt, State.rd_wr_other _ _ (bktCnt_ne_lvl b), State.rd_counted_cnt, hc]
      · rw [State.rd_counted_cnt, hc]
    · have hlvl : ((s.noted b addr).counted b n).rd (Reg.INTEG.BKT_LVL.LEVEL b) = s.rd (Reg.INTEG.BKT_LVL.LEVEL b) + n := by
        rw [State.rd_counted_level _ _ _ (by rw [hl]; exact hn), hl]
      rw [State.corrected_of_bucket n addr h1, hl, ht, hlvl, if_pos ⟨ha, hb⟩]
      refine ⟨?_, ?_⟩
      · rw [State.isSet, State.rd_evt_same _ _ rfl (of_decide_eq_true rfl)]
        rfl
      · rw [State.evt, State.rd_wr_apart _ _ rfl (Or.inl (of_decide_eq_true rfl)), hlvl]
  case effect3 =>
    intro n addr s
    have hs : ∀ b f, f.off = Reg.INTEG.SRAM_CNT → (s.noted b addr).rd f = s.rd f := by
      intro b f hf
      rw [State.noted, State.rd_withInteg]
      simp only [State.eccEvent]
      rw [State.rd_withTwin, State.rd_wr_other _ _ (by rw [hf]; decide)]
    refine ⟨?_, ?_⟩
    · rw [show s.corrected 254 n addr = ((s.noted 254 addr).wr Reg.INTEG.SRAM_CNT.MGMT
        ((s.noted 254 addr).rd Reg.INTEG.SRAM_CNT.MGMT + n)).evt Reg.INTEG.EVENT.SRAM_CORR from rfl,
        State.evt, State.rd_wr_other _ _ (by decide), State.rd_wr_same _ _ _ rfl, hs 254 _ rfl]
      rfl
    · rw [show s.corrected 255 n addr = ((s.noted 255 addr).wr Reg.INTEG.SRAM_CNT.CCACHE
        ((s.noted 255 addr).rd Reg.INTEG.SRAM_CNT.CCACHE + n)).evt Reg.INTEG.EVENT.SRAM_CORR from rfl,
        State.evt, State.rd_wr_other _ _ (by decide), State.rd_wr_same _ _ _ rfl, hs 255 _ rfl]
      rfl
  case bucketLeak =>
    intro b s h1 h2
    simp [exec, execBucketLeak, h1, h2]
  case uncorrectableError =>
    intro errs e s h1
    obtain ⟨hmem, hmin⟩ := worst_first h1
    obtain ⟨y, hy, rfl⟩ := List.mem_map.1 hmem
    obtain ⟨hy1, hy2⟩ := List.mem_filter.1 hy
    have hy2' : 1 ≤ y.1 ∧ y.1 ≤ 7 := by simpa using hy2
    refine ⟨?_, ⟨y, hy1, rfl⟩, ?_, ?_, ?_, ?_⟩
    · simp only [exec, execUncorrectableError, State.uncorrectable, h1, List.length_map]
    · rw [errOf_cause]; exact hy2'.1
    · rw [errOf_cause]; exact hy2'.2
    · rw [errOf_cause]
      intro hc
      simp only [errOf, if_pos hc]
    · intro x hx hx1 hx7
      have := hmin (errOf x) (List.mem_map_of_mem (List.mem_filter.2 ⟨hx, by simp [hx1, hx7]⟩))
      rwa [errOf_cause x] at this
  case patrolLineRead =>
    intro m a fix s h1 h2 h3
    simp only [exec, execPatrolLineRead, h1, h2, h3, and_self, if_true]
    generalize (if fix = true then _ else s) = s1
    cases hn : State.patrolNext _ m (a + 64) <;> simp

end

section
set_option Elab.async false
/-! The protection map (R354, R355). -/

namespace Sys2Proof.Machine

/-- Entries dropped read as unlisted ones. -/
theorem SMap.get_keep {α : Type} (d : Nat → α) (p : Nat → Bool) (k : Nat) : ∀ m : SMap α,
    SMap.get d (SMap.keep p m) k = if p k then SMap.get d m k else d k
  | [] => by simp [SMap.keep, SMap.get]
  | (j, v) :: m => by
    have ih := SMap.get_keep d p k m
    simp only [SMap.keep] at ih ⊢
    by_cases hj : j = k
    · subst hj
      cases hp : p j
      · simpa [List.filter_cons, hp] using ih
      · simp [hp, SMap.get]
    · cases hp : p j
      · simpa [List.filter_cons, hp, SMap.get, hj] using ih
      · simpa [hp, SMap.get, hj] using ih

theorem regLo_ne_hi (r : Nat) : Reg.PMAP.REG_LO r ≠ Reg.PMAP.REG_HI r := by simp [Reg.PMAP.REG_LO, Reg.PMAP.REG_HI]

theorem State.rd_wr_size (s : State) (r v : Nat) {f : Fld} (h : f.off = Reg.PMAP.REG_LO r) :
    (s.wr (Reg.PMAP.REG_HI.SIZE r) v).rd f = s.rd f :=
  State.rd_wr_other _ _ (h ▸ regLo_ne_hi r)

theorem State.rd_copyRegion (s : State) (r : Nat) (f : Fld) : (s.copyRegion r).rd f = s.rd f := rfl

theorem State.copyRegion_dram (s : State) (r : Nat) : (s.copyRegion r).dram = s.dram := rfl

theorem State.rd_withDram (s : State) (x) (f : Fld) : ({ s with dram := x } : State).rd f = s.rd f := rfl

/-- The shape of the counter tree is no field of the map. -/
theorem State.rd_setIme (s : State) {f : Fld} (h : f.off ≠ Reg.SEC.IME) : s.setIme.rd f = s.rd f := by
  unfold State.setIme
  dsimp only
  split <;> rw [State.rd_wr_other _ _ h, State.rd_wr_other _ _ h]

theorem regLo_ne_ime {r : Nat} (h : r < 64) : Reg.PMAP.REG_LO r ≠ Reg.SEC.IME := by
  unfold Reg.PMAP.REG_LO Reg.SEC.IME; omega

theorem regHi_ne_ime {r : Nat} (h : r < 64) : Reg.PMAP.REG_HI r ≠ Reg.SEC.IME := by
  unfold Reg.PMAP.REG_HI Reg.SEC.IME; omega

/-- A flag reads as the Boolean it was set to. -/
theorem boolBit_ne_zero (b : Bool) : ((if b then 1 else 0) % 2 ^ 1 != 0) = b := by cases b <;> rfl

end Sys2Proof.Machine

open Sys2Proof Sys2Proof.Machine

/-- Settles O37: every refusal is ruled out in turn; a region set is read back field by field, and a finished initialisation byte by byte. -/
theorem protectionMap : Obligations.ProtectionMap := by
  unfold Obligations.ProtectionMap
  refine ⟨?protectMapSet, ?effect, ?effect2, ?regionInitComplete⟩
  case protectMapSet =>
    intro h p r kid base size en strong integ s t ht hst h3 h4 h5 h6 h7 h8 h9 h10 h11 h12 h13 h14 h15 h16 h17
    obtain ⟨hr, hk, hb, hs⟩ := h3
    obtain ⟨hen, hstr, hint⟩ := h4
    have hsub : t.rd (Reg.PMAP.REG_LO.BASE r) * 2 ^ 24 + t.rd (Reg.PMAP.REG_HI.SIZE r) * 2 ^ 24 - t.rd (Reg.PMAP.REG_LO.BASE r) * 2 ^ 24 =
        t.rd (Reg.PMAP.REG_HI.SIZE r) * 2 ^ 24 := Nat.add_sub_cancel_left ..
    refine (exec_takes rfl ht hst).trans ?_
    simp only [cmdProtectMapSet, ← hr, ← hk, ← hb, ← hs, ← hen, ← hstr, ← hint, hsub]
    rw [Ans.check_pass _ _ _ ?_]
    · rfl
    have hc1 : (!t.hasIme && (integ || kid != 0)) = false := by
      rcases h5 with hi | ⟨hi, hz⟩
      · simp [hi]
      · simp [hi, hz]
    have hrange : (en && ((base % 2 ^ 24 != 0 || size % 2 ^ 24 != 0 || size == 0 || decide (t.dramSize < base + size) ||
        (List.range 64).any (fun q => q != r && t.inRegion q base size)) ||
        (integ && strong || kid != 0 && !integ || r == 62 && (!strong || kid != 0 || integ)))) = false := by
      cases hen' : en
      · rfl
      · obtain ⟨ha, hb', hc, hd, he, -⟩ := h12.resolve_left (by simp [hen'])
        obtain ⟨hi, hki, hr62⟩ := h13.resolve_left (by simp [hen'])
        have hov : (List.range 64).any (fun q => q != r && t.inRegion q base size) = false := by
          rw [List.any_eq_false]
          intro q hq
          by_cases hqr : q = r
          · simp [hqr]
          · simp [he q (List.mem_range.1 hq) hqr]
        have hd' : ¬ t.dramSize < base + size := Nat.not_lt.2 hd
        simp only [ha, hb', hov, hd']
        rcases hi with hi | hi <;> rcases hki with hki | hki <;> rcases hr62 with hr62 | ⟨h1, h2, h3⟩ <;> simp_all
    have hold : (t.isSet (Reg.PMAP.REG_LO.EN r) && t.demandIn (t.rd (Reg.PMAP.REG_LO.BASE r) * 2 ^ 24)
        (t.rd (Reg.PMAP.REG_LO.BASE r) * 2 ^ 24 + t.rd (Reg.PMAP.REG_HI.SIZE r) * 2 ^ 24)) = false := by
      rcases h15 with hf | hf
      · rw [hf, Bool.false_and]
      · rw [hf, Bool.and_false]
    have hdem : (en && t.demandIn base (base + size)) = false := by
      rcases h12 with h | ⟨-, -, -, -, -, h⟩ <;> simp [h]
    have hsmall : (en && kid != 0 && (!t.isSet (Reg.PMAP.REG_LO.EN 62) || decide (t.rd (Reg.PMAP.REG_HI.SIZE 62) <
        ceilDiv (ceilDiv ((if t.isSet (Reg.PMAP.REG_LO.EN r) && t.rd (Reg.PMAP.REG_LO.KID r) != 0 then
          t.keyedBytes - t.rd (Reg.PMAP.REG_HI.SIZE r) * 2 ^ 24 else t.keyedBytes) + size) 7) (2 ^ 24)))) = false := by
      rcases h16 with h | h | ⟨h, -, h'⟩
      · simp [h]
      · simp [h]
      · rw [h, decide_eq_false (Nat.not_lt.2 h')]; simp
    have hkey : (en && kid != 0 && !(t.sec.keys.any (fun k => k.1 == kid))) = false := by
      rcases h16 with h | h | ⟨-, h, -⟩
      · simp [h]
      · simp [h]
      · rw [h]; simp
    have hlock : (r == 62 && t.keyedBytes != 0) = false := by rcases h17 with h | h <;> simp [h]
    simp only [hc1, h6, hrange, hold, hdem, hsmall, hlock, hkey]
    simp [h7, h8, h9, h10, h11, h14]
  case effect =>
    intro r kid base size st en strong integ s h1 h2 h3 h4 h5
    refine ⟨_, rfl, ?_⟩
    have hlo := regLo_ne_ime h1
    have hhi := regHi_ne_ime h1
    unfold State.setRegion
    refine ⟨?_, ?_, ?_, ?_, ?_, ?_, ?_⟩
    · rw [State.isSet, State.rd_setIme _ hlo, State.rd_copyRegion]
      simp (disch := exact of_decide_eq_true rfl) only [State.flag, State.rd_wr_size _ _ _ (f := Reg.PMAP.REG_LO.EN r) rfl,
        State.rd_wr_apart, State.rd_wr_same]
      exact boolBit_ne_zero en
    · rw [State.isSet, State.rd_setIme _ hlo, State.rd_copyRegion]
      simp (disch := exact of_decide_eq_true rfl) only [State.flag, State.rd_wr_size _ _ _ (f := Reg.PMAP.REG_LO.CODE r) rfl,
        State.rd_wr_apart, State.rd_wr_same]
      exact boolBit_ne_zero strong
    · rw [State.isSet, State.rd_setIme _ hlo, State.rd_copyRegion]
      simp (disch := exact of_decide_eq_true rfl) only [State.flag, State.rd_wr_size _ _ _ (f := Reg.PMAP.REG_LO.INTEG r) rfl,
        State.rd_wr_apart, State.rd_wr_same]
      exact boolBit_ne_zero integ
    · rw [State.rd_setIme _ hlo, State.rd_copyRegion]
      simp (disch := exact of_decide_eq_true rfl) only [State.rd_wr_size _ _ _ (f := Reg.PMAP.REG_LO.KID r) rfl, State.rd_wr_apart, State.rd_wr_same]
      exact Nat.mod_eq_of_lt h2
    · rw [State.rd_setIme _ hlo, State.rd_copyRegion]
      simp (disch := exact of_decide_eq_true rfl) only [State.rd_wr_size _ _ _ (f := Reg.PMAP.REG_LO.BASE r) rfl, State.rd_wr_apart, State.rd_wr_same]
      exact Nat.mod_eq_of_lt h3
    · rw [State.rd_setIme _ hhi, State.rd_copyRegion, State.rd_wr_other _ _ (regLo_ne_hi r).symm, State.rd_wr_same _ _ _ rfl]
      exact Nat.mod_eq_of_lt h4
    · rw [State.rd_setIme _ hlo, State.rd_copyRegion, State.rd_wr_same _ _ _ rfl]
      exact Nat.mod_eq_of_lt h5
  case effect2 =>
    intro r a n s h1 h2 h3
    have hany : (List.range 64).any (fun r => s.rd (Reg.PMAP.REG_LO.STATE r) == 1 && s.inRegion r a n) = true :=
      List.any_eq_true.2 ⟨r, List.mem_range.2 h1, by simp [h2, h3]⟩
    rw [State.dramBad, hany, Bool.or_true]
  case regionInitComplete =>
    intro r lo hi s h1 h2 h3 h4
    have hdram : ((((s.wr (Reg.PMAP.REG_LO.STATE r) 2).copyRegion r).evt Reg.INTEG.EVENT.MAP_DONE)).dram = s.dram := by
      rw [State.evt_dram, State.copyRegion_dram, State.wr_dram]
    have hev : Reg.PMAP.REG_LO r ≠ Reg.INTEG.EVENT := by unfold Reg.PMAP.REG_LO Reg.INTEG.EVENT; omega
    simp only [exec, execRegionInitComplete, h1, h2, and_self, if_true, ← h3, ← h4, hdram]
    refine ⟨_, rfl, ?_, ?_, ?_, ?_⟩
    · rw [State.rd_withDram, State.evt, State.rd_wr_other _ _ hev, State.rd_copyRegion, State.rd_wr_same _ _ _ rfl]
      rfl
    · rw [State.isSet, State.rd_withDram, State.rd_evt_same _ _ rfl (by decide)]
      rfl
    · intro a ha hb
      rw [Memory.read, SMap.get_keep]
      simp [ha, hb, Memory.blank]
    · intro a ha
      have hn : ¬ (lo ≤ a ∧ a < hi) := by omega
      rw [Memory.read, SMap.get_keep]
      simp [hn, Memory.read]

end

section
set_option Elab.async false
/-! Keys, the counter cache and integrity halts (R375–R395). -/

namespace Sys2Proof.Machine

theorem bit_eq_testBit (v i : Nat) : bit v i = v.testBit i := by
  rw [Nat.testBit_eq_decide_div_mod_eq]
  rfl

/-- A bit inside the field survives its truncation. -/
theorem bit_mod (v : Nat) {i w : Nat} (h : i < w) : bit (v % 2 ^ w) i = bit v i := by
  simp [bit_eq_testBit, h]

/-- A bit cleared reads clear. -/
theorem bit_clrBit (v i : Nat) : bit (clrBit v i) i = false := by
  unfold clrBit
  split
  · next h =>
    have hodd : v / 2 ^ i % 2 = 1 := by simpa [bit] using h
    have hle : 2 ^ i * 1 ≤ v := by
      have : 2 ^ i * (v / 2 ^ i) ≤ v := Nat.mul_div_le v (2 ^ i)
      exact Nat.le_trans (Nat.mul_le_mul_left _ (Nat.pos_of_ne_zero fun h0 => by simp [h0] at hodd)) this
    have hd : (v - 2 ^ i) / 2 ^ i = v / 2 ^ i - 1 := by
      have := Nat.sub_mul_div v (2 ^ i) 1
      simpa using this
    simp only [bit, hd, beq_eq_false_iff_ne]
    omega
  · next h => exact Bool.eq_false_iff.2 h

/-- A key-load flag word of 0 or 1 asks for no generated key. -/
theorem bit_one_of_le_one {v : Nat} (h : v ≤ 1) : bit v 1 = false := by
  obtain rfl | rfl : v = 0 ∨ v = 1 := by omega
  · rfl
  · rfl

end Sys2Proof.Machine

open Sys2Proof Sys2Proof.Machine

/-- Settles O38: every refusal is ruled out in turn; the keys and their register are read back. -/
theorem keysAndCounters : Obligations.KeysAndCounters := by
  unfold Obligations.KeysAndCounters
  refine ⟨?keyLoad, ?keyLoad2, ?keyLoad3, ?linkKeySwitch, ?keyRetire, ?effect, ?counterCacheMiss, ?counterCacheEvict, ?integrityHalt, ?effect2⟩
  case keyLoad =>
    intro h p kid key s t ht hst h3 h4 h5 h6 h7 h8 h9 h10 h11 h12 h13
    have hgen := bit_one_of_le_one h6
    have hplain : (!bit (u8 p 2) 0 && !false && t.ident.noPlain) = false := by
      rcases h12 with hw | hn
      · rw [hw]; rfl
      · rw [hn, Bool.and_false]
    have hi1 : ¬ kid = 0 := by omega
    have hi2 : ¬ 15 < kid := by omega
    have h3' : ¬ 3 < u8 p 2 := by omega
    refine (exec_takes rfl ht hst).trans ?_
    simp only [cmdKeyLoad, h3, ← h4, hgen, h9, if_true]
    rw [Ans.check_pass _ _ _ ?_]
    · rfl
    · simp only [hplain, h10, h11, h13, h7, h8]
      simp [hi1, hi2, h3']
  case keyLoad2 =>
    intro h p kid s t ht hst h3 h4 h5 h6 h7 h8 h9 h10 h11 h12
    have hw : bit 2 0 = false := rfl
    have hg : bit 2 1 = true := rfl
    have hi1 : ¬ kid = 0 := by omega
    have hi2 : ¬ 15 < kid := by omega
    refine (exec_takes rfl ht hst).trans ?_
    simp only [cmdKeyLoad, h3, ← h4, h6, hw, hg, if_true]
    rw [Ans.check_pass _ _ _ ?_]
    · rfl
    · simp only [h7, h8, h9, h10, h11, h12]
      simp [hi1, hi2]
  case keyLoad3 =>
    intro h p k key s t ht hst h3 h4 h5 h6 h7 h8 h9 h10 h11 h12 h13
    have hgen := bit_one_of_le_one h6
    have hplain : (!bit (u8 p 2) 0 && !false && t.ident.noPlain) = false := by
      rcases h11 with hw | hn
      · rw [hw]; rfl
      · rw [hn, Bool.and_false]
    have hi : ¬ 5 < k := by omega
    have h3' : ¬ 3 < u8 p 2 := by omega
    have h2 : ¬ 2 = 1 := by decide
    refine (exec_takes rfl ht hst).trans ?_
    simp only [cmdKeyLoad, h3, ← h4, hgen, h9, if_neg h2]
    rw [Ans.check_pass _ _ _ ?_, State.deliver_say]
    · rfl
    · simp only [hplain, h10, h12, h13, h7, h8]
      simp [hi, h3']
  case linkKeySwitch =>
    intro k t ph s h1 h2
    simp [exec, execLinkKeySwitch, h1, h2]
  case keyRetire =>
    intro h p k s t ht hst h3 h4 h5 h6 h7 h8 h9
    have hnamed : (List.range 64).any (fun r => t.isSet (Reg.PMAP.REG_LO.EN r) && t.rd (Reg.PMAP.REG_LO.KID r) == k) = false := by
      rw [List.any_eq_false]
      intro r hr
      by_cases he : t.isSet (Reg.PMAP.REG_LO.EN r) = true
      · simp [he, h9 r (List.mem_range.1 hr) he]
      · simp [he]
    have hk1 : ¬ k = 0 := by omega
    have hk2 : ¬ 15 < k := by omega
    refine (exec_takes rfl ht hst).trans ?_
    simp only [cmdKeyRetire, ← h3, hnamed]
    rw [Ans.check_pass _ _ _ (by simp [h5, h6, h7, h8, hk1, hk2])]
    rfl
  case effect =>
    intro kid key s h1
    refine ⟨?_, ?_, ?_, ?_⟩
    · simp [State.loadKey]
    · simp [State.dropKey]
    · rw [State.loadKey, State.rd_wr_same _ _ _ rfl]
      exact (bit_mod (w := 16) _ (Nat.lt_succ_of_le h1)).trans (bit_setBit _ _)
    · rw [State.dropKey, State.rd_wr_same _ _ _ rfl]
      exact (bit_mod (w := 16) _ (Nat.lt_succ_of_le h1)).trans (bit_clrBit _ _)
  case counterCacheMiss =>
    intro line s h1 h2 h3
    simp [exec, execCounterCacheMiss, h1, h2, h3]
  case counterCacheEvict =>
    intro level idx dirty s h1
    have hne : ¬ (level + 1, idx / 8) = (level, idx) := by simp
    have hchild : ¬ (0 < level ∧ s.dram.cache.any (fun x => x.1.1 + 1 == level && x.1.2 / 8 == idx) = true) := by
      rintro ⟨hl, hc⟩
      simp [h1] at hc
      omega
    simp only [exec, execCounterCacheEvict, h1, List.find?_cons, BEq.rfl]
    rw [h1] at hchild
    simp only [if_neg hchild]
    cases dirty <;> simp [updWhere]
  case integrityHalt =>
    intro ch detail addr s h1 h2 h3
    simp [exec, execIntegrityHalt, h1, h2, h3]
  case effect2 =>
    intro l b s h1 h2
    have hl : linesOf (l * 64) 1 = [l] := by
      rw [linesOf_of_within (by omega) (by decide)]
      simp
    simp only [State.dramWrite, List.length_singleton, hl]
    simp [h1, h2]

end

section
set_option Elab.async false
/-! MACsec security associations and debug levels (R385–R398, R391–R393). -/

namespace Sys2Proof.Machine

/-- A debug level put reads back, and says so. -/
theorem State.setLevel_of_ne {s : State} {l : Nat} (h : s.dbgLevel ≠ l) :
    s.setLevel l = (s.wr Reg.DBG.STATUS.LEVEL l).evt Reg.SEC.EVENT.LEVEL_CHANGE := if_neg h

end Sys2Proof.Machine

open Sys2Proof Sys2Proof.Machine

/-- Settles O39: every refusal is ruled out in turn; frames and switches by the SA they find. -/
theorem macsecAndDebugLevels : Obligations.MacsecAndDebugLevels := by
  unfold Obligations.MacsecAndDebugLevels
  refine ⟨?macsecSa, ?macsecSa2, ?macsecFrameReceive, ?macsecFrameReceive2, ?macsecFrameReceive3, ?macsecFrameSend, ?effect, ?macsecSaSwitch, ?macsecSaSwitch2, ?macsecSaSwitch3, ?debugAuthChallenge, ?debugAuthChallenge2, ?debugAuthResponse, ?effect2, ?debugAuthChallenge3, ?debugLockoutExpiry⟩
  case macsecSa =>
    intro h p d key a s t ht hst h3 h4 h5 h6 h7 h8 h9 h10 h11 h12 h13 h14 h15 h16 h17 h18 h19 h20 h21 h22 h23
    have htx : (u8 d 2 == 1 && u8 d 4 != 0) = false := by
      rcases h14 with hz | hz <;> simp [hz]
    have h100 : ¬ 100 ≤ u16 d 0 := by omega
    have hcap : ¬ 2 ≤ (t.sec.sas.filter (fun x => !(x.sameChan a && x.an == a.an))).countP (fun x => x.sameChan a) := by omega
    refine (exec_takes rfl ht hst).trans ?_
    simp only [cmdMacsecSa, h3, h17, h20, Option.getD_some, Nat.max_zero, ← h22]
    rw [Ans.check_pass _ _ _ ?_]
    · simp only [beq_iff_eq, Bool.false_eq_true, if_false]
      split <;> rfl
    · simp only [h7, h8, h9, h10, htx, h21, h5, h18, h19, h100, hcap]
      simp [h4, h11, h12, h13, h15, h16]
  case macsecSa2 =>
    intro h p d a s t ht hst h3 h4 h5 h6 h7 h8 h9 h10 h11 h12 h13 h14 h15 h16 h17 h18 h19 h20 h21 h22
    have htx : (u8 d 2 == 1 && u8 d 4 != 0) = false := by
      rcases h14 with hz | hz <;> simp [hz]
    have h100 : ¬ 100 ≤ u16 d 0 := by omega
    refine (exec_takes rfl ht hst).trans ?_
    simp only [cmdMacsecSa, h3, h17, Nat.max_zero, ← h21]
    rw [Ans.check_pass _ _ _ ?_]
    · rfl
    · simp only [h7, h8, h9, h10, htx, h20, h22, h5, h18, h19, h100]
      simp [h4, h11, h12, h13, h15, h16]
  case macsecFrameReceive =>
    intro f s h1 h2
    simp [exec, execMacsecFrameReceive, h1, h2]
  case macsecFrameReceive2 =>
    intro f s h1 h2 h3
    have hf : s.sec.sas.find? (fun a => a.port == f.port && !a.tx && a.sci == f.sci && a.an == f.an) = none := by
      rw [List.find?_eq_none]
      intro a ha hc
      simp only [Bool.and_eq_true, beq_iff_eq, Bool.not_eq_true'] at hc
      obtain ⟨⟨⟨hp, ht⟩, hs⟩, hn⟩ := hc
      exact h3 a ha hp ht hs hn
    simp [exec, execMacsecFrameReceive, h1, h2, hf]
  case macsecFrameReceive3 =>
    intro f a s h1 h2 h3
    simp only [exec, execMacsecFrameReceive, h1, h2, h3, not_true_eq_false, if_false, Bool.not_eq_true]
    split <;> rfl
  case macsecFrameSend =>
    intro port a s h1 h2 h3
    simp [exec, execMacsecFrameSend, h1, h2, h3]
  case effect =>
    intro port a s h1
    simp only [State.pnEvents, h1]
    have hs : (if a.near ≤ a.pn then s.evt Reg.SEC.EVENT.PN_NEAR else s).sec.sas = s.sec.sas := by
      split <;> simp
    rw [hs]
  case macsecSaSwitch =>
    intro a s h1 h2 h3 h4 h5
    have hd : s.saDue = [a] := by simp [State.saDue, h1, h2, h3, h4, h5]
    simp [exec, execMacsecSaSwitch, hd, State.saTake, h1, h2, h3, h4]
  case macsecSaSwitch2 =>
    intro a b s h1 h2 h3 h4 h5 h6 h7
    obtain ⟨hat, hbt⟩ := h2
    obtain ⟨hau, hbu⟩ := h3
    have hd : s.saDue = [b] := by simp [State.saDue, h1, hat, hau, hbt, hbu, h4, h5]
    simp [exec, execMacsecSaSwitch, hd, State.saTake, h1, hat, hbt, hau, h4, h6, beq_eq_false_iff_ne.2 h7, bne_iff_ne.2 h7]
  case macsecSaSwitch3 =>
    intro s h1
    have hd : s.saDue = [] := by
      rw [State.saDue, List.filter_eq_nil_iff]
      intro a ha hc
      simp only [Bool.and_eq_true, Bool.not_eq_true', decide_eq_true_eq] at hc
      obtain ⟨⟨⟨ht, hu⟩, hd⟩, hle⟩ := hc
      rcases h1 a ha ht with h | h | h
      · simp [hu] at h
      · simp [hd] at h
      · omega
    simp only [exec, execMacsecSaSwitch, hd, List.foldl_nil]
  case debugAuthChallenge =>
    intro h p s t ht hst h3 h4 h5 h6
    have hbad : t.levelBad 0 = false := by simp [State.levelBad]
    refine (exec_takes rfl ht hst).trans ?_
    simp only [cmdDebugAuthChallenge, h3, h6, hbad, if_true]
    rw [Ans.check_pass _ _ _ (by simp [h4, h5]), State.deliver_say]
    rfl
  case debugAuthChallenge2 =>
    intro h p l s t ht hst h3 h4 h5 h6 h7 h8 h9 h10
    obtain ⟨hl1, hl2, hl3⟩ := h4
    have hbad : t.levelBad l = false := by
      have h1 : ¬ t.ident.debugCap < l := by omega
      have h2 : ¬ 2 < l := by omega
      simp [State.levelBad, h1, h2]
    have hne : ¬ l = 0 := by omega
    have h48 : ¬ u32 p 16 < 48 := by omega
    refine (exec_takes rfl ht hst).trans ?_
    simp only [cmdDebugAuthChallenge, ← h3, h7, hbad, if_neg hne]
    rw [Ans.check_pass _ _ _ ?_, State.deliver_say]
    · rfl
    · simp only [h5, h6, h48, h9]
      simp [hne, h10]
  case debugAuthResponse =>
    intro h p b c s u ht hst h3 h4 h5 h6 h7 h8
    refine (exec_takes rfl ht hst).trans ?_
    simp only [cmdDebugAuthResponse, h3]
    rw [Ans.check_pass _ _ _ (by simp [h4, h5, h6, h8])]
    simp only [State.respond, h7]
    split <;> rfl
  case effect2 =>
    intro l s h1 h2
    rw [State.setLevel_of_ne h2]
    refine ⟨?_, ?_⟩
    · rw [State.dbgLevel, State.evt, State.rd_wr_other _ _ (by decide), State.rd_wr_same _ _ _ rfl]
      exact Nat.mod_eq_of_lt (Nat.lt_of_le_of_lt h1 (by decide))
    · rw [State.isSet, State.rd_evt_same _ _ rfl (by decide)]
      rfl
  case debugAuthChallenge3 =>
    intro h p s t ht hst h3
    refine (exec_takes rfl ht hst).trans ?_
    simp [cmdDebugAuthChallenge, h3, Ans.check, firstErr]
  case debugLockoutExpiry =>
    intro s
    rfl

end

section
set_option Elab.async false
/-! The lane commands (R400–R425). -/

namespace Sys2Proof.Machine

theorem laneOf_of_lanesOf {v n : Nat} {ls : List Nat} (h : lanesOf v n = some ls) : ∃ l, laneOf v = some l := by
  unfold lanesOf at h
  cases hl : laneOf v with
  | none => rw [hl] at h; cases h
  | some l => exact ⟨l, rfl⟩

@[simp] theorem State.laneDyn_wr (s : State) (f : Fld) (v l : Nat) : (s.wr f v).laneDyn l = s.laneDyn l := rfl

@[simp] theorem State.laneDyn_flag (s : State) (f : Fld) (b : Bool) (l : Nat) : (s.flag f b).laneDyn l = s.laneDyn l := rfl

@[simp] theorem State.laneDyn_updLane_same (s : State) (l : Nat) (f : LaneDyn → LaneDyn) : (s.updLane l f).laneDyn l = f (s.laneDyn l) :=
  SMap.get_set_same _ _ _ _

theorem laneStatus_ne_cfg (l : Nat) : Reg.LANE.STATUS l ≠ Reg.LANE.CFG l := by simp [Reg.LANE.STATUS, Reg.LANE.CFG]

/-- A lane put without base clock: its PLL loses lock. -/
theorem State.setBase_zero (s : State) (l : Nat) :
    s.setBase l 0 = (s.updLane l (fun d => { d with base := 0, idle := false })).wr (Reg.LANE.STATUS.PLL_LOCK l) 0 := rfl

/-- A field of the lane's status is none of its configuration. -/
theorem State.rd_laneCfg (s : State) (l v : Nat) {f g : Fld} (hf : f.off = Reg.LANE.CFG l) (hg : g.off = Reg.LANE.STATUS l) :
    (s.wr f v).rd g = s.rd g :=
  State.rd_wr_other _ _ (by rw [hf, hg]; exact laneStatus_ne_cfg l)

/-- The lane set free, with its receiver settings as asked for. -/
def State.laneFreed (s : State) (l f : Nat) : State :=
  (((((s.wr (Reg.LANE.STATUS.FUNC l) 0).wr (Reg.LANE.STATUS.RATE l) 0).setBase l 0).flag (Reg.LANE.CFG.TX_INV l) (bit f 0)).flag
    (Reg.LANE.CFG.RX_INV l) (bit f 1)).flag (Reg.LANE.CFG.EQ_FREEZE l) (bit f 2) |>.wr (Reg.LANE.CFG.LOOPBACK l) (f / 16)

theorem State.laneSet_free {p : List Byte} {l : Nat} {s : State} (h3 : u8 p 3 = 1) (h5 : u8 p 5 = 0xFF) (h7 : u8 p 7 = 0)
    (h6 : bit (u8 p 6) 3 = false) (hf : s.laneFunc l = 0) : State.laneSet p s l = s.laneFreed l (u8 p 6) := by
  have hd : s.dropLink l = s := by
    have h0 : ¬ s.laneFunc l = funcLink := by rw [hf]; decide
    simp only [State.dropLink, if_neg h0]
  simp only [State.laneSet, h3, h5, h7, h6, hd, Bool.false_eq_true, if_false, if_true]
  rfl

/-- The state's status fields after that: what the freeing wrote to the status register. -/
theorem State.rd_laneFreed (s : State) (l f : Nat) {g : Fld} (hg : g.off = Reg.LANE.STATUS l)
    (hp : g.lsb + g.w ≤ 7 ∨ 8 ≤ g.lsb) :
    (s.laneFreed l f).rd g = ((s.wr (Reg.LANE.STATUS.FUNC l) 0).wr (Reg.LANE.STATUS.RATE l) 0).rd g := by
  rw [State.laneFreed, State.rd_laneCfg _ l _ rfl hg, State.flag, State.rd_laneCfg _ l _ rfl hg, State.flag, State.rd_laneCfg _ l _ rfl hg,
    State.flag, State.rd_laneCfg _ l _ rfl hg, State.setBase_zero, State.rd_wr_apart _ _ rfl hp, State.rd_updLane]

theorem State.laneDyn_laneFreed (s : State) (l f : Nat) : ((s.laneFreed l f).laneDyn l).base = 0 := by
  rw [State.laneFreed, State.laneDyn_wr, State.laneDyn_flag, State.laneDyn_flag, State.laneDyn_flag, State.setBase_zero, State.laneDyn_wr,
    State.laneDyn_updLane_same]

/-- A lane query on a present powered lane answers what it reads. -/
theorem laneQuery_of_lane {p : List Byte} {s : State} {l : Nat} (go : Nat → Ans) (hl : laneOf (u16 p 0) = some l) (ha : s.laneAbsent l = false)
    (ho : s.laneOff l = false) (hz : zeroFrom p 2 = true) : laneQuery p s go = go l := by
  simp only [laneQuery, hl]
  rw [Ans.check_pass _ _ _ (by simp [ha, ho, hz])]

end Sys2Proof.Machine

open Sys2Proof Sys2Proof.Machine

/-- Settles O40: every refusal is ruled out in turn, and the lanes' registers and state are read back. -/
theorem laneCommands : Obligations.LaneCommands := by
  unfold Obligations.LaneCommands
  refine ⟨?laneConfig, ?effect, ?effect2, ?effect3, ?laneState, ?laneState2, ?prbsStart, ?effect4, ?prbsRead, ?marginScan⟩
  case laneConfig =>
    intro h p ls func k ps f extra s t ht hst h3 h4 h5 h6 h7 h8 h9 h10 h11 h12 h13 h14 h15 h16 h17 h18 h19 h20
    obtain ⟨hfunc, hk, hps, hf⟩ := h4
    obtain ⟨l0, hl0⟩ := laneOf_of_lanesOf h3
    have hbusy : (ps != 0xFF && ls.any (fun l => (t.laneDyn l).queued.isSome)) = false := by
      rcases h6 with hp | ⟨-, hq⟩
      · simp [hp]
      · rw [hq, Bool.and_false]
    have hps2 : (decide (2 < ps) && ps != 0xFF) = false := by
      rcases h6 with hp | ⟨hp, -⟩
      · simp [hp]
      · rw [decide_eq_false (by omega), Bool.false_and]
    have hgrp : (func == 2 && (decide (5 < k) || !linkGroupOk ls)) = false := by
      rcases h10 with hn | ⟨hk5, hg, -⟩
      · simp [hn]
      · rw [hg, decide_eq_false (by omega)]; simp
    have hthird : (func == 2 && t.thirdBase ls 3) = false := by
      rcases h10 with hn | ⟨-, -, hb⟩
      · simp [hn]
      · rw [hb, Bool.and_false]
    have hamp : (u8 p 7 != 0 && (decide (u8 p 7 < 40) || decide (120 < u8 p 7))) = false := by
      rcases h12 with hz | ⟨ha, hb⟩
      · simp [hz]
      · rw [decide_eq_false (by omega), decide_eq_false (by omega)]; simp
    have hfir : (bit f 3 && !firOk p) = false := by
      rcases h13 with hb | hb <;> simp [hb]
    have hheld : (extra && t.linkHeld k) = false ∧ (extra && (t.link k).lanes.any t.laneInUse) = false := by
      rw [Bool.and_or_distrib_left, Bool.or_eq_false_iff] at h17
      exact h17
    have hneg : (f / 16 != 0 && ls.any (fun l => t.laneNeg l || t.rd (Reg.LANE.STATUS.PSTATE l) != 0)) = false := by
      rcases h18 with hz | hz
      · simp [hz]
      · rw [hz, Bool.and_false]
    have hf1 : ¬ 63 < f := by omega
    have hf2 : ¬ f / 16 = 3 := h11.2
    have hfn : ¬ 2 < func := by omega
    refine (exec_takes rfl ht hst).trans ?_
    simp only [cmdLaneConfig, hl0, h3, Option.getD_some, ← hfunc, ← hk, ← hps, ← hf, ← h5]
    rw [Ans.check_pass _ _ _ ?_, State.deliver_say]
    simp only [hbusy, h7, h8, hps2, hgrp, hthird, hamp, hfir, h15, h16, hheld.1, hheld.2, hneg, h19, h20, h14]
    simp [hf1, hf2, hfn]
  case effect =>
    intro p l s h1 h2 h3 h4 h5 h6
    rw [State.laneSet_free h1 h2 h3 h4 h5]
    refine ⟨?_, ?_, State.laneDyn_laneFreed _ _ _⟩
    · rw [State.laneFunc, State.rd_laneFreed _ _ _ rfl (Or.inl (of_decide_eq_true rfl)), State.rd_wr_apart _ _ rfl (Or.inl (of_decide_eq_true rfl)),
        State.rd_wr_same _ _ _ rfl]
      rfl
    · rw [State.rd_laneFreed _ _ _ rfl (Or.inr (of_decide_eq_true rfl)), State.rd_wr_same _ _ _ rfl]
      rfl
  case effect2 =>
    intro l q s h1 h2
    simp [State.askPstate, h2]
  case effect3 =>
    intro l q s h1
    simp [State.askPstate, h1]
  case laneState =>
    intro h p l s t ht hst h3 h4 h5 h6
    refine (exec_takes rfl ht hst).trans ?_
    simp only [cmdLaneState]
    rw [laneQuery_of_lane _ h3 h5 h6 h4, State.deliver_say]
    rfl
  case laneState2 =>
    intro h p l s t ht hst h3 h4
    refine (exec_takes rfl ht hst).trans ?_
    simp only [cmdLaneState, laneQuery, h3]
    cases ha : t.laneAbsent l
    · have ho := h4.resolve_left (by simp [ha])
      simp only [Ans.check, firstErr, ho]
      rfl
    · simp only [Ans.check, firstErr]
      rfl
  case prbsStart =>
    intro h p l ls s t ht hst h3 h4 h5 h6 h7 h8 h9 h10 h11 h12 h13 h14 h15
    have hbad : ls.any (fun l => t.laneFunc l == funcPcie || (u8 p 3 != 0 && (t.laneNeg l || t.rd (Reg.LANE.STATUS.PSTATE l) != 0))) = false := by
      rw [List.any_eq_false] at h12 ⊢
      intro x hx
      rcases h13 with hz | hz
      · simpa [hz] using h12 x hx
      · have := List.any_eq_false.1 hz x hx
        have h12' := h12 x hx
        simp_all
    have huse : (u8 p 3 != 0 && ls.any t.laneInUse) = false := by
      rcases h15 with hz | hz
      · simp [hz]
      · rw [hz, Bool.and_false]
    refine (exec_takes rfl ht hst).trans ?_
    simp only [cmdPrbsStart, h3, h4, Option.getD_some]
    rw [Ans.check_pass _ _ _ ?_]
    · rfl
    simp only [h10, h11, hbad, huse, h14, h7, h9]
    simp [h5, h6, h8]
  case effect4 =>
    intro l pat dir kbps s h1 h2 h3
    have hp : ¬ (s.laneFunc l = funcPort ∧ ¬ ((s.lanePort l).any s.ethPort) = true) := by
      rintro ⟨hp, -⟩
      rw [h1] at hp
      exact absurd hp (by decide)
    have hr : ¬ (bit dir 0 = true ∧ 0 ≠ 0) := fun h => h.2 rfl
    have hd : ¬ dir = 0 := by omega
    simp only [State.prbsOn, if_neg hp, if_neg hr, if_true, if_neg hd]
    refine ⟨?_, ?_, ?_, ?_, ?_, ?_⟩
    · rw [State.laneDyn_updLane_same]
    · rw [State.laneDyn_updLane_same]
    · rw [State.laneDyn_updLane_same]
    · rw [State.laneDyn_updLane_same]
    · rw [State.laneDyn_updLane_same]
    · rw [State.isSet, State.rd_updLane, State.rd_wr_same _ _ _ rfl]
      rfl
  case prbsRead =>
    intro h p l s t ht hst h3 h4 h5 h6
    refine (exec_takes rfl ht hst).trans ?_
    simp only [cmdPrbsRead]
    rw [laneQuery_of_lane _ h3 h5 h6 h4, State.deliver_say]
  case marginScan =>
    intro h p l need s t ht hst h3 h4 h5 h6 h7 h8 h9 h10 h11 h12 h13
    obtain ⟨a1, a2, a3, a4, a5, a6⟩ := h4
    have hb : ¬ (u8 p 2 == 0 || 32 < u8 p 2 || u8 p 3 == 0 || 32 < u8 p 3 || u8 p 4 < 20 || 40 < u8 p 4) = true := by
      simp; omega
    have hst2 : ¬ (t.rd (Reg.LANE.STATUS.PSTATE l) ≠ 0 ∨ t.isSet (Reg.LANE.STATUS.SCAN l) = true ∨ t.laneFunc l = funcPcie) := by
      rintro (hp | hp | hp)
      · exact hp h11
      · simp [h12] at hp
      · exact h10 hp
    refine (exec_takes rfl ht hst).trans ?_
    simp only [cmdMarginScan, h3, scanPoints, ← h13, if_neg hst2]
    rw [Ans.check_pass _ _ _ ?_]
    · split <;> rfl
    simp only [h8, h9, hb, h5, h6, h7]
    simp

end

section
set_option Elab.async false
/-! Lane events (R402–R425). -/

namespace Sys2Proof.Machine

theorem State.laneDown_free {s : State} {l : Nat} (h : s.laneFunc l = 0) : s.laneDown l = s := by
  have h1 : ¬ s.laneFunc l = funcPort := by rw [h]; decide
  have h2 : ¬ s.laneFunc l = funcLink := by rw [h]; decide
  simp only [State.laneDown, if_neg h1, h2, false_and, if_false]

/-- A field of the lane's status is none of its events. -/
theorem State.rd_laneEvt (s : State) (l : Nat) {f g : Fld} (hf : f.off = Reg.LANE.EVENT l) (hg : g.off = Reg.LANE.STATUS l) :
    (s.evt f).rd g = s.rd g :=
  State.rd_wr_other _ _ (by rw [hf, hg]; simp [Reg.LANE.STATUS, Reg.LANE.EVENT])

theorem State.strm_updLane (s : State) (l : Nat) (f : LaneDyn → LaneDyn) : (s.updLane l f).strm = s.strm := rfl

theorem State.strm_setReg (s : State) (o : Nat) (v : BitVec 32) : (s.setReg o v).strm = s.strm := rfl

theorem State.strm_setLinkUp (s : State) (l : Nat) (b : Bool) : (s.setLinkUp l b).strm = s.strm := by
  simp only [State.setLinkUp]
  split
  · rfl
  · simp [State.flag]

theorem State.strm_portEvt (s : State) (p : Nat) (f : Nat → Fld) : (s.portEvt p f).strm = s.strm := by
  simp only [State.portEvt]
  split <;> simp [State.evtBit]

theorem State.peerLanes_port {s : State} {l p : Nat} (hf : s.laneFunc l = funcPort) (hp : s.lanePort l = some p) :
    s.peerLanes l = portLanes p (s.port p).kind := by
  simp only [State.peerLanes, if_pos hf, hp]

theorem State.peerLanes_link {s : State} {l : Nat} (hf : s.laneFunc l = funcLink) :
    s.peerLanes l = (s.link (s.rd (Reg.LANE.STATUS.LINK l))).lanes := by
  have h1 : ¬ s.laneFunc l = funcPort := by rw [hf]; decide
  simp only [State.peerLanes, if_neg h1, if_pos hf]

end Sys2Proof.Machine

open Sys2Proof Sys2Proof.Machine

/-- Settles O41: the cases the guards leave, with the lane's function and peers taken from its state. -/
theorem laneEvents : Obligations.LaneEvents := by
  unfold Obligations.LaneEvents
  refine ⟨?signalDetectAssert, ?signalDetectAssert2, ?blockLockLoss, ?quadPllUnlock, ?linkBringupComplete, ?linkBringupComplete2, ?negotiationFail, ?negotiationRetry, ?effect, ?effect2, ?pstateSequenceDone, ?prbsSyncLoss, ?lanePrbsErrLoRead, ?marginScanDone⟩
  case signalDetectAssert =>
    intro l s h1 h2 h3
    have hp : ¬ s.laneFunc l = funcPort := by rw [h3]; decide
    have hl : ¬ s.laneFunc l = funcLink := by rw [h3]; decide
    constructor
    · simp only [exec, execSignalDetectAssert, h1, h2, Bool.or_self, Bool.false_eq_true, if_false, if_neg hp, if_neg hl]
    · have hd : (((s.wr (Reg.LANE.STATUS.SIG_DET l) 0).evt (Reg.LANE.EVENT.SIG_LOST l)).laneDown l) =
          (s.wr (Reg.LANE.STATUS.SIG_DET l) 0).evt (Reg.LANE.EVENT.SIG_LOST l) := by
        refine State.laneDown_free ?_
        rw [State.laneFunc, State.rd_laneEvt _ l rfl rfl, State.rd_wr_apart _ _ rfl (Or.inl (of_decide_eq_true rfl))]
        exact h3
      simp only [exec, execSignalDetectDeassert, if_neg hp, hd]
      cases s.isSet (Reg.LANE.STATUS.SIG_DET l) <;> rfl
  case signalDetectAssert2 =>
    intro l p s h1 h2 h3 h4
    have hp : s.laneFunc l = funcPort := h3
    simp only [exec, execSignalDetectAssert, h1, h2, Bool.or_self, Bool.false_eq_true, if_false, if_pos hp, h4]
  case blockLockLoss =>
    intro l s h1 h2 h3
    have hf : s.laneFunc l = funcPort ∨ s.laneFunc l = funcLink := Or.inr h2
    constructor
    · simp only [exec, execBlockLockLoss, if_pos h1, State.lockLost]
    · simp only [exec, execHighBer, if_pos hf, State.lockLost]
  case quadPllUnlock =>
    intro q pll l s h1
    simp_all [exec, execQuadPllUnlock, execQuadPllRelock]
  case linkBringupComplete =>
    intro u l k s h1 h2 h3 h4 h5 h6
    subst h1 h5
    have hp : ¬ s.laneFunc u.lane = funcPort := by rw [h4]; decide
    have hl : s.laneFunc u.lane = funcLink := h4
    have hc : ¬ (s.laneOff u.lane = true ∨ s.rd (Reg.LANE.STATUS.PSTATE u.lane) ≠ 0 ∧ s.laneFunc u.lane ≠ funcPcie) := by
      simp [h2, h3]
    simp only [exec, execLinkBringupComplete, if_neg hc, if_neg hp, if_pos hl, if_pos h6]
  case linkBringupComplete2 =>
    intro u l p w s h1 h2 h3 h4 h5 h6 h7 h8 h9 h10
    subst h1
    have hp : s.laneFunc u.lane = funcPort := h6
    have hc : ¬ (s.laneOff u.lane = true ∨ s.rd (Reg.LANE.STATUS.PSTATE u.lane) ≠ 0 ∧ s.laneFunc u.lane ≠ funcPcie) := by
      simp [h4, h5]
    have hpl : s.peerLanes u.lane = [u.lane] := (State.peerLanes_port hp h7).trans h9
    have htr : s.trained [u.lane] u.fir = s.setReg (Reg.LANE.TXFIR u.lane) (BitVec.ofNat 32 w) := by
      simp [State.trained, h2, h3]
    simp only [exec, execLinkBringupComplete, if_neg hc, if_pos hp, h7, if_pos h8, hpl, htr, List.foldl_cons, List.foldl_nil]
    simp only [State.strm_portEvt, State.wr_strm, State.strm_updLane, State.strm_setLinkUp, State.strm_setReg, h10, List.filter_nil,
      List.foldl_nil]
  case negotiationFail =>
    intro l p r s h1 h2 h3 h4
    have hp : s.laneFunc l = funcPort := h1
    have hpl : s.peerLanes l = [l] := (State.peerLanes_port hp h2).trans h3
    have hn : ¬ s.laneFunc l = funcLink := by rw [h1]; decide
    constructor
    · have hc : ¬ (s.laneFunc l = 0 ∨ r = 0 ∨ 7 < r) := by omega
      simp only [exec, execNegotiationFail, if_neg hc, hpl, List.foldl_cons, List.foldl_nil]
    · intro h6
      have h0 : s.laneFunc l ≠ 0 := by omega
      simp only [exec, execNegotiationRetry, h0, h6, hpl, List.foldl_cons, List.foldl_nil, hn, false_and, if_false, ne_eq, not_false_eq_true,
        true_or, and_self, if_true]
  case negotiationRetry =>
    intro l k s h1 h2 h3 h4 h5
    subst h2
    have hl : s.laneFunc l = funcLink := h1
    have hpl : s.peerLanes l = [l] := (State.peerLanes_link hl).trans h5
    have hc : s.laneFunc l ≠ 0 ∧ (s.rd (Reg.LANE.STATUS.NEG_STATE l) = 6 ∨
        (s.laneFunc l = funcLink ∧ s.linkWaits (s.rd (Reg.LANE.STATUS.LINK l)) = true)) :=
      ⟨by omega, Or.inr ⟨hl, by simp [State.linkWaits, h3, h4]⟩⟩
    simp only [exec, execNegotiationRetry, if_pos hc, hpl, List.foldl_cons, List.foldl_nil, if_pos (And.intro hl h3)]
  case effect =>
    intro l c d e s h1 h2 h3 h4 h5 h6
    have hc : ¬ ((s.laneAbsent l || s.laneOff l || s.rd (Reg.LANE.STATUS.PSTATE l) != 0) = true) := by simp [h1, h2, h3]
    have hmin : min e 255 = e := by omega
    simp only [State.adapted, if_neg hc, hmin]
    have heye : (s.wr (Reg.LANE.RXEQ.EYE l) e).rd (Reg.LANE.RXEQ.EYE l) = e := by
      rw [State.rd_wr_same _ _ _ rfl]
      exact Nat.mod_eq_of_lt (by simpa [Reg.LANE.RXEQ.EYE] using h6)
    refine ⟨?_, fun hl hz => ?_, fun hk => ?_⟩
    · split
      · exact heye
      · rw [State.rd_wr_apart _ _ rfl (Or.inr (of_decide_eq_true rfl)), State.rd_wr_apart _ _ rfl (Or.inr (of_decide_eq_true rfl))]
        exact heye
    · have hb : ¬ ((decide (128 ≤ l) || s.isSet (Reg.LANE.CFG.EQ_FREEZE l)) = true) := by
        rw [hz, decide_eq_false (by omega)]; decide
      simp only [if_neg hb]
      constructor
      · rw [State.rd_wr_apart _ _ rfl (Or.inl (of_decide_eq_true rfl)), State.rd_wr_same _ _ _ rfl]
        exact Nat.mod_eq_of_lt (by simpa [Reg.LANE.RXEQ.CTLE] using h4)
      · rw [State.rd_wr_same _ _ _ rfl]
        exact Nat.mod_eq_of_lt (by simpa [Reg.LANE.RXEQ.DFE1] using h5)
    · have hb : (decide (128 ≤ l) || s.isSet (Reg.LANE.CFG.EQ_FREEZE l)) = true := by
        rcases hk with hk | hk
        · rw [decide_eq_true hk, Bool.true_or]
        · rw [hk, Bool.or_true]
      simp only [if_pos hb]
      exact ⟨State.rd_wr_apart _ _ rfl (Or.inl (of_decide_eq_true rfl)), State.rd_wr_apart _ _ rfl (Or.inl (of_decide_eq_true rfl))⟩
  case effect2 =>
    intro l r s h1 h2 h3
    have hne : ¬ (s.laneDyn l).failed = true := by simp [h2]
    simp only [State.negFail, if_neg hne]
    refine ⟨?_, ?_, ?_⟩
    · rw [State.rd_laneEvt _ l rfl rfl, State.rd_updLane, State.rd_wr_apart _ _ rfl (Or.inl (of_decide_eq_true rfl)), State.rd_wr_same _ _ _ rfl]
      rfl
    · rw [State.rd_laneEvt _ l rfl rfl, State.rd_updLane, State.rd_wr_same _ _ _ rfl]
      exact Nat.mod_eq_of_lt (by simp only [Reg.LANE.STATUS.NEG_FAIL]; omega)
    · rw [State.isSet, State.rd_evt_same _ _ rfl (by simp [Reg.LANE.EVENT.NEG_FAIL])]
      rfl
  case pstateSequenceDone =>
    intro l t s h1 h2 h3 h4
    have h2' : ¬ t = 2 := by omega
    simp only [exec, execPstateSequenceDone, h1, h4, h2', false_and, if_false, h3, ne_eq, not_true_eq_false, and_false]
  case prbsSyncLoss =>
    intro l errs s h1
    simp [exec, execPrbsSyncLoss, execPrbsCounterFull, h1]
  case lanePrbsErrLoRead =>
    intro l s h1 h2
    simp [exec, execLanePrbsErrLoRead, h1, h2]
  case marginScanDone =>
    intro l counts c s h1
    simp [exec, execMarginScanDone, h1]

end

section
set_option Elab.async false
/-! Dolmet links (R379–R432). -/

namespace Sys2Proof.Machine

theorem State.link_updLink_same (s : State) (k : Nat) (f : LinkDyn → LinkDyn) : (s.updLink k f).link k = f (s.link k) :=
  SMap.get_set_same _ _ _ _

theorem State.link_congr {s t : State} (h : t.mesh = s.mesh) (k : Nat) : t.link k = s.link k := by
  simp only [State.link, h]

theorem State.rd_withTick (s : State) (x : TickSt) (g : Fld) : ({ s with tick := x } : State).rd g = s.rd g := rfl

/-- Only the tick's own registers and bookkeeping differ. -/
structure State.OnlyTick (s t : State) : Prop where
  mesh : t.mesh = s.mesh
  twin : t.twin = s.twin
  rd : ∀ g : Fld, 0x61000 ≤ g.off → t.rd g = s.rd g

theorem State.OnlyTick.refl (s : State) : s.OnlyTick s := ⟨rfl, rfl, fun _ _ => rfl⟩

theorem State.OnlyTick.trans {s t u : State} (h : s.OnlyTick t) (k : t.OnlyTick u) : s.OnlyTick u :=
  ⟨k.mesh.trans h.mesh, k.twin.trans h.twin, fun g hg => (k.rd g hg).trans (h.rd g hg)⟩

theorem State.onlyTick_wr (s : State) (f : Fld) (v : Nat) (hf : f.off < 0x61000) : s.OnlyTick (s.wr f v) :=
  ⟨State.wr_mesh s f v, State.wr_twin s f v, fun _ hg => State.rd_wr_other _ _ (by omega)⟩

theorem State.onlyTick_evt (s : State) (f : Fld) (hf : f.off < 0x61000) : s.OnlyTick (s.evt f) := s.onlyTick_wr f 1 hf

theorem State.onlyTick_bump (s : State) (f : Fld) (hf : f.off < 0x61000) : s.OnlyTick (s.bump f) := s.onlyTick_wr f _ hf

theorem State.onlyTick_withTick (s : State) (x : TickSt) : s.OnlyTick { s with tick := x } := ⟨rfl, rfl, fun _ _ => rfl⟩

theorem State.onlyTick_setLock (s : State) (l : Nat) : s.OnlyTick (s.setLock l) :=
  (s.onlyTick_wr _ _ (by decide)).trans (State.onlyTick_withTick _ _)

theorem State.onlyTick_enterHoldover (s : State) : s.OnlyTick s.enterHoldover :=
  (s.onlyTick_setLock 3).trans (State.onlyTick_evt _ _ (by decide))

theorem State.onlyTick_useEntry (s : State) (i : Nat) : s.OnlyTick (s.useEntry i) :=
  ((s.onlyTick_wr _ _ (by decide)).trans (State.onlyTick_wr _ _ _ (by decide))).trans (State.onlyTick_withTick _ _)

theorem State.onlyTick_switchTo (s : State) (i : Nat) : s.OnlyTick (s.switchTo i) :=
  ((s.onlyTick_useEntry i).trans (State.onlyTick_evt _ _ (by decide))).trans (State.onlyTick_bump _ _ (by decide))

theorem State.onlyTick_noEntry (s : State) : s.OnlyTick s.noEntry :=
  (s.onlyTick_wr _ _ (by decide)).trans (State.onlyTick_wr _ _ _ (by decide))

theorem State.onlyTick_loseActive (s : State) : s.OnlyTick s.loseActive := by
  simp only [State.loseActive]
  split
  · split
    · exact s.onlyTick_enterHoldover.trans (State.onlyTick_switchTo _ _)
    · exact s.onlyTick_switchTo _
  · split
    · exact (s.onlyTick_setLock 0).trans (State.onlyTick_noEntry _)
    · split
      · exact s.onlyTick_enterHoldover.trans (State.onlyTick_noEntry _)
      · exact s.onlyTick_noEntry

theorem State.onlyTick_sourceGone (s : State) (src dom index : Nat) : s.OnlyTick (s.sourceGone src dom index) := by
  simp only [State.sourceGone]
  split
  · exact s.onlyTick_loseActive
  · exact State.OnlyTick.refl s

theorem State.onlyTick_setRef (s : State) (src dom index : Nat) (r : RefState) : s.OnlyTick (s.setRef src dom index r) :=
  State.onlyTick_withTick s _

theorem State.onlyTick_ranged (s : State) (src dom index : Nat) (r : RefState) (ppb : Int) : s.OnlyTick (s.ranged src dom index r ppb) := by
  simp only [State.ranged]
  split
  · exact s.onlyTick_setRef ..
  · split
    · exact ((s.onlyTick_setRef ..).trans (State.onlyTick_evt _ _ (by decide))).trans (State.onlyTick_sourceGone _ _ _ _)
    · exact s.onlyTick_setRef ..

theorem State.onlyTick_refAvailable (s : State) : s.OnlyTick s.refAvailable := by
  simp only [State.refAvailable]
  split
  · split
    · exact (s.onlyTick_useEntry _).trans (State.onlyTick_setLock _ _)
    · exact s.onlyTick_useEntry _
  · exact State.OnlyTick.refl s

/-- A device back in tick keeps its links. -/
theorem State.link_inTick (s : State) (k : Nat) :
    (if s.isSet Reg.MESH.STATUS.OUT_OF_TICK then
      ({ s with mesh := { s.mesh with withheld := false, off := 0 } } : State).wr Reg.MESH.STATUS.OUT_OF_TICK 0 else s).link k = s.link k := by
  split
  · simp only [State.link, State.wr_mesh]
  · rfl

theorem State.linkState_inTick (s : State) {k : Nat} (hk : k < 6) :
    (if s.isSet Reg.MESH.STATUS.OUT_OF_TICK then
      ({ s with mesh := { s.mesh with withheld := false, off := 0 } } : State).wr Reg.MESH.STATUS.OUT_OF_TICK 0 else s).linkState k =
      s.linkState k := by
  split
  · refine State.rd_wr_other _ _ ?_
    simp only [Reg.DOLMET.LINK_STATUS.STATE, Reg.DOLMET.LINK_STATUS, Reg.MESH.STATUS.OUT_OF_TICK, Reg.MESH.STATUS]
    omega
  · rfl

theorem State.link_updAuth (s : State) (k : Nat) : s.updAuth.link k = s.link k :=
  State.link_congr (s := { s with mesh := { s.mesh with authId := s.authority.2 } }) (by simp [State.updAuth]) k

end Sys2Proof.Machine

open Sys2Proof Sys2Proof.Machine

/-- Settles O42: each row from the guards met; the marker's rows by what the reference's bookkeeping leaves alone. -/
theorem dolmetLinks : Obligations.DolmetLinks := by
  unfold Obligations.DolmetLinks
  refine ⟨?capabilityExchange, ?capabilityExchange2, ?capabilityExchange3, ?laneQualificationEnd, ?laneQualificationEnd2, ?dolmetFrameReceive, ?dolmetFrameReceive2, ?dolmetFrameReceive3, ?dolmetFrameReceive4, ?dolmetFrameReceive5, ?linkTagFailLimit, ?heartbeatTimeout, ?effect, ?tickMarkerReceive, ?tickMarkerReceive2⟩
  case capabilityExchange =>
    intro k c s h1 h2 h3 h4 h5
    have hb : (s.link k).lanes.isEmpty = false := by simpa using h3
    have hc : ¬ ((!(decide (k < 6) && decide (s.linkState k < 2) && !(s.link k).lanes.isEmpty)) = true) := by simp [h1, h2, hb]
    have hr : (!(bit c.revs 0 || (bit c.revs 1 && s.ident.profile != 0x56))) = true := by
      rw [h4, show bit 0 0 = false from rfl, show bit 0 1 = false from rfl]; rfl
    simp only [exec, execCapabilityExchange, if_neg hc, hr, if_true, h5, Bool.false_eq_true, if_false]
  case capabilityExchange2 =>
    intro k c s h1 h2 h3 h4 h5 h6 h7
    have hb : (s.link k).lanes.isEmpty = false := by simpa using h3
    have hc : ¬ ((!(decide (k < 6) && decide (s.linkState k < 2) && !(s.link k).lanes.isEmpty)) = true) := by simp [h1, h2, hb]
    have hr : ¬ (!(bit c.revs 0 || (bit c.revs 1 && s.ident.profile != 0x56))) = true := by
      rw [h4, show bit 3 0 = true from rfl]; simp
    have he : (((s.linkPol k).enc || c.enc || (s.isTwinLink k && s.twin.encReq)) &&
        !((bit c.revs 1 && s.ident.profile != 0x56) && c.key && (s.link k).keyed)) = true := by simp [h6, h7]
    simp only [exec, execCapabilityExchange, if_neg hc, if_neg hr, if_pos he, h5, Bool.false_eq_true, if_false]
  case capabilityExchange3 =>
    intro k l r c s h1 h2 h3 h4 h5 h6 h7 h8 h9 h10 h11 h12 h13
    have hc : ¬ ((!(decide (k < 6) && decide (s.linkState k < 2) && !(s.link k).lanes.isEmpty)) = true) := by simp [h1, h2, h3]
    have hr2 : (bit c.revs 1 && s.ident.profile != 0x56) = true := by
      rw [h4, show bit 3 1 = true from rfl]; simpa using h9
    have hr : ¬ (!(bit c.revs 0 || (bit c.revs 1 && s.ident.profile != 0x56))) = true := by rw [hr2]; simp
    have he : ¬ (((s.linkPol k).enc || c.enc || (s.isTwinLink k && s.twin.encReq)) &&
        !((bit c.revs 1 && s.ident.profile != 0x56) && c.key && (s.link k).keyed)) = true := by simp [h6, h7, h8]
    have ht : ¬ (((s.claim k == 2 || s.claim k == 3) != (c.role == 2 || c.role == 3)) || ((s.claim k == 2 || s.claim k == 3) &&
        s.claim k == c.role)) = true := by rw [h11, h12]; decide
    have hne : ¬ (s.claim k = 4 ∨ c.role = 4) := by omega
    simp only [exec, execCapabilityExchange, if_neg hc]
    simp only [if_neg hr, if_neg he, if_neg ht, h5, Bool.false_eq_true, if_false, if_neg hne, if_pos hr2, h13, h3, List.foldl_cons,
      List.foldl_nil]
    refine ⟨_, rfl, ?_, ?_⟩
    · rw [State.linkState, State.rd_wr_other _ _ (by simp only [Reg.DOLMET.LINK_STATUS.STATE, Reg.DOLMET.LINK_STATUS, Reg.LANE.STATUS.NEG_STATE, Reg.LANE.STATUS]; omega),
        State.rd_updLane, State.rd_updLink, State.rd_wr_same _ _ _ rfl]
      rfl
    · have hl : ∀ (t : State) (v : Nat) (g : LaneDyn → LaneDyn), (((t.updLane l g).wr (Reg.LANE.STATUS.NEG_STATE l) v).link k) = t.link k :=
        fun t v g => State.link_congr (by simp) k
      rw [hl, State.link_updLink_same]
      exact ⟨rfl, rfl⟩
  case laneQualificationEnd =>
    intro k s h1 h2 h3 h4
    simp [exec, execLaneQualificationEnd, h1, h2, h3, h4]
  case laneQualificationEnd2 =>
    intro k s h1 h2 h3 h4
    simp [exec, execLaneQualificationEnd, h1, h2, h3, h4]
  case dolmetFrameReceive =>
    intro k f s h1 h2 h3
    simp [exec, execDolmetFrameReceive, h1, h2, h3]
  case dolmetFrameReceive2 =>
    intro k f s h1 h2 h3 h4 h5
    simp [exec, execDolmetFrameReceive, h1, h2, h3, h4, h5]
  case dolmetFrameReceive3 =>
    intro k f s h1 h2 h3 h4 h5 h6 h7
    simp [exec, execDolmetFrameReceive, h1, h2, h3, h4, h5, h6, h7]
  case dolmetFrameReceive4 =>
    intro k f s h1 h2 h3 h4 h5 h6
    have hc : ¬ (!(decide (k < 6) && s.linkUp k)) = true := by simp [h1, h2]
    obtain ⟨h61, h62, h63⟩ := h6
    have hcar : s.carries k f.ty = false := by simp [State.carries, h5, h61, h62, h63]
    simp only [exec, execDolmetFrameReceive, if_neg hc, h3, h4, hcar, Bool.not_true, Bool.false_and, Bool.false_eq_true, if_false, if_true]
  case dolmetFrameReceive5 =>
    intro k f s h1 h2 h3 h4 h5 h6 h7 h8
    have hc : ¬ (!(decide (k < 6) && s.linkUp k)) = true := by simp [h1, h2]
    have hcar : ¬ s.carries k f.ty = false := by simp [State.carries, h2, h7, h8]
    have hd : ¬ (f.dst ≠ 0 ∧ f.dst ≠ s.meshId) := by omega
    simp only [exec, execDolmetFrameReceive, if_neg hc, h3, h4, if_neg hcar, if_neg hd, if_pos h6, Bool.not_true, Bool.false_and,
      Bool.false_eq_true, if_false]
  case linkTagFailLimit =>
    intro k s h1 h2 h3
    simp [exec, execLinkTagFailLimit, execHeartbeatReceive, h1, h2, h3]
  case heartbeatTimeout =>
    intro k s h1 h2 h3
    simp [exec, execHeartbeatTimeout, h1, h2, h3]
  case effect =>
    intro k r s h1 h2 h3 h4
    have hl : ((s.wr (Reg.DOLMET.LINK_STATUS.STATE k) 0).wr (Reg.DOLMET.LINK_STATUS.DOWN_REASON k) r).link k = s.link k :=
      State.link_congr (by simp) k
    simp only [State.linkDown, h3, hl, h4, List.foldl_nil, Bool.false_eq_true, if_false]
  case tickMarkerReceive =>
    intro k m s h1 h2 h3 h4 h5 h6 h7 h8
    have hc : ¬ (!(decide (k < 6) && s.linkUp k)) = true := by simp [h1, h2]
    have hsame : ∀ b c : Bool, (b || c || (m.instar == s.mesh.instar && m.digest == s.mesh.digest)) = true := by
      intro b c
      simp [h4, h5]
    simp only [exec, execTickMarkerReceive, if_neg hc, if_pos h8, hsame, h6, Bool.false_eq_true, not_false_eq_true, and_true, if_pos h3, if_true]
    refine ⟨_, rfl, ?_⟩
    rw [State.link_updAuth, State.link_updLink_same, State.link_inTick, State.link_congr ((State.onlyTick_ranged ..).trans (State.onlyTick_refAvailable _)).mesh,
      State.link_updLink_same]
    exact ⟨rfl, rfl, rfl, rfl⟩
  case tickMarkerReceive2 =>
    intro k m s h1 h2 h3 h4 h5 h6 h7 h8 h9 h10
    have hc : ¬ (!(decide (k < 6) && s.linkUp k)) = true := by simp [h1, h2]
    have hset : (s.mesh.setAt == some s.now) = false := by simpa using h8
    have hinst : (m.instar == s.mesh.instar && m.digest == s.mesh.digest) = false := by simp [h4]
    constructor
    · simp only [exec, execTickMarkerReceive, if_neg hc, if_pos h9, h5, h6, hset, h7, List.any_nil, hinst, Bool.or_self, Bool.false_eq_true,
        if_false, if_pos h3]
      refine ⟨_, rfl, ?_⟩
      rw [State.linkState_inTick _ h1, State.linkState]
      refine (((State.onlyTick_ranged ..).trans (State.onlyTick_refAvailable _)).rd _ ?_).trans h10
      simp only [Reg.DOLMET.LINK_STATUS.STATE, Reg.DOLMET.LINK_STATUS]
      omega
    · simp only [State.quarantine, if_pos h10]

end

section
set_option Elab.async false
/-! Twins (R433–R452). -/

namespace Sys2Proof.Machine

theorem State.twinState_of_takes {s : State} {op : Nat} {h : Hdr} (ht : s.takes op h = true) : s.twinState = 0 := by
  simp only [State.takes, Bool.and_eq_true, decide_eq_true_eq] at ht
  exact ht.1.2

theorem State.liveWhere_all (s : State) : s.liveWhere (fun _ => true) = s.live := by simp [State.liveWhere, State.live]

theorem State.relink_of_down {s : State} {k : Nat} (h : s.linkUp k = false) : s.relink k = s := by
  simp [State.relink, h]

/-- The twin's registers do not say whether a link is up. -/
theorem State.linkUp_wr_twin (s : State) {f : Fld} {k : Nat} (v : Nat) (hk : k < 8) (hf : 0x401000 ≤ f.off) :
    (s.wr f v).linkUp k = s.linkUp k := by
  have hne : (Reg.DOLMET.LINK_STATUS.STATE k).off ≠ f.off := by
    simp only [Reg.DOLMET.LINK_STATUS.STATE, Reg.DOLMET.LINK_STATUS]
    omega
  simp only [State.linkUp, State.rd_wr_other _ _ hne]

theorem State.linkUp_withTwin (s : State) (x : TwinSt) (k : Nat) : ({ s with twin := x } : State).linkUp k = s.linkUp k := rfl

/-- The twin's links lie below 8. -/
theorem State.linkUp_setReg_twin (s : State) {k : Nat} (v : Word) (hk : k < 8) : (s.setReg Reg.TWIN.CFG v).linkUp k = s.linkUp k := by
  have hne : (Reg.DOLMET.LINK_STATUS.STATE k).off ≠ Reg.TWIN.CFG := by
    simp only [Reg.DOLMET.LINK_STATUS.STATE, Reg.DOLMET.LINK_STATUS, Reg.TWIN.CFG]
    omega
  simp only [State.linkUp, State.rd_setReg_other _ _ hne]

/-- The device joined to a twin in a role over two links, its links not brought up again yet (R436). -/
def State.twinJoined (t : State) (p : List Byte) (role a b : Nat) (carrier : Bool) : State :=
  let s1 := ((((t.wr Reg.TWIN.CFG.ROLE role).wr Reg.TWIN.CFG.LINK_A a).wr Reg.TWIN.CFG.LINK_B b).flag Reg.TWIN.CFG.AUTO_REJOIN
    (bit (u8 p 3) 0)).wr Reg.TWIN.CFG.REJOIN_LIMIT (if u16 p 6 = 0 then 600 else u16 p 6)
  let s2 : State := { s1 with twin := { s1.twin with
    partner := u16 p 4, encReq := bit (u8 p 3) 1, carrier := carrier, since := t.now, moved := false, copied := [],
    slow := false, actTick := none } }
  (((s2.setTwin 1).setMuted (!carrier)).setChg carrier).wr Reg.TWIN.STATUS.MATCH_RUN 0

theorem State.linkUp_twinJoined (t : State) (p : List Byte) (role a b : Nat) (c : Bool) {k : Nat} (hk : k < 6) :
    (t.twinJoined p role a b c).linkUp k = t.linkUp k := by
  have hw : ∀ (u : State) (f : Fld) (v : Nat), 0x401000 ≤ f.off → (u.wr f v).linkUp k = u.linkUp k :=
    fun u f v hf => u.linkUp_wr_twin v (by omega) hf
  simp (disch := decide) only [State.twinJoined, State.setChg, State.setMuted, State.setTwin, State.flag, hw, State.linkUp_withTwin]

/-- TWIN_PAIR with a role, every refusal of R447 ruled out. -/
theorem exec_twinPair_joins {h : Hdr} {p : List Byte} {role a b : Nat} {busy : Bool} {s t : State} (ht : s.takes 0x0B01 h = true)
    (hst : t = s.stamped h) (hrole : role = u8 p 0) (h12 : role = 1 ∨ role = 2) (ha : a = u8 p 1) (hb : b = u8 p 2) (ha6 : a < 6)
    (hb6 : b < 6) (hab : a ≠ b) (hf : u8 p 3 ≤ 3) (hz : zeroFrom p 8 = true) (hid : 1 ≤ u16 p 4 ∧ u16 p 4 ≤ 16384)
    (hoa : t.twinLinkOff a = false) (hob : t.twinLinkOff b = false) (hba : t.twinLinkBad a = false) (hbb : t.twinLinkBad b = false)
    (hbusy : busy = !(t.liveWhere (fun _ => true)).isEmpty)
    (hfree : busy = false ∨ ((t.link a).pBusy = false ∧ (t.link b).pBusy = false))
    (hlike : ∀ k ∈ [a, b], t.linkUp k = true →
      (t.link k).pProfile = t.ident.profile ∧ ((t.link k).pStep = t.ident.stepping ∨ t.ident.profile ≠ 0)) :
    exec (.twinPair h p) s = .next ((((t.twinJoined p role a b
      (busy || (!((t.link a).pBusy || (t.link b).pBusy) && role == 1))).relink a).relink b).answer h Sts.ok 0 []) := by
  have hunlike : ∀ k ∈ [a, b], (t.linkUp k && (decide ((t.link k).pProfile ≠ t.ident.profile) ||
      ((t.link k).pStep != t.ident.stepping && t.ident.profile == 0))) = false := by
    intro k hk
    cases hu : t.linkUp k with
    | false => rfl
    | true =>
      obtain ⟨hp, hs⟩ := hlike k hk hu
      rcases hs with hs | hs <;> simp [hp, hs]
  have hbz : (busy && ((t.link a).pBusy || (t.link b).pBusy)) = false := by
    rcases hfree with h0 | ⟨h0, h1⟩
    · rw [h0, Bool.false_and]
    · rw [h0, h1]; simp
  have hr0 : ¬ role = 0 := by omega
  have hbad : (decide (2 < role) || decide (3 < u8 p 3) || !zeroFrom p 8 || (role != 0 && (decide (5 < a) || decide (5 < b) || a == b ||
      t.twinLinkBad a || t.twinLinkBad b || u16 p 4 == 0 || decide (16384 < u16 p 4)))) = false := by
    simp only [hz, hba, hbb, decide_eq_false (show ¬ 2 < role by omega), decide_eq_false (show ¬ 3 < u8 p 3 by omega),
      decide_eq_false (show ¬ 5 < a by omega), decide_eq_false (show ¬ 5 < b by omega),
      decide_eq_false (show ¬ 16384 < u16 p 4 by omega), beq_eq_false_iff_ne.2 hab, beq_eq_false_iff_ne.2 (show u16 p 4 ≠ 0 by omega)]
    simp
  refine (exec_takes rfl ht hst).trans ?_
  simp only [cmdTwinPair, ← hrole, ← ha, ← hb, ← hbusy, if_neg hr0]
  rw [Ans.check_pass _ _ _ ?_]
  · rfl
  · simp only [hbad, hbz, hunlike a (by simp), hunlike b (by simp), hoa, hob]
    simp [hr0]

/-- The device back to itself, its links not brought up again yet (R447). -/
def State.twinLeft (t : State) : State :=
  (((t.setTwin 0).setMuted false).setChg false).setReg Reg.TWIN.CFG (resetWord Reg.TWIN.CFG)

theorem exec_twinPair_leaves {h : Hdr} {p : List Byte} {s t : State} (ht : s.takes 0x0B01 h = true) (hst : t = s.stamped h)
    (h0 : u8 p 0 = 0) (hf : u8 p 3 ≤ 3) (hz : zeroFrom p 8 = true) :
    exec (.twinPair h p) s = .next (let s2 := (t.twinLeft.relink (t.rd Reg.TWIN.CFG.LINK_A)).relink (t.rd Reg.TWIN.CFG.LINK_B)
      State.answer { s2 with twin := { s2.twin with partner := 0, encReq := false, carrier := false, actTick := none } } h Sts.ok 0 []) := by
  have hp : t.paired = false := by
    have h1 : t.twinState = 0 := by rw [hst]; exact State.twinState_of_takes ht
    simp [State.paired, h1]
  refine (exec_takes rfl ht hst).trans ?_
  simp only [cmdTwinPair, h0, if_true]
  rw [Ans.check_pass _ _ _ ?_]
  · rfl
  · simp [hp, hz, Nat.not_lt.2 hf]

theorem State.linkUp_twinLeft (t : State) {k : Nat} (hk : k < 8) : t.twinLeft.linkUp k = t.linkUp k := by
  have hw : ∀ (u : State) (f : Fld) (v : Nat), 0x401000 ≤ f.off → (u.wr f v).linkUp k = u.linkUp k :=
    fun u f v hf => u.linkUp_wr_twin v hk hf
  rw [State.twinLeft, State.linkUp_setReg_twin _ _ hk]
  simp (disch := decide) only [State.setChg, State.setMuted, State.setTwin, State.flag, hw]

theorem State.reg_withTwin (s : State) (x : TwinSt) (o : Nat) : ({ s with twin := x } : State).reg o = s.reg o := rfl

theorem State.rd_withLedTwin (s : State) (x : LedgerSt) (y : TwinSt) (f : Fld) :
    ({ s with led := x, twin := y } : State).rd f = s.rd f := rfl

theorem State.twinState_withTwin (s : State) (x : TwinSt) : ({ s with twin := x } : State).twinState = s.twinState := rfl

theorem State.twinState_updLink (s : State) (k : Nat) (f : LinkDyn → LinkDyn) : (s.updLink k f).twinState = s.twinState := by
  simp only [State.twinState, State.rd_updLink]

theorem State.linkUp_updLink (s : State) (k : Nat) (f : LinkDyn → LinkDyn) (n : Nat) : (s.updLink k f).linkUp n = s.linkUp n := by
  simp only [State.linkUp, State.rd_updLink]

theorem State.followTwin_of_primary {s : State} (h : s.rd Reg.TWIN.CFG.ROLE ≠ 2) : s.followTwin = s := by
  simp only [State.followTwin, if_pos h]

/-- A device that carries on alone is the carrier of a twin in SYNCING. -/
theorem State.carryOn_syncing (s : State) : s.carryOn.twinState = 1 ∧ s.carryOn.twin.carrier = true ∧ s.carryOn.twin.actTick = none := by
  simp (disch := decide) only [State.carryOn, State.twinState, State.setTwin, State.setChg, State.flag, State.rd_wr_apart, State.rd_wr_same,
    State.rd_withTwin, State.wr_twin]
  exact ⟨rfl, trivial, trivial⟩

/-- The references over links that are gone. -/
theorem State.onlyTick_linkSources (l : List Nat) : ∀ s : State, s.OnlyTick (l.foldl (fun t k =>
    (t.setRef 4 0 k { t.ref 4 0 k with alive := false, validRun := 0 }).sourceGone 4 0 k) s) := by
  induction l with
  | nil => exact State.OnlyTick.refl
  | cons k l ih => exact fun s => ((s.onlyTick_setRef 4 0 k _).trans (State.onlyTick_sourceGone _ 4 0 k)).trans (ih _)

/-- The state sent to the partner names the activation tick, two ticks on. -/
theorem State.sendState_sends (s : State) : s.sendState.twin.actTick = some (s.now + 2) ∧ s.sendState.twinState = s.twinState ∧
    s.sendState.out = s.out ++ [.state (s.led.contracts.filter (fun x => x.2.st != .released)) s.strm.ports s.strm.flows s.take s.strm.noRevert
      (s.now + 2)] := ⟨rfl, rfl, rfl⟩

/-- Orphaned locks leave every register outside the locks alone. -/
theorem State.rd_orphan (s : State) (m : Nat) {g : Fld} (h1 : 0x31000 ≤ g.off) (h2 : g.off < 0x1000000) : (s.orphan m).rd g = s.rd g := by
  have hstep : ∀ (l : List Nat), (∀ o ∈ l, lockOff o = true) → ∀ t : State,
      (l.foldl (fun t o => (t.setReg o 0).bump (lockOrphans o)) t).rd g = t.rd g := by
    intro l
    induction l with
    | nil => intro _ t; rfl
    | cons o l ih =>
      intro hl t
      have ho : o < 0x30C00 ∨ 0x1000000 ≤ o := by
        have := hl o (by simp)
        simp only [lockOff, Bool.or_eq_true, decide_eq_true_eq] at this
        omega
      have hne : g.off ≠ (lockOrphans o).off := by
        simp only [lockOrphans]
        split
        · simp only [Reg.LOCKS.STATUS.ORPHAN_CNT, Reg.LOCKS.STATUS]; omega
        · simp only [Reg.CLU.LOCK_STATUS.ORPHAN_CNT, Reg.CLU.LOCK_STATUS]; omega
      rw [List.foldl_cons, ih (fun x hx => hl x (by simp [hx])), State.bump, State.rd_wr_other _ _ hne]
      simp only [State.rd, State.reg_setReg_other _ _ (show g.off ≠ o by omega)]
  refine hstep _ ?_ s
  intro o ho
  obtain ⟨e, he, rfl⟩ := List.mem_map.1 ho
  have := (List.mem_filter.1 he).2
  simp only [Bool.and_eq_true] at this
  exact this.1

end Sys2Proof.Machine

open Sys2Proof Sys2Proof.Machine

/-- Settles O43: the pairing's refusals ruled out, and each row's registers read back through what the row leaves alone. -/
theorem twins : Obligations.Twins := by
  unfold Obligations.Twins
  refine ⟨?twinPair, ?twinPair2, ?twinPair3, ?twinPair4, ?twinStatus, ?effect, ?digestReceive, ?effect2, ?digestReceive2, ?digestReceive3, ?digestReceive4, ?stateTransferReceive, ?rejoinActivation, ?rejoinEngineCopy, ?rejoinMatchComplete, ?rejoinSlow, ?twinPeerOkFall, ?linksLost, ?effect3⟩
  case twinPair =>
    intro h p role a b busy s t ht hst h3 h4 h5 h6 h7 h8 h9 h10 h11 h12 h13 h14 h15 h16 h17 h18 h19
    exact exec_twinPair_joins ht hst h3 h4 h5 h6 h7 h8 h9 h10 h11 h12 h13 h14 h15 h16 h17 h18 h19
  case twinPair2 =>
    intro h p s t ht hst h3 h4 h5 h6
    exact exec_twinPair_leaves ht hst h3 h4 h5
  case twinPair3 =>
    intro h p role a b s u ht hst h3 h4 h5 h6 h7 h8 h9 h10 h11 h12 h13 h14 h15 h16 h17 h18 h19 h20 h21
    have hbusy : u.liveWhere (fun _ => true) = [] := (State.liveWhere_all u).trans h17
    have hj := exec_twinPair_joins (busy := false) ht hst h3 h4 h5 h6 h7 h8 h9 h10 h11 h12 h13 h14 h15 h16 (by rw [hbusy]; rfl) (Or.inl rfl)
      (by
        intro k hk hu
        simp only [List.mem_cons, List.not_mem_nil, or_false] at hk
        rcases hk with rfl | rfl
        · rw [h18] at hu; cases hu
        · rw [h19] at hu; cases hu)
    rw [State.relink_of_down ((State.linkUp_twinJoined _ _ _ _ _ _ h7).trans h18),
      State.relink_of_down ((State.linkUp_twinJoined _ _ _ _ _ _ h8).trans h19), h20, h21] at hj
    refine ⟨_, hj, ?_⟩
    simp (disch := decide) only [State.twinJoined, State.twinState, State.isSet, State.setMuted, State.setTwin, State.setChg, State.flag,
      State.rd_wr_other, State.rd_wr_apart, State.rd_wr_same, State.rd_withTwin, State.wr_twin]
    have ha : a % 2 ^ Reg.TWIN.CFG.LINK_A.w = a := Nat.mod_eq_of_lt (by simp only [Reg.TWIN.CFG.LINK_A]; omega)
    have hb : b % 2 ^ Reg.TWIN.CFG.LINK_B.w = b := Nat.mod_eq_of_lt (by simp only [Reg.TWIN.CFG.LINK_B]; omega)
    rw [ha, hb]
    rcases h4 with rfl | rfl <;> simp [Reg.TWIN.STATUS.STATE, Reg.TWIN.CFG.ROLE, Reg.TWIN.STATUS.MUTED, Reg.TWIN.STATUS.CHG_SEL]
  case twinPair4 =>
    intro h p s u ht hst h3 h4 h5 h6 h7
    refine ⟨_, exec_twinPair_leaves ht hst h3 h4 h5, ?_⟩
    have hA : u.rd Reg.TWIN.CFG.LINK_A < 8 := State.rd_lt _ _
    have hB : u.rd Reg.TWIN.CFG.LINK_B < 8 := State.rd_lt _ _
    rw [State.relink_of_down ((State.linkUp_twinLeft _ hA).trans h6), State.relink_of_down ((State.linkUp_twinLeft _ hB).trans h7)]
    refine ⟨?_, (State.reg_withTwin _ _ _).trans (State.reg_setReg_same _ _ _), ?_, rfl⟩
    · rw [State.twinState, State.rd_withTwin, State.twinLeft, State.rd_setReg_other _ _ (by decide)]
      simp (disch := decide) only [State.setMuted, State.setTwin, State.setChg, State.flag, State.rd_wr_apart, State.rd_wr_same]
      rfl
    · rw [State.isSet, State.rd_withTwin, State.twinLeft, State.rd_setReg_other _ _ (by decide)]
      simp (disch := decide) only [State.setMuted, State.setTwin, State.setChg, State.flag, State.rd_wr_apart, State.rd_wr_same]
      rfl
  case twinStatus =>
    intro h p s t ht hst h3
    exact exec_accepts rfl ht hst rfl (by simp [h3])
  case effect =>
    intro s
    simp (disch := decide) only [State.withdraw, State.twinState, State.isSet, State.setMuted, State.setTwin, State.setChg, State.flag, State.evt,
      State.bump, State.rd_wr_other, State.rd_wr_apart, State.rd_wr_same, State.rd_withTwin, State.wr_twin]
    simp [State.now, Reg.TWIN.STATUS.STATE, Reg.TWIN.STATUS.MUTED, Reg.TWIN.EVENT.DIVERGED]
  case digestReceive =>
    intro d s h1 h2 h3 h4 h5 h6
    have hc : ¬ (s.rd Reg.TWIN.CFG.ROLE = 0 ∨ d.tick + 1 ≠ s.now) := by simp [h1, h2]
    have hmolt : s.digest.molt = false := h6
    have hm : ((d.instar != s.digest.instar || d.image != s.digest.image) && !d.molt && !s.digest.molt) = true := by
      simp [h4, h5, hmolt]
    simp only [exec, execDigestReceive, if_neg hc]
    simp only [hm, if_true, h3, h1, decide_true, State.verdict]
    refine ⟨_, rfl, ?_⟩
    rw [State.isSet, State.rd_evt_same _ _ rfl (by decide)]
    rfl
  case effect2 =>
    intro s
    rfl
  case digestReceive2 =>
    intro d s h1 h2 h3 h4 h5 h6
    have hc : ¬ (s.rd Reg.TWIN.CFG.ROLE = 0 ∨ d.tick + 1 ≠ s.now) := by simp [h1, h2]
    have hm : ((d.instar != s.digest.instar || d.image != s.digest.image) && !d.molt && !s.digest.molt) = false := by
      simp [h4, h5]
    have hcmp : s.compared d.crcs = d.crcs := by simp [State.compared, h6]
    have hown : s.digest.crcs = s.twin.sentCrcs := rfl
    simp only [exec, execDigestReceive, if_neg hc]
    simp only [hm, Bool.false_eq_true, if_false, h3, true_or, if_true, List.foldl_cons, List.foldl_nil, hcmp, hown]
    refine ⟨_, rfl, by simp, ?_⟩
    rw [State.rd_wr_same _ _ _ rfl]
    have h16 : ∀ n, min 8 n % 2 ^ Reg.TWIN.STATUS.MATCH_RUN.w = min 8 n := fun n => Nat.mod_eq_of_lt (by simp only [Reg.TWIN.STATUS.MATCH_RUN]; omega)
    cases crcDiffer (s.compared s.twin.sentCrcs) d.crcs <;> cases crcDiffer d.crcs s.twin.sentCrcs <;> simp [h16]
  case digestReceive3 =>
    intro d s h1 h2 h3 h4 h5 h6
    have hc : ¬ (s.rd Reg.TWIN.CFG.ROLE = 0 ∨ d.tick + 1 ≠ s.now) := by simp [h1, h2]
    have hm : ((d.instar != s.digest.instar || d.image != s.digest.image) && !d.molt && !s.digest.molt) = false := by
      simp [h5, h6]
    have hq : ¬ (s.twinState = 2 ∨ s.twinState = 1 ∧ s.twin.carrier = true ∧ d.st = 2) := by omega
    have h3' : ¬ s.twinState = 3 := by omega
    simp only [exec, execDigestReceive, if_neg hc]
    simp only [hm, Bool.false_eq_true, if_false, if_neg hq, if_neg h3']
    simp only [h4, ne_eq, not_true_eq_false, or_self, if_false, if_true, List.foldl_cons, List.foldl_nil, State.partnerSyncs,
      State.twinState_updLink, State.twinState_withTwin, h3]
    refine ⟨_, rfl, ?_⟩
    exact State.carryOn_syncing _
  case digestReceive4 =>
    intro d s h1 h2 h3 h4 h5 h6 h7 h8 h9 h10
    have hc : ¬ (s.rd Reg.TWIN.CFG.ROLE = 0 ∨ d.tick + 1 ≠ s.now) := by simp [h1, h2]
    have hm : ((d.instar != s.digest.instar || d.image != s.digest.image) && !d.molt && !s.digest.molt) = false := by
      simp [h7, h8]
    have hq : ¬ (s.twinState = 2 ∨ s.twinState = 1 ∧ s.twin.carrier = true ∧ d.st = 2) := by omega
    have h3' : ¬ s.twinState = 3 := by omega
    have h34 : ¬ s.twinState = 4 := by omega
    simp only [exec, execDigestReceive, if_neg hc]
    simp only [hm, Bool.false_eq_true, if_false, if_neg hq, if_neg h3']
    simp only [h6, ne_eq, not_true_eq_false, or_self, if_false, if_true, List.foldl_cons, List.foldl_nil, State.partnerSyncs,
      State.twinState_updLink, State.twinState_withTwin, State.rd_withTwin, if_neg h34]
    rw [if_pos ?_]
    · refine ⟨_, rfl, ?_⟩
      obtain ⟨ha, hs, ho⟩ := State.sendState_sends (State.updLink (State.updLink { s with twin := { s.twin with mismatch := false } }
        (s.rd Reg.TWIN.CFG.LINK_A) (fun x => { x with agree := true })) (s.rd Reg.TWIN.CFG.LINK_B) (fun x => { x with agree := true }))
      exact ⟨ha, hs.trans (((State.twinState_updLink ..).trans (State.twinState_updLink ..)).trans h3), ho⟩
    · simp only [State.updLink_twin, State.linkUp_updLink, State.rd_updLink, State.linkUp_withTwin, State.rd_withTwin]
      exact ⟨h3, h4, h5, h9, h10⟩
  case stateTransferReceive =>
    intro a s h1 h2 h3 h4 h5 h6
    have hc : ¬ (!(s.twinState == 1 && !s.twin.carrier && (s.mode == 3 || s.mode == 4) && !s.twin.mismatch &&
        s.linkUp (s.rd Reg.TWIN.CFG.LINK_A) && s.linkUp (s.rd Reg.TWIN.CFG.LINK_B))) = true := by
      rcases h3 with h3 | h3 <;> simp [h1, h2, h3, h4, h5, h6]
    simp only [exec, execStateTransferReceive, if_neg hc, List.foldl_nil]
    exact ⟨_, rfl, rfl, rfl, rfl⟩
  case rejoinActivation =>
    intro a s h1 h2 h3 h4 h5 h6
    have hc : s.twinState = 1 ∧ ¬ s.twin.carrier = true ∧ a ≤ s.now ∧ (s.mode = 4 ∨ 2 ≤ s.lock) := ⟨h2, by simp [h3], h4, Or.inl h6⟩
    have hl : s.liveWhere (fun c => c.muted && c.st == .admitted) = [] := by simp [State.liveWhere, h5]
    simp only [exec, execRejoinActivation, h1, if_pos hc, if_pos h6, hl, List.foldl_nil]
    refine ⟨_, rfl, ?_⟩
    simp (disch := decide) only [State.mode, State.twinState, State.isSet, State.setMuted, State.setTwin, State.flag, State.rd_wr_other,
      State.rd_wr_apart, State.rd_wr_same, State.rd_withTwin]
    exact ⟨h6, rfl, rfl, rfl, trivial⟩
  case rejoinEngineCopy =>
    intro c s h1 h2
    simp [exec, execRejoinEngineCopy, h1, h2, sortNat, insNat]
  case rejoinMatchComplete =>
    intro s h1 h2 h3
    have hc : 8 ≤ s.rd Reg.TWIN.STATUS.MATCH_RUN ∧ (s.twinState = 2 ∨ (s.twinState = 1 ∧ s.twin.carrier = true)) := ⟨h1, Or.inl h2⟩
    simp only [exec, execRejoinMatchComplete, if_pos hc]
    refine ⟨_, rfl, ?_⟩
    rw [State.followTwin_of_primary ?_]
    · simp (disch := decide) only [State.twinState, State.isSet, State.setMuted, State.setTwin, State.setChg, State.flag, State.evt, State.rd_wr_other,
        State.rd_wr_apart, State.rd_wr_same, State.rd_withLedTwin, h3, State.wr_twin]
      exact ⟨rfl, rfl, rfl, rfl, trivial⟩
    · simp (disch := decide) only [State.setMuted, State.setTwin, State.setChg, State.flag, State.evt, State.rd_wr_other, State.rd_withLedTwin, h3]
      decide
  case rejoinSlow =>
    intro s h1 h2 h3
    simp [exec, execRejoinSlow, h1, h2, h3]
  case twinPeerOkFall =>
    intro s h1
    simp [exec, execTwinPeerOkFall, execFaultMessageReceive, h1]
  case linksLost =>
    intro s h1 h2 h3 h4 h5 h6
    have hc : s.rd Reg.TWIN.CFG.ROLE ≠ 0 ∧ s.twinState ≠ 0 ∧ s.twinState ≠ 4 ∧ s.isSet Reg.TWIN.STATUS.PEER_OK = true ∧
        ¬ s.linkUp (s.rd Reg.TWIN.CFG.LINK_A) = true ∧ ¬ s.linkUp (s.rd Reg.TWIN.CFG.LINK_B) = true := by
      simp [h1, h2, h3, h4, h5]
    simp only [exec, execLinksLost, if_pos hc, h6, Bool.false_eq_true, if_false]
    split <;> simp
  case effect3 =>
    intro s h1 h2 h3
    have hc : ¬ (s.twinState = 0 ∨ s.twinState = 4) := by omega
    have ho : ∀ g : Fld, 0x31000 ≤ g.off → g.off < 0x1000000 → (s.orphan 7).rd g = s.rd g := fun g => s.rd_orphan 7
    have hst : (s.orphan 7).staggerLost = s.orphan 7 := by
      simp only [State.staggerLost, ho Reg.MOLT.STATUS.STAGGER (by decide) (by decide), h3, if_true]
    have hrd : ∀ (u : State) (l : List Nat) (g : Fld), 0x61000 ≤ g.off → (l.foldl (fun t k =>
        (t.setRef 4 0 k { t.ref 4 0 k with alive := false, validRun := 0 }).sourceGone 4 0 k) u).rd g = u.rd g :=
      fun u l => (u.onlyTick_linkSources l).rd
    have htw : ∀ (u : State) (l : List Nat), (l.foldl (fun t k =>
        (t.setRef 4 0 k { t.ref 4 0 k with alive := false, validRun := 0 }).sourceGone 4 0 k) u).twin = u.twin :=
      fun u l => (u.onlyTick_linkSources l).twin
    simp only [State.partnerLost, if_neg hc, hst, h2, Bool.false_eq_true, if_false]
    simp (disch := decide) only [State.twinState, State.isSet, hrd, htw, State.setTwin, State.setChg, State.flag, State.evt, State.rd_wr_other, State.rd_wr_apart,
      State.rd_wr_same, State.rd_withTwin, State.wr_twin, ho]
    refine ⟨rfl, rfl, trivial, ?_⟩
    cases s.rd Reg.TWIN.CFG.ROLE == 1 <;> rfl

end

section
set_option Elab.async false
/-! The mesh's routes and INSTAR (R453–R456). -/

namespace Sys2Proof.Machine

/-- A range of device IDs that a route may name. -/
theorem route_inRange {lo hi : Nat} (h : 1 ≤ lo ∧ lo ≤ hi ∧ hi ≤ 16384) : (lo == 0 || decide (hi < lo) || decide (16384 < hi)) = false := by
  rw [beq_eq_false_iff_ne.2 (by omega), decide_eq_false (by omega), decide_eq_false (by omega)]
  rfl

end Sys2Proof.Machine

open Sys2Proof Sys2Proof.Machine

/-- Settles O44: each operation of MESH_ROUTE_SET with its own refusals ruled out. -/
theorem meshAndRoutes : Obligations.MeshAndRoutes := by
  unfold Obligations.MeshAndRoutes
  refine ⟨?meshRouteSet, ?meshRouteSet2, ?meshRouteSet3, ?meshRouteSet4, ?meshRouteSet5, ?meshStatus, ?instarSet, ?instarSetApply⟩
  case meshRouteSet =>
    intro h p s t ht hst h3 h4 h5 h6
    refine (exec_takes rfl ht hst).trans ?_
    simp only [cmdMeshRouteSet, h3]
    rw [Ans.check_pass _ _ _ ?_]
    · rfl
    · have hid : (u16 p 2 != t.meshId && !(t.liveWhere (fun c => c.d.xdev || c.owner != 0)).isEmpty) = false := by
        rcases h6 with h6 | h6 <;> simp [h6]
      simp [h4, hid, Nat.not_lt.2 h5.2, Nat.ne_of_gt h5.1]
  case meshRouteSet2 =>
    intro h p s t ht hst h3 h4 h5 h6 h7
    have hr := route_inRange h6
    refine (exec_takes rfl ht hst).trans ?_
    simp only [cmdMeshRouteSet, h3, List.length_append, List.length_cons, List.length_nil]
    rw [Ans.check_pass _ _ _ ?_]
    · rfl
    · simp [h5, hr, Nat.not_lt.2 h4, Nat.not_le.2 h7]
  case meshRouteSet3 =>
    intro h p s t ht hst h3 h4 h5 h6
    have hr := route_inRange h5
    refine (exec_takes rfl ht hst).trans ?_
    simp only [cmdMeshRouteSet, h3]
    rw [Ans.check_pass _ _ _ ?_]
    · rfl
    · simp only [hr, h6, h4]
      simp
  case meshRouteSet4 =>
    intro h p s t ht hst h3 h4 h5
    refine (exec_takes rfl ht hst).trans ?_
    simp only [cmdMeshRouteSet, h3]
    rw [Ans.check_pass _ _ _ ?_]
    · rfl
    · simp [h4, Nat.not_lt.2 h5]
  case meshRouteSet5 =>
    intro h p s t ht hst h3 h4 h5 h6
    have hrate : (u8 p 9 / 4 == 3) = false := by
      rw [beq_eq_false_iff_ne]
      omega
    refine (exec_takes rfl ht hst).trans ?_
    simp only [cmdMeshRouteSet, h3]
    rw [Ans.check_pass _ _ _ ?_]
    · rfl
    · simp [h6, hrate, Nat.not_lt.2 h4]
      omega
  case meshStatus =>
    intro h p s t ht hst h3
    exact exec_accepts rfl ht hst rfl (by simp [h3])
  case instarSet =>
    intro h p s t ht hst h3 h4 h5
    refine (exec_takes rfl ht hst).trans ?_
    simp only [cmdInstarSet]
    rw [Ans.check_pass _ _ _ ?_, State.deliver_say]
    simp only [h3, h4]
    exact List.forall_mem_cons.2 ⟨rfl, List.forall_mem_cons.2 ⟨h5, fun _ hn => absurd hn List.not_mem_nil⟩⟩
  case instarSetApply =>
    intro eff i g st s h1
    exact congrArg Host.Outcome.next (State.applyDue_single h1 rfl)

end

section
set_option Elab.async false
/-! Supplies (R457–R469). -/

namespace Sys2Proof.Machine

theorem State.holdReset_hold (s : State) (c : Hold) : (s.holdReset c).pwr.hold = c := by
  rw [State.holdReset]

/-- The rail that a supply fault names shows its fault (R462). -/
def State.railLost (s : State) (cause mc : Nat) : State :=
  match cause with
  | 2 => s.wr Reg.PWR.SUPPLY.VLANE_OK 0
  | 3 => s.wr Reg.PWR.SUPPLY.VLANE_HV_OK 0
  | 4 => s.wr Reg.PWR.SUPPLY.VDDQ_OK (clrBit (s.rd Reg.PWR.SUPPLY.VDDQ_OK) mc)
  | _ => s

theorem exec_supplyFault_of_rail {cause mc : Nat} {s u : State} (hc : ¬ (cause = 0 ∨ 4 < cause ∨ (cause = 4 ∧ s.nMcs ≤ mc)))
    (hu : s.railLost cause mc = u) :
    exec (.supplyFault cause mc) s = .next ((if u.mode = 1 then u.countFail 6 else u).supplyStop cause mc .supply) := by
  change execSupplyFault cause mc s = _
  unfold execSupplyFault
  rw [if_neg hc]
  extract_lets s1 s2
  have h1 : s1 = u := hu
  simp only [s2, h1]

end Sys2Proof.Machine

open Sys2Proof Sys2Proof.Machine

/-- Settles O45: each row from its own body; the path's switch and the stop are read back from the registers. -/
theorem supplies : Obligations.Supplies := by
  unfold Obligations.Supplies
  refine ⟨?vinInputFault, ?vinReturnQualified, ?effect, ?vauxInputFault, ?pwrForceBWrite, ?supplyFault, ?effect2, ?supplyRecovery, ?vauxLoss, ?supplyStatus⟩
  case vinInputFault =>
    intro s
    simp [exec, execVinInputFault]
  case vinReturnQualified =>
    intro s
    simp [exec, execVinReturnQualified]
  case effect =>
    intro b s h1
    have hne : ¬ s.isSet Reg.PWR.SUPPLY.SEL = b := h1
    simp only [State.pathTo, if_neg hne]
    cases b <;> constructor <;> simp (disch := decide) only [State.isSet, State.evt, State.flag, State.rd_wr_other, State.rd_wr_same, if_true, if_false, Bool.false_eq_true] <;> rfl
  case vauxInputFault =>
    intro s
    simp [exec, execVauxInputFault, execVauxReturnQualified]
  case pwrForceBWrite =>
    intro s
    constructor <;> simp only [exec, execPwrForceBWrite, State.flag, Bool.false_eq_true, if_true, if_false]
  case supplyFault =>
    intro mc s
    have hc : ∀ c, 1 ≤ c → c < 4 → ¬ (c = 0 ∨ 4 < c ∨ (c = 4 ∧ s.nMcs ≤ mc)) := by
      intro c h1 h2
      omega
    exact ⟨exec_supplyFault_of_rail (hc 1 (by decide) (by decide)) rfl, exec_supplyFault_of_rail (hc 2 (by decide) (by decide)) rfl,
      exec_supplyFault_of_rail (hc 3 (by decide) (by decide)) rfl, fun hmc => exec_supplyFault_of_rail (by omega) rfl⟩
  case effect2 =>
    intro cause mc h s h1 h2
    constructor
    · rw [State.supplyStop]
    · rw [State.supplyStop, State.holdReset_hold]
  case supplyRecovery =>
    intro s h1
    simp [exec, execSupplyRecovery, execVioFault, h1]
  case vauxLoss =>
    intro s
    rfl
  case supplyStatus =>
    intro h p va vb ia ib s t ht hst h3 h4 h5 h6 h7
    subst h4 h5 h6 h7
    exact exec_accepts rfl ht hst rfl (by simp [h3])

end

section
set_option Elab.async false
/-! Power domains and operating points (R470–R487). -/

namespace Sys2Proof.Machine

theorem State.dom_wr_other (s : State) {f : Fld} (d v : Nat) (h : f.off < 0x80020 ∨ 0x80028 ≤ f.off) : (s.wr f v).dom d = s.dom d := by
  refine State.rd_wr_other _ _ ?_
  simp only [domFld, Reg.PWR.DOM0, Reg.PWR.DOM1]
  split <;> simp only [ne_eq] <;> omega

theorem State.dom_setDom_same {s : State} {d x : Nat} (hp : s.domPresent d = true) (hd : d < 30) (hx : x ≤ 3) : (s.setDom d x).dom d = x := by
  have hf : fits32 (domFld d) = true := by
    simp only [domFld, fits32]
    split <;> simp only [decide_eq_true_eq] <;> omega
  have hw : (domFld d).w = 2 := by
    simp only [domFld]
    split <;> rfl
  simp only [State.setDom, if_pos hp]
  rw [State.dom, State.rd_wr_same _ _ _ hf, hw]
  omega

theorem State.dom_fabState (s : State) (d x n : Nat) : (s.fabState d x).dom n = s.dom n := by
  simp only [State.fabState]
  split
  · exact s.dom_wr_other _ _ (Or.inr (by simp [Reg.FAB.DOM_STATE]))
  · rfl

theorem State.rd_initTiles (s : State) (d : Nat) (f : Fld) : (s.initTiles d).rd f = s.rd f := by
  have hstep : ∀ (l : List Nat) (u : State), (l.foldl State.initTile u).rd f = u.rd f := by
    intro l
    induction l with
    | nil => exact fun _ => rfl
    | cons t l ih =>
      intro u
      rw [List.foldl_cons, ih]
      simp only [State.initTile]
      split
      · rfl
      · exact State.rd_withCells _ _ _
  exact hstep _ _

theorem insertSeq_append {q : DomSeq} {a b : List DomSeq} (ha : ∀ x ∈ a, x.running = true ∨ x.tick ≤ q.tick)
    (hb : ∀ x ∈ b, x.running = false ∧ q.tick < x.tick) : insertSeq q (a ++ b) = a ++ q :: b := by
  induction a with
  | nil =>
    cases b with
    | nil => rfl
    | cons x xs =>
      obtain ⟨hr, ht⟩ := hb x (by simp)
      have hc : ¬ (x.running = true ∨ x.tick ≤ q.tick) := by simp [hr, ht]
      simp only [List.nil_append, insertSeq, if_neg hc]
  | cons x xs ih =>
    have hc : x.running = true ∨ x.tick ≤ q.tick := ha x (by simp)
    simp only [List.cons_append, insertSeq, if_pos hc, ih (fun y hy => ha y (by simp [hy]))]

end Sys2Proof.Machine

open Sys2Proof Sys2Proof.Machine

/-- Settles O46: each refusal ruled out in turn; a domain's state and a point are read back from the registers. -/
theorem domainsAndPoints : Obligations.DomainsAndPoints := by
  unfold Obligations.DomainsAndPoints
  refine ⟨?domainPower, ?domainPower2, ?effect, ?domainSequenceStart, ?domainSequenceDone, ?domainSequenceDone2, ?effect2, ?oppointSet, ?oppointRaiseStart, ?oppointSwitch, ?effect3, ?oppointVoltageReached⟩
  case domainPower =>
    intro h p d s t ht hst h3 h4 h5 h6 h7 h8 h9 h10
    refine (exec_takes rfl ht hst).trans ?_
    have hfin : t.domFinal d = t.dom d := by simp [State.domFinal, h9]
    have hok : decide (2 ≤ d ∧ d ≤ 29) = true := decide_eq_true h4
    simp only [cmdDomainPower, ← h3, hok, hfin, h10, beq_self_eq_true, Bool.and_self, if_true]
    rw [Ans.check_pass _ _ _ ?_, State.deliver_say]
    simp [h5, h6, h7, h8, h9]
  case domainPower2 =>
    intro h p d st eff bef s t ht hst h3 h4 h5 h6 h7 h8 h9 h10 h11 h12 h13 h14 h15 h16
    obtain ⟨hd, hst8⟩ := h3
    have hok : decide (2 ≤ d ∧ d ≤ 29) = true := decide_eq_true h4
    have hsame : (t.domFinal d == st) = false := beq_eq_false_iff_ne.2 h10
    have hneeds : (decide (2 ≤ st) && (domNeeds d).any (fun n => stAt bef n != 3)) = false := by
      rcases h13 with hl | hn
      · rw [decide_eq_false (by omega), Bool.false_and]
      · rw [hn, Bool.and_false]
    have hleave : ∀ b : Bool, (stAt bef d ≠ 3 ∨ st = 3 ∨ b = false) → (stAt bef d == 3 && st != 3 && b) = false := by
      intro b hb
      rcases hb with hb | hb | hb
      · rw [beq_eq_false_iff_ne.2 hb]; rfl
      · simp [hb]
      · rw [hb, Bool.and_false]
    have husers : (stAt bef d == 3 && st != 3 && (List.range 30).any (fun x => (domNeeds x).contains d && decide (2 ≤ stAt bef x))) = false :=
      hleave _ (h15.imp_right (Or.imp_right (·.1)))
    have hheld : (stAt bef d == 3 && st != 3 && t.domHeldBad d) = false := hleave _ (h15.imp_right (Or.imp_right (·.2.1)))
    have hbreak : (stAt bef d == 3 && st != 3 && t.domBreaks d) = false := hleave _ (h15.imp_right (Or.imp_right (·.2.2)))
    have hfit : (decide (stAt bef d < st) && !(State.raiseFits { t with pwr := { t.pwr with seqs :=
        t.pwr.seqs ++ [{ dom := d, st := st, tick := eff.1, running := true }] } })) = false := by
      rcases h16 with hl | hn
      · rw [decide_eq_false (by omega), Bool.false_and]
      · rw [hn]; simp
    refine (exec_takes rfl ht hst).trans ?_
    simp only [cmdDomainPower, ← hd, ← hst8, ← h11, ← h12, hok, hsame, Bool.and_false, Bool.false_eq_true, if_false, Bool.not_false, Bool.true_and]
    rw [Ans.check_pass _ _ _ ?_, State.deliver_say]
    simp only [hneeds, husers, hheld, hbreak, h14, h9, h8, h5, h6, h7, hfit]
    simp
  case effect =>
    intro q a b h1 h2
    exact insertSeq_append h1 h2
  case domainSequenceStart =>
    intro q qs s s1 h1 h2 h3 h4
    subst h4
    simp [exec, execDomainSequenceStart, h1, h2, h3]
  case domainSequenceDone =>
    intro q qs s h1 h2 h3 h4
    have hc : ¬ (¬ q.running = true ∨ (s.dom q.dom = 3 ∧ q.st < 3 ∧ s.domIdle q.dom = false)) := by
      rcases h3 with h3 | h3 | h3 <;> simp [h2, h3]
    simp only [exec, execDomainSequenceDone, h1, if_neg hc]
  case domainSequenceDone2 =>
    intro q qs s h1 h2 h3 h4
    simp [exec, execDomainSequenceDone, h1, h2, h3, h4]
  case effect2 =>
    intro d st s h1 h2 h3 h4 h5
    have hlt : ¬ st < s.dom d := by omega
    have hop : ∀ u : State, (if 5 ≤ d ∧ d ≤ 12 then u.wr (Reg.CLU.STATUS.OP (d - 5)) (u.rd (Reg.PWR.CLU.OP (d - 5))) else u).dom d = u.dom d := by
      intro u
      split
      · exact u.dom_wr_other _ _ (Or.inr (by simp only [Reg.CLU.STATUS.OP, Reg.CLU.STATUS]; omega))
      · rfl
    have hkeep : (s.domArrive d st).dom d = ((s.setDom d st).fabState d (if st = 3 then 2 else st)).dom d := by
      simp only [State.domArrive, if_neg hlt, h4, false_and, if_false]
      split
      · rw [State.dom, State.rd_initTiles]; exact hop _
      · exact hop _
    rw [hkeep, State.dom_fabState, State.dom_setDom_same h5 h3 h2]
  case oppointSet =>
    intro h p c pt cs s t ht hst h3 h4 h5 h6 h7 h8 h9 h10 h11 h12
    obtain ⟨hc, hpt⟩ := h3
    have hpres : (decide (c < 8) && decide (t.nClusters ≤ c)) = false := by
      rcases h5 with h | ⟨-, h, -⟩
      · rw [h]; rfl
      · rw [decide_eq_false (Nat.not_le.2 h), Bool.and_false]
    have hon : (decide (c < 8) && !t.domOn (5 + c)) = false := by
      rcases h5 with h | ⟨-, -, h⟩
      · rw [h]; rfl
      · rw [h]; simp
    have hbad : (decide (8 ≤ c) && c != 0xFF) = false := by
      rcases h5 with h | ⟨h, -, -⟩
      · simp [h]
      · rw [decide_eq_false (by omega), Bool.false_and]
    have hcool : (decide (1 < pt) && (t.posture == 2 || t.coolPending)) = false := by
      rcases h9 with h | ⟨h, h'⟩
      · rw [decide_eq_false (by omega), Bool.false_and]
      · simp [h, h']
    refine (exec_takes rfl ht hst).trans ?_
    simp only [cmdOppointSet, ← hc, ← hpt, ← h4, Nat.max_zero]
    rw [Ans.check_pass _ _ _ ?_, State.deliver_say]
    have hlow : (cs.any (fun k => decide (pt < t.rd (Reg.PWR.CLU.OP k))) && !t.fits { t.envNow with op := fun k => if cs.contains k then min (t.envNow.op k) pt else t.envNow.op k } ((t.chargesOf t.live).filter (fun x => x.res != 11))) = false := by
      rcases h11 with h | h
      · rw [h, Bool.false_and]
      · rw [h]; simp
    have hhigh : (cs.any (fun k => decide (t.rd (Reg.PWR.CLU.OP k) < pt)) && (t.isSet Reg.LEDGER.STATUS.THERM_BLOCK ||
        !(decide (t.maintPower { t.envNow with op := fun k => if cs.contains k then max (t.envNow.op k) pt else t.envNow.op k } ≤ t.envNow.cap) &&
          t.fits { t.envNow with op := fun k => if cs.contains k then max (t.envNow.op k) pt else t.envNow.op k } ((t.chargesOf t.live).filter (fun x => x.res == 11))))) = false := by
      rcases h12 with h | ⟨h, h', h''⟩
      · rw [h, Bool.false_and]
      · rw [h, h'', decide_eq_true h']; simp
    simp only [hpres, hon, hbad, hcool, hlow, hhigh, h7, h8, h10, decide_eq_false (Nat.not_lt.2 h6)]
    simp
  case oppointRaiseStart =>
    intro c t s h1 h2 h3
    simp [exec, execOppointRaiseStart, h1, h2, h3]
  case oppointSwitch =>
    intro c t s h1 h2
    simp [exec, execOppointSwitch, h1, h2]
  case effect3 =>
    intro c s h1
    have hstat : ∀ (u : State) (f g : Fld) (v : Nat), f.off = Reg.CLU.STATUS c → g.off = Reg.PWR.CLU c → (u.wr f v).rd g = u.rd g := by
      intro u f g v hf hg
      refine State.rd_wr_other _ _ ?_
      rw [hf, hg]
      simp only [Reg.PWR.CLU, Reg.CLU.STATUS]
      omega
    constructor
    · intro h
      simp only [State.opApply, if_neg (Nat.not_lt.2 h)]
    · intro h
      simp only [State.opApply, if_pos h, State.lowerOp]
      rw [State.isSet, State.rd_wr_same _ _ _ rfl]
      rfl
  case oppointVoltageReached =>
    intro c mv s h1 h2
    simp [exec, execOppointVoltageReached, h1, h2]

end

section
set_option Elab.async false
/-! Clocks, Eyespot counters and temperature (R488–R505). -/

namespace Sys2Proof.Machine

theorem signed_unsigned {x : Int} (h1 : -128 ≤ x) (h2 : x < 128) : signed 8 (unsigned 8 x % 256) = x := by
  simp only [signed, unsigned]
  norm_num
  split <;> omega

theorem signed_bounds (n : Nat) : -128 ≤ signed 8 n ∧ signed 8 n < 128 := by
  simp only [signed]
  norm_num
  split <;> omega

/-- A fold that keeps the greater of two ends with one that is not below any it met. -/
theorem foldl_argmax (temp : Nat → Int) {f : Option Nat → Nat → Option Nat} (hn : ∀ i, f none i = some i)
    (hs : ∀ j i, f (some j) i = if temp j < temp i then some i else some j) (l : List Nat) : ∀ b : Option Nat,
    (∀ i, b = some i → ∃ j, l.foldl f b = some j ∧ temp i ≤ temp j) ∧ (∀ i ∈ l, ∃ j, l.foldl f b = some j ∧ temp i ≤ temp j) := by
  induction l with
  | nil => exact fun b => ⟨fun i hb => ⟨i, hb, le_refl _⟩, fun i hi => absurd hi (by simp)⟩
  | cons x xs ih =>
    intro b
    have hstep : ∃ j, f b x = some j ∧ temp x ≤ temp j ∧ ∀ i, b = some i → temp i ≤ temp j := by
      cases b with
      | none => exact ⟨x, hn x, le_refl _, fun i hi => by cases hi⟩
      | some k =>
        by_cases hk : temp k < temp x
        · refine ⟨x, by rw [hs, if_pos hk], le_refl _, fun i hi => ?_⟩
          cases hi
          exact le_of_lt hk
        · refine ⟨k, by rw [hs, if_neg hk], not_lt.1 hk, fun i hi => ?_⟩
          cases hi
          exact le_refl _
    obtain ⟨j, hj, hx, hb⟩ := hstep
    obtain ⟨m, hm, hjm⟩ := (ih (f b x)).1 j hj
    refine ⟨fun i hi => ⟨m, hm, le_trans (hb i hi) hjm⟩, fun i hi => ?_⟩
    rcases List.mem_cons.1 hi with rfl | hi
    · exact ⟨m, hm, le_trans hx hjm⟩
    · exact (ih (f b x)).2 i hi

/-- A field of a sensor's register is none of the events. -/
theorem State.rd_sensor_evt (s : State) {i : Nat} {f g : Fld} (hf : f.off = Reg.PWR.EVENT) (hg : g.off = Reg.THERM.SENSOR i) :
    (s.evt f).rd g = s.rd g := by
  refine State.rd_wr_other _ _ ?_
  rw [hf, hg]
  simp only [Reg.PWR.EVENT, Reg.THERM.SENSOR]
  omega

theorem State.rd_hotRun (s : State) (i n : Nat) (f : Fld) : (s.hotRun i n).rd f = s.rd f := rfl

theorem State.rd_withPwr (s : State) (x : PwrSt) (f : Fld) : ({ s with pwr := x } : State).rd f = s.rd f := rfl

/-- A source that is there and on is neither absent nor off. -/
theorem State.clockSrc_ready {s : State} {c : Nat} (h : (s.clockSrc c).any (fun x => x.1 && s.domOn x.2) = true) :
    ∃ d, s.clockSrc c = some (true, d) ∧ s.domOn d = true := by
  cases hc : s.clockSrc c with
  | none => rw [hc] at h; cases h
  | some x =>
    rw [hc] at h
    obtain ⟨a, d⟩ := x
    simp only [Option.any_some, Bool.and_eq_true] at h
    obtain ⟨rfl, hd⟩ := h
    exact ⟨d, rfl, hd⟩

theorem State.sensorPresent_lt {s : State} {i : Nat} (h : s.sensorPresent i = true) : i < 16 := by
  simp only [State.sensorPresent] at h
  by_contra hi
  rw [if_neg (by omega), if_neg (by omega)] at h
  simp only [decide_eq_true_eq] at h
  omega

end Sys2Proof.Machine

open Sys2Proof Sys2Proof.Machine

/-- Settles O47: the clock rows by their guards, the sensors by what their register and the alarm hold. -/
theorem clocksAndTemperature : Obligations.ClocksAndTemperature := by
  unfold Obligations.ClocksAndTemperature
  refine ⟨?clockLossRcRunning, ?clockLossRcStopped, ?clockGapResume, ?mclkReturn, ?eyeGateStart, ?eyeGateEnd, ?clockMeasure, ?clockStatus, ?sensorSample, ?effect, ?effect2, ?thermalTrip, ?thermalRecovery, ?thermalRecovery2⟩
  case clockLossRcRunning =>
    intro cause forced s h1 h2
    simp [exec, execClockLossRcRunning, h1, h2]
  case clockLossRcStopped =>
    intro cause s h1 h2
    simp [exec, execClockLossRcStopped, h1, h2]
  case clockGapResume =>
    intro gap forced s h1
    simp [exec, execClockGapResume, h1]
  case mclkReturn =>
    intro s s1 h1 h2 h3 h4
    have hc : s.rd Reg.CLK.STATUS.SRC = 1 ∧ (s.isSet Reg.CLK.CFG.AUTO_RETURN = true ∨ s.isSet Reg.CLK.CFG.RETURN_REQ = true) := ⟨h1, h2⟩
    have hl : State.mclkLanes { s1 with twin := { s1.twin with ok := decide (3 ≤ s1.mode) } } = [] := h4
    refine ⟨?_, rfl⟩
    simp only [exec, execMclkReturn, if_pos hc, ← h3, hl, List.foldl_nil, Bool.false_eq_true, if_false]
  case eyeGateStart =>
    intro k s h1 h2 h3
    simp [exec, execEyeGateStart, h1, h2, h3]
  case eyeGateEnd =>
    intro k count s s1 h1 h2 h3
    have hc : k < 16 ∧ s.isSet (Reg.CLK.EYE_CFG.BUSY k) = true := ⟨h1, h2⟩
    constructor
    · intro h
      simp only [exec, execEyeGateEnd, if_pos hc, h, List.find?_nil, h3]
    · intro h h4
      simp [exec, execEyeGateEnd, hc, h4, h3]
  case clockMeasure =>
    intro h p k s t ht hst h3 h4 h5 h6 h7 h8 h9 h10 h11 h12
    obtain ⟨d0, hs0, ho0⟩ := State.clockSrc_ready h6
    obtain ⟨d1, hs1, ho1⟩ := State.clockSrc_ready h7
    have hfree : ((List.range 16).filter (fun i => !t.isSet (Reg.CLK.EYE_CFG.BUSY i))).contains k = true := by
      simp [h4, h5]
    have hk : (decide (16 ≤ u8 p 2) && u8 p 2 != 0xFF) = false := by
      by_cases hff : u8 p 2 = 0xFF
      · simp [hff]
      · rw [if_neg hff] at h3
        rw [decide_eq_false (by omega), Bool.false_and]
    refine (exec_takes rfl ht hst).trans ?_
    simp only [cmdClockMeasure, ← h3]
    rw [Ans.check_pass _ _ _ ?_]
    · rfl
    · simp only [hfree, hk, hs0, hs1, h9, h11, h12]
      simp [ho0, ho1, h8, h10]
  case clockStatus =>
    intro h p s t ht hst h3
    exact exec_accepts rfl ht hst rfl (by simp [h3])
  case sensorSample =>
    intro l s
    simp [exec, execSensorSample]
  case effect =>
    intro i x s h1 h2
    obtain ⟨hlo, hhi⟩ := h2
    obtain ⟨hplo, hphi⟩ := signed_bounds (s.rd (Reg.THERM.SENSOR.PEAK i))
    have hpk : ((s.wr (Reg.THERM.SENSOR.TEMP i) (unsigned 8 x)).wr (Reg.THERM.SENSOR.VALID i) 1).rd (Reg.THERM.SENSOR.PEAK i) =
        s.rd (Reg.THERM.SENSOR.PEAK i) := by
      rw [State.rd_wr_apart _ _ rfl (Or.inr (of_decide_eq_true rfl)), State.rd_wr_apart _ _ rfl (Or.inr (of_decide_eq_true rfl))]
    simp only [State.sensor, State.peakOf, State.rd_hotRun, State.rd_withPwr, hpk]
    refine ⟨?_, ?_, ?_, ?_, ?_, ?_⟩
    · rw [State.rd_wr_apart _ _ rfl (Or.inl (of_decide_eq_true rfl)), State.rd_wr_apart _ _ rfl (Or.inl (of_decide_eq_true rfl)),
        State.rd_wr_same _ _ _ rfl]
      exact signed_unsigned (by omega) (by omega)
    · rw [State.isSet, State.rd_hotRun, State.rd_withPwr, State.rd_wr_apart _ _ rfl (Or.inl (of_decide_eq_true rfl)),
        State.rd_wr_same _ _ _ rfl]
      rfl
    · rw [State.rd_wr_same _ _ _ rfl, State.wr_pwr, State.wr_pwr]
      split
      · exact signed_unsigned (by omega) (by omega)
      · exact signed_unsigned (by omega) (by omega)
    · exact bit_setBit _ _
    · exact SMap.get_set_same _ _ _ _
    · by_cases hv : s.isSet (Reg.THERM.SENSOR.VALID i) = true
      · rw [if_pos hv, State.isSet, State.rd_sensor_evt _ rfl rfl, State.rd_hotRun, State.rd_wr_same _ _ _ rfl]
        rfl
      · rw [if_neg hv, State.isSet, State.rd_hotRun, State.rd_wr_same _ _ _ rfl]
        rfl
  case effect2 =>
    intro s h1
    obtain ⟨i, hi, hp, hv, ht⟩ := h1
    unfold State.thermal
    extract_lets on good temp top bad mx warn hot cool was alarm s1 s2 s3
    have hgood : i ∈ good := List.mem_filter.2 ⟨List.mem_filter.2 ⟨List.mem_range.2 hi, hp⟩, hv⟩
    obtain ⟨j, hj, hij⟩ := (foldl_argmax temp (f := fun b i => match b with
        | none => some i
        | some j => if temp j < temp i then some i else some j) (fun _ => rfl) (fun _ _ => rfl) good none).2 i hgood
    have hmx : mx = temp j := by
      have htop : top = some j := hj
      simp only [mx, htop, Option.elim_some]
    have halarm : alarm = true := by
      have hh : hot = true := by
        have h105 : 105 ≤ mx := hmx ▸ le_trans ht hij
        simp only [hot, decide_eq_true h105, Bool.true_or]
      simp only [alarm, hh, Bool.true_or]
    have hs2 : ∀ g : Fld, g.off ≠ Reg.PWR.EVENT → s3.rd g = s2.rd g := by
      intro g hg
      simp only [s3]
      split
      · exact State.rd_wr_other _ _ hg
      · rfl
    have ha : s3.isSet Reg.THERM.STATUS.ALARM = true := by
      rw [State.isSet, hs2 _ (by decide)]
      simp (disch := decide) only [s2, s1, State.flag, State.rd_wr_other, State.rd_wr_same, halarm]
      rfl
    have hb : s3.isSet Reg.LEDGER.STATUS.THERM_BLOCK = true := by
      rw [State.isSet, hs2 _ (by decide)]
      simp (disch := decide) only [s2, State.flag, State.rd_wr_same, halarm]
      rfl
    simp only [halarm, true_and, not_true_eq_false, and_false, if_false]
    have he : ∀ g : Fld, g.off ≠ Reg.PWR.EVENT → (if ¬ was = true then s3.evt Reg.PWR.EVENT.THERM_ALARM else s3).isSet g = s3.isSet g := by
      intro g hg
      split
      · exact congrArg (· != 0) (State.rd_wr_other _ _ hg)
      · rfl
    refine ⟨(he _ (by decide)).trans ha, (he _ (by decide)).trans hb, fun hw => ?_⟩
    have hwas : ¬ was = true := by simp [was, hw]
    rw [if_pos hwas, State.isSet, State.rd_evt_same _ _ rfl (by decide)]
    rfl
  case thermalTrip =>
    intro sensor s h1 h2 h3
    simp [exec, execThermalTrip, h1, h2, h3]
  case thermalRecovery =>
    intro s h1 h2
    have hc : s.cooled = true := by
      have hno : ((List.range 16).filter s.sensorPresent).countP (fun i => !s.isSet (Reg.THERM.SENSOR.VALID i)) = 0 := by
        refine List.countP_eq_zero.2 fun i hi => ?_
        obtain ⟨hr, hp⟩ := List.mem_filter.1 hi
        simp [(h2 i (List.mem_range.1 hr) hp).1]
      have hall : ((List.range 16).filter s.sensorPresent).all (fun i => !s.isSet (Reg.THERM.SENSOR.VALID i) ||
          decide (signed 8 (s.rd (Reg.THERM.SENSOR.TEMP i)) < 95)) = true := by
        refine List.all_eq_true.2 fun i hi => ?_
        obtain ⟨hr, hp⟩ := List.mem_filter.1 hi
        rw [decide_eq_true (h2 i (List.mem_range.1 hr) hp).2, Bool.or_true]
      simp only [State.cooled, hno, hall]
      rfl
    simp only [exec, execThermalRecovery, h1, hc, and_self, if_true]
  case thermalRecovery2 =>
    intro i s h1 h2 h3
    have hc : ¬ (s.pwr.hold = .thermal ∧ s.cooled = true) := by
      rintro ⟨-, hcool⟩
      simp only [State.cooled, Bool.and_eq_true, List.all_eq_true] at hcool
      have hi := hcool.2 i (List.mem_filter.2 ⟨List.mem_range.2 (State.sensorPresent_lt h1), h1⟩)
      simp only [h2, Bool.not_true, Bool.false_or, decide_eq_true_eq] at hi
      omega
    simp only [exec, execThermalRecovery, if_neg hc]

end

section
set_option Elab.async false
/-! Cold start, Eclosion and its ends (R506–R518). -/

namespace Sys2Proof.Machine

theorem State.rd_withBoot (s : State) (x : BootSt) (f : Fld) : ({ s with boot := x } : State).rd f = s.rd f := rfl

theorem State.rd_withStrapsPwr (s : State) (x : Straps) (y : PwrSt) (f : Fld) : ({ s with straps := x, pwr := y } : State).rd f = s.rd f := rfl

/-- A first failed attempt goes into the record, before the earlier ones. -/
theorem State.countFail_first {s : State} (code : Nat) (hl : s.boot.logged = false) (hb : s.boot.firstBad = false) :
    (s.countFail code).attempts = min 3 (s.attempts + 1) % 4 ∧ (s.countFail code).rd Reg.BOOT.RECORD.REASON1 = code % 256 ∧
      (s.countFail code).rd Reg.BOOT.RECORD.REASON2 = s.rd Reg.BOOT.RECORD.REASON1 ∧
      (s.countFail code).isSet Reg.MODE.EVENT.ATTEMPT_FAIL = true := by
  have hr : s.rd Reg.BOOT.RECORD.REASON1 % 256 = s.rd Reg.BOOT.RECORD.REASON1 := Nat.mod_eq_of_lt (State.rd_lt _ _)
  simp (disch := decide) only [State.countFail, State.logAttempt, State.attempts, State.isSet, hl, hb, Bool.false_eq_true, if_false,
    State.recordAttempt, State.evt, State.rd_wr_other, State.rd_wr_apart, State.rd_wr_same, State.rd_withBoot]
  exact ⟨rfl, rfl, hr, rfl⟩

theorem State.mcState_any {s : State} (h0 : s.mcState 0 = 1) (hn : 0 < s.nMcs) : (List.range s.nMcs).any (fun m => s.mcState m == 1) = true :=
  List.any_eq_true.2 ⟨0, List.mem_range.2 hn, by simp [h0]⟩

theorem State.confirm_running {s : State} (hp : s.sec.policy = []) (hs : s.rd Reg.MODE.STATUS.RUN_SLOT = 2) :
    s.confirm = ((s.wr Reg.MODE.STATUS.ATTEMPTS 0).wr Reg.MODE.STATUS.CONFIRMED 1).evt Reg.MODE.EVENT.CONFIRMED := by
  simp [State.confirm, hs, State.applyPolicy, hp]

/-- Entering Roost shows it, with no step left, and leaves the twin's registers alone. -/
theorem State.rd_enterRoost_twin (s : State) {f : Fld} (h : 0x401000 ≤ f.off) : s.enterRoost.rd f = s.rd f := by
  have hw : ∀ (u : State) (g : Fld) (v : Nat), g.off < 0x401000 → (u.wr g v).rd f = u.rd f := fun u g v hg =>
    State.rd_wr_other _ _ (by omega)
  simp (disch := decide) only [State.enterRoost, State.rcFollows, State.setMode, State.flag, State.evt, hw, State.rd_withTwin, State.rd_withBoot]

theorem State.enterRoost_mode (s : State) : s.enterRoost.mode = 3 ∧ s.enterRoost.rd Reg.MODE.STATUS.ECL_STEP = 0 := by
  simp (disch := decide) only [State.enterRoost, State.rcFollows, State.setMode, State.flag, State.evt, State.mode, State.rd_wr_other,
    State.rd_wr_apart, State.rd_wr_same, State.rd_withTwin, State.rd_withBoot]
  exact ⟨rfl, rfl⟩

/-- Rejoining writes the twin's registers only. -/
theorem State.rd_autoRejoin (s : State) {f : Fld} (h : f.off < 0x401000) : s.autoRejoin.rd f = s.rd f := by
  have hw : ∀ (u : State) (g : Fld) (v : Nat), 0x401000 ≤ g.off → (u.wr g v).rd f = u.rd f := fun u g v hg =>
    State.rd_wr_other _ _ (by omega)
  simp only [State.autoRejoin]
  split
  · simp (disch := decide) only [State.setTwin, State.setMuted, State.setChg, State.flag, hw, State.rd_withTwin]
  · rfl

end Sys2Proof.Machine

open Sys2Proof Sys2Proof.Machine

/-- Settles O49: each row's guard met, and the registers it leaves read back. -/
theorem startUp : Obligations.StartUp := by
  unfold Obligations.StartUp
  refine ⟨?coldStart, ?eclosionStart, ?effect, ?dramInitDone, ?dramInitDone2, ?roostEntryOnLock, ?eclosionWatchdogExpiry, ?bootConfirm, ?effect2, ?bootAbortWrite, ?devReset, ?warmReset, ?pciePerstAssert, ?bootRecord⟩
  case coldStart =>
    intro b m o s h1 h2 h3 h4
    have hm : ¬ s.pwr.hold ≠ .off := by simp [h1]
    have hb : b % 4 = b := by omega
    have hmm : m % 2 = m := by omega
    have ho : o % 8 = o := by omega
    simp only [exec, execColdStart, if_neg hm, hb, hmm, ho]
    refine ⟨_, rfl, ?_⟩
    simp (disch := decide) only [State.wr_pwr, State.wr_straps, State.isSet, State.rd_wr_other, State.rd_wr_apart, State.rd_wr_same]
    exact ⟨trivial, trivial, hb, rfl, rfl⟩
  case eclosionStart =>
    intro e s s1 s2 h1 h2 h3 h4 h5 h6
    simp_all [exec, execEclosionStart]
  case effect =>
    intro code s h1 h2 h3 h4
    obtain ⟨hatt, hr1, hr2, hev⟩ := State.countFail_first code h2 h3
    have ha : (s.countFail code).attempts = min 3 (s.attempts + 1) := hatt.trans (by omega)
    refine ⟨ha, hr1.trans (by omega), hr2, hev, ?_⟩
    have hiff : (s.countFail code).attempts = 3 ↔ 2 ≤ s.attempts := by omega
    simp only [State.attemptFail, hiff]
  case dramInitDone =>
    intro l m c s h1 h2 h3 h4 h5 h6 h7
    have hc : ¬ (¬ s.domOn 4 = true ∨ (!((List.range s.nMcs).any (fun m => s.mcState m == 1))) = true ∨
        (!((s.mode == 1 && s.rd Reg.MODE.STATUS.ECL_STEP == 6) || s.mode == 2)) = true) := by
      simp [h1, State.mcState_any h2 h7, h3, h4]
    have hm : ¬ s.mode = 2 := by omega
    simp only [exec, execDramInitDone, if_neg hc, h5, if_neg hm, h6, Option.getD_some]
  case dramInitDone2 =>
    intro l s h1 h2 h3 h4 h5 h6 h7
    have hc : ¬ (¬ s.domOn 4 = true ∨ (!((List.range s.nMcs).any (fun m => s.mcState m == 1))) = true ∨
        (!((s.mode == 1 && s.rd Reg.MODE.STATUS.ECL_STEP == 6) || s.mode == 2)) = true) := by
      simp [h1, State.mcState_any h2 h6, h3, h4]
    have hm : ¬ s.mode = 2 := by omega
    have hb : ¬ s.straps.bootSrc = 0 := by omega
    simp only [exec, execDramInitDone, if_neg hc, h5, if_neg hm, if_neg hb]
  case roostEntryOnLock =>
    intro s h1 h2 h3 h4
    have hc : s.mode = 1 ∧ s.rd Reg.MODE.STATUS.ECL_STEP = 12 ∧ s.lock = 2 := ⟨h1, h2, h3⟩
    have hr : ∀ f : Fld, 0x401000 ≤ f.off → s.enterRoost.rd f = s.rd f := fun f => s.rd_enterRoost_twin
    refine ⟨?_, ?_, ?_, fun h => ?_, fun h hrole htw => ?_⟩
    · simp only [exec, execRoostEntryOnLock, if_pos hc, h4, not_true_eq_false, false_and, and_false, if_false, if_true]
    · exact (State.rd_autoRejoin _ (by decide)).trans s.enterRoost_mode.1
    · exact (State.rd_autoRejoin _ (by decide)).trans s.enterRoost_mode.2
    · have hset : s.enterRoost.isSet Reg.TWIN.CFG.AUTO_REJOIN = false := by rw [State.isSet, hr _ (by decide)]; exact h
      simp only [State.autoRejoin, hset, Bool.false_eq_true, false_and, and_false, if_false]
    · have hj : s.enterRoost.rd Reg.TWIN.CFG.ROLE ≠ 0 ∧ s.enterRoost.isSet Reg.TWIN.CFG.AUTO_REJOIN = true ∧ s.enterRoost.twinState = 0 := by
        rw [State.isSet, State.twinState, hr _ (by decide), hr _ (by decide), hr _ (by decide)]
        exact ⟨hrole, h, htw⟩
      simp only [State.autoRejoin, if_pos hj]
      simp (disch := decide) only [State.twinState, State.isSet, State.setTwin, State.setMuted, State.setChg, State.flag, State.rd_wr_apart,
        State.rd_wr_same, State.rd_withTwin]
      exact ⟨rfl, rfl, trivial⟩
  case eclosionWatchdogExpiry =>
    intro code s h1 h2 h3 h4 h5
    have hw : s.mode = 1 ∧ 4 ≤ s.rd Reg.MODE.STATUS.ECL_STEP ∧ s.rd Reg.MODE.STATUS.ECL_STEP ≤ 11 := by omega
    have hc : ¬ (s.mode ≠ 1 ∨ s.rd Reg.MODE.STATUS.ECL_STEP = 12 ∨ s.pwr.hold ≠ .none ∨ code = 0 ∨ 0x10 < code) := by
      simp only [h1, h4, ne_eq, not_true_eq_false, false_or]
      omega
    have hn : ¬ (7 ≤ s.rd Reg.MODE.STATUS.ECL_STEP ∧ s.rd Reg.MODE.STATUS.ECL_STEP ≤ 8 ∧ [1, 2, 3, 0xA, 0xB, 0xC].contains code = true) := by omega
    constructor
    · simp only [exec, execEclosionWatchdogExpiry, if_pos hw]
    · simp only [exec, execEclosionAttemptFail, if_neg hc, if_neg hn]
  case bootConfirm =>
    intro h p s t ht hst h3 h4 h5
    refine (exec_takes rfl ht hst).trans ?_
    simp only [cmdBootConfirm]
    rw [Ans.check_pass _ _ _ ?_]
    · rfl
    · rcases h3 with h3 | h3 <;> simp [h3, h4, h5]
  case effect2 =>
    intro s h1 h2
    rw [State.confirm_running h1 h2]
    simp (disch := decide) only [State.attempts, State.isSet, State.evt, State.rd_wr_other, State.rd_wr_apart, State.rd_wr_same]
    exact ⟨rfl, rfl, rfl⟩
  case bootAbortWrite =>
    intro s h1 h2 h3
    simp [exec, execBootAbortWrite, h1, h2, h3]
  case devReset =>
    intro h p s t ht hst h3 h4 h5
    have hheld : (t.mode == 4 && !(t.inSt (fun c => c == .active || c == .starved || c == .held)).isEmpty && !bit (u8 p 0) 2) = false := by
      rcases h5 with h5 | h5 | h5 <;> simp [h5]
    refine (exec_takes rfl ht hst).trans ?_
    simp only [cmdDevReset]
    rw [Ans.check_pass _ _ _ ?_]
    · rfl
    · simp only [hheld, h4]
      simp [Nat.not_lt.2 h3]
  case warmReset =>
    intro s h1
    simp [exec, execWarmReset, h1]
  case pciePerstAssert =>
    intro s
    refine ⟨?_, ?_, ?_⟩
    · rw [exec, execPciePerstAssert]
    · rw [exec, execPcieFlr]
    · rw [exec, execHostLinkDown, State.hostLinkDown]
  case bootRecord =>
    intro h p s t ht hst h3
    exact exec_accepts rfl ht hst rfl (by simp [h3])

end

section
set_option Elab.async false
/-! Boot frames, image writes and slots (R508–R517). -/

namespace Sys2Proof.Machine

/-- A block's range that no parameter check of IMAGE_WRITE refuses. -/
theorem blockLen_ok {n : Nat} {b : Bool} (hn : 1 ≤ n ∧ n ≤ 1048576) (h64 : n % 64 = 0 ∨ b = true) :
    (n == 0) = false ∧ decide (1048576 < n) = false ∧ (n % 64 != 0 && !b) = false := by
  refine ⟨beq_eq_false_iff_ne.2 (by omega), decide_eq_false (by omega), ?_⟩
  rcases h64 with h | h <;> simp [h]

end Sys2Proof.Machine

open Sys2Proof Sys2Proof.Machine

/-- Settles O50: the image write's refusals ruled out in turn. -/
theorem bootImages : Obligations.BootImages := by
  unfold Obligations.BootImages
  refine ⟨?bootFrameReceive, ?bootFrameReceive2, ?imageWrite, ?imageWrite2, ?slotSelect⟩
  case bootFrameReceive =>
    intro off data last s h1 h2 h3
    simp_all [exec, execBootFrameReceive]
  case bootFrameReceive2 =>
    intro off data last s h1
    simp [exec, execBootFrameReceive, h1]
  case imageWrite =>
    intro h p b s t ht hst h3 h4 h5 h6 h7 h8 h9 h10 h11 h12 h13
    obtain ⟨hz, hmax, h64⟩ := blockLen_ok h9 h8
    have hroom : decide (2 ^ 29 < u64 p 8 + u32 p 24) = false := decide_eq_false (by omega)
    refine (exec_takes rfl ht hst).trans ?_
    simp only [cmdImageWrite, h3, h13, if_true, Option.isNone_some, Bool.false_eq_true, if_false]
    rw [Ans.check_pass _ _ _ ?_, Ans.check_pass _ _ _ ?_]
    · rfl
    · simp [h12]
    · simp only [h5, h6, h7, h10, hz, hmax, h64, hroom, decide_eq_false (Nat.not_lt.2 h4)]
      simp
  case imageWrite2 =>
    intro h p b slot size s t ht hst h3 h4 h5 h6 h7 h8 h9 h10 h11 h12 h13 h14 h15 h16
    obtain ⟨hz, hmax, h64⟩ := blockLen_ok h10 h9
    obtain ⟨f, hf, hsize⟩ := Option.map_eq_some_iff.1 h14
    have hn3 : ¬ slot = 3 := by omega
    have hroom : decide (size * 65536 < u64 p 8 + u32 p 24) = false := decide_eq_false (by omega)
    have hrun : (decide (3 ≤ t.mode ∨ (t.mode = 1 ∧ t.rd Reg.MODE.STATUS.ECL_STEP = 12)) && t.rd Reg.MODE.STATUS.RUN_SLOT == slot) = false := by
      rcases h13 with hr | hm
      · rw [beq_eq_false_iff_ne.2 hr, Bool.and_false]
      · rw [decide_eq_false (by omega), Bool.false_and]
    refine (exec_takes rfl ht hst).trans ?_
    simp only [cmdImageWrite, ← h3, h16, hf, hsize, Option.elim_some, Option.isNone_some, Option.isSome_some, Bool.false_eq_true, if_false,
      if_neg hn3, hrun]
    rw [Ans.check_pass _ _ _ ?_, Ans.check_pass _ _ _ ?_]
    · cases (if u8 p 1 = 3 then (t.flashBlock (65536 + slot * (size * 65536)) (u64 p 8) b).bootCheck
          (fun o n => (t.flashBlock (65536 + slot * (size * 65536)) (u64 p 8) b).boot.flash.readN (65536 + slot * (size * 65536) + o) n) (size * 65536)
        else none) <;> rfl
    · simp
    · simp only [h6, h7, h8, h11, h12, hz, hmax, h64, hroom, decide_eq_false (Nat.not_lt.2 h5), decide_eq_false (show ¬ 1 < slot by omega)]
      simp
  case slotSelect =>
    intro h p s t ht hst h3 h4 h5 h6
    exact exec_accepts rfl ht hst rfl (by simp [h3, h4, h5, h6])

end

section
set_option Elab.async false
/-! Interrupt sources, delivery and routes (R519–R526). -/

namespace Sys2Proof.Machine

theorem State.linkUp_stays {s : State} (h : s.intc.link = 1) : ({ s with intc := { s.intc with link := 1 } } : State) = s := by
  have hi : ({ s.intc with link := 1 } : IntcSt) = s.intc := by rw [← h]
  rw [hi]

end Sys2Proof.Machine

open Sys2Proof Sys2Proof.Machine

/-- Settles O51: each row from the group's state and the link, core or engine that its route names. -/
theorem interrupts : Obligations.Interrupts := by
  unfold Obligations.Interrupts
  refine ⟨?interruptSourceRise, ?interruptSourceRise2, ?effect, ?holdoffExpiry, ?effect2, ?effect3, ?effect4, ?msixSend, ?msixSend2, ?intcEoiWrite, ?intcRouteWrite, ?intcRouteWrite2⟩
  case interruptSourceRise =>
    intro n g b s h1 h2 h3 h4 h5
    have hn : ¬ 2048 ≤ n := by omega
    simp only [exec, execInterruptSourceRise, if_neg hn, h2, Bool.false_eq_true, if_false, ← h3, State.grpRise, if_pos (And.intro h4 h5)]
  case interruptSourceRise2 =>
    intro n b s h1 h2
    simp [exec, execInterruptSourceRise, h1, h2]
  case effect =>
    intro g s h1
    have hc : ¬ (s.rd (Reg.INTC.STATE.STATE g) = 0 ∧ s.grpView g ≠ 0) := by
      rintro ⟨h2, h3⟩
      exact h1.elim (· h2) h3
    simp only [State.grpRise, if_neg hc]
  case holdoffExpiry =>
    intro g s h1 h2
    simp [exec, execHoldoffExpiry, h1, h2]
  case effect2 =>
    intro g s h1
    exact ⟨_, rfl, by unfold State.deliverGroup; rfl⟩
  case effect3 =>
    intro v s
    refine ⟨fun hl hm => ?_, fun hl => ?_, fun hl hm => ?_, fun hl => ?_⟩
    · simp only [State.toHost, hl, true_or, if_true, State.linkUp_stays hl, State.sendVector, hm, Bool.false_eq_true, if_false]
    · simp only [State.toHost, hl, or_true, if_true]
    · simp only [State.toHost, hl, true_or, if_true, State.linkUp_stays hl, State.sendVector, hm]
    · have hc : ¬ (s.intc.link = 1 ∨ s.intc.link = 2) := by omega
      simp only [State.toHost, if_neg hc]
      exact ⟨trivial, fun h => by simp [h]⟩
  case effect4 =>
    intro c e s h1
    refine ⟨fun hh => ?_, fun hh hu => ?_, by rw [State.toEngine]⟩
    · simp only [State.toCore, hh, Bool.true_or, if_true]
    · simp only [State.toCore, hh, hu, Bool.not_true, Bool.or_self, Bool.false_eq_true, if_false]
  case msixSend =>
    intro s h1 h2
    simp [exec, execMsixSend, h1, h2]
  case msixSend2 =>
    intro v w s h1 h2
    simp [exec, execMsixSend, h1, h2]
  case intcEoiWrite =>
    intro g e s h1 h2 h3 h4 h5
    have hg : s.grpEoi g = (s.wr (Reg.INTC.STATE.STATE g) 0).grpRise g := by simp only [State.grpEoi, if_pos h2]
    constructor
    · simp only [exec, execIntcEoiWrite, if_pos h1, hg]
    · simp only [exec, execEngineIntcEoi, if_pos h3, State.engEoi, if_pos h4, h5, hg]
  case intcRouteWrite =>
    intro g v s h1 h2 h3
    simp [exec, execIntcRouteWrite, h1, h2]
  case intcRouteWrite2 =>
    intro g x v s h1 h2 h3 h4 h5 h6
    have hg : ¬ 64 ≤ g := by omega
    have hc : v % 4 = 3 ∧ (List.range 64).any (fun y => y != g && s.rd (Reg.INTC.ROUTE.KIND y) == 3 &&
        s.rd (Reg.INTC.ROUTE.TARGET y) == v / 2 ^ 8 % 2 ^ 8) = true :=
      ⟨h4, List.any_eq_true.2 ⟨x, List.mem_range.2 h2, by simp [h3, h5, h6]⟩⟩
    simp only [exec, execIntcRouteWrite, if_neg hg, if_pos hc]

end

section
set_option Elab.async false
/-! Mailboxes and locks (R527–R534). -/

namespace Sys2Proof.Machine

/-- A write to a half of a unit that is present and on. -/
theorem State.halfAccess_of {s : State} {m o v : Nat} {h : HalfAt} {p : Nat → Bool} (hp : s.offPresent o = true) (ho : s.offOn o = true)
    (hh : halfAt o = some h) (hx : p (o - h.base) = true) (h4 : o % 4 = 0) :
    s.halfAccess m o v p = s.halfWrite h m (o - h.base) v := by
  simp [State.halfAccess, hh, hx, h4, State.access, hp, ho]

theorem State.halfWrite_bell (s : State) (h : HalfAt) (m v : Nat) : s.halfWrite h m 0x40 v = s.bellWrite h m v := by
  simp [State.halfWrite]

theorem State.halfWrite_ack (s : State) (h : HalfAt) (m v : Nat) : s.halfWrite h m 0x48 v = s.ackWrite h m v := by
  simp [State.halfWrite]

theorem exec_bellWrite {m o v : Nat} {h : HalfAt} {s : State} (hp : s.offPresent o = true) (ho : s.offOn o = true) (hh : halfAt o = some h)
    (hb : o = h.base + 0x40) (h4 : o % 4 = 0) : exec (.mailboxBellWrite m o v) s = .next (s.bellWrite h m v) := by
  have hx : o - h.base = 0x40 := by omega
  have hw := State.halfAccess_of (m := m) (v := v) (p := fun x => x == 0x40) hp ho hh (by simp [hx]) h4
  rw [hx, State.halfWrite_bell] at hw
  exact congrArg Host.Outcome.next hw

theorem exec_ackWrite {m o v : Nat} {h : HalfAt} {s : State} (hp : s.offPresent o = true) (ho : s.offOn o = true) (hh : halfAt o = some h)
    (hb : o = h.base + 0x48) (h4 : o % 4 = 0) : exec (.mailboxAckWrite m o v) s = .next (s.ackWrite h m v) := by
  have hx : o - h.base = 0x48 := by omega
  have hw := State.halfAccess_of (m := m) (v := v) (p := fun x => x == 0x48) hp ho hh (by simp [hx]) h4
  rw [hx, State.halfWrite_ack] at hw
  exact congrArg Host.Outcome.next hw

/-- An acknowledgement with VALID of a message, by the receiver of its half. -/
theorem State.ackWrite_valid {s : State} {h : HalfAt} {m code : Nat} (hr : s.receiver h m = true) (hp : s.isSet h.pending = true)
    (hc : code < 0xFFFD) : s.ackWrite h m (2 ^ 31 + code) =
      if h.kind = .recv then match s.linkTo (s.rd h.meshId) with
        | some k => (s.ackHalf h code false).mailFrame k (s.rd h.meshId) (s.rd h.mailbox) h.i 1 code []
        | none => s.ackHalf h code false
      else s.ackHalf h code false := by
  have h1 : (2 ^ 31 + code) % 2 ^ 16 = code := by omega
  have h2 : ¬ (2 ^ 31 + code) / 2 ^ 31 % 2 = 0 := by
    have hd : (2147483648 + code) / 2147483648 = 1 := by omega
    norm_num [hd]
  have h3 : ¬ (¬ s.isSet h.pending = true ∨ 0xFFFD ≤ code) := by
    simp only [hp, not_true_eq_false, false_or]
    omega
  simp only [State.ackWrite, h1, hr, Bool.not_true, Bool.false_eq_true, if_false, if_neg h2, if_neg h3] <;> rfl

end Sys2Proof.Machine

open Sys2Proof Sys2Proof.Machine

/-- Settles O52: each write by the word of its half, each lock access by its holder. -/
theorem mailboxesAndLocks : Obligations.MailboxesAndLocks := by
  unfold Obligations.MailboxesAndLocks
  refine ⟨?mailboxMsgWrite, ?mailboxBellWrite, ?mailboxBellWrite2, ?mailboxBellWrite3, ?mailboxAckWrite, ?mailboxAckWrite2, ?mailboxAckWrite3, ?effect, ?mailboxAckTimeout, ?mailboxFrameReceive, ?mailboxFrameReceive2, ?lockRead, ?lockRead2, ?lockWrite⟩
  case mailboxMsgWrite =>
    intro m o v h s h1 h2 h3 h4 h5
    have hw := State.halfAccess_of (m := m) (v := v) (p := fun x => decide (x < 0x40)) h1 h2 h3 (decide_eq_true h4) h5
    have h0 : o - h.base < 4 ↔ (o - h.base) / 4 = 0 := by omega
    refine (congrArg Host.Outcome.next hw).trans ?_
    simp only [State.halfWrite, if_pos h4, State.msgWrite, h0, Bool.or_eq_true, Bool.not_eq_true', Bool.not_eq_true]
  case mailboxBellWrite =>
    intro m o v h s h1 h2 h3 h4 h5 h6 h7 h8
    refine ⟨_, rfl, (exec_bellWrite h1 h2 h3 h4 h5).trans ?_⟩
    simp only [State.bellWrite, h6, h7, h8, Bool.not_true, Bool.or_self, Bool.false_eq_true, if_false]
  case mailboxBellWrite2 =>
    intro m o v h s h1 h2 h3 h4 h5 h6
    refine (exec_bellWrite h1 h2 h3 h4 h5).trans ?_
    simp only [State.bellWrite, h6, if_true]
  case mailboxBellWrite3 =>
    intro m o v h s h1 h2 h3 h4 h5 h6 h7
    have hc : (!h.sender m || s.claimedBy h m) = true := by
      rcases h7 with h7 | h7 <;> simp [h7]
    refine (exec_bellWrite h1 h2 h3 h4 h5).trans ?_
    simp only [State.bellWrite, h6, hc, Bool.false_eq_true, if_false, if_true]
  case mailboxAckWrite =>
    intro m o v h s h1 h2 h3 h4 h5
    refine ⟨fun hr => (exec_ackWrite h1 h2 h3 h4 h5).trans ?_, fun hr hc => (exec_ackWrite h1 h2 h3 h4 h5).trans ?_⟩
    · simp only [State.ackWrite, hr, Bool.not_false, if_true]
    · have hc' : ¬ s.isSet h.pending = true ∨ 0xFFFD ≤ v % 2 ^ 16 := by
        rcases hc with hc | hc
        · exact Or.inl (by simp [hc])
        · exact Or.inr hc
      simp only [State.ackWrite, hr, Bool.not_true, Bool.false_eq_true, if_false, if_pos hc']
  case mailboxAckWrite2 =>
    intro m o code h s h1 h2 h3 h4 h5 h6 h7 h8 h9
    rw [exec_ackWrite h1 h2 h3 h4 h5, State.ackWrite_valid h6 h7 h8, if_neg h9]
  case mailboxAckWrite3 =>
    intro m o code k h s h1 h2 h3 h4 h5 h6 h7 h8 h9 h10
    rw [exec_ackWrite h1 h2 h3 h4 h5, State.ackWrite_valid h6 h7 h8, if_pos h9, h10]
  case effect =>
    intro code s h1 h2
    refine ⟨_, rfl, ?_⟩
    unfold State.ackHalf
    extract_lets other peer s1 s2 s3
    have hx : s3.isSet (HalfAt.cross ⟨.h2c, 0x30000, 0⟩) = false := by
      simp only [s3, s2, s1, State.bell29, if_true]
      simp (disch := decide) only [State.isSet, State.flag, State.rd_wr_other, State.rd_wr_apart, State.rd_setReg_other]
      exact h2
    have hu : s3.uncross ⟨.h2c, 0x30000, 0⟩ other peer = s3 := by simp [State.uncross, hx]
    rw [hu]
    simp only [s3, s2, s1, State.bell29, if_true]
    have hcode : code % 2 ^ 16 = code := Nat.mod_eq_of_lt h1
    simp (disch := decide) only [State.isSet, State.flag, State.rd_wr_other, State.rd_wr_apart, State.rd_wr_same, State.reg_wr_other,
      State.reg_setReg_same, hcode, BitVec.toNat_ofNat]
    exact ⟨Nat.mod_eq_of_lt (by omega), rfl, rfl, rfl, rfl⟩
  case mailboxAckTimeout =>
    intro o h s h1 h2 h3 h4
    simp_all [exec, execMailboxAckTimeout, execMailboxClaimTimeout]
  case mailboxFrameReceive =>
    intro f s h1 h2 h3 h4 h5
    simp [exec, execMailboxFrameReceive, h1, h2, h3, h4, h5]
  case mailboxFrameReceive2 =>
    intro f h s h1 h2 h3 h4 h5
    subst h4
    simp [exec, execMailboxFrameReceive, h1, h2, h3, h5]
  case lockRead =>
    intro m o s h1 h2 h3 h4 h5 h6 h7
    have hc : ¬ (!lockOff o || o % 4 != 0 || m == 0) = true := by simp [h3, h4, h5]
    simp only [exec, execLockRead, if_neg hc, State.accessR, h1, h2, Bool.not_true, Bool.false_eq_true, if_false, if_true, if_neg h6, State.lockRead,
      h7, true_and]
    split <;> rfl
  case lockRead2 =>
    intro o s h1 h2 h3 h4
    have hc : ¬ (!lockOff o || o % 4 != 0 || 6 == 0) = true := by simp [h3, h4]
    simp only [exec, execLockRead, if_neg hc, State.accessR, h1, h2, Bool.not_true, Bool.false_eq_true, if_false, if_true]
  case lockWrite =>
    intro m o v s h1 h2 h3 h4 h5 h6
    have hc : ¬ (!lockOff o || o % 4 != 0 || m == 0) = true := by simp [h3, h4, h5]
    simp only [exec, execLockWrite, if_neg hc, State.access, h1, h2, Bool.not_true, Bool.false_eq_true, if_false, if_true, State.lockWrite, h6, true_and]

end

section
set_option Elab.async false
/-! The debug wire, halts and forced locks (R535–R544). -/

namespace Sys2Proof.Machine

theorem State.access_of {s t : State} {m o : Nat} (hp : s.offPresent o = true) (ho : s.offOn o = true) : s.access m o t = t := by
  simp [State.access, hp, ho]

theorem State.needL2_of {s t : State} {m : Nat} (h : s.dbgLevel = 2) : s.needL2 m t = t := by
  simp only [State.needL2, if_pos h]

/-- A hold writes the ledger's registers only, and no engine. -/
theorem State.hold_keeps (s : State) (i : Nat) (h : HoldCause) (till : Option Nat) :
    (s.hold i h till).eng = s.eng ∧ ∀ f : Fld, 0x80000 ≤ f.off → (s.hold i h till).rd f = s.rd f := by
  have hw : ∀ (u : State) (g f : Fld) (v : Nat), g.off < 0x80000 → 0x80000 ≤ f.off → (u.wr g v).rd f = u.rd f := fun u g f v hg hf =>
    State.rd_wr_other _ _ (by omega)
  have hl : ∀ (u : State) (st : CSt), (u.leaveDegraded st).eng = u.eng ∧ ∀ f : Fld, 0x80000 ≤ f.off → (u.leaveDegraded st).rd f = u.rd f := by
    intro u st
    simp only [State.leaveDegraded]
    split
    · exact ⟨State.evt_eng _ _, fun f hf => hw _ _ _ _ (by decide) hf⟩
    · exact ⟨rfl, fun _ _ => rfl⟩
  have hgo : ∀ u : State, ((u.evt Reg.LEDGER.EVENT.HELD).bump Reg.LEDGER.EVENT_CNT.HELD_CNT).eng = u.eng ∧
      ∀ f : Fld, 0x80000 ≤ f.off → ((u.evt Reg.LEDGER.EVENT.HELD).bump Reg.LEDGER.EVENT_CNT.HELD_CNT).rd f = u.rd f := fun u =>
    ⟨by simp, fun f hf => (hw _ _ _ _ (by decide) hf).trans (hw _ _ _ _ (by decide) hf)⟩
  simp only [State.hold]
  split
  · refine ⟨(hgo _).1.trans ((hl _ _).1.trans (by simp)), fun f hf => ((hgo _).2 f hf).trans (((hl _ _).2 f hf).trans (by simp))⟩
  · refine ⟨(hgo _).1.trans ((hl _ _).1.trans (by simp)), fun f hf => ((hgo _).2 f hf).trans (((hl _ _).2 f hf).trans (by simp))⟩
  · exact ⟨by simp, fun f _ => by simp⟩
  · exact ⟨rfl, fun _ _ => rfl⟩

theorem State.holdAll_keeps (l : List Nat) (h : HoldCause) (till : Option Nat) : ∀ s : State,
    (s.holdAll l h till).eng = s.eng ∧ ∀ f : Fld, 0x80000 ≤ f.off → (s.holdAll l h till).rd f = s.rd f := by
  induction l with
  | nil => exact fun s => ⟨rfl, fun _ _ => rfl⟩
  | cons i l ih =>
    intro s
    obtain ⟨he, hr⟩ := s.hold_keeps i h till
    obtain ⟨he', hr'⟩ := ih (s.hold i h till)
    exact ⟨he'.trans he, fun f hf => (hr' f hf).trans (hr f hf)⟩

/-- Each engine is as it was, but for the events it may see pending. -/
def State.EngPend (s t : State) : Prop := ∀ e, ∃ p, t.engine e = { s.engine e with pend := p }

theorem State.EngPend.of_eng {s t : State} (h : t.eng = s.eng) : s.EngPend t := fun e => ⟨(s.engine e).pend, by rw [State.engine_congr h]⟩

theorem State.EngPend.trans {s t u : State} (h : s.EngPend t) (k : t.EngPend u) : s.EngPend u := by
  intro e
  obtain ⟨p, hp⟩ := h e
  obtain ⟨q, hq⟩ := k e
  exact ⟨q, by rw [hq, hp]⟩

theorem State.engPend_wr (s : State) (f : Fld) (v : Nat) : s.EngPend (s.wr f v) := .of_eng (by simp)

theorem State.engPend_engRaise (s : State) (e i : Nat) : s.EngPend (s.engRaise e i) := by
  intro n
  by_cases hn : n = e
  · subst hn
    exact ⟨_, State.engine_engRaise _ _ _⟩
  · exact ⟨(s.engine n).pend, by rw [State.engRaise, State.engine_updEngine_other _ _ hn]⟩

theorem State.engPend_ringEngine (s : State) (h : HalfAt) : s.EngPend (s.ringEngine h) := by
  simp only [State.ringEngine]
  split
  · split
    · exact .of_eng rfl
    · exact State.engPend_engRaise _ _ _
  · split
    · exact .of_eng rfl
    · exact State.engPend_engRaise _ _ _
  · exact .of_eng rfl

theorem State.engPend_addBells (s : State) (h : HalfAt) (b : Nat) : s.EngPend (s.addBells h b) :=
  (s.engPend_wr h.bell (s.rd h.bell ||| b)).trans (State.engPend_ringEngine _ h)

theorem State.engPend_bell29 (s : State) (h : HalfAt) : s.EngPend (s.bell29 h) := by
  simp only [State.bell29]
  split
  · exact s.engPend_addBells _ _
  · split
    · exact s.engPend_addBells _ _
    · exact .of_eng rfl
  · exact .of_eng rfl

theorem State.engPend_uncross (s : State) (h : HalfAt) (o p : Option HalfAt) : s.EngPend (s.uncross h o p) := by
  simp only [State.uncross]
  split
  · exact .of_eng rfl
  · refine (s.engPend_wr h.cross 0).trans ?_
    split
    · split
      · exact .of_eng rfl
      · exact State.engPend_wr _ _ _
    · exact .of_eng rfl

theorem State.engPend_ackHalf (s : State) (h : HalfAt) (c : Nat) (d : Bool) : s.EngPend (s.ackHalf h c d) := by
  unfold State.ackHalf
  extract_lets other peer s1 s2 s3
  have h1 : s.EngPend s1 := State.EngPend.trans (.of_eng (by simp)) (State.engPend_bell29 (s.setReg _ _) h)
  have h2 : s1.EngPend s2 := State.EngPend.of_eng (by simp [s2])
  have h3 : s2.EngPend s3 := by
    simp only [s3]
    split
    · exact State.engPend_wr _ _ _
    · exact .of_eng rfl
  exact ((((h1.trans h2).trans h3).trans (s3.engPend_uncross h other peer)).trans (State.engPend_wr _ _ _)).trans (State.engPend_wr _ _ _)

theorem State.engPend_engMailLost (s : State) (e : Nat) : s.EngPend (s.engMailLost e) := by
  have h1 : ∀ (u : State) (b : Bool) (x : HalfAt), u.EngPend (if b then u.ackHalf x 0xFFFD true else u) := by
    intro u b x
    cases b
    · exact .of_eng rfl
    · exact u.engPend_ackHalf _ _ _
  exact (h1 s _ _).trans (h1 _ _ _)

theorem State.orphan_eng (s : State) (m : Nat) : (s.orphan m).eng = s.eng := by
  have hstep : ∀ (l : List Nat) (u : State), (l.foldl (fun t o => (t.setReg o 0).bump (lockOrphans o)) u).eng = u.eng := by
    intro l
    induction l with
    | nil => exact fun _ => rfl
    | cons o l ih => exact fun u => (ih _).trans (by simp)
  exact hstep _ _

/-- A change of an engine's state shows in its register and touches engines by events only. -/
theorem State.engPend_setEngState (s : State) (e x : Nat) : s.EngPend (s.setEngState e x) := by
  simp only [State.setEngState]
  split
  · exact ((State.EngPend.of_eng (s.orphan_eng _)).trans (State.engPend_engMailLost _ _)).trans (State.engPend_wr _ _ _)
  · exact s.engPend_wr _ _

theorem State.engState_setEngState (s : State) (e x : Nat) : (s.setEngState e x).engState e = x % 8 :=
  State.rd_wr_same _ _ _ rfl

theorem State.haltOver_eng (s : State) (e : Nat) : (s.haltOver e).eng = s.eng := by
  have hstep : ∀ (l : List Nat) (u : State), (l.foldl (fun t i =>
      if (List.range 256).any (fun x => x != e && t.engState x == engHalted && t.contractEngine (t.contract i) x) then t
      else t.ceaseHold i .halt) u).eng = u.eng := by
    intro l
    induction l with
    | nil => exact fun _ => rfl
    | cons i l ih =>
      intro u
      rw [List.foldl_cons, ih]
      split
      · rfl
      · simp [State.ceaseHold]
  exact hstep _ _

/-- Clearing the first four bits of a mask of four clears it. -/
theorem clrBits_four {x : Nat} (h : x < 16) : (List.range 4).foldl (fun a k => if bit 15 k then clrBit a k else a) x = 0 := by
  revert h
  revert x
  decide

theorem State.flushCores_idle {s : State} {f : Nat → Bool} (h : s.intc.coreWait = []) : (s.flushCores f).xp = s.xp := by
  simp [State.flushCores, h]

theorem State.runHeld_idle {s : State} (h : s.xp.held = []) : s.runHeld.xp.coreHalt = s.xp.coreHalt ∧ s.runHeld.xp.coreHaltReq = s.xp.coreHaltReq := by
  simp [State.runHeld, h]

theorem State.engState_wr_dbg (s : State) {f : Fld} (v e : Nat) (h : f.off < 0x1000000) : (s.wr f v).engState e = s.engState e := by
  refine State.rd_wr_other _ _ ?_
  simp only [Reg.ENG.STATUS.STATE, Reg.ENG.STATUS]
  omega

theorem State.domOn_wr (s : State) {f : Fld} (v d : Nat) (h : 0x80028 ≤ f.off) : (s.wr f v).domOn d = s.domOn d := by
  simp only [State.domOn, State.leaving, State.wr_pwr, State.dom_wr_other _ _ _ (Or.inr h)]

theorem State.offOn_wr (s : State) {f : Fld} (v o : Nat) (h : 0x80028 ≤ f.off) : (s.wr f v).offOn o = s.offOn o := by
  have hr : (s.wr f v).regsOn = s.regsOn := by
    funext d
    simp only [State.regsOn, State.domOn_wr _ _ _ h, State.leaving, State.wr_pwr, State.dom_wr_other _ _ _ (Or.inr h)]
  simp only [State.offOn, hr]

theorem State.offPresent_congr {s t : State} (h : t.ident = s.ident) (o : Nat) : t.offPresent o = s.offPresent o := by
  have hd : t.domPresent = s.domPresent := by
    funext d
    simp only [State.domPresent, h]
  have hm : t.nMcs = s.nMcs := by simp only [State.nMcs, h]
  have hf : t.nFports = s.nFports := by simp only [State.nFports, h]
  have hc : t.nClusters = s.nClusters := by simp only [State.nClusters, h]
  have ht : t.nTiles = s.nTiles := by simp only [State.nTiles, h]
  have hn : t.nLanes = s.nLanes := by simp only [State.nLanes, h]
  have hp : t.nPlanes = s.nPlanes := by simp only [State.nPlanes, h]
  have hl : ∀ l, t.lanePresent l = s.lanePresent l := fun l => by simp only [State.lanePresent, hn, hp]
  have hb : ∀ b, t.bucketHere b = s.bucketHere b := fun b => by simp only [State.bucketHere, hm, hc, hd, ht]
  simp only [State.offPresent, hd, hl, hm, hf, hb, hc, h]

theorem State.engine_holdAll (s : State) (l : List Nat) (h : HoldCause) (till : Option Nat) (e : Nat) :
    (s.holdAll l h till).engine e = s.engine e := State.engine_congr (State.holdAll_keeps l h till s).1 e

theorem State.rd_holdAll (s : State) (l : List Nat) (h : HoldCause) (till : Option Nat) {f : Fld} (hf : 0x80000 ≤ f.off) :
    (s.holdAll l h till).rd f = s.rd f := (State.holdAll_keeps l h till s).2 f hf

theorem State.engStatus_ge (e : Nat) : 0x80000 ≤ (Reg.ENG.STATUS.STATE e).off := by
  simp only [Reg.ENG.STATUS.STATE, Reg.ENG.STATUS]
  omega

end Sys2Proof.Machine

open Sys2Proof Sys2Proof.Machine

/-- Settles O53: each access by its rights, and the engine, core or lock it leaves read back. -/
theorem haltsAndForcedLocks : Obligations.HaltsAndForcedLocks := by
  unfold Obligations.HaltsAndForcedLocks
  refine ⟨?debugWireReset, ?debugWireRelease, ?debugWakePulse, ?dbgAuthChallengeWrite, ?dbgAuthSubmit, ?dbgAuthSubmit2, ?engineHaltRequest, ?engineHaltRequest2, ?engineHaltTaken, ?engineResume, ?dbgPcWrite, ?coreHalt, ?coreHaltTaken, ?coreResume, ?coreResume2, ?lockForce⟩
  case debugWireReset =>
    intro s h1
    simp [exec, execDebugWireReset, h1]
  case debugWireRelease =>
    intro s h1
    simp [exec, execDebugWireRelease, h1]
  case debugWakePulse =>
    intro us u s h1 h2
    have hc : ¬ (s.pwr.hold = .off ∨ us < 100 ∨ 800 < us) := by
      simp only [h1, false_or]
      omega
    have hu : (u < 4 ∨ 1000 < u) ↔ ¬ (4 ≤ u ∧ u ≤ 1000) := by omega
    simp only [exec, execDebugWakePulse, if_neg hc, hu]
    by_cases h : 4 ≤ u ∧ u ≤ 1000
    · simp only [if_pos h, if_neg (not_not.2 h)]
    · simp only [if_neg h, if_pos h]
  case dbgAuthChallengeWrite =>
    intro m l s h1 h2 h3
    have hl : l % 4 = l := by omega
    have hbad : (s.levelBad l = true ∨ s.ident.debugKey = 0) ↔ (s.ident.debugCap < l ∨ 2 < l ∨ s.ident.debugKey = 0) := by
      simp [State.levelBad, or_assoc]
    simp only [exec, execDbgAuthChallengeWrite, State.access_of h2 h3, hl, State.wireChallenge, hbad]
    rfl
  case dbgAuthSubmit =>
    intro m s h1 h2 h3
    simp only [exec, execDbgAuthSubmit, State.access_of h1 h2, State.wireSubmit, h3, Bool.not_false, if_true]
  case dbgAuthSubmit2 =>
    intro m c b s h1 h2 h3 h4 h5
    subst h5
    simp only [exec, execDbgAuthSubmit, State.access_of h1 h2, State.wireSubmit, h3, Bool.not_true, Bool.false_eq_true, if_false, State.respond, h4]
    split <;> rfl
  case engineHaltRequest =>
    intro m e s h1 h2 h3 h4 h5 h6 h7
    have hc : (s.wr Reg.DBG.ENG_CTRL.ENGINE e).engPresent e = true ∧ (s.wr Reg.DBG.ENG_CTRL.ENGINE e).engOn e = true ∧
        ((s.wr Reg.DBG.ENG_CTRL.ENGINE e).engState e = engRunning ∨ (s.wr Reg.DBG.ENG_CTRL.ENGINE e).engState e = engStopped ∨
          (s.wr Reg.DBG.ENG_CTRL.ENGINE e).engState e = engFaulted) :=
      ⟨h5, (s.domOn_wr _ _ (by decide)).trans h6, Or.inl ((s.engState_wr_dbg _ e (by decide)).trans h7)⟩
    simp only [exec, execEngineHaltRequest, if_pos h1, State.engCtrl, State.access_of h2 h3, State.needL2_of h4, State.askHalt, if_pos hc]
  case engineHaltRequest2 =>
    intro m e s h1 h2 h3 h4 h5
    have hn : ∀ t : State, s.needL2 m t = s.evt Reg.DBG.EVENT.AUTH_VIOL := fun t => by simp only [State.needL2, if_neg h5, if_neg h2]
    constructor
    · simp only [exec, execEngineHaltRequest, if_pos h1, State.engCtrl, State.access_of h3 h4, hn]
    · simp only [exec, execEngineResume, if_pos h1, State.engCtrl, State.access_of h3 h4, hn]
  case engineHaltTaken =>
    intro e s h1 h2 h3 h4 h5
    have hc : (s.engine e).haltReq = true ∧ s.engOn e = true ∧ (s.engine e).free = true ∧ ¬ s.inSpec e = true := ⟨h1, h2, h3, by simp [h4]⟩
    simp only [exec, execEngineHaltTaken, if_pos hc]
    refine ⟨_, rfl, ?_⟩
    have hne : (Reg.ENG.STATUS.STATE e).off ≠ Reg.DBG.EVENT.HALTED.off := by
      simp only [Reg.ENG.STATUS.STATE, Reg.ENG.STATUS, Reg.DBG.EVENT.HALTED, Reg.DBG.EVENT]
      omega
    rw [State.setEngState_of_keeps _ _ _ (Or.inr (Or.inr rfl)), State.engState, State.isSet, State.rd_holdAll _ _ _ _ (State.engStatus_ge e),
      State.rd_holdAll _ _ _ _ (by decide), State.engine_holdAll, State.evt, State.rd_wr_other _ _ hne, State.rd_wr_same _ _ _ rfl,
      State.rd_wr_same _ _ _ rfl]
    refine ⟨rfl, ?_⟩
    simp only [State.engine_wr, State.engine_updEngine_same]
    exact ⟨trivial, trivial, rfl⟩
  case engineResume =>
    intro m e s h1 h2 h3 h4 h5 h6 h7 h8
    have hc : (s.wr Reg.DBG.ENG_CTRL.ENGINE e).engPresent e = true ∧ (s.wr Reg.DBG.ENG_CTRL.ENGINE e).engOn e = true ∧
        (s.wr Reg.DBG.ENG_CTRL.ENGINE e).engState e = engHalted :=
      ⟨h5, (s.domOn_wr _ _ (by decide)).trans h6, (s.engState_wr_dbg _ e (by decide)).trans h7⟩
    simp only [exec, execEngineResume, if_pos h1, State.engCtrl, State.access_of h2 h3, State.needL2_of h4, State.unhalt, if_pos hc]
    refine ⟨_, rfl, ?_⟩
    have heng : ((s.wr Reg.DBG.ENG_CTRL.ENGINE e).haltOver e).engine e = s.engine e :=
      (State.engine_congr (State.haltOver_eng _ _) e).trans (State.engine_wr _ _ _ _)
    rw [State.engine_updEngine_same, heng, State.engState_setEngState]
    obtain ⟨q, hq⟩ := State.engPend_setEngState (((s.wr Reg.DBG.ENG_CTRL.ENGINE e).haltOver e).updEngine e
      (fun x => { x with done := some (s.wr Reg.DBG.ENG_CTRL.ENGINE e).now, missed := 0 })) e (s.engine e).prior e
    rw [hq, State.engine_updEngine_same, heng]
    exact ⟨Nat.mod_eq_of_lt h8, by simp [State.now], rfl⟩
  case dbgPcWrite =>
    intro m e v s h1 h2 h3 h4 h5 h6 h7
    have hc : s.engPresent (s.rd Reg.DBG.ENG_CTRL.ENGINE) = true ∧ s.engOn (s.rd Reg.DBG.ENG_CTRL.ENGINE) = true ∧
        s.engState (s.rd Reg.DBG.ENG_CTRL.ENGINE) = engHalted := by
      rw [h1]
      exact ⟨h5, h6, h7⟩
    simp only [exec, execDbgPcWrite, State.dbgPc, State.access_of h2 h3, State.needL2_of h4, if_pos hc]
    rw [h1]
  case coreHalt =>
    intro m mask s h1 h2 h3 h4
    simp only [exec, execCoreHalt, State.coreAsk, State.access_of h1 h2, State.needL2_of h3, Nat.mod_eq_of_lt h4]
  case coreHaltTaken =>
    intro k s h1 h2
    simp [exec, execCoreHaltTaken, h1, h2]
  case coreResume =>
    intro m mask s h1 h2 h3
    refine ⟨_, rfl, ?_⟩
    simp only [exec, execCoreResume, State.coreRun, State.access_of h1 h2, State.needL2_of h3]
  case coreResume2 =>
    intro m s h1 h2 h3 h4 h5 h6 h7 h8
    simp only [exec, execCoreResume, State.coreRun, State.access_of h1 h2, State.needL2_of h3, clrBits_four h4, clrBits_four h5]
    refine ⟨_, rfl, ?_⟩
    have hr : ∀ (u : State) (f : Nat → Bool), u.intc.coreWait = [] → u.xp.held = [] → u.xp.coreHalt = 0 → u.xp.coreHaltReq = 0 →
        (u.flushCores f).runHeld.xp.coreHalt = 0 ∧ (u.flushCores f).runHeld.xp.coreHaltReq = 0 := by
      intro u f hw hh hc hq
      have hx := State.flushCores_idle (f := f) hw
      obtain ⟨ha, hb⟩ := State.runHeld_idle (s := u.flushCores f) (by rw [hx, hh])
      exact ⟨ha.trans (by rw [hx, hc]), hb.trans (by rw [hx, hq])⟩
    refine hr _ _ ?_ ?_ ?_ ?_ <;> simp [State.showCores, h7, h8]
  case lockForce =>
    intro m n s h1 h2 h3 h4 h5 h6 h7
    have hv : (n + 0xF00) % 2 ^ 12 + 2 ^ 12 = n + 0x1F00 := by omega
    have hcl : (n + 0x1F00) / 2 ^ 8 % 2 ^ 4 = 15 := by omega
    have hgo : bit (n + 0x1F00) 12 = true := by
      simp only [bit, beq_iff_eq]
      omega
    obtain ⟨u, hu⟩ : ∃ u, (s.wr Reg.DBG.LOCK_FORCE.LOCK (n + 0x1F00)).wr Reg.DBG.LOCK_FORCE.CLUSTER 15 = u := ⟨_, rfl⟩
    have hk : u.rd Reg.DBG.LOCK_FORCE.CLUSTER = 15 := by
      rw [← hu, State.rd_wr_same _ _ _ rfl]
      rfl
    have hn : u.rd Reg.DBG.LOCK_FORCE.LOCK = n := by
      rw [← hu, State.rd_wr_apart _ _ rfl (by decide), State.rd_wr_same _ _ _ rfl]
      simp only [Reg.DBG.LOCK_FORCE.LOCK]
      omega
    have hoff : Reg.LK n ≠ Reg.DBG.LOCK_FORCE := by
      simp only [Reg.LK, Reg.DBG.LOCK_FORCE]
      omega
    have hreg : u.reg (Reg.LK n) = s.reg (Reg.LK n) := by
      rw [← hu, State.reg_wr_other _ _ _ hoff, State.reg_wr_other _ _ _ hoff]
    have hp : u.offPresent (Reg.LK n) = true := by
      rw [← h5, ← hu]
      exact State.offPresent_congr (by simp) _
    have ho : u.offOn (Reg.LK n) = true := by
      rw [← h6, ← hu, State.offOn_wr _ _ _ (by decide), State.offOn_wr _ _ _ (by decide)]
    have hok : (bit (n + 0x1F00) 12 && ((15 == 15 || decide (n < 32)) && u.offPresent (Reg.LK n) && u.offOn (Reg.LK n)) &&
        (u.reg (Reg.LK n)).field 0 9 != 0) = true := by
      rw [hgo, hp, ho, hreg]
      simpa using h7
    have hor : lockOrphans (Reg.LK n) = Reg.LOCKS.STATUS.ORPHAN_CNT := by
      have : Reg.LK n < 0x31000 := by simp only [Reg.LK]; omega
      simp only [lockOrphans, if_pos this]
    simp only [exec, execLockForce, State.lockForce, hv, hcl, or_true, hu, hk, hn, if_true, hok, State.access_of h1 h2, State.needL2_of h3]
    refine ⟨_, rfl, ?_⟩
    have hlk : Reg.LK n ≠ Reg.LOCKS.STATUS ∧ Reg.LK n ≠ Reg.DBG.EVENT := by
      constructor <;> simp only [Reg.LK, Reg.LOCKS.STATUS, Reg.DBG.EVENT] <;> omega
    rw [hor]
    refine ⟨?_, ?_, ?_⟩
    · rw [State.evt, State.reg_wr_other _ _ _ hlk.2, State.bump, State.reg_wr_other _ _ _ hlk.1, State.reg_setReg_same]
    · rw [State.isSet, State.rd_evt_same _ _ rfl (by decide)]
      rfl
    · have hs : (u.setReg (Reg.LK n) 0).rd Reg.LOCKS.STATUS.ORPHAN_CNT = s.rd Reg.LOCKS.STATUS.ORPHAN_CNT := by
        rw [State.rd_setReg_other _ _ hlk.1.symm, ← hu, State.rd_wr_other _ _ (by decide), State.rd_wr_other _ _ (by decide)]
      rw [State.evt, State.rd_wr_other _ _ (by decide), State.bump, State.rd_wr_same _ _ _ rfl, hs]

end

section
set_option Elab.async false
/-! Self-test and column repair (R545–R552). -/

namespace Sys2Proof.Machine

theorem State.rd_withDbg (s : State) (x : DbgSt) (f : Fld) : ({ s with dbg := x } : State).rd f = s.rd f := rfl

/-- A run's start writes no event. -/
theorem State.rd_bistStart_event (s : State) (d k : Nat) (both : Bool) {f : Fld} (h : f.off = Reg.BIST.EVENT) :
    (s.bistStart d k both).rd f = s.rd f := by
  have hne : f.off ≠ Reg.BIST.STATUS := by rw [h]; decide
  have hw : ∀ (u : State) (g : Fld) (v : Nat), g.off = Reg.BIST.STATUS → (u.wr g v).rd f = u.rd f := fun u g v hg =>
    State.rd_wr_other _ _ (by rw [hg]; exact hne)
  rw [State.bistStart, State.rd_withDbg, hw _ _ _ rfl, hw _ _ _ rfl, hw _ _ _ rfl, hw _ _ _ rfl]

/-- A failed check answers its status where the checks before it pass. -/
theorem Ans.check_fail (s : State) (l : List (Bool × Nat)) (st : Nat) (m : List (Bool × Nat)) (a : Ans) (hl : ∀ c ∈ l, c.1 = false) :
    Ans.check s (l ++ (true, st) :: m) a = Ans.err s st := by
  have hf : firstErr (l ++ (true, st) :: m) = some st := by
    induction l with
    | nil => rfl
    | cons c l ih =>
      have hc : c = (false, c.2) := Prod.ext (hl c (by simp)) rfl
      rw [List.cons_append, hc]
      exact ih (fun x hx => hl x (by simp [hx]))
  simp only [Ans.check, hf]

end Sys2Proof.Machine

open Sys2Proof Sys2Proof.Machine

/-- Settles O54: each refusal in its order, and what a run's end or a repair leaves read back. -/
theorem selfTestAndRepair : Obligations.SelfTestAndRepair := by
  unfold Obligations.SelfTestAndRepair
  refine ⟨?bistRun, ?bistRun2, ?bistRun3, ?bistRun4, ?effect, ?bistComplete, ?bistComplete2, ?bistResult, ?repairFuse, ?repairFuse2, ?repairFuse3⟩
  case bistRun =>
    intro h p d k s t ht hst h3 h4 h5 h6 h7 h8 h9 h10 h11
    have hnamed : decide (2 ≤ d ∧ d ≤ 29) = true := decide_eq_true h5
    refine (exec_takes rfl ht hst).trans ?_
    simp only [cmdBistRun, ← h3, ← h4, hnamed]
    rw [Ans.check_pass _ _ _ ?_]
    · rfl
    · rcases h9 with h9 | h9 <;> simp [h7, h8, h9, h10, Nat.not_lt.2 h6] <;> simpa using h11
  case bistRun2 =>
    intro h p s t ht hst h3
    refine (exec_takes rfl ht hst).trans ?_
    simp [cmdBistRun, h3, Ans.check, firstErr]
  case bistRun3 =>
    intro h p s t ht hst h3 h4
    refine (exec_takes rfl ht hst).trans ?_
    simp [cmdBistRun, h3, h4, Ans.check, firstErr]
  case bistRun4 =>
    intro h p d s t ht hst h3 h4 h5 h6 h7 h8 h9 h10
    have hnamed : decide (2 ≤ d ∧ d ≤ 29) = true := decide_eq_true h4
    refine (exec_takes rfl ht hst).trans ?_
    simp only [cmdBistRun, ← h3, hnamed, h10]
    refine congrArg (fun a => Host.Outcome.next (State.deliver h a)) (Ans.check_fail t [_, _, _, _] _ [] _ ?_)
    rcases h8 with h8 | h8 <;> simp [h6, h7, h8, h9, Nat.not_lt.2 h5]
  case effect =>
    intro d k both s h1 h2
    simp (disch := decide) only [State.bistStart, State.rd_withDbg, State.rd_wr_apart, State.rd_wr_same]
    refine ⟨trivial, rfl, ?_, ?_, rfl⟩
    · exact Nat.mod_eq_of_lt h1
    · exact Nat.mod_eq_of_lt (by simp only [Reg.BIST.STATUS.KIND]; omega)
  case bistComplete =>
    intro sig d fails s h1 h2
    have hs : sig % 2 ^ 64 = sig := Nat.mod_eq_of_lt h1
    simp only [exec, execBistComplete, h2, hs, if_true]
    refine ⟨_, rfl, rfl, ?_, fun hne => ?_⟩
    · rw [State.isSet, State.rd_bistStart_event _ _ _ _ rfl, State.rd_withDbg]
      split
      · simp (disch := decide) only [State.evt, State.rd_wr_other, State.rd_wr_same]
        rfl
      · simp (disch := decide) only [State.evt, State.rd_wr_other, State.rd_wr_apart, State.rd_wr_same]
        rfl
    · rw [State.isSet, State.rd_bistStart_event _ _ _ _ rfl, State.rd_withDbg, if_neg hne, State.rd_evt_same _ _ rfl (by decide)]
      rfl
  case bistComplete2 =>
    intro sig d k fails s h1 h2 h3
    have hs : sig % 2 ^ 64 = sig := Nat.mod_eq_of_lt h1
    have hhi : sig / 2 ^ 32 % 2 ^ 32 = sig / 2 ^ 32 := Nat.mod_eq_of_lt (by omega)
    simp only [exec, execBistComplete, h2, hs, Bool.false_eq_true, if_false]
    refine ⟨_, rfl, by rw [State.wr_dbg], State.rd_wr_same _ _ _ rfl, fun he => ?_, fun hne => ?_, ?_⟩
    · simp (disch := decide) only [if_pos he, State.wr_dbg, SMap.get_set_same, State.rd_withDbg, State.rd_wr_apart, State.rd_wr_same]
      exact ⟨rfl, trivial⟩
    · simp (disch := decide) only [if_neg hne, State.wr_dbg, SMap.get_set_same, State.rd_withDbg, State.evt, State.rd_wr_other,
        State.rd_wr_apart, State.rd_wr_same]
      exact ⟨rfl, trivial⟩
    · split <;> simp (disch := decide) only [State.rd_withDbg, State.evt, State.bump, State.rd_wr_other, State.rd_wr_same]
      · exact ⟨rfl, hhi⟩
      · exact ⟨rfl, hhi⟩
  case bistResult =>
    intro h p d k s t ht hst h3 h4 h5 h6 h7 h8 h9 h10
    have hnamed : decide (2 ≤ d ∧ d ≤ 29) = true := decide_eq_true h5
    have hbuf : (u64 p 8 != 0 && (decide (u32 p 16 < 8 * (t.candsOf d).length) || h.spiBad (u64 p 8) (u32 p 16))) = false := by
      rcases h9 with h9 | ⟨hlen, hbad⟩
      · simp [h9]
      · rw [decide_eq_false (Nat.not_lt.2 hlen), hbad]; simp
    refine (exec_takes rfl ht hst).trans ?_
    simp only [cmdBistResult, ← h3, ← h4, hnamed]
    rw [Ans.check_pass _ _ _ ?_, State.deliver_say]
    simp only [h7, h8, h10, hbuf, decide_eq_false (Nat.not_lt.2 h6)]
    simp
  case repairFuse =>
    intro h p c b k x s u ht hst h3 h4 h5 h6 h7 h8 h9 h10 h11 h12 h13 h14 h15
    obtain ⟨hc8, hb32⟩ := h6
    obtain ⟨hxc, hxb, hxk⟩ := h13
    have hcand : u.dbg.cands.any (fun x => x.cluster == c && x.bank == b && x.col == k) = true :=
      List.any_eq_true.2 ⟨x, h12, by simp [hxc, hxb, hxk]⟩
    have hne : Reg.BIST.EVENT.REPAIR_DONE.off ≠ (Reg.CLU.EVENT.SPARE_LOW c).off := by
      simp only [Reg.BIST.EVENT.REPAIR_DONE, Reg.BIST.EVENT, Reg.CLU.EVENT.SPARE_LOW, Reg.CLU.EVENT]
      omega
    have hex := exec_takes (i := .repairFuse h p) rfl ht hst
    simp only [cmdRepairFuse, ← h3, ← h4, ← h5] at hex
    rw [Ans.check_pass _ _ _ ?_, State.deliver_say] at hex
    · refine ⟨_, hex, ?_, ?_, ?_, fun h1 => ?_⟩
      · split <;> simp [State.sparesUsed]
      · split <;> simp
      · split
        · rw [State.isSet, State.evt, State.rd_wr_other _ _ hne, State.rd_evt_same _ _ rfl (by decide)]
          rfl
        · rw [State.isSet, State.rd_evt_same _ _ rfl (by decide)]
          rfl
      · rw [if_pos h1, State.isSet, State.rd_evt_same _ _ rfl (by simp [Reg.CLU.EVENT.SPARE_LOW])]
        rfl
    · simp only [h7, h8, h9, h11, hcand, h14, decide_eq_false (Nat.not_le.2 h10), decide_eq_false (Nat.not_le.2 hc8),
        decide_eq_false (Nat.not_le.2 hb32), decide_eq_false (Nat.not_le.2 h15)]
      simp
  case repairFuse2 =>
    intro h p c b k s t ht hst h3 h4 h5 h6 h7 h8 h9 h10 h11 h12
    obtain ⟨hc8, hb32⟩ := h6
    have hfive : ∀ y ∈ [(t.dbgLevel != 2, Sts.authRequired), (t.mode != 5, Sts.modeRefused),
        (decide (c < 8) && decide (t.nClusters ≤ c), Sts.unitAbsent), (decide (c < 8) && !t.regsOn (5 + c), Sts.domainOff),
        (decide (8 ≤ c) || decide (32 ≤ b) || !zeroFrom p 3, Sts.badParam)], y.1 = false := by
      simp [h7, h8, h9, h10, h11, hc8, hb32]
    refine (exec_takes rfl ht hst).trans ?_
    simp only [cmdRepairFuse, ← h3, ← h4, ← h5]
    by_cases hbad : t.dbg.cands.any (fun x => x.cluster == c && x.bank == b && x.col == k) = false ∨
        t.isSet Reg.LEDGER.STATUS.THERM_BLOCK = true
    · have hb : (!t.dbg.cands.any (fun x => x.cluster == c && x.bank == b && x.col == k) || t.isSet Reg.LEDGER.STATUS.THERM_BLOCK) = true := by
        rcases hbad with hbad | hbad <;> simp [hbad]
      rw [if_pos hbad, hb]
      exact congrArg (fun a => Host.Outcome.next (State.deliver h a)) (Ans.check_fail t [_, _, _, _, _] _ [_] _ hfive)
    · have hcand : t.dbg.cands.any (fun x => x.cluster == c && x.bank == b && x.col == k) = true :=
        Bool.eq_true_of_not_eq_false (fun h => hbad (Or.inl h))
      have htherm : t.isSet Reg.LEDGER.STATUS.THERM_BLOCK = false :=
        Bool.eq_false_of_not_eq_true (fun h => hbad (Or.inr h))
      have hused : t.sparesUsed c b = 2 := h12.resolve_left (by rw [hcand]; decide)
      rw [if_neg hbad, hcand, htherm, hused]
      refine congrArg (fun a => Host.Outcome.next (State.deliver h a)) (Ans.check_fail t [_, _, _, _, _, _] _ [] _ ?_)
      simpa using hfive
  case repairFuse3 =>
    intro h p s t ht hst h3
    refine (exec_takes rfl ht hst).trans ?_
    simp [cmdRepairFuse, h3, Ans.check, firstErr]

end

section
set_option Elab.async false
/-! Writes and reads over the bus (R1–R13, R216). -/

namespace Sys2Proof.Machine

/-- Putting 0 into a field clears its bits and keeps the others. -/
theorem Word.testBit_putField_zero (w : Word) (l n i : Nat) :
    (w.putField l n 0).toNat.testBit i = (w.toNat.testBit i && !decide (l ≤ i ∧ i < l + n)) := by
  have hlow : w.toNat % 2 ^ l < 2 ^ (l + n) :=
    lt_of_lt_of_le (Nat.mod_lt _ (Nat.two_pow_pos l)) (Nat.pow_le_pow_right (by decide) (Nat.le_add_right l n))
  have hval : (w.putField l n 0).toNat = (2 ^ (l + n) * (w.toNat / 2 ^ (l + n)) + w.toNat % 2 ^ l) % 2 ^ 32 := by
    simp only [Word.putField, BitVec.toNat_ofNat, Nat.zero_mod, Nat.mul_zero, Nat.add_zero]
    rw [Nat.add_comm]
  have hw : ∀ j, 32 ≤ j → w.toNat.testBit j = false := fun j hj =>
    Nat.testBit_lt_two_pow (lt_of_lt_of_le w.isLt (Nat.pow_le_pow_right (by decide) hj))
  rw [hval, Nat.testBit_mod_two_pow, Nat.testBit_two_pow_mul_add _ hlow, Nat.testBit_mod_two_pow, Nat.testBit_div_two_pow]
  by_cases hi : i < l + n
  · by_cases hl : i < l
    · have h0 : ¬ (l ≤ i ∧ i < l + n) := by omega
      by_cases h32 : i < 32
      · simp [hi, hl, h32]
      · simp [hi, hl, h32, hw i (by omega)]
    · have h1 : l ≤ i ∧ i < l + n := by omega
      simp [hi, hl, h1]
  · have h0 : ¬ (l ≤ i ∧ i < l + n) := by omega
    have he : l + n + (i - (l + n)) = i := by omega
    by_cases h32 : i < 32
    · simp [hi, h32, Nat.add_comm, he]
    · simp [hi, h32, hw i (by omega)]

theorem Word.testBit_field (w : Word) (l n i : Nat) : (w.field l n).testBit i = (decide (i < n) && w.toNat.testBit (l + i)) := by
  rw [Word.field, Nat.testBit_mod_two_pow, Nat.testBit_div_two_pow, Nat.add_comm]

theorem Word.field_eq_zero {w : Word} {l n : Nat} (h : ∀ i < n, w.toNat.testBit (l + i) = false) : w.field l n = 0 := by
  refine Nat.eq_of_testBit_eq fun i => ?_
  rw [Word.testBit_field, Nat.zero_testBit]
  by_cases hi : i < n
  · rw [h i hi, Bool.and_false]
  · simp [hi]

/-- Clearing the read-clear fields one after another leaves each of them 0. -/
theorem clearFlds_testBit (l : List FSpec) : ∀ (w : Word) (i : Nat), (l.foldl (fun w f => if f.ty = .rc then w.putField f.lsb f.w 0 else w)
    w).toNat.testBit i = (w.toNat.testBit i && !l.any (fun f => f.ty == .rc && decide (f.lsb ≤ i ∧ i < f.lsb + f.w))) := by
  induction l with
  | nil => simp
  | cons f l ih =>
    intro w i
    rw [List.foldl_cons, ih]
    by_cases hf : f.ty = .rc
    · rw [if_pos hf, Word.testBit_putField_zero]
      simp [hf, Bool.and_assoc]
    · have hb : (f.ty == .rc) = false := beq_eq_false_iff_ne.2 hf
      rw [if_neg hf, List.any_cons, hb, Bool.false_and, Bool.false_or]

theorem lockOff_of_between {o : Nat} (h : 0x100000 ≤ o ∧ o < 0x1000000) : lockOff o = false := by
  simp only [lockOff, Bool.or_eq_false_iff, decide_eq_false_iff_not]
  omega

theorem halfAt_of_between {o : Nat} (h : 0x100000 ≤ o ∧ o < 0x1000000) : halfAt o = none := by
  rw [halfAt, if_neg (by omega), if_neg (by omega), if_neg (by omega)]

/-- A register of the shared units from DRAM to the mesh has no effects of its own, but for a controller's configuration. -/
theorem State.ownWrite_of_plain (s : State) (m v : Nat) {o : Nat} (h : 0x100000 ≤ o ∧ o < 0x1000000) (hmc : o < 0x200000 → o % 0x20000 ≠ 4) :
    s.ownWrite m o v = s.wordWrite o v := by
  have hreg : ∀ r, r < 0x100000 → ¬ o = r := fun r hr => by omega
  rw [State.ownWrite, if_neg (by omega), if_neg (not_or.2 ⟨hreg _ (by decide), hreg _ (by decide)⟩), if_neg (by omega), if_neg (by omega),
    if_neg (by omega), if_neg (hreg _ (by decide)), if_neg (hreg _ (by decide)), if_neg (by omega), if_neg (hreg _ (by decide)),
    if_neg (by omega), if_neg (by omega)]

/-- A register that is not there takes no write. -/
theorem State.access_absent {s t : State} {m o : Nat} (h : s.offPresent o = false) : s.access m o t = s := by
  simp [State.access, h]

theorem State.dbgWrite_absent {s : State} {m o v : Nat} (h : s.offPresent o = false) : s.dbgWrite m o v = s := by
  rw [State.dbgWrite]
  by_cases h1 : o = Reg.DBG.AUTH
  · rw [if_pos h1, State.access_absent h]
  by_cases h2 : o = Reg.DBG.ENG_CTRL
  · rw [if_neg h1, if_pos h2]
    exact State.access_absent (h2 ▸ h)
  by_cases h3 : o = Reg.DBG.ENG_STAT
  · rw [if_neg h1, if_neg h2, if_pos h3]
    exact State.access_absent (h3 ▸ h)
  by_cases h4 : o = Reg.DBG.CORE_CTRL
  · have hask : ∀ x, s.coreAsk m x = s := fun _ => State.access_absent (h4 ▸ h)
    have hrun : ∀ x, s.coreRun m x = s := fun _ => State.access_absent (h4 ▸ h)
    rw [if_neg h1, if_neg h2, if_neg h3, if_pos h4]
    simp only [hask, hrun, ite_self]
  by_cases h5 : o = Reg.DBG.LOCK_FORCE
  · rw [if_neg h1, if_neg h2, if_neg h3, if_neg h4, if_pos h5]
    exact State.access_absent (h5 ▸ h)
  rw [if_neg h1, if_neg h2, if_neg h3, if_neg h4, if_neg h5, State.access_absent h, State.access_absent h, ite_self]

theorem bit_field (v l n : Nat) {k : Nat} (hk : k < n) : bit (v / 2 ^ l % 2 ^ n) k = bit v (l + k) := by
  rw [bit_mod _ hk, bit_eq_testBit, bit_eq_testBit, Nat.testBit_div_two_pow, Nat.add_comm]

theorem bit_sub_ones {n x : Nat} (hx : x < 2 ^ n) {k : Nat} (hk : k < n) : bit (2 ^ n - 1 - x) k = !bit x k := by
  rw [bit_eq_testBit, bit_eq_testBit, Nat.sub_sub, Nat.add_comm 1, Nat.testBit_two_pow_sub_succ hx]
  simp [hk]

theorem writeFld_rw {v : Nat} {w : Word} {f : FSpec} (h : f.lsb + f.w ≤ 32) (ht : f.ty = .rw) (hlo : f.lo ≤ v / 2 ^ f.lsb % 2 ^ f.w)
    (hhi : v / 2 ^ f.lsb % 2 ^ f.w ≤ f.hi) : (writeFld v w f).field f.lsb f.w = v / 2 ^ f.lsb % 2 ^ f.w := by
  simp only [writeFld, ht]
  rw [if_pos (And.intro hlo hhi), Word.field_putField_same _ _ h, Nat.mod_mod]

theorem writeFld_rw_out {v : Nat} {w : Word} {f : FSpec} (ht : f.ty = .rw)
    (hout : v / 2 ^ f.lsb % 2 ^ f.w < f.lo ∨ f.hi < v / 2 ^ f.lsb % 2 ^ f.w) : writeFld v w f = w := by
  simp only [writeFld, ht]
  exact if_neg (by omega)

theorem writeFld_w1c {v : Nat} {w : Word} {f : FSpec} (h : f.lsb + f.w ≤ 32) (ht : f.ty = .w1c) {k : Nat} (hk : k < f.w) :
    bit ((writeFld v w f).field f.lsb f.w) k = (bit (w.field f.lsb f.w) k && !bit v (f.lsb + k)) := by
  simp only [writeFld, ht]
  rw [Word.field_putField_same _ _ h, bit_mod _ hk, ← bit_field v f.lsb f.w hk, ← bit_sub_ones (Nat.mod_lt _ (Nat.two_pow_pos _)) hk]
  simp only [bit_eq_testBit, Nat.testBit_and]

theorem writeFld_w1s {v : Nat} {w : Word} {f : FSpec} (h : f.lsb + f.w ≤ 32) (ht : f.ty = .w1s) {k : Nat} (hk : k < f.w) :
    bit ((writeFld v w f).field f.lsb f.w) k = (bit (w.field f.lsb f.w) k || bit v (f.lsb + k)) := by
  simp only [writeFld, ht]
  rw [Word.field_putField_same _ _ h, bit_mod _ hk, ← bit_field v f.lsb f.w hk]
  simp only [bit_eq_testBit, Nat.testBit_or]

theorem writeFld_kept {v : Nat} {w : Word} {f : FSpec} (ht : f.ty = .rc ∨ f.ty = .wo) : writeFld v w f = w := by
  rcases ht with ht | ht <;> simp only [writeFld, ht]

/-- The one read-clear field of a port's target register. -/
theorem specOf_portTgt : ∀ n < 24, (specOf (Reg.MC.PORT_TGT n)).map (fun r => r.flds.filter (fun f => f.ty == .rc)) = some [⟨16, 2, .rc, 0, 3⟩] := by
  decide +kernel

theorem clearFlds_filter (l : List FSpec) : ∀ w : Word, l.foldl (fun w f => if f.ty = .rc then w.putField f.lsb f.w 0 else w) w
    = (l.filter (fun f => f.ty == .rc)).foldl (fun w f => w.putField f.lsb f.w 0) w := by
  induction l with
  | nil => exact fun _ => rfl
  | cons f l ih =>
    intro w
    by_cases hf : f.ty = .rc
    · rw [List.filter_cons_of_pos (by simp [hf]), List.foldl_cons, List.foldl_cons, if_pos hf, ih]
    · rw [List.filter_cons_of_neg (by simp [hf]), List.foldl_cons, if_neg hf, ih]

theorem State.bar2_cmem {s : State} {c x : Nat} (hc : c < 8) (hn : c < s.nClusters) (hx : x < 2 ^ 23) (ho : s.regsOn (5 + c) = true) :
    s.bar2 (c * 2 ^ 24 + x) = .cmem (c * 2 ^ 23 + x) (2 ^ 23 - x) := by
  have hd : (c * 2 ^ 24 + x) / 2 ^ 24 = c := by omega
  have hm : (c * 2 ^ 24 + x) % 2 ^ 24 = x := by omega
  rw [State.bar2, if_pos (by omega)]
  simp only [hd, hm]
  rw [if_neg (by omega), if_neg (by omega), if_pos ho]

theorem State.bar2Write_none {s : State} {a : Nat} {b : List Byte} {f : Bool} (h : s.bar2 a = .none f) : s.bar2Write a b = s := by
  rw [State.bar2Write, h]

theorem State.bar2Write_cmem {s : State} {a x n : Nat} {b : List Byte} (h : s.bar2 a = .cmem x n) (hb : b.length ≤ n) :
    s.bar2Write a b = { s with eng := { s.eng with cmem := s.eng.cmem.writeN x b } } := by
  rw [State.bar2Write, h]
  simp only [List.take_of_length_le hb]

theorem State.bar2Write_ldm {s : State} {a e x : Nat} {b : List Byte} (h : s.bar2 a = .ldm e x) (hb : x + b.length ≤ 2 ^ 16) :
    s.bar2Write a b = s.updEngine e (fun y => { y with ldm := y.ldm.writeN x b }) := by
  rw [State.bar2Write, h]
  simp only [List.take_of_length_le (Nat.le_sub_of_add_le' hb)]

/-- The bytes that a write to cluster memory leaves. -/
theorem State.read_withCmem (s : State) (a : Nat) (b : List Byte) : (∀ i, i < b.length →
      ({ s with eng := { s.eng with cmem := s.eng.cmem.writeN a b } } : State).eng.cmem.read (a + i) = b.getD i 0) ∧
    ∀ y, y < a ∨ a + b.length ≤ y → ({ s with eng := { s.eng with cmem := s.eng.cmem.writeN a b } } : State).eng.cmem.read y = s.eng.cmem.read y :=
  ⟨fun _ hi => (Memory.read_writeN _ _ _ hi).trans (by simp [List.getD, hi]), fun _ ha => Memory.read_writeN_other _ _ _ ha⟩

theorem State.regs_withPwr (s : State) (x : PwrSt) : ({ s with pwr := x } : State).regs = s.regs := rfl

theorem State.reg_peakRead (s : State) (o r : Nat) : (s.peakRead o).reg r = s.reg r := by
  rw [State.peakRead]
  split
  · exact State.reg_congr (State.regs_withPwr s _) r
  · rfl

/-- What reading a register with read-clear fields leaves of it. -/
theorem State.reg_rcClear {s : State} {o : Nat} {r : RegSpec} (h : specOf o = some r) (hrc : r.flds.any (fun f => f.ty == .rc) = true) :
    (s.rcClear o).reg o = r.flds.foldl (fun w f => if f.ty = .rc then w.putField f.lsb f.w 0 else w) (s.reg o) := by
  simp only [State.rcClear, h, if_pos hrc]
  rw [State.reg_peakRead, State.reg_setReg_same]

end Sys2Proof.Machine

open Sys2Proof Sys2Proof.Machine

/-- Settles O55: a register's word by its fields, and the memory that a BAR2 address names. -/
theorem busAccesses : Obligations.BusAccesses := by
  unfold Obligations.BusAccesses
  refine ⟨?registerWrite, ?registerWrite2, ?effect, ?effect2, ?rcFieldRead, ?effect3, ?effect4, ?hostBar2Write, ?hostBar2Write2, ?hostBar2Write3⟩
  case registerWrite =>
    intro m o v s h1 h2 h3 h4 h5 h6
    have hm : ¬ (m = 0 ∨ 6 < m ∨ o % 4 ≠ 0) := by omega
    simp only [exec, execRegisterWrite, State.busWrite, if_neg hm, Nat.mod_eq_of_lt h5, lockOff_of_between h3, halfAt_of_between h3,
      if_neg (show ¬ 0x2000000 ≤ o by omega), if_neg (show ¬ (0xE0000 ≤ o ∧ o < 0xE1000) by omega), State.ownWrite_of_plain _ _ _ h3 h4,
      State.access, h6, Bool.not_true, Bool.false_eq_true, if_false, State.wordWrite]
  case registerWrite2 =>
    intro m o v s h1 h2 h3
    simp only [exec, execRegisterWrite, State.busWrite]
    by_cases hm : m = 0 ∨ 6 < m ∨ o % 4 ≠ 0
    · rw [if_pos hm]
    rw [if_neg hm, if_neg (Nat.not_le.2 h2), State.access_absent h3, State.access_absent h3, State.dbgWrite_absent h3]
    cases lockOff o
    · cases halfAt o
      · simp
      · simp [State.access_absent h3]
    · simp
  case effect =>
    intro m o s h1
    obtain ⟨ha, hb⟩ := h1
    simp only [State.refuseAccess, if_neg (show ¬ m = 5 by omega), if_pos (And.intro ha hb)]
    simp
  case effect2 =>
    intro v w f h1 h2
    exact ⟨writeFld_rw h2, writeFld_rw_out, fun k hk ht => writeFld_w1c h2 ht hk, fun k hk ht => writeFld_w1s h2 ht hk, writeFld_kept⟩
  case rcFieldRead =>
    intro m o s h1 h2 h3
    have hm : ¬ (m = 0 ∨ 6 < m ∨ o % 4 ≠ 0) := by omega
    simp only [exec, execRcFieldRead, if_neg hm, State.accessR, h3, Bool.not_true, Bool.false_eq_true, if_false]
    cases s.offOn o <;> simp
  case effect3 =>
    intro n s h1
    obtain ⟨r, hr, hf⟩ := Option.map_eq_some_iff.1 (specOf_portTgt n h1)
    have hany : r.flds.any (fun f => f.ty == .rc) = true :=
      List.any_eq_true.2 ⟨_, (List.mem_filter.1 (hf ▸ List.mem_singleton_self _)).1, rfl⟩
    simp only [State.rcClear, hr, if_pos hany, clearFlds_filter, hf, List.foldl_cons, List.foldl_nil, State.peakRead]
    exact if_neg (by simp only [Reg.THERM.SENSOR, Reg.MC.PORT_TGT]; omega)
  case effect4 =>
    intro o r f s h1 h2 h3 h4
    have hrc : r.flds.any (fun f => f.ty == .rc) = true := List.any_eq_true.2 ⟨f, h2, by simp [h3]⟩
    rw [State.reg_rcClear h1 hrc]
    refine Word.field_eq_zero fun i hi => ?_
    rw [clearFlds_testBit, List.any_eq_true.2 ⟨f, h2, by simp [h3, hi]⟩]
    simp
  case hostBar2Write =>
    intro c x b s h1 h2 h3 h4 h5
    have hlen : 1 ≤ b.length := List.length_pos_iff.2 h5
    have hb := State.bar2_cmem h2 h1 (show x < 2 ^ 23 by omega) h4
    exact ⟨_, congrArg Host.Outcome.next (State.bar2Write_cmem hb (by omega)), rfl, State.read_withCmem s _ b⟩
  case hostBar2Write2 =>
    intro e x b s h1 h2 h3 h4 h5
    have hd : (0x8000000 + e * 2 ^ 16 + x - 0x8000000) / 2 ^ 16 = e := by omega
    have hm : (0x8000000 + e * 2 ^ 16 + x) % 2 ^ 16 = x := by omega
    have hb : s.bar2 (0x8000000 + e * 2 ^ 16 + x) = .ldm e x := by
      rw [State.bar2, if_neg (by omega)]
      simp only [hd, hm]
      rw [if_neg (by omega), if_neg (by simp [h1]), if_pos h5]
    exact congrArg Host.Outcome.next (State.bar2Write_ldm hb h4)
  case hostBar2Write3 =>
    intro c x b s h1 h2 h3
    have hd : (c * 2 ^ 24 + x) / 2 ^ 24 = c := by omega
    have hm : (c * 2 ^ 24 + x) % 2 ^ 24 = x := by omega
    have hb : ∃ f, s.bar2 (c * 2 ^ 24 + x) = .none f := by
      rw [State.bar2, if_pos (by omega)]
      simp only [hd, hm]
      by_cases hx : 2 ^ 23 ≤ x
      · exact ⟨_, if_pos hx⟩
      · rw [if_neg hx, if_pos (h3.resolve_left hx)]
        exact ⟨_, rfl⟩
    obtain ⟨f, hf⟩ := hb
    exact congrArg Host.Outcome.next (State.bar2Write_none hf)

end

section
set_option Elab.async false
/-! The debug wire's transactions (R529–R537). -/

namespace Sys2Proof.Machine

/-- A transaction in an open session with no record kept: its run's response is kept and sent. -/
theorem exec_debug_of_dbgRun {f : DbgFrame} {s t : State} {st : Nat} {d : Word} (hhold : s.pwr.hold ≠ .off)
    (hses : s.isSet Reg.DBG.STATUS.SESSION = true) (hcells : f.cells = true) (hlast : s.dbg.last = none) (hcol : f.collide = false)
    (hrun : s.dbgRun f = (t, st, d)) :
    (frmOp f = 0 ∨ frmOp f = 3 → exec (.debugRead f) s = .next ((t.dbgKeep f st d).emit (.debugRsp st d))) ∧
      (frmOp f = 1 → exec (.debugWrite f) s = .next ((t.dbgKeep f st d).emit (.debugRsp st d))) ∧
      (frmOp f = 2 → exec (.debugWake f) s = .next ((t.dbgKeep f st d).emit (.debugRsp st d))) := by
  refine exec_debug_of_dbgFrame ?_
  rw [State.dbgFrame_of_last_ne hhold hses hcells (by simp [hlast]), hrun]
  exact State.dbgSend_of_not_collide hcol _ _ _

section
variable {s : State} {f : DbgFrame} (hcrc : crc8 (frmBody f) 72 0 = f.crc.toNat)

theorem State.dbgRun_badCrc {s : State} {f : DbgFrame} (h : crc8 (frmBody f) 72 0 ≠ f.crc.toNat) : s.dbgRun f = (s, 5, 0) := by
  rw [State.dbgRun, if_pos h]

include hcrc

theorem State.dbgRun_bad (hbad : frmBad f = true) : s.dbgRun f = (s, 4, 0) := by
  rw [State.dbgRun, if_neg (not_not.2 hcrc), if_pos hbad]

theorem State.dbgRun_notAllowed (hbad : frmBad f = false) (hal : s.dbgAllowed f = false) : s.dbgRun f = (s, 1, 0) := by
  rw [State.dbgRun, if_neg (not_not.2 hcrc), if_neg (by simp [hbad]), if_pos (by simp [hal])]

theorem State.dbgRun_done (hbad : frmBad f = false) (hal : s.dbgAllowed f = true) (hbus : frmOp f = 2 ∨ s.dbgBusErr f = false)
    (hlate : f.late = false) : s.dbgRun f = ((s.dbgDo f).1, 0, (s.dbgDo f).2) := by
  have hb : ¬ (frmOp f ≠ 2 ∧ s.dbgBusErr f = true) := fun h => hbus.elim h.1 (fun hf => by simp [hf] at h)
  rw [State.dbgRun, if_neg (not_not.2 hcrc), if_neg (by simp [hbad]), if_neg (by simp [hal]), if_neg hb]
  simp [hlate]

end

/-- An aligned address within the register space makes a good header. -/
theorem frmBad_of_register {f : DbgFrame} (hop : frmOp f < 2) (hsp : frmSpace f = 0) (ha : f.addr.toNat % 4 = 0) (hlt : f.addr.toNat < 2 ^ 26) :
    frmBad f = false := by
  have h2 : ¬ frmOp f = 2 := by omega
  have h3 : ¬ frmOp f = 3 := by omega
  simpa [frmBad, h2, h3, hsp, ha] using hlt

theorem State.dbgBusErr_of_here {s : State} {f : DbgFrame} (hsp : frmSpace f = 0) (hlt : f.addr.toNat < 0x2000000)
    (hp : s.offPresent f.addr.toNat = true) (ho : s.offOn f.addr.toNat = true) : s.dbgBusErr f = false := by
  simp only [State.dbgBusErr, hsp, if_neg (Nat.not_le.2 hlt), hp, ho, Bool.not_true, Bool.or_self]

end Sys2Proof.Machine

open Sys2Proof Sys2Proof.Machine

/-- Settles O56: each transaction by the run it gives; the repeat and the broken cells without one. -/
theorem debugWire : Obligations.DebugWire := by
  unfold Obligations.DebugWire
  refine ⟨?debugRead, ?debugWrite, ?debugWake, ?debugWrite2, ?debugRead2, ?debugRead3, ?debugWrite3, ?debugWrite4, ?debugWrite5⟩
  case debugRead =>
    intro f s h1 h2 h3 h4 h5 h6 h7 h8 h9 h10 h11 h12 h13 h14
    have hbad := frmBad_of_register (by omega) h9 h11 (by omega)
    have hal : s.dbgAllowed f = true := by simp [State.dbgAllowed, h8, h9, h10, h12]
    have hrun := State.dbgRun_done h5 hbad hal (Or.inr (State.dbgBusErr_of_here h9 (by omega) h13 h14)) h6
    have hdo : s.dbgDo f = (s, s.view f.addr.toNat) := by simp [State.dbgDo, h8, h9, h10]
    rw [hdo] at hrun
    exact (exec_debug_of_dbgRun h1 h2 h3 h4 h7 hrun).1 (Or.inl h8)
  case debugWrite =>
    intro f s h1 h2 h3 h4 h5 h6 h7 h8 h9 h10 h11 h12 h13 h14
    have hbad := frmBad_of_register (by omega) h9 h11 (by omega)
    have hal : s.dbgAllowed f = true := by simp [State.dbgAllowed, h8, h10]
    have hrun := State.dbgRun_done h5 hbad hal (Or.inr (State.dbgBusErr_of_here h9 h12 h13 h14)) h6
    have hdo : s.dbgDo f = (s.busWrite 6 f.addr.toNat f.data.toNat, 0) := by simp [State.dbgDo, h8, h9]
    rw [hdo] at hrun
    exact (exec_debug_of_dbgRun h1 h2 h3 h4 h7 hrun).2.1 h8
  case debugWake =>
    intro f s h1 h2 h3 h4 h5 h6 h7 h8 h9
    have hbad : frmBad f = false := by simp [frmBad, h8, h9]
    have hal : s.dbgAllowed f = true := by simp [State.dbgAllowed, h8]
    have hrun := State.dbgRun_done h5 hbad hal (Or.inl h8) h6
    have hdo : s.dbgDo f = (s.wakeUp, 0) := by simp [State.dbgDo, h8]
    rw [hdo] at hrun
    exact (exec_debug_of_dbgRun h1 h2 h3 h4 h7 hrun).2.2 h8
  case debugWrite2 =>
    intro f s h1 h2 h3 h4 h5 h6 h7 h8 h9 h10 h11 h12
    have hbad := frmBad_of_register (by omega) h9 h11 (by omega)
    have hal : s.dbgAllowed f = false := by
      have ha1 : ¬ f.addr.toNat = Reg.DBG.ADDR_HI := by simp only [Reg.DBG.ADDR_HI]; omega
      have ha2 : ¬ f.addr.toNat = Reg.DBG.AUTH := by simp only [Reg.DBG.AUTH]; omega
      have ha3 : ¬ 0xE0200 ≤ f.addr.toNat := by omega
      simp [State.dbgAllowed, h8, h10, ha1, ha2, ha3]
    exact (exec_debug_of_dbgRun h1 h2 h3 h4 h7 (State.dbgRun_notAllowed h5 hbad hal)).2.1 h8
  case debugRead2 =>
    intro f s h1 h2 h3 h4 h5 h6 h7
    exact (exec_debug_of_dbgRun h1 h2 h3 h4 h5 (State.dbgRun_badCrc h7)).1 (Or.inl h6)
  case debugRead3 =>
    intro f s h1 h2 h3 h4 h5 h6 h7 h8
    exact (exec_debug_of_dbgRun h1 h2 h3 h4 h7 (State.dbgRun_bad h5 (by simp [frmBad, h8]))).1 (Or.inr h8)
  case debugWrite3 =>
    intro f st d s h1 h2 h3 h4 h5 h6
    exact (exec_debug_of_dbgFrame ((State.dbgFrame_of_last_eq h1 h2 h3 h6).trans (State.dbgSend_of_not_collide h4 s st d))).2.1 h5
  case debugWrite4 =>
    intro f s h1 h2 h3 h4
    exact (exec_debug_of_dbgFrame (by simp [State.dbgFrame, h1, h2, h3])).2.1 h4
  case debugWrite5 =>
    intro f s h1
    have hf : s.dbgFrame f = s := by simp [State.dbgFrame, h1]
    simp only [exec_debugWrite, exec_debugRead, exec_debugWake, execDebugWrite, execDebugRead, execDebugWake, hf, ite_self, and_self]

end

section
set_option Elab.async false
/-! The tick boundary: slots, lock states, steps, and what every part of the boundary keeps (R17–R38). -/

namespace Sys2Proof.Machine

/-- The registers that hold the configuration of lock and holdover, the states of the domains and those of the engines. -/
def TickOff (o : Nat) : Prop :=
  o = Reg.TICK.LOCK_CFG ∨ o = Reg.TICK.HOLD_CFG ∨ o = Reg.PWR.DOM0 ∨ o = Reg.PWR.DOM1 ∨ 0x1000000 ≤ o ∧ o % 0x40 = 0

/-- A field of none of these registers, and apart from the slot. -/
def tickFree (f : Fld) : Bool :=
  decide (¬ (f.off = Reg.TICK.LOCK_CFG ∨ f.off = Reg.TICK.HOLD_CFG ∨ f.off = Reg.PWR.DOM0 ∨ f.off = Reg.PWR.DOM1 ∨
    0x1000000 ≤ f.off ∧ f.off % 0x40 = 0) ∧ f.lsb + f.w ≤ 32 ∧ (f.off ≠ Reg.TICK.STATUS ∨ f.lsb + f.w ≤ 12 ∨ 23 ≤ f.lsb))

/-- The tick's number and slot, the configuration of lock and holdover, and which domains are on and which engines run, are the same. -/
structure State.SameTick (s t : State) : Prop where
  num : t.tick.num = s.tick.num
  lockCfg : t.tick.lockCfg = s.tick.lockCfg
  holdCfg : t.tick.holdCfg = s.tick.holdCfg
  seqs : t.pwr.seqs = s.pwr.seqs
  slot : t.slot = s.slot
  reg : ∀ o, TickOff o → t.reg o = s.reg o

/-- The engines are the same as well. -/
structure State.SameEng (s t : State) : Prop extends State.SameTick s t where
  eng : t.eng = s.eng

theorem State.SameTick.refl (s : State) : s.SameTick s := ⟨rfl, rfl, rfl, rfl, rfl, fun _ _ => rfl⟩

theorem State.SameTick.trans {s t u : State} (h : s.SameTick t) (k : t.SameTick u) : s.SameTick u :=
  ⟨k.num.trans h.num, k.lockCfg.trans h.lockCfg, k.holdCfg.trans h.holdCfg, k.seqs.trans h.seqs, k.slot.trans h.slot,
    fun o ho => (k.reg o ho).trans (h.reg o ho)⟩

theorem State.SameEng.refl (s : State) : s.SameEng s := ⟨.refl s, rfl⟩

theorem State.SameEng.trans {s t u : State} (h : s.SameEng t) (k : t.SameEng u) : s.SameEng u :=
  ⟨h.toSameTick.trans k.toSameTick, k.eng.trans h.eng⟩

theorem State.SameTick.foldl {α : Type} {f : State → α → State} (l : List α) (s : State) (h : ∀ t : State, ∀ x ∈ l, t.SameTick (f t x)) :
    s.SameTick (l.foldl f s) :=
  List.foldlRecOn (motive := fun t => s.SameTick t) l f (.refl s) fun t ht x hx => ht.trans (h t x hx)

theorem State.SameEng.foldl {α : Type} {f : State → α → State} (l : List α) (s : State) (h : ∀ t : State, ∀ x ∈ l, t.SameEng (f t x)) :
    s.SameEng (l.foldl f s) :=
  List.foldlRecOn (motive := fun t => s.SameEng t) l f (.refl s) fun t ht x hx => ht.trans (h t x hx)

theorem State.SameEng.ite {s t u : State} {c : Prop} [Decidable c] (h : c → s.SameEng t) (k : s.SameEng u) : s.SameEng (if c then t else u) := by
  split
  · exact h ‹_›
  · exact k

theorem State.SameTick.ite {s t u : State} {c : Prop} [Decidable c] (h : c → s.SameTick t) (k : s.SameTick u) :
    s.SameTick (if c then t else u) := by
  split
  · exact h ‹_›
  · exact k

theorem State.SameTick.of_parts {s t : State} (hr : t.regs = s.regs) (hn : t.tick.num = s.tick.num) (hl : t.tick.lockCfg = s.tick.lockCfg)
    (hh : t.tick.holdCfg = s.tick.holdCfg) (hp : t.pwr.seqs = s.pwr.seqs) : s.SameTick t :=
  ⟨hn, hl, hh, hp, State.rd_congr hr _, fun o _ => State.reg_congr hr o⟩

/-- A change outside the registers, the tick, the power sequences and the engines. -/
theorem State.SameEng.of_parts {s t : State} (hr : t.regs = s.regs) (ht : t.tick = s.tick) (hp : t.pwr = s.pwr) (he : t.eng = s.eng) :
    s.SameEng t :=
  ⟨.of_parts hr (by rw [ht]) (by rw [ht]) (by rw [ht]) (by rw [hp]), he⟩

theorem State.sameEng_wr (s : State) {f : Fld} (v : Nat) (h : tickFree f = true) : s.SameEng (s.wr f v) := by
  obtain ⟨hoff, h32, hslot⟩ := of_decide_eq_true h
  refine ⟨⟨by simp, by simp, by simp, by simp, ?_, fun o ho => State.reg_wr_other _ _ _ fun he => hoff (he ▸ ho)⟩, by simp⟩
  by_cases hs : f.off = Reg.TICK.STATUS
  · exact State.rd_wr_apart _ _ (decide_eq_true h32) ((hslot.resolve_left (not_not.2 hs)).symm)
  · exact State.rd_wr_other _ _ (Ne.symm hs)

theorem State.SameEng.then_wr {s t : State} (h : s.SameEng t) {f : Fld} (v : Nat) (hf : tickFree f = true) : s.SameEng (t.wr f v) :=
  h.trans (t.sameEng_wr v hf)

theorem State.sameEng_evt (s : State) {f : Fld} (h : tickFree f = true) : s.SameEng (s.evt f) := s.sameEng_wr 1 h

theorem State.sameEng_bump (s : State) {f : Fld} (h : tickFree f = true) : s.SameEng (s.bump f) := s.sameEng_wr _ h

theorem State.sameEng_flag (s : State) {f : Fld} (b : Bool) (h : tickFree f = true) : s.SameEng (s.flag f b) := s.sameEng_wr _ h

theorem State.sameEng_emit (s : State) (e : Emit) : s.SameEng (s.emit e) := .of_parts rfl rfl rfl rfl

theorem State.SameEng.then_emit {s t : State} (h : s.SameEng t) (e : Emit) : s.SameEng (t.emit e) := h.trans (t.sameEng_emit e)

theorem State.sameEng_updContract (s : State) (i : Nat) (f : Contract → Contract) : s.SameEng (s.updContract i f) := .of_parts rfl rfl rfl rfl

theorem State.sameEng_withStrm (s : State) (x : StreamSt) : s.SameEng { s with strm := x } := .of_parts rfl rfl rfl rfl

theorem State.sameEng_updLink (s : State) (k : Nat) (f : LinkDyn → LinkDyn) : s.SameEng (s.updLink k f) := .of_parts rfl rfl rfl rfl

theorem State.sameEng_withTwin (s : State) (x : TwinSt) : s.SameEng { s with twin := x } := .of_parts rfl rfl rfl rfl

theorem State.sameEng_withTick (s : State) {x : TickSt} (hn : x.num = s.tick.num) (hl : x.lockCfg = s.tick.lockCfg)
    (hh : x.holdCfg = s.tick.holdCfg) : s.SameEng { s with tick := x } := ⟨.of_parts rfl hn hl hh rfl, rfl⟩

theorem State.sameEng_setRef (s : State) (src dom index : Nat) (r : RefState) : s.SameEng (s.setRef src dom index r) :=
  s.sameEng_withTick rfl rfl rfl

/-! ## The references and the lock -/

theorem State.sameEng_setLock (s : State) (l : Nat) : s.SameEng (s.setLock l) :=
  (s.sameEng_wr l rfl).trans (State.sameEng_withTick _ rfl rfl rfl)

theorem State.sameEng_enterHoldover (s : State) : s.SameEng s.enterHoldover := (s.sameEng_setLock 3).trans (State.sameEng_evt _ rfl)

theorem State.sameEng_useEntry (s : State) (i : Nat) : s.SameEng (s.useEntry i) :=
  ((s.sameEng_wr _ rfl).trans (State.sameEng_wr _ _ rfl)).trans (State.sameEng_withTick _ rfl rfl rfl)

theorem State.sameEng_switchTo (s : State) (i : Nat) : s.SameEng (s.switchTo i) :=
  ((s.sameEng_useEntry i).trans (State.sameEng_evt _ rfl)).trans (State.sameEng_bump _ rfl)

theorem State.sameEng_noEntry (s : State) : s.SameEng s.noEntry := (s.sameEng_wr _ rfl).trans (State.sameEng_wr _ _ rfl)

theorem State.sameEng_loseActive (s : State) : s.SameEng s.loseActive := by
  rw [State.loseActive]
  split
  · split
    · exact s.sameEng_enterHoldover.trans (State.sameEng_switchTo _ _)
    · exact s.sameEng_switchTo _
  · exact .ite (fun _ => (s.sameEng_setLock 0).trans (State.sameEng_noEntry _))
      (.ite (fun _ => s.sameEng_enterHoldover.trans (State.sameEng_noEntry _)) s.sameEng_noEntry)

theorem State.sameEng_sourceGone (s : State) (src dom index : Nat) : s.SameEng (s.sourceGone src dom index) :=
  .ite (fun _ => s.sameEng_loseActive) (.refl s)

theorem State.sameEng_ranged (s : State) (src dom index : Nat) (r : RefState) (ppb : Int) : s.SameEng (s.ranged src dom index r ppb) :=
  .ite (fun _ => s.sameEng_setRef ..) (.ite (fun _ => ((s.sameEng_setRef ..).trans (State.sameEng_evt _ rfl)).trans (State.sameEng_sourceGone ..))
    (s.sameEng_setRef ..))

theorem State.sameEng_syncIn (l : List (Nat × Int × Int)) (s : State) (i : Nat) : s.SameEng (s.syncIn l i) := by
  rw [State.syncIn]
  refine .ite (fun _ => .refl s) ?_
  split
  · exact s.sameEng_ranged ..
  · exact s.sameEng_setRef ..

theorem State.sameEng_markerIn (s : State) (k : Nat) : s.SameEng (s.markerIn k) := .ite (fun _ => s.sameEng_setRef ..) (.refl s)

theorem State.sameEng_countValid (s : State) (e : RefEntry) : s.SameEng (s.countValid e) := s.sameEng_setRef ..

theorem State.sameEng_setStarts (s : State) : s.SameEng s.setStarts := State.sameEng_withTick _ rfl rfl rfl

theorem State.sameEng_judgeEdge (s : State) (a : Option RefEntry) : s.SameEng (s.judgeEdge a) := by
  unfold State.judgeEdge
  extract_lets err diff far s1 s2 near slew step src tk s3 s4 s5
  have h1 : s.SameEng s1 := .ite (fun _ => s.sameEng_wr _ rfl) (.refl s)
  have h2 : s1.SameEng s2 := .ite (fun _ => State.sameEng_wr _ _ rfl) (.refl _)
  have h3 : s2.SameEng s3 := (State.sameEng_flag s2 _ rfl).trans
    (State.sameEng_withTick _ (by simp [State.flag, tk]) (by simp [State.flag, tk]) (by simp [State.flag, tk]))
  have h4 : s3.SameEng s4 := .ite (fun _ => .refl _) (State.sameEng_evt _ rfl)
  have h5 : s4.SameEng s5 := State.sameEng_wr _ _ rfl
  refine (h1.trans (h2.trans h3)).trans (.ite (fun _ => (h4.trans h5).trans (.ite (fun _ => State.sameEng_enterHoldover _) (.refl _)))
    (State.sameEng_wr _ _ rfl))

theorem State.sameEng_tickPart (e : Edge) (s : State) : s.advance.stagedCfg.SameEng (s.tickPart e) := by
  unfold State.tickPart
  extract_lets s1 tk s2 s3 s4 a s5
  have h2 : s1.SameEng s2 := State.sameEng_withTick _ rfl rfl rfl
  have h3 : s2.SameEng s3 :=
    (State.SameEng.foldl _ _ fun t i _ => t.sameEng_syncIn _ i).trans (State.SameEng.foldl _ _ fun t k _ => t.sameEng_markerIn k)
  have h4 : s3.SameEng s4 := State.SameEng.foldl _ _ fun t x _ => t.sameEng_countValid x
  have h5 : s4.SameEng s5 := s4.sameEng_judgeEdge a
  exact ((h2.trans h3).trans (h4.trans h5)).trans
    (State.SameEng.trans (.ite (fun _ => State.sameEng_setLock _ _) (.refl _)) (State.sameEng_setStarts _))

/-! ## Contracts, lanes, ports and memory controllers -/

theorem State.sameEng_leaveDegraded (s : State) (st : CSt) : s.SameEng (s.leaveDegraded st) := .ite (fun _ => s.sameEng_evt rfl) (.refl s)

theorem State.sameEng_hold (s : State) (i : Nat) (h : HoldCause) (till : Option Nat) : s.SameEng (s.hold i h till) := by
  rw [State.hold]
  have hd : ∀ f st, s.SameEng ((((s.updContract i f).leaveDegraded st).evt Reg.LEDGER.EVENT.HELD).bump Reg.LEDGER.EVENT_CNT.HELD_CNT) :=
    fun f st => (((s.sameEng_updContract i f).trans (State.sameEng_leaveDegraded _ st)).trans (State.sameEng_evt _ rfl)).trans (State.sameEng_bump _ rfl)
  split
  · exact hd _ _
  · exact hd _ _
  · exact s.sameEng_updContract i _
  · exact .refl s

theorem State.sameEng_countMiss (s : State) (i dst : Nat) : s.SameEng (s.countMiss i dst) :=
  (((((s.sameEng_wr _ rfl).trans (State.sameEng_evt _ rfl)).trans (State.sameEng_wr _ _ rfl)).trans (State.sameEng_wr _ _ rfl)).trans
    (State.sameEng_wr _ _ rfl)).trans (State.sameEng_updContract _ i _)

theorem State.sameEng_treeFault (s : State) (t : Tap) : s.SameEng (s.treeFault t) :=
  ((s.sameEng_evt rfl).trans (State.sameEng_bump _ rfl)).trans (State.SameEng.foldl _ _ fun t _ _ => t.sameEng_hold ..)

theorem State.sameEng_tapPart (s : State) (e : Edge) : s.SameEng (s.tapPart e) := by
  unfold State.tapPart
  extract_lets bad tk s1
  have h1 : s.SameEng s1 := s.sameEng_withTick rfl rfl rfl
  exact h1.trans (State.SameEng.foldl _ _ fun t x _ => t.sameEng_treeFault x)

theorem tickFree_above {f : Fld} (h : 0x80028 ≤ f.off ∧ f.lsb + f.w ≤ 32 ∧ (f.off < 0x1000000 ∨ f.off % 0x40 ≠ 0)) : tickFree f = true := by
  refine decide_eq_true ?_
  simp only [Reg.TICK.LOCK_CFG, Reg.TICK.HOLD_CFG, Reg.PWR.DOM0, Reg.PWR.DOM1, Reg.TICK.STATUS]
  omega

/-- The receiver registers of a lane, whatever its number, are none of the registers kept. -/
theorem tickFree_rxeq (l : Nat) : tickFree (Reg.LANE.RXEQ.EYE l) = true ∧ tickFree (Reg.LANE.RXEQ.CTLE l) = true ∧
    tickFree (Reg.LANE.RXEQ.DFE1 l) = true := by
  refine ⟨tickFree_above ?_, tickFree_above ?_, tickFree_above ?_⟩ <;> simp only [Reg.LANE.RXEQ.EYE, Reg.LANE.RXEQ.CTLE, Reg.LANE.RXEQ.DFE1, Reg.LANE.RXEQ] <;> omega

theorem State.sameEng_adapted (s : State) (x : Nat × Nat × Nat × Nat) : s.SameEng (s.adapted x) := by
  obtain ⟨heye, hctle, hdfe⟩ := tickFree_rxeq x.1
  rw [State.adapted]
  have h1 : s.SameEng (s.wr (Reg.LANE.RXEQ.EYE x.1) (min x.2.2.2 255)) := s.sameEng_wr _ heye
  exact .ite (fun _ => .refl s) (h1.trans (.ite (fun _ => .refl _) ((State.sameEng_wr _ _ hctle).trans (State.sameEng_wr _ _ hdfe))))

theorem State.sameEng_prbsCount (s : State) (x : Nat × Nat × Nat) : s.SameEng (s.prbsCount x) :=
  .ite (fun _ => .of_parts rfl rfl rfl rfl) (.refl s)

theorem tickFree_fport (n : Nat) : tickFree (Reg.FAB.FPORT_STATUS.MEAS_KHZ n) = true ∧ tickFree (Reg.FAB.FPORT_STATUS.MISMATCH n) = true ∧
    tickFree (Reg.FAB.FPORT_CNT.DROP_CNT n) = true := by
  refine ⟨tickFree_above ?_, tickFree_above ?_, tickFree_above ?_⟩ <;> simp only [Reg.FAB.FPORT_STATUS.MEAS_KHZ, Reg.FAB.FPORT_STATUS.MISMATCH, Reg.FAB.FPORT_STATUS, Reg.FAB.FPORT_CNT.DROP_CNT, Reg.FAB.FPORT_CNT] <;> omega

theorem State.sameEng_fportMeasured (s : State) (x : Nat × Nat) : s.SameEng (s.fportMeasured x) := by
  obtain ⟨hmeas, hmis, -⟩ := tickFree_fport x.1
  exact .ite (fun _ => ((s.sameEng_wr _ hmeas).trans (State.sameEng_flag _ _ hmis)).trans (.ite (fun _ => State.sameEng_evt _ rfl) (.refl _)))
    (.refl s)

theorem tickFree_pll {n : Nat} (h : n < 16) : tickFree (Reg.FAB.FPLL_STATUS.FREQ_KHZ n) = true ∧ tickFree (Reg.FAB.VPLL_STATUS.ALIGNED n) = true := by
  refine ⟨tickFree_above ?_, tickFree_above ?_⟩ <;> simp only [Reg.FAB.FPLL_STATUS.FREQ_KHZ, Reg.FAB.FPLL_STATUS, Reg.FAB.VPLL_STATUS.ALIGNED, Reg.FAB.VPLL_STATUS] <;> omega

theorem State.nPlls_le (s : State) : s.nFplls ≤ 16 ∧ s.nVplls ≤ 16 := by
  rw [State.nFplls, State.nVplls]
  split <;> decide

theorem State.sameEng_fpllMeasured (s : State) (x : Nat × Nat) : s.SameEng (s.fpllMeasured x) :=
  .ite (fun h => s.sameEng_wr _ (tickFree_pll (lt_of_lt_of_le h.1 s.nPlls_le.1)).1) (.refl s)

theorem State.sameEng_vpllsAlign (s : State) : s.SameEng s.vpllsAlign :=
  State.SameEng.foldl _ _ fun t _ hk => t.sameEng_wr 1
    (tickFree_pll (lt_of_lt_of_le (List.mem_range.1 (List.mem_filter.1 hk).1) s.nPlls_le.2)).2

theorem State.sameEng_fabricBoundary (s : State) (e : Edge) : s.SameEng (s.fabricBoundary e) :=
  .ite (fun _ => ((State.SameEng.foldl _ _ fun t x _ => t.sameEng_fportMeasured x).trans
    (State.SameEng.foldl _ _ fun t x _ => t.sameEng_fpllMeasured x)).trans (State.sameEng_vpllsAlign _)) (.refl s)

theorem State.sameEng_stalled (s : State) (x : Nat × Nat) : s.SameEng (s.stalled x) := by
  refine .ite (fun _ => s.sameEng_wr _ ?_) (.refl s)
  refine tickFree_above ?_
  simp only [Reg.CLU.STALL.STALL_CNT, Reg.CLU.STALL]
  omega

theorem State.sameEng_pwrBoundary (s : State) : s.SameEng s.pwrBoundary := ⟨.of_parts rfl rfl rfl rfl rfl, rfl⟩

theorem tickFree_mc {m : Nat} (h : m < 8) : tickFree (Reg.MC.STATUS.SCHED m) = true ∧ tickFree (Reg.MC.STATUS.POLICY m) = true := by
  refine ⟨tickFree_above ?_, tickFree_above ?_⟩ <;> simp only [Reg.MC.STATUS.SCHED, Reg.MC.STATUS.POLICY, Reg.MC.STATUS] <;> omega

theorem State.sameEng_mcBoundary (s : State) {m : Nat} (h : m < 8) : s.SameEng (s.mcBoundary m) := by
  unfold State.mcBoundary
  extract_lets s1
  have h1 : s.SameEng s1 := .ite (fun _ => .of_parts rfl rfl rfl rfl) (.refl s)
  exact h1.trans (.ite (fun _ => (State.sameEng_flag _ _ (tickFree_mc h).1).trans (State.sameEng_wr _ _ (tickFree_mc h).2)) (.refl _))

/-! ## The engines' part of the boundary -/

theorem State.sameEng_answer (s : State) (h : Hdr) (status effect : Nat) (result : List Byte) : s.SameEng (s.answer h status effect result) := by
  unfold State.answer
  split
  · extract_lets r mine keep x
    refine State.SameEng.then_emit ?_ _
    exact .of_parts rfl rfl rfl rfl
  · exact .of_parts rfl rfl rfl rfl

theorem State.sameEng_dropXact (s : State) (a : XAct) (status : Nat) : s.SameEng (s.dropXact a status) := by
  unfold State.dropXact
  extract_lets lt s1 s2 id
  have h1 : s.SameEng s1 := .of_parts rfl rfl rfl rfl
  have h2 : s1.SameEng s2 := s1.sameEng_updContract _ _
  refine (h1.trans h2).trans (State.SameEng.trans ?_ (State.sameEng_answer _ _ _ _ _))
  exact (State.SameEng.foldl _ _ fun t d _ => .ite (fun _ => .refl t) (t.sameEng_emit _)).trans
    (State.SameEng.foldl _ _ fun t _ _ => t.sameEng_emit _)

theorem State.sameEng_sendCopy (s : State) : s.SameEng s.sendCopy := by
  rw [State.sendCopy]
  refine .ite (fun _ => ?_) (.refl s)
  split
  · exact .ite (fun _ => (s.sameEng_emit _).trans (State.sameEng_withTwin _ _)) (.refl s)
  · exact .refl s

theorem State.sameTick_updEngine (s : State) (e : Nat) (f : Eng → Eng) : s.SameTick (s.updEngine e f) := .of_parts rfl rfl rfl rfl rfl

theorem State.sameTick_engTick (s : State) (e : Nat) : s.SameTick (s.engTick e) :=
  (s.sameTick_updEngine e _).trans (State.sameTick_updEngine _ e _)

theorem tickFree_wdog (e : Nat) : tickFree (Reg.ENG.WDOG.EN e) = true := by
  refine tickFree_above ?_
  simp only [Reg.ENG.WDOG.EN, Reg.ENG.WDOG]
  omega

theorem State.sameTick_wdogApply (s : State) : s.SameTick s.wdogApply :=
  State.SameTick.foldl _ _ fun t x _ => (t.sameEng_wr _ (tickFree_wdog x.1)).toSameTick.trans (State.sameTick_updEngine _ _ _)

theorem State.domOn_of_regs {s t : State} (h0 : t.reg Reg.PWR.DOM0 = s.reg Reg.PWR.DOM0) (h1 : t.reg Reg.PWR.DOM1 = s.reg Reg.PWR.DOM1)
    (hq : t.pwr.seqs = s.pwr.seqs) (d : Nat) : t.domOn d = s.domOn d := by
  have hd : ∀ d, t.dom d = s.dom d := fun d => by
    simp only [State.dom, State.rd, domFld]
    split
    · rw [h0]
    · rw [h1]
  simp only [State.domOn, State.leaving, hd, hq]

theorem State.SameTick.domOn {s t : State} (h : s.SameTick t) {d : Nat} : t.domOn d = s.domOn d :=
  State.domOn_of_regs (h.reg _ (Or.inr (Or.inr (Or.inl rfl)))) (h.reg _ (Or.inr (Or.inr (Or.inr (Or.inl rfl))))) h.seqs d

theorem State.engState_of_reg {s t : State} {k : Nat} (h : t.reg (Reg.ENG.STATUS k) = s.reg (Reg.ENG.STATUS k)) : t.engState k = s.engState k := by
  rw [State.engState, State.engState, State.rd, State.rd]
  exact congrArg (fun w => w.field 0 3) h

theorem tickOff_engStatus (k : Nat) : TickOff (Reg.ENG.STATUS k) := by
  simp only [TickOff, Reg.ENG.STATUS]
  omega

theorem State.SameTick.engState {s t : State} (h : s.SameTick t) (k : Nat) : t.engState k = s.engState k :=
  State.engState_of_reg (h.reg _ (tickOff_engStatus k))

/-- The ledger's part up to the engines' tick. -/
def State.beforeEngTick (s : State) : State :=
  ((s.liveWhere (fun c => c.d.typ == 5 && (c.st == .active || c.st == .starved || c.st == .held))).foldl State.transferShort s).xactsLate.wdogApply.sendCopy

theorem State.sameEng_transferShort (s : State) (i : Nat) : s.SameEng (s.transferShort i) := by
  unfold State.transferShort
  exact s.sameEng_updContract i _

theorem State.sameEng_xactsLate (s : State) : s.SameEng s.xactsLate := State.SameEng.foldl _ _ fun t a _ => t.sameEng_dropXact a _

theorem State.sameTick_beforeEngTick (s : State) : s.SameTick s.beforeEngTick := by
  unfold State.beforeEngTick
  have h1 := State.SameEng.foldl (f := State.transferShort)
    (s.liveWhere (fun c => c.d.typ == 5 && (c.st == .active || c.st == .starved || c.st == .held))) s fun t i _ => t.sameEng_transferShort i
  exact ((h1.trans (State.sameEng_xactsLate _)).toSameTick.trans (State.sameTick_wdogApply _)).trans (State.sameEng_sendCopy _).toSameTick

theorem State.ledgerBoundary_eq (s : State) : s.ledgerBoundary = s.beforeEngTick.ticking.foldl State.engTick s.beforeEngTick := rfl

theorem State.sameTick_ledgerBoundary (s : State) : s.SameTick s.ledgerBoundary :=
  s.sameTick_beforeEngTick.trans (State.SameTick.foldl _ _ fun t e _ => t.sameTick_engTick e)

theorem State.engine_updEngine_wait (s : State) (e k : Nat) (h : (s.engine k).wait = false) :
    ((s.updEngine e (fun x => { x with wait := false })).engine k).wait = false := by
  by_cases hk : k = e
  · rw [hk, State.engine_updEngine_same]
  · rw [State.engine_updEngine_other _ _ hk, h]

theorem State.wait_engTick (s : State) (e k : Nat) (h : k = e ∨ (s.engine k).wait = false) : ((s.engTick e).engine k).wait = false := by
  by_cases hk : k = e
  · rw [hk, State.engTick, State.engine_updEngine_same]
  · rw [State.engTick, State.engine_updEngine_other _ _ hk, State.engRaise, State.engine_updEngine_other _ _ hk]
    exact h.resolve_left hk

theorem State.wait_foldl_engTick (l : List Nat) (k : Nat) : ∀ s : State, (k ∈ l ∨ (s.engine k).wait = false) →
    ((l.foldl State.engTick s).engine k).wait = false := by
  induction l with
  | nil => exact fun _ h => h.resolve_left (List.not_mem_nil)
  | cons e l ih =>
    intro s h
    rw [List.foldl_cons]
    refine ih _ ?_
    by_cases hl : k ∈ l
    · exact Or.inl hl
    · refine Or.inr (s.wait_engTick e k (h.imp_left fun hm => ?_))
      exact (List.mem_cons.1 hm).resolve_right hl

/-- At the boundary the wait of a running engine ends (R214). -/
theorem State.wait_ledgerBoundary {s : State} {k : Nat} (hk : k < 256) (hon : s.engOn k = true) (hrun : s.engState k = engRunning) :
    (s.ledgerBoundary.engine k).wait = false := by
  rw [State.ledgerBoundary_eq]
  refine State.wait_foldl_engTick _ _ _ (Or.inl ?_)
  have h := s.sameTick_beforeEngTick
  rw [State.engOn] at hon
  simp [State.ticking, hk, State.engOn, h.domOn, hon, h.engState, hrun]

/-! ## The mesh's part, the crossbar and the headroom -/

theorem State.sameEng_entryBack (s : State) (fmt : Nat) (pid : Bool) (x : Nat × Nat) : s.SameEng (s.entryBack fmt pid x) :=
  .ite (fun _ => s.sameEng_withStrm _) (.refl s)

theorem State.sameEng_linkBack (s : State) (k : Nat) : s.SameEng (s.linkBack k) := State.SameEng.foldl _ _ fun t _ _ => t.sameEng_entryBack ..

theorem tickFree_linkStatus {k : Nat} (h : k < 6) : tickFree (Reg.DOLMET.LINK_STATUS.STATE k) = true := by
  refine tickFree_above ?_
  simp only [Reg.DOLMET.LINK_STATUS.STATE, Reg.DOLMET.LINK_STATUS]
  omega

theorem State.sameEng_unquarantine (s : State) {k : Nat} (h : k < 6) : s.SameEng (s.unquarantine k) :=
  .ite (fun _ => (s.sameEng_wr _ (tickFree_linkStatus h)).trans (State.sameEng_linkBack _ k)) (.refl s)

theorem State.sameEng_unmuteDue (s : State) : s.SameEng s.unmuteDue := by
  unfold State.unmuteDue
  exact .ite (fun _ => ((s.sameEng_withTwin _).trans (State.sameEng_flag _ _ rfl)).trans (State.sameEng_flag _ _ rfl)) (.refl s)

theorem State.sameEng_updAuth (s : State) : s.SameEng s.updAuth := by
  unfold State.updAuth
  extract_lets a x
  refine State.SameEng.then_wr ?_ _ rfl
  exact .of_parts rfl rfl rfl rfl

theorem State.sameEng_marker (s : State) (k t1 : Nat) : s.SameEng (s.marker k t1) := (s.sameEng_updLink k _).trans (State.sameEng_emit _ _)

theorem State.sameEng_crcBoundary (s : State) : s.SameEng s.crcBoundary := s.sameEng_withTwin _

theorem State.sameEng_meshBoundary (s : State) (e : Edge) : s.SameEng (s.meshBoundary e) := by
  unfold State.meshBoundary
  extract_lets s0 s1 s2
  have h0 : s.SameEng s0 := .ite (fun _ => s.sameEng_wr _ rfl) (.refl s)
  have h1 : s0.SameEng s1 := State.SameEng.foldl _ _ fun t k hk =>
    (t.sameEng_updLink k _).trans (State.sameEng_unquarantine _ (List.mem_range.1 hk))
  have h2 : s1.SameEng s2 := (s1.sameEng_crcBoundary.trans (State.sameEng_unmuteDue _)).trans (State.sameEng_updAuth _)
  exact h0.trans (.ite (fun _ => (h1.trans h2).trans (State.SameEng.foldl _ _ fun t k _ => t.sameEng_marker k _)) (.refl _))

theorem State.sameEng_arrive (s : State) (x : LinePkt) (room : Bool) : s.SameEng (s.arrive x room) := by
  unfold State.arrive
  extract_lets n add st s1 s2
  have h1 : s.SameEng s1 := s.sameEng_withStrm _
  exact h1.trans (.ite (fun _ => ((State.sameEng_bump _ (tickFree_fport x.dst).2.2).trans (State.sameEng_evt _ rfl)).trans
    (State.sameEng_countMiss _ _ _)) (State.sameEng_withStrm _ _))

theorem State.sameEng_xbarSlot (s : State) : s.SameEng s.xbarSlot :=
  (s.sameEng_withStrm _).trans (State.SameEng.foldl _ _ fun t k _ => t.sameEng_arrive k true)

theorem State.sameEng_idleOutputs (s : State) : s.SameEng s.idleOutputs :=
  State.SameEng.foldl _ _ fun t _ _ => .ite (fun _ => t.sameEng_emit _) (.refl t)

theorem State.sameEng_headroom (s : State) : s.SameEng s.headroom := by
  unfold State.headroom
  exact ((s.sameEng_wr _ rfl).trans (State.sameEng_wr _ _ rfl)).trans (State.sameEng_flag _ _ rfl)

theorem State.sameEng_settle (s : State) : s.SameEng s.settle := by
  have hswap : s.SameEng s.xbarSwap := .ite (fun _ => .refl s)
    (.ite (fun _ => (s.sameEng_withStrm _).trans (State.sameEng_wr _ _ rfl)) ((s.sameEng_withStrm _).trans (State.sameEng_wr _ _ rfl)))
  exact (hswap.trans (State.sameEng_flag _ _ rfl)).trans (.of_parts rfl rfl rfl rfl)

/-! ## The boundary as a whole -/

/-- What the boundary has brought about when the restarted cores come back. -/
theorem execTickBoundary_parts (e : Edge) (s : State) : ∃ t : State, execTickBoundary e s = .next (if s.domOn 1 then t.headroom.coresBack.settle else t) ∧
    s.advance.stagedCfg.SameTick t ∧
    ∀ k, k < 256 → s.domOn 1 = true → s.advance.stagedCfg.engOn k = true → s.advance.stagedCfg.engState k = engRunning →
      (t.engine k).wait = false := by
  unfold execTickBoundary
  extract_lets s1 s2 s3 s4 s5 s6 s7
  have h1 : s.advance.stagedCfg.SameEng s1 := (s.sameEng_tickPart e).trans (State.sameEng_tapPart _ e)
  have h2 : s1.SameEng s2 := (State.SameEng.foldl _ _ fun t x _ => t.sameEng_prbsCount x).trans (State.SameEng.foldl _ _ fun t x _ => t.sameEng_adapted x)
  have h3 : s2.SameEng s3 := ((s2.sameEng_fabricBoundary e).trans (State.SameEng.foldl _ _ fun t x _ => t.sameEng_stalled x)).trans
    (State.sameEng_pwrBoundary _)
  have h4 : s3.SameEng s4 := State.SameEng.foldl _ _ fun t _ hm => t.sameEng_mcBoundary (List.mem_range.1 hm)
  have hpre : s.advance.stagedCfg.SameTick s4 := ((h1.trans h2).trans (h3.trans h4)).toSameTick
  have h5 : s4.SameTick s5 := .ite (fun _ => s4.sameTick_ledgerBoundary) (.refl _)
  have hpost : s5.SameEng s7 :=
    (s5.sameEng_meshBoundary e).trans (.ite (fun _ => (State.sameEng_xbarSlot _).trans (State.sameEng_idleOutputs _)) (.refl _))
  refine ⟨s7, rfl, (hpre.trans h5).trans hpost.toSameTick, fun k hk hdom hon hrun => ?_⟩
  have hs5 : s5 = s4.ledgerBoundary := if_pos hdom
  rw [State.engine_congr hpost.eng, hs5]
  exact State.wait_ledgerBoundary hk (hpre.domOn.trans hon) ((hpre.engState k).trans hrun)

theorem State.reg_withTick (s : State) (x : TickSt) (o : Nat) : ({ s with tick := x } : State).reg o = s.reg o := rfl

/-- What the configuration staged is once it is in force. -/
theorem State.stagedCfg_facts (s : State) : s.stagedCfg.tick.num = s.tick.num ∧ s.stagedCfg.slot = s.slot ∧ s.stagedCfg.tick.lockCfg = none ∧
    s.stagedCfg.tick.holdCfg = none ∧ s.stagedCfg.pwr.seqs = s.pwr.seqs ∧
    s.stagedCfg.reg Reg.TICK.LOCK_CFG = s.tick.lockCfg.getD (s.reg Reg.TICK.LOCK_CFG) ∧
    s.stagedCfg.reg Reg.TICK.HOLD_CFG = s.tick.holdCfg.getD (s.reg Reg.TICK.HOLD_CFG) ∧
    ∀ o, o ≠ Reg.TICK.LOCK_CFG → o ≠ Reg.TICK.HOLD_CFG → s.stagedCfg.reg o = s.reg o := by
  unfold State.stagedCfg
  cases s.tick.lockCfg <;> cases s.tick.holdCfg <;> refine ⟨by simp, ?_, rfl, rfl, by simp, ?_, ?_, fun o h1 h2 => ?_⟩ <;>
    simp (disch := first | assumption | decide) only [State.slot, State.rd_withTick, State.reg_withTick, State.reg_setReg_same, State.rd_setReg_other,
      State.reg_setReg_other, Option.getD_some, Option.getD_none]

/-- The tick's own part changes the number, the slot, the edge and what was staged, and no domain's or engine's state. -/
theorem State.advance_facts (s : State) : s.advance.tick.num = (s.now + 1) % 2 ^ 64 ∧ s.advance.slot = 0 ∧ s.advance.tick.lockCfg = s.tick.lockCfg ∧
    s.advance.tick.holdCfg = s.tick.holdCfg ∧ s.advance.pwr.seqs = s.pwr.seqs ∧ ∀ o, o ≠ Reg.TICK.STATUS → s.advance.reg o = s.reg o := by
  unfold State.advance
  refine ⟨by simp [State.setNum], ?_, by simp [State.setNum], by simp [State.setNum], by simp [State.setNum], fun o ho => ?_⟩
  · rw [State.slot, State.rd_withTick, State.rd_wr_same _ _ _ rfl, Nat.zero_mod]
  · rw [State.reg_withTick, State.reg_wr_other _ _ _ ho]
    rfl

end Sys2Proof.Machine

open Sys2Proof Sys2Proof.Machine

/-- Settles O12: the tick's number, slot and staged configuration are settled first, and no later part of the boundary touches them. -/
theorem tickAndLock : Obligations.TickAndLock := by
  unfold Obligations.TickAndLock
  refine ⟨?slotStart, ?acquisitionCountMet, ?revertToEntry, ?holdoverLimitExpiry, ?refSelectApply, ?stepApply, ?effect, ?effect2, ?tickBoundary, ?effect3, ?effect4⟩
  case slotStart =>
    intro s h1
    simp only [exec, execSlotStart, if_pos h1]
    split <;> rfl
  case acquisitionCountMet =>
    intro s h1 h2 h3 h4
    simp [exec, execAcquisitionCountMet, h1, h2, h3, h4]
  case revertToEntry =>
    intro e a s h1 h2 h3 h4 h5
    simp only [exec, execRevertToEntry, State.replaceBy, h1, h2, h3, h4, h5, and_self, if_true]
  case holdoverLimitExpiry =>
    intro t s h1 h2 h3 h4
    simp [exec, execHoldoverLimitExpiry, h1, h2, h3, h4]
  case refSelectApply =>
    intro eff sel s h1 h2
    simp [exec, execRefSelectApply, h1, h2]
  case stepApply =>
    intro t s h1 h2
    have hany : s.tick.stepFrom.any (fun t => s.tick.sel.stepOk && s.mode == 4 || s.mode != 4 && decide (t < s.now)) = true := by
      rw [h1, Option.any_some]
      rcases h2 with ⟨hm, hp⟩ | ⟨hm, hp⟩ <;> simp [hm, hp]
    change execStepApply s = _
    rw [execStepApply, if_pos hany]
  case effect =>
    intro s
    exact ⟨s.advance_facts.1, s.advance_facts.2.1⟩
  case effect2 =>
    intro s
    rfl
  case tickBoundary =>
    intro e s
    obtain ⟨t, hexec, hsame, hwait⟩ := execTickBoundary_parts e s
    obtain ⟨hnum, hslot, hlock, hhold, hseqs, hrlock, hrhold, hreg⟩ := s.advance.stagedCfg_facts
    obtain ⟨hanum, haslot, halock, hahold, haseqs, hareg⟩ := s.advance_facts
    have hkept : ∀ o, o ≠ Reg.TICK.LOCK_CFG → o ≠ Reg.TICK.HOLD_CFG → o ≠ Reg.TICK.STATUS → s.advance.stagedCfg.reg o = s.reg o :=
      fun o h1 h2 h3 => (hreg o h1 h2).trans (hareg o h3)
    have hdom : ∀ d, s.advance.stagedCfg.domOn d = s.domOn d := State.domOn_of_regs (hkept _ (by decide) (by decide) (by decide))
      (hkept _ (by decide) (by decide) (by decide)) (hseqs.trans haseqs)
    have heng : ∀ k, s.advance.stagedCfg.engState k = s.engState k := fun k => State.engState_of_reg (by
      refine hkept _ ?_ ?_ ?_ <;> simp only [Reg.ENG.STATUS, Reg.TICK.LOCK_CFG, Reg.TICK.HOLD_CFG, Reg.TICK.STATUS] <;> omega)
    have hu : ∃ u : State, exec (.tickBoundary e) s = .next (if s.domOn 1 then u.coresBack.settle else u) ∧ t.SameEng u := by
      by_cases h1 : s.domOn 1 = true
      · exact ⟨t.headroom, hexec.trans (by rw [if_pos h1, if_pos h1]), t.sameEng_headroom⟩
      · exact ⟨t, hexec.trans (by rw [if_neg h1, if_neg h1]), .refl t⟩
    obtain ⟨u, hu, hkeep⟩ := hu
    have hall := hsame.trans hkeep.toSameTick
    refine ⟨u, hu, hall.num.trans (hnum.trans hanum), hall.slot.trans (hslot.trans haslot), hall.lockCfg.trans hlock, hall.holdCfg.trans hhold,
      ?_, ?_, fun k hk hd hon hrun => ?_⟩
    · rw [hall.reg _ (Or.inl rfl), hrlock, halock, hareg _ (by decide)]
    · rw [hall.reg _ (Or.inr (Or.inl rfl)), hrhold, hahold, hareg _ (by decide)]
    · rw [State.engine_congr hkeep.eng]
      exact hwait k hk hd ((hdom _).trans hon) ((heng k).trans hrun)
  case effect3 =>
    intro s h1
    have hb : s.coresBack = s := if_pos h1
    exact ⟨hb, s.sameEng_settle.num, s.sameEng_settle.slot⟩
  case effect4 =>
    intro s
    rfl

end

section
set_option Elab.async false
/-! Scalar operations alone in their bundle (R244). -/

namespace Sys2Proof.Machine

/-- The value of `n` bits of two's complement is that of the bit vector. -/
theorem ofInt_signed {w : Nat} (v : BitVec w) : BitVec.ofInt 32 (signed w v.toNat) = v.signExtend 32 := by
  have h : signed w v.toNat = v.toInt := by
    rw [signed, Nat.mod_eq_of_lt v.isLt, BitVec.toInt_eq_toNat_cond]
    cases w with
    | zero => simp
    | succ w =>
      have h2 : 2 * v.toNat < 2 ^ (w + 1) ↔ v.toNat < 2 ^ w := by omega
      simp only [Nat.add_sub_cancel, h2]
  rw [h, BitVec.signExtend]

theorem ofNat_imm (imm : BitVec 15) : BitVec.ofNat 32 (imm.toNat % 2 ^ 15) = imm.zeroExtend 32 := by
  refine BitVec.eq_of_toNat_eq ?_
  have h := imm.isLt
  simp
  omega

theorem ofNat_upper (lit : BitVec 20) : BitVec.ofNat 32 (lit.toNat % 2 ^ 20 * 2 ^ 12) = lit.zeroExtend 32 <<< 12 := by
  refine BitVec.eq_of_toNat_eq ?_
  have h := lit.isLt
  simp [Nat.shiftLeft_eq]
  omega

/-- An operation before the branches is legal, but for a rounding shift by 0. -/
theorem State.sIllegal_of_low {s : State} {e : Nat} {o : SlotOp} (hop : o.op < 0x20) (hrsh : o.op ≠ 0x17) : s.sIllegal e o = false := by
  have h : ∀ k, 0x20 ≤ k → ¬ o.op = k := fun k hk hk' => by omega
  simp [State.sIllegal, isBranch, isLoop, show ¬ 0x20 ≤ o.op by omega, h, hrsh]

section
variable {s : State} {e : Nat} {o : SlotOp} {v : Word} (hc : s.clear e = true) (hop : o.op < 0x20) (hrsh : o.op ≠ 0x17)
include hc hop hrsh

/-- One of the operations on two registers. -/
theorem State.inS_alu (hv : sAlu o.op ((s.engine e).s_ (!s.inHandler e) o.a) ((s.engine e).s_ (!s.inHandler e) o.b) = some v) :
    Passes e ((s.engine e).land (.sreg (!s.inHandler e) o.d v)) s (s.nextPc e) (s.inS e false o) := by
  refine State.inS_sreg hc (State.sIllegal_of_low hop hrsh) ?_
  rintro _ rfl
  simp only [State.sSlot, State.engine_updEngine_same]
  change (match sAlu o.op ((s.engine e).s_ (!s.inHandler e) o.a) ((s.engine e).s_ (!s.inHandler e) o.b) with | some v => _ | none => _) = _
  rw [hv]
  rfl

/-- One of the operations on a register and an immediate. -/
theorem State.inS_imm (hno : ∀ a b, sAlu o.op a b = none) (hv : sImm o.op ((s.engine e).s_ (!s.inHandler e) o.a) o.n = some v) :
    Passes e ((s.engine e).land (.sreg (!s.inHandler e) o.d v)) s (s.nextPc e) (s.inS e false o) := by
  refine State.inS_sreg hc (State.sIllegal_of_low hop hrsh) ?_
  rintro _ rfl
  simp only [State.sSlot, State.engine_updEngine_same, hno]
  change (match sImm o.op ((s.engine e).s_ (!s.inHandler e) o.a) o.n with | some v => _ | none => _) = _
  rw [hv]
  rfl

end

/-- A register write changes that register of that bank, and nothing else of the engine. -/
theorem Eng.land_sreg (x : Eng) (main : Bool) (d r : Nat) (v : Word) : (x.land (.sreg main d v)).s_ main r = (if r = d then v else x.s_ main r) ∧
    (∀ k, (x.land (.sreg main d v)).s_ (!main) k = x.s_ (!main) k) ∧
    (∀ k, (x.land (.sreg main d v)).vec_ k = x.vec_ k ∧ (x.land (.sreg main d v)).accum k = x.accum k) ∧
    (x.land (.sreg main d v)).ldm = x.ldm ∧ (x.land (.sreg main d v)).sat = x.sat ∧ (x.land (.sreg main d v)).bexp = x.bexp := by
  cases main <;>
  · refine ⟨?_, fun _ => rfl, fun _ => ⟨rfl, rfl⟩, rfl, rfl, rfl⟩
    by_cases h : r = d
    · rw [if_pos h, h]
      exact SMap.get_set_same _ _ _ _
    · rw [if_neg h]
      exact SMap.get_set_other _ _ _ h

end Sys2Proof.Machine

open Sys2Proof Sys2Proof.Machine

/-- Settles O22: each operation by the value its row computes, and what a register write changes. -/
theorem engineScalarResults : Obligations.EngineScalarResults := by
  unfold Obligations.EngineScalarResults
  refine ⟨?registers, ?immediates, ?shift, fun x main d r v => x.land_sreg main d r v⟩
  case registers =>
    intro e d a b s hc p hp
    simp only [List.mem_cons, List.not_mem_nil, or_false] at hp
    rcases hp with rfl | rfl | rfl | rfl | rfl | rfl | rfl | rfl | rfl | rfl | rfl | rfl | rfl <;>
      exact ⟨_, rfl, State.inS_alu hc (by simp) (by simp) rfl⟩
  case immediates =>
    intro e d a n imm lit s hc p hp
    have hn : n.toNat % 32 = n.toNat := Nat.mod_eq_of_lt n.isLt
    simp only [List.mem_cons, List.not_mem_nil, or_false] at hp
    rcases hp with rfl | rfl | rfl | rfl | rfl | rfl | rfl | rfl | rfl <;>
      refine ⟨_, rfl, State.inS_imm hc (by simp) (by simp) (fun _ _ => rfl) ?_⟩
    · exact congrArg (fun w => some (s.sreg e a + w)) (ofInt_signed imm)
    · exact congrArg (fun w => some (s.sreg e a &&& w)) (ofNat_imm imm)
    · exact congrArg (fun w => some (s.sreg e a ||| w)) (ofNat_imm imm)
    · exact congrArg (fun w => some (s.sreg e a ^^^ w)) (ofNat_imm imm)
    · exact congrArg (fun k => some (s.sreg e a <<< k)) hn
    · exact congrArg (fun k => some (s.sreg e a >>> k)) hn
    · exact congrArg (fun k => some ((s.sreg e a).sshiftRight k)) hn
    · exact congrArg some (ofInt_signed lit)
    · exact congrArg some (ofNat_upper lit)
  case shift =>
    intro e d a n s hc hn
    have hn0 : n.toNat ≠ 0 := by simpa [← BitVec.toNat_inj] using hn
    have h := exec_sRsh hc d a hn
    rwa [roundShr, if_neg hn0] at h

end

section
set_option Elab.async false
/-! Branches, hardware loops and atomic groups (R202, R245–R247). -/

namespace Sys2Proof.Machine

/-- With one register result and nothing else in flight, the cycle lands it. -/
theorem Eng.cycled_sreg {x : Eng} (hf : x.fly = []) (main : Bool) (d : Nat) (v : Word) :
    ({ x with fly := [(1, .sreg main d v)] } : Eng).cycled = x.land (.sreg main d v) := by
  obtain ⟨⟩ := x
  subst hf
  cases main <;> rfl

theorem Eng.cycled_none {x : Eng} (hf : x.fly = []) : ({ x with fly := [] } : Eng).cycled = x := by
  obtain ⟨⟩ := x
  subst hf
  rfl

/-- Outside a group the count of its bundles stays 0. -/
theorem Eng.atom_zero {x : Eng} (ha : x.atom = 0) : ({ x with atom := x.atom - 1 } : Eng) = x := by
  rw [ha]
  obtain ⟨⟩ := x
  subst ha
  rfl

theorem Eng.loopEnd_none {x : Eng} {main : Bool} (h : x.ls main = []) (pc : Nat) : x.loopEnd main pc = (x, pc + 1) := by
  rw [Eng.loopEnd, h]

theorem Eng.setLs_nil {x : Eng} {main : Bool} (h : x.ls main = []) : x.setLs main [] = x := by
  obtain ⟨⟩ := x
  cases main <;>
  · subst h
    rfl

theorem Eng.br_setLc (x : Eng) (main : Bool) (i v : Nat) : (x.setLc main i v).br = x.br := by
  cases main <;> rcases i with _ | i <;> rfl

theorem Eng.br_setLs (x : Eng) (main : Bool) (l : List HwLoop) : (x.setLs main l).br = x.br := by cases main <;> rfl

theorem Eng.branchEnd_none {x : Eng} (h : x.br = none) (main : Bool) (next : Nat) : x.branchEnd main next = (x, next) := by
  rw [Eng.branchEnd, h]

section
variable {s : State} {e : Nat} {o : SlotOp} {c : Ctl} {y : Eng} (hc : s.clear e = true)
include hc

/-- The flow's part that every bundle shares. -/
theorem Eng.flow_clear (f : Bool) (r : List (Nat × Nat)) (F : List (Nat × Landing)) :
    (({ (s.engine e).book {} f r F with atom := ((s.engine e).book {} f r F).atom - 1 } : Eng).loopEnd (!s.inHandler e) (s.engPc e)) =
      ((s.engine e).book {} f r F, s.engPc e + 1) ∧
    ((s.engine e).book {} f r F).branchEnd (!s.inHandler e) (s.engPc e + 1) = ((s.engine e).book {} f r F, s.engPc e + 1) := by
  obtain ⟨-, -, -, hb, ha, hlo⟩ := State.clear_iff hc
  have hy : ({ (s.engine e).book {} f r F with atom := ((s.engine e).book {} f r F).atom - 1 } : Eng) = (s.engine e).book {} f r F := by
    simp [Eng.book, ha]
  refine ⟨?_, ?_⟩
  · rw [hy, Eng.loopEnd_clear (by exact hlo)]
  · simp [Eng.branchEnd, Eng.book, hb]

/-- An operation that only directs the flow to the next bundle. -/
theorem State.inS_flow (hi : s.sIllegal e o = false)
    (hs : ∀ t : State, t = s.updEngine e (fun x => { x with openB := {} }) → t.sSlot e o = ([], c))
    (hsp : c ≠ .spec) (hafter : ∀ t : State, t.after e c = t) (hyf : y.fresh = (s.engine e).fresh) (hyr : y.recent = (s.engine e).recent)
    (hfly : y.fly = [])
    (hadv : ∀ f r F, ((s.engine e).book {} f r F).advance (!s.inHandler e) (s.engPc e) c = (y.book {} f r F, s.engPc e + 1, false)) :
    Passes e y s (s.nextPc e) (s.inS e false o) := by
  have h := State.inS_ctl hc hi hs hsp hafter hyf hyr hadv
  rw [List.map_nil, Eng.cycled_none hfly] at h
  exact h

/-- A legal branch: two delay bundles, then its target where it is taken. -/
theorem State.inS_branch {t : Option Nat} (hi : s.sIllegal e o = false)
    (hs : ∀ u : State, u = s.updEngine e (fun x => { x with openB := {} }) → u.sSlot e o = ([], .branch t)) :
    Passes e { s.engine e with br := some (2, t) } s (s.nextPc e) (s.inS e false o) := by
  obtain ⟨-, -, hf, -⟩ := State.clear_iff hc
  refine State.inS_flow hc hi hs (by simp) (fun _ => rfl) rfl rfl hf fun f r F => ?_
  obtain ⟨h1, h2⟩ := Eng.flow_clear hc f r F
  simp only [Eng.advance, h1, h2]
  rfl

theorem State.sIllegal_branch (hop : 0x20 ≤ o.op ∧ o.op ≤ 0x26) (ht : brTarget o ((s.engine e).s_ (!s.inHandler e) o.a) < (s.engine e).nb) :
    s.sIllegal e o = false := by
  obtain ⟨-, -, -, hb, -⟩ := State.clear_iff hc
  have hlow : ∀ k, k < 0x20 → ¬ o.op = k := fun k hk hk' => by omega
  have hhigh : ∀ k, 0x26 < k → ¬ o.op = k := fun k hk hk' => by omega
  simp [State.sIllegal, isLoop, hb, Nat.not_le.2 ht, hlow, hhigh]

/-- A legal loop, none running: its counter is loaded and it runs from the next bundle to its last. -/
theorem State.inS_loop {n : Nat} (hop : o.op = 0x28 ∨ o.op = 0x29 ∧ o.a ≠ 0) (hls : (s.engine e).ls (!s.inHandler e) = []) (hpc : s.engPc e < o.n)
    (hnb : o.n < (s.engine e).nb) (hn : n ≠ 0)
    (hs : ∀ u : State, u = s.updEngine e (fun x => { x with openB := {} }) → u.sSlot e o = ([], .loop o.m n o.n)) :
    Passes e (((s.engine e).land (.lc (!s.inHandler e) o.m n)).setLs (!s.inHandler e) [⟨o.m, s.engPc e + 1, o.n⟩]) s (s.nextPc e)
      (s.inS e false o) := by
  obtain ⟨-, -, hf, -⟩ := State.clear_iff hc
  have hi : s.sIllegal e o = false := by
    have hlast : ¬ o.n < s.engPc e := by omega
    rcases hop with h | ⟨h, ha⟩
    · simp [State.sIllegal, isBranch, isLoop, h, hlast, Nat.not_le.2 hnb, hls]
    · simp [State.sIllegal, isBranch, isLoop, h, ha, hlast, Nat.not_le.2 hnb, hls]
  have hpart : ∀ (l : List HwLoop) (main : Bool), ((((s.engine e).land (.lc main o.m n)).setLs main l).fresh = (s.engine e).fresh ∧
      (((s.engine e).land (.lc main o.m n)).setLs main l).recent = (s.engine e).recent ∧
      (((s.engine e).land (.lc main o.m n)).setLs main l).fly = (s.engine e).fly) := by
    intro l main
    cases main <;> rcases o.m with _ | m <;> exact ⟨rfl, rfl, rfl⟩
  obtain ⟨hfr, hre, hfl⟩ := hpart [⟨o.m, s.engPc e + 1, o.n⟩] (!s.inHandler e)
  refine State.inS_flow hc hi hs (by simp) (fun _ => rfl) hfr hre (hfl.trans hf) fun f r F => ?_
  obtain ⟨h1, h2⟩ := Eng.flow_clear hc f r F
  have hbook : ((s.engine e).book {} f r F).ls (!s.inHandler e) = [] := hls
  simp only [Eng.advance, h1, h2, if_neg hn, if_neg (show ¬ o.n = s.engPc e by omega), hbook, Eng.setLc, Eng.land_book]
  cases !s.inHandler e <;> rfl

end

end Sys2Proof.Machine

open Sys2Proof Sys2Proof.Machine

/-- Settles O23: what each operation makes of the flow, and how the flow goes on at a branch's second delay bundle and a pass's end. -/
theorem engineControlFlow : Obligations.EngineControlFlow := by
  unfold Obligations.EngineControlFlow
  refine ⟨?compare, ?jump, ?jumpRegister, ?jumpLink, ?loop, ?loopImmediate, ?loopNone, ?atom, ?delay, ?pass⟩
  case compare =>
    intro e a b t s hc ht p hp
    simp only [List.mem_cons, List.not_mem_nil, or_false] at hp
    rcases hp with rfl | rfl | rfl | rfl <;>
    · refine ⟨_, rfl, State.inS_branch hc (State.sIllegal_branch hc (by simp) (by simpa [brTarget] using ht)) ?_⟩
      rintro _ rfl
      simp only [State.sSlot, State.engine_updEngine_same, sAlu, sImm, sCmp]
      rfl
  case jump =>
    intro e t s hc ht
    refine ⟨_, rfl, State.inS_branch hc (State.sIllegal_branch hc (by simp) (by simpa [brTarget] using ht)) ?_⟩
    rintro _ rfl
    rfl
  case jumpRegister =>
    intro e a s hc ht
    refine ⟨_, rfl, State.inS_branch hc (State.sIllegal_branch hc (by simp) ht) ?_⟩
    rintro _ rfl
    simp only [State.sSlot, State.engine_updEngine_same, sAlu, sImm, brTarget]
    rfl
  case jumpLink =>
    intro e d t s hc ht
    obtain ⟨-, -, hf, -⟩ := State.clear_iff hc
    have hi := State.sIllegal_branch (o := { op := 0x25, d := d.toNat, n := t.toNat }) hc (by simp) (by simpa [brTarget] using ht)
    have h := State.inS_ctl (y := { s.engine e with br := some (2, some t.toNat) }) (n := s.engPc e + 1) (c := .branch (some t.toNat))
      (l := [.sreg (!s.inHandler e) d.toNat (BitVec.ofNat 32 ((s.engPc e + 3) % 2 ^ 11))]) hc hi ?slot (by simp) (fun _ => rfl) rfl rfl ?flow
    · refine ⟨_, rfl, ?_⟩
      rw [← Eng.cycled_sreg (x := { s.engine e with br := some (2, some t.toNat) }) hf]
      exact h
    · rintro _ rfl
      rfl
    · intro f r F
      obtain ⟨h1, h2⟩ := Eng.flow_clear hc f r F
      simp only [Eng.advance, h1, h2]
      rfl
  case loop =>
    intro e c a last s hc hls hpc hnb hn
    refine ⟨_, rfl, State.inS_loop (o := { op := 0x28, m := c.toNat, a := a.toNat, n := last.toNat }) hc (Or.inl rfl) hls hpc hnb hn ?_⟩
    rintro _ rfl
    simp only [State.sSlot, State.engine_updEngine_same, sAlu, sImm]
    rfl
  case loopImmediate =>
    intro e c count last s hc hls hpc hnb hn
    have hn0 : count.toNat ≠ 0 := by simpa [← BitVec.toNat_inj] using hn
    refine ⟨_, rfl, State.inS_loop (o := { op := 0x29, m := c.toNat, a := count.toNat, n := last.toNat }) hc (Or.inr ⟨rfl, hn0⟩) hls hpc hnb hn0 ?_⟩
    rintro _ rfl
    rfl
  case loopNone =>
    intro x main pc i last hb ha hls
    simp only [Eng.advance, Eng.atom_zero ha, Eng.loopEnd_none hls, Eng.branchEnd_none hb, if_true]
    rfl
  case atom =>
    intro e n s hc
    obtain ⟨-, -, hf, hb, ha, -⟩ := State.clear_iff hc
    have hn : n.toNat % 8 + 1 = n.toNat + 1 := by rw [Nat.mod_eq_of_lt n.isLt]
    refine ⟨_, rfl, State.inS_flow (c := .atom (n.toNat % 8 + 1)) (y := { s.engine e with atom := n.toNat + 1 }) hc ?_ ?_ (by simp) (fun _ => rfl) rfl rfl hf
      fun f r F => ?_⟩
    · simp [State.sIllegal, isBranch, isLoop]
    · rintro _ rfl
      rfl
    · obtain ⟨h1, h2⟩ := Eng.flow_clear hc f r F
      simp only [Eng.advance, h1, h2, hn]
      rfl
  case delay =>
    intro x main pc t hb ha hls
    have hbr : x.branchEnd main (pc + 1) = ({ x with br := none }, t) := by
      simp only [Eng.branchEnd, hb, hls, List.dropWhile_nil]
      exact congrArg (·, t) (Eng.setLs_nil (x := { x with br := none }) hls)
    simp only [Eng.advance, Eng.atom_zero ha, Eng.loopEnd_none hls, hbr]
  case pass =>
    intro x main pc rest l hb ha hls hl
    simp only [Eng.advance, Eng.atom_zero ha, Eng.loopEnd, hls, if_pos hl]
    split
    · rw [Eng.branchEnd_none (by rw [Eng.br_setLs, Eng.br_setLc, hb])]
      rfl
    · rw [Eng.branchEnd_none (by rw [Eng.br_setLc, hb])]
      rfl

end

section
set_option Elab.async false
/-! Control registers, interrupt enables, reti, and the tick operations (R213–R219, R244, R256–R258). -/

namespace Sys2Proof.Machine

section
variable {s : State} {e : Nat} {o : SlotOp} (hc : s.clear e = true)
include hc

/-- A scalar operation that leaves one result other than a write of IE. -/
theorem State.inS_land {l : Landing} (hi : s.sIllegal e o = false)
    (hs : ∀ t : State, t = s.updEngine e (fun x => { x with openB := {} }) → t.sSlot e o = ([l], .plain)) (hie : ∀ v, l ≠ .ie v) :
    Passes e ((s.engine e).land l) s (s.nextPc e) (s.inS e false o) := by
  have h := State.inS_only hc hi hs
  have hst : (s.nextPc e).landIe e [l] = s.nextPc e := by
    cases l <;> first | rfl | exact absurd rfl (hie _)
  have hl : (([l].filter Landing.early ++ [l].filter (fun x => !x.early)).foldl Eng.land (s.engine e)) = (s.engine e).land l := by
    cases l <;> rfl
  rwa [hst, hl] at h

/-- A scalar operation that writes IE. -/
theorem State.inS_ie {v : Nat} (hi : s.sIllegal e o = false)
    (hs : ∀ t : State, t = s.updEngine e (fun x => { x with openB := {} }) → t.sSlot e o = ([.ie v], .plain)) :
    Passes e (s.engine e) s ((s.nextPc e).wr (Reg.ENG.STATUS.IE e) v) (s.inS e false o) := State.inS_only hc hi hs

/-- A bundle of nothing only passes. -/
theorem State.issue_nops : Passes e (s.engine e) s (s.nextPc e) (s.issue e {}) := by
  obtain ⟨-, -, hf, -⟩ := State.clear_iff hc
  have hil : s.illegal e {} = false := by
    simp [State.illegal, clash_s, vIllegal_nop, mIllegal_nop, State.sIllegal_nop, State.placeIllegal_clear hc]
  have h := State.issue_only (lands := []) (lf := []) (vf := []) (mf := []) hc hil (fun t _ => State.sSlot_nop t e) (fun t _ => State.lSlot_nop t e)
    (fun t _ => State.vSlot_nop t e) (fun t _ => State.mSlot_nop t e)
  simp only [List.map_nil, List.append_nil, Eng.cycled_none hf] at h
  exact h

/-- An operation that does something after its bundle's cycle. -/
theorem State.inS_then {c : Ctl} (hi : s.sIllegal e o = false)
    (hs : ∀ t : State, t = s.updEngine e (fun x => { x with openB := {} }) → t.sSlot e o = ([], c)) (hsp : c = .reti ∨ c = .wait ∨ c = .done) :
    ∃ t, s.inS e false o = t.after e c ∧ Passes e (s.engine e) s (s.nextPc e) t := by
  obtain ⟨-, -, hf, -⟩ := State.clear_iff hc
  have hadv : ∀ f r F, ((s.engine e).book {} f r F).advance (!s.inHandler e) (s.engPc e) c = ((s.engine e).book {} f r F, s.engPc e + 1, false) := by
    intro f r F
    obtain ⟨h1, h2⟩ := Eng.flow_clear hc f r F
    rcases hsp with rfl | rfl | rfl <;> simp only [Eng.advance, h1, h2]
  obtain ⟨t, h1, h2⟩ := State.inS_after hc hi hs (by rcases hsp with rfl | rfl | rfl <;> simp) rfl rfl hadv (State.placeIllegal_clear hc o)
  rw [List.map_nil, Eng.cycled_none hf] at h2
  exact ⟨t, h1, h2⟩

end

theorem State.ctlReg_openB (s : State) (e cr : Nat) : (s.updEngine e (fun x => { x with openB := {} })).ctlReg e cr = s.ctlReg e cr := by
  unfold State.ctlReg
  simp only [State.engine_updEngine_same]
  rfl

theorem State.sSlot_mtc (s : State) (e d a : Nat) : s.sSlot e { op := 0x31, d := d, a := a } =
    if s.inSpec e = true ∧ d = 5 then ([], .spec) else ((ctlLand (!s.inHandler e) d ((s.engine e).s_ (!s.inHandler e) a)).toList, .plain) := rfl

/-- A field of the engine's status but the program counter's is as before a bundle. -/
theorem Passes.status {e : Nat} {y : Eng} {s t : State} (h : Passes e y s (s.nextPc e) t) :
    t.inHandler e = s.inHandler e ∧ t.engState e = s.engState e := by
  refine ⟨?_, ?_⟩
  · rw [State.inHandler, State.isSet, h.rd_eq, State.nextPc, State.rd_wr_apart _ _ rfl (Or.inl (of_decide_eq_true rfl))]
    rfl
  · rw [State.engState, h.rd_eq, State.nextPc, State.rd_wr_apart _ _ rfl (Or.inl (of_decide_eq_true rfl))]
    rfl

theorem Passes.tick_eq {e : Nat} {y : Eng} {s u t : State} (h : Passes e y s u t) : t.tick = u.tick := by
  rw [← h.2.2.2.2]

/-- The tick that t.done satisfies is not changed by its bundle. -/
theorem Passes.doneTick {e : Nat} {s t : State} (h : Passes e (s.engine e) s (s.nextPc e) t) : t.doneTick e = s.doneTick e := by
  have hslot : t.slot = s.slot := by
    rw [State.slot, h.rd_eq, State.nextPc, State.rd_wr_other _ _ (by simp only [Reg.TICK.STATUS.SLOT, Reg.TICK.STATUS, Reg.ENG.STATUS.PC, Reg.ENG.STATUS]; omega)]
    rfl
  have hmargin : t.rd (Reg.ENG.WDOG.MARGIN e) = s.rd (Reg.ENG.WDOG.MARGIN e) := by
    rw [h.rd_eq, State.nextPc, State.rd_wr_other _ _ (by
      simp only [Reg.ENG.WDOG.MARGIN, Reg.ENG.WDOG, Reg.ENG.STATUS.PC, Reg.ENG.STATUS]; omega)]
  have hnow : t.now = s.now := by rw [State.now, h.tick_eq, State.nextPc, State.wr_tick, State.now]
  have hdone : (t.engine e).done = (s.engine e).done := by rw [h.1]
  simp only [State.doneTick, hslot, hmargin, hnow, hdone]

section
variable {s : State} {e : Nat} (hc : s.clear e = true)
include hc

theorem exec_tDone : ∃ t, exec (.tDone e false) s = .next t ∧ Passes e { s.engine e with done := some (s.doneTick e) } s (s.nextPc e) t := by
  obtain ⟨t, ht, hp⟩ := State.inS_then (o := { op := 0x40 }) (c := .done) hc rfl (by rintro _ rfl; rfl) (Or.inr (Or.inr rfl))
  have hafter : t.after e .done = t.updEngine e (fun x => { x with done := some (s.doneTick e) }) := by
    rw [State.after, hp.doneTick]
  exact ⟨_, congrArg Host.Outcome.next (ht.trans hafter), hp.updEngine _ (fun _ _ _ => rfl) rfl rfl⟩

theorem exec_tWait : ∃ t, exec (.tWait e false) s = .next t ∧ Passes e { s.engine e with wait := true } s (s.nextPc e) t := by
  obtain ⟨-, -, hf, -⟩ := State.clear_iff hc
  obtain ⟨t, ht, hp⟩ := State.inS_then (o := { op := 0x41 }) (c := .wait) hc rfl (by rintro _ rfl; rfl) (Or.inr (Or.inl rfl))
  have hafter : t.after e .wait = (t.engDrain e).updEngine e (fun x => { x with wait := true }) := by rw [State.after]
  exact ⟨_, congrArg Host.Outcome.next (ht.trans hafter), (hp.engDrain hf).updEngine _ (fun _ _ _ => rfl) rfl rfl⟩

end

end Sys2Proof.Machine

open Sys2Proof Sys2Proof.Machine

/-- Settles O24: each operation by the one result its slot leaves, and reti, t.done and t.wait by what comes after the cycle. -/
theorem engineControlOperations : Obligations.EngineControlOperations := by
  unfold Obligations.EngineControlOperations
  refine ⟨?mfc, ?mtc, ?ie, ?ieSpec, ?reti, ?retiIllegal, ?simple, ?tick, ?nops⟩
  case mfc =>
    intro e d cr v s hc hp
    have hcr : cr.toNat ≤ 10 ∧ s.ctlReg e cr.toNat = v := by
      simp only [List.mem_cons, List.not_mem_nil, or_false, Prod.mk.injEq] at hp
      rcases hp with ⟨h, rfl⟩ | ⟨h, rfl⟩ | ⟨h, rfl⟩ | ⟨h, rfl⟩ | ⟨h, rfl⟩ | ⟨h, rfl⟩ | ⟨h, rfl⟩ | ⟨h, rfl⟩ | ⟨h, rfl⟩ | ⟨h, rfl⟩ | ⟨h, rfl⟩ <;>
        (rw [h]; exact ⟨by decide, rfl⟩)
    obtain ⟨hle, rfl⟩ := hcr
    refine ⟨_, rfl, State.inS_sreg hc ?_ ?_⟩
    · simpa [State.sIllegal, isBranch, isLoop] using hle
    · rintro _ rfl
      have h := s.ctlReg_openB e cr.toNat
      simp only [State.sSlot, sAlu, sImm, h]
      rfl
  case mtc =>
    intro e cr a l s hc hp
    have hcr : ctlLand (!s.inHandler e) cr.toNat (s.sreg e a) = some l ∧ (ctlLand (!s.inHandler e) cr.toNat 0).isNone = false ∧
        cr.toNat ≠ 5 ∧ ∀ v, l ≠ .ie v := by
      simp only [List.mem_cons, List.not_mem_nil, or_false, Prod.mk.injEq] at hp
      rcases hp with ⟨h, rfl⟩ | ⟨h, rfl⟩ | ⟨h, rfl⟩ | ⟨h, rfl⟩ | ⟨h, rfl⟩ <;>
        (rw [h]; exact ⟨rfl, rfl, by decide, fun _ => by simp⟩)
    obtain ⟨hl, hno, h5, hie⟩ := hcr
    refine ⟨_, rfl, State.inS_land hc ?_ ?_ hie⟩
    · simpa [State.sIllegal, isBranch, isLoop] using hno
    · rintro _ rfl
      rw [State.sSlot_mtc, if_neg (fun h => h5 h.2)]
      simp only [State.engine_updEngine_same]
      exact congrArg (fun x : Option Landing => (x.toList, Ctl.plain)) hl
  case ie =>
    intro e a mask s hc hsp
    have hm : mask.toNat % 16 = mask.toNat := Nat.mod_eq_of_lt mask.isLt
    have hupd : (s.updEngine e (fun x => { x with openB := {} })).inSpec e = false := hsp
    refine ⟨⟨_, rfl, State.inS_ie hc rfl ?_⟩, ⟨_, rfl, State.inS_ie hc rfl ?_⟩, ⟨_, rfl, State.inS_ie hc rfl ?_⟩⟩
    · rintro _ rfl
      rw [State.sSlot_mtc, hupd, if_neg (by simp)]
      simp only [State.engine_updEngine_same]
      rfl
    · rintro _ rfl
      simp only [State.sSlot, sAlu, sImm, hupd, Bool.false_eq_true, if_false, hm]
      rfl
    · rintro _ rfl
      simp only [State.sSlot, sAlu, sImm, hupd, Bool.false_eq_true, if_false, hm]
      rfl
  case ieSpec =>
    intro e o s hsp ho
    rcases ho with h | h | ⟨h, hd⟩
    · simp [State.sSlot, sAlu, sImm, h, hsp]
    · simp [State.sSlot, sAlu, sImm, h, hsp]
    · simp [State.sSlot, sAlu, sImm, h, hsp, hd]
  case reti =>
    intro e s hc hh
    obtain ⟨hmay, -, hf, -⟩ := State.clear_iff hc
    have hrun : s.engState e = engRunning := by
      simp only [State.mayIssue, Bool.and_eq_true, beq_iff_eq] at hmay
      exact hmay.1.1.1.1.1.2
    obtain ⟨t, hexec, hpass⟩ := State.inS_then (o := { op := 0x34 }) (c := .reti) hc (by simp [State.sIllegal, isBranch, isLoop, hh]) (by rintro _ rfl; rfl)
      (Or.inl rfl)
    obtain ⟨hih, hst⟩ := hpass.status
    have hafter : t.after e .reti = t.doReti e := by
      simp only [State.after]
      exact if_pos ⟨hih.trans hh, by rw [hst, hrun]; decide⟩
    refine ⟨t.doReti e, congrArg Host.Outcome.next (hexec.trans hafter), ?_⟩
    obtain ⟨heng, -⟩ := hpass.engDrain hf
    simp only [State.doReti, State.engine_wr, State.engine_updEngine_same, heng, State.inHandler, State.isSet, State.engPc]
    refine ⟨?_, ?_, trivial, trivial, trivial, trivial, trivial⟩
    · rw [State.rd_wr_apart _ _ rfl (Or.inl (of_decide_eq_true rfl)), State.rd_wr_same _ _ _ rfl]
      rfl
    · rw [State.rd_wr_same _ _ _ rfl]
      rfl
  case retiIllegal =>
    intro e s hh
    simp [State.sIllegal, hh]
  case simple =>
    intro e d k s hc
    have hk : k.toNat % 16 = k.toNat := Nat.mod_eq_of_lt k.isLt
    refine ⟨⟨_, rfl, State.inS_land (l := .bexpSet 63) hc rfl (by rintro _ rfl; rfl) (by simp)⟩,
      ⟨_, rfl, State.inS_land (l := .satSet false) hc rfl (by rintro _ rfl; rfl) (by simp)⟩,
      ⟨_, rfl, State.inS_sreg hc (by simp [State.sIllegal, isBranch, isLoop]) ?_⟩, ⟨_, rfl, State.inS_sreg hc (by simp [State.sIllegal, isBranch, isLoop]) ?_⟩⟩
    · rintro _ rfl
      simp only [State.sSlot, State.engine_updEngine_same, sAlu, sImm, hk]
      rfl
    · rintro _ rfl
      rfl
  case tick => exact fun e s hc => ⟨exec_tDone hc, exec_tWait hc⟩
  case nops =>
    intro e s hc i hi
    have h : ∀ f : Bundle → Bundle, f {} = {} → Passes e (s.engine e) s (s.nextPc e) (s.place e false f) := fun f hf => by
      rw [State.place_clear hc, hf]
      exact State.issue_nops hc
    simp only [List.mem_cons, List.not_mem_nil, or_false] at hi
    rcases hi with rfl | rfl | rfl | rfl <;> exact ⟨_, rfl, h _ rfl⟩

end

section
set_option Elab.async false
/-! Loads and stores alone in their bundle (R203–R212, R253–R255). -/

namespace Sys2Proof.Machine

/-- The state in which the slots of a bundle run, its bundle taken. -/
def State.begun (s : State) (e : Nat) : State := s.updEngine e (fun x => { x with openB := {} })

section
variable (s : State) (e a n : Nat) (b : List Byte)

theorem State.engMap_begun : (s.begun e).engMap e a = s.engMap e a := rfl

theorem State.ldLat_begun : (s.begun e).ldLat e a = s.ldLat e a := rfl

theorem State.engine_begun (ho : (s.engine e).openB = {}) : (s.begun e).engine e = s.engine e := by
  rw [State.begun, State.engine_updEngine_same, ← ho]

theorem State.engine_begun_other {k : Nat} (hk : k ≠ e) : (s.begun e).engine k = s.engine k := State.engine_updEngine_other _ _ hk

/-- Taking the bundle leaves all but the engines' bookkeeping. -/
theorem State.begun_withEng : ({ s.begun e with eng := s.eng } : State) = s := by
  unfold State.begun
  apply State.ext <;> simp [State.updEngine]

theorem State.ldmAddr_begun (ho : (s.engine e).openB = {}) (wr : Bool) : (s.begun e).ldmAddr e a wr = s.ldmAddr e a wr := by
  simp only [State.ldmAddr, State.engine_begun s e ho]
  rfl

theorem State.engRead_ldm (hm : s.engMap e a = 0) (ha : a % n = 0) :
    s.engRead e a n = (s, .inl ((s.engine e).ldm.readN (s.ldmAddr e a false) n)) := by
  simp [State.engRead, hm, ha]

theorem State.engRead_cmem (hm : s.engMap e a = 2) (ha : a % n = 0) (hr : ∀ r ∈ (s.engine e).recent, r.2 ≠ a / 32) :
    s.engRead e a n = (s, .inl (s.eng.cmem.readN (e / 32 * 2 ^ 23 + a % 2 ^ 23) n)) := by
  have hany : (s.engine e).recent.any (fun r => r.2 == a / 32) = false := by simpa using hr
  simp [State.engRead, hm, ha, hany]

theorem State.engRead_align (hm : s.engMap e a = 0 ∨ s.engMap e a = 2) (ha : a % n ≠ 0) : s.engRead e a n = (s, .inr 3) := by
  rcases hm with hm | hm <;> simp [State.engRead, hm, ha]

theorem State.engRead_access (hm : s.engMap e a = 1 ∨ s.engMap e a = 3) : s.engRead e a n = (s, .inr 2) := by
  rcases hm with hm | hm <;> simp [State.engRead, hm]

/-- A read that succeeds without a free value is of the local memory, or of cluster memory not stored to lately. -/
theorem State.engRead_inl {s : State} {e a n : Nat} {bs : List Byte} (h : s.engRead e a n = (s, .inl bs)) : a % n = 0 ∧
    (s.engMap e a = 0 ∧ bs = (s.engine e).ldm.readN (s.ldmAddr e a false) n ∨
      s.engMap e a = 2 ∧ (∀ r ∈ (s.engine e).recent, r.2 ≠ a / 32) ∧ bs = s.eng.cmem.readN (e / 32 * 2 ^ 23 + a % 2 ^ 23) n) := by
  have hdrew : s.drew ≠ s := fun hd => absurd (congrArg State.freed hd) (Nat.succ_ne_self _)
  unfold State.engRead at h
  split at h
  next hm =>
    split at h
    · simp at h
    · exact ⟨not_not.1 ‹_›, Or.inl ⟨hm, by simpa using h.symm⟩⟩
  next hm =>
    split at h
    · simp at h
    · split at h
      · exact absurd (congrArg Prod.fst h) hdrew
      · next ha hr => exact ⟨not_not.1 ha, Or.inr ⟨hm, fun r hrm he => hr (List.any_eq_true.2 ⟨r, hrm, beq_iff_eq.2 he⟩), by simpa using h.symm⟩⟩
  next => simp at h

/-- Such a read gives the same within the bundle. -/
theorem State.engRead_begun {s : State} {e a n : Nat} {bs : List Byte} (ho : (s.engine e).openB = {}) (h : s.engRead e a n = (s, .inl bs)) :
    (s.begun e).engRead e a n = (s.begun e, .inl bs) := by
  obtain ⟨ha, ⟨hm, rfl⟩ | ⟨hm, hr, rfl⟩⟩ := State.engRead_inl h
  · rw [State.engRead_ldm (s.begun e) e a n hm ha, State.engine_begun s e ho, State.ldmAddr_begun s e a ho]
  · exact State.engRead_cmem (s.begun e) e a n hm ha (by rwa [State.engine_begun s e ho])

theorem State.engWrite_ldm (hm : s.engMap e a = 0) (ha : a % b.length = 0) (hsp : s.inSpec e = false) :
    s.engWrite e a b = .inl (s.updEngine e (fun x => { x with ldm := x.ldm.writeN (s.ldmAddr e a true) b })) := by
  simp [State.engWrite, hm, ha, hsp]

theorem State.engWrite_cmem (hm : s.engMap e a = 2) (ha : a % b.length = 0) (hsp : s.inSpec e = false) : s.engWrite e a b = .inl
    (let s1 := s.updEngine e (fun x => { x with recent := (0, a / 32) :: x.recent })
     { s1 with eng := { s1.eng with cmem := s1.eng.cmem.writeN (e / 32 * 2 ^ 23 + a % 2 ^ 23) b } }) := by
  simp [State.engWrite, hm, ha, hsp]

theorem State.engWrite_spec (ha : a % b.length = 0) (hsp : s.inSpec e = true)
    (hm : s.engMap e a = 2 ∨ s.engMap e a = 0 ∧ ¬ (0x8000 ≤ a ∧ a < 0xC000)) : s.engWrite e a b = .inr 4 := by
  rcases hm with hm | ⟨hm, hw⟩
  · simp [State.engWrite, hm, ha, hsp]
  · have hw' : (s.isSet (Reg.ENG.STATUS.SPEC_EN e) && decide (0x8000 ≤ a ∧ a < 0xC000)) = false := by rw [decide_eq_false hw, Bool.and_false]
    simp only [State.engWrite, hm, ha, hsp, hw', ne_eq, not_true_eq_false, if_false, Bool.false_eq_true, not_false_eq_true, and_self, if_true]

theorem State.engWrite_align (hm : s.engMap e a = 0 ∨ s.engMap e a = 2) (ha : a % b.length ≠ 0) : s.engWrite e a b = .inr 3 := by
  rcases hm with hm | hm <;> simp [State.engWrite, hm, ha]

theorem State.engWrite_access (hm : s.engMap e a = 1 ∨ s.engMap e a = 3) : s.engWrite e a b = .inr 2 := by
  rcases hm with hm | hm <;> simp [State.engWrite, hm]

/-- What a store leaves of its engine: all that the flow and the results in flight depend on. -/
structure Eng.Stored (x y : Eng) : Prop where
  openB : y.openB = x.openB
  fly : y.fly = x.fly
  br : y.br = x.br
  atom : y.atom = x.atom
  ls : ∀ main, y.ls main = x.ls main

/-- The state with an engine changed and with other cluster memory, as a store leaves it. -/
def State.stored (s : State) (e : Nat) (g : Eng → Eng) (c : Memory) : State :=
  { s with eng := { (s.updEngine e g).eng with cmem := c } }

theorem State.stored_same (s : State) (e : Nat) (g : Eng → Eng) : s.stored e g s.eng.cmem = s.updEngine e g := rfl

/-- A store that succeeds does the same within the bundle as before it. -/
theorem State.engWrite_begun {s w : State} {e a : Nat} {b : List Byte} (ho : (s.engine e).openB = {}) (h : s.engWrite e a b = .inl w) :
    ∃ g c, w = s.stored e g c ∧ (s.begun e).engWrite e a b = .inl ((s.begun e).stored e g c) ∧ ∀ x : Eng, x.Stored (g x) := by
  have heng := State.engine_begun s e ho
  have hmap : (s.begun e).engMap e a = s.engMap e a := rfl
  have haddr := State.ldmAddr_begun s e a ho true
  simp only [State.engWrite, hmap, heng, haddr] at h ⊢
  split at h
  next hm =>
    split at h
    · simp at h
    next ha =>
      split at h
      · simp at h
      next hw =>
        obtain rfl := Sum.inl.inj h
        refine ⟨_, s.eng.cmem, (State.stored_same s e _).symm, ?_, fun x => ⟨rfl, rfl, rfl, rfl, fun _ => rfl⟩⟩
        exact (if_neg ha).trans (if_neg hw)
  next hm =>
    split at h
    · simp at h
    next ha =>
      split at h
      · simp at h
      next hw =>
        obtain rfl := Sum.inl.inj h
        refine ⟨_, _, rfl, ?_, fun x => ⟨rfl, rfl, rfl, rfl, fun _ => rfl⟩⟩
        exact (if_neg ha).trans (if_neg hw)
  next => simp at h

end

/-! ## A load or store alone in its bundle -/

/-- Scalar results that land after a bundle's own cycle, and how far the others have come. -/
theorem Eng.cycled_mixed (x : Eng) {A : List (Nat × Landing)} {l : List Landing} (hA : ∀ f ∈ A, 1 < f.1) (hl : ∀ y ∈ l, ∃ m r w, y = .sreg m r w) :
    ({ x with fly := A ++ l.map (fun y => (1, y)) } : Eng).cycled = l.foldl Eng.land { x with fly := A.map (fun f => (f.1 - 1, f.2)) } ∧
      (A ++ l.map (fun y => (1, y))).filter (fun f : Nat × Landing => decide (f.1 ≤ 1)) = l.map (fun y => (1, y)) := by
  have hA0 : A.filter (fun f : Nat × Landing => decide (f.1 ≤ 1)) = [] := List.filter_eq_nil_iff.2 fun f hf => by
    have := hA f hf
    simp only [decide_eq_true_eq]
    omega
  have hA1 : A.filter (fun f : Nat × Landing => decide (1 < f.1)) = A := List.filter_eq_self.2 fun f hf => decide_eq_true (hA f hf)
  have hl0 : (l.map (fun y => ((1 : Nat), y))).filter (fun f : Nat × Landing => decide (f.1 ≤ 1)) = l.map (fun y => (1, y)) :=
    List.filter_eq_self.2 (by simp)
  have hl1 : (l.map (fun y => ((1 : Nat), y))).filter (fun f : Nat × Landing => decide (1 < f.1)) = [] := List.filter_eq_nil_iff.2 (by simp)
  have hsnd : (l.map (fun y => ((1 : Nat), y))).map (·.2) = l := by simp
  have hearly : l.filter Landing.early = [] := List.filter_eq_nil_iff.2 fun y hy => by
    obtain ⟨m, r, w, rfl⟩ := hl y hy
    simp [Landing.early]
  have hlate : l.filter (fun y => !y.early) = l := List.filter_eq_self.2 fun y hy => by
    obtain ⟨m, r, w, rfl⟩ := hl y hy
    rfl
  have hfil : (A ++ l.map (fun y => (1, y))).filter (fun f : Nat × Landing => decide (f.1 ≤ 1)) = l.map (fun y => (1, y)) := by
    rw [List.filter_append, hA0, hl0, List.nil_append]
  refine ⟨?_, hfil⟩
  have h := Eng.cycled_of_book x x.openB x.fresh x.recent (A ++ l.map (fun y => (1, y)))
  rw [hfil, hsnd, hearly, hlate, List.nil_append, List.filter_append, hA1, hl1, List.append_nil, ← Eng.lands_book] at h
  exact h

theorem State.landIe_sregs {e : Nat} {l : List Landing} (hl : ∀ y ∈ l, ∃ m r w, y = .sreg m r w) : ∀ t : State, t.landIe e l = t := by
  induction l with
  | nil => exact fun _ => rfl
  | cons y l ih =>
    intro t
    obtain ⟨m, r, w, rfl⟩ := hl y (List.mem_cons_self ..)
    exact ih (fun z hz => hl z (List.mem_cons_of_mem _ hz)) t

section
variable {s : State} {e : Nat} {o : SlotOp} {A : List (Nat × Landing)} {l : List Landing} (hc : s.clear e = true) (hd : o.op = 0x03 → o.d ≠ o.m)
  (hA : ∀ f ∈ A, 1 < f.1) (hl : ∀ y ∈ l, ∃ m r w, y = .sreg m r w)
include hc hd hA hl

/-- A load: its results in flight are a cycle older, its increments are written. -/
theorem State.inL_load (hs : (s.begun e).lSlot e o = { st := s.begun e, fly := A ++ l.map (fun y => (1, y)) }) :
    Passes e (l.foldl Eng.land { s.engine e with fly := A.map (fun f => (f.1 - 1, f.2)) }) s (s.nextPc e) (s.inL e false o) := by
  obtain ⟨-, ho, hf, hb, ha, -⟩ := State.clear_iff hc
  have h := State.inL_after hc hd hs (State.engine_begun s e ho) (fun k hk => State.engine_begun_other s e hk) rfl rfl (State.begun_withEng s e) rfl ho
    ⟨hf, hb, ha, rfl⟩
  obtain ⟨hcyc, hfil⟩ := Eng.cycled_mixed (s.engine e) hA hl
  rw [hcyc, hfil] at h
  have hsnd : (l.map (fun y => ((1 : Nat), y))).map (fun f => f.2) = l := by simp
  rwa [hsnd, State.landIe_sregs hl] at h

omit hA
/-- A store: its engine and cluster memory as the access leaves them, its increments written. -/
theorem State.inL_store {g : Eng → Eng} {c : Memory} (hg : ∀ x : Eng, x.Stored (g x))
    (hs : (s.begun e).lSlot e o = { st := (s.begun e).stored e g c, fly := l.map (fun y => (1, y)) }) :
    Passes e (l.foldl Eng.land ((s.stored e g c).engine e)) (s.stored e g c) ((s.stored e g c).nextPc e) (s.inL e false o) := by
  obtain ⟨-, ho, hf, hb, ha, -⟩ := State.clear_iff hc
  obtain ⟨hgo, hgf, hgb, hga, hgl⟩ := hg (s.engine e)
  have heng : (s.stored e g c).engine e = g (s.engine e) := State.engine_updEngine_same s e g
  have hbeg : ((s.begun e).stored e g c).engine e = (s.stored e g c).engine e := by
    rw [heng, ← State.engine_begun s e ho]
    exact State.engine_updEngine_same (s.begun e) e g
  have hoth : ∀ k, k ≠ e → ((s.begun e).stored e g c).engine k = (s.stored e g c).engine k := fun k hk =>
    ((State.engine_updEngine_other (s.begun e) g hk).trans (State.engine_begun_other s e hk)).trans (State.engine_updEngine_other s g hk).symm
  have hrest : ({ (s.begun e).stored e g c with eng := (s.stored e g c).eng } : State) = s.stored e g c := by
    apply State.ext <;> rfl
  rw [← heng] at hgo hgf hgb hga
  have h := State.inL_after (s2 := s.stored e g c) hc hd hs hbeg hoth rfl rfl hrest rfl (hgo.trans ho)
    ⟨hgf.trans hf, hgb.trans hb, hga.trans ha, by rw [heng, hgl]⟩
  obtain ⟨hcyc, hfil⟩ := Eng.cycled_mixed ((s.stored e g c).engine e) (A := []) (fun _ hn => absurd hn List.not_mem_nil) hl
  rw [List.nil_append] at hcyc hfil
  rw [hcyc, hfil] at h
  have hsnd : (l.map (fun y => ((1 : Nat), y))).map (fun f => f.2) = l := by simp
  have hfly : ({ (s.stored e g c).engine e with fly := [] } : Eng) = (s.stored e g c).engine e := by
    rw [← hgf.trans hf]
  rw [hsnd, State.landIe_sregs hl] at h
  rw [← hfly]
  exact h

end

theorem State.ldLat_gt (s : State) (e a : Nat) : 1 < s.ldLat e a := by
  rw [State.ldLat]
  split <;> decide

/-- The effective address of a load or store. -/
theorem sreg_off {s : State} {e A : Nat} {a : BitVec 5} {off : BitVec 15} (h : A = (s.sreg e a + off.signExtend 32).toNat) :
    ((s.engine e).s_ (!s.inHandler e) a.toNat + BitVec.ofInt 32 (signed 15 off.toNat)).toNat = A := by
  rw [h, ofInt_signed]
  rfl

theorem State.inHandler_begun (s : State) (e : Nat) : (s.begun e).inHandler e = s.inHandler e := rfl

section
variable {s : State} {e A : Nat} {d a : BitVec 5} {off : BitVec 15} (hc : s.clear e = true)
include hc

theorem exec_lLd {bs : List Byte} (hA : A = (s.sreg e a + off.signExtend 32).toNat) (hr : s.engRead e A 32 = (s, .inl bs)) :
    ∃ t, exec (.lLd e false d a off) s = .next t ∧
      Passes e { s.engine e with fly := [(s.ldLat e A - 1, .vreg d.toNat (bytesVec bs))] } s (s.nextPc e) t := by
  obtain ⟨-, ho, -⟩ := State.clear_iff hc
  refine ⟨_, rfl, State.inL_load (A := [(s.ldLat e A, .vreg d.toNat (bytesVec bs))]) (l := []) hc (by simp) (by simpa using s.ldLat_gt e A) (by simp) ?_⟩
  simp only [State.lSlot, State.engine_begun s e ho, State.inHandler_begun, sreg_off hA, State.ldVec, State.engRead_begun ho hr, State.ldLat_begun,
    List.map_nil, List.append_nil]

theorem exec_lLdp {bs : List Byte} (hA : A = (s.sreg e a).toNat) (hr : s.engRead e A 32 = (s, .inl bs)) :
    ∃ t, exec (.lLdp e false d a off) s = .next t ∧ Passes e (({ s.engine e with fly := [(s.ldLat e A - 1, .vreg d.toNat (bytesVec bs))] } : Eng).land
      (.sreg (!s.inHandler e) a.toNat (s.sreg e a + off.signExtend 32))) s (s.nextPc e) t := by
  obtain ⟨-, ho, -⟩ := State.clear_iff hc
  refine ⟨_, rfl, State.inL_load (A := [(s.ldLat e A, .vreg d.toNat (bytesVec bs))]) (l := [.sreg (!s.inHandler e) a.toNat (s.sreg e a + off.signExtend 32)])
    hc (by simp) (by simpa using s.ldLat_gt e A) (by simp) ?_⟩
  have hA' : ((s.engine e).s_ (!s.inHandler e) a.toNat).toNat = A := hA.symm
  simp only [State.lSlot, State.engine_begun s e ho, State.inHandler_begun, hA', State.ldVec, State.engRead_begun ho hr, State.ldLat_begun, ofInt_signed]
  rfl

theorem exec_lLds {bs : List Byte} (hA : A = (s.sreg e a + off.signExtend 32).toNat) (hm : s.engMap e A ≠ 1) (hr : s.engRead e A 4 = (s, .inl bs)) :
    ∃ t, exec (.lLds e false d a off) s = .next t ∧ Passes e { s.engine e with
      fly := [(s.ldLat e A - 1, .sreg (!s.inHandler e) d.toNat (BitVec.ofNat 32 (leAt bs 0 4)))] } s (s.nextPc e) t := by
  obtain ⟨-, ho, -⟩ := State.clear_iff hc
  refine ⟨_, rfl, State.inL_load (A := [(s.ldLat e A, .sreg (!s.inHandler e) d.toNat (BitVec.ofNat 32 (leAt bs 0 4)))]) (l := []) hc (by simp)
    (by simpa using s.ldLat_gt e A) (by simp) ?_⟩
  simp only [State.lSlot, State.engine_begun s e ho, State.inHandler_begun, sreg_off hA, State.engMap_begun, if_neg hm, State.engRead_begun ho hr,
    State.ldLat_begun, List.map_nil, List.append_nil]

theorem exec_lLds_window {v : Word} (hA : A = (s.sreg e a + off.signExtend 32).toNat) (hm : s.engMap e A = 1)
    (hr : (s.begun e).winRead e (A - 0x20000) = (s.begun e, .inl v)) :
    ∃ t, exec (.lLds e false d a off) s = .next t ∧ Passes e { s.engine e with fly := [(7, .sreg (!s.inHandler e) d.toNat v)] } s (s.nextPc e) t := by
  obtain ⟨-, ho, -⟩ := State.clear_iff hc
  refine ⟨_, rfl, State.inL_load (A := [(8, .sreg (!s.inHandler e) d.toNat v)]) (l := []) hc (by simp) (by simp) (by simp) ?_⟩
  simp only [State.lSlot, State.engine_begun s e ho, State.inHandler_begun, sreg_off hA, State.engMap_begun, if_pos hm, hr, List.map_nil, List.append_nil]

theorem exec_lSt {w : State} (hA : A = (s.sreg e a + off.signExtend 32).toNat) (hw : s.engWrite e A (toLe 32 (s.vreg e d).toNat) = .inl w) :
    ∃ t, exec (.lSt e false d a off) s = .next t ∧ Passes e (w.engine e) w (w.nextPc e) t := by
  obtain ⟨-, ho, -⟩ := State.clear_iff hc
  obtain ⟨g, c, rfl, hbeg, hg⟩ := State.engWrite_begun ho hw
  rw [State.vreg] at hbeg
  refine ⟨_, rfl, State.inL_store (l := []) hc (by simp) (by simp) hg ?_⟩
  simp only [State.lSlot, State.engine_begun s e ho, State.inHandler_begun, sreg_off hA, State.stVec, hbeg, List.map_nil]

theorem exec_lStp {w : State} (hA : A = (s.sreg e a).toNat) (hw : s.engWrite e A (toLe 32 (s.vreg e d).toNat) = .inl w) :
    ∃ t, exec (.lStp e false d a off) s = .next t ∧
      Passes e ((w.engine e).land (.sreg (!s.inHandler e) a.toNat (s.sreg e a + off.signExtend 32))) w (w.nextPc e) t := by
  obtain ⟨-, ho, -⟩ := State.clear_iff hc
  obtain ⟨g, c, rfl, hbeg, hg⟩ := State.engWrite_begun ho hw
  rw [State.vreg] at hbeg
  have hA' : ((s.engine e).s_ (!s.inHandler e) a.toNat).toNat = A := hA.symm
  refine ⟨_, rfl, State.inL_store (l := [.sreg (!s.inHandler e) a.toNat (s.sreg e a + off.signExtend 32)]) hc (by simp) (by simp) hg ?_⟩
  simp only [State.lSlot, State.engine_begun s e ho, State.inHandler_begun, hA', State.stVec, hbeg, ofInt_signed]
  rfl

theorem exec_lSts {w : State} (hA : A = (s.sreg e a + off.signExtend 32).toNat) (hm : s.engMap e A ≠ 1)
    (hw : s.engWrite e A (toLe 4 (s.sreg e d).toNat) = .inl w) :
    ∃ t, exec (.lSts e false d a off) s = .next t ∧ Passes e (w.engine e) w (w.nextPc e) t := by
  obtain ⟨-, ho, -⟩ := State.clear_iff hc
  obtain ⟨g, c, rfl, hbeg, hg⟩ := State.engWrite_begun ho hw
  rw [State.sreg] at hbeg
  refine ⟨_, rfl, State.inL_store (l := []) hc (by simp) (by simp) hg ?_⟩
  simp only [State.lSlot, State.engine_begun s e ho, State.inHandler_begun, sreg_off hA, State.engMap_begun, if_neg hm, hbeg, List.map_nil]

omit off A
theorem exec_lLd2 {d2 b : BitVec 5} {inc : BitVec 2} (hdd : d ≠ d2) (hma : s.engMap e (s.sreg e a).toNat = 0) (hmb : s.engMap e (s.sreg e b).toNat = 0)
    (ha : (s.sreg e a).toNat % 32 = 0) (hb : (s.sreg e b).toNat % 32 = 0) :
    ∃ t, exec (.lLd2 e false d d2 a b inc) s = .next t ∧
      Passes e (((if inc.getLsbD 0 then [Landing.sreg (!s.inHandler e) a.toNat (s.sreg e a + 32)] else []) ++
          (if inc.getLsbD 1 then [Landing.sreg (!s.inHandler e) b.toNat (s.sreg e b + 32)] else [])).foldl Eng.land
        { s.engine e with fly := [(2, .vreg d.toNat (bytesVec ((s.engine e).ldm.readN (s.ldmAddr e (s.sreg e a).toNat false) 32))),
          (2, .vreg d2.toNat (bytesVec ((s.engine e).ldm.readN (s.ldmAddr e (s.sreg e b).toNat false) 32)))] }) s (s.nextPc e) t := by
  obtain ⟨-, ho, -⟩ := State.clear_iff hc
  have hbit : ∀ i, bit inc.toNat i = inc.getLsbD i := fun i => bit_eq_testBit _ _
  have hd : d.toNat ≠ d2.toNat := by simpa [BitVec.toNat_inj] using hdd
  refine ⟨_, rfl, State.inL_load (A := [(3, .vreg d.toNat (bytesVec ((s.engine e).ldm.readN (s.ldmAddr e (s.sreg e a).toNat false) 32))),
      (3, .vreg d2.toNat (bytesVec ((s.engine e).ldm.readN (s.ldmAddr e (s.sreg e b).toNat false) 32)))])
    (l := (if inc.getLsbD 0 then [Landing.sreg (!s.inHandler e) a.toNat (s.sreg e a + 32)] else []) ++
      (if inc.getLsbD 1 then [Landing.sreg (!s.inHandler e) b.toNat (s.sreg e b + 32)] else [])) hc (fun _ => hd) (by simp) ?_ ?_⟩
  · cases inc.getLsbD 0 <;> cases inc.getLsbD 1 <;> simp
  · rw [State.sreg] at hma hmb ha hb
    simp only [State.lSlot, State.engine_begun s e ho, State.inHandler_begun, State.engMap_begun, hma, hmb, ha, hb, ne_eq, not_true_eq_false, if_false,
      State.ldmAddr_begun s e _ ho, hbit, List.map_append, apply_ite (List.map _), List.map_cons, List.map_nil, List.append_assoc]
    rfl

end

end Sys2Proof.Machine

open Sys2Proof Sys2Proof.Machine

/-- Settles O25: each operation by what its access reads or leaves, and the accesses by the map, alignment and SPEC state. -/
theorem engineLoadsAndStores : Obligations.EngineLoadsAndStores := by
  unfold Obligations.EngineLoadsAndStores
  refine ⟨?ld, ?ldp, ?lds, ?ldsWindow, ?ld2, ?st, ?stp, ?sts, ?reads, ?writes⟩
  case ld => exact fun e A d a off bs s hc hA hr => exec_lLd hc hA hr
  case ldp => exact fun e A d a off bs s hc hA hr => exec_lLdp hc hA hr
  case lds => exact fun e A d a off bs s hc hA hm hr => exec_lLds hc hA hm hr
  case ldsWindow =>
    rintro e A d a off v s _ hc hA hm rfl hr
    exact exec_lLds_window hc hA hm hr
  case ld2 => exact fun e d d2 a b inc s hc hdd hma hmb ha hb => exec_lLd2 hc hdd hma hmb ha hb
  case st => exact fun e A d a off s w hc hA hw => exec_lSt hc hA hw
  case stp => exact fun e A d a off s w hc hA hw => exec_lStp hc hA hw
  case sts => exact fun e A d a off s w hc hA hm hw => exec_lSts hc hA hm hw
  case reads =>
    exact fun e a n s => ⟨State.engRead_ldm s e a n, State.engRead_cmem s e a n, State.engRead_align s e a n, State.engRead_access s e a n⟩
  case writes =>
    intro e a b s
    refine ⟨State.engWrite_ldm s e a b, fun hm ha hsp hw => State.engWrite_spec s e a b ha hsp (Or.inr ⟨hm, hw⟩), fun hm ha hsp => ?_,
      fun hm ha hsp => State.engWrite_spec s e a b ha hsp (Or.inl hm), State.engWrite_align s e a b, State.engWrite_access s e a b⟩
    refine ⟨_, State.engWrite_cmem s e a b hm ha hsp, rfl, rfl, ?_⟩
    have h := State.engine_updEngine_same s e (fun x => { x with recent := (0, a / 32) :: x.recent })
    exact (congrArg Eng.ldm h :)

end

section
set_option Elab.async false
/-! Vector operations alone in their bundle, and their results as they land (R249, R250). -/

namespace Sys2Proof.Machine

/-- A vector result that lands: its lanes, the sticky saturation and the fold into the block exponent. -/
theorem Eng.cycled_vLand {x : Eng} {d : Nat} {bx : Bool} {r : VRes} (h : x.fly = vLand 1 d bx r) : x.cycled =
    { x with
      vreg := SMap.set (fun _ => 0) x.vreg d (packLanes r.w r.done), sat := x.sat || (r.sat && r.done != r.l),
      bexp := if bx then min x.bexp (rsbMin r.w r.done) else x.bexp, fly := [] } := by
  rw [Eng.cycled, h, vLand]
  cases r.sat && r.done != r.l <;> cases bx <;> simp [Landing.early, Eng.land]

end Sys2Proof.Machine

open Sys2Proof Sys2Proof.Machine

/-- Settles O26: each operation by the lanes its row computes, and a result as it lands. -/
theorem engineVectorResults : Obligations.EngineVectorResults := by
  unfold Obligations.EngineVectorResults
  refine ⟨?plain, ?shifts, ?cat, ?clipu, ?packs, ?lands⟩
  case plain =>
    intro e m d a b n sat rnd bx s hc hm p hp
    have hm3 : m.toNat ≠ 3 := by simpa [← BitVec.toNat_inj] using hm
    simp only [List.mem_cons, List.not_mem_nil, or_false] at hp
    rcases hp with rfl | rfl | rfl | rfl | rfl | rfl | rfl | rfl | rfl | rfl | rfl | rfl | rfl | rfl | rfl | rfl <;>
      exact ⟨_, rfl, State.inV_only hc (by simp) (by simp [vIllegal, hm3]) rfl⟩
  case shifts =>
    intro e m d a n rnd bx s hc hm hn p hp
    have hm3 : m.toNat ≠ 3 := by simpa [← BitVec.toNat_inj] using hm
    simp only [List.mem_cons, List.not_mem_nil, or_false] at hp
    rcases hp with rfl | rfl | rfl <;> exact ⟨_, rfl, State.inV_only hc (by simp) (by simp [vIllegal, hm3, hn]) rfl⟩
  case cat =>
    intro e m d a b n s hc hm hn
    have hm3 : m.toNat ≠ 3 := by simpa [← BitVec.toNat_inj] using hm
    exact ⟨_, rfl, State.inV_only hc (by simp) (by simp [vIllegal, hm3, hn]) rfl⟩
  case clipu =>
    intro e m d a n s hc hm h1 hn
    have hm3 : m.toNat ≠ 3 := by simpa [← BitVec.toNat_inj] using hm
    exact ⟨_, rfl, State.inV_only hc (by simp) (by simp [vIllegal, hm3, hn, Nat.ne_of_gt h1]) rfl⟩
  case packs =>
    intro e m d a b n bx s hc hm hm1 hn
    have hm3 : m.toNat ≠ 3 := by simpa [← BitVec.toNat_inj] using hm
    have hm1' : m.toNat ≠ 1 := by simpa [← BitVec.toNat_inj] using hm1
    exact ⟨⟨_, rfl, State.inV_only hc (by simp) (by simp [vIllegal, hm3, hm1']) rfl⟩,
      ⟨_, rfl, State.inV_only hc (by simp) (by simp [vIllegal, hm3, hm1', hn]) rfl⟩⟩
  case lands =>
    intro e d bx r s hf
    rw [State.engine_engCycle, Eng.cycled_vLand hf]
    exact ⟨SMap.get_set_same _ _ _ _, fun k hk => SMap.get_set_other _ _ _ hk, rfl, rfl, rfl⟩

end

section
set_option Elab.async false
/-! Multiply-accumulate operations alone in their bundle, and accumulators written (R251). -/

namespace Sys2Proof.Machine

/-- A legal multiply-accumulate operation alone in its bundle with one result: it lands three bundles later. -/
theorem State.inM_one {s : State} {e : Nat} {o : SlotOp} {l : Landing} (hc : s.clear e = true) (hi : mIllegal o = false)
    (hm : ∀ t : State, t = s.updEngine e (fun x => { x with openB := {} }) → t.mSlot e o = [(4, l)]) :
    Passes e { s.engine e with fly := [(3, l)] } s (s.nextPc e) (s.inM e false o) := by
  have hil : s.illegal e { m := o } = false := by
    simp [State.illegal, clash_m, hi, vIllegal_nop, State.sIllegal_nop, State.placeIllegal_clear hc]
  have h := State.issue_later (b := { m := o }) hc hil rfl rfl (fun t _ => State.vSlot_nop t e) hm (by simp)
  rw [State.inM, State.place_clear hc]
  exact h

/-- What a multiply-accumulate slot computes does not look at the bundle. -/
theorem State.mSlot_openB (s : State) (e : Nat) (o : SlotOp) : (s.updEngine e (fun x => { x with openB := {} })).mSlot e o = s.mSlot e o := by
  unfold State.mSlot
  simp only [State.engine_updEngine_same]
  rfl

/-- An accumulator written: its lanes saturated, the sticky saturation and the fold; the other accumulators and the vectors stay. -/
theorem Eng.landAcc_facts (x : Eng) (r : Nat) (l : List Int) (bx : Bool) : (x.landAcc r l bx).accum r = l.map sat48 ∧
    (∀ k, k ≠ r → (x.landAcc r l bx).accum k = x.accum k) ∧ (x.landAcc r l bx).sat = (x.sat || l.any (fun v => v != sat48 v)) ∧
    (x.landAcc r l bx).bexp = (if bx then min x.bexp (rsbMin 48 (l.map sat48)) else x.bexp) ∧ ∀ k, (x.landAcc r l bx).vec_ k = x.vec_ k := by
  cases bx <;> exact ⟨SMap.get_set_same _ _ _ _, fun k hk => SMap.get_set_other _ _ _ hk, rfl, rfl, fun _ => rfl⟩

end Sys2Proof.Machine

open Sys2Proof Sys2Proof.Machine

/-- Settles O27: each operation by the result its row computes, and what an accumulator keeps of what is written. -/
theorem engineMacResults : Obligations.EngineMacResults := by
  unfold Obligations.EngineMacResults
  refine ⟨?accumulate, ?extract, ?parts, ?written⟩
  case accumulate =>
    intro e ad ac a b j pair bx s hc p hp
    simp only [List.mem_cons, List.not_mem_nil, or_false] at hp
    rcases hp with rfl | rfl | rfl | rfl | rfl | rfl | rfl <;>
    · refine ⟨_, rfl, State.inM_one hc rfl ?_⟩
      rintro _ rfl
      exact s.mSlot_openB e _
  case extract => exact fun e d b ac n bx s hc hn => ⟨exec_mExt hc d ac bx hn, exec_mExtr hc d ac b bx⟩
  case parts =>
    intro e d ac q s hc hq
    have hq2 : q.toNat ≤ 2 := by
      have h3 : q.toNat ≠ 3 := by simpa [← BitVec.toNat_inj] using hq
      omega
    refine ⟨⟨_, rfl, State.inM_only hc (by simpa [mIllegal] using hq2) ?_⟩, ⟨_, rfl, State.inM_one hc (by simpa [mIllegal] using hq2) ?_⟩⟩ <;>
    · rintro _ rfl
      exact s.mSlot_openB e _
  case written =>
    intro x r l bx
    obtain ⟨hacc, hoth, hsat, hbexp, hvec⟩ := x.landAcc_facts r l bx
    obtain ⟨hacc', hoth', -⟩ := x.landAcc_facts r (List.zipWith (· + ·) (x.accum r) l) bx
    exact ⟨hacc, hacc', fun k hk => ⟨hoth k hk, hoth' k hk⟩, hsat, hbexp.trans (by rw [← hacc]; rfl), hvec⟩

end

section
set_option Elab.async false
/-! Bundles put together, what is ILLEGAL, exceptions, stepping and injection (R198, R237, R242–R258, R540). -/

namespace Sys2Proof.Machine

/-! ## Putting a bundle together -/

theorem State.place_more {s : State} {e : Nat} (h : s.mayIssue e = true) (f : Bundle → Bundle) :
    s.place e true f = s.updEngine e (fun x => { x with openB := f (s.engine e).openB }) := by
  simp [State.place, h]

theorem State.place_last {s : State} {e : Nat} (h : s.mayIssue e = true) (f : Bundle → Bundle) : s.place e false f = s.issue e (f (s.engine e).openB) := by
  simp [State.place, h]

theorem State.place_not {s : State} {e : Nat} (h : s.mayIssue e = false) (more : Bool) (f : Bundle → Bundle) : s.place e more f = s := by
  simp [State.place, h]

/-! ## Mail lost with an engine leaves the registers of the engines -/

/-- A register of a cluster below its mailboxes and locks. -/
def cluLow (o : Nat) : Prop := ∃ c x, o = cluBase c + x ∧ x < 0x2000

/-- The registers of the clusters below the mailboxes are the same. -/
def State.SameLow (s t : State) : Prop := ∀ g : Fld, cluLow g.off → t.rd g = s.rd g

/-- A half among the mailboxes of a cluster. -/
def HalfAt.high (h : HalfAt) : Prop := ∃ c x, h.base = cluBase c + x ∧ 0x2000 ≤ x ∧ x + 0x50 ≤ 0x7000

theorem c2eHalf_high (e : Nat) : (c2eHalf e).high ∧ (⟨.e2c, (c2eHalf e).base + 0x80, e⟩ : HalfAt).high := by
  have hr : e % 32 < 32 := Nat.mod_lt _ (by decide)
  exact ⟨⟨e / 32, 0x2080 + 0x200 * (e % 32), by simp only [c2eHalf]; omega, by omega, by omega⟩,
    ⟨e / 32, 0x2100 + 0x200 * (e % 32), by simp only [c2eHalf]; omega, by omega, by omega⟩⟩

theorem e2eHalf_high (e : Nat) : (e2eHalf e).high := by
  have hr : e % 32 < 32 := Nat.mod_lt _ (by decide)
  exact ⟨e / 32, 0x6000 + 0x50 * (e % 32), by simp only [e2eHalf]; omega, by omega, by omega⟩

theorem State.SameLow.refl (s : State) : s.SameLow s := fun _ _ => rfl

theorem State.SameLow.trans {s t u : State} (h : s.SameLow t) (k : t.SameLow u) : s.SameLow u := fun g hg => (k g hg).trans (h g hg)

theorem State.sameLow_of_regs {s t : State} (h : t.regs = s.regs) : s.SameLow t := fun g _ => State.rd_congr h g

/-- A register within a half is not one of those below. -/
theorem cluLow.ne_half {o r : Nat} {h : HalfAt} (ho : cluLow o) (hh : h.high) (hr : h.base ≤ r ∧ r < h.base + 0x50) : o ≠ r := by
  obtain ⟨c, x, rfl, hx⟩ := ho
  obtain ⟨c', x', hb, hlo, hhi⟩ := hh
  simp only [cluBase] at hb ⊢
  omega

theorem State.sameLow_wr (s : State) {h : HalfAt} (hh : h.high) {f : Fld} (v : Nat) (hf : h.base ≤ f.off ∧ f.off < h.base + 0x50) : s.SameLow (s.wr f v) :=
  fun _ hg => State.rd_wr_other _ _ (hg.ne_half hh hf)

theorem State.sameLow_addBells (s : State) {h : HalfAt} (hh : h.high) (b : Nat) : s.SameLow (s.addBells h b) := by
  unfold State.addBells State.ringEngine
  refine (s.sameLow_wr hh (f := h.bell) (s.rd h.bell ||| b) (by simp [HalfAt.bell])).trans ?_
  split
  · split
    · exact .refl _
    · exact State.sameLow_of_regs rfl
  · split
    · exact .refl _
    · exact State.sameLow_of_regs rfl
  · exact .refl _

theorem State.sameLow_bell29 (s : State) (h : HalfAt) : s.SameLow (s.bell29 h) := by
  rw [State.bell29]
  split
  · exact s.sameLow_addBells (c2eHalf_high _).1 _
  · split
    · exact s.sameLow_addBells (c2eHalf_high _).1 _
    · exact .refl s
  · exact .refl s

theorem State.sameLow_uncross (s : State) {h : HalfAt} (hh : h.high) (o p : Option HalfAt) (hp : ∀ x, p = some x → x.high) : s.SameLow (s.uncross h o p) := by
  rw [State.uncross]
  split
  · exact .refl s
  · refine (s.sameLow_wr hh (f := h.cross) 0 (by simp [HalfAt.cross])).trans ?_
    dsimp only
    split
    · split
      · exact .refl _
      · exact State.sameLow_wr _ (hp _ rfl) (f := HalfAt.cross _) 0 (by simp [HalfAt.cross])
    · exact .refl _

theorem State.sameLow_ackHalf (s : State) {h : HalfAt} (hh : h.high) (hp : ∀ x, s.crossPeer h = some x → x.high) (c : Nat) (d : Bool) :
    s.SameLow (s.ackHalf h c d) := by
  unfold State.ackHalf
  extract_lets other peer s1 s2 s3
  have hset : s.SameLow (s.setReg (h.base + 0x48) (BitVec.ofNat 32 (2 ^ 31 + c % 2 ^ 16))) :=
    fun _ hg => State.rd_setReg_other _ _ (hg.ne_half hh ⟨Nat.le_add_right _ _, Nat.add_lt_add_left (by decide) _⟩)
  have h1 : s.SameLow s1 := hset.trans (State.sameLow_bell29 _ h)
  have h2 : s1.SameLow s2 := ((s1.sameLow_wr hh 0 (by simp [HalfAt.pending])).trans (State.sameLow_wr _ hh 1 (by simp [HalfAt.acked]))).trans
    (State.sameLow_wr _ hh _ (by simp [HalfAt.timeout]))
  have h3 : s2.SameLow s3 := by
    simp only [s3]
    split
    · exact State.sameLow_wr _ hh 0 (by simp)
    · exact .refl _
  exact (((h1.trans h2).trans h3).trans ((s3.sameLow_uncross hh other peer hp).trans (State.sameLow_wr _ hh 0 (by simp [HalfAt.busy])))).trans
    (State.sameLow_wr _ hh 0 (by simp [HalfAt.owner]))

theorem State.sameLow_engMailLost (s : State) (e : Nat) : s.SameLow (s.engMailLost e) := by
  have hc2e : ∀ u : State, u.SameLow (u.ackHalf (c2eHalf e) 0xFFFD true) := fun u => by
    refine u.sameLow_ackHalf (c2eHalf_high e).1 (fun x hx => ?_) _ _
    obtain rfl := Option.some.inj hx
    exact (c2eHalf_high e).2
  have he2e : ∀ u : State, u.SameLow (u.ackHalf (e2eHalf e) 0xFFFD true) := fun u => by
    refine u.sameLow_ackHalf (e2eHalf_high e) (fun x hx => ?_) _ _
    have hx' : (if u.rd (e2eHalf e).owner < 16 then none else some (e2eHalf (u.rd (e2eHalf e).owner - 16))) = some x := hx
    split at hx'
    · simp at hx'
    · obtain rfl := Option.some.inj hx'
      exact e2eHalf_high _
  have hif : ∀ (u v : State) (b : Bool), u.SameLow v → u.SameLow (if b then v else u) := fun u v b h => by
    cases b
    · exact .refl u
    · exact h
  exact (hif s _ _ (hc2e s)).trans (hif _ _ _ (he2e _))

/-- Locks orphaned leave those registers. -/
theorem State.sameLow_orphan (s : State) (m : Nat) : s.SameLow (s.orphan m) := by
  have hstep : ∀ (l : List Nat), (∀ o ∈ l, lockOff o = true) → ∀ t : State,
      t.SameLow (l.foldl (fun t o => (t.setReg o 0).bump (lockOrphans o)) t) := by
    intro l
    induction l with
    | nil => exact fun _ t => .refl t
    | cons o l ih =>
      intro hl t
      refine State.SameLow.trans (fun g hg => ?_) (ih (fun x hx => hl x (List.mem_cons_of_mem _ hx)) _)
      obtain ⟨c, x, hgx, hx⟩ := hg
      simp only [cluBase] at hgx
      have ho := hl o (List.mem_cons_self ..)
      simp only [lockOff, Bool.or_eq_true, decide_eq_true_eq] at ho
      have hne : g.off ≠ (lockOrphans o).off := by
        simp only [lockOrphans]
        split
        · simp only [Reg.LOCKS.STATUS.ORPHAN_CNT, Reg.LOCKS.STATUS]; omega
        · simp only [Reg.CLU.LOCK_STATUS.ORPHAN_CNT, Reg.CLU.LOCK_STATUS]; omega
      show ((t.setReg o 0).bump (lockOrphans o)).rd g = t.rd g
      rw [State.bump, State.rd_wr_other _ _ hne, State.rd_setReg_other _ _ (show g.off ≠ o by omega)]
  refine hstep _ (fun o ho => ?_) s
  obtain ⟨p, hp, rfl⟩ := List.mem_map.1 ho
  have := (List.mem_filter.1 hp).2
  simp only [Bool.and_eq_true] at this
  exact this.1

/-! ## Exceptions -/

theorem cluLow_engine (e k : Nat) (hk : k < 0x40) : cluLow (0x1001000 + k + 0x200000 * (e / 32) + 0x40 * (e % 32)) := by
  have hr : e % 32 < 32 := Nat.mod_lt _ (by decide)
  exact ⟨e / 32, 0x1000 + k + 0x40 * (e % 32), by simp only [cluBase]; omega, by omega⟩

/-- An engine that faults keeps the cause recorded. -/
theorem State.engCause_setEngState (s : State) (e x : Nat) :
    (s.setEngState e x).rd (Reg.ENG.FAULT.CAUSE e) = s.rd (Reg.ENG.FAULT.CAUSE e) := by
  have hlow : cluLow (Reg.ENG.FAULT.CAUSE e).off := cluLow_engine e 8 (by decide)
  have hne : (Reg.ENG.FAULT.CAUSE e).off ≠ (Reg.ENG.STATUS.STATE e).off := by
    simp only [Reg.ENG.FAULT.CAUSE, Reg.ENG.FAULT, Reg.ENG.STATUS.STATE, Reg.ENG.STATUS]
    omega
  rw [State.setEngState, State.rd_wr_other _ _ hne]
  split
  · rw [State.sameLow_engMailLost _ _ _ hlow, State.sameLow_orphan _ _ _ hlow]
  · rfl

/-- What the record of an exception reads. -/
theorem State.engCause_facts (s : State) (e c pc a : Nat) : (s.engCause e c pc a).rd (Reg.ENG.FAULT.CAUSE e) = c % 2 ^ (Reg.ENG.FAULT.CAUSE e).w ∧
    (s.engCause e c pc a).rd (Reg.ENG.FAULT.PC e) = pc % 2 ^ (Reg.ENG.FAULT.PC e).w ∧ (s.engCause e c pc a).isSet (Reg.ENG.FAULT.PEND e) = true := by
  have hne : Reg.ENG.FAULT e ≠ Reg.ENG.FAULT_ADDR e := by
    simp only [Reg.ENG.FAULT, Reg.ENG.FAULT_ADDR]
    omega
  have hf : ∀ {f : Fld}, f.off = Reg.ENG.FAULT e → (s.engCause e c pc a).rd f =
      (((s.wr (Reg.ENG.FAULT.CAUSE e) c).wr (Reg.ENG.FAULT.PEND e) 1).wr (Reg.ENG.FAULT.PC e) pc).rd f := fun h =>
    State.rd_wr_other _ _ (by rw [h]; exact hne)
  refine ⟨?_, ?_, ?_⟩
  · rw [hf rfl, State.rd_wr_apart _ _ rfl (Or.inl (of_decide_eq_true rfl)), State.rd_wr_apart _ _ rfl (Or.inl (of_decide_eq_true rfl)),
      State.rd_wr_same _ _ _ rfl]
  · rw [hf rfl, State.rd_wr_same _ _ _ rfl]
  · rw [State.isSet, hf rfl, State.rd_wr_apart _ _ rfl (Or.inl (of_decide_eq_true rfl)), State.rd_wr_same _ _ _ rfl]
    rfl

/-- A register written whole reads the value. -/
theorem State.reg_of_rd {s : State} {o a : Nat} (h : s.rd ⟨o, 0, 32⟩ = a % 2 ^ 32) : s.reg o = BitVec.ofNat 32 a := by
  refine BitVec.eq_of_toNat_eq ?_
  rw [BitVec.toNat_ofNat, ← h]
  simp only [State.rd, Word.field, Nat.pow_zero, Nat.div_one]
  exact (Nat.mod_eq_of_lt (s.reg o).isLt).symm

end Sys2Proof.Machine

open Sys2Proof Sys2Proof.Machine

/-- Settles O30: how a bundle is put together, what makes one illegal, what an exception records, and stepping and injection. -/
theorem engineBundles : Obligations.EngineBundles := by
  unfold Obligations.EngineBundles
  refine ⟨?joins, ?waits, ?illegal, ?exception, ?double, ?step, ?inject⟩
  case joins =>
    exact fun e o s h => ⟨State.place_more h _, State.place_more h _, State.place_more h _, State.place_more h _, State.place_last h _,
      State.place_last h _, State.place_last h _, State.place_last h _⟩
  case waits => exact fun e more o s h => ⟨State.place_not h _ _, State.place_not h _ _, State.place_not h _ _, State.place_not h _ _⟩
  case illegal =>
    intro e o p s
    refine ⟨fun h hm => ?_, fun h hn => ?_, fun h hn => ?_, fun h1 h2 hp hd => ?_, fun h hn => ?_, fun h ha => ?_⟩
    · simp [vIllegal, h, hm]
    · simp [vIllegal, h, hn]
    · simp [mIllegal, h, hn]
    · have hs : sDests o = [o.d] := by simp [sDests, h1, h2]
      simp [clash, hs, lDestsS, hp, hd]
    · simp [State.sIllegal, isBranch, brTarget, h, hn]
    · simp [State.placeIllegal, h, ha]
  case exception =>
    intro e c pc a s hh _
    have hexc : s.engExc e c pc a = (s.engCause e c pc a).updEngine e (fun x => { x with exc := some c }) := if_neg (by simp [hh])
    obtain ⟨h1, h2, h3⟩ := s.engCause_facts e c pc a
    rw [hexc]
    refine ⟨(State.rd_updEngine ..).trans h1, (State.rd_updEngine ..).trans h2, by rwa [State.isSet, State.rd_updEngine], ?_, State.reg_of_rd ?_⟩
    · rw [State.engine_updEngine_same]
    · rw [State.rd_updEngine]
      exact State.rd_wr_same _ _ _ rfl
  case double =>
    intro e c pc a s hh
    have hexc : s.engExc e c pc a = (s.engCause e 7 pc a).setEngState e engFaulted := if_pos hh
    rw [hexc, State.engState_setEngState, State.engCause_setEngState, (s.engCause_facts e 7 pc a).1]
    exact ⟨rfl, rfl⟩
  case step =>
    intro m e s he hp ho hs
    refine ⟨⟨_, congrArg Host.Outcome.next (if_pos he), rfl⟩, ⟨_, congrArg Host.Outcome.next (if_pos he), rfl⟩, ?_⟩
    rw [State.step1, if_pos ⟨hp, ho, hs⟩]
  case inject =>
    intro e s hp ho hs hd
    rw [State.inject, if_pos ⟨hp, ho, hs⟩]
    simp only [hd]

end
